-- ==== Sys2Proof/Word.lean ====
section
/-! DEFINITION. The words of the register map and of carts, and their plainest arithmetic. -/

namespace Sys2Proof

/-- A register dword (R283). -/
abbrev Word := BitVec 32

/-- A cart word (R272). -/
abbrev Quad := BitVec 64

/-- A byte of flash, of an endpoint setting or of a link frame. -/
abbrev Byte := BitVec 8

/-- Bits hi down to lo of a word, as a number. -/
def Word.bits (w : Word) (hi lo : Nat) : Nat := w.toNat / 2 ^ lo % 2 ^ (hi + 1 - lo)

/-- The word with bits hi down to lo replaced by a number, taken modulo the width of the field. -/
def Word.withBits (w : Word) (hi lo : Nat) (v : Nat) : Word :=
  BitVec.ofNat 32 (w.toNat - Word.bits w hi lo * 2 ^ lo + v % 2 ^ (hi + 1 - lo) * 2 ^ lo)

end Sys2Proof
end

