-- ==== Sys2Proof/Syntax.lean ====
section
/-! DEFINITION. The commands of the block: one constructor for each row of spec/opcode_table.json, with what its sender
decides as operands. -/

namespace Sys2Proof

abbrev DoorNo := Fin 4
abbrev ChNo := Fin 48
abbrev WheelNo := Fin 48
abbrev LinkNo := Fin 16
abbrev DrvNo := Fin 64
abbrev AdcNo := Fin 8
abbrev TmrNo := Fin 32
abbrev DmaNo := Fin 32
abbrev CoachNo := Fin 2048
abbrev Handle := Fin 131072
abbrev SrcNo := Fin 16384
/-- Sub-tick of an event in the current tick (R7). -/
abbrev SubTick := Fin 128

/-- The two core PLLs (R44). -/
inductive Pll | a | b
deriving DecidableEq, Repr

/-- The two BARs a door addresses (R279). -/
inductive Space | bar0 | bar2
deriving DecidableEq, Repr

/-- The form of a BAR0 write (R283): aligned 32-bit, aligned 64-bit, or any other. -/
inductive WriteForm | w32 | w64 | other
deriving DecidableEq, Repr

/-- The functions that the fault manager or a host shutters page by page (Table 15-3), timers and DMA channels too. -/
inductive FnKind | inp | whl | lnk | drv | adc | tmr | dma
deriving DecidableEq, Repr

/-- The monitors of a fault domain (R383). -/
inductive DomCause | supply | clock | bcast
deriving DecidableEq, Repr

/-- R340: the side of a bus error. -/
inductive BusSide | source | destination
deriving DecidableEq, Repr

/-- R340: the kind of a bus error. -/
inductive BusKind | ur | ca | poisoned | timeout | door
deriving DecidableEq, Repr

/-- The words of a carriage, each with a code of its own (R170). -/
inductive CarriageWord
  | matchWord
  | payload
  | passState
deriving DecidableEq, Repr

/-- A read of a carriage word that finds an ECC error (R183). -/
structure EccFinding where
  coach : CoachNo
  entry : Fin 128
  word : CarriageWord
  uncorrectable : Bool
deriving DecidableEq, Repr

/-- Twin records that differ (R178, R179): whether the twins' live words agree, whose record differs from the
arbiter's, and whether the two halves of the arbiter agree. -/
structure DisputeFinding where
  handle : Handle
  wordsAgree : Bool
  driverWrong : Bool
  checkerWrong : Bool
  arbiterAgrees : Bool
deriving DecidableEq, Repr

/-- A pin that shows a new level: the level, and for how many cycles of 640 MHz it has shown it (R80). -/
structure PinMove where
  level : Bool
  held : Nat
deriving DecidableEq, Repr

/-- Why a record is lost (R420). -/
inductive LossReason | shed | input | media
deriving DecidableEq, Repr

/-- What the storage side of the recorder does in a tick, which R33 leaves outside the contract (R275, R276, R419, R420): it
writes a unit of a class, of so many carts, at a volume address (or the second copy of the last one); a volume epoch of a
class's volume starts; records of a class are lost, so many after leaving so many of those that wait. -/
inductive StoreEvent
  | unit (cls : Fin 8) (copy : Bool) (addr : BitVec 48) (session : Word) (size : Nat)
  | volume (cls : Fin 8) (volId : Word)
  | lose (cls : Fin 8) (reason : LossReason) (after n : Nat)
deriving DecidableEq, Repr

/-- What the device observes in one tick besides the inputs that have a row of their own: VCORE_OK at the boundary
(R72), ECC findings of the scan and the scrub (R183, R184), disputes (R178), live configurations whose parity fails
(R378), what the recorder's storage side does (R420). -/
structure TickObs where
  vcoreOk : Bool
  ecc : List EccFinding
  disputes : List DisputeFinding
  parity : List (FnKind × Fin 64)
  store : List StoreEvent
deriving DecidableEq, Repr

/-- A symbol of the line as a receiver decodes it (R207, R209): a data byte, a control byte, or a violation of the code or of the running
disparity. -/
inductive Symbol
  | data (b : Byte)
  | control (b : Byte)
  | violation
deriving DecidableEq, Repr

/-- What a receiver has at the time an UP frame is due (R228): nothing, or the symbols of a frame. -/
inductive UpFrame
  | missing
  | received (symbols : List Symbol)
deriving DecidableEq, Repr

/-- The answer of a node to ECHO (R214, R215): the measured round trip in st and HOLD_TIME, for port P and for port Q where each was
measured. -/
structure NodeFinding where
  node : Fin 64
  rttP : Option Nat
  holdP : Nat
  rttQ : Option Nat
  holdQ : Nat
deriving DecidableEq, Repr

/-- What the bring-up step in progress has found (Table 7-10): TRAIN whether the frames went round, else whether a tail answered; ENUM the
count that returned and the nodes that answered, each with whether end B reaches it in WRAP; MEASURE the answers to ECHO; CONFIG the
delay of LOOP. -/
inductive BringupFinding
  | train (ring anyTail : Bool)
  | enumerate (count : Nat) (nodes : List (Fin 64 × Bool))
  | measure (answers : List NodeFinding)
  | configure (loop : Nat)
deriving DecidableEq, Repr

/-- How end B finds a break (R224): two frames are missing or invalid, or an UP frame comes, with the ticks that have passed since the last
frame that did return had left end A. -/
inductive BreakSign
  | missed
  | upFrame (returned : Fin 256)
deriving DecidableEq, Repr

/-- A declared break (R224): the nodes that only end B still reaches, and how it was found. -/
structure BreakFinding where
  beyond : BitVec 64
  sign : BreakSign
deriving DecidableEq, Repr

/-- The bits of a serial word as sampled, and the level of A at the end of the word (R93, R96). -/
structure SerialRead where
  raw : BitVec 41
  aHigh : Bool
deriving DecidableEq, Repr

/-- A dword written to a stage, with its byte enables (R162, R283). -/
structure StageDword where
  value : Word
  be : Fin 16
deriving DecidableEq, Repr

/-- What comes with a door's link (R278, R281, R311): width, speed and the settings its host makes in configuration
space. -/
structure LinkUp where
  width : Fin 8
  speed : Fin 8
  msixEn : Bool
  fmask : Bool
  pmeEn : Bool
deriving DecidableEq, Repr

/-- What self-test found (Table 14-3). -/
structure BistResult where
  coaches : List CoachNo
  domains : List (Fin 16)
  essential : Bool
  functions : List (FnKind × Fin 64)
deriving DecidableEq, Repr

/-- A fault reported to the fault manager (R377, Table 15-2): cause code, block code and number of the function,
LOG_DATA. -/
structure FaultReport where
  cause : BitVec 8
  block : BitVec 8
  inst : BitVec 8
  data : Word
deriving DecidableEq, Repr

/-- The commands, in the order of the table. -/
inductive Instr
  /-- TICK_BOUNDARY (R18). -/
  | tickBoundary (obs : TickObs)
  /-- REF_QUALIFY_DONE (R39). -/
  | refQualifyDone (d : DoorNo) (ppm : Nat) (dev : Nat)
  /-- XCHK_RETRY (R40). -/
  | xchkRetry (d : DoorNo)
  /-- SPREAD_CHECK_DONE (R41). -/
  | spreadCheckDone (d : DoorNo) (dev : Nat)
  /-- XCHK_WINDOW (R43). -/
  | xchkWindow (ppm0 ppm1 ppm2 ppm3 : Int)
  /-- REF_MISSING_EDGE (R42). -/
  | refMissingEdge (d : DoorNo)
  /-- PLL_LOCKED (R45). -/
  | pllLocked (p : Pll)
  /-- PLL_FAULT (R384). -/
  | pllFault (p : Pll)
  /-- SEL_REQ (R47). -/
  | selReq (d : DoorNo)
  /-- TICK_LO_READ (R58). -/
  | tickLoRead (d : DoorNo) (st : SubTick)
  /-- HT_SET (R60). -/
  | htSet
  /-- HT_STEP (R60). -/
  | htStep
  /-- HT_SLEW (R61). -/
  | htSlew
  /-- SLEW_DONE (R61). -/
  | slewDone
  /-- SLOWCLK_CYCLE (R67). -/
  | slowclkCycle
  /-- SLOWCLK_LOST (R65). -/
  | slowclkLost (d : DoorNo)
  /-- DVFS_TARGET_WRITE (R71). -/
  | dvfsTargetWrite (d : DoorNo) (level : Fin 4)
  /-- DVFS_SETTLE_EXPIRY (R72). -/
  | dvfsSettleExpiry
  /-- VCORE_TIMEOUT (R72). -/
  | vcoreTimeout
  /-- DVFS_STEP_DOWN (R73). -/
  | dvfsStepDown
  /-- SUPPLY_FAULT (R385). -/
  | supplyFault
  /-- SSC_CFG_WRITE (R75). -/
  | sscCfgWrite (d : DoorNo) (v : Word)
  /-- PIN_EDGE_ACCEPT (R80). -/
  | pinEdgeAccept (ch : ChNo) (a b z : Option PinMove) (st : SubTick)
  /-- COMPARE_PULSE_END (R107). -/
  | comparePulseEnd (ch : ChNo) (out : Bool)
  /-- PWD_TIMEOUT (R90). -/
  | pwdTimeout (ch : ChNo)
  /-- SERIAL_WORD_START (R95). -/
  | serialWordStart (ch : ChNo) (aHigh : Bool)
  /-- SERIAL_WORD_END (R96). -/
  | serialWordEnd (ch : ChNo) (w : SerialRead) (st : SubTick)
  /-- SERIAL_TIMEOUT (R94). -/
  | serialTimeout (ch : ChNo) (raw : BitVec 41)
  /-- STROKE_RECORD (R102). -/
  | strokeRecord (ch : ChNo)
  /-- LATCH_POS_READ (R104). -/
  | latchPosRead (d : DoorNo) (ch : ChNo)
  /-- TRACKER_STALL (R116). -/
  | trackerStall (w : WheelNo)
  /-- RESYNC (R116). -/
  | resync (w : WheelNo)
  /-- AUTO_RESYNC (R116). -/
  | autoResync (w : WheelNo)
  /-- CORR_LEARN (R133). -/
  | corrLearn (w : WheelNo)
  /-- CORR_SWAP_CMD (R136). -/
  | corrSwapCmd (w : WheelNo)
  /-- CORR_CLEAR (R136). -/
  | corrClear (w : WheelNo)
  /-- CORR_ABORT (R136). -/
  | corrAbort (w : WheelNo)
  /-- LEARN_DONE (R134). -/
  | learnDone (w : WheelNo)
  /-- ANGLE_READ (R139). -/
  | angleRead (d : DoorNo) (w : WheelNo) (st : SubTick)
  /-- STAGE_WRITE (R162). -/
  | stageWrite (d : DoorNo) (sp : Space) (off : BitVec 24) (v : StageDword)
  /-- STAGE_DISCARD (R287). -/
  | stageDiscard (d : DoorNo) (off : BitVec 24)
  /-- COMMIT_ISSUE (R164). -/
  | commitIssue (d : DoorNo) (off : BitVec 24) (v : Word)
  /-- COMMIT_APPLY (R166). -/
  | commitApply
  /-- PG_COMMIT_READ (R287). -/
  | pgCommitRead (d : DoorNo) (off : BitVec 24)
  /-- RESULT_READ (R161). -/
  | resultRead (d : DoorNo) (h : Handle)
  /-- PLACEMENT_PROMOTE (R187). -/
  | placementPromote (c : CoachNo)
  /-- MAP_SWITCH (R193). -/
  | mapSwitch (ecc : List EccFinding)
  /-- TWIN_RECREATE (R194). -/
  | twinRecreate
  /-- COMPACT (R195). -/
  | compact (d : DoorNo) (level : Fin 3)
  /-- COMPACT_DONE (R195). -/
  | compactDone
  /-- EVAC (R196). -/
  | evac (d : DoorNo) (c : CoachNo)
  /-- EVAC_DONE (R196). -/
  | evacDone
  /-- TEST (R196). -/
  | test (d : DoorNo) (c : CoachNo)
  /-- TEST_DONE (R196). -/
  | testDone (passed : Bool)
  /-- RESTORE (R196). -/
  | restore (d : DoorNo) (c : CoachNo)
  /-- PEEK_READ (R199). -/
  | peekRead (d : DoorNo) (ecc : Option Bool)
  /-- HANDLE_LOC_READ (R200). -/
  | handleLocRead (d : DoorNo)
  /-- BRINGUP (R214). -/
  | bringup (l : LinkNo)
  /-- LINK_STOP (R214). -/
  | linkStop (l : LinkNo)
  /-- MGMT_TX (R223). -/
  | mgmtTx (l : LinkNo)
  /-- SREQ_PROMOTE (R220). -/
  | sreqPromote (l : LinkNo)
  /-- UP_FRAME_RECEIVE (R228). -/
  | upFrameReceive (l : LinkNo) (endB : Bool) (age : Fin 256) (f : UpFrame)
  /-- CABLE_BREAK (R224): a declared break. -/
  | cableBreak (l : LinkNo) (b : BreakFinding)
  /-- HEAL (R227). -/
  | heal (l : LinkNo)
  /-- COMPARATOR_TRANSITION (R249). -/
  | comparatorTransition (ch : DrvNo) (sense : Nat) (st : SubTick)
  /-- REG_PERIOD_START (R248). -/
  | regPeriodStart (ch : DrvNo)
  /-- BLANK_END (R252). -/
  | blankEnd (ch : DrvNo)
  /-- DRIVE_EVENT_START (R242). -/
  | driveEventStart (ch : DrvNo)
  /-- DRIVE_EVENT_END (R243). -/
  | driveEventEnd (ch : DrvNo)
  /-- DUTY_CUT (R246). -/
  | dutyCut (ch : DrvNo)
  /-- DUTY_BIN_ROLL (R245). -/
  | dutyBinRoll (ch : DrvNo)
  /-- CMP_CLR (R250). -/
  | cmpClr (ch : DrvNo)
  /-- DIP_WINDOW_END (R255). -/
  | dipWindowEnd (ch : DrvNo)
  /-- LAST_END_READ (R257). -/
  | lastEndRead (d : DoorNo) (ch : DrvNo)
  /-- ADC_DATA_LATCH (R266). -/
  | adcDataLatch (u : AdcNo) (raw : BitVec 10)
  /-- ADC_RESTART (R261). -/
  | adcRestart (u : AdcNo)
  /-- CAL_ZERO (R265). -/
  | calZero (u : AdcNo)
  /-- CAL_FULL (R265). -/
  | calFull (u : AdcNo)
  /-- CAL_DONE (R265). -/
  | calDone (u : AdcNo)
  /-- ADC_DATA_READ (R266). -/
  | adcDataRead (d : DoorNo) (u : AdcNo)
  /-- EPOCH_TICK_MARKER (R419). -/
  | epochTickMarker
  /-- OVERFLOW_WINDOW (R420). -/
  | overflowWindow (cls : Fin 8) (beyond : Nat) (first last : Nat)
  /-- PROV_CART_FLUSH (R422). -/
  | provCartFlush
  /-- REGISTER_WRITE (R283). -/
  | registerWrite (d : DoorNo) (off : BitVec 24) (v : Quad) (form : WriteForm)
  /-- DOOR_LINK_UP (R282). -/
  | doorLinkUp (d : DoorNo) (cfg : LinkUp)
  /-- DOOR_PERST (R281). -/
  | doorPerst (d : DoorNo)
  /-- DOOR_FLR (R281). -/
  | doorFlr (d : DoorNo)
  /-- DOOR_HOT_RESET (R281). -/
  | doorHotReset (d : DoorNo)
  /-- DOOR_LINK_LOSS (R281). -/
  | doorLinkLoss (d : DoorNo)
  /-- HEARTBEAT (R294). -/
  | heartbeat (d p : DoorNo)
  /-- HB_WARN (R294). -/
  | hbWarn (d : DoorNo)
  /-- HEARTBEAT_TIMEOUT (R294). -/
  | heartbeatTimeout (d : DoorNo)
  /-- CPL_TIMEOUT (R294). -/
  | cplTimeout (d : DoorNo)
  /-- DOOR_SHUT (R294). -/
  | doorShut (d p : DoorNo)
  /-- DOOR_RELEASE (R296). -/
  | doorRelease (d p : DoorNo)
  /-- DOOR_SHUTTER_EFFECT (R295). -/
  | doorShutterEffect (d : DoorNo)
  /-- DOOR_D3HOT (R320). -/
  | doorD3hot (d : DoorNo)
  /-- DOOR_D0_RETURN (R320). -/
  | doorD0Return (d : DoorNo)
  /-- IRQ_GROUP_RELEASE (R308). -/
  | irqGroupRelease (g : Fin 64)
  /-- IRQ_COALESCE_RELEASE (R309). -/
  | irqCoalesceRelease (g : Fin 64)
  /-- IRQ_DELIVER (R311). -/
  | irqDeliver (src : SrcNo) (d : DoorNo)
  /-- IRQ_CLAIM (R314). -/
  | irqClaim (d : DoorNo) (v : BitVec 10)
  /-- IRQ_EOI (R317). -/
  | irqEoi (d : DoorNo) (src : SrcNo)
  /-- IRQ_EXIT (R307). -/
  | irqExit (src : SrcNo)
  /-- RING_ENABLE (R316). -/
  | ringEnable (d : DoorNo) (size : Fin 16)
  /-- SRC_CFG_WRITE (R306). -/
  | srcCfgWrite (d : DoorNo) (v : Word)
  /-- GRP_CFG_WRITE (R310). -/
  | grpCfgWrite (d : DoorNo) (time : Bool) (v : Word)
  /-- SRC_STAT_READ (R323). -/
  | srcStatRead (d : DoorNo)
  /-- TIMER_LOAD (R332). -/
  | timerLoad (t : TmrNo)
  /-- CAPTURE_READ (R333). -/
  | captureRead (d : DoorNo) (t : TmrNo)
  /-- DMA_START (R335). -/
  | dmaStart (d : DoorNo) (c : DmaNo)
  /-- DMA_BURST_DONE (R337). -/
  | dmaBurstDone (c : DmaNo) (len : Fin 257) (src dst : List Byte)
  /-- DMA_BUS_ERROR (R340). -/
  | dmaBusError (c : DmaNo) (side : BusSide) (kind : BusKind)
  /-- DMA_ABORT (R341). -/
  | dmaAbort (d : DoorNo) (c : DmaNo)
  /-- AON_POWER_UP (R350). -/
  | aonPowerUp
  /-- MAIN_POWER_UP (R350). -/
  | mainPowerUp
  /-- RST_ASSERT (R349). -/
  | rstAssert
  /-- RST_RELEASE (R350). -/
  | rstRelease (prof : Fin 8)
  /-- PREAMBLE_READ (R366). -/
  | preambleRead (density : Option (Fin 64))
  /-- SELFTEST_DONE (R356). -/
  | selftestDone (r : BistResult)
  /-- LOAD_COMPLETE (R366). -/
  | loadComplete
  /-- RUN (R351). -/
  | run
  /-- STOP (R352). -/
  | stop
  /-- STOP_COMPLETE (R352). -/
  | stopComplete
  /-- LOAD (R365). -/
  | load
  /-- SWITCH (R367). -/
  | switch
  /-- SWITCH_PREPARED (R367). -/
  | switchPrepared
  /-- SWITCH_ARM (R368). -/
  | switchArm
  /-- WHEEL_SWITCH (R369). -/
  | wheelSwitch (w : WheelNo)
  /-- STANDBY (R370). -/
  | standby
  /-- DRAIN_END (R370). -/
  | drainEnd
  /-- DEVICE_RESET_CMD (R349). -/
  | deviceResetCmd
  /-- WAKE_TIMER (R371). -/
  | wakeTimer
  /-- WAKE_IN (R371). -/
  | wakeIn
  /-- WAKE_PERST (R371). -/
  | wakePerst (d : DoorNo)
  /-- FLASH_READ (R374). -/
  | flashRead (d : DoorNo)
  /-- FLASH_PROGRAM (R374). -/
  | flashProgram (d : DoorNo)
  /-- FLASH_ERASE_4K (R374). -/
  | flashErase4k (d : DoorNo)
  /-- FLASH_ERASE_64K (R374). -/
  | flashErase64k (d : DoorNo)
  /-- FLASH_DONE (R374). -/
  | flashDone (timedOut : Bool)
  /-- BURN_KEY (R363). -/
  | burnKey (d : DoorNo)
  /-- BURN_SIGREQ (R363). -/
  | burnSigreq (d : DoorNo)
  /-- FAULT_REPORT (R377). -/
  | faultReport (r : FaultReport)
  /-- LOCKSTEP (R378). -/
  | lockstep (f : FnKind) (n : Fin 64)
  /-- GATE_READBACK (R378). -/
  | gateReadback (ch : DrvNo)
  /-- REF_MON (R378). -/
  | refMon (u : AdcNo)
  /-- NO_FRAMES (R378). -/
  | noFrames (l : LinkNo)
  /-- DOOR_PATH (R378). -/
  | doorPath (d : DoorNo)
  /-- FM_PAIR (R378). -/
  | fmPair
  /-- HOST_SHUTTER (R382). -/
  | hostShutter (f : FnKind) (n : Fin 64)
  /-- SHUTTER_RELEASE (R381). -/
  | shutterRelease (f : FnKind) (n : Fin 64) (sound : Bool)
  /-- DOMAIN_MONITOR_TRIP (R383). -/
  | domainMonitorTrip (dom : Fin 16) (cause : DomCause)
  /-- DEVICE_HOST_SHUTTER (R385). -/
  | deviceHostShutter
  /-- CORE_ALIVE_TIMEOUT (R386). -/
  | coreAliveTimeout
  /-- LEDGER_RELEASE (R392). -/
  | ledgerRelease (k : Fin 6) (w : WheelNo)
  /-- LOG_INFO_READ (R395). -/
  | logInfoRead (d : DoorNo)
  /-- FAILOVER_COMPLETE (R50). -/
  | failoverComplete
  /-- BRINGUP_END (R214). -/
  | bringupEnd (l : LinkNo) (f : BringupFinding)
  /-- SLOWCLK_RETURN (R65). -/
  | slowclkReturn (d : DoorNo)
  /-- MAIN_POWER_LOSS (R398). -/
  | mainPowerLoss
  /-- AON_POWER_LOSS (R350). -/
  | aonPowerLoss
  /-- DRIVE_RETIREMENT (R391). -/
  | driveRetirement
  /-- DRIVE_RETIREMENT_END (R391). -/
  | driveRetirementEnd
  /-- VOLUME_SCRUB (R391). -/
  | volumeScrub
  /-- VOLUME_SCRUB_END (R391). -/
  | volumeScrubEnd
deriving DecidableEq, Repr

end Sys2Proof
end

