-- ==== Sys2Proof/Config.lean ====
section
/-! DEFINITION. What one die or one board fixes, and the free values: constants without a body, so that no proof can
see what they are. -/

namespace Sys2Proof.Config

/-- GLB DEV_INFO.STEPPING (R301): "Per die". -/
opaque stepping : BitVec 8

/-- R170, Table 6-1: the SECDED check bits over bits 71:0 of a match word; the spec does not name the code. -/
opaque eccBits : BitVec 72 → BitVec 8

/-- What an 18-bit count of carriages reads when it holds 2^18 of them (R197): the spec gives the field no bit for it. -/
opaque fullCount : BitVec 18

/-- A byte the spec leaves undefined, drawn with a counter of State (R316, R340, R374). -/
opaque freeByte : Nat → Byte

/-- A dword the spec leaves undefined, drawn with a counter of State (R265, R316). -/
opaque freeWord : Nat → Word

end Sys2Proof.Config
end

