-- ==== Sys2Proof/Machine/State.lean ====
section
/-! DEFINITION. The state of the device: everything the spec gives the block, as plain data, with the queue of commands,
and the state after reset. Times are in sub-ticks (st) from tick 0 unless a field says ticks (R7, R8). -/

namespace Sys2Proof.Machine

/-- Why the machine stops. -/
inductive Fault
  /-- R348: "Where any of these is breached, the outcome is undefined": a supply came or went out of order, or RST_N was
  not low while it came up. Raised by MAIN_POWER_UP and AON_POWER_LOSS. Stopping is safe: the spec gives no effect. -/
  | supplyOrder
deriving DecidableEq, Repr

/-- Why a command is refused. -/
inductive Refusal
  /-- The command has no meaning in the model yet, by its mnemonic. Raised by an arm of exec only. Safe. -/
  | notModelled (mnemonic : String)
deriving DecidableEq, Repr

/-- A sparse table: (key, value) pairs with strictly rising keys, no value equal to what an unlisted key reads as. -/
abbrev Sparse (α : Type) := List (Nat × α)

/-- A field of a register: byte offset in BAR0 and its bits. -/
structure FieldRef where
  addr : Nat
  hi : Nat
  lo : Nat
deriving DecidableEq, Repr

/-- Access codes (R13). -/
inductive Acc | ro | rw | rwc | w1c | wo | rh | wac
deriving DecidableEq, Repr

/-- Reserved encodings of a field (R15): what a write may place in it. -/
inductive Legal
  | any
  | nz
  | within (least greatest : Nat)
  | zeroOrFrom (n : Nat)
  | perm
  | trim
  | camAngle
  | clkSrc
  | space
deriving DecidableEq, Repr

/-- A field of the register map. -/
structure RegField where
  hi : Nat
  lo : Nat
  acc : Acc
  reset : Nat
  legal : Legal
deriving DecidableEq, Repr

/-- A register, or an array of registers, of the register map; reserved bits are not listed. -/
structure RegRow where
  off : Nat
  stride : Nat
  count : Nat
  fields : List RegField
deriving DecidableEq, Repr

/-- The blocks of Table 11-3. -/
inductive Block
  | glb | clk | pwr | prf | flt | whl | inp | scn | plc | lnk | drv | adc | recorder | mem | stg | irq | irqd | tmr
  | dma | evt | dor
deriving DecidableEq, Repr

/-- A slew in progress (R61): units of 2^-16 ns still to apply, their sign, units per tick, HT_DELTA as committed, whether the
last adjustment is owed in this tick, and the tick of the latest adjustment. -/
structure Slew where
  left : Nat
  negative : Bool
  rate : Nat
  delta : Int
  due : Bool
  last : Option Nat
deriving DecidableEq, Repr

/-- A DVFS transition in progress (R72, R73): target level, level it leaves, tick of the write, boundary b at which
VCORE_OK was first seen high. -/
structure Dvfs where
  target : Nat
  source : Nat
  writeTick : Nat
  okAt : Option Nat
  up : Bool
deriving DecidableEq, Repr

/-- Timebase state that has no register (R53 to R69); `moved` is the tick in which the last failover ended (R50); `opened` says that the next boundary has begun, up to its Apply phase,
although the counter has not advanced. -/
structure Clk where
  acc : Nat
  cycles : Nat
  cyc : Nat
  running : Bool
  htOfs : Int
  slew : Option Slew
  failover : Bool
  slowOk : List Bool
  makeup : Nat
  vcoreOk : Bool
  dvfs : Option Dvfs
  moved : Option Nat
  opened : Bool
deriving DecidableEq, Repr

/-- An edge or word delivered to a tracker (R83). -/
structure DEdge where
  ts : Nat
  cnt : Nat
  rev : Bool
  dirChg : Bool
  noPeriod : Bool
  index : Option Nat
deriving DecidableEq, Repr

/-- A PWD pulse under measurement (R90): leading edge timestamp, THR and MAX in force there. -/
structure Pulse where
  lead : Nat
  thr : Nat
  limit : Nat
deriving DecidableEq, Repr

/-- A serial word in progress with its shadow (R98): its latch instant and the number of that cycle, the fields copied then, the cycles
from the latch instant to the end of TIMEOUT once that boundary has come (BiSS), and the instant of its last bit once that has been
sampled (SSI) (R94). -/
structure SerWord where
  latch : Nat
  cyc : Nat
  limit : Option Nat
  lastBit : Option Nat
  div : Nat
  dly : Nat
  biss : Bool
  bits : Nat
  gray : Bool
  parity : Bool
  timeout : Nat
  comp : Int
deriving DecidableEq, Repr

/-- One input channel, beside its registers (R78 to R108). -/
structure InpCh where
  mode : Nat
  a : Bool
  b : Bool
  z : Bool
  pulse : Option Pulse
  noPeriod : Bool
  prevDir : Option Bool
  index : Option Nat
  edges : List DEdge
  admitted : Nat
  overflowed : Bool
  latchTs : Nat
  latchDir : Bool
  latchDirChg : Bool
  latchNoPer : Bool
  fresh : Bool
  word : Option SerWord
  lastPos : Option Int
  oldFilts : List (Nat × Word)
  pulse0 : Option Nat
  pulse1 : Option Nat
  ownsQ : Bool
deriving DecidableEq, Repr

/-- One period of the gap-test history (R114, R115): length, validity, counter value of the edge that ended it. -/
structure Period where
  len : Nat
  valid : Bool
  cnt : Nat
deriving DecidableEq, Repr

/-- A prediction (R123, R124): position and timestamp of the last processed edge, base period, direction, whether a
valid period backs it (R129), the absolute angle of that edge in direction coordinates, the correction table it was made with
(R127), and the parity of the crossings of position 0 up to that edge (R121). -/
structure Pred where
  pos : Nat
  ts : Nat
  b : Nat
  rev : Bool
  run : Bool
  abs : Nat
  corr : Sparse Int
  par : Bool
deriving DecidableEq, Repr

/-- An entry of the tooth-period ring (R131). -/
structure RingEntry where
  ts : Nat
  period : Nat
  gap : Bool
  discard : Bool
  rev : Bool
  tooth : Nat
deriving DecidableEq, Repr

/-- One wheel tracker, beside its registers (R110 to R138): the predictions of earlier edges that a late cam edge may still need,
newest first (R121), the parity of the crossings of position 0, whether an index was taken at the last processed edge (R117), whether
the tracker is held in STOPPED (R110), whether RESUME stands without a sense of direction (R119), and whether an angle has been known
since reset (R139). `camOpen` says that the window is still to be passed from its start, or is being passed, in the current half and
direction; `camDone` that this half has been judged. The last fields name the tick of the last gap instant (R135),
of the last replaced prediction (R127), of the last edge with a valid period (R150), of the last change of direction
(R128), of the last rise of ANGLE_VALID (R145) and of the last processed edge with DIRCHG (R156). -/
structure Tracker where
  zero : Option Nat
  hasPrev : Bool
  lastTs : Nat
  lastPos : Nat
  lastCnt : Nat
  hist : List Period
  b : Nat
  pred : Option Pred
  oldPred : Option Pred
  fails : Nat
  index : Option Nat
  skipped : Bool
  stallFrom : Nat
  kept : Option Nat
  camSeen : Bool
  camOpen : Bool
  camDone : Bool
  past : List Pred
  par : Bool
  took : Bool
  held : Bool
  blind : Bool
  angled : Bool
  rev : Nat
  corrFg : Sparse Int
  corrSh : Sparse Int
  learnSum : Sparse Int
  learnCur : List (Nat × Nat × Nat)
  learnOpen : Bool
  learnBad : Bool
  learnPrev : Option Nat
  ring : Sparse RingEntry
  tableNo : Nat
  switchNo : Nat
  gapAt : Option Nat
  replacedAt : Option Nat
  recomputedAt : Option Nat
  reversedAt : Option Nat
  gainedAt : Option Nat
  dirChgAt : Option Nat
deriving DecidableEq, Repr

/-- A pass in progress (R144, R152, R170): actual start, start asked for, requested end, flags gathered (W7 order),
the descriptor fields read at its first decision (R153), its angle reference (R161), its end angle as an absolute
coordinate, whether it is the first counted pass under ONCE (R146), and whether its demand at a drive channel has ended while the
protection stage may still keep DMIN (R159). -/
structure Pass where
  s : Nat
  sDem : Nat
  te : Option Nat
  teCatch : Bool
  stop : Option Nat
  flags : Nat
  kind : Nat
  wheel : Nat
  rep : Nat
  target : Word
  ref : Int
  endAbs : Option Nat
  cause : Nat
  first : Bool
  handed : Bool
deriving DecidableEq, Repr

/-- A slot (R140, R161, R170): the live words W0 to W6 (W0 with its generation), the result, the pass state: passes counted
(R145), the last anchor counted, how far theta_s lies before theta_e (R150), starts that fell due during a pass (R144), the
ticks of the last arming, of the last change of its angles and of the last committed W0, and a pending release (R146). -/
structure Slot where
  w : List Word
  flags : Nat
  rev8 : Nat
  passCnt : Nat
  resRev : Word
  resStart : Word
  resEnd : Word
  pass : Option Pass
  count : Nat
  last : Option Nat
  back : Option Nat
  queued : List Nat
  armAt : Option Nat
  editAt : Option Nat
  w0At : Option Nat
  drop : Bool
deriving DecidableEq, Repr

/-- A demand on an endpoint (R147): handle, ACTIVE or INACTIVE, start, end once known. -/
structure Demand where
  handle : Nat
  active : Bool
  start : Nat
  stop : Option Nat
deriving DecidableEq, Repr

/-- An endpoint (R147): base level, resolved level, whether it keeps that level until a slot first acts on it (R105), demands,
points. -/
structure Ep where
  base : Bool
  level : Bool
  kept : Bool
  demands : List Demand
  points : List (Nat × Nat × Bool)
deriving DecidableEq, Repr

/-- An output edge (R29): endpoint address, instant, resolved level after it. -/
structure Edge where
  ep : Nat
  t : Nat
  level : Bool
deriving DecidableEq, Repr

/-- A cart (R272): header fields and body words B0 to B5. -/
structure Cart where
  typ : Nat
  cls : Nat
  st : Nat
  tick : Nat
  lenM1 : Nat
  part : Nat
  wheel : Nat
  repoch : Nat
  seq : Nat
  body : List Quad
deriving DecidableEq, Repr

/-- An event or marker cart waiting for the tick of its edge (R25, R160). -/
structure DueCart where
  at_ : Nat
  handle : Nat
  edge : Nat
  flags : Nat
  cause : Nat
  wheel : Nat
  target : Word
  final : Bool
  resStart : Word
  resEnd : Word
  dip : Nat × Nat × Nat × Nat
  user : Bool
  first : Bool
  start : Nat
deriving DecidableEq, Repr

/-- A non-level action at a local endpoint, due at its edge (Table 5-3). -/
structure DueAct where
  at_ : Nat
  handle : Nat
  ep : Nat
  action : Nat
  param : Nat
deriving DecidableEq, Repr

/-- A carriage (R170, R171): 1 DRIVER, 2 CHECKER, 3 SINGLE, 0 with a reservation; the slot it carries. -/
structure Carriage where
  role : Nat
  handle : Nat
  wheel : Nat
  reserved : Bool
deriving DecidableEq, Repr

/-- A coach (R183 to R188, R196, R199): state and cause codes of COACH_STAT, counters; what waits at its update port: corrected words,
entries of the apply queue and peeks; since when placement work has not been served, whether that is promoted, the update cycle
that follows among four (R187), and the entry at which the scrub goes on (R184). -/
structure Coach where
  state : Nat
  cause : Nat
  ce : Nat
  ceWin : Nat
  ceWinAt : Nat
  tested : Bool
  queued : Nat
  fixes : Nat
  peeks : Nat
  waitFrom : Option Nat
  promoted : Bool
  turn : Nat
  scrub : Nat
deriving DecidableEq, Repr

/-- A move of a carriage (R193), or the making of a new twin (R194), with the update cycles that its copy still needs at the source and
at the destination (R186). -/
structure Move where
  src : Nat
  dst : Nat
  twin : Bool
  reads : Nat
  writes : Nat
deriving DecidableEq, Repr

/-- The scan fabric and the placement engine beside their registers (R169 to R198); `lost` holds what the handles lost in the
current tick still read as, `left` the source carriages of a switch tick, which become EMPTY at its end (R193). -/
structure Fabric where
  carr : Sparse Carriage
  coach : Sparse Coach
  moves : List Move
  recreate : List Nat
  evacReq : List Nat
  lost : Sparse Slot
  left : Sparse (Nat × Carriage)
deriving DecidableEq, Repr

/-- A link command in a queue (R217): instant, endpoint, ACTION, PARAM, handle, first frame it could have taken. -/
structure LCmd where
  e : Nat
  ep : Nat
  action : Nat
  param : Nat
  handle : Nat
  since : Nat
  promoted : Bool
deriving DecidableEq, Repr

/-- What a link keeps of one node (R215, R229). -/
structure LNode where
  dP : Option Nat
  dQ : Option Nat
  seq : Option Nat
  nstate : Nat
  faults : Nat
deriving DecidableEq, Repr

/-- A DOWN frame (R208, R210): its tick and its four places. -/
structure DownFrame where
  tick : Nat
  places : List (BitVec 40)
deriving DecidableEq, Repr

/-- What an end of a link sends in one tick (R208, Table 7-9): a DOWN frame, or an UP carrier with an IDLE cell. -/
inductive EndFrame where
  | down (f : DownFrame)
  | carrier (tick : Nat)
deriving DecidableEq, Repr

/-- A management place that bring-up has still to send (Table 7-10): the first tick whose frame may carry it, and the ends that send it. -/
structure Script where
  due : Nat
  a : Bool
  b : Bool
  place : BitVec 40
deriving DecidableEq, Repr

/-- A break that takes effect at the next boundary (R224): the nodes that only end B reaches, the first frame that had not returned, the
tick of the break. -/
structure BreakDue where
  beyond : Nat
  first : Nat
  last : Nat
deriving DecidableEq, Repr

/-- An UP frame that waits for the work it is admitted to (R19, R228): the receiver, the frame's tick, what was received. -/
structure UpWait where
  endB : Bool
  tick : Nat
  frame : UpFrame
deriving DecidableEq, Repr

/-- A link beside its registers (R207 to R229): its queues, the frames last sent by its ends, its nodes, the UPMAP they were given (R216);
of a bring-up the places to send, the tick of TRAIN, whether it has broken once, and the tick from which the head is swapped; a break
or a return to RING due at the next boundary; UP frames to be admitted; `sentTo` is the latest instant of a command it has sent (R352). -/
structure Lnk where
  deadline : List LCmd
  sample : List LCmd
  resume : Option (Nat × Nat)
  mgmt : Option (BitVec 40)
  runPlace : Bool
  frame : Option EndFrame
  frameB : Option EndFrame
  nodes : Sparse LNode
  upmap : Sparse Nat
  script : List Script
  trainAt : Nat
  swapAt : Option Nat
  brokeOnce : Bool
  breakDue : Option BreakDue
  healDue : Bool
  inbox : List UpWait
  sentTo : Nat
deriving DecidableEq, Repr

/-- A pass at a drive channel (R238 to R243): the pass as the scan hands it over, how the combined demand stood at its
S_dem (0 ACTIVE before, 1 it rises, 2 its rise was removed under R206), S_act once known, DMIN and DMAX, and whether the fall at
its requested end was removed under R206. -/
structure DPass where
  handle : Nat
  pass : Pass
  rise : Nat
  sAct : Option Nat
  dmin : Nat
  dmax : Nat
  fell : Bool
deriving DecidableEq, Repr

/-- An event of a drive channel (R241): S_act, whether it has begun, PERIOD and BLANK it runs with (R251). -/
structure DEvent where
  sAct : Nat
  begun : Bool
  period : Nat
  blank : Nat
deriving DecidableEq, Repr

/-- The dip detector (R255): S_act of its event, the tick of the first latch set in it, phase fall, whether a sample has been
considered, mx, t_mx, mn, t_mn. -/
structure Dip where
  ev : Nat
  latchAt : Option Nat
  falling : Bool
  some_ : Bool
  mx : Nat
  tMx : Nat
  mn : Nat
  tMn : Nat
deriving DecidableEq, Repr

/-- A pass whose end, or whose miss, the protection stage reports to a later tick (R240): that tick, the pass, its end (none
where it made no edge), the revolution counter at its last edge where it is known already, S_act of its event. -/
structure DEnd where
  tick : Nat
  pass : DPass
  stop : Option Nat
  rev : Option Nat
  ev : Option Nat
deriving DecidableEq, Repr

/-- A result of the dip detector (R255): S_act of the event, STATUS, DIP_T_MAX, DIP_T_MIN, DEPTH. -/
structure DipRes where
  ev : Nat
  status : Nat
  tMax : Nat
  tMin : Nat
  depth : Nat
deriving DecidableEq, Repr

/-- A drive channel beside its registers (R235 to R256): the passes at the stage, the event, the end of the last event,
why the event under the standing demand ended (4 trip, 1 duty cut, 5 shutter), the cycles from the current boundary to the
next period start and to the end of blanking, the on-times of past events, the dip detector and its last result, the passes
to report, the fence of a shutter and what it becomes at the next boundary, the boundary at which a CMP_CLR acts (R250), and the values that
a commit of this tick replaced (R244, R251: tick, CFG, MIN_OFF, REF), the instant from which on-time counts (R247). -/
structure Drv where
  passes : List DPass
  event : Option DEvent
  ePrev : Option Nat
  blocked : Nat
  periodAt : Nat
  blankTo : Option Nat
  ons : List (Nat × Nat)
  dip : Option Dip
  dipRes : Option DipRes
  ended : List DEnd
  started : List (Nat × Nat × DPass)
  fenced : Bool
  fenceNext : Option Bool
  clr : Option Nat
  held : Option (Nat × Word × Word × Word)
  usedFrom : Nat
deriving DecidableEq, Repr

/-- An urgent request (R262, R263): instant, slot request or event line, its order among equals, entry. -/
structure Urgent where
  at_ : Nat
  line : Bool
  order : Nat
  entry : Nat
deriving DecidableEq, Repr

/-- A calibration in progress (R265); `last` is the tick of its latest conversion. -/
structure Calib where
  full : Bool
  input : Nat
  made : Nat
  sum : Nat
  last : Nat
deriving DecidableEq, Repr

/-- The conversion of the current tick (R259, R260). -/
structure Conv where
  tick : Nat
  entry : Nat
  input : Nat
  urg : Bool
  cal : Bool
deriving DecidableEq, Repr

/-- A code on its way to the work that admits it (R19, R267): its conversion, the raw and the calibrated code, the window state
after it, whether it is an exit, and REC of its entry. -/
structure Sample where
  conv : Conv
  raw : Nat
  code : Nat
  win : Nat
  exit : Bool
  keep : Bool
deriving DecidableEq, Repr

/-- An ADC unit beside its registers. -/
structure Adc where
  urgent : List Urgent
  cal : Option Calib
  conv : Option Conv
  dataTick : Nat
  calNo : Nat
  resumeAt : Nat
  sample : Option Sample
deriving DecidableEq, Repr

/-- A conversion in a P_ADC cart (R277): its tick, entry, CAL bit, raw code. -/
structure ProvConv where
  tick : Nat
  entry : Nat
  cal : Bool
  raw : Nat
deriving DecidableEq, Repr

/-- The recorder beside its register (R272 to R277, R417 to R422). -/
structure Rec where
  seq : Sparse Nat
  commitNo : Sparse Nat
  pinPart : List Quad
  pinAt : Nat
  cmpPart : List Quad
  cmpAt : Nat
  adcPart : Sparse (List ProvConv)
  started : Bool
  loadTick : Option Nat
  loadOfs : Int
  loadTrim : Nat
  loadValid : Bool
  loadLevel : Nat
deriving DecidableEq, Repr

/-- A unit the recorder has written (R275, R276): its class, whether it is a second copy, its volume address, its carts. -/
structure StoredUnit where
  cls : Nat
  copy : Bool
  addr : Nat
  carts : List Cart
deriving DecidableEq, Repr

/-- The record path behind the generation of carts (R36, R38, R275, R419, R420): how many of the carts generated have reached
the input stage, the carts that wait there, those in the record SRAM and buffer that no unit holds yet, the units written,
newest first, and for each class the address of its last unit, its volume's identifier and epoch, and its loss counter. -/
structure Store where
  seen : Nat
  stage : List Cart
  held : List Cart
  units : List StoredUnit
  prevUnit : Sparse Nat
  volId : Sparse Nat
  volEpoch : Sparse Nat
  lossCnt : Sparse Nat
deriving DecidableEq, Repr

/-- The last commit of a door on a page (R165). -/
structure Outcome where
  code : Nat
  tick : Nat
deriving DecidableEq, Repr

/-- An MSI-X message in a send queue (R312), and a write a door has sent to host memory (R315, R338, R342). -/
structure HostWrite where
  addr : Nat
  data : List Byte
  prio : Nat
  due : Nat
  src : Nat
deriving DecidableEq, Repr

/-- One door beside its DOR page (R278 to R320). Stages map a BAR0 dword, slot word (handle * 8 + word) or endpoint
address to the staged value and the bits staged. `upCfg` is the link of a door that a held fault shutters at the next boundary,
`restored` says that a wake has restored its interrupt settings (R321), `readData` what its latest read returned. -/
structure Door where
  stage : Sparse (Word × Word)
  slotStage : Sparse (Word × Word)
  eptStage : Sparse (Word × Word)
  overflow : Bool
  upper : Word
  outcome : Sparse Outcome
  snap : Sparse Word
  sel : Sparse Word
  hbAt : Option Nat
  causes : List Nat
  heldFault : Bool
  byFm : Bool
  relAt : Option Nat
  msixEn : Bool
  fmask : Bool
  pmeEn : Bool
  pmeStat : Bool
  sleeping : Bool
  wake : Bool
  msix : Sparse Word
  sendq : List HostWrite
  hostWrites : List HostWrite
  ringJunk : Bool
  upCfg : Option LinkUp
  restored : Bool
  readData : Word
deriving DecidableEq, Repr

/-- An entry of a commit (R277 COMMIT): BAR2 or BAR0, byte offset, value, and the bits of it that are written. -/
structure Entry where
  bar2 : Bool
  off : Nat
  val : Word
  mask : Word
deriving DecidableEq, Repr

/-- A pending commit with its frozen content (R163 to R166, R188): door, page, effective tick, whether it is the door's last on
the page, whether its reservations were met, the carriages reserved for it: (handle, carriage address), and the handles of slots
lost since its acceptance. -/
structure Commit where
  door : Nat
  page : Nat
  eff : Nat
  latest : Bool
  entries : List Entry
  placed : Bool
  reserved : List (Nat × Nat)
  void : List Nat
deriving DecidableEq, Repr

/-- An interrupt source (R304 to R317): its settings, those in force since it last entered HELD, its state and marks, for each
door the vector of the message outstanding and the boundary at which it became due, the doors whose message was overtaken by
another door's claim or by a withdrawal, the boundary of its exit, events seen at that boundary, and whether it was enabled
since the last boundary. -/
structure Src where
  cfg : Word
  held : Word
  state : Nat
  claimer : Nat
  repend : Bool
  count : Nat
  out : Nat
  due : Nat
  assert : Nat
  msgVec : List Nat
  dueAt : List Nat
  claimedSince : Nat
  withdrawn : Nat
  exitAt : Option Nat
  carry : Nat
  fresh : Bool
deriving DecidableEq, Repr

/-- A moderation group (R308, R309). -/
structure Grp where
  cfg : Word
  time : Word
  release : Nat
  events : Nat
  first : Option Nat
  newCfg : Option Word
  newTime : Option Word
deriving DecidableEq, Repr

/-- The interrupt controller (R302 to R324): sources, groups, and the lines and slot edges seen at the last boundary. -/
structure Irq where
  srcs : Sparse Src
  grps : Sparse Grp
  lines : Sparse Word
  pulses : Sparse Nat
deriving DecidableEq, Repr

/-- A timer beside its registers (R329 to R334). -/
structure Tmr where
  trig : Bool
  capAt : Nat
  gate : Bool
  loaded : Bool
  dead : Bool
deriving DecidableEq, Repr

/-- An event line in the current tick (R325, R346): level at its boundary, level in its last sub-tick, rising edges counted,
the instant of its first rising edge of the tick. -/
structure EvLine where
  boundary : Bool
  level : Bool
  edges : Nat
  rise : Option Nat
deriving DecidableEq, Repr

/-- Event lines and routed sources (R325 to R327): the lines, the pulse sources that are high in the next tick, and the
rising edges and high lines of the tick before the current one. -/
structure Evt where
  lines : Sparse EvLine
  pulses : List Nat
  prevRise : List (Nat × Nat)
  prevLevel : List Nat
deriving DecidableEq, Repr

/-- A DMA channel: the working copy (R335), the bytes done, the failed attempts of the burst in hand, the boundary from which it
is retried, and whether self-test has taken the channel out. -/
structure Dma where
  src : Nat
  dst : Nat
  count : Nat
  cfg : Word
  fill : Word
  wb : Nat
  done : Nat
  tries : Nat
  retryAt : Nat
  dead : Bool
deriving DecidableEq, Repr

/-- A run-time profile switch (R367, R368): profile, start tick, arming tick, whether its preparation is complete, and for
each wheel that takes part what its switch writes, as commit entries. -/
structure Switch where
  prof : Nat
  start : Nat
  arm : Nat
  ready : Bool
  content : List (Nat × List Entry)
deriving DecidableEq, Repr

/-- Power and profile state beside the PRF page (R348 to R374). `is1024` is the part fitted (R1), `ddrOk` whether the board lets its
memory train (R409). In standby and until a wake ends, `image` says whether the
retention image is valid (R349): what it holds stays where it stands in State. `draining` is the tick of a standby entry,
`lastWork` the last tick whose work ran (R334), `makeupDue` and `irqDue` what the first boundaries after a wake have still to
do, `loadCmd` whether the LOAD is that of a command, `loadCopy` the copy whose load waits for its move of step 5 (Table 14-7), `flOp` the flash operation in progress with its address. -/
structure Power where
  is1024 : Bool
  ddrOk : Bool
  aonOn : Bool
  mainOn : Bool
  rstN : Bool
  image : Bool
  draining : Option Nat
  waking : Bool
  lastWork : Nat
  makeupDue : Bool
  irqDue : Bool
  runSeen : Bool
  runAt : Option Nat
  epochDue : Bool
  sw : Option Switch
  flOp : Option (Nat × Nat)
  keyHash : List Word
  keyBurnt : Bool
  sigReq : Bool
  subsys : Nat
  loadProf : Nat
  loadCmd : Bool
  bistSkip : Bool
  loadCopy : Option Nat
deriving DecidableEq, Repr

/-- An entry of the fault log (R394, R395). -/
structure LogEntry where
  cause : Nat
  block : Nat
  num : Nat
  action : Nat
  tick : Nat
  data : Word
deriving DecidableEq, Repr

/-- A shutter the fault manager has raised and Apply has not yet admitted (R379). -/
structure ShutPend where
  page : Nat
  cause : Nat
deriving DecidableEq, Repr

/-- A request the ledger holds back (R392): kind, what it names, its door. -/
structure Held where
  kind : Nat
  arg : Nat
  door : Nat
deriving DecidableEq, Repr

/-- The fault manager beside the FLT page (R377 to R395). -/
structure Flt where
  log : Sparse LogEntry
  shutPend : List ShutPend
  pageCause : Sparse Nat
  pairs : Nat
  queue : List Held
  learning : List Nat
  domWin : Sparse Nat
  domWinAt : Nat
  ioSafe : Bool
deriving DecidableEq, Repr

/-- The device and the queue of its commands. -/
structure State where
  tick : Nat
  pending : List Instr
  regs : Sparse Word
  clk : Clk
  inp : Sparse InpCh
  trk : Sparse Tracker
  slots : Sparse Slot
  ept : Sparse Word
  eps : Sparse Ep
  edges : List Edge
  dueCarts : List DueCart
  dueActs : List DueAct
  fabric : Fabric
  lnk : Sparse Lnk
  drv : Sparse Drv
  adc : Sparse Adc
  carts : List Cart
  recd : Rec
  store : Store
  doors : Sparse Door
  commits : List Commit
  irq : Irq
  tmr : Sparse Tmr
  evt : Evt
  dma : Sparse Dma
  power : Power
  flash : Sparse Byte
  owner : Sparse Nat
  flt : Flt
  freeCtr : Nat
deriving DecidableEq, Repr

/-- The timebase after reset (R53, R57, R59). -/
def Clk.reset : Clk where
  acc := 0
  cycles := 128
  cyc := 0
  running := false
  htOfs := 0
  slew := none
  failover := false
  slowOk := [false, false, false, false]
  makeup := 0
  vcoreOk := true
  dvfs := none
  moved := none
  opened := false

/-- An input channel after reset: OFF (R109). Until a filter has accepted a transition its output is low (DESIGN CHOICE, log entry 45:
R80 gives none). -/
def InpCh.reset : InpCh where
  mode := 0
  a := false
  b := false
  z := false
  pulse := none
  noPeriod := true
  prevDir := none
  index := none
  edges := []
  admitted := 0
  overflowed := false
  latchTs := 0
  latchDir := false
  latchDirChg := false
  latchNoPer := false
  fresh := false
  word := none
  lastPos := none
  oldFilts := []
  pulse0 := none
  pulse1 := none
  ownsQ := false

/-- A tracker after reset: STOPPED, nothing learned (R116, R130, R139). -/
def Tracker.reset : Tracker where
  zero := none
  hasPrev := false
  lastTs := 0
  lastPos := 0
  lastCnt := 0
  hist := []
  b := 0
  pred := none
  oldPred := none
  fails := 0
  index := none
  skipped := false
  stallFrom := 0
  kept := none
  camSeen := false
  camOpen := false
  camDone := false
  past := []
  par := false
  took := false
  held := false
  blind := false
  angled := false
  rev := 0
  corrFg := []
  corrSh := []
  learnSum := []
  learnCur := []
  learnOpen := false
  learnBad := false
  learnPrev := none
  ring := []
  tableNo := 0
  switchNo := 0
  gapAt := none
  replacedAt := none
  recomputedAt := none
  reversedAt := none
  gainedAt := none
  dirChgAt := none

/-- A slot after reset: TYPE NONE, PROT 1, no result (R140). -/
def Slot.reset : Slot where
  w := [0x00000400, 0, 0, 0, 0, 0, 0]
  flags := 0
  rev8 := 0
  passCnt := 0
  resRev := 0
  resStart := 0
  resEnd := 0
  pass := none
  count := 0
  last := none
  back := none
  queued := []
  armAt := none
  editAt := none
  w0At := none
  drop := false

/-- An endpoint after reset: base level INACTIVE (R147). -/
def Ep.reset : Ep := ⟨false, false, false, [], []⟩

/-- A carriage after reset: EMPTY (R170). -/
def Carriage.empty : Carriage := ⟨0, 0, 0, false⟩

/-- A coach after reset: ACTIVE (R199). -/
def Coach.reset : Coach := ⟨0, 0, 0, 0, 0, false, 0, 0, 0, none, false, 0, 0⟩

/-- The fabric after reset: no carriage. -/
def Fabric.reset : Fabric := ⟨[], [], [], [], [], [], []⟩

/-- A node of which nothing is known. -/
def LNode.reset : LNode := ⟨none, none, none, 0, 0⟩

/-- A link after reset: OFF, queues empty (R234). -/
def Lnk.reset : Lnk := ⟨[], [], none, none, false, none, none, [], [], [], 0, none, false, none, false, [], 0⟩

/-- A drive channel after reset (R241, R257). -/
def Drv.reset : Drv := ⟨[], none, none, 0, 0, none, [], none, none, [], [], false, none, none, none, 0⟩

/-- An ADC unit after reset (R271). -/
def Adc.reset : Adc := ⟨[], none, none, 0, 0, 0, none⟩

/-- The recorder after reset (R274, R421). -/
def Rec.reset : Rec := ⟨[], [], [], 0, [], 0, [], false, none, 0, 0, false, 2⟩

/-- The record path after reset: empty, no unit of any class, loss counters 0. -/
def Store.reset : Store := ⟨0, [], [], [], [], [], [], []⟩

/-- A door after reset: everything empty (R282). -/
def Door.reset : Door where
  stage := []
  slotStage := []
  eptStage := []
  overflow := false
  upper := 0
  outcome := []
  snap := []
  sel := []
  hbAt := none
  causes := []
  heldFault := false
  byFm := false
  relAt := none
  msixEn := false
  fmask := false
  pmeEn := false
  pmeStat := false
  sleeping := false
  wake := false
  msix := []
  sendq := []
  hostWrites := []
  ringJunk := false
  upCfg := none
  restored := false
  readData := 0

/-- A source after reset: EN 0, IDLE (R323). -/
def Src.reset : Src := ⟨0, 0, 0, 0, false, 0, 0, 0, 0, [0, 0, 0, 0], [0, 0, 0, 0], 0, 0, none, 0, false⟩

/-- A group after reset (R323): COUNT_THR 1, TIME 1. -/
def Grp.reset : Grp := ⟨0x00000001, 0x00010000, 0, 0, none, none, none⟩

/-- A timer after reset (R345). -/
def Tmr.reset : Tmr := ⟨false, 0, false, false, false⟩

/-- An event line after reset: low (R346). -/
def EvLine.reset : EvLine := ⟨false, false, 0, none⟩

/-- A DMA channel after reset: IDLE (R347). -/
def Dma.reset : Dma := ⟨0, 0, 0, 0, 0, 0, 0, 0, 0, false⟩

/-- Power after reset: the main domain is powered and held in RESET (R349, R301: DEV_STATE resets to 2). DESIGN CHOICE (log entry 7): the
part is the JX6-2048-I; R1 leaves open which of the two it is. DESIGN CHOICE (log entry 105): the board's memory trains. -/
def Power.reset : Power where
  is1024 := false
  ddrOk := true
  aonOn := true
  mainOn := true
  rstN := false
  image := false
  draining := none
  waking := false
  lastWork := 0
  makeupDue := false
  irqDue := false
  runSeen := false
  runAt := none
  epochDue := false
  sw := none
  flOp := none
  keyHash := [0, 0, 0, 0, 0, 0, 0, 0]
  keyBurnt := false
  sigReq := false
  subsys := 0
  loadProf := 0
  loadCmd := false
  bistSkip := false
  loadCopy := none

/-- The fault manager after reset: log empty, both pairs at work (R378, R395). -/
def Flt.reset : Flt := ⟨[], [], [], 2, [], [], [], 0, false⟩

/-- The device right after reset: every register at its reset value, tick 0, the queue empty. -/
def State.reset : State where
  tick := 0
  pending := []
  regs := []
  clk := Clk.reset
  inp := []
  trk := []
  slots := []
  ept := []
  eps := []
  edges := []
  dueCarts := []
  dueActs := []
  fabric := Fabric.reset
  lnk := []
  drv := []
  adc := []
  carts := []
  recd := Rec.reset
  store := Store.reset
  doors := []
  commits := []
  irq := ⟨[], [], [], []⟩
  tmr := []
  evt := ⟨[], [], [], []⟩
  dma := []
  power := Power.reset
  flash := []
  owner := []
  flt := Flt.reset
  freeCtr := 0

end Sys2Proof.Machine
end

