-- ==== Sys2Proof/Machine/Fields.lean ====
section
/-! DEFINITION. The named fields of the register map: each name gives the byte offset in BAR0 and the bits that the
register tables of spec/ give (R76, R77, R109, R139, R199, R200, R234, R257, R271, R287, R300, R301, R323, R324, R345,
R346, R347, R376, R395, R417). -/

namespace Sys2Proof.Machine.Reg

@[simp] def CLK.REF_CFG.CHK_TOL : FieldRef := ⟨0x1040, 23, 16⟩
@[simp] def CLK.REF_CFG.SSC_THR : FieldRef := ⟨0x1040, 15, 12⟩
@[simp] def CLK.REF_CFG.TREF_EN : FieldRef := ⟨0x1040, 11, 8⟩
@[simp] def CLK.REF_CFG.PRIO : FieldRef := ⟨0x1040, 7, 0⟩
@[simp] def CLK.REF_STAT.XCHK_DISAGREE : FieldRef := ⟨0x1044, 16, 16⟩
@[simp] def CLK.REF_STAT.STATES : FieldRef := ⟨0x1044, 15, 0⟩
@[simp] def CLK.PLL_STAT.SEL_REQ : FieldRef := ⟨0x1048, 12, 12⟩
@[simp] def CLK.PLL_STAT.COAST : FieldRef := ⟨0x1048, 11, 11⟩
@[simp] def CLK.PLL_STAT.TIMEBASE_LOST : FieldRef := ⟨0x1048, 10, 10⟩
@[simp] def CLK.PLL_STAT.SEL : FieldRef := ⟨0x1048, 9, 9⟩
@[simp] def CLK.PLL_STAT.B_DOOR : FieldRef := ⟨0x1048, 7, 6⟩
@[simp] def CLK.PLL_STAT.B_STATE : FieldRef := ⟨0x1048, 5, 4⟩
@[simp] def CLK.PLL_STAT.A_DOOR : FieldRef := ⟨0x1048, 3, 2⟩
@[simp] def CLK.PLL_STAT.A_STATE : FieldRef := ⟨0x1048, 1, 0⟩
@[simp] def CLK.FAILOVER_CNT.COUNT : FieldRef := ⟨0x104c, 31, 0⟩
@[simp] def CLK.LAST_FAILOVER_TICK_LO.TICK : FieldRef := ⟨0x1050, 31, 0⟩
@[simp] def CLK.LAST_FAILOVER_TICK_HI.TICK : FieldRef := ⟨0x1054, 31, 0⟩
@[simp] def CLK.TRIM.TRIM : FieldRef := ⟨0x1058, 15, 0⟩
@[simp] def CLK.TRIM_LIVE.TRIM : FieldRef := ⟨0x105c, 15, 0⟩
@[simp] def CLK.TICK_LO.TICK : FieldRef := ⟨0x1060, 31, 0⟩
@[simp] def CLK.TICK_HI.TICK : FieldRef := ⟨0x1064, 31, 0⟩
@[simp] def CLK.TICK_SUB.ST : FieldRef := ⟨0x1068, 6, 0⟩
@[simp] def CLK.HT_OFS_LO.OFS : FieldRef := ⟨0x1070, 31, 0⟩
@[simp] def CLK.HT_OFS_HI.OFS : FieldRef := ⟨0x1074, 31, 0⟩
@[simp] def CLK.HT_OFS_FRAC.FRAC : FieldRef := ⟨0x1078, 15, 0⟩
@[simp] def CLK.HT_NOW_LO.NS : FieldRef := ⟨0x107c, 31, 0⟩
@[simp] def CLK.HT_NOW_HI.NS : FieldRef := ⟨0x1080, 31, 0⟩
@[simp] def CLK.HT_DELTA_LO.DELTA : FieldRef := ⟨0x1084, 31, 0⟩
@[simp] def CLK.HT_DELTA_HI.DELTA : FieldRef := ⟨0x1088, 31, 0⟩
@[simp] def CLK.HT_CMD.SLEW_RATE : FieldRef := ⟨0x108c, 27, 16⟩
@[simp] def CLK.HT_CMD.CMD : FieldRef := ⟨0x108c, 1, 0⟩
@[simp] def CLK.HT_STAT.REFUSED : FieldRef := ⟨0x1090, 2, 2⟩
@[simp] def CLK.HT_STAT.SLEW_ACTIVE : FieldRef := ⟨0x1090, 1, 1⟩
@[simp] def CLK.HT_STAT.HT_VALID : FieldRef := ⟨0x1090, 0, 0⟩
@[simp] def CLK.HT_REMAIN.REMAIN : FieldRef := ⟨0x1094, 31, 0⟩
@[simp] def CLK.SSC_CFG.FREQ1 : FieldRef := ⟨0x1098, 14, 13⟩
@[simp] def CLK.SSC_CFG.DEPTH1 : FieldRef := ⟨0x1098, 12, 9⟩
@[simp] def CLK.SSC_CFG.EN1 : FieldRef := ⟨0x1098, 8, 8⟩
@[simp] def CLK.SSC_CFG.FREQ0 : FieldRef := ⟨0x1098, 6, 5⟩
@[simp] def CLK.SSC_CFG.DEPTH0 : FieldRef := ⟨0x1098, 4, 1⟩
@[simp] def CLK.SSC_CFG.EN0 : FieldRef := ⟨0x1098, 0, 0⟩
@[simp] def PWR.DVFS_TARGET.LEVEL : FieldRef := ⟨0x2040, 1, 0⟩
@[simp] def PWR.DVFS_STAT.RESULT : FieldRef := ⟨0x2044, 7, 5⟩
@[simp] def PWR.DVFS_STAT.IN_PROGRESS : FieldRef := ⟨0x2044, 4, 4⟩
@[simp] def PWR.DVFS_STAT.LEVEL : FieldRef := ⟨0x2044, 1, 0⟩
@[simp] def PWR.DVFS_TIMING.V_TIMEOUT : FieldRef := ⟨0x2048, 31, 16⟩
@[simp] def PWR.DVFS_TIMING.V_SETTLE : FieldRef := ⟨0x2048, 15, 0⟩
@[simp] def PWR.DVFS_LAST_TICK_LO.TICK : FieldRef := ⟨0x204c, 31, 0⟩
@[simp] def PWR.DVFS_LAST_TICK_HI.TICK : FieldRef := ⟨0x2050, 31, 0⟩
@[simp] def PWR.VID_MAP.P2_VID : FieldRef := ⟨0x2054, 8, 6⟩
@[simp] def PWR.VID_MAP.P1_VID : FieldRef := ⟨0x2054, 5, 3⟩
@[simp] def PWR.VID_MAP.P0_VID : FieldRef := ⟨0x2054, 2, 0⟩
@[simp] def PWR.SLOW_CFG.SEL : FieldRef := ⟨0x2058, 2, 0⟩
@[simp] def PWR.SLOW_STAT.SLOW_LOST : FieldRef := ⟨0x205c, 3, 3⟩
@[simp] def PWR.SLOW_STAT.VALID : FieldRef := ⟨0x205c, 2, 2⟩
@[simp] def PWR.SLOW_STAT.DOOR : FieldRef := ⟨0x205c, 1, 0⟩
@[simp] def PWR.VCORE_STAT.VID_OUT : FieldRef := ⟨0x2060, 2, 0⟩
@[simp] def INP.CFG.SER_PARITY (n : Nat) : FieldRef := ⟨0x40040 + n * 0x1000, 14, 14⟩
@[simp] def INP.CFG.SER_GRAY (n : Nat) : FieldRef := ⟨0x40040 + n * 0x1000, 13, 13⟩
@[simp] def INP.CFG.INDEX (n : Nat) : FieldRef := ⟨0x40040 + n * 0x1000, 12, 11⟩
@[simp] def INP.CFG.TSEL (n : Nat) : FieldRef := ⟨0x40040 + n * 0x1000, 10, 10⟩
@[simp] def INP.CFG.XMODE (n : Nat) : FieldRef := ⟨0x40040 + n * 0x1000, 9, 8⟩
@[simp] def INP.CFG.DIRINV (n : Nat) : FieldRef := ⟨0x40040 + n * 0x1000, 7, 7⟩
@[simp] def INP.CFG.DIRSRC (n : Nat) : FieldRef := ⟨0x40040 + n * 0x1000, 6, 5⟩
@[simp] def INP.CFG.EDGE (n : Nat) : FieldRef := ⟨0x40040 + n * 0x1000, 4, 4⟩
@[simp] def INP.CFG.CLASS (n : Nat) : FieldRef := ⟨0x40040 + n * 0x1000, 3, 3⟩
@[simp] def INP.CFG.MODE (n : Nat) : FieldRef := ⟨0x40040 + n * 0x1000, 2, 0⟩
@[simp] def INP.FILT.FCLK (n : Nat) : FieldRef := ⟨0x40044 + n * 0x1000, 31, 30⟩
@[simp] def INP.FILT.N_Z (n : Nat) : FieldRef := ⟨0x40044 + n * 0x1000, 29, 20⟩
@[simp] def INP.FILT.N_B (n : Nat) : FieldRef := ⟨0x40044 + n * 0x1000, 19, 10⟩
@[simp] def INP.FILT.N_A (n : Nat) : FieldRef := ⟨0x40044 + n * 0x1000, 9, 0⟩
@[simp] def INP.INDEX_VAL.VAL (n : Nat) : FieldRef := ⟨0x40048 + n * 0x1000, 31, 0⟩
@[simp] def INP.COUNT_MOD.MOD (n : Nat) : FieldRef := ⟨0x4004c + n * 0x1000, 31, 0⟩
@[simp] def INP.SOFT_LO.LIM (n : Nat) : FieldRef := ⟨0x40050 + n * 0x1000, 31, 0⟩
@[simp] def INP.SOFT_HI.LIM (n : Nat) : FieldRef := ⟨0x40054 + n * 0x1000, 31, 0⟩
@[simp] def INP.PWD_CFG.MAX (n : Nat) : FieldRef := ⟨0x40058 + n * 0x1000, 31, 16⟩
@[simp] def INP.PWD_CFG.THR (n : Nat) : FieldRef := ⟨0x40058 + n * 0x1000, 15, 0⟩
@[simp] def INP.SER_CFG.SAMPLE_DLY (n : Nat) : FieldRef := ⟨0x4005c + n * 0x1000, 23, 16⟩
@[simp] def INP.SER_CFG.DIV (n : Nat) : FieldRef := ⟨0x4005c + n * 0x1000, 15, 8⟩
@[simp] def INP.SER_CFG.BITS (n : Nat) : FieldRef := ⟨0x4005c + n * 0x1000, 5, 0⟩
@[simp] def INP.SER_TIMING.PERIOD (n : Nat) : FieldRef := ⟨0x40060 + n * 0x1000, 31, 16⟩
@[simp] def INP.SER_TIMING.TIMEOUT (n : Nat) : FieldRef := ⟨0x40060 + n * 0x1000, 11, 0⟩
@[simp] def INP.SER_LAT_COMP.COMP (n : Nat) : FieldRef := ⟨0x40064 + n * 0x1000, 15, 0⟩
@[simp] def INP.DIR_DB.DB (n : Nat) : FieldRef := ⟨0x40068 + n * 0x1000, 15, 0⟩
@[simp] def INP.STROKE_REC.PERIOD (n : Nat) : FieldRef := ⟨0x4006c + n * 0x1000, 15, 0⟩
@[simp] def INP.CMP_CTRL.CMP_MODE (n : Nat) : FieldRef := ⟨0x40070 + n * 0x1000, 1, 0⟩
@[simp] def INP.CMP_PULSE.PW1 (n : Nat) : FieldRef := ⟨0x40074 + n * 0x1000, 31, 16⟩
@[simp] def INP.CMP_PULSE.PW0 (n : Nat) : FieldRef := ⟨0x40074 + n * 0x1000, 15, 0⟩
@[simp] def INP.CMP_POS.POS (n : Nat) (k : Nat) : FieldRef := ⟨0x40080 + n * 0x1000 + k * 8, 31, 0⟩
@[simp] def INP.CMP_CTL.DIRQ (n : Nat) (k : Nat) : FieldRef := ⟨0x40084 + n * 0x1000 + k * 8, 5, 4⟩
@[simp] def INP.CMP_CTL.ACT (n : Nat) (k : Nat) : FieldRef := ⟨0x40084 + n * 0x1000 + k * 8, 3, 2⟩
@[simp] def INP.CMP_CTL.OUT (n : Nat) (k : Nat) : FieldRef := ⟨0x40084 + n * 0x1000 + k * 8, 1, 1⟩
@[simp] def INP.CMP_CTL.EN (n : Nat) (k : Nat) : FieldRef := ⟨0x40084 + n * 0x1000 + k * 8, 0, 0⟩
@[simp] def INP.COUNT_NOW.COUNT (n : Nat) : FieldRef := ⟨0x40100 + n * 0x1000, 31, 0⟩
@[simp] def INP.LATCH_POS.POS (n : Nat) : FieldRef := ⟨0x40104 + n * 0x1000, 31, 0⟩
@[simp] def INP.LATCH_TS_LO.TICK (n : Nat) : FieldRef := ⟨0x40108 + n * 0x1000, 31, 0⟩
@[simp] def INP.LATCH_TS_HI.TICK (n : Nat) : FieldRef := ⟨0x4010c + n * 0x1000, 31, 0⟩
@[simp] def INP.LATCH_INFO.DIRCHG (n : Nat) : FieldRef := ⟨0x40110 + n * 0x1000, 9, 9⟩
@[simp] def INP.LATCH_INFO.NOPERIOD (n : Nat) : FieldRef := ⟨0x40110 + n * 0x1000, 8, 8⟩
@[simp] def INP.LATCH_INFO.DIR (n : Nat) : FieldRef := ⟨0x40110 + n * 0x1000, 7, 7⟩
@[simp] def INP.LATCH_INFO.ST (n : Nat) : FieldRef := ⟨0x40110 + n * 0x1000, 6, 0⟩
@[simp] def INP.INDEX_POS.POS (n : Nat) : FieldRef := ⟨0x40114 + n * 0x1000, 31, 0⟩
@[simp] def INP.CH_STAT.WORD_BUSY (n : Nat) : FieldRef := ⟨0x40118 + n * 0x1000, 17, 17⟩
@[simp] def INP.CH_STAT.DIR (n : Nat) : FieldRef := ⟨0x40118 + n * 0x1000, 16, 16⟩
@[simp] def INP.CH_STAT.CFG_REJ (n : Nat) : FieldRef := ⟨0x40118 + n * 0x1000, 12, 12⟩
@[simp] def INP.CH_STAT.SER_SKIP (n : Nat) : FieldRef := ⟨0x40118 + n * 0x1000, 11, 11⟩
@[simp] def INP.CH_STAT.TOOTH_RATE (n : Nat) : FieldRef := ⟨0x40118 + n * 0x1000, 10, 10⟩
@[simp] def INP.CH_STAT.EDGE_OVF (n : Nat) : FieldRef := ⟨0x40118 + n * 0x1000, 9, 9⟩
@[simp] def INP.CH_STAT.SER_PARITY (n : Nat) : FieldRef := ⟨0x40118 + n * 0x1000, 8, 8⟩
@[simp] def INP.CH_STAT.SER_TIMEOUT (n : Nat) : FieldRef := ⟨0x40118 + n * 0x1000, 7, 7⟩
@[simp] def INP.CH_STAT.SER_WARN (n : Nat) : FieldRef := ⟨0x40118 + n * 0x1000, 6, 6⟩
@[simp] def INP.CH_STAT.SER_ERRBIT (n : Nat) : FieldRef := ⟨0x40118 + n * 0x1000, 5, 5⟩
@[simp] def INP.CH_STAT.SER_CRC (n : Nat) : FieldRef := ⟨0x40118 + n * 0x1000, 4, 4⟩
@[simp] def INP.CH_STAT.PWD_ERR (n : Nat) : FieldRef := ⟨0x40118 + n * 0x1000, 3, 3⟩
@[simp] def INP.CH_STAT.QUAD_ERR (n : Nat) : FieldRef := ⟨0x40118 + n * 0x1000, 2, 2⟩
@[simp] def INP.CH_STAT.LIM_HI (n : Nat) : FieldRef := ⟨0x40118 + n * 0x1000, 1, 1⟩
@[simp] def INP.CH_STAT.LIM_LO (n : Nat) : FieldRef := ⟨0x40118 + n * 0x1000, 0, 0⟩
@[simp] def INP.SER_RAW_LO.BITS (n : Nat) : FieldRef := ⟨0x4011c + n * 0x1000, 31, 0⟩
@[simp] def INP.SER_RAW_HI.BITS (n : Nat) : FieldRef := ⟨0x40120 + n * 0x1000, 8, 0⟩
@[simp] def INP.DIRCHG_CNT.COUNT (n : Nat) : FieldRef := ⟨0x40124 + n * 0x1000, 31, 0⟩
@[simp] def INP.SKIP_CNT.COUNT (n : Nat) : FieldRef := ⟨0x40128 + n * 0x1000, 31, 0⟩
@[simp] def WHL.CFG.SRC_CH (n : Nat) : FieldRef := ⟨0x10040 + n * 0x1000, 31, 26⟩
@[simp] def WHL.CFG.CAM_CH (n : Nat) : FieldRef := ⟨0x10040 + n * 0x1000, 25, 20⟩
@[simp] def WHL.CFG.CAM_EN (n : Nat) : FieldRef := ⟨0x10040 + n * 0x1000, 19, 19⟩
@[simp] def WHL.CFG.CAM_HALF (n : Nat) : FieldRef := ⟨0x10040 + n * 0x1000, 18, 18⟩
@[simp] def WHL.CFG.RESUME (n : Nat) : FieldRef := ⟨0x10040 + n * 0x1000, 17, 17⟩
@[simp] def WHL.CFG.AUTO_RESYNC (n : Nat) : FieldRef := ⟨0x10040 + n * 0x1000, 16, 16⟩
@[simp] def WHL.CFG.PRESC (n : Nat) : FieldRef := ⟨0x10040 + n * 0x1000, 15, 12⟩
@[simp] def WHL.CFG.PATTERN (n : Nat) : FieldRef := ⟨0x10040 + n * 0x1000, 11, 10⟩
@[simp] def WHL.CFG.POS_M1 (n : Nat) : FieldRef := ⟨0x10040 + n * 0x1000, 9, 0⟩
@[simp] def WHL.SYNC_CFG.RISE (n : Nat) : FieldRef := ⟨0x10044 + n * 0x1000, 31, 24⟩
@[simp] def WHL.SYNC_CFG.FALL (n : Nat) : FieldRef := ⟨0x10044 + n * 0x1000, 23, 16⟩
@[simp] def WHL.SYNC_CFG.LOSS_TOL (n : Nat) : FieldRef := ⟨0x10044 + n * 0x1000, 3, 1⟩
@[simp] def WHL.SYNC_CFG.EN (n : Nat) : FieldRef := ⟨0x10044 + n * 0x1000, 0, 0⟩
@[simp] def WHL.STALL.STALL_TO (n : Nat) : FieldRef := ⟨0x10048 + n * 0x1000, 23, 0⟩
@[simp] def WHL.CAM_LO.ANGLE (n : Nat) : FieldRef := ⟨0x1004c + n * 0x1000, 19, 0⟩
@[simp] def WHL.CAM_HI.ANGLE (n : Nat) : FieldRef := ⟨0x10050 + n * 0x1000, 19, 0⟩
@[simp] def WHL.CMD.CMD (n : Nat) : FieldRef := ⟨0x10054 + n * 0x1000, 1, 0⟩
@[simp] def WHL.CORR_CTL.LEARN_REVS (n : Nat) : FieldRef := ⟨0x10058 + n * 0x1000, 23, 16⟩
@[simp] def WHL.CORR_CTL.STEADY (n : Nat) : FieldRef := ⟨0x10058 + n * 0x1000, 15, 8⟩
@[simp] def WHL.CORR_CTL.CORR_CMD (n : Nat) : FieldRef := ⟨0x10058 + n * 0x1000, 2, 0⟩
@[simp] def WHL.CORR_STAT.REVS_DONE (n : Nat) : FieldRef := ⟨0x1005c + n * 0x1000, 31, 16⟩
@[simp] def WHL.CORR_STAT.RESULT (n : Nat) : FieldRef := ⟨0x1005c + n * 0x1000, 6, 4⟩
@[simp] def WHL.CORR_STAT.STATE (n : Nat) : FieldRef := ⟨0x1005c + n * 0x1000, 1, 0⟩
@[simp] def WHL.CORR_SEL.TBL (n : Nat) : FieldRef := ⟨0x10060 + n * 0x1000, 1, 1⟩
@[simp] def WHL.CORR_SEL.BANK (n : Nat) : FieldRef := ⟨0x10060 + n * 0x1000, 0, 0⟩
@[simp] def WHL.STAT.LOSS_CAUSE (n : Nat) : FieldRef := ⟨0x10064 + n * 0x1000, 14, 12⟩
@[simp] def WHL.STAT.HALF (n : Nat) : FieldRef := ⟨0x10064 + n * 0x1000, 9, 9⟩
@[simp] def WHL.STAT.CFG_MISMATCH (n : Nat) : FieldRef := ⟨0x10064 + n * 0x1000, 8, 8⟩
@[simp] def WHL.STAT.RESUMED (n : Nat) : FieldRef := ⟨0x10064 + n * 0x1000, 7, 7⟩
@[simp] def WHL.STAT.HOLD (n : Nat) : FieldRef := ⟨0x10064 + n * 0x1000, 6, 6⟩
@[simp] def WHL.STAT.DIR (n : Nat) : FieldRef := ⟨0x10064 + n * 0x1000, 5, 5⟩
@[simp] def WHL.STAT.SPEED_VALID (n : Nat) : FieldRef := ⟨0x10064 + n * 0x1000, 4, 4⟩
@[simp] def WHL.STAT.ANGLE_VALID (n : Nat) : FieldRef := ⟨0x10064 + n * 0x1000, 3, 3⟩
@[simp] def WHL.STAT.STATE (n : Nat) : FieldRef := ⟨0x10064 + n * 0x1000, 2, 0⟩
@[simp] def WHL.FLAGS.GAP_MISS (n : Nat) : FieldRef := ⟨0x10068 + n * 0x1000, 5, 5⟩
@[simp] def WHL.FLAGS.OVERSPEED (n : Nat) : FieldRef := ⟨0x10068 + n * 0x1000, 4, 4⟩
@[simp] def WHL.FLAGS.CAM_STRAY (n : Nat) : FieldRef := ⟨0x10068 + n * 0x1000, 3, 3⟩
@[simp] def WHL.FLAGS.CAM_MISS (n : Nat) : FieldRef := ⟨0x10068 + n * 0x1000, 2, 2⟩
@[simp] def WHL.FLAGS.CAM_ERR (n : Nat) : FieldRef := ⟨0x10068 + n * 0x1000, 1, 1⟩
@[simp] def WHL.FLAGS.CAND_FAIL (n : Nat) : FieldRef := ⟨0x10068 + n * 0x1000, 0, 0⟩
@[simp] def WHL.ANGLE.ANGLE (n : Nat) : FieldRef := ⟨0x1006c + n * 0x1000, 19, 0⟩
@[simp] def WHL.REV.REV (n : Nat) : FieldRef := ⟨0x10070 + n * 0x1000, 31, 0⟩
@[simp] def WHL.REV_EPOCH.EPOCH (n : Nat) : FieldRef := ⟨0x10074 + n * 0x1000, 15, 0⟩
@[simp] def WHL.SPEED_B.B (n : Nat) : FieldRef := ⟨0x10078 + n * 0x1000, 31, 0⟩
@[simp] def WHL.EDGE_TS_LO.TICK (n : Nat) : FieldRef := ⟨0x1007c + n * 0x1000, 31, 0⟩
@[simp] def WHL.EDGE_TS_HI.TICK (n : Nat) : FieldRef := ⟨0x10080 + n * 0x1000, 31, 0⟩
@[simp] def WHL.EDGE_INFO.ST (n : Nat) : FieldRef := ⟨0x10084 + n * 0x1000, 16, 10⟩
@[simp] def WHL.EDGE_INFO.TOOTH (n : Nat) : FieldRef := ⟨0x10084 + n * 0x1000, 9, 0⟩
@[simp] def WHL.ZERO.ZERO (n : Nat) : FieldRef := ⟨0x10088 + n * 0x1000, 31, 0⟩
@[simp] def WHL.LOSS_CNT.COUNT (n : Nat) : FieldRef := ⟨0x1008c + n * 0x1000, 31, 0⟩
@[simp] def WHL.CAND_FAIL_CNT.COUNT (n : Nat) : FieldRef := ⟨0x10090 + n * 0x1000, 31, 0⟩
@[simp] def WHL.CAM_MISS_CNT.COUNT (n : Nat) : FieldRef := ⟨0x10094 + n * 0x1000, 31, 0⟩
@[simp] def WHL.GAP_SKIP_CNT.COUNT (n : Nat) : FieldRef := ⟨0x10098 + n * 0x1000, 31, 0⟩
@[simp] def WHL.LEARN_SKIP_CNT.COUNT (n : Nat) : FieldRef := ⟨0x1009c + n * 0x1000, 31, 0⟩
@[simp] def WHL.RING_HEAD.HEAD (n : Nat) : FieldRef := ⟨0x100a0 + n * 0x1000, 9, 0⟩
@[simp] def WHL.RING_BANK.BANK (n : Nat) : FieldRef := ⟨0x100a4 + n * 0x1000, 2, 0⟩
@[simp] def SCN.CAP.ENABLED : FieldRef := ⟨0x70040, 27, 16⟩
@[simp] def SCN.CAP.ENTRIES : FieldRef := ⟨0x70040, 15, 8⟩
@[simp] def SCN.CAP.DOMAINS : FieldRef := ⟨0x70040, 4, 0⟩
@[simp] def SCN.STAT.HEALTHY : FieldRef := ⟨0x70044, 27, 16⟩
@[simp] def SCN.STAT.LIMIT : FieldRef := ⟨0x70044, 15, 8⟩
@[simp] def SCN.STAT.LOST : FieldRef := ⟨0x70044, 2, 2⟩
@[simp] def SCN.STAT.DEGRADED : FieldRef := ⟨0x70044, 1, 1⟩
@[simp] def SCN.STAT.SCANNING : FieldRef := ⟨0x70044, 0, 0⟩
@[simp] def SCN.DOMAIN_SHUT.MASK : FieldRef := ⟨0x70048, 15, 0⟩
@[simp] def SCN.COACH_SEL.COACH : FieldRef := ⟨0x7004c, 10, 0⟩
@[simp] def SCN.COACH_STAT.CAUSE : FieldRef := ⟨0x70050, 18, 16⟩
@[simp] def SCN.COACH_STAT.OCC : FieldRef := ⟨0x70050, 15, 8⟩
@[simp] def SCN.COACH_STAT.STATE : FieldRef := ⟨0x70050, 2, 0⟩
@[simp] def SCN.COACH_CE.COUNT : FieldRef := ⟨0x70054, 31, 0⟩
@[simp] def SCN.CE_CNT.COUNT : FieldRef := ⟨0x70058, 31, 0⟩
@[simp] def SCN.UE_CNT.COUNT : FieldRef := ⟨0x7005c, 31, 0⟩
@[simp] def SCN.DISPUTE_CNT.COUNT : FieldRef := ⟨0x70060, 31, 0⟩
@[simp] def SCN.SINGLE_SLOTS.COUNT : FieldRef := ⟨0x70064, 17, 0⟩
@[simp] def SCN.LOST_SLOTS.COUNT : FieldRef := ⟨0x70068, 31, 0⟩
@[simp] def SCN.LAST_LOST.HANDLE : FieldRef := ⟨0x7006c, 16, 0⟩
@[simp] def SCN.CE_LIMIT.WIN : FieldRef := ⟨0x70070, 15, 8⟩
@[simp] def SCN.CE_LIMIT.LIMIT : FieldRef := ⟨0x70070, 7, 0⟩
@[simp] def SCN.STAGE_SLOTS.OVERFLOW : FieldRef := ⟨0x70074, 13, 13⟩
@[simp] def SCN.STAGE_SLOTS.COUNT : FieldRef := ⟨0x70074, 12, 0⟩
@[simp] def SCN.PEEK_ADDR.CARRIAGE : FieldRef := ⟨0x70078, 17, 0⟩
@[simp] def SCN.PEEK_LO.MATCH : FieldRef := ⟨0x7007c, 31, 0⟩
@[simp] def SCN.PEEK_MID.MATCH : FieldRef := ⟨0x70080, 31, 0⟩
@[simp] def SCN.PEEK_HI.MATCH : FieldRef := ⟨0x70084, 15, 0⟩
@[simp] def SCN.COACH_OUT.MASK (k : Nat) : FieldRef := ⟨0x70100 + k * 4, 31, 0⟩
@[simp] def PLC.CMD.ARG : FieldRef := ⟨0x71040, 26, 16⟩
@[simp] def PLC.CMD.CMD : FieldRef := ⟨0x71040, 3, 0⟩
@[simp] def PLC.STAT.ARG : FieldRef := ⟨0x71044, 26, 16⟩
@[simp] def PLC.STAT.HOLD_LVL : FieldRef := ⟨0x71044, 9, 8⟩
@[simp] def PLC.STAT.HOLD_EN : FieldRef := ⟨0x71044, 7, 7⟩
@[simp] def PLC.STAT.RESULT : FieldRef := ⟨0x71044, 6, 4⟩
@[simp] def PLC.STAT.STATE : FieldRef := ⟨0x71044, 3, 0⟩
@[simp] def PLC.FREE_P0.FREE : FieldRef := ⟨0x71048, 17, 0⟩
@[simp] def PLC.FREE_P1.FREE : FieldRef := ⟨0x7104c, 17, 0⟩
@[simp] def PLC.FREE_P2.FREE : FieldRef := ⟨0x71050, 17, 0⟩
@[simp] def PLC.PROT_ROOM.SLOTS : FieldRef := ⟨0x71054, 17, 0⟩
@[simp] def PLC.OCCUPIED.CARRIAGES : FieldRef := ⟨0x71058, 17, 0⟩
@[simp] def PLC.MOVE_BACKLOG.MOVES : FieldRef := ⟨0x7105c, 17, 0⟩
@[simp] def PLC.PROMOTE_CNT.COUNT : FieldRef := ⟨0x71060, 31, 0⟩
@[simp] def PLC.MAP_SWITCH_CNT.COUNT : FieldRef := ⟨0x71064, 31, 0⟩
@[simp] def PLC.LAST_SWITCH_LO.TICK : FieldRef := ⟨0x71068, 31, 0⟩
@[simp] def PLC.LAST_SWITCH_HI.TICK : FieldRef := ⟨0x7106c, 31, 0⟩
@[simp] def PLC.RECREATE_PEND.SLOTS : FieldRef := ⟨0x71070, 17, 0⟩
@[simp] def PLC.SPREAD.SLACK : FieldRef := ⟨0x71074, 15, 0⟩
@[simp] def PLC.HANDLE_SEL.HANDLE : FieldRef := ⟨0x71078, 16, 0⟩
@[simp] def PLC.HANDLE_LOC_A.VALID : FieldRef := ⟨0x7107c, 31, 31⟩
@[simp] def PLC.HANDLE_LOC_A.ROLE : FieldRef := ⟨0x7107c, 30, 29⟩
@[simp] def PLC.HANDLE_LOC_A.CARRIAGE : FieldRef := ⟨0x7107c, 17, 0⟩
@[simp] def PLC.HANDLE_LOC_B.VALID : FieldRef := ⟨0x71080, 31, 31⟩
@[simp] def PLC.HANDLE_LOC_B.ROLE : FieldRef := ⟨0x71080, 30, 29⟩
@[simp] def PLC.HANDLE_LOC_B.CARRIAGE : FieldRef := ⟨0x71080, 17, 0⟩
@[simp] def LNK.CFG.MINLEAD (n : Nat) : FieldRef := ⟨0x80040 + n * 0x1000, 23, 20⟩
@[simp] def LNK.CFG.L (n : Nat) : FieldRef := ⟨0x80040 + n * 0x1000, 14, 8⟩
@[simp] def LNK.CMD.CMD (n : Nat) : FieldRef := ⟨0x80044 + n * 0x1000, 1, 0⟩
@[simp] def LNK.STAT.NODES (n : Nat) : FieldRef := ⟨0x80048 + n * 0x1000, 23, 17⟩
@[simp] def LNK.STAT.CAUSE (n : Nat) : FieldRef := ⟨0x80048 + n * 0x1000, 16, 14⟩
@[simp] def LNK.STAT.RING (n : Nat) : FieldRef := ⟨0x80048 + n * 0x1000, 12, 12⟩
@[simp] def LNK.STAT.STATE (n : Nat) : FieldRef := ⟨0x80048 + n * 0x1000, 2, 0⟩
@[simp] def LNK.PRESENT_LO.MASK (n : Nat) : FieldRef := ⟨0x8004c + n * 0x1000, 31, 0⟩
@[simp] def LNK.PRESENT_HI.MASK (n : Nat) : FieldRef := ⟨0x80050 + n * 0x1000, 31, 0⟩
@[simp] def LNK.SEG_B_LO.MASK (n : Nat) : FieldRef := ⟨0x80054 + n * 0x1000, 31, 0⟩
@[simp] def LNK.SEG_B_HI.MASK (n : Nat) : FieldRef := ⟨0x80058 + n * 0x1000, 31, 0⟩
@[simp] def LNK.NODE_SEL.NODE (n : Nat) : FieldRef := ⟨0x8005c + n * 0x1000, 5, 0⟩
@[simp] def LNK.DLY_P.VALID (n : Nat) : FieldRef := ⟨0x80060 + n * 0x1000, 31, 31⟩
@[simp] def LNK.DLY_P.DELAY (n : Nat) : FieldRef := ⟨0x80060 + n * 0x1000, 22, 0⟩
@[simp] def LNK.DLY_Q.VALID (n : Nat) : FieldRef := ⟨0x80064 + n * 0x1000, 31, 31⟩
@[simp] def LNK.DLY_Q.DELAY (n : Nat) : FieldRef := ⟨0x80064 + n * 0x1000, 22, 0⟩
@[simp] def LNK.NODE_STAT.FAULTS (n : Nat) : FieldRef := ⟨0x80068 + n * 0x1000, 15, 8⟩
@[simp] def LNK.NODE_STAT.NSTATE (n : Nat) : FieldRef := ⟨0x80068 + n * 0x1000, 7, 0⟩
@[simp] def LNK.DLIM.DLIM (n : Nat) : FieldRef := ⟨0x8006c + n * 0x1000, 15, 0⟩
@[simp] def LNK.LOOP.LOOP (n : Nat) : FieldRef := ⟨0x80070 + n * 0x1000, 15, 0⟩
@[simp] def LNK.QUEUE.SREQ (n : Nat) : FieldRef := ⟨0x80074 + n * 0x1000, 24, 16⟩
@[simp] def LNK.QUEUE.DEADLINE (n : Nat) : FieldRef := ⟨0x80074 + n * 0x1000, 10, 0⟩
@[simp] def LNK.REC_CFG.NDEF_EN (n : Nat) : FieldRef := ⟨0x80078 + n * 0x1000, 15, 15⟩
@[simp] def LNK.REC_CFG.NDEF_CLS (n : Nat) : FieldRef := ⟨0x80078 + n * 0x1000, 14, 12⟩
@[simp] def LNK.REC_CFG.STAT_EN (n : Nat) : FieldRef := ⟨0x80078 + n * 0x1000, 11, 11⟩
@[simp] def LNK.REC_CFG.STAT_CLS (n : Nat) : FieldRef := ⟨0x80078 + n * 0x1000, 10, 8⟩
@[simp] def LNK.REC_CFG.SMP_EN (n : Nat) : FieldRef := ⟨0x80078 + n * 0x1000, 7, 7⟩
@[simp] def LNK.REC_CFG.SMP_CLS (n : Nat) : FieldRef := ⟨0x80078 + n * 0x1000, 6, 4⟩
@[simp] def LNK.MGMT_TX_A.OPCODE (n : Nat) : FieldRef := ⟨0x8007c + n * 0x1000, 12, 6⟩
@[simp] def LNK.MGMT_TX_A.NODE (n : Nat) : FieldRef := ⟨0x8007c + n * 0x1000, 5, 0⟩
@[simp] def LNK.MGMT_TX_B.DATA (n : Nat) : FieldRef := ⟨0x80080 + n * 0x1000, 22, 0⟩
@[simp] def LNK.CMD_CNT.COUNT (n : Nat) : FieldRef := ⟨0x80084 + n * 0x1000, 31, 0⟩
@[simp] def LNK.LATE_LINK_CNT.COUNT (n : Nat) : FieldRef := ⟨0x80088 + n * 0x1000, 31, 0⟩
@[simp] def LNK.QFULL_CNT.COUNT (n : Nat) : FieldRef := ⟨0x8008c + n * 0x1000, 31, 0⟩
@[simp] def LNK.SREQ_LATE_CNT.COUNT (n : Nat) : FieldRef := ⟨0x80090 + n * 0x1000, 31, 0⟩
@[simp] def LNK.PROMO_CNT.COUNT (n : Nat) : FieldRef := ⟨0x80094 + n * 0x1000, 31, 0⟩
@[simp] def LNK.ERR_A.MISS (n : Nat) : FieldRef := ⟨0x80098 + n * 0x1000, 31, 16⟩
@[simp] def LNK.ERR_A.CRC (n : Nat) : FieldRef := ⟨0x80098 + n * 0x1000, 15, 0⟩
@[simp] def LNK.ERR_B.MISS (n : Nat) : FieldRef := ⟨0x8009c + n * 0x1000, 31, 16⟩
@[simp] def LNK.ERR_B.CRC (n : Nat) : FieldRef := ⟨0x8009c + n * 0x1000, 15, 0⟩
@[simp] def LNK.WRAP_CNT.COUNT (n : Nat) : FieldRef := ⟨0x800a0 + n * 0x1000, 31, 0⟩
@[simp] def LNK.SEQ_GAP_CNT.COUNT (n : Nat) : FieldRef := ⟨0x800a4 + n * 0x1000, 31, 0⟩
@[simp] def LNK.LAST_WRAP_LO.TICK (n : Nat) : FieldRef := ⟨0x800a8 + n * 0x1000, 31, 0⟩
@[simp] def LNK.LAST_WRAP_HI.TICK (n : Nat) : FieldRef := ⟨0x800ac + n * 0x1000, 31, 0⟩
@[simp] def LNK.UPMAP.OWNER (n : Nat) (k : Nat) : FieldRef := ⟨0x80100 + n * 0x1000 + k * 4, 6, 0⟩
@[simp] def DRV.CFG.PERIOD (n : Nat) : FieldRef := ⟨0x90040 + n * 0x1000, 31, 16⟩
@[simp] def DRV.CFG.BLANK (n : Nat) : FieldRef := ⟨0x90040 + n * 0x1000, 15, 8⟩
@[simp] def DRV.CFG.HYST (n : Nat) : FieldRef := ⟨0x90040 + n * 0x1000, 2, 1⟩
@[simp] def DRV.CFG.DIP_EN (n : Nat) : FieldRef := ⟨0x90040 + n * 0x1000, 0, 0⟩
@[simp] def DRV.REF.SLOPE (n : Nat) : FieldRef := ⟨0x90044 + n * 0x1000, 23, 16⟩
@[simp] def DRV.REF.REF (n : Nat) : FieldRef := ⟨0x90044 + n * 0x1000, 9, 0⟩
@[simp] def DRV.MIN_OFF.MIN_OFF (n : Nat) : FieldRef := ⟨0x90048 + n * 0x1000, 23, 0⟩
@[simp] def DRV.DUTY.DUTY_PM (n : Nat) : FieldRef := ⟨0x9004c + n * 0x1000, 25, 16⟩
@[simp] def DRV.DUTY.W_MS (n : Nat) : FieldRef := ⟨0x9004c + n * 0x1000, 9, 0⟩
@[simp] def DRV.DIP_CFG.DIP_THR (n : Nat) : FieldRef := ⟨0x90050 + n * 0x1000, 31, 24⟩
@[simp] def DRV.DIP_CFG.DIP_MIN (n : Nat) : FieldRef := ⟨0x90050 + n * 0x1000, 9, 0⟩
@[simp] def DRV.DIP_WIN.WIN (n : Nat) : FieldRef := ⟨0x90054 + n * 0x1000, 15, 0⟩
@[simp] def DRV.CTRL.CMP_CLR (n : Nat) : FieldRef := ⟨0x90058 + n * 0x1000, 0, 0⟩
@[simp] def DRV.STAT.SHUT_CAUSE (n : Nat) : FieldRef := ⟨0x9005c + n * 0x1000, 13, 12⟩
@[simp] def DRV.STAT.OC_CNT (n : Nat) : FieldRef := ⟨0x9005c + n * 0x1000, 11, 10⟩
@[simp] def DRV.STAT.PASSES (n : Nat) : FieldRef := ⟨0x9005c + n * 0x1000, 9, 6⟩
@[simp] def DRV.STAT.COMP (n : Nat) : FieldRef := ⟨0x9005c + n * 0x1000, 4, 4⟩
@[simp] def DRV.STAT.LATCH (n : Nat) : FieldRef := ⟨0x9005c + n * 0x1000, 3, 3⟩
@[simp] def DRV.STAT.EVENT (n : Nat) : FieldRef := ⟨0x9005c + n * 0x1000, 2, 2⟩
@[simp] def DRV.STAT.DEMAND (n : Nat) : FieldRef := ⟨0x9005c + n * 0x1000, 1, 1⟩
@[simp] def DRV.STAT.GATE (n : Nat) : FieldRef := ⟨0x9005c + n * 0x1000, 0, 0⟩
@[simp] def DRV.FLAGS.OVERLAP (n : Nat) : FieldRef := ⟨0x90060 + n * 0x1000, 6, 6⟩
@[simp] def DRV.FLAGS.DIP_NONE (n : Nat) : FieldRef := ⟨0x90060 + n * 0x1000, 5, 5⟩
@[simp] def DRV.FLAGS.SKIP (n : Nat) : FieldRef := ⟨0x90060 + n * 0x1000, 4, 4⟩
@[simp] def DRV.FLAGS.OFF_DELAY (n : Nat) : FieldRef := ⟨0x90060 + n * 0x1000, 3, 3⟩
@[simp] def DRV.FLAGS.DUTY_CUT (n : Nat) : FieldRef := ⟨0x90060 + n * 0x1000, 2, 2⟩
@[simp] def DRV.FLAGS.OC_SHUT (n : Nat) : FieldRef := ⟨0x90060 + n * 0x1000, 1, 1⟩
@[simp] def DRV.FLAGS.OC_TRIP (n : Nat) : FieldRef := ⟨0x90060 + n * 0x1000, 0, 0⟩
@[simp] def DRV.DUTY_USED.USED (n : Nat) : FieldRef := ⟨0x90064 + n * 0x1000, 31, 0⟩
@[simp] def DRV.DUTY_BUDGET.B (n : Nat) : FieldRef := ⟨0x90068 + n * 0x1000, 31, 0⟩
@[simp] def DRV.LAST_END_LO.TICK (n : Nat) : FieldRef := ⟨0x9006c + n * 0x1000, 31, 0⟩
@[simp] def DRV.LAST_END_HI.TICK (n : Nat) : FieldRef := ⟨0x90070 + n * 0x1000, 31, 0⟩
@[simp] def DRV.LAST_END_ST.ST (n : Nat) : FieldRef := ⟨0x90074 + n * 0x1000, 6, 0⟩
@[simp] def DRV.DIP_LAST.STATUS (n : Nat) : FieldRef := ⟨0x90078 + n * 0x1000, 31, 30⟩
@[simp] def DRV.DIP_LAST.DEPTH (n : Nat) : FieldRef := ⟨0x90078 + n * 0x1000, 9, 0⟩
@[simp] def DRV.DIP_T_MAX.TICK (n : Nat) : FieldRef := ⟨0x9007c + n * 0x1000, 31, 0⟩
@[simp] def DRV.DIP_T_MIN.TICK (n : Nat) : FieldRef := ⟨0x90080 + n * 0x1000, 31, 0⟩
@[simp] def DRV.TRIP_CNT.COUNT (n : Nat) : FieldRef := ⟨0x90084 + n * 0x1000, 31, 0⟩
@[simp] def DRV.CUT_CNT.COUNT (n : Nat) : FieldRef := ⟨0x90088 + n * 0x1000, 31, 0⟩
@[simp] def DRV.DELAY_CNT.COUNT (n : Nat) : FieldRef := ⟨0x9008c + n * 0x1000, 31, 0⟩
@[simp] def DRV.SKIP_CNT.COUNT (n : Nat) : FieldRef := ⟨0x90090 + n * 0x1000, 31, 0⟩
@[simp] def DRV.EVENT_CNT.COUNT (n : Nat) : FieldRef := ⟨0x90094 + n * 0x1000, 31, 0⟩
@[simp] def ADC.SEQ_CTL.REC_EN (n : Nat) : FieldRef := ⟨0xd0040 + n * 0x1000, 8, 8⟩
@[simp] def ADC.SEQ_CTL.REC_CLS (n : Nat) : FieldRef := ⟨0xd0040 + n * 0x1000, 7, 5⟩
@[simp] def ADC.SEQ_CTL.RUN (n : Nat) : FieldRef := ⟨0xd0040 + n * 0x1000, 4, 4⟩
@[simp] def ADC.SEQ_CTL.LEN_M1 (n : Nat) : FieldRef := ⟨0xd0040 + n * 0x1000, 3, 0⟩
@[simp] def ADC.CMD.CAL_IN (n : Nat) : FieldRef := ⟨0xd0044 + n * 0x1000, 7, 4⟩
@[simp] def ADC.CMD.CMD (n : Nat) : FieldRef := ⟨0xd0044 + n * 0x1000, 1, 0⟩
@[simp] def ADC.URG_TRIG.EN (n : Nat) (k : Nat) : FieldRef := ⟨0xd0048 + n * 0x1000 + k * 4, 13, 13⟩
@[simp] def ADC.URG_TRIG.LINE (n : Nat) (k : Nat) : FieldRef := ⟨0xd0048 + n * 0x1000 + k * 4, 12, 4⟩
@[simp] def ADC.URG_TRIG.ENTRY (n : Nat) (k : Nat) : FieldRef := ⟨0xd0048 + n * 0x1000 + k * 4, 3, 0⟩
@[simp] def ADC.DATA.URG (n : Nat) : FieldRef := ⟨0xd0058 + n * 0x1000, 26, 26⟩
@[simp] def ADC.DATA.RAW (n : Nat) : FieldRef := ⟨0xd0058 + n * 0x1000, 25, 16⟩
@[simp] def ADC.DATA.ENTRY (n : Nat) : FieldRef := ⟨0xd0058 + n * 0x1000, 15, 12⟩
@[simp] def ADC.DATA.CAL (n : Nat) : FieldRef := ⟨0xd0058 + n * 0x1000, 11, 11⟩
@[simp] def ADC.DATA.CODE (n : Nat) : FieldRef := ⟨0xd0058 + n * 0x1000, 9, 0⟩
@[simp] def ADC.DATA_TICK_LO.TICK (n : Nat) : FieldRef := ⟨0xd005c + n * 0x1000, 31, 0⟩
@[simp] def ADC.DATA_TICK_HI.TICK (n : Nat) : FieldRef := ⟨0xd0060 + n * 0x1000, 31, 0⟩
@[simp] def ADC.STAT.POS (n : Nat) : FieldRef := ⟨0xd0064 + n * 0x1000, 19, 16⟩
@[simp] def ADC.STAT.URG_DEPTH (n : Nat) : FieldRef := ⟨0xd0064 + n * 0x1000, 15, 12⟩
@[simp] def ADC.STAT.CAL_BUSY (n : Nat) : FieldRef := ⟨0xd0064 + n * 0x1000, 11, 11⟩
@[simp] def ADC.STAT.CAL_RESULT (n : Nat) : FieldRef := ⟨0xd0064 + n * 0x1000, 10, 8⟩
@[simp] def ADC.STAT.CAL_CNT (n : Nat) : FieldRef := ⟨0xd0064 + n * 0x1000, 7, 5⟩
@[simp] def ADC.STAT.URG_DROP (n : Nat) : FieldRef := ⟨0xd0064 + n * 0x1000, 2, 2⟩
@[simp] def ADC.STAT.OVR (n : Nat) : FieldRef := ⟨0xd0064 + n * 0x1000, 1, 1⟩
@[simp] def ADC.STAT.PENDING (n : Nat) : FieldRef := ⟨0xd0064 + n * 0x1000, 0, 0⟩
@[simp] def ADC.WIN_FLAGS.EXIT (n : Nat) : FieldRef := ⟨0xd0068 + n * 0x1000, 15, 0⟩
@[simp] def ADC.WIN_STATE.STATE (n : Nat) : FieldRef := ⟨0xd006c + n * 0x1000, 31, 0⟩
@[simp] def ADC.CONV_CNT.COUNT (n : Nat) : FieldRef := ⟨0xd0070 + n * 0x1000, 31, 0⟩
@[simp] def ADC.URG_CNT.COUNT (n : Nat) : FieldRef := ⟨0xd0074 + n * 0x1000, 31, 0⟩
@[simp] def ADC.OVR_CNT.COUNT (n : Nat) : FieldRef := ⟨0xd0078 + n * 0x1000, 31, 0⟩
@[simp] def ADC.DROP_CNT.COUNT (n : Nat) : FieldRef := ⟨0xd007c + n * 0x1000, 31, 0⟩
@[simp] def ADC.SEQ.HI (n : Nat) (k : Nat) : FieldRef := ⟨0xd0080 + n * 0x1000 + k * 4, 31, 22⟩
@[simp] def ADC.SEQ.LO (n : Nat) (k : Nat) : FieldRef := ⟨0xd0080 + n * 0x1000 + k * 4, 21, 12⟩
@[simp] def ADC.SEQ.WIN_EN (n : Nat) (k : Nat) : FieldRef := ⟨0xd0080 + n * 0x1000 + k * 4, 11, 11⟩
@[simp] def ADC.SEQ.DRQ (n : Nat) (k : Nat) : FieldRef := ⟨0xd0080 + n * 0x1000 + k * 4, 10, 10⟩
@[simp] def ADC.SEQ.REC (n : Nat) (k : Nat) : FieldRef := ⟨0xd0080 + n * 0x1000 + k * 4, 9, 9⟩
@[simp] def ADC.SEQ.INPUT (n : Nat) (k : Nat) : FieldRef := ⟨0xd0080 + n * 0x1000 + k * 4, 3, 0⟩
@[simp] def ADC.CAL.F16 (n : Nat) (k : Nat) : FieldRef := ⟨0xd0100 + n * 0x1000 + k * 8, 29, 16⟩
@[simp] def ADC.CAL.Z16 (n : Nat) (k : Nat) : FieldRef := ⟨0xd0100 + n * 0x1000 + k * 8, 13, 0⟩
@[simp] def ADC.GAIN.GAIN (n : Nat) (k : Nat) : FieldRef := ⟨0xd0104 + n * 0x1000 + k * 8, 15, 0⟩
@[simp] def REC.CART_CLS.PROV_CLS : FieldRef := ⟨0xe0040, 22, 20⟩
@[simp] def REC.CART_CLS.COMMIT_CLS : FieldRef := ⟨0xe0040, 18, 16⟩
@[simp] def REC.CART_CLS.MARKER_CLS : FieldRef := ⟨0xe0040, 14, 12⟩
@[simp] def REC.CART_CLS.STROKE_CLS : FieldRef := ⟨0xe0040, 10, 8⟩
@[simp] def REC.CART_CLS.EVENT_CLS : FieldRef := ⟨0xe0040, 6, 4⟩
@[simp] def REC.CART_CLS.TOOTH_CLS : FieldRef := ⟨0xe0040, 2, 0⟩
@[simp] def HEAD.PG_ID.BLOCK (p : Nat) : FieldRef := ⟨p + 0x0, 31, 16⟩
@[simp] def HEAD.PG_ID.INST (p : Nat) : FieldRef := ⟨p + 0x0, 15, 8⟩
@[simp] def HEAD.PG_ID.VERSION (p : Nat) : FieldRef := ⟨p + 0x0, 7, 0⟩
@[simp] def HEAD.PG_CAP.COMMIT (p : Nat) : FieldRef := ⟨p + 0x4, 7, 7⟩
@[simp] def HEAD.PG_CAP.SHUTTER (p : Nat) : FieldRef := ⟨p + 0x4, 6, 6⟩
@[simp] def HEAD.PG_CAP.NSRC (p : Nat) : FieldRef := ⟨p + 0x4, 5, 0⟩
@[simp] def HEAD.PG_CTRL.DISCARD (p : Nat) : FieldRef := ⟨p + 0x8, 0, 0⟩
@[simp] def HEAD.PG_STAT.PENDING (p : Nat) : FieldRef := ⟨p + 0xc, 8, 4⟩
@[simp] def HEAD.PG_STAT.STAGED (p : Nat) : FieldRef := ⟨p + 0xc, 3, 3⟩
@[simp] def HEAD.PG_STAT.OUTCOME (p : Nat) : FieldRef := ⟨p + 0xc, 2, 0⟩
@[simp] def HEAD.PG_IRQ_RAW.SRC (p : Nat) : FieldRef := ⟨p + 0x10, 31, 0⟩
@[simp] def HEAD.PG_IRQ_EN.EN (p : Nat) : FieldRef := ⟨p + 0x14, 31, 0⟩
@[simp] def HEAD.PG_IRQ_STAT.STAT (p : Nat) : FieldRef := ⟨p + 0x18, 31, 0⟩
@[simp] def HEAD.PG_SHUTTER.FAULT (p : Nat) : FieldRef := ⟨p + 0x1c, 1, 1⟩
@[simp] def HEAD.PG_SHUTTER.SHUT (p : Nat) : FieldRef := ⟨p + 0x1c, 0, 0⟩
@[simp] def HEAD.PG_COMMIT.TICK (p : Nat) : FieldRef := ⟨p + 0x20, 31, 0⟩
@[simp] def HEAD.PG_COMMIT_HI.TICK (p : Nat) : FieldRef := ⟨p + 0x24, 31, 0⟩
@[simp] def HEAD.PG_OWNER.WRITE (p : Nat) : FieldRef := ⟨p + 0x28, 8, 8⟩
@[simp] def HEAD.PG_OWNER.DOORS (p : Nat) : FieldRef := ⟨p + 0x28, 7, 4⟩
@[simp] def HEAD.PG_OWNER.COMP (p : Nat) : FieldRef := ⟨p + 0x28, 1, 0⟩
@[simp] def HEAD.PG_ERRCNT.COUNT (p : Nat) : FieldRef := ⟨p + 0x2c, 31, 0⟩
@[simp] def DOR.DOOR_ID.COMP (n : Nat) : FieldRef := ⟨0x150040 + n * 0x1000, 5, 4⟩
@[simp] def DOR.DOOR_ID.DOOR (n : Nat) : FieldRef := ⟨0x150040 + n * 0x1000, 1, 0⟩
@[simp] def DOR.LINK_STAT.WIDTH (n : Nat) : FieldRef := ⟨0x150044 + n * 0x1000, 7, 4⟩
@[simp] def DOR.LINK_STAT.SPEED (n : Nat) : FieldRef := ⟨0x150044 + n * 0x1000, 3, 0⟩
@[simp] def DOR.DOOR_STAT.HB_ARMED (n : Nat) : FieldRef := ⟨0x150048 + n * 0x1000, 8, 8⟩
@[simp] def DOR.DOOR_STAT.CAUSE (n : Nat) : FieldRef := ⟨0x150048 + n * 0x1000, 6, 4⟩
@[simp] def DOR.DOOR_STAT.STATE (n : Nat) : FieldRef := ⟨0x150048 + n * 0x1000, 1, 0⟩
@[simp] def DOR.CTRL.RELEASE (n : Nat) : FieldRef := ⟨0x15004c + n * 0x1000, 1, 1⟩
@[simp] def DOR.CTRL.SHUT (n : Nat) : FieldRef := ⟨0x15004c + n * 0x1000, 0, 0⟩
@[simp] def DOR.HEARTBEAT.BEAT (n : Nat) : FieldRef := ⟨0x150050 + n * 0x1000, 31, 0⟩
@[simp] def DOR.HB_PERIOD.PERIOD (n : Nat) : FieldRef := ⟨0x150054 + n * 0x1000, 23, 0⟩
@[simp] def DOR.VIOL_CNT.COUNT (n : Nat) : FieldRef := ⟨0x150058 + n * 0x1000, 7, 0⟩
@[simp] def DOR.VIOL_ADDR.SPACE (n : Nat) : FieldRef := ⟨0x15005c + n * 0x1000, 31, 31⟩
@[simp] def DOR.VIOL_ADDR.OFFSET (n : Nat) : FieldRef := ⟨0x15005c + n * 0x1000, 23, 0⟩
@[simp] def DOR.SHUT_TICK_LO.TICK (n : Nat) : FieldRef := ⟨0x150060 + n * 0x1000, 31, 0⟩
@[simp] def DOR.SHUT_TICK_HI.TICK (n : Nat) : FieldRef := ⟨0x150064 + n * 0x1000, 31, 0⟩
@[simp] def DOR.FORM_CNT.COUNT (n : Nat) : FieldRef := ⟨0x150068 + n * 0x1000, 31, 0⟩
@[simp] def DOR.DOWN_CNT.COUNT (n : Nat) : FieldRef := ⟨0x15006c + n * 0x1000, 31, 0⟩
@[simp] def DOR.RESULT_HANDLE.HANDLE (n : Nat) : FieldRef := ⟨0x150080 + n * 0x1000, 16, 0⟩
@[simp] def DOR.RESULT_REV.REV (n : Nat) : FieldRef := ⟨0x150084 + n * 0x1000, 31, 0⟩
@[simp] def DOR.RESULT_START.START (n : Nat) : FieldRef := ⟨0x150088 + n * 0x1000, 31, 0⟩
@[simp] def DOR.RESULT_END.END (n : Nat) : FieldRef := ⟨0x15008c + n * 0x1000, 31, 0⟩
@[simp] def GLB.DEV_INFO.STEPPING : FieldRef := ⟨0x40, 7, 0⟩
@[simp] def GLB.DEV_STATE.STATE : FieldRef := ⟨0x44, 3, 0⟩
@[simp] def GLB.DOOR_STATE.STATE : FieldRef := ⟨0x48, 7, 0⟩
@[simp] def GLB.DOOR_MAP.COMP : FieldRef := ⟨0x4c, 7, 0⟩
@[simp] def GLB.COMP_HB1.HB : FieldRef := ⟨0x50, 17, 0⟩
@[simp] def GLB.COMP_HB2.HB : FieldRef := ⟨0x54, 17, 0⟩
@[simp] def GLB.COMP_HB3.HB : FieldRef := ⟨0x58, 17, 0⟩
@[simp] def GLB.COMP_CFG.VIOL_LIMIT (k : Nat) : FieldRef := ⟨0x60 + k * 4, 15, 8⟩
@[simp] def GLB.COMP_CFG.ADMIN (k : Nat) : FieldRef := ⟨0x60 + k * 4, 7, 4⟩
@[simp] def GLB.COMP_CFG.SWITCH (k : Nat) : FieldRef := ⟨0x60 + k * 4, 1, 1⟩
@[simp] def GLB.COMP_CFG.UNPROT (k : Nat) : FieldRef := ⟨0x60 + k * 4, 0, 0⟩
@[simp] def GLB.EP_GROUP.GROUPS (k : Nat) : FieldRef := ⟨0x70 + k * 4, 31, 0⟩
@[simp] def GLB.WHEEL_USE.USE (k : Nat) : FieldRef := ⟨0xa0 + k * 4, 31, 0⟩
@[simp] def GLB.CLASS.CLASSES (k : Nat) : FieldRef := ⟨0xc0 + k * 4, 31, 0⟩
@[simp] def IRQ.SRC_SEL.SOURCE : FieldRef := ⟨0xf0040, 13, 0⟩
@[simp] def IRQ.SRC_CFG.EN : FieldRef := ⟨0xf0044, 31, 31⟩
@[simp] def IRQ.SRC_CFG.MASK : FieldRef := ⟨0xf0044, 30, 30⟩
@[simp] def IRQ.SRC_CFG.TARGET : FieldRef := ⟨0xf0044, 29, 26⟩
@[simp] def IRQ.SRC_CFG.SENSE : FieldRef := ⟨0xf0044, 25, 24⟩
@[simp] def IRQ.SRC_CFG.PRIO : FieldRef := ⟨0xf0044, 23, 20⟩
@[simp] def IRQ.SRC_CFG.GROUP : FieldRef := ⟨0xf0044, 15, 10⟩
@[simp] def IRQ.SRC_CFG.VECTOR : FieldRef := ⟨0xf0044, 9, 0⟩
@[simp] def IRQ.SRC_STAT.STATE : FieldRef := ⟨0xf0048, 29, 28⟩
@[simp] def IRQ.SRC_STAT.CLAIMER : FieldRef := ⟨0xf0048, 27, 26⟩
@[simp] def IRQ.SRC_STAT.LINE : FieldRef := ⟨0xf0048, 25, 25⟩
@[simp] def IRQ.SRC_STAT.REPEND : FieldRef := ⟨0xf0048, 24, 24⟩
@[simp] def IRQ.SRC_STAT.COUNT : FieldRef := ⟨0xf0048, 23, 16⟩
@[simp] def IRQ.SRC_STAT.OUT : FieldRef := ⟨0xf0048, 15, 12⟩
@[simp] def IRQ.SRC_STAT.DUE : FieldRef := ⟨0xf0048, 11, 8⟩
@[simp] def IRQ.SRC_STAT.EXISTS : FieldRef := ⟨0xf0048, 0, 0⟩
@[simp] def IRQ.SRC_TICK_LO.TICK : FieldRef := ⟨0xf004c, 31, 0⟩
@[simp] def IRQ.SRC_TICK_HI.TICK : FieldRef := ⟨0xf0050, 31, 0⟩
@[simp] def IRQ.GRP_SEL.GROUP : FieldRef := ⟨0xf0054, 5, 0⟩
@[simp] def IRQ.GRP_CFG.MODE : FieldRef := ⟨0xf0058, 8, 8⟩
@[simp] def IRQ.GRP_CFG.COUNT_THR : FieldRef := ⟨0xf0058, 7, 0⟩
@[simp] def IRQ.GRP_TIME.TIME : FieldRef := ⟨0xf005c, 31, 16⟩
@[simp] def IRQ.GRP_TIME.HOLDOFF : FieldRef := ⟨0xf005c, 15, 0⟩
@[simp] def IRQ.GRP_STAT.REMAIN : FieldRef := ⟨0xf0060, 31, 16⟩
@[simp] def IRQ.GRP_STAT.EVENTS : FieldRef := ⟨0xf0060, 7, 0⟩
@[simp] def IRQ.PEND_CNT.COUNT : FieldRef := ⟨0xf0064, 13, 0⟩
@[simp] def IRQD.RING_BASE_LO.ADDR (n : Nat) : FieldRef := ⟨0xf1040 + n * 0x1000, 31, 12⟩
@[simp] def IRQD.RING_BASE_HI.ADDR (n : Nat) : FieldRef := ⟨0xf1044 + n * 0x1000, 31, 0⟩
@[simp] def IRQD.RING_CFG.EN (n : Nat) : FieldRef := ⟨0xf1048 + n * 0x1000, 4, 4⟩
@[simp] def IRQD.RING_CFG.SIZE (n : Nat) : FieldRef := ⟨0xf1048 + n * 0x1000, 3, 0⟩
@[simp] def IRQD.RING_PROD.PROD (n : Nat) : FieldRef := ⟨0xf104c + n * 0x1000, 15, 0⟩
@[simp] def IRQD.RING_CONS.CONS (n : Nat) : FieldRef := ⟨0xf1050 + n * 0x1000, 15, 0⟩
@[simp] def IRQD.CLAIM.VECTOR (n : Nat) : FieldRef := ⟨0xf1054 + n * 0x1000, 9, 0⟩
@[simp] def IRQD.EOI.SOURCE (n : Nat) : FieldRef := ⟨0xf1058 + n * 0x1000, 13, 0⟩
@[simp] def IRQD.THR.THR (n : Nat) : FieldRef := ⟨0xf105c + n * 0x1000, 3, 0⟩
@[simp] def IRQD.DOOR_IRQ_STAT.DUE (n : Nat) : FieldRef := ⟨0xf1060 + n * 0x1000, 27, 16⟩
@[simp] def IRQD.DOOR_IRQ_STAT.EOI_ERR (n : Nat) : FieldRef := ⟨0xf1060 + n * 0x1000, 3, 3⟩
@[simp] def IRQD.DOOR_IRQ_STAT.RING_FULL (n : Nat) : FieldRef := ⟨0xf1060 + n * 0x1000, 2, 2⟩
@[simp] def IRQD.DOOR_IRQ_STAT.WAKE (n : Nat) : FieldRef := ⟨0xf1060 + n * 0x1000, 1, 1⟩
@[simp] def IRQD.DOOR_IRQ_STAT.SLEEP (n : Nat) : FieldRef := ⟨0xf1060 + n * 0x1000, 0, 0⟩
@[simp] def IRQD.LAST_CLAIM.SOURCE (n : Nat) : FieldRef := ⟨0xf1064 + n * 0x1000, 29, 16⟩
@[simp] def IRQD.LAST_CLAIM.RESULT (n : Nat) : FieldRef := ⟨0xf1064 + n * 0x1000, 9, 0⟩
@[simp] def IRQD.MSG_CNT.COUNT (n : Nat) : FieldRef := ⟨0xf1068 + n * 0x1000, 31, 0⟩
@[simp] def IRQD.CLAIM_CNT.COUNT (n : Nat) : FieldRef := ⟨0xf106c + n * 0x1000, 31, 0⟩
@[simp] def IRQD.LOST_CNT.COUNT (n : Nat) : FieldRef := ⟨0xf1070 + n * 0x1000, 31, 0⟩
@[simp] def IRQD.DROP_CNT.COUNT (n : Nat) : FieldRef := ⟨0xf1074 + n * 0x1000, 31, 0⟩
@[simp] def IRQD.EOI_ERR_CNT.COUNT (n : Nat) : FieldRef := ⟨0xf1078 + n * 0x1000, 31, 0⟩
@[simp] def TMR.CFG.RUN (n : Nat) : FieldRef := ⟨0x100040 + n * 0x1000, 31, 31⟩
@[simp] def TMR.CFG.ONESHOT (n : Nat) : FieldRef := ⟨0x100040 + n * 0x1000, 30, 30⟩
@[simp] def TMR.CFG.SLAVE (n : Nat) : FieldRef := ⟨0x100040 + n * 0x1000, 29, 27⟩
@[simp] def TMR.CFG.CLKSRC (n : Nat) : FieldRef := ⟨0x100040 + n * 0x1000, 26, 25⟩
@[simp] def TMR.CFG.PSC (n : Nat) : FieldRef := ⟨0x100040 + n * 0x1000, 15, 0⟩
@[simp] def TMR.LINES.CAP_EN (n : Nat) : FieldRef := ⟨0x100044 + n * 0x1000, 31, 31⟩
@[simp] def TMR.LINES.CAP_LINE (n : Nat) : FieldRef := ⟨0x100044 + n * 0x1000, 26, 18⟩
@[simp] def TMR.LINES.SLV_LINE (n : Nat) : FieldRef := ⟨0x100044 + n * 0x1000, 17, 9⟩
@[simp] def TMR.LINES.CLK_LINE (n : Nat) : FieldRef := ⟨0x100044 + n * 0x1000, 8, 0⟩
@[simp] def TMR.RELOAD.RELOAD (n : Nat) : FieldRef := ⟨0x100048 + n * 0x1000, 31, 0⟩
@[simp] def TMR.MATCH.MATCH (n : Nat) : FieldRef := ⟨0x10004c + n * 0x1000, 31, 0⟩
@[simp] def TMR.LOADV.VALUE (n : Nat) : FieldRef := ⟨0x100050 + n * 0x1000, 31, 0⟩
@[simp] def TMR.CMD.CMD (n : Nat) : FieldRef := ⟨0x100054 + n * 0x1000, 1, 0⟩
@[simp] def TMR.COUNT.C (n : Nat) : FieldRef := ⟨0x100058 + n * 0x1000, 31, 0⟩
@[simp] def TMR.PRESC.P (n : Nat) : FieldRef := ⟨0x10005c + n * 0x1000, 15, 0⟩
@[simp] def TMR.CAPTURE.C (n : Nat) : FieldRef := ⟨0x100060 + n * 0x1000, 31, 0⟩
@[simp] def TMR.CAP_TICK_LO.TICK (n : Nat) : FieldRef := ⟨0x100064 + n * 0x1000, 31, 0⟩
@[simp] def TMR.CAP_TICK_HI.TICK (n : Nat) : FieldRef := ⟨0x100068 + n * 0x1000, 31, 0⟩
@[simp] def TMR.CAP_ST.ST (n : Nat) : FieldRef := ⟨0x10006c + n * 0x1000, 6, 0⟩
@[simp] def TMR.STAT.MADEUP (n : Nat) : FieldRef := ⟨0x100070 + n * 0x1000, 4, 4⟩
@[simp] def TMR.STAT.OVERRUN (n : Nat) : FieldRef := ⟨0x100070 + n * 0x1000, 3, 3⟩
@[simp] def TMR.STAT.CAP_FULL (n : Nat) : FieldRef := ⟨0x100070 + n * 0x1000, 2, 2⟩
@[simp] def TMR.STAT.WINDOW (n : Nat) : FieldRef := ⟨0x100070 + n * 0x1000, 1, 1⟩
@[simp] def TMR.STAT.GATE (n : Nat) : FieldRef := ⟨0x100070 + n * 0x1000, 0, 0⟩
@[simp] def TMR.MAKEUP_OVF.COUNT (n : Nat) : FieldRef := ⟨0x100074 + n * 0x1000, 31, 0⟩
@[simp] def TMR.MAKEUP_DT.TICKS (n : Nat) : FieldRef := ⟨0x100078 + n * 0x1000, 31, 0⟩
@[simp] def EVT.ROUTE.EN (k : Nat) : FieldRef := ⟨0x140040 + k * 4, 31, 31⟩
@[simp] def EVT.ROUTE.LINE (k : Nat) : FieldRef := ⟨0x140040 + k * 4, 8, 0⟩
@[simp] def EVT.LINE_SEL.LINE : FieldRef := ⟨0x140300, 8, 0⟩
@[simp] def EVT.LINE_STAT.HOST_TIMED : FieldRef := ⟨0x140304, 31, 31⟩
@[simp] def EVT.LINE_STAT.LEVEL : FieldRef := ⟨0x140304, 30, 30⟩
@[simp] def EVT.LINE_STAT.ROUTES : FieldRef := ⟨0x140304, 23, 16⟩
@[simp] def EVT.LINE_STAT.EDGES : FieldRef := ⟨0x140304, 15, 0⟩
@[simp] def DMA.SRC_LO.ADDR (n : Nat) : FieldRef := ⟨0x120040 + n * 0x1000, 31, 0⟩
@[simp] def DMA.SRC_HI.ADDR (n : Nat) : FieldRef := ⟨0x120044 + n * 0x1000, 31, 0⟩
@[simp] def DMA.DST_LO.ADDR (n : Nat) : FieldRef := ⟨0x120048 + n * 0x1000, 31, 0⟩
@[simp] def DMA.DST_HI.ADDR (n : Nat) : FieldRef := ⟨0x12004c + n * 0x1000, 31, 0⟩
@[simp] def DMA.COUNT.BYTES (n : Nat) : FieldRef := ⟨0x120050 + n * 0x1000, 23, 0⟩
@[simp] def DMA.CFG.SRC_SPACE (n : Nat) : FieldRef := ⟨0x120054 + n * 0x1000, 31, 28⟩
@[simp] def DMA.CFG.DST_SPACE (n : Nat) : FieldRef := ⟨0x120054 + n * 0x1000, 27, 24⟩
@[simp] def DMA.CFG.SRC_INC (n : Nat) : FieldRef := ⟨0x120054 + n * 0x1000, 23, 23⟩
@[simp] def DMA.CFG.DST_INC (n : Nat) : FieldRef := ⟨0x120054 + n * 0x1000, 22, 22⟩
@[simp] def DMA.CFG.UNIT (n : Nat) : FieldRef := ⟨0x120054 + n * 0x1000, 21, 20⟩
@[simp] def DMA.CFG.RETRY (n : Nat) : FieldRef := ⟨0x120054 + n * 0x1000, 19, 16⟩
@[simp] def DMA.CFG.OP (n : Nat) : FieldRef := ⟨0x120054 + n * 0x1000, 15, 14⟩
@[simp] def DMA.CFG.WB_EN (n : Nat) : FieldRef := ⟨0x120054 + n * 0x1000, 13, 13⟩
@[simp] def DMA.CFG.WB_DOOR (n : Nat) : FieldRef := ⟨0x120054 + n * 0x1000, 12, 11⟩
@[simp] def DMA.CFG.TRIG_EN (n : Nat) : FieldRef := ⟨0x120054 + n * 0x1000, 10, 10⟩
@[simp] def DMA.CFG.TRIG_LINE (n : Nat) : FieldRef := ⟨0x120054 + n * 0x1000, 8, 0⟩
@[simp] def DMA.FILL.PATTERN (n : Nat) : FieldRef := ⟨0x120058 + n * 0x1000, 31, 0⟩
@[simp] def DMA.WB_LO.ADDR (n : Nat) : FieldRef := ⟨0x12005c + n * 0x1000, 31, 0⟩
@[simp] def DMA.WB_HI.ADDR (n : Nat) : FieldRef := ⟨0x120060 + n * 0x1000, 31, 0⟩
@[simp] def DMA.CTRL.ABORT (n : Nat) : FieldRef := ⟨0x120064 + n * 0x1000, 1, 1⟩
@[simp] def DMA.CTRL.START (n : Nat) : FieldRef := ⟨0x120064 + n * 0x1000, 0, 0⟩
@[simp] def DMA.STATUS.STATE (n : Nat) : FieldRef := ⟨0x120068 + n * 0x1000, 31, 28⟩
@[simp] def DMA.STATUS.RESULT (n : Nat) : FieldRef := ⟨0x120068 + n * 0x1000, 27, 24⟩
@[simp] def DMA.STATUS.RESIDUE (n : Nat) : FieldRef := ⟨0x120068 + n * 0x1000, 23, 0⟩
@[simp] def DMA.ERR.SIDE (n : Nat) : FieldRef := ⟨0x12006c + n * 0x1000, 31, 28⟩
@[simp] def DMA.ERR.KIND (n : Nat) : FieldRef := ⟨0x12006c + n * 0x1000, 27, 24⟩
@[simp] def DMA.ERR.TRIES (n : Nat) : FieldRef := ⟨0x12006c + n * 0x1000, 3, 0⟩
@[simp] def DMA.START_LOST_CNT.COUNT (n : Nat) : FieldRef := ⟨0x120070 + n * 0x1000, 31, 0⟩
@[simp] def DMA.DONE_CNT.COUNT (n : Nat) : FieldRef := ⟨0x120074 + n * 0x1000, 31, 0⟩
@[simp] def PRF.CMD.PROF : FieldRef := ⟨0x3040, 18, 16⟩
@[simp] def PRF.CMD.CMD : FieldRef := ⟨0x3040, 3, 0⟩
@[simp] def PRF.STAT.RESULT : FieldRef := ⟨0x3044, 31, 28⟩
@[simp] def PRF.STAT.LOAD_CAUSE : FieldRef := ⟨0x3044, 27, 24⟩
@[simp] def PRF.STAT.STOPPING : FieldRef := ⟨0x3044, 23, 23⟩
@[simp] def PRF.STAT.WAKE : FieldRef := ⟨0x3044, 22, 22⟩
@[simp] def PRF.STAT.SW_STATE : FieldRef := ⟨0x3044, 21, 20⟩
@[simp] def PRF.STAT.SW_PROF : FieldRef := ⟨0x3044, 19, 17⟩
@[simp] def PRF.STAT.PROF_LOADED : FieldRef := ⟨0x3044, 16, 14⟩
@[simp] def PRF.STAT.COPY : FieldRef := ⟨0x3044, 13, 13⟩
@[simp] def PRF.STAT.PIN_PROF : FieldRef := ⟨0x3044, 12, 10⟩
@[simp] def PRF.ARM_DELAY.TICKS : FieldRef := ⟨0x3048, 23, 0⟩
@[simp] def PRF.LOAD_ERR.OFFSET : FieldRef := ⟨0x304c, 31, 0⟩
@[simp] def PRF.PROF_ID.ID : FieldRef := ⟨0x3050, 31, 0⟩
@[simp] def PRF.PROF_VER.VERSION : FieldRef := ⟨0x3054, 31, 0⟩
@[simp] def PRF.PROF_CRC.CRC : FieldRef := ⟨0x3058, 31, 0⟩
@[simp] def PRF.FIRST_RUN_LO.TICK : FieldRef := ⟨0x305c, 31, 0⟩
@[simp] def PRF.FIRST_RUN_HI.TICK : FieldRef := ⟨0x3060, 31, 0⟩
@[simp] def PRF.SW_PEND_LO.MASK : FieldRef := ⟨0x3064, 31, 0⟩
@[simp] def PRF.SW_PEND_HI.MASK : FieldRef := ⟨0x3068, 15, 0⟩
@[simp] def PRF.WHEEL_PROF.PROF (k : Nat) : FieldRef := ⟨0x306c + k * 4, 31, 0⟩
@[simp] def PRF.COPY_STAT.STATE : FieldRef := ⟨0x3084, 31, 0⟩
@[simp] def PRF.BIST_STAT.COACH_FAIL : FieldRef := ⟨0x3088, 31, 20⟩
@[simp] def PRF.BIST_STAT.DOMAIN_FAIL : FieldRef := ⟨0x3088, 19, 4⟩
@[simp] def PRF.BIST_STAT.SKIPPED : FieldRef := ⟨0x3088, 1, 1⟩
@[simp] def PRF.BIST_STAT.CORE_FAIL : FieldRef := ⟨0x3088, 0, 0⟩
@[simp] def PRF.FUSE_STAT.KEY_SET : FieldRef := ⟨0x308c, 1, 1⟩
@[simp] def PRF.FUSE_STAT.SIG_REQ : FieldRef := ⟨0x308c, 0, 0⟩
@[simp] def PRF.KEY_HASH.HASH (k : Nat) : FieldRef := ⟨0x3090 + k * 4, 31, 0⟩
@[simp] def PRF.FUSE_CTL.BURN_SIGREQ : FieldRef := ⟨0x30b0, 1, 1⟩
@[simp] def PRF.FUSE_CTL.BURN_KEY : FieldRef := ⟨0x30b0, 0, 0⟩
@[simp] def PRF.WAKE_CFG.PERST_EN : FieldRef := ⟨0x30b4, 7, 4⟩
@[simp] def PRF.WAKE_CFG.IN_EN : FieldRef := ⟨0x30b4, 1, 1⟩
@[simp] def PRF.WAKE_CFG.TIMER_EN : FieldRef := ⟨0x30b4, 0, 0⟩
@[simp] def PRF.WAKE_AT_LO.TICK : FieldRef := ⟨0x30b8, 31, 0⟩
@[simp] def PRF.WAKE_AT_HI.TICK : FieldRef := ⟨0x30bc, 31, 0⟩
@[simp] def PRF.WAKE_CAUSE.PERST : FieldRef := ⟨0x30c0, 7, 4⟩
@[simp] def PRF.WAKE_CAUSE.IN : FieldRef := ⟨0x30c0, 1, 1⟩
@[simp] def PRF.WAKE_CAUSE.TIMER : FieldRef := ⟨0x30c0, 0, 0⟩
@[simp] def PRF.DRAIN_TO.TICKS : FieldRef := ⟨0x30c4, 31, 0⟩
@[simp] def PRF.FL_INFO.VALID : FieldRef := ⟨0x30c8, 31, 31⟩
@[simp] def PRF.FL_INFO.ADDR4 : FieldRef := ⟨0x30c8, 30, 30⟩
@[simp] def PRF.FL_INFO.DUMMY : FieldRef := ⟨0x30c8, 15, 8⟩
@[simp] def PRF.FL_INFO.DENSITY : FieldRef := ⟨0x30c8, 7, 0⟩
@[simp] def PRF.FL_ADDR.ADDR : FieldRef := ⟨0x30cc, 25, 0⟩
@[simp] def PRF.FL_CMD.OP : FieldRef := ⟨0x30d0, 3, 0⟩
@[simp] def PRF.FL_STAT.ACTIVE : FieldRef := ⟨0x30d4, 4, 4⟩
@[simp] def PRF.FL_STAT.RESULT : FieldRef := ⟨0x30d4, 3, 0⟩
@[simp] def PRF.FL_BUF.DATA (k : Nat) : FieldRef := ⟨0x3100 + k * 4, 31, 0⟩
@[simp] def FLT.DEV_FAULT.CAUSE : FieldRef := ⟨0x4040, 15, 8⟩
@[simp] def FLT.DEV_FAULT.FM_SINGLE : FieldRef := ⟨0x4040, 2, 2⟩
@[simp] def FLT.DEV_FAULT.SUPPLY_LOW : FieldRef := ⟨0x4040, 1, 1⟩
@[simp] def FLT.DEV_FAULT.DEV_SHUT : FieldRef := ⟨0x4040, 0, 0⟩
@[simp] def FLT.LOG_COUNT.COUNT : FieldRef := ⟨0x4044, 31, 0⟩
@[simp] def FLT.LOG_SEL.SLOT : FieldRef := ⟨0x4048, 5, 0⟩
@[simp] def FLT.LOG_INFO.CAUSE : FieldRef := ⟨0x404c, 31, 24⟩
@[simp] def FLT.LOG_INFO.BLOCK : FieldRef := ⟨0x404c, 23, 16⟩
@[simp] def FLT.LOG_INFO.INST : FieldRef := ⟨0x404c, 15, 8⟩
@[simp] def FLT.LOG_INFO.ACTION : FieldRef := ⟨0x404c, 7, 6⟩
@[simp] def FLT.LOG_INFO.VALID : FieldRef := ⟨0x404c, 0, 0⟩
@[simp] def FLT.LOG_TICK_LO.TICK : FieldRef := ⟨0x4050, 31, 0⟩
@[simp] def FLT.LOG_TICK_HI.TICK : FieldRef := ⟨0x4054, 31, 0⟩
@[simp] def FLT.LOG_DATA.DATA : FieldRef := ⟨0x4058, 31, 0⟩
@[simp] def FLT.SHUT_CNT.COUNT : FieldRef := ⟨0x405c, 31, 0⟩
@[simp] def FLT.ABSORB_CNT.COUNT : FieldRef := ⟨0x4060, 31, 0⟩
@[simp] def FLT.LEDGER.QUEUED : FieldRef := ⟨0x4064, 13, 8⟩
@[simp] def FLT.LEDGER.ACTIVE : FieldRef := ⟨0x4064, 5, 0⟩
@[simp] def FLT.DOM_CAUSE_LO.CAUSE : FieldRef := ⟨0x4068, 31, 0⟩
@[simp] def FLT.DOM_CAUSE_HI.CAUSE : FieldRef := ⟨0x406c, 31, 0⟩

end Sys2Proof.Machine.Reg
end

