-- ==== Sys2Proof/Machine/RegMap.lean ====
section
/-! DEFINITION. The register map of BAR0 (R286, R287 and the register tables of spec/): for each page the fields of its
registers with their bits, access code (R13), reset value and reserved encodings (R15). -/

namespace Sys2Proof.Machine

/-- R76: registers of the CLK page, part 0. -/
def clkRows0 : List RegRow := [
  ⟨0x40, 0, 1, [⟨23, 16, .rw, 0x64, .nz⟩, ⟨15, 12, .rw, 3, .nz⟩, ⟨11, 8, .rw, 0xf, .any⟩, ⟨7, 0, .rw, 0xe4, .perm⟩]⟩,
  ⟨0x44, 0, 1, [⟨16, 16, .w1c, 0, .any⟩, ⟨15, 0, .ro, 0, .any⟩]⟩,
  ⟨0x48, 0, 1, [⟨12, 12, .wo, 0, .any⟩, ⟨11, 11, .ro, 0, .any⟩, ⟨10, 10, .rh, 0, .any⟩, ⟨9, 9, .ro, 0, .any⟩, ⟨7, 6, .ro, 0, .any⟩, ⟨5, 4, .ro, 0, .any⟩, ⟨3, 2, .ro, 0, .any⟩, ⟨1, 0, .ro, 0, .any⟩]⟩,
  ⟨0x4c, 0, 1, [⟨31, 0, .ro, 0, .any⟩]⟩,
  ⟨0x50, 0, 1, [⟨31, 0, .ro, 0, .any⟩]⟩,
  ⟨0x54, 0, 1, [⟨31, 0, .ro, 0, .any⟩]⟩,
  ⟨0x58, 0, 1, [⟨15, 0, .rwc, 0, .trim⟩]⟩,
  ⟨0x5c, 0, 1, [⟨15, 0, .ro, 0, .any⟩]⟩,
  ⟨0x60, 0, 1, [⟨31, 0, .ro, 0, .any⟩]⟩,
  ⟨0x64, 0, 1, [⟨31, 0, .ro, 0, .any⟩]⟩,
  ⟨0x68, 0, 1, [⟨6, 0, .ro, 0, .any⟩]⟩,
  ⟨0x70, 0, 1, [⟨31, 0, .ro, 0, .any⟩]⟩,
  ⟨0x74, 0, 1, [⟨31, 0, .ro, 0, .any⟩]⟩,
  ⟨0x78, 0, 1, [⟨15, 0, .ro, 0, .any⟩]⟩,
  ⟨0x7c, 0, 1, [⟨31, 0, .ro, 0, .any⟩]⟩,
  ⟨0x80, 0, 1, [⟨31, 0, .ro, 0, .any⟩]⟩]

/-- R76: registers of the CLK page, part 1. -/
def clkRows1 : List RegRow := [
  ⟨0x84, 0, 1, [⟨31, 0, .rwc, 0, .any⟩]⟩,
  ⟨0x88, 0, 1, [⟨31, 0, .rwc, 0, .any⟩]⟩,
  ⟨0x8c, 0, 1, [⟨27, 16, .rwc, 0xa3d, .within 1 2621⟩, ⟨1, 0, .rwc, 0, .any⟩]⟩,
  ⟨0x90, 0, 1, [⟨2, 2, .w1c, 0, .any⟩, ⟨1, 1, .ro, 0, .any⟩, ⟨0, 0, .ro, 0, .any⟩]⟩,
  ⟨0x94, 0, 1, [⟨31, 0, .ro, 0, .any⟩]⟩,
  ⟨0x98, 0, 1, [⟨14, 13, .rw, 0, .any⟩, ⟨12, 9, .rw, 0, .within 0 10⟩, ⟨8, 8, .rw, 0, .any⟩, ⟨6, 5, .rw, 0, .any⟩, ⟨4, 1, .rw, 0, .within 0 10⟩, ⟨0, 0, .rw, 0, .any⟩]⟩]

/-- R76: every register of the CLK page. -/
def clkRows : List RegRow := clkRows0 ++ clkRows1

/-- R77: registers of the PWR page. -/
def pwrRows : List RegRow := [
  ⟨0x40, 0, 1, [⟨1, 0, .rw, 2, .within 0 2⟩]⟩,
  ⟨0x44, 0, 1, [⟨7, 5, .ro, 0, .any⟩, ⟨4, 4, .ro, 0, .any⟩, ⟨1, 0, .ro, 2, .any⟩]⟩,
  ⟨0x48, 0, 1, [⟨31, 16, .rw, 0x1388, .nz⟩, ⟨15, 0, .rw, 0x1f4, .any⟩]⟩,
  ⟨0x4c, 0, 1, [⟨31, 0, .ro, 0, .any⟩]⟩,
  ⟨0x50, 0, 1, [⟨31, 0, .ro, 0, .any⟩]⟩,
  ⟨0x54, 0, 1, [⟨8, 6, .rw, 2, .any⟩, ⟨5, 3, .rw, 1, .any⟩, ⟨2, 0, .rw, 0, .any⟩]⟩,
  ⟨0x58, 0, 1, [⟨2, 0, .rw, 4, .within 0 4⟩]⟩,
  ⟨0x5c, 0, 1, [⟨3, 3, .w1c, 0, .any⟩, ⟨2, 2, .ro, 0, .any⟩, ⟨1, 0, .ro, 0, .any⟩]⟩,
  ⟨0x60, 0, 1, [⟨2, 0, .ro, 2, .any⟩]⟩]

/-- R109: registers of the INP page, part 0. -/
def inpRows0 : List RegRow := [
  ⟨0x40, 0, 1, [⟨14, 14, .rwc, 0, .any⟩, ⟨13, 13, .rwc, 0, .any⟩, ⟨12, 11, .rwc, 0, .within 0 2⟩, ⟨10, 10, .rwc, 0, .any⟩, ⟨9, 8, .rwc, 2, .within 0 2⟩, ⟨7, 7, .rwc, 0, .any⟩, ⟨6, 5, .rwc, 0, .within 0 2⟩, ⟨4, 4, .rwc, 0, .any⟩, ⟨3, 3, .rwc, 0, .any⟩, ⟨2, 0, .rwc, 0, .within 0 5⟩]⟩,
  ⟨0x44, 0, 1, [⟨31, 30, .rwc, 0, .within 0 2⟩, ⟨29, 20, .rwc, 8, .nz⟩, ⟨19, 10, .rwc, 8, .nz⟩, ⟨9, 0, .rwc, 8, .nz⟩]⟩,
  ⟨0x48, 0, 1, [⟨31, 0, .rwc, 0, .any⟩]⟩,
  ⟨0x4c, 0, 1, [⟨31, 0, .rwc, 0x400, .nz⟩]⟩,
  ⟨0x50, 0, 1, [⟨31, 0, .rwc, 0x80000000, .any⟩]⟩,
  ⟨0x54, 0, 1, [⟨31, 0, .rwc, 0x7fffffff, .any⟩]⟩,
  ⟨0x58, 0, 1, [⟨31, 16, .rwc, 0x7d0, .nz⟩, ⟨15, 0, .rwc, 0x151, .nz⟩]⟩,
  ⟨0x5c, 0, 1, [⟨23, 16, .rwc, 0, .any⟩, ⟨15, 8, .rwc, 3, .any⟩, ⟨5, 0, .rwc, 0x18, .within 8 32⟩]⟩,
  ⟨0x60, 0, 1, [⟨31, 16, .rwc, 0x32, .nz⟩, ⟨11, 0, .rwc, 0x14, .nz⟩]⟩,
  ⟨0x64, 0, 1, [⟨15, 0, .rwc, 0, .any⟩]⟩,
  ⟨0x68, 0, 1, [⟨15, 0, .rwc, 0, .any⟩]⟩,
  ⟨0x6c, 0, 1, [⟨15, 0, .rwc, 0, .any⟩]⟩,
  ⟨0x70, 0, 1, [⟨1, 0, .rwc, 0, .within 0 2⟩]⟩,
  ⟨0x74, 0, 1, [⟨31, 16, .rwc, 5, .nz⟩, ⟨15, 0, .rwc, 5, .nz⟩]⟩,
  ⟨0x80, 8, 16, [⟨31, 0, .rwc, 0, .any⟩]⟩,
  ⟨0x84, 8, 16, [⟨5, 4, .rwc, 0, .within 0 2⟩, ⟨3, 2, .rwc, 0, .any⟩, ⟨1, 1, .rwc, 0, .any⟩, ⟨0, 0, .rwc, 0, .any⟩]⟩]

/-- R109: registers of the INP page, part 1. -/
def inpRows1 : List RegRow := [
  ⟨0x100, 0, 1, [⟨31, 0, .ro, 0, .any⟩]⟩,
  ⟨0x104, 0, 1, [⟨31, 0, .ro, 0, .any⟩]⟩,
  ⟨0x108, 0, 1, [⟨31, 0, .ro, 0, .any⟩]⟩,
  ⟨0x10c, 0, 1, [⟨31, 0, .ro, 0, .any⟩]⟩,
  ⟨0x110, 0, 1, [⟨9, 9, .ro, 0, .any⟩, ⟨8, 8, .ro, 0, .any⟩, ⟨7, 7, .ro, 0, .any⟩, ⟨6, 0, .ro, 0, .any⟩]⟩,
  ⟨0x114, 0, 1, [⟨31, 0, .ro, 0, .any⟩]⟩,
  ⟨0x118, 0, 1, [⟨17, 17, .ro, 0, .any⟩, ⟨16, 16, .ro, 0, .any⟩, ⟨12, 12, .w1c, 0, .any⟩, ⟨11, 11, .w1c, 0, .any⟩, ⟨10, 10, .w1c, 0, .any⟩, ⟨9, 9, .w1c, 0, .any⟩, ⟨8, 8, .w1c, 0, .any⟩, ⟨7, 7, .w1c, 0, .any⟩, ⟨6, 6, .w1c, 0, .any⟩, ⟨5, 5, .w1c, 0, .any⟩, ⟨4, 4, .w1c, 0, .any⟩, ⟨3, 3, .w1c, 0, .any⟩, ⟨2, 2, .w1c, 0, .any⟩, ⟨1, 1, .w1c, 0, .any⟩, ⟨0, 0, .w1c, 0, .any⟩]⟩,
  ⟨0x11c, 0, 1, [⟨31, 0, .ro, 0, .any⟩]⟩,
  ⟨0x120, 0, 1, [⟨8, 0, .ro, 0, .any⟩]⟩,
  ⟨0x124, 0, 1, [⟨31, 0, .ro, 0, .any⟩]⟩,
  ⟨0x128, 0, 1, [⟨31, 0, .ro, 0, .any⟩]⟩]

/-- R109: every register of the INP page. -/
def inpRows : List RegRow := inpRows0 ++ inpRows1

/-- R139: registers of the WHL page, part 0. -/
def whlRows0 : List RegRow := [
  ⟨0x40, 0, 1, [⟨31, 26, .rwc, 0, .within 0 47⟩, ⟨25, 20, .rwc, 0, .within 0 47⟩, ⟨19, 19, .rwc, 0, .any⟩, ⟨18, 18, .rwc, 0, .any⟩, ⟨17, 17, .rwc, 0, .any⟩, ⟨16, 16, .rwc, 1, .any⟩, ⟨15, 12, .rwc, 0, .any⟩, ⟨11, 10, .rwc, 0, .any⟩, ⟨9, 0, .rwc, 0xb3, .any⟩]⟩,
  ⟨0x44, 0, 1, [⟨31, 24, .rwc, 0, .zeroOrFrom 17⟩, ⟨23, 16, .rwc, 0, .within 0 15⟩, ⟨3, 1, .rwc, 0, .any⟩, ⟨0, 0, .rwc, 0, .any⟩]⟩,
  ⟨0x48, 0, 1, [⟨23, 0, .rwc, 0x7a120, .nz⟩]⟩,
  ⟨0x4c, 0, 1, [⟨19, 0, .rwc, 0, .camAngle⟩]⟩,
  ⟨0x50, 0, 1, [⟨19, 0, .rwc, 0, .camAngle⟩]⟩,
  ⟨0x54, 0, 1, [⟨1, 0, .rwc, 0, .within 0 1⟩]⟩,
  ⟨0x58, 0, 1, [⟨23, 16, .rwc, 0x10, .nz⟩, ⟨15, 8, .rwc, 4, .nz⟩, ⟨2, 0, .rwc, 0, .within 0 4⟩]⟩,
  ⟨0x5c, 0, 1, [⟨31, 16, .ro, 0, .any⟩, ⟨6, 4, .ro, 0, .any⟩, ⟨1, 0, .ro, 0, .any⟩]⟩,
  ⟨0x60, 0, 1, [⟨1, 1, .rw, 0, .any⟩, ⟨0, 0, .rw, 0, .any⟩]⟩,
  ⟨0x64, 0, 1, [⟨14, 12, .ro, 0, .any⟩, ⟨9, 9, .ro, 0, .any⟩, ⟨8, 8, .ro, 0, .any⟩, ⟨7, 7, .ro, 0, .any⟩, ⟨6, 6, .ro, 0, .any⟩, ⟨5, 5, .ro, 0, .any⟩, ⟨4, 4, .ro, 0, .any⟩, ⟨3, 3, .ro, 0, .any⟩, ⟨2, 0, .ro, 0, .any⟩]⟩,
  ⟨0x68, 0, 1, [⟨5, 5, .w1c, 0, .any⟩, ⟨4, 4, .w1c, 0, .any⟩, ⟨3, 3, .w1c, 0, .any⟩, ⟨2, 2, .w1c, 0, .any⟩, ⟨1, 1, .w1c, 0, .any⟩, ⟨0, 0, .w1c, 0, .any⟩]⟩,
  ⟨0x6c, 0, 1, [⟨19, 0, .ro, 0, .any⟩]⟩,
  ⟨0x70, 0, 1, [⟨31, 0, .ro, 0, .any⟩]⟩,
  ⟨0x74, 0, 1, [⟨15, 0, .ro, 0, .any⟩]⟩,
  ⟨0x78, 0, 1, [⟨31, 0, .ro, 0, .any⟩]⟩,
  ⟨0x7c, 0, 1, [⟨31, 0, .ro, 0, .any⟩]⟩]

/-- R139: registers of the WHL page, part 1. -/
def whlRows1 : List RegRow := [
  ⟨0x80, 0, 1, [⟨31, 0, .ro, 0, .any⟩]⟩,
  ⟨0x84, 0, 1, [⟨16, 10, .ro, 0, .any⟩, ⟨9, 0, .ro, 0, .any⟩]⟩,
  ⟨0x88, 0, 1, [⟨31, 0, .ro, 0, .any⟩]⟩,
  ⟨0x8c, 0, 1, [⟨31, 0, .ro, 0, .any⟩]⟩,
  ⟨0x90, 0, 1, [⟨31, 0, .ro, 0, .any⟩]⟩,
  ⟨0x94, 0, 1, [⟨31, 0, .ro, 0, .any⟩]⟩,
  ⟨0x98, 0, 1, [⟨31, 0, .ro, 0, .any⟩]⟩,
  ⟨0x9c, 0, 1, [⟨31, 0, .ro, 0, .any⟩]⟩,
  ⟨0xa0, 0, 1, [⟨9, 0, .ro, 0, .any⟩]⟩,
  ⟨0xa4, 0, 1, [⟨2, 0, .rw, 0, .any⟩]⟩,
  ⟨0x400, 4, 256, [⟨25, 16, .rw, 0, .any⟩, ⟨9, 0, .rw, 0, .any⟩]⟩,
  ⟨0x800, 16, 128, [⟨31, 0, .ro, 0, .any⟩]⟩,
  ⟨0x804, 16, 128, [⟨31, 0, .ro, 0, .any⟩]⟩,
  ⟨0x808, 16, 128, [⟨31, 0, .ro, 0, .any⟩]⟩,
  ⟨0x80c, 16, 128, [⟨23, 23, .ro, 0, .any⟩, ⟨22, 22, .ro, 0, .any⟩, ⟨21, 21, .ro, 0, .any⟩, ⟨20, 20, .ro, 0, .any⟩, ⟨16, 10, .ro, 0, .any⟩, ⟨9, 0, .ro, 0, .any⟩]⟩]

/-- R139: every register of the WHL page. -/
def whlRows : List RegRow := whlRows0 ++ whlRows1

/-- R199: registers of the SCN page, part 0. -/
def scnRows0 : List RegRow := [
  ⟨0x40, 0, 1, [⟨27, 16, .ro, 0, .any⟩, ⟨15, 8, .ro, 0x80, .any⟩, ⟨4, 0, .ro, 0x10, .any⟩]⟩,
  ⟨0x44, 0, 1, [⟨27, 16, .ro, 0, .any⟩, ⟨15, 8, .ro, 0x40, .any⟩, ⟨2, 2, .w1c, 0, .any⟩, ⟨1, 1, .ro, 0, .any⟩, ⟨0, 0, .ro, 0, .any⟩]⟩,
  ⟨0x48, 0, 1, [⟨15, 0, .ro, 0, .any⟩]⟩,
  ⟨0x4c, 0, 1, [⟨10, 0, .rw, 0, .any⟩]⟩,
  ⟨0x50, 0, 1, [⟨18, 16, .ro, 0, .any⟩, ⟨15, 8, .ro, 0, .any⟩, ⟨2, 0, .ro, 0, .any⟩]⟩,
  ⟨0x54, 0, 1, [⟨31, 0, .ro, 0, .any⟩]⟩,
  ⟨0x58, 0, 1, [⟨31, 0, .ro, 0, .any⟩]⟩,
  ⟨0x5c, 0, 1, [⟨31, 0, .ro, 0, .any⟩]⟩,
  ⟨0x60, 0, 1, [⟨31, 0, .ro, 0, .any⟩]⟩,
  ⟨0x64, 0, 1, [⟨17, 0, .ro, 0, .any⟩]⟩,
  ⟨0x68, 0, 1, [⟨31, 0, .ro, 0, .any⟩]⟩,
  ⟨0x6c, 0, 1, [⟨16, 0, .ro, 0, .any⟩]⟩,
  ⟨0x70, 0, 1, [⟨15, 8, .rw, 0x14, .within 16 30⟩, ⟨7, 0, .rw, 0x10, .any⟩]⟩,
  ⟨0x74, 0, 1, [⟨13, 13, .ro, 0, .any⟩, ⟨12, 0, .ro, 0, .any⟩]⟩,
  ⟨0x78, 0, 1, [⟨17, 0, .rw, 0, .any⟩]⟩,
  ⟨0x7c, 0, 1, [⟨31, 0, .ro, 0, .any⟩]⟩]

/-- R199: registers of the SCN page, part 1. -/
def scnRows1 : List RegRow := [
  ⟨0x80, 0, 1, [⟨31, 0, .ro, 0, .any⟩]⟩,
  ⟨0x84, 0, 1, [⟨15, 0, .ro, 0, .any⟩]⟩,
  ⟨0x100, 4, 64, [⟨31, 0, .ro, 0, .any⟩]⟩]

/-- R199: every register of the SCN page. -/
def scnRows : List RegRow := scnRows0 ++ scnRows1

/-- R200: registers of the PLC page, part 0. -/
def plcRows0 : List RegRow := [
  ⟨0x40, 0, 1, [⟨26, 16, .rw, 0, .any⟩, ⟨3, 0, .wo, 0, .within 0 4⟩]⟩,
  ⟨0x44, 0, 1, [⟨26, 16, .ro, 0, .any⟩, ⟨9, 8, .ro, 0, .any⟩, ⟨7, 7, .ro, 0, .any⟩, ⟨6, 4, .ro, 0, .any⟩, ⟨3, 0, .ro, 1, .any⟩]⟩,
  ⟨0x48, 0, 1, [⟨17, 0, .ro, 0, .any⟩]⟩,
  ⟨0x4c, 0, 1, [⟨17, 0, .ro, 0, .any⟩]⟩,
  ⟨0x50, 0, 1, [⟨17, 0, .ro, 0, .any⟩]⟩,
  ⟨0x54, 0, 1, [⟨17, 0, .ro, 0, .any⟩]⟩,
  ⟨0x58, 0, 1, [⟨17, 0, .ro, 0, .any⟩]⟩,
  ⟨0x5c, 0, 1, [⟨17, 0, .ro, 0, .any⟩]⟩,
  ⟨0x60, 0, 1, [⟨31, 0, .ro, 0, .any⟩]⟩,
  ⟨0x64, 0, 1, [⟨31, 0, .ro, 0, .any⟩]⟩,
  ⟨0x68, 0, 1, [⟨31, 0, .ro, 0, .any⟩]⟩,
  ⟨0x6c, 0, 1, [⟨31, 0, .ro, 0, .any⟩]⟩,
  ⟨0x70, 0, 1, [⟨17, 0, .ro, 0, .any⟩]⟩,
  ⟨0x74, 0, 1, [⟨15, 0, .rw, 0x40, .any⟩]⟩,
  ⟨0x78, 0, 1, [⟨16, 0, .rw, 0, .any⟩]⟩,
  ⟨0x7c, 0, 1, [⟨31, 31, .ro, 0, .any⟩, ⟨30, 29, .ro, 0, .any⟩, ⟨17, 0, .ro, 0, .any⟩]⟩]

/-- R200: registers of the PLC page, part 1. -/
def plcRows1 : List RegRow := [
  ⟨0x80, 0, 1, [⟨31, 31, .ro, 0, .any⟩, ⟨30, 29, .ro, 0, .any⟩, ⟨17, 0, .ro, 0, .any⟩]⟩]

/-- R200: every register of the PLC page. -/
def plcRows : List RegRow := plcRows0 ++ plcRows1

/-- R234: registers of the LNK page, part 0. -/
def lnkRows0 : List RegRow := [
  ⟨0x40, 0, 1, [⟨23, 20, .rwc, 1, .nz⟩, ⟨14, 8, .rwc, 8, .within 4 64⟩]⟩,
  ⟨0x44, 0, 1, [⟨1, 0, .rwc, 0, .within 0 2⟩]⟩,
  ⟨0x48, 0, 1, [⟨23, 17, .ro, 0, .any⟩, ⟨16, 14, .ro, 0, .any⟩, ⟨12, 12, .ro, 0, .any⟩, ⟨2, 0, .ro, 0, .any⟩]⟩,
  ⟨0x4c, 0, 1, [⟨31, 0, .ro, 0, .any⟩]⟩,
  ⟨0x50, 0, 1, [⟨31, 0, .ro, 0, .any⟩]⟩,
  ⟨0x54, 0, 1, [⟨31, 0, .ro, 0, .any⟩]⟩,
  ⟨0x58, 0, 1, [⟨31, 0, .ro, 0, .any⟩]⟩,
  ⟨0x5c, 0, 1, [⟨5, 0, .rw, 0, .any⟩]⟩,
  ⟨0x60, 0, 1, [⟨31, 31, .ro, 0, .any⟩, ⟨22, 0, .ro, 0, .any⟩]⟩,
  ⟨0x64, 0, 1, [⟨31, 31, .ro, 0, .any⟩, ⟨22, 0, .ro, 0, .any⟩]⟩,
  ⟨0x68, 0, 1, [⟨15, 8, .ro, 0, .any⟩, ⟨7, 0, .ro, 0, .any⟩]⟩,
  ⟨0x6c, 0, 1, [⟨15, 0, .ro, 0, .any⟩]⟩,
  ⟨0x70, 0, 1, [⟨15, 0, .ro, 0, .any⟩]⟩,
  ⟨0x74, 0, 1, [⟨24, 16, .ro, 0, .any⟩, ⟨10, 0, .ro, 0, .any⟩]⟩,
  ⟨0x78, 0, 1, [⟨15, 15, .rwc, 0, .any⟩, ⟨14, 12, .rwc, 0, .any⟩, ⟨11, 11, .rwc, 1, .any⟩, ⟨10, 8, .rwc, 0, .any⟩, ⟨7, 7, .rwc, 1, .any⟩, ⟨6, 4, .rwc, 0, .any⟩]⟩,
  ⟨0x7c, 0, 1, [⟨12, 6, .rwc, 0, .zeroOrFrom 64⟩, ⟨5, 0, .rwc, 0, .any⟩]⟩]

/-- R234: registers of the LNK page, part 1. -/
def lnkRows1 : List RegRow := [
  ⟨0x80, 0, 1, [⟨22, 0, .rwc, 0, .any⟩]⟩,
  ⟨0x84, 0, 1, [⟨31, 0, .ro, 0, .any⟩]⟩,
  ⟨0x88, 0, 1, [⟨31, 0, .ro, 0, .any⟩]⟩,
  ⟨0x8c, 0, 1, [⟨31, 0, .ro, 0, .any⟩]⟩,
  ⟨0x90, 0, 1, [⟨31, 0, .ro, 0, .any⟩]⟩,
  ⟨0x94, 0, 1, [⟨31, 0, .ro, 0, .any⟩]⟩,
  ⟨0x98, 0, 1, [⟨31, 16, .ro, 0, .any⟩, ⟨15, 0, .ro, 0, .any⟩]⟩,
  ⟨0x9c, 0, 1, [⟨31, 16, .ro, 0, .any⟩, ⟨15, 0, .ro, 0, .any⟩]⟩,
  ⟨0xa0, 0, 1, [⟨31, 0, .ro, 0, .any⟩]⟩,
  ⟨0xa4, 0, 1, [⟨31, 0, .ro, 0, .any⟩]⟩,
  ⟨0xa8, 0, 1, [⟨31, 0, .ro, 0, .any⟩]⟩,
  ⟨0xac, 0, 1, [⟨31, 0, .ro, 0, .any⟩]⟩,
  ⟨0x100, 4, 64, [⟨6, 0, .rwc, 0x40, .within 0 64⟩]⟩]

/-- R234: every register of the LNK page. -/
def lnkRows : List RegRow := lnkRows0 ++ lnkRows1

/-- R257: registers of the DRV page, part 0. -/
def drvRows0 : List RegRow := [
  ⟨0x40, 0, 1, [⟨31, 16, .rwc, 0x3e80, .within 6400 64000⟩, ⟨15, 8, .rwc, 0x40, .any⟩, ⟨2, 1, .rwc, 0, .any⟩, ⟨0, 0, .rwc, 0, .any⟩]⟩,
  ⟨0x44, 0, 1, [⟨23, 16, .rwc, 0, .any⟩, ⟨9, 0, .rwc, 0, .any⟩]⟩,
  ⟨0x48, 0, 1, [⟨23, 0, .rwc, 0, .any⟩]⟩,
  ⟨0x4c, 0, 1, [⟨25, 16, .rwc, 0x3e8, .within 1 1000⟩, ⟨9, 0, .rwc, 0x64, .within 1 1000⟩]⟩,
  ⟨0x50, 0, 1, [⟨31, 24, .rwc, 0x10, .nz⟩, ⟨9, 0, .rwc, 0xc8, .any⟩]⟩,
  ⟨0x54, 0, 1, [⟨15, 0, .rwc, 0xfa, .nz⟩]⟩,
  ⟨0x58, 0, 1, [⟨0, 0, .rwc, 0, .any⟩]⟩,
  ⟨0x5c, 0, 1, [⟨13, 12, .ro, 0, .any⟩, ⟨11, 10, .ro, 0, .any⟩, ⟨9, 6, .ro, 0, .any⟩, ⟨4, 4, .ro, 0, .any⟩, ⟨3, 3, .ro, 0, .any⟩, ⟨2, 2, .ro, 0, .any⟩, ⟨1, 1, .ro, 0, .any⟩, ⟨0, 0, .ro, 0, .any⟩]⟩,
  ⟨0x60, 0, 1, [⟨6, 6, .w1c, 0, .any⟩, ⟨5, 5, .w1c, 0, .any⟩, ⟨4, 4, .w1c, 0, .any⟩, ⟨3, 3, .w1c, 0, .any⟩, ⟨2, 2, .w1c, 0, .any⟩, ⟨1, 1, .w1c, 0, .any⟩, ⟨0, 0, .w1c, 0, .any⟩]⟩,
  ⟨0x64, 0, 1, [⟨31, 0, .ro, 0, .any⟩]⟩,
  ⟨0x68, 0, 1, [⟨31, 0, .ro, 0x3d09000, .any⟩]⟩,
  ⟨0x6c, 0, 1, [⟨31, 0, .ro, 0, .any⟩]⟩,
  ⟨0x70, 0, 1, [⟨31, 0, .ro, 0, .any⟩]⟩,
  ⟨0x74, 0, 1, [⟨6, 0, .ro, 0, .any⟩]⟩,
  ⟨0x78, 0, 1, [⟨31, 30, .ro, 0, .any⟩, ⟨9, 0, .ro, 0, .any⟩]⟩,
  ⟨0x7c, 0, 1, [⟨31, 0, .ro, 0, .any⟩]⟩]

/-- R257: registers of the DRV page, part 1. -/
def drvRows1 : List RegRow := [
  ⟨0x80, 0, 1, [⟨31, 0, .ro, 0, .any⟩]⟩,
  ⟨0x84, 0, 1, [⟨31, 0, .ro, 0, .any⟩]⟩,
  ⟨0x88, 0, 1, [⟨31, 0, .ro, 0, .any⟩]⟩,
  ⟨0x8c, 0, 1, [⟨31, 0, .ro, 0, .any⟩]⟩,
  ⟨0x90, 0, 1, [⟨31, 0, .ro, 0, .any⟩]⟩,
  ⟨0x94, 0, 1, [⟨31, 0, .ro, 0, .any⟩]⟩]

/-- R257: every register of the DRV page. -/
def drvRows : List RegRow := drvRows0 ++ drvRows1

/-- R271: registers of the ADC page. -/
def adcRows : List RegRow := [
  ⟨0x40, 0, 1, [⟨8, 8, .rwc, 0, .any⟩, ⟨7, 5, .rwc, 0, .any⟩, ⟨4, 4, .rwc, 0, .any⟩, ⟨3, 0, .rwc, 0, .any⟩]⟩,
  ⟨0x44, 0, 1, [⟨7, 4, .rwc, 0, .within 0 11⟩, ⟨1, 0, .rwc, 0, .any⟩]⟩,
  ⟨0x48, 4, 4, [⟨13, 13, .rwc, 0, .any⟩, ⟨12, 4, .rwc, 0, .any⟩, ⟨3, 0, .rwc, 0, .any⟩]⟩,
  ⟨0x58, 0, 1, [⟨26, 26, .ro, 0, .any⟩, ⟨25, 16, .ro, 0, .any⟩, ⟨15, 12, .ro, 0, .any⟩, ⟨11, 11, .ro, 0, .any⟩, ⟨9, 0, .ro, 0, .any⟩]⟩,
  ⟨0x5c, 0, 1, [⟨31, 0, .ro, 0, .any⟩]⟩,
  ⟨0x60, 0, 1, [⟨31, 0, .ro, 0, .any⟩]⟩,
  ⟨0x64, 0, 1, [⟨19, 16, .ro, 0, .any⟩, ⟨15, 12, .ro, 0, .any⟩, ⟨11, 11, .ro, 0, .any⟩, ⟨10, 8, .ro, 0, .any⟩, ⟨7, 5, .ro, 0, .any⟩, ⟨2, 2, .w1c, 0, .any⟩, ⟨1, 1, .w1c, 0, .any⟩, ⟨0, 0, .ro, 0, .any⟩]⟩,
  ⟨0x68, 0, 1, [⟨15, 0, .w1c, 0, .any⟩]⟩,
  ⟨0x6c, 0, 1, [⟨31, 0, .ro, 0, .any⟩]⟩,
  ⟨0x70, 0, 1, [⟨31, 0, .ro, 0, .any⟩]⟩,
  ⟨0x74, 0, 1, [⟨31, 0, .ro, 0, .any⟩]⟩,
  ⟨0x78, 0, 1, [⟨31, 0, .ro, 0, .any⟩]⟩,
  ⟨0x7c, 0, 1, [⟨31, 0, .ro, 0, .any⟩]⟩,
  ⟨0x80, 4, 16, [⟨31, 22, .rwc, 0x3ff, .any⟩, ⟨21, 12, .rwc, 0, .any⟩, ⟨11, 11, .rwc, 0, .any⟩, ⟨10, 10, .rwc, 0, .any⟩, ⟨9, 9, .rwc, 0, .any⟩, ⟨3, 0, .rwc, 0, .within 0 11⟩]⟩,
  ⟨0x100, 8, 12, [⟨29, 16, .rwc, 0x3ff0, .any⟩, ⟨13, 0, .rwc, 0, .any⟩]⟩,
  ⟨0x104, 8, 12, [⟨15, 0, .ro, 0x4000, .any⟩]⟩]

/-- R417: registers of the REC page. -/
def recdRows : List RegRow := [
  ⟨0x40, 0, 1, [⟨22, 20, .rwc, 0, .any⟩, ⟨18, 16, .rwc, 0, .any⟩, ⟨14, 12, .rwc, 0, .any⟩, ⟨10, 8, .rwc, 0, .any⟩, ⟨6, 4, .rwc, 0, .any⟩, ⟨2, 0, .rwc, 0, .any⟩]⟩]

/-- R287: registers of the HEAD page. -/
def headRows : List RegRow := [
  ⟨0x0, 0, 1, [⟨31, 16, .ro, 0, .any⟩, ⟨15, 8, .ro, 0, .any⟩, ⟨7, 0, .ro, 1, .any⟩]⟩,
  ⟨0x4, 0, 1, [⟨7, 7, .ro, 0, .any⟩, ⟨6, 6, .ro, 0, .any⟩, ⟨5, 0, .ro, 0, .any⟩]⟩,
  ⟨0x8, 0, 1, [⟨0, 0, .wo, 0, .any⟩]⟩,
  ⟨0xc, 0, 1, [⟨8, 4, .ro, 0, .any⟩, ⟨3, 3, .ro, 0, .any⟩, ⟨2, 0, .ro, 0, .any⟩]⟩,
  ⟨0x10, 0, 1, [⟨31, 0, .w1c, 0, .any⟩]⟩,
  ⟨0x14, 0, 1, [⟨31, 0, .rw, 0, .any⟩]⟩,
  ⟨0x18, 0, 1, [⟨31, 0, .ro, 0, .any⟩]⟩,
  ⟨0x1c, 0, 1, [⟨1, 1, .ro, 0, .any⟩, ⟨0, 0, .rwc, 0, .any⟩]⟩,
  ⟨0x20, 0, 1, [⟨31, 0, .rw, 0, .any⟩]⟩,
  ⟨0x24, 0, 1, [⟨31, 0, .rw, 0, .any⟩]⟩,
  ⟨0x28, 0, 1, [⟨8, 8, .ro, 0, .any⟩, ⟨7, 4, .ro, 0xf, .any⟩, ⟨1, 0, .ro, 0, .any⟩]⟩,
  ⟨0x2c, 0, 1, [⟨31, 0, .wac, 0, .any⟩]⟩]

/-- R300: registers of the DOR page. -/
def dorRows : List RegRow := [
  ⟨0x40, 0, 1, [⟨5, 4, .ro, 0, .any⟩, ⟨1, 0, .ro, 0, .any⟩]⟩,
  ⟨0x44, 0, 1, [⟨7, 4, .ro, 0, .any⟩, ⟨3, 0, .ro, 0, .any⟩]⟩,
  ⟨0x48, 0, 1, [⟨8, 8, .ro, 0, .any⟩, ⟨6, 4, .ro, 0, .any⟩, ⟨1, 0, .ro, 0, .any⟩]⟩,
  ⟨0x4c, 0, 1, [⟨1, 1, .wo, 0, .any⟩, ⟨0, 0, .wo, 0, .any⟩]⟩,
  ⟨0x50, 0, 1, [⟨31, 0, .wo, 0, .any⟩]⟩,
  ⟨0x54, 0, 1, [⟨23, 0, .ro, 0, .any⟩]⟩,
  ⟨0x58, 0, 1, [⟨7, 0, .ro, 0, .any⟩]⟩,
  ⟨0x5c, 0, 1, [⟨31, 31, .ro, 0, .any⟩, ⟨23, 0, .ro, 0, .any⟩]⟩,
  ⟨0x60, 0, 1, [⟨31, 0, .ro, 0, .any⟩]⟩,
  ⟨0x64, 0, 1, [⟨31, 0, .ro, 0, .any⟩]⟩,
  ⟨0x68, 0, 1, [⟨31, 0, .ro, 0, .any⟩]⟩,
  ⟨0x6c, 0, 1, [⟨31, 0, .ro, 0, .any⟩]⟩,
  ⟨0x80, 0, 1, [⟨16, 0, .ro, 0, .any⟩]⟩,
  ⟨0x84, 0, 1, [⟨31, 0, .ro, 0, .any⟩]⟩,
  ⟨0x88, 0, 1, [⟨31, 0, .ro, 0, .any⟩]⟩,
  ⟨0x8c, 0, 1, [⟨31, 0, .ro, 0, .any⟩]⟩]

/-- R301: registers of the GLB page. -/
def glbRows : List RegRow := [
  ⟨0x40, 0, 1, [⟨7, 0, .ro, 0, .any⟩]⟩,
  ⟨0x44, 0, 1, [⟨3, 0, .ro, 2, .any⟩]⟩,
  ⟨0x48, 0, 1, [⟨7, 0, .ro, 0, .any⟩]⟩,
  ⟨0x4c, 0, 1, [⟨7, 0, .ro, 0, .any⟩]⟩,
  ⟨0x50, 0, 1, [⟨17, 0, .ro, 0x20000, .any⟩]⟩,
  ⟨0x54, 0, 1, [⟨17, 0, .ro, 0x20000, .any⟩]⟩,
  ⟨0x58, 0, 1, [⟨17, 0, .ro, 0x20000, .any⟩]⟩,
  ⟨0x60, 4, 4, [⟨15, 8, .ro, 0, .any⟩, ⟨7, 4, .ro, 0, .any⟩, ⟨1, 1, .ro, 0, .any⟩, ⟨0, 0, .ro, 0, .any⟩]⟩,
  ⟨0x70, 4, 9, [⟨31, 0, .ro, 0, .any⟩]⟩,
  ⟨0xa0, 4, 6, [⟨31, 0, .ro, 0, .any⟩]⟩,
  ⟨0xc0, 4, 2, [⟨31, 0, .ro, 0, .any⟩]⟩]

/-- R323: registers of the IRQ page. -/
def irqRows : List RegRow := [
  ⟨0x40, 0, 1, [⟨13, 0, .rw, 0, .any⟩]⟩,
  ⟨0x44, 0, 1, [⟨31, 31, .rw, 0, .any⟩, ⟨30, 30, .rw, 0, .any⟩, ⟨29, 26, .rw, 0, .any⟩, ⟨25, 24, .rw, 0, .any⟩, ⟨23, 20, .rw, 0, .any⟩, ⟨15, 10, .rw, 0, .any⟩, ⟨9, 0, .rw, 0, .within 0 0x3FB⟩]⟩,
  ⟨0x48, 0, 1, [⟨29, 28, .ro, 0, .any⟩, ⟨27, 26, .ro, 0, .any⟩, ⟨25, 25, .ro, 0, .any⟩, ⟨24, 24, .ro, 0, .any⟩, ⟨23, 16, .ro, 0, .any⟩, ⟨15, 12, .ro, 0, .any⟩, ⟨11, 8, .ro, 0, .any⟩, ⟨0, 0, .ro, 0, .any⟩]⟩,
  ⟨0x4c, 0, 1, [⟨31, 0, .ro, 0, .any⟩]⟩,
  ⟨0x50, 0, 1, [⟨31, 0, .ro, 0, .any⟩]⟩,
  ⟨0x54, 0, 1, [⟨5, 0, .rw, 0, .any⟩]⟩,
  ⟨0x58, 0, 1, [⟨8, 8, .rw, 0, .any⟩, ⟨7, 0, .rw, 1, .nz⟩]⟩,
  ⟨0x5c, 0, 1, [⟨31, 16, .rw, 1, .nz⟩, ⟨15, 0, .rw, 0, .any⟩]⟩,
  ⟨0x60, 0, 1, [⟨31, 16, .ro, 0, .any⟩, ⟨7, 0, .ro, 0, .any⟩]⟩,
  ⟨0x64, 0, 1, [⟨13, 0, .ro, 0, .any⟩]⟩]

/-- R324: registers of the IRQD page. -/
def irqdRows : List RegRow := [
  ⟨0x40, 0, 1, [⟨31, 12, .rw, 0, .any⟩]⟩,
  ⟨0x44, 0, 1, [⟨31, 0, .rw, 0, .any⟩]⟩,
  ⟨0x48, 0, 1, [⟨4, 4, .rw, 0, .any⟩, ⟨3, 0, .rw, 0, .within 0 8⟩]⟩,
  ⟨0x4c, 0, 1, [⟨15, 0, .ro, 0, .any⟩]⟩,
  ⟨0x50, 0, 1, [⟨15, 0, .rw, 0, .any⟩]⟩,
  ⟨0x54, 0, 1, [⟨9, 0, .wo, 0, .within 0 0x3FB⟩]⟩,
  ⟨0x58, 0, 1, [⟨13, 0, .wo, 0, .any⟩]⟩,
  ⟨0x5c, 0, 1, [⟨3, 0, .rw, 0, .any⟩]⟩,
  ⟨0x60, 0, 1, [⟨27, 16, .ro, 0, .any⟩, ⟨3, 3, .w1c, 0, .any⟩, ⟨2, 2, .w1c, 0, .any⟩, ⟨1, 1, .ro, 0, .any⟩, ⟨0, 0, .ro, 0, .any⟩]⟩,
  ⟨0x64, 0, 1, [⟨29, 16, .ro, 0, .any⟩, ⟨9, 0, .ro, 0, .any⟩]⟩,
  ⟨0x68, 0, 1, [⟨31, 0, .ro, 0, .any⟩]⟩,
  ⟨0x6c, 0, 1, [⟨31, 0, .ro, 0, .any⟩]⟩,
  ⟨0x70, 0, 1, [⟨31, 0, .ro, 0, .any⟩]⟩,
  ⟨0x74, 0, 1, [⟨31, 0, .ro, 0, .any⟩]⟩,
  ⟨0x78, 0, 1, [⟨31, 0, .ro, 0, .any⟩]⟩]

/-- R345: registers of the TMR page. -/
def tmrRows : List RegRow := [
  ⟨0x40, 0, 1, [⟨31, 31, .rwc, 0, .any⟩, ⟨30, 30, .rwc, 0, .any⟩, ⟨29, 27, .rwc, 0, .within 0 4⟩, ⟨26, 25, .rwc, 0, .clkSrc⟩, ⟨15, 0, .rwc, 0, .any⟩]⟩,
  ⟨0x44, 0, 1, [⟨31, 31, .rwc, 0, .any⟩, ⟨26, 18, .rwc, 0, .any⟩, ⟨17, 9, .rwc, 0, .any⟩, ⟨8, 0, .rwc, 0, .any⟩]⟩,
  ⟨0x48, 0, 1, [⟨31, 0, .rwc, 0xffffffff, .any⟩]⟩,
  ⟨0x4c, 0, 1, [⟨31, 0, .rwc, 0xffffffff, .any⟩]⟩,
  ⟨0x50, 0, 1, [⟨31, 0, .rwc, 0, .any⟩]⟩,
  ⟨0x54, 0, 1, [⟨1, 0, .rwc, 0, .within 0 1⟩]⟩,
  ⟨0x58, 0, 1, [⟨31, 0, .ro, 0, .any⟩]⟩,
  ⟨0x5c, 0, 1, [⟨15, 0, .ro, 0, .any⟩]⟩,
  ⟨0x60, 0, 1, [⟨31, 0, .ro, 0, .any⟩]⟩,
  ⟨0x64, 0, 1, [⟨31, 0, .ro, 0, .any⟩]⟩,
  ⟨0x68, 0, 1, [⟨31, 0, .ro, 0, .any⟩]⟩,
  ⟨0x6c, 0, 1, [⟨6, 0, .ro, 0, .any⟩]⟩,
  ⟨0x70, 0, 1, [⟨4, 4, .w1c, 0, .any⟩, ⟨3, 3, .w1c, 0, .any⟩, ⟨2, 2, .ro, 0, .any⟩, ⟨1, 1, .ro, 0, .any⟩, ⟨0, 0, .ro, 0, .any⟩]⟩,
  ⟨0x74, 0, 1, [⟨31, 0, .ro, 0, .any⟩]⟩,
  ⟨0x78, 0, 1, [⟨31, 0, .ro, 0, .any⟩]⟩]

/-- R346: registers of the EVT page. -/
def evtRows : List RegRow := [
  ⟨0x40, 4, 144, [⟨31, 31, .rwc, 0, .any⟩, ⟨8, 0, .rwc, 0, .any⟩]⟩,
  ⟨0x300, 0, 1, [⟨8, 0, .rw, 0, .any⟩]⟩,
  ⟨0x304, 0, 1, [⟨31, 31, .ro, 0, .any⟩, ⟨30, 30, .ro, 0, .any⟩, ⟨23, 16, .ro, 0, .any⟩, ⟨15, 0, .ro, 0, .any⟩]⟩]

/-- R347: registers of the DMA page. -/
def dmaRows : List RegRow := [
  ⟨0x40, 0, 1, [⟨31, 0, .rw, 0, .any⟩]⟩,
  ⟨0x44, 0, 1, [⟨31, 0, .rw, 0, .any⟩]⟩,
  ⟨0x48, 0, 1, [⟨31, 0, .rw, 0, .any⟩]⟩,
  ⟨0x4c, 0, 1, [⟨31, 0, .rw, 0, .any⟩]⟩,
  ⟨0x50, 0, 1, [⟨23, 0, .rw, 4, .nz⟩]⟩,
  ⟨0x54, 0, 1, [⟨31, 28, .rw, 4, .space⟩, ⟨27, 24, .rw, 4, .space⟩, ⟨23, 23, .rw, 1, .any⟩, ⟨22, 22, .rw, 1, .any⟩, ⟨21, 20, .rw, 2, .any⟩, ⟨19, 16, .rw, 0, .any⟩, ⟨15, 14, .rw, 0, .within 0 2⟩, ⟨13, 13, .rw, 0, .any⟩, ⟨12, 11, .rw, 0, .any⟩, ⟨10, 10, .rw, 0, .any⟩, ⟨8, 0, .rw, 0, .any⟩]⟩,
  ⟨0x58, 0, 1, [⟨31, 0, .rw, 0, .any⟩]⟩,
  ⟨0x5c, 0, 1, [⟨31, 0, .rw, 0, .any⟩]⟩,
  ⟨0x60, 0, 1, [⟨31, 0, .rw, 0, .any⟩]⟩,
  ⟨0x64, 0, 1, [⟨1, 1, .wo, 0, .any⟩, ⟨0, 0, .wo, 0, .any⟩]⟩,
  ⟨0x68, 0, 1, [⟨31, 28, .ro, 0, .any⟩, ⟨27, 24, .ro, 0, .any⟩, ⟨23, 0, .ro, 0, .any⟩]⟩,
  ⟨0x6c, 0, 1, [⟨31, 28, .ro, 0, .any⟩, ⟨27, 24, .ro, 0, .any⟩, ⟨3, 0, .ro, 0, .any⟩]⟩,
  ⟨0x70, 0, 1, [⟨31, 0, .ro, 0, .any⟩]⟩,
  ⟨0x74, 0, 1, [⟨31, 0, .ro, 0, .any⟩]⟩]

/-- R376: registers of the PRF page, part 0. -/
def prfRows0 : List RegRow := [
  ⟨0x40, 0, 1, [⟨18, 16, .rwc, 0, .any⟩, ⟨3, 0, .rwc, 0, .within 0 6⟩]⟩,
  ⟨0x44, 0, 1, [⟨31, 28, .ro, 0, .any⟩, ⟨27, 24, .ro, 0, .any⟩, ⟨23, 23, .ro, 0, .any⟩, ⟨22, 22, .ro, 0, .any⟩, ⟨21, 20, .ro, 0, .any⟩, ⟨19, 17, .ro, 0, .any⟩, ⟨16, 14, .ro, 0, .any⟩, ⟨13, 13, .ro, 0, .any⟩, ⟨12, 10, .ro, 0, .any⟩]⟩,
  ⟨0x48, 0, 1, [⟨23, 0, .rwc, 0x7a120, .any⟩]⟩,
  ⟨0x4c, 0, 1, [⟨31, 0, .ro, 0xffffffff, .any⟩]⟩,
  ⟨0x50, 0, 1, [⟨31, 0, .ro, 0, .any⟩]⟩,
  ⟨0x54, 0, 1, [⟨31, 0, .ro, 0, .any⟩]⟩,
  ⟨0x58, 0, 1, [⟨31, 0, .ro, 0, .any⟩]⟩,
  ⟨0x5c, 0, 1, [⟨31, 0, .ro, 0, .any⟩]⟩,
  ⟨0x60, 0, 1, [⟨31, 0, .ro, 0, .any⟩]⟩,
  ⟨0x64, 0, 1, [⟨31, 0, .ro, 0, .any⟩]⟩,
  ⟨0x68, 0, 1, [⟨15, 0, .ro, 0, .any⟩]⟩,
  ⟨0x6c, 4, 6, [⟨31, 0, .ro, 0, .any⟩]⟩,
  ⟨0x84, 0, 1, [⟨31, 0, .ro, 0, .any⟩]⟩,
  ⟨0x88, 0, 1, [⟨31, 20, .ro, 0, .any⟩, ⟨19, 4, .ro, 0, .any⟩, ⟨1, 1, .ro, 0, .any⟩, ⟨0, 0, .ro, 0, .any⟩]⟩,
  ⟨0x8c, 0, 1, [⟨1, 1, .ro, 0, .any⟩, ⟨0, 0, .ro, 0, .any⟩]⟩,
  ⟨0x90, 4, 8, [⟨31, 0, .rw, 0, .any⟩]⟩]

/-- R376: registers of the PRF page, part 1. -/
def prfRows1 : List RegRow := [
  ⟨0xb0, 0, 1, [⟨1, 1, .wo, 0, .any⟩, ⟨0, 0, .wo, 0, .any⟩]⟩,
  ⟨0xb4, 0, 1, [⟨7, 4, .rw, 0, .any⟩, ⟨1, 1, .rw, 0, .any⟩, ⟨0, 0, .rw, 0, .any⟩]⟩,
  ⟨0xb8, 0, 1, [⟨31, 0, .rw, 0, .any⟩]⟩,
  ⟨0xbc, 0, 1, [⟨31, 0, .rw, 0, .any⟩]⟩,
  ⟨0xc0, 0, 1, [⟨7, 4, .ro, 0, .any⟩, ⟨1, 1, .ro, 0, .any⟩, ⟨0, 0, .ro, 0, .any⟩]⟩,
  ⟨0xc4, 0, 1, [⟨31, 0, .rw, 0x4c4b40, .any⟩]⟩,
  ⟨0xc8, 0, 1, [⟨31, 31, .ro, 0, .any⟩, ⟨30, 30, .ro, 0, .any⟩, ⟨15, 8, .ro, 0, .any⟩, ⟨7, 0, .ro, 0, .any⟩]⟩,
  ⟨0xcc, 0, 1, [⟨25, 0, .rw, 0, .any⟩]⟩,
  ⟨0xd0, 0, 1, [⟨3, 0, .wo, 0, .within 1 4⟩]⟩,
  ⟨0xd4, 0, 1, [⟨4, 4, .ro, 0, .any⟩, ⟨3, 0, .ro, 0, .any⟩]⟩,
  ⟨0x100, 4, 64, [⟨31, 0, .rw, 0, .any⟩]⟩]

/-- R376: every register of the PRF page. -/
def prfRows : List RegRow := prfRows0 ++ prfRows1

/-- R395: registers of the FLT page. -/
def fltRows : List RegRow := [
  ⟨0x40, 0, 1, [⟨15, 8, .ro, 0, .any⟩, ⟨2, 2, .ro, 0, .any⟩, ⟨1, 1, .ro, 0, .any⟩, ⟨0, 0, .ro, 0, .any⟩]⟩,
  ⟨0x44, 0, 1, [⟨31, 0, .ro, 0, .any⟩]⟩,
  ⟨0x48, 0, 1, [⟨5, 0, .rw, 0, .any⟩]⟩,
  ⟨0x4c, 0, 1, [⟨31, 24, .ro, 0, .any⟩, ⟨23, 16, .ro, 0, .any⟩, ⟨15, 8, .ro, 0, .any⟩, ⟨7, 6, .ro, 0, .any⟩, ⟨0, 0, .ro, 0, .any⟩]⟩,
  ⟨0x50, 0, 1, [⟨31, 0, .ro, 0, .any⟩]⟩,
  ⟨0x54, 0, 1, [⟨31, 0, .ro, 0, .any⟩]⟩,
  ⟨0x58, 0, 1, [⟨31, 0, .ro, 0, .any⟩]⟩,
  ⟨0x5c, 0, 1, [⟨31, 0, .ro, 0, .any⟩]⟩,
  ⟨0x60, 0, 1, [⟨31, 0, .ro, 0, .any⟩]⟩,
  ⟨0x64, 0, 1, [⟨13, 8, .ro, 0, .any⟩, ⟨5, 0, .ro, 0, .any⟩]⟩,
  ⟨0x68, 0, 1, [⟨31, 0, .ro, 0, .any⟩]⟩,
  ⟨0x6c, 0, 1, [⟨31, 0, .ro, 0, .any⟩]⟩]

/-- Registers of a page beside its common head (R286). MEM, STG and the rest of REC are not in the source. -/
def rowsOf : Block → List RegRow
  | .glb => glbRows
  | .clk => clkRows
  | .pwr => pwrRows
  | .prf => prfRows
  | .flt => fltRows
  | .whl => whlRows
  | .inp => inpRows
  | .scn => scnRows
  | .plc => plcRows
  | .lnk => lnkRows
  | .drv => drvRows
  | .adc => adcRows
  | .recorder => recdRows
  | .mem => []
  | .stg => []
  | .irq => irqRows
  | .irqd => irqdRows
  | .tmr => tmrRows
  | .dma => dmaRows
  | .evt => evtRows
  | .dor => dorRows

/-- R286, Table 11-3: base, number of pages and code of a block. -/
@[simp] def Block.base : Block → Nat
  | .glb => 0x000000 | .clk => 0x001000 | .pwr => 0x002000 | .prf => 0x003000 | .flt => 0x004000
  | .whl => 0x010000 | .inp => 0x040000 | .scn => 0x070000 | .plc => 0x071000 | .lnk => 0x080000
  | .drv => 0x090000 | .adc => 0x0D0000 | .recorder => 0x0E0000 | .mem => 0x0E1000 | .stg => 0x0E2000
  | .irq => 0x0F0000 | .irqd => 0x0F1000 | .tmr => 0x100000 | .dma => 0x120000 | .evt => 0x140000
  | .dor => 0x150000

/-- R286: how many pages a block has. -/
def Block.pages : Block → Nat
  | .whl => 48 | .inp => 48 | .lnk => 16 | .drv => 64 | .adc => 8 | .stg => 2 | .irqd => 4
  | .tmr => 32 | .dma => 32 | .dor => 4
  | .glb | .clk | .pwr | .prf | .flt | .scn | .plc | .recorder | .mem | .irq | .evt => 1

/-- R286: PG_ID.BLOCK. -/
def Block.code : Block → Nat
  | .glb => 0x01 | .clk => 0x02 | .pwr => 0x03 | .prf => 0x04 | .flt => 0x05 | .whl => 0x10 | .inp => 0x11
  | .scn => 0x20 | .plc => 0x21 | .lnk => 0x30 | .drv => 0x31 | .adc => 0x32 | .recorder => 0x40 | .mem => 0x41
  | .stg => 0x42 | .irq => 0x50 | .irqd => 0x51 | .tmr => 0x52 | .dma => 0x53 | .evt => 0x54 | .dor => 0x60

/-- PG_CAP.NSRC (R287): the number of interrupt sources the page's table names. The sources of REC, MEM and STG are
not in the source: 0. -/
def Block.nsrc : Block → Nat
  | .glb => 2 | .clk => 6 | .pwr => 4 | .prf => 6 | .flt => 7 | .whl => 10 | .inp => 15 | .scn => 8 | .plc => 6
  | .lnk => 11 | .drv => 9 | .adc => 4 | .irqd => 2 | .tmr => 5 | .dma => 4 | .dor => 4
  | .recorder | .mem | .stg | .irq | .evt => 0

/-- PG_CAP.SHUTTER (R287, Table 15-3, R395): PG_SHUTTER acts. -/
def Block.hasShutter : Block → Bool
  | .whl | .inp | .lnk | .drv | .adc | .flt => true
  | .glb | .clk | .pwr | .prf | .scn | .plc | .recorder | .mem | .stg | .irq | .irqd | .tmr | .dma | .evt | .dor => false

/-- PG_CAP.COMMIT (R287): the page holds RWC fields, or it is SCN. -/
def Block.hasCommit : Block → Bool
  | .clk | .prf | .flt | .whl | .inp | .scn | .lnk | .drv | .adc | .recorder | .tmr | .evt => true
  | .glb | .pwr | .plc | .mem | .stg | .irq | .irqd | .dma | .dor => false

/-- The pages in the order of Table 11-3. -/
def allBlocks : List Block :=
  [.glb, .clk, .pwr, .prf, .flt, .whl, .inp, .scn, .plc, .lnk, .drv, .adc, .recorder, .mem, .stg, .irq, .irqd, .tmr,
   .dma, .evt, .dor]

/-- The block and page number that decode a BAR0 offset (R286); none where the offset is undecoded (R285). -/
def pageOf (addr : Nat) : Option (Block × Nat) :=
  (allBlocks.find? (fun b => b.base ≤ addr ∧ addr < b.base + b.pages * 0x1000)).map
    (fun b => (b, (addr - b.base) / 0x1000))

/-- The page base of a BAR0 offset. -/
def pageBase (addr : Nat) : Nat := addr / 0x1000 * 0x1000

/-- A page by block and number. -/
@[simp] def page (b : Block) (n : Nat) : Nat := b.base + n * 0x1000

/-- The register a byte offset names within a page. -/
def RegRow.hits (r : RegRow) (off : Nat) : Bool :=
  decide (r.off ≤ off) &&
    (match r.stride with
     | 0 => off == r.off
     | st + 1 => (off - r.off) % (st + 1) == 0 && decide ((off - r.off) / (st + 1) < r.count))

/-- The row of the register map that decodes a BAR0 dword offset. -/
def regRow (addr : Nat) : Option RegRow :=
  match pageOf addr with
  | none => none
  | some (b, _) => (headRows ++ rowsOf b).find? (fun r => r.hits (addr % 0x1000))

/-- The reset value of a register, put together from its fields. -/
def regReset (addr : Nat) : BitVec 32 :=
  match regRow addr with
  | none => 0
  | some r => BitVec.ofNat 32 (r.fields.foldl (fun a f => a + f.reset * 2 ^ f.lo) 0)

end Sys2Proof.Machine
end

