-- ==== Sys2Proof/Machine/Ops.lean ====
section
/-! DEFINITION. The named operations that every meaning shares: sparse tables, registers, units, carts, interrupt bits,
free values. -/

namespace Sys2Proof.Machine

/-! ### Sparse tables -/

/-- The value listed at a key. -/
def Sparse.find {α : Type} : Sparse α → Nat → Option α
  | [], _ => none
  | (j, v) :: m, k => if j = k then some v else Sparse.find m k

/-- What a key reads as: the listed value, or the default of that key. -/
def Sparse.get {α : Type} (dflt : Nat → α) (m : Sparse α) (k : Nat) : α :=
  match m.find k with
  | some v => v
  | none => dflt k

/-- The table without a key. -/
def Sparse.erase {α : Type} : Sparse α → Nat → Sparse α
  | [], _ => []
  | (j, v) :: m, k => if j = k then Sparse.erase m k else (j, v) :: Sparse.erase m k

/-- The table, which does not list the key, with a value listed at it, before the first greater key. -/
def Sparse.place {α : Type} : Sparse α → Nat → α → Sparse α
  | [], k, x => [(k, x)]
  | (j, v) :: m, k, x => if j < k then (j, v) :: Sparse.place m k x else (k, x) :: (j, v) :: m

/-- The table with a value listed at a key. -/
def Sparse.insert {α : Type} (m : Sparse α) (k : Nat) (x : α) : Sparse α := (m.erase k).place k x

/-- A write: the key reads as the value; the default is never listed, so that equal tables are equal data. -/
def Sparse.set {α : Type} [DecidableEq α] (dflt : Nat → α) (m : Sparse α) (k : Nat) (x : α) : Sparse α :=
  if x = dflt k then m.erase k else m.insert k x

/-- Keys strictly rise from a bound on. -/
def Sparse.risesFrom {α : Type} : Nat → Sparse α → Bool
  | _, [] => true
  | b, (j, _) :: m => decide (b ≤ j) && Sparse.risesFrom (j + 1) m

/-- The canonical form: keys strictly rise and no value equals the default of its key. -/
def Sparse.wf {α : Type} [DecidableEq α] (dflt : Nat → α) (m : Sparse α) : Bool :=
  m.risesFrom 0 && m.all (fun e => decide (e.2 ≠ dflt e.1))

/-! ### Registers -/

/-- What a register of the register file holds. -/
def State.reg (s : State) (addr : Nat) : Word := s.regs.get regReset addr

/-- Writes a register of the register file whole. -/
def State.setReg (s : State) (addr : Nat) (v : Word) : State := { s with regs := s.regs.set regReset addr v }

/-- A field of a register of the register file. -/
def State.get (s : State) (f : FieldRef) : Nat := Word.bits (s.reg f.addr) f.hi f.lo

/-- A one-bit field. -/
def State.bit (s : State) (f : FieldRef) : Bool := s.get f == 1

/-- Writes a field of a register of the register file; the other bits stay. -/
def State.put (s : State) (f : FieldRef) (v : Nat) : State :=
  s.setReg f.addr (Word.withBits (s.reg f.addr) f.hi f.lo v)

/-- Writes a one-bit field. -/
def State.putBit (s : State) (f : FieldRef) (v : Bool) : State := s.put f (if v then 1 else 0)

/-- The greatest value of a field. -/
def FieldRef.top (f : FieldRef) : Nat := 2 ^ (f.hi + 1 - f.lo) - 1

/-- Adds to a counter field, which saturates at its greatest value and holds (R38). -/
def State.bump (s : State) (f : FieldRef) (by_ : Nat := 1) : State := s.put f (min f.top (s.get f + by_))

/-- The two registers of a 64-bit value: low word at one field, high word at the other. -/
def State.put64 (s : State) (lo hi : FieldRef) (v : Nat) : State := (s.put lo (v % 2 ^ 32)).put hi (v / 2 ^ 32 % 2 ^ 32)

/-- A 64-bit value held in two registers. -/
def State.get64 (s : State) (lo hi : FieldRef) : Nat := s.get hi * 2 ^ 32 + s.get lo

/-- Two's complement reading of the low bits of a number. -/
def signed (bits v : Nat) : Int :=
  if v % 2 ^ bits < 2 ^ (bits - 1) then (v % 2 ^ bits : Nat) else (v % 2 ^ bits : Nat) - (2 ^ bits : Nat)

/-- Two's complement encoding of an integer in so many bits. -/
def unsigned (bits : Nat) (v : Int) : Nat := (v % (2 ^ bits : Nat)).toNat

/-! ### Interrupt bits and error counts of a page (R287) -/

/-- Sets bit k of PG_IRQ_RAW of a page: source k of its table has occurred. -/
def State.raise (s : State) (p k : Nat) : State :=
  s.setReg (p + 0x10) (s.reg (p + 0x10) ||| BitVec.ofNat 32 (2 ^ k))

/-- Raises several sources of one page. -/
def State.raises (s : State) (p : Nat) (ks : List Nat) : State := ks.foldl (fun s k => s.raise p k) s

/-- Raises a source when a condition holds. -/
def State.raiseIf (s : State) (c : Bool) (p k : Nat) : State := if c then s.raise p k else s

/-- PG_ERRCNT: one more error, saturating (Table 1-7). -/
def State.err (s : State) (p : Nat) : State := s.bump (Reg.HEAD.PG_ERRCNT.COUNT p)

/-- PG_SHUTTER.SHUT of a page: the function is shuttered, for any cause. -/
def State.shut (s : State) (p : Nat) : Bool := s.bit (Reg.HEAD.PG_SHUTTER.SHUT p)

/-! ### Units -/

/-- Input channel n. -/
def State.inpCh (s : State) (n : Nat) : InpCh := s.inp.get (fun _ => InpCh.reset) n
/-- Replaces input channel n. -/
def State.setInp (s : State) (n : Nat) (v : InpCh) : State := { s with inp := s.inp.set (fun _ => InpCh.reset) n v }
/-- Changes input channel n. -/
def State.onInp (s : State) (n : Nat) (f : InpCh → InpCh) : State := s.setInp n (f (s.inpCh n))

/-- Tracker n. -/
def State.tracker (s : State) (n : Nat) : Tracker := s.trk.get (fun _ => Tracker.reset) n
/-- Replaces tracker n. -/
def State.setTrk (s : State) (n : Nat) (v : Tracker) : State := { s with trk := s.trk.set (fun _ => Tracker.reset) n v }
/-- Changes tracker n. -/
def State.onTrk (s : State) (n : Nat) (f : Tracker → Tracker) : State := s.setTrk n (f (s.tracker n))

/-- Slot h. -/
def State.slot (s : State) (h : Nat) : Slot := s.slots.get (fun _ => Slot.reset) h
/-- Replaces slot h. -/
def State.setSlot (s : State) (h : Nat) (v : Slot) : State := { s with slots := s.slots.set (fun _ => Slot.reset) h v }
/-- Changes slot h. -/
def State.onSlot (s : State) (h : Nat) (f : Slot → Slot) : State := s.setSlot h (f (s.slot h))

/-- Endpoint configuration byte (R203). -/
def State.eptByte (s : State) (a : Nat) : Word := s.ept.get (fun _ => 0) a
/-- Replaces an endpoint configuration byte. -/
def State.setEpt (s : State) (a : Nat) (v : Word) : State := { s with ept := s.ept.set (fun _ => 0) a v }

/-- Endpoint a. -/
def State.ep (s : State) (a : Nat) : Ep := s.eps.get (fun _ => Ep.reset) a
/-- Replaces endpoint a. -/
def State.setEp (s : State) (a : Nat) (v : Ep) : State := { s with eps := s.eps.set (fun _ => Ep.reset) a v }
/-- Changes endpoint a. -/
def State.onEp (s : State) (a : Nat) (f : Ep → Ep) : State := s.setEp a (f (s.ep a))

/-- Link n. -/
def State.link (s : State) (n : Nat) : Lnk := s.lnk.get (fun _ => Lnk.reset) n
/-- Replaces link n. -/
def State.setLnk (s : State) (n : Nat) (v : Lnk) : State := { s with lnk := s.lnk.set (fun _ => Lnk.reset) n v }
/-- Changes link n. -/
def State.onLnk (s : State) (n : Nat) (f : Lnk → Lnk) : State := s.setLnk n (f (s.link n))

/-- Drive channel n. -/
def State.drive (s : State) (n : Nat) : Drv := s.drv.get (fun _ => Drv.reset) n
/-- Replaces drive channel n. -/
def State.setDrv (s : State) (n : Nat) (v : Drv) : State := { s with drv := s.drv.set (fun _ => Drv.reset) n v }
/-- Changes drive channel n. -/
def State.onDrv (s : State) (n : Nat) (f : Drv → Drv) : State := s.setDrv n (f (s.drive n))

/-- ADC unit n. -/
def State.unit (s : State) (n : Nat) : Adc := s.adc.get (fun _ => Adc.reset) n
/-- Replaces ADC unit n. -/
def State.setAdc (s : State) (n : Nat) (v : Adc) : State := { s with adc := s.adc.set (fun _ => Adc.reset) n v }
/-- Changes ADC unit n. -/
def State.onAdc (s : State) (n : Nat) (f : Adc → Adc) : State := s.setAdc n (f (s.unit n))

/-- Door d. -/
def State.door (s : State) (d : Nat) : Door := s.doors.get (fun _ => Door.reset) d
/-- Replaces door d. -/
def State.setDoor (s : State) (d : Nat) (v : Door) : State := { s with doors := s.doors.set (fun _ => Door.reset) d v }
/-- Changes door d. -/
def State.onDoor (s : State) (d : Nat) (f : Door → Door) : State := s.setDoor d (f (s.door d))

/-- Timer n. -/
def State.timer (s : State) (n : Nat) : Tmr := s.tmr.get (fun _ => Tmr.reset) n
/-- Replaces timer n. -/
def State.setTmr (s : State) (n : Nat) (v : Tmr) : State := { s with tmr := s.tmr.set (fun _ => Tmr.reset) n v }
/-- Changes timer n. -/
def State.onTmr (s : State) (n : Nat) (f : Tmr → Tmr) : State := s.setTmr n (f (s.timer n))

/-- DMA channel n. -/
def State.channel (s : State) (n : Nat) : Dma := s.dma.get (fun _ => Dma.reset) n
/-- Replaces DMA channel n. -/
def State.setDma (s : State) (n : Nat) (v : Dma) : State := { s with dma := s.dma.set (fun _ => Dma.reset) n v }
/-- Changes DMA channel n. -/
def State.onDma (s : State) (n : Nat) (f : Dma → Dma) : State := s.setDma n (f (s.channel n))

/-- Reset value of an interrupt source: SENSE is 1 for slot sources (R323). -/
def srcReset (k : Nat) : Src := if 0x3000 ≤ k then { Src.reset with cfg := 0x01000000 } else Src.reset
/-- Interrupt source k. -/
def State.src (s : State) (k : Nat) : Src := s.irq.srcs.get srcReset k
/-- Replaces interrupt source k. -/
def State.setSrc (s : State) (k : Nat) (v : Src) : State :=
  { s with irq := { s.irq with srcs := s.irq.srcs.set srcReset k v } }

/-- Moderation group g. -/
def State.grp (s : State) (g : Nat) : Grp := s.irq.grps.get (fun _ => Grp.reset) g
/-- Replaces moderation group g. -/
def State.setGrp (s : State) (g : Nat) (v : Grp) : State :=
  { s with irq := { s.irq with grps := s.irq.grps.set (fun _ => Grp.reset) g v } }

/-- A coach disabled on the JX6-1024-I (R169). -/
def State.coachReset (s : State) (c : Nat) : Coach :=
  if s.power.is1024 && c / 64 % 2 == 1 then { Coach.reset with state := 5 } else Coach.reset
/-- Coach c. -/
def State.coach (s : State) (c : Nat) : Coach := s.fabric.coach.get s.coachReset c
/-- Replaces coach c. -/
def State.setCoach (s : State) (c : Nat) (v : Coach) : State :=
  { s with fabric := { s.fabric with coach := s.fabric.coach.set s.coachReset c v } }

/-- The carriage at a carriage address (R169). -/
def State.carriage (s : State) (a : Nat) : Carriage := s.fabric.carr.get (fun _ => Carriage.empty) a
/-- Replaces a carriage. -/
def State.setCarriage (s : State) (a : Nat) (v : Carriage) : State :=
  { s with fabric := { s.fabric with carr := s.fabric.carr.set (fun _ => Carriage.empty) a v } }

/-- Event line n. -/
def State.line (s : State) (n : Nat) : EvLine := s.evt.lines.get (fun _ => EvLine.reset) n
/-- Replaces event line n. -/
def State.setLine (s : State) (n : Nat) (v : EvLine) : State :=
  { s with evt := { s.evt with lines := s.evt.lines.set (fun _ => EvLine.reset) n v } }

/-- Compartment that owns a page (R290); pages not named belong to compartment 0. -/
def State.pageComp (s : State) (p : Nat) : Nat := s.owner.get (fun _ => 0) p

/-- A flash byte; an unlisted byte is erased and reads 0xFF (PRESUMED, log entry 8). -/
def State.flashByte (s : State) (a : Nat) : Byte := s.flash.get (fun _ => 0xFF) a
/-- Writes a flash byte. -/
def State.setFlash (s : State) (a : Nat) (v : Byte) : State := { s with flash := s.flash.set (fun _ => 0xFF) a v }

/-! ### Time -/

/-- Boundary n + 0 st, in st (R18). -/
def st0 (n : Nat) : Nat := n * 128

/-- Boundary of the current tick, in st. -/
def State.now (s : State) : Nat := st0 s.tick

/-- The tick whose work admits an event of the current tick (R19): the event lies before the next boundary. -/
def State.admits (s : State) : Nat := s.tick + 1

/-! ### Device state (R350) -/

/-- GLB DEV_STATE.STATE. -/
def State.devState (s : State) : Nat := s.get Reg.GLB.DEV_STATE.STATE

/-- A wake ends in READY or SHUTTERED: the image is invalid from there on, WOKE is raised and
START carts are due (R349, R376, R419). -/
def State.wakeEnds (s : State) (v : Nat) : State :=
  if (v = 6 ∨ v = 7) ∧ s.power.waking then
    ({ s with power := { s.power with waking := false, image := false, epochDue := true } }).raise (page .prf 0) 5
  else s

/-- Changes the device state; every change raises GLB STATE_CHANGE. -/
def State.setDevState (s : State) (v : Nat) : State :=
  if s.devState = v then s else ((s.put Reg.GLB.DEV_STATE.STATE v).raise (page .glb 0) 0).wakeEnds v

/-- The scan runs (SCN STAT.SCANNING): READY or RUN (R351). -/
def State.scanning (s : State) : Bool := s.devState == 7 || s.devState == 8

/-! ### Carts (R272 to R277) -/

/-- A cart word from (lowest bit, width, value) parts. -/
def quad (parts : List (Nat × Nat × Nat)) : Quad :=
  BitVec.ofNat 64 (parts.foldl (fun a p => a + p.2.2 % 2 ^ p.2.1 * 2 ^ p.1) 0)

/-- W0 of the header (Table 10-1). -/
def Cart.w0 (c : Cart) : Quad := quad [(58, 6, c.typ), (55, 3, c.cls), (48, 7, c.st), (0, 48, c.tick)]

/-- W1 of the header (Table 10-1). -/
def Cart.w1 (c : Cart) : Quad :=
  quad [(60, 4, c.lenM1), (56, 4, c.part), (50, 6, c.wheel), (32, 16, c.repoch), (0, 32, c.seq)]

/-- The eight words of a cart (R272). -/
def Cart.words (c : Cart) : List Quad := c.w0 :: c.w1 :: (c.body ++ List.replicate (6 - c.body.length) 0)

/-- REC CART_CLS fields (R417). -/
def State.toothCls (s : State) : Nat := s.get Reg.REC.CART_CLS.TOOTH_CLS
/-- Class of EVENT and USER carts. -/
def State.eventCls (s : State) : Nat := s.get Reg.REC.CART_CLS.EVENT_CLS
/-- Class of STROKE carts. -/
def State.strokeCls (s : State) : Nat := s.get Reg.REC.CART_CLS.STROKE_CLS
/-- Class of TIMESTEP, TWINLOSS, FAULT, WHEEL and WRAP carts. -/
def State.markerCls (s : State) : Nat := s.get Reg.REC.CART_CLS.MARKER_CLS
/-- Class of COMMIT carts. -/
def State.commitCls (s : State) : Nat := s.get Reg.REC.CART_CLS.COMMIT_CLS
/-- Class of the provenance carts. -/
def State.provCls (s : State) : Nat := s.get Reg.REC.CART_CLS.PROV_CLS

/-- The record counter of a class (R274). -/
def State.seqOf (s : State) (cls : Nat) : Nat := s.recd.seq.get (fun _ => 0) cls

/-- Generates a record of 1 to 16 carts (R275): `t` is the stamp in st, `wheel` is 63 when the record concerns no
wheel. The record takes the counter's value, which advances by one modulo 2^32 unless the type is UNIT, PAD, LOSS or
OVERFLOW (R274). -/
def State.record (s : State) (typ cls t wheel : Nat) (bodies : List (List Quad)) : State :=
  let seq := s.seqOf cls
  let repoch := if wheel = 63 then 0 else s.get (Reg.WHL.REV_EPOCH.EPOCH wheel)
  let made := (List.range bodies.length).zip bodies |>.map (fun (i, b) =>
    (⟨typ, cls, t % 128, t / 128 % 2 ^ 48, bodies.length - 1, i, wheel, repoch, seq, b⟩ : Cart))
  let free := typ == 0x00 || typ == 0x01 || typ == 0x12 || typ == 0x13
  { s with
    carts := made.reverse ++ s.carts
    recd := if free then s.recd else { s.recd with seq := s.recd.seq.set (fun _ => 0) cls ((seq + 1) % 2 ^ 32) } }

/-- Generates a one-cart record. -/
def State.cart (s : State) (typ cls t wheel : Nat) (body : List Quad) : State := s.record typ cls t wheel [body]

/-- Generates a COMMIT or FAULT record, a second time in PROV_CLS when its class differs (R422). -/
def State.recordTwice (s : State) (typ cls t wheel : Nat) (bodies : List (List Quad)) : State :=
  let s := s.record typ cls t wheel bodies
  if s.provCls = cls then s else s.record typ s.provCls t wheel bodies

/-- The bytes of a dword, lowest address first. -/
def wordBytes (w : Word) : List Byte := (List.range 4).map (fun i => BitVec.ofNat 8 (w.toNat / 256 ^ i))

/-! ### Free values -/

/-- Draws a free byte. -/
def State.drawByte (s : State) : Byte × State := (Config.freeByte s.freeCtr, { s with freeCtr := s.freeCtr + 1 })

/-- Draws a free dword. -/
def State.drawWord (s : State) : Word × State := (Config.freeWord s.freeCtr, { s with freeCtr := s.freeCtr + 1 })

/-! ### Outcomes -/

/-- The outcome of a command that steps no counter: R57, "No register write sets it, and no event steps it", and no
command touches the queue. -/
def run (s t : State) : Host.Outcome State Fault Refusal := .next { t with tick := s.tick, pending := s.pending }

/-- The outcome of a command that moves the tick counter (TICK_BOUNDARY, SLOWCLK_CYCLE, wake and cold start). -/
def runAt (s t : State) (n : Nat) : Host.Outcome State Fault Refusal := .next { t with tick := n, pending := s.pending }

/-- An effect that happens only when its condition holds; otherwise the command is no event of the device. -/
def State.when (s : State) (c : Bool) (f : State → State) : State := if c then f s else s

/-- The same effect for each of a list of things, in order. -/
def State.forEach {α : Type} (s : State) (l : List α) (f : State → α → State) : State := l.foldl f s

end Sys2Proof.Machine
end

