-- ==== Sys2Proof/Machine/Operands.lean ====
section
/-! DEFINITION. The operand forms: fields of a slot descriptor (Table 5-1), endpoint addresses (Table 0-4), endpoint
groups (Table 11-6), offsets in BAR2 (Table 11-2), units named by a page, and the handle ranges of compartments. -/

namespace Sys2Proof.Machine

/-! ### Slot words (R140) -/

/-- Word k of a slot's live descriptor. -/
def Slot.word (sl : Slot) (k : Nat) : Word := sl.w.getD k 0
/-- Replaces word k. -/
def Slot.setWord (sl : Slot) (k : Nat) (v : Word) : Slot := { sl with w := sl.w.set k v }
/-- A field of word k. -/
def Slot.field (sl : Slot) (k hi lo : Nat) : Nat := Word.bits (sl.word k) hi lo
/-- W0.GEN (R167). -/
def Slot.gen (sl : Slot) : Nat := sl.field 0 31 25
/-- W0.RDIV. -/
def Slot.rdiv (sl : Slot) : Nat := sl.field 0 22 15
/-- W0.REPEAT: 0 EVERY, 1 ONCE, 2 NTH, 3 WHILE_ARMED. -/
def Slot.rep (sl : Slot) : Nat := sl.field 0 14 13
/-- W0.LATE. -/
def Slot.late (sl : Slot) : Bool := sl.field 0 12 12 == 1
/-- W0.REV. -/
def Slot.revOk (sl : Slot) : Bool := sl.field 0 11 11 == 1
/-- W0.PROT. -/
def Slot.prot (sl : Slot) : Bool := sl.field 0 10 10 == 1
/-- W0.ARM. -/
def Slot.arm (sl : Slot) : Bool := sl.field 0 9 9 == 1
/-- W0.WHEEL. -/
def Slot.wheel (sl : Slot) : Nat := sl.field 0 8 3
/-- W0.TYPE: 0 NONE, 1 E, 2 W, 3 P. -/
def Slot.typ (sl : Slot) : Nat := sl.field 0 2 0
/-- W1.ANGLE_A as a position on the wheel, 1 024 micro-ticks a tooth. -/
def Slot.angA (sl : Slot) : Nat := sl.field 1 19 0
/-- W2.ANGLE_B. -/
def Slot.angB (sl : Slot) : Nat := sl.field 2 19 0
/-- W3.DUR. -/
def Slot.dur (sl : Slot) : Nat := sl.field 3 26 0
/-- W4.DMIN. -/
def Slot.dmin (sl : Slot) : Nat := sl.field 4 26 0
/-- W5.DMAX. -/
def Slot.dmax (sl : Slot) : Nat := sl.field 5 26 0
/-- W6.PARAM. -/
def Slot.param (sl : Slot) : Nat := sl.field 6 29 22
/-- W6.ACTION. -/
def Slot.action (sl : Slot) : Nat := sl.field 6 21 18
/-- W6.ENDPOINT. -/
def Slot.endpoint (sl : Slot) : Nat := sl.field 6 17 0

/-- The bits of word k that a commit writes; the rest are read only (Table 5-1). -/
def slotMask : Nat → Nat
  | 0 => 0x007FFFFF
  | 1 | 2 => 0x000FFFFF
  | 3 | 4 | 5 => 0x07FFFFFF
  | 6 => 0x3FFFFFFF
  | _ => 0

/-! ### Endpoint addresses (R10, R11) -/

/-- port[17:13]. -/
def epPort (a : Nat) : Nat := a / 8192 % 32
/-- node[12:7]. -/
def epNode (a : Nat) : Nat := a / 128 % 64
/-- channel[6:0]. -/
def epChan (a : Nat) : Nat := a % 128
/-- Line number of an EVT address. -/
def epLine (a : Nat) : Nat := a % 8192
/-- Lx.Ny.Cz. -/
def epIsLink (a : Nat) : Bool := decide (epPort a < 16)
/-- LOC.Cn. -/
def epIsDrive (a : Nat) : Bool := epPort a == 16 && epNode a == 0 && decide (epChan a < 64)
/-- LOC.Qn. -/
def epIsQ (a : Nat) : Bool := epPort a == 16 && epNode a == 1 && decide (epChan a < 96)
/-- LOC.Gn. -/
def epIsG (a : Nat) : Bool := epPort a == 16 && epNode a == 2 && decide (epChan a < 96)
/-- EVT.n. -/
def epIsEvt (a : Nat) : Bool := epPort a == 17 && decide (epLine a < 512)
/-- Port 16 or 17: a local output or an event line. -/
def epIsLocal (a : Nat) : Bool := epPort a == 16 || epPort a == 17
/-- The address names an endpoint (R11). -/
def epExists (a : Nat) : Bool := epIsLink a || epIsDrive a || epIsQ a || epIsG a || epIsEvt a

/-- Address of LOC.Cn. -/
def epDrive (n : Nat) : Nat := 0x20000 + n
/-- Address of LOC.Qn. -/
def epQ (n : Nat) : Nat := 0x20080 + n
/-- Address of LOC.Gn. -/
def epG (n : Nat) : Nat := 0x20100 + n
/-- Address of EVT.n. -/
def epEvt (n : Nat) : Nat := 0x22000 + n

/-- Endpoint group (R291); none for an address that names no endpoint. -/
def epGroup (a : Nat) : Option Nat :=
  if epIsLink a then some (epPort a)
  else if epIsDrive a then some (16 + epChan a / 8)
  else if epIsQ a then some 24
  else if epIsG a then some (25 + epChan a / 32)
  else if epIsEvt a then some (28 + epLine a / 64)
  else none

/-- Lookahead: a local target is evaluated for the next tick, a link target for tick n + L (R20). -/
def State.horizon (s : State) (a : Nat) : Nat := if epIsLink a then s.get (Reg.LNK.CFG.L (epPort a)) else 1

/-! ### BAR2 (R140, R201, R279) -/

/-- What a BAR2 byte offset names. -/
inductive Bar2 | slotWord (h k : Nat) | eptBytes (first : Nat) | hole
deriving DecidableEq, Repr

/-- The slot word or the four endpoint bytes at a dword offset of BAR2. -/
def bar2At (off : Nat) : Bar2 :=
  if off < 0x400000 then .slotWord (off / 32) (off / 4 % 8)
  else if off < 0x440000 then .eptBytes (off / 4 * 4 - 0x400000)
  else .hole

/-! ### Compartments (R290, Table 11-5) -/

/-- Compartment of a door (GLB DOOR_MAP). -/
def State.comp (s : State) (d : Nat) : Nat := s.get Reg.GLB.DOOR_MAP.COMP / 4 ^ d % 4

/-- HB_c: the first handle of compartment c. -/
def State.handleBound (s : State) (c : Nat) : Nat :=
  match c with
  | 0 => 0
  | 1 => s.get Reg.GLB.COMP_HB1.HB
  | 2 => s.get Reg.GLB.COMP_HB2.HB
  | 3 => s.get Reg.GLB.COMP_HB3.HB
  | _ => 131072

/-- The compartment that owns a handle: HB_c ≤ h < HB_(c+1). -/
def State.handleOwner (s : State) (h : Nat) : Nat :=
  if s.handleBound 3 ≤ h then 3 else if s.handleBound 2 ≤ h then 2 else if s.handleBound 1 ≤ h then 1 else 0

/-- The slot that a handle reads as: one lost in the current tick still shows its words (R181). -/
def State.slotSeen (s : State) (h : Nat) : Slot := (s.fabric.lost.find h).getD (s.slot h)

/-- W0 as a read returns it: OWNER is the compartment whose range holds the handle (Table 5-1). -/
def State.slotW0 (s : State) (h : Nat) : Word := Word.withBits ((s.slotSeen h).word 0) 24 23 (s.handleOwner h)

/-- A 4-bit mask out of a register that packs eight of them. -/
def nibble (w : Nat) (k : Nat) : Nat := w / 16 ^ k % 16

/-- Bit k of a number. -/
def hasBit (w k : Nat) : Bool := w / 2 ^ k % 2 == 1

/-- Compartment c may give a slot an endpoint of group g: owner or USE mask (GLB EP_GROUP_i). -/
def State.mayUseGroup (s : State) (c g : Nat) : Bool :=
  let b := s.get (Reg.GLB.EP_GROUP.GROUPS (g / 4)) / 256 ^ (g % 4) % 256
  b % 4 == c || hasBit (b / 16) c

/-- Compartment that owns endpoint group g. -/
def State.groupOwner (s : State) (g : Nat) : Nat := s.get (Reg.GLB.EP_GROUP.GROUPS (g / 4)) / 256 ^ (g % 4) % 4

/-- Compartment c may name wheel n (GLB WHEEL_USE_i, or it owns the page). -/
def State.mayUseWheel (s : State) (c n : Nat) : Bool :=
  s.pageComp (page .whl n) == c || hasBit (nibble (s.get (Reg.GLB.WHEEL_USE.USE (n / 8))) (n % 8)) c

/-- Compartment c may name record class k (GLB CLASS_i). -/
def State.mayUseClass (s : State) (c k : Nat) : Bool :=
  let b := s.get (Reg.GLB.CLASS.CLASSES (k / 4)) / 256 ^ (k % 4) % 256
  b % 4 == c || hasBit (b / 16) c

end Sys2Proof.Machine
end

