-- ==== Sys2Proof/Machine/Flags.lean ====
section
/-! DEFINITION. Flags and codes: the result flags of a pass, event cart causes, fault causes and actions, the bits of the
interrupt sources, the fault log and the fault marker. -/

namespace Sys2Proof.Machine

/-! ### Result flags (Table 5-9), as the byte of W7 bits 31:24 -/

/-- CLAMP_MIN. -/
def fClampMin : Nat := 0x01
/-- CLAMP_MAX. -/
def fClampMax : Nat := 0x02
/-- LATE. -/
def fLate : Nat := 0x04
/-- MISSED. -/
def fMissed : Nat := 0x08
/-- CATCHUP. -/
def fCatchup : Nat := 0x10
/-- PROTECT_DELAY. -/
def fDelay : Nat := 0x20
/-- PROTECT_CUT. -/
def fCut : Nat := 0x40
/-- TWIN_LOSS. -/
def fTwin : Nat := 0x80

/-- Flags gathered over a pass. -/
def orFlags (a b : Nat) : Nat := a ||| b

/-- Of the causes that apply to one cart, the lowest code that is not 0 (R418). -/
def lowestCause (a b : Nat) : Nat := if a = 0 then b else if b = 0 then a else min a b

/-! ### Fault causes (Table 15-2) and actions (Table 15-1) -/

/-- ACTION COUNTED. -/
def aCounted : Nat := 0
/-- ACTION ABSORBED. -/
def aAbsorbed : Nat := 1
/-- ACTION SHUTTERED. -/
def aShuttered : Nat := 2
/-- ACTION DEVICE. -/
def aDevice : Nat := 3

/-- The block of a function that can be shuttered. -/
def fnBlock : FnKind → Block
  | .inp => .inp | .whl => .whl | .lnk => .lnk | .drv => .drv | .adc => .adc | .tmr => .tmr | .dma => .dma

/-- The page of function n of a kind. -/
def fnPage (f : FnKind) (n : Nat) : Nat := page (fnBlock f) n

/-- The function exists on the device. -/
def fnExists (f : FnKind) (n : Nat) : Bool := decide (n < (fnBlock f).pages)

/-- An entry of the fault log (R394): the ring has 64 slots, the newest in slot (LOG_COUNT - 1) mod 64; LOG_COUNT counts
modulo 2^32. FLT PG_ERRCNT counts it, FAULT is raised, and SHUT with action SHUTTERED (R377, Table 15-8). -/
def State.logFault (s : State) (cause block inst action data : Nat) : State :=
  let c := s.get Reg.FLT.LOG_COUNT.COUNT
  let e : LogEntry := ⟨cause, block, inst % 256, action, s.tick, BitVec.ofNat 32 data⟩
  let s := { s with flt := { s.flt with log := s.flt.log.insert (c % 64) e } }
  let s := s.put Reg.FLT.LOG_COUNT.COUNT ((c + 1) % 2 ^ 32)
  let s := s.err (page .flt 0)
  let s := s.raise (page .flt 0) 0
  let s := if action = aShuttered then (s.bump Reg.FLT.SHUT_CNT.COUNT).raise (page .flt 0) 1 else s
  if action = aAbsorbed then s.bump Reg.FLT.ABSORB_CNT.COUNT else s

/-- A fault marker cart (R32, R277 FAULT), stamped with the tick of the fault. -/
def State.faultMarker (s : State) (cause block inst action : Nat) (lost : Option Nat) (data tick wheel : Nat) : State :=
  s.recordTwice 0x15 s.markerCls (st0 tick) wheel
    [[quad [(56, 8, cause), (48, 8, block), (40, 8, inst), (38, 2, action), (20, 17, lost.getD 0),
        (19, 1, if lost.isSome then 1 else 0)],
      quad [(0, 32, data)], BitVec.ofNat 64 tick]]

/-- The wheel a function's marker concerns: the tracker's own, else none. -/
def fnWheel (f : FnKind) (n : Nat) : Nat :=
  match f with
  | .whl => n
  | .inp | .lnk | .drv | .adc | .tmr | .dma => 63

/-! ### The maintenance ledger (R391, R392) -/

/-- Activities of Table 15-5. -/
def kEvac : Nat := 0
/-- A step to a lower DVFS level. -/
def kDvfs : Nat := 1
/-- Learning on any wheel. -/
def kLearn : Nat := 2
/-- A profile switch. -/
def kSwitch : Nat := 3
/-- A drive retirement. -/
def kRetire : Nat := 4
/-- A volume scrub. -/
def kScrub : Nat := 5

/-- The kind a kind conflicts with. -/
def kRival (k : Nat) : Nat := if k % 2 = 0 then k + 1 else k - 1

/-- Sets or clears one bit of a number. -/
def setBit (w k : Nat) (v : Bool) : Nat :=
  if hasBit w k == v then w else if v then w + 2 ^ k else w - 2 ^ k

/-- FLT LEDGER.ACTIVE bit k. -/
def State.active (s : State) (k : Nat) : Bool := hasBit (s.get Reg.FLT.LEDGER.ACTIVE) k
/-- Sets or clears FLT LEDGER.ACTIVE bit k. -/
def State.setActive (s : State) (k : Nat) (v : Bool) : State :=
  s.put Reg.FLT.LEDGER.ACTIVE (setBit (s.get Reg.FLT.LEDGER.ACTIVE) k v)
/-- FLT LEDGER.QUEUED bit k. -/
def State.isQueued (s : State) (k : Nat) : Bool := hasBit (s.get Reg.FLT.LEDGER.QUEUED) k
/-- Sets or clears FLT LEDGER.QUEUED bit k. -/
def State.setQueued (s : State) (k : Nat) (v : Bool) : State :=
  s.put Reg.FLT.LEDGER.QUEUED (setBit (s.get Reg.FLT.LEDGER.QUEUED) k v)

/-- Queues a request of kind k behind its rival (R392); LEDGER_QUEUED is raised. -/
def State.enqueue (s : State) (k arg door : Nat) : State :=
  let s := { s with flt := { s.flt with queue := s.flt.queue ++ [(⟨k, arg, door⟩ : Held)] } }
  (s.setQueued k true).raise (page .flt 0) 4

/-- Takes a queued request out of the ledger. -/
def State.unqueue (s : State) (k arg : Nat) : State :=
  let q := s.flt.queue.filter (fun h => !(h.kind == k && h.arg == arg))
  let s := { s with flt := { s.flt with queue := q } }
  s.setQueued k (q.any (fun h => h.kind == k))

/-- A LOAD, RESET or standby entry clears the ledger (R392). -/
def State.clearLedger (s : State) : State :=
  let s := { s with flt := { s.flt with queue := [], learning := [] } }
  (s.put Reg.FLT.LEDGER.ACTIVE 0).put Reg.FLT.LEDGER.QUEUED 0

/-- LEARN is active while any wheel learns (Table 15-5). -/
def State.endLearn (s : State) (w : Nat) : State :=
  let l := s.flt.learning.filter (fun x => x != w)
  let s := { s with flt := { s.flt with learning := l } }
  s.setActive kLearn (!l.isEmpty)

/-- A wheel begins to learn. -/
def State.startLearn (s : State) (w : Nat) : State :=
  let s := { s with flt := { s.flt with learning := w :: s.flt.learning.filter (fun x => x != w) } }
  s.setActive kLearn true

end Sys2Proof.Machine
end

