-- ==== Sys2Proof/Machine/Fabric.lean ====
section
/-! DEFINITION. The fabric: coaches, carriages, the constraints of placement and the choice of entries (R169 to R174,
R190, R191, R197). -/

namespace Sys2Proof.Machine

/-- The fault domain of a coach (R169). -/
def domainOf (c : Nat) : Nat := c / 128
/-- The coach of a carriage address. -/
def coachOf (a : Nat) : Nat := a / 128

/-- The per-coach limit of a DVFS level (Table 2-5). -/
def levelLimit (l : Nat) : Nat := if l = 0 then 128 else if l = 1 then 96 else 64

/-- The level in force. -/
def State.level (s : State) : Nat := s.get Reg.PWR.DVFS_STAT.LEVEL

/-- K of the level in force (R172). -/
def State.kLimit (s : State) : Nat := levelLimit s.level

/-- The held limit, or no bound (R195). -/
def State.heldLimit (s : State) : Nat :=
  if s.bit Reg.PLC.STAT.HOLD_EN then levelLimit (s.get Reg.PLC.STAT.HOLD_LVL) else 128

/-- K': the limit of the level in force, of a held level and of an accepted step down, whichever is least (R190, R73). -/
def State.kPrime (s : State) : Nat :=
  let k := min s.kLimit s.heldLimit
  match s.clk.dvfs with
  | some d => if d.up then k else min k (levelLimit d.target)
  | none => k

/-- A carriage may be placed in a coach: it is ACTIVE (R190). -/
def State.placeable (s : State) (c : Nat) : Bool := (s.coach c).state == 0

/-- A coach is in service for the scan: ACTIVE or EVACUATING (R197). -/
def State.inService (s : State) (c : Nat) : Bool := (s.coach c).state == 0 || (s.coach c).state == 1

/-- Coaches the part enables in one domain (R169). -/
def State.domainCoaches (s : State) : Nat := if s.power.is1024 then 64 else 128

/-- How many enabled coaches of domain d are in a state that a test accepts; a coach not listed is ACTIVE. -/
def State.countCoaches (s : State) (ok : Coach → Bool) (d : Nat) : Nat :=
  let listed := s.fabric.coach.filter (fun e => domainOf e.1 == d && !(s.power.is1024 && e.1 / 64 % 2 == 1))
  (if ok Coach.reset then s.domainCoaches - listed.length else 0) + (listed.filter (fun e => ok e.2)).length

/-- Coaches in service on the device (R197 HEALTHY). -/
def State.healthy (s : State) : Nat :=
  (List.range 16).foldl (fun a d => a + s.countCoaches (fun c => c.state == 0 || c.state == 1) d) 0

/-- Live and reserved carriages (R197 OCCUPIED). -/
def State.occupied (s : State) : Nat := s.fabric.carr.length

/-- Free entries below a limit in the coaches of domain d where carriages may be placed: c_d of R190. -/
def State.domainFree (s : State) (k d : Nat) : Nat :=
  let here := fun (a : Nat) => domainOf (coachOf a) == d && decide (a % 128 < k) && s.placeable (coachOf a)
  s.countCoaches (fun c => c.state == 0) d * k -
    ((s.fabric.carr.filter (fun e => here e.1)).length + (s.fabric.left.filter (fun e => here e.1)).length)

/-- R190: n protected and u unprotected slots can be added below limit k. -/
def State.fits (s : State) (k n u : Nat) : Bool :=
  let c := (List.range 16).map (fun d => s.domainFree k d)
  decide (2 * n ≤ c.foldl (fun a x => a + min x n) 0) && decide (2 * n + u ≤ c.foldl (· + ·) 0)

/-- PROT_ROOM: the largest n for which the first condition of R190 holds, by halving. -/
def protSearch (c : List Nat) : Nat → Nat → Nat
  | 0, _ => 0
  | f + 1, base =>
    let step := 2 ^ f
    let n := base + step
    if 2 * n ≤ c.foldl (fun a x => a + min x n) 0 then step + protSearch c f n else protSearch c f base

/-- PLC PROT_ROOM.SLOTS (R190). -/
def State.protRoom (s : State) : Nat := protSearch ((List.range 16).map (fun d => s.domainFree s.kPrime d)) 18 0

/-- FREE_Pk (R197). -/
def State.freeAt (s : State) (l : Nat) : Nat := s.healthy * levelLimit l - s.occupied

/-- Carriage addresses that hold a slot's live words. -/
def State.carriagesOf (s : State) (h : Nat) : List Nat :=
  (s.fabric.carr.filter (fun e => e.2.handle == h && e.2.role != 0)).map (fun e => e.1)

/-- The carriage with a role for a handle. -/
def State.carriageWith (s : State) (h : Nat) (role : Nat → Bool) : Option (Nat × Carriage) :=
  s.fabric.carr.find? (fun e => e.2.handle == h && role e.2.role)

/-- A protected slot that runs on one carriage (R180). -/
def State.isSingle (s : State) (h : Nat) : Bool := (s.slot h).prot && (s.carriagesOf h).length == 1

/-- The live words of a carriage's slot sit in a coach in service. -/
def State.onFabric (s : State) (h : Nat) : Bool := !(s.carriagesOf h).isEmpty

/-- The lowest free entry below k in the lowest coach of a list. -/
def State.freeEntry (s : State) (k : Nat) (coaches : List Nat) : Option Nat :=
  coaches.findSome? (fun c =>
    if s.placeable c then
      ((List.range k).find? (fun e =>
        (s.fabric.carr.find (c * 128 + e)).isNone && (s.fabric.left.find (c * 128 + e)).isNone)).map (fun e => c * 128 + e)
    else none)

/-- Carriages of a wheel in a domain (R191). -/
def State.wheelCount (s : State) (w d : Nat) : Nat :=
  (s.fabric.carr.filter (fun e => e.2.wheel == w && domainOf (coachOf e.1) == d)).length

/-- The most carriages of a wheel in one domain that R191 aims for, when the wheel has so many. -/
def State.spreadAim (s : State) (total : Nat) : Nat := (total + 15) / 16 + s.get Reg.PLC.SPREAD.SLACK

/-- All carriages of a wheel. -/
def State.wheelTotal (s : State) (w : Nat) : Nat := (s.fabric.carr.filter (fun e => e.2.wheel == w)).length

/-- The domain with most free entries among some, so that R190 is met whenever it can be; then the fewest carriages of the wheel; then
the lowest number. -/
def State.roomiest (s : State) (k w : Nat) (ds : List Nat) : Option Nat :=
  ds.foldl (fun best d => match best with
    | none => some d
    | some b =>
      if s.domainFree k b < s.domainFree k d then some d
      else if s.domainFree k b = s.domainFree k d ∧ s.wheelCount w d < s.wheelCount w b then some d
      else some b) none

/-- The domain to place in: with `aim`, one that meets R191 where there is one. DESIGN CHOICE (log entry 6): the spec leaves the choice
open among those, and no output depends on it. -/
def State.pickDomain (s : State) (aim : Bool) (k w : Nat) (bar : List Nat) : Option Nat :=
  let ds := (List.range 16).filter (fun d => !bar.contains d && s.domainFree k d != 0)
  let meets := ds.filter (fun d => decide (s.wheelCount w d + 1 ≤ s.spreadAim (s.wheelTotal w + 1)))
  s.roomiest k w (if aim && !meets.isEmpty then meets else ds)

/-- Places one carriage in a domain not barred; SPREAD_WARN when the wheel's share is exceeded (R191). -/
def State.placeWith (s : State) (aim : Bool) (role h w : Nat) (reserved : Bool) (bar : List Nat) : Option (State × Nat) :=
  let k := s.kPrime
  match s.pickDomain aim k w bar with
  | none => none
  | some d =>
    match s.freeEntry k ((List.range 128).map (fun i => d * 128 + i)) with
    | none => none
    | some a =>
      let s := s.setCarriage a ⟨role, h, w, reserved⟩
      some (s.raiseIf (decide (s.spreadAim (s.wheelTotal w) < s.wheelCount w d)) (page .plc 0) 4, a)

/-- Places one carriage, under the preference of R191. -/
def State.placeOne (s : State) (role h w : Nat) (reserved : Bool) (bar : List Nat) : Option (State × Nat) :=
  s.placeWith true role h w reserved bar

/-- The domains that hold carriages of a slot. -/
def State.domainsOf (s : State) (h : Nat) : List Nat :=
  (s.fabric.carr.filter (fun e => e.2.handle == h)).map (fun e => domainOf (coachOf e.1))

/-- A slot waits no more for a new twin; when it was the last to wait, RECREATED is raised and nothing is DEGRADED (R194). -/
def State.unwait (s : State) (h : Nat) : State :=
  if !s.fabric.recreate.contains h then s
  else
    let s := { s with fabric := { s.fabric with recreate := s.fabric.recreate.filter (fun x => x != h) } }
    if s.fabric.recreate.isEmpty then (s.put Reg.SCN.STAT.DEGRADED 0).raise (page .plc 0) 2 else s

/-- Every carriage of a handle becomes EMPTY. -/
def State.releaseCarriages (s : State) (h : Nat) : State :=
  let moves := s.fabric.moves.filter (fun m => (s.carriage m.src).handle != h && (s.carriage m.dst).handle != h)
  State.unwait { s with fabric := { s.fabric with carr := s.fabric.carr.filter (fun e => e.2.handle != h), moves := moves } } h

/-- The entry is the destination of a move (R193). -/
def State.isTarget (s : State) (a : Nat) : Bool := s.fabric.moves.any (fun m => m.dst == a)

/-- Reserved carriages of a handle are released; destinations of moves stay. -/
def State.releaseReserved (s : State) (h : Nat) : State :=
  { s with fabric := { s.fabric with
      carr := s.fabric.carr.filter (fun e => e.2.handle != h || e.2.role != 0 || s.isTarget e.1) } }

/-- Reserved carriages become live: DRIVER and CHECKER, or SINGLE; live ones keep their order of ROLE, a reserved one joins as CHECKER
(R189). -/
def State.liven (s : State) (h w : Nat) (prot : Bool) : State :=
  let mine := s.fabric.carr.filter (fun e => e.2.handle == h && !s.isTarget e.1)
  let live := mine.filter (fun e => e.2.role == 1 || e.2.role == 3) ++ mine.filter (fun e => e.2.role == 2)
  let order := live ++ mine.filter (fun e => e.2.role == 0)
  let roles := if prot then [1, 2] else [3]
  let s := (order.drop roles.length).foldl (fun s e => s.setCarriage e.1 Carriage.empty) s
  (order.zip roles).foldl (fun s e => s.setCarriage e.1.1 ⟨e.2, h, w, false⟩) s

/-- Every live and reserved carriage lies in entries below k of its coach (R73). -/
def State.compactAt (s : State) (k : Nat) : Bool := s.fabric.carr.all (fun e => decide (e.1 % 128 < k))

end Sys2Proof.Machine
end

