-- ==== Sys2Proof/Machine/Endpoints.lean ====
section
/-! DEFINITION. Endpoints: demands and combine rules, conflicts, safe levels, local output edges, link commands, the carts
of edges and the results of passes (R147, R148, R160, R161, R204, R206, R217). -/

namespace Sys2Proof.Machine

/-! ### Small list operations -/

/-- Inserts a number into a rising list, once. -/
def insertNat (x : Nat) : List Nat → List Nat
  | [] => [x]
  | y :: l => if x = y then y :: l else if x < y then x :: y :: l else y :: insertNat x l

/-- The numbers of a list, rising, each once. -/
def sortNat (l : List Nat) : List Nat := l.foldl (fun a x => insertNat x a) []

/-- Inserts by a key, after those with the same key. -/
def insertBy {α : Type} (key : α → Nat) (x : α) : List α → List α
  | [] => [x]
  | y :: l => if key x < key y then x :: y :: l else y :: insertBy key x l

/-- Stable sort by a key. -/
def sortBy {α : Type} (key : α → Nat) (l : List α) : List α := l.foldl (fun a x => insertBy key x a) []

/-- The longest first part of a list up to and including the first element that a test accepts, and the rest. -/
def splitAfter {α : Type} (p : α → Bool) : List α → List α × List α
  | [] => ([], [])
  | x :: l => if p x then ([x], l) else ((x :: (splitAfter p l).1), (splitAfter p l).2)

/-! ### Carts of passes (R160, R277) -/

/-- Fields of a W6 word. -/
def targetEp (w : Word) : Nat := Word.bits w 17 0
/-- ACTION of a W6 word. -/
def targetAction (w : Word) : Nat := Word.bits w 21 18
/-- PARAM of a W6 word. -/
def targetParam (w : Word) : Nat := Word.bits w 29 22

/-- RESULT_START and RESULT_END of a MISSED pass (R161). -/
def noTime : Word := 0x80000000

/-- A missed pass: no edge, one cart, both times unknown. -/
def DueCart.missed (d : DueCart) (at_ cause : Nat) : DueCart :=
  { d with at_ := at_, edge := 3, flags := orFlags d.flags fMissed, cause := lowestCause d.cause cause, final := true, resStart := noTime, resEnd := noTime }

/-- A cart of a pass that waits for its tick. -/
def cartOf (h edge at_ : Nat) (p : Pass) : DueCart where
  at_ := at_
  handle := h
  edge := edge
  flags := p.flags
  cause := p.cause
  wheel := p.wheel
  target := p.target
  final := false
  resStart := noTime
  resEnd := noTime
  dip := (0, 0, 0, 0)
  user := false
  first := p.first
  start := p.s

/-- The final cart of a pass that ends at a time: both times relative to the angle reference (R161). -/
def finalCart (h edge stop : Nat) (p : Pass) : DueCart :=
  let d := { cartOf h edge stop p with final := true }
  if hasBit p.flags 3 then d.missed stop 0
  else { d with resStart := BitVec.ofInt 32 ((p.s : Int) - p.ref), resEnd := BitVec.ofInt 32 ((stop : Int) - p.ref) }

/-- Adds carts to those that wait. -/
def State.due (s : State) (d : DueCart) : State := { s with dueCarts := s.dueCarts ++ [d] }

/-- The cause of every waiting cart of an endpoint's edge at an instant (R418). -/
def State.causeAt (s : State) (ep t cause : Nat) : State :=
  { s with dueCarts := s.dueCarts.map (fun d =>
      if targetEp d.target = ep ∧ d.at_ = t then { d with cause := lowestCause d.cause cause } else d) }

/-- The device clears ARM under ONCE: GEN advances (R146, R167). -/
def Slot.disarm (sl : Slot) : Slot :=
  sl.setWord 0 (Word.withBits (Word.withBits (sl.word 0) 9 9 0) 31 25 (sl.gen + 1))

/-- Writes the result of a pass (R160, R161): flags, REV8, PASS_CNT and the captured values; under ONCE the first counted
pass clears ARM unless a commit writes W0 in the same tick (R146). -/
def State.writeResult (s : State) (d : DueCart) (rev : Nat) : State :=
  s.onSlot d.handle (fun sl =>
    let sl := { sl with flags := d.flags, rev8 := rev % 256, passCnt := (sl.passCnt + 1) % 65536, resRev := BitVec.ofNat 32 rev, resStart := d.resStart, resEnd := d.resEnd }
    if d.first && sl.w0At != some s.tick then sl.disarm else sl)

/-- An EVENT or USER cart, and the result with a final one (R160, R25); `rev` is the revolution counter of the pass. -/
def State.emitWith (s : State) (d : DueCart) (rev : Nat) : State :=
  if d.user then
    s.cart 0x18 s.eventCls d.at_ d.wheel
      [quad [(47, 17, d.handle), (45, 2, d.edge), (0, 32, rev)], quad [(46, 18, targetEp d.target), (34, 8, targetParam d.target)]]
  else
    let dip := d.dip
    let s := s.cart 0x03 s.eventCls d.at_ d.wheel
      [quad [(47, 17, d.handle), (45, 2, d.edge), (37, 8, d.flags), (32, 5, d.cause), (0, 32, rev)],
        quad [(46, 18, targetEp d.target), (42, 4, targetAction d.target), (34, 8, targetParam d.target), (33, 1, if d.final then 1 else 0)],
        quad [(32, 32, d.resStart.toNat), (0, 32, d.resEnd.toNat)],
        quad [(32, 32, dip.2.1), (0, 32, dip.2.2.1)], quad [(62, 2, dip.1), (0, 10, dip.2.2.2)]]
    if d.final then s.writeResult d rev else s

/-- A cart in the tick of its edge: the revolution counter stands as it is. -/
def State.emitCart (s : State) (d : DueCart) : State := s.emitWith d (s.tracker d.wheel).rev

/-- The cause of the carts of a command: of every edge at a level command's instant, of its own slot's edge otherwise. -/
def State.causeCmd (s : State) (c : LCmd) (cause : Nat) : State :=
  { s with dueCarts := s.dueCarts.map (fun d =>
      if targetEp d.target = c.ep ∧ d.at_ = c.e ∧ (if c.action < 3 then targetAction d.target ≤ 3 else d.handle = c.handle) then
        { d with cause := lowestCause d.cause cause }
      else d) }

/-- Sample requests still in a queue in the tick of their edge can only be placed later than asked for: the edge's cart, which is generated
now, says so (R220; DEDUCED, log entry 36). -/
def State.lateRequests (s : State) : State :=
  s.forEach (s.lnk.flatMap (fun e => e.2.sample.filter (fun c => decide (c.e / 128 ≤ s.tick)))) (fun s c => s.causeCmd c 7)

/-- Record: the carts whose edge lies in this tick or was declared MISSED in it (R25, R160). -/
def State.emitDue (s : State) : State :=
  let s := s.lateRequests
  let now := s.dueCarts.filter (fun d => decide (d.at_ / 128 ≤ s.tick))
  let s := { s with dueCarts := s.dueCarts.filter (fun d => !decide (d.at_ / 128 ≤ s.tick)) }
  s.forEach now (fun s d => s.emitCart d)

/-! ### Demands and levels (R147, R148) -/

/-- A demand is in force from its start up to, but not including, its end. -/
def Demand.inForce (d : Demand) (t : Nat) : Bool :=
  decide (d.start ≤ t) && (match d.stop with
    | none => true
    | some e => decide (t < e))

/-- The demand of the lowest handle. -/
def lowestDemand : List Demand → Option Demand
  | [] => none
  | d :: l =>
    match lowestDemand l with
    | none => some d
    | some e => if e.handle < d.handle then some e else some d

/-- Table 5-4: the level that the demands in force and the base level give under a combine rule. -/
def combine (rule : Nat) (base : Bool) (ds : List Demand) : Bool :=
  if rule = 1 then
    match lowestDemand ds with
    | none => base
    | some d => d.active
  else if ds.any (fun d => d.active) then true else if ds.isEmpty then base else false

/-- COMBINE of an endpoint (Table 7-1). -/
def State.combineRule (s : State) (a : Nat) : Nat := Word.bits (s.eptByte a) 7 6
/-- POL: pin low is ACTIVE; LOC.Qn and LOC.Gn only. -/
def State.polarity (s : State) (a : Nat) : Bool := (epIsQ a || epIsG a) && Word.bits (s.eptByte a) 5 5 == 1
/-- SAFE of LOC.Gn. -/
def State.safeBit (s : State) (a : Nat) : Bool := epIsG a && Word.bits (s.eptByte a) 4 4 == 1

/-- The pin or line level that stands for a resolved level. -/
def State.pin (s : State) (a : Nat) (active : Bool) : Bool := active != s.polarity a

/-- Table 7-2: the safe level of a local endpoint, as a pin or line level. -/
def State.safePin (s : State) (a : Nat) : Bool := if epIsG a then s.pin a (s.safeBit a) else false

/-- A new demand of a slot on an endpoint. -/
def State.demand (s : State) (ep h : Nat) (active : Bool) (start : Nat) (stop : Option Nat) : State :=
  s.onEp ep (fun e => { e with demands := e.demands ++ [⟨h, active, start, stop⟩] })

/-- The open demand of a handle ends. -/
def State.undemand (s : State) (ep h stop : Nat) : State :=
  s.onEp ep (fun e => { e with demands := e.demands.map (fun d => if d.handle = h ∧ d.stop = none then { d with stop := some (max stop d.start) } else d) })

/-- Every demand of a handle ends no later than an instant. -/
def State.cutDemands (s : State) (h : Nat) (stop : Nat → Nat) : State :=
  { s with eps := s.eps.filterMap (fun e =>
      let v := { e.2 with
        demands := (e.2.demands.map (fun d =>
          if d.handle = h then { d with stop := some (match d.stop with
            | none => max (stop e.1) d.start
            | some x => min x (max (stop e.1) d.start)) } else d))
        points := e.2.points.filter (fun p => p.2.1 != h) }
      if v = Ep.reset then none else some (e.1, v)) }

/-! ### Link commands (R217) -/

/-- LNK STAT.STATE. -/
def State.lnkState (s : State) (n : Nat) : Nat := s.get (Reg.LNK.STAT.STATE n)

/-- Table 7-9 and R222: why a link not in RUN drops a command. -/
def State.dropCause (s : State) (n : Nat) : Nat :=
  if s.shut (page .lnk n) then 5 else if s.lnkState n = 5 then 11 else 10

/-- A link command waits in its queue, or is dropped with its cause. -/
def State.linkPush (s : State) (n : Nat) (c : LCmd) : State :=
  if s.lnkState n ≠ 6 ∨ s.shut (page .lnk n) then s.causeCmd c (s.dropCause n)
  else
    let l := s.link n
    let full := if c.action = 4 then decide (256 ≤ l.sample.length) else decide (1024 ≤ l.deadline.length)
    if full then
      ((s.causeCmd c 9).bump (Reg.LNK.QFULL_CNT.COUNT n)).raise (page .lnk n) 7
    else if c.action = 4 then s.setLnk n { l with sample := l.sample ++ [c] }
    else s.setLnk n { l with deadline := l.deadline ++ [c] }

/-! ### EXCLUSIVE conflicts (R148) -/

/-- A slot's pass is over: nothing of it is in progress, and a slot that lost its TYPE releases its carriages (R146). -/
def State.passOver (s : State) (h : Nat) : State :=
  let sl := s.slot h
  let s := s.setSlot h { sl with pass := none, drop := false }
  if sl.drop then s.releaseCarriages h else s

/-- The starting demand at t never takes effect: its pass makes no edge, and its one cart belongs to the tick of t. -/
def State.suppressStart (s : State) (h ep t : Nat) : State :=
  let s := s.onEp ep (fun e => { e with demands := e.demands.filter (fun d => !(d.handle == h && decide (t ≤ d.start))) })
  if epIsDrive ep then
    let n := epChan ep
    let d := s.drive n
    match d.passes.find? (fun p => p.handle == h && p.pass.sDem == t) with
    | none => s
    | some p =>
      let p := { p with pass := { p.pass with flags := orFlags p.pass.flags fMissed, cause := lowestCause p.pass.cause 1 } }
      let s := s.setDrv n { d with passes := d.passes.filter (fun q => !(q.handle == h && q.pass.sDem == t)), ended := d.ended ++ [⟨t / 128 + 1, p, none, none, none⟩] }
      match (s.slot h).pass with
      | some q => if q.sDem = t then s.passOver h else s
      | none => s
  else
    let mine := s.dueCarts.filter (fun d => d.handle == h && decide (t ≤ d.at_) && targetEp d.target == ep)
    let others := s.dueCarts.filter (fun d => !(d.handle == h && decide (t ≤ d.at_) && targetEp d.target == ep))
    let parts := splitAfter (fun d => d.final) mine
    let s := { s with dueCarts := others ++ parts.2 }
    let s := match mine with
      | d :: _ => s.due (d.missed (st0 (t / 128)) 1)
      | [] => s
    match (s.slot h).pass with
    | some q => if q.s = t ∨ (q.s < t ∧ !mine.isEmpty) then s.passOver h else s
    | none => s

/-- The demand in force ends at t, and the pass with it. A demand that outlives its pass (PULSE) flags the carts that still wait, or,
where the pass has written its result already, that result (DESIGN CHOICE, log entry 41). -/
def State.suppressInForce (s : State) (h ep t : Nat) : State :=
  let s := s.onEp ep (fun e => { e with demands := e.demands.map (fun d => if d.handle = h ∧ d.inForce t then { d with stop := some t } else d) })
  let ours := match (s.slot h).pass with
    | some q => targetEp q.target == ep
    | none => false
  if epIsDrive ep then
    let s := s.onDrv (epChan ep) (fun d => { d with passes := d.passes.map (fun p =>
      if p.handle = h ∧ p.pass.sDem ≤ t then
        { p with dmin := 0, pass := { p.pass with te := some t, flags := orFlags p.pass.flags fMissed, cause := lowestCause p.pass.cause 1 } }
      else p) })
    if ours then s.passOver h else s
  else if ours then
    match (s.slot h).pass with
    | some q =>
      (s.due ((cartOf h 3 t q).missed (st0 (t / 128)) 1)).passOver h
    | none => s
  else if s.dueCarts.any (fun d => d.handle == h && d.final && targetEp d.target == ep) then
    { s with dueCarts := s.dueCarts.map (fun d =>
        if d.handle = h ∧ d.final ∧ targetEp d.target = ep then d.missed (st0 (t / 128)) 1 else d) }
  else s.onSlot h (fun sl => { sl with flags := orFlags sl.flags fMissed, resStart := noTime, resEnd := noTime })

/-- What falls at one instant on an endpoint: simultaneous points, then conflicts. -/
def State.settleAt (s : State) (a t : Nat) : State :=
  let rule := s.combineRule a
  let e := s.ep a
  let pts := e.points.filter (fun p => p.1 == t)
  let both := pts.any (fun p => p.2.2) && pts.any (fun p => !p.2.2)
  let low := pts.foldl (fun b p => match b with
    | none => some p
    | some q => if p.2.1 < q.2.1 then some p else some q) none
  let s :=
    if pts.isEmpty then s
    else if rule = 2 ∧ both then
      { s with dueCarts := s.dueCarts.map (fun d =>
          if d.at_ = t ∧ d.edge = 2 ∧ targetEp d.target = a ∧ (targetAction d.target = 1 ∨ targetAction d.target = 2) then
            d.missed (st0 (t / 128)) 1
          else d) }
    else if rule = 1 then
      match low with
      | some p => s.onEp a (fun e => { e with base := p.2.2 })
      | none => s
    else s.onEp a (fun e => { e with base := pts.any (fun p => p.2.2) })
  if rule = 2 then
    let ds := (s.ep a).demands.filter (fun d => d.inForce t)
    let starters := ds.filter (fun d => d.start == t)
    let standing := ds.filter (fun d => d.start != t)
    if !starters.isEmpty && decide (2 ≤ ds.length) then
      let s := s.forEach starters (fun s d => s.suppressStart d.handle a t)
      s.forEach standing (fun s d => s.suppressInForce d.handle a t)
    else s
  else s

/-! ### Resolve -/

/-- The instants of a window at which slots act on an endpoint: the starts and ends of demands, points. -/
def Ep.acts (e : Ep) (a b : Nat) : List Nat :=
  let inside := fun t => decide (a ≤ t) && decide (t < b)
  sortNat ((e.demands.map (fun d => d.start) ++ e.demands.filterMap (fun d => d.stop) ++ e.points.map (fun p => p.1)).filter inside)

/-- The instants of a window at which an endpoint's level may change: its start and what slots do in it. -/
def Ep.instants (e : Ep) (a b : Nat) : List Nat := sortNat (a :: e.acts a b)

/-- The resolved level of an endpoint at an instant. -/
def State.levelAt (s : State) (a t : Nat) : Bool :=
  let e := s.ep a
  combine (s.combineRule a) e.base (e.demands.filter (fun d => d.inForce t))

/-- The changes of the resolved level of an endpoint over instants, from a level on. -/
def State.changes (s : State) (a : Nat) : List Nat → Bool → List (Nat × Bool) → State × List (Nat × Bool)
  | [], _, acc => (s, acc)
  | t :: ts, was, acc =>
    let s := s.settleAt a t
    let now := s.levelAt a t
    s.changes a ts now (if now = was then acc else acc ++ [(t, now)])

/-- R206: at most one rising and one falling edge per tick; the changes made and the changes dropped. -/
def reduceChanges (l : List (Nat × Bool)) : List (Nat × Bool) × List (Nat × Bool) :=
  match l with
  | c1 :: c2 :: c3 :: rest =>
    let last := (c3 :: rest).getLastD c3
    let mid := c2 :: (c3 :: rest).dropLast
    if last.2 = c1.2 then ([c1], mid ++ [last]) else ([c1, last], mid)
  | _ => (l, [])

/-- A window is over: demands that have ended and points are forgotten. -/
def Ep.prune (e : Ep) (b : Nat) : Ep :=
  { e with
    demands := e.demands.filter (fun d => match d.stop with
      | none => true
      | some x => decide (b ≤ x))
    points := e.points.filter (fun p => decide (b ≤ p.1)) }

/-- The input channel whose compare list drives a LOC.Qn output, if it does (R105). -/
def State.qOwned (s : State) (a : Nat) : Bool := epIsQ a && (s.inpCh (epChan a / 2)).ownsQ

/-- A local output edge or event-line edge (R29). The outputs that the I/O ring holds safe have none (R386). -/
def State.edge (s : State) (a t : Nat) (level : Bool) : State :=
  if s.flt.ioSafe ∧ (epIsDrive a ∨ epIsQ a ∨ epIsG a) then s else { s with edges := ⟨a, t, level⟩ :: s.edges }

/-- The passes that the scan handed to a drive channel: DMIN and DMAX as they read now (R153, R243), for those of this window how
the combined demand stood at S_dem (R241), and whether the fall at a requested end was removed (R206). -/
def State.driveJoin (s : State) (n a b : Nat) (made dropped : List (Nat × Bool)) : State :=
  s.onDrv n (fun d => { d with passes := d.passes.map (fun p =>
    let t := p.pass.sDem
    let p := if p.pass.kind = 0 ∨ hasBit p.pass.flags 3 then p
      else { p with dmin := (s.slot p.handle).dmin, dmax := (s.slot p.handle).dmax }
    let p := if a ≤ t ∧ t < b then
        { p with rise := if made.contains (t, true) then 1 else if dropped.contains (t, true) then 2 else 0 }
      else p
    if dropped.any (fun c => !c.2 && p.pass.te == some c.1) then { p with fell := true } else p) })

/-- An output that the compare list has: what slots do there counts for conflicts and the base level, and moves no edge (R105). -/
def State.resolveOwned (s : State) (ep : Nat) : State :=
  let b := st0 (s.tick + 2)
  let s := s.forEach ((s.ep ep).acts (st0 (s.tick + 1)) b) (fun s t => s.settleAt ep t)
  s.onEp ep (fun e => e.prune b)

/-- Resolve of a local output or event line in the work of tick n, for tick n + 1. -/
def State.resolveLocal (s : State) (ep : Nat) (safe : Bool) : State :=
  let a := st0 (s.tick + 1)
  let b := st0 (s.tick + 2)
  let was := (s.ep ep).level
  let acts := (s.ep ep).acts a b
  if safe then
    let safe := s.safePin ep
    let s := s.onEp ep (fun e => { e.prune b with level := safe, kept := false })
    if safe = was || epIsDrive ep then s else s.edge ep a safe
  else if (s.ep ep).kept && acts.isEmpty then s.onEp ep (fun e => e.prune b)
  else
    let r := s.changes ep (if (s.ep ep).kept then acts else sortNat (a :: acts)) (was != s.polarity ep) []
    let s := r.1
    let (made, dropped) := reduceChanges r.2
    let last := match r.2.getLast? with
      | some c => s.pin ep c.2
      | none => s.pin ep (was != s.polarity ep)
    let s := s.onEp ep (fun e => { e.prune b with level := last, kept := false })
    if epIsDrive ep then s.driveJoin (epChan ep) a b made dropped
    else
      let s := s.forEach dropped (fun s c => s.causeAt ep c.1 2)
      s.forEach made (fun s c => s.edge ep c.1 (s.pin ep c.2))

/-- Resolve of a link endpoint in the work of tick n, for the window of its horizon: one command for each change (R217). -/
def State.resolveLink (s : State) (ep h : Nat) : State :=
  let a := st0 (s.tick + h)
  let b := st0 (s.tick + h + 1)
  let n := epPort ep
  let e := s.ep ep
  let r := s.changes ep (e.instants a b) e.level []
  let s := r.1
  let last := match r.2.getLast? with
    | some c => c.2
    | none => e.level
  let s := s.onEp ep (fun e => { e.prune b with level := last })
  s.forEach r.2 (fun s c => s.linkPush n ⟨c.1, ep, if c.2 then 1 else 2, 0, 0, s.tick + 1, false⟩)

end Sys2Proof.Machine
end

