-- ==== Sys2Proof/Machine/Recorder.lean ====
section
/-! DEFINITION. The recorder's own carts: provenance carts, epoch carts, overflow carts (R419, R420, R422). -/

namespace Sys2Proof.Machine

/-- Provenance is written from the completion of a LOAD on (R422). -/
def State.provOn (s : State) : Bool := decide (6 ≤ s.devState) && s.recd.loadTick.isSome

/-- The timestamp an entry of a P_PIN or P_CMP cart carries. -/
def entryTime (e : Quad) : Nat := e.toNat % 2 ^ 48 * 128 + e.toNat / 2 ^ 48 % 128

/-- Six entries in timestamp order, the unused ones marked. -/
def sixEntries (unused : Quad) (l : List Quad) : List Quad := sortBy entryTime l ++ List.replicate (6 - l.length) unused

/-- Writes the P_PIN cart in the making. -/
def State.flushPin (s : State) : State :=
  if s.recd.pinPart.isEmpty then s
  else
    let b := sixEntries (quad [(56, 2, 3)]) s.recd.pinPart
    let at_ := s.recd.pinAt
    ({ s with recd := { s.recd with pinPart := [] } }).cart 0x21 s.provCls at_ 63 b

/-- Writes the P_CMP cart in the making. -/
def State.flushCmp (s : State) : State :=
  if s.recd.cmpPart.isEmpty then s
  else
    let b := sixEntries 0 s.recd.cmpPart
    let at_ := s.recd.cmpAt
    ({ s with recd := { s.recd with cmpPart := [] } }).cart 0x24 s.provCls at_ 63 b

/-- Conversion k of a P_ADC cart within its 320-bit field. -/
def provField (first : Nat) : Nat → List ProvConv → Nat
  | _, [] => 0
  | k, c :: l =>
    ((c.tick - first) % 32 * 2 ^ 15 + c.entry % 16 * 2 ^ 11 + (if c.cal then 1 else 0) * 2 ^ 10 + c.raw % 2 ^ 10) *
      2 ^ (300 - 20 * k) + provField first (k + 1) l

/-- Writes the P_ADC cart in the making of a unit. -/
def State.flushAdc (s : State) (u : Nat) : State :=
  match s.recd.adcPart.get (fun _ => []) u with
  | [] => s
  | c :: l =>
    let f := provField c.tick 0 (c :: l)
    let words := (List.range 5).map (fun i => BitVec.ofNat 64 (f / 2 ^ (64 * (4 - i))))
    let s := { s with recd := { s.recd with adcPart := s.recd.adcPart.set (fun _ => []) u [] } }
    s.cart 0x23 s.provCls (st0 c.tick) 63 (quad [(61, 3, u), (56, 5, l.length + 1)] :: words)

/-- A transition of a pin that the channel's mode uses: pin 0 A, 1 B, 2 Z (R422). -/
def State.provPin (s : State) (ch pin : Nat) (level : Bool) (t : Nat) : State :=
  if !s.provOn then s
  else
    let e := quad [(58, 6, ch), (56, 2, pin), (55, 1, if level then 1 else 0), (48, 7, t % 128), (0, 48, t / 128)]
    let r := s.recd
    let s := { s with recd := { r with pinPart := r.pinPart ++ [e], pinAt := if r.pinPart.isEmpty then t else min t r.pinAt } }
    if s.recd.pinPart.length = 6 then s.flushPin else s

/-- A comparator transition of a drive channel (R422). -/
def State.provCmp (s : State) (ch : Nat) (level : Bool) (t : Nat) : State :=
  if !s.provOn then s
  else
    let e := quad [(58, 6, ch), (57, 1, if level then 1 else 0), (56, 1, 1), (48, 7, t % 128), (0, 48, t / 128)]
    let r := s.recd
    let s := { s with recd := { r with cmpPart := r.cmpPart ++ [e], cmpAt := if r.cmpPart.isEmpty then t else min t r.cmpAt } }
    if s.recd.cmpPart.length = 6 then s.flushCmp else s

/-- The raw code of a conversion (R422): up to 16 to a cart, within 32 ticks of its stamp. -/
def State.provAdc (s : State) (u : Nat) (c : ProvConv) : State :=
  if !s.provOn then s
  else
    let s := match s.recd.adcPart.get (fun _ => []) u with
      | [] => s
      | f :: _ => if f.tick + 32 ≤ c.tick then s.flushAdc u else s
    let l := s.recd.adcPart.get (fun _ => []) u ++ [c]
    let s := { s with recd := { s.recd with adcPart := s.recd.adcPart.set (fun _ => []) u l } }
    if l.length = 16 then s.flushAdc u else s

/-- A serial word that ended, or a start that was skipped (R422). -/
def State.provSerial (s : State) (ch outcome bits t : Nat) : State :=
  if !s.provOn then s
  else s.cart 0x22 s.provCls t 63
    [quad [(58, 6, ch), (55, 3, outcome), (0, 41, bits)], BitVec.ofNat 64 (t / 128), quad [(0, 7, t % 128)]]

/-- The P_START record at the first RUN tick, which FIRST_RUN shows, cart 1 as taken at the LOAD completion tick (R422). -/
def State.provStart (s : State) : State :=
  let tick := s.get64 Reg.PRF.FIRST_RUN_LO.TICK Reg.PRF.FIRST_RUN_HI.TICK
  let r := s.recd
  let s := { s with recd := { r with started := true } }
  s.record 0x20 s.provCls (st0 tick) 63
    [[quad [(32, 32, s.get Reg.PRF.PROF_ID.ID), (0, 32, s.get Reg.PRF.PROF_VER.VERSION)],
      quad [(0, 32, s.get Reg.PRF.PROF_CRC.CRC), (32, 1, s.get Reg.PRF.STAT.COPY), (33, 3, s.get Reg.PRF.STAT.PROF_LOADED)],
      BitVec.ofNat 64 tick, BitVec.ofNat 64 (r.loadTick.getD 0),
      quad [(0, 8, Config.stepping.toNat), (8, 1, if s.power.is1024 then 1 else 0), (9, 2, r.loadLevel)]],
     [BitVec.ofNat 64 (unsigned 64 (r.loadOfs / 65536)),
      quad [(0, 16, (r.loadOfs % 65536).toNat), (16, 1, if r.loadValid then 1 else 0)], quad [(0, 16, r.loadTrim)]]]

/-- EPOCH carts of a kind, in every class (R419): 0 START, 1 TICK. -/
def State.epochCarts (s : State) (kind tick : Nat) : State :=
  s.forEach (List.range 8) (fun s c => s.cart 0x11 c (st0 tick) 63 [quad [(62, 2, kind)], BitVec.ofNat 64 tick])

/-- PROV_CART_FLUSH (R422): parts whose first entry is 32 ticks old. -/
def State.provFlush (s : State) : State :=
  let old := fun t => decide (t / 128 + 32 ≤ s.tick)
  let s := if old s.recd.pinAt then s.flushPin else s
  let s := if old s.recd.cmpAt then s.flushCmp else s
  s.forEach (s.recd.adcPart.map (fun e => e.1)) (fun s u =>
    match s.recd.adcPart.get (fun _ => []) u with
    | c :: _ => if old (st0 c.tick) then s.flushAdc u else s
    | [] => s)

/-- Parts of carts that the provenance of one LOAD leaves when the next begins: they are written (R422, DESIGN CHOICE, log
entry 40). -/
def State.provEnd (s : State) : State :=
  s.flushPin.flushCmp.forEach (s.recd.adcPart.map (fun e => e.1)) (fun s u => s.flushAdc u)

/-! ### The record path behind generation (R36, R38, R275, R276, R419, R420) -/

/-- Carts the record SRAM takes in a tick (Table 1-6). -/
def sramCarts : Nat := 128

/-- The records of a sequence of carts: a cart of PART 0 begins one. -/
def recordsOf (l : List Cart) : List (List Cart) :=
  (l.foldr (fun c (r : List Cart × List (List Cart)) =>
    if c.part = 0 then ([], (c :: r.1) :: r.2) else (c :: r.1, r.2)) ([], [])).2

/-- Of the records of a class, so many are passed over and so many taken out: what is taken and what stays. -/
def takeRecords (cls : Nat) : Nat → Nat → List (List Cart) → List (List Cart) × List (List Cart)
  | _, _, [] => ([], [])
  | skip, n, r :: l =>
    let keep := fun (x : List (List Cart) × List (List Cart)) => (x.1, r :: x.2)
    if (r.head?.map (fun c => c.cls)) ≠ some cls then keep (takeRecords cls skip n l)
    else
      match skip, n with
      | k + 1, _ => keep (takeRecords cls k n l)
      | 0, 0 => keep (takeRecords cls 0 0 l)
      | 0, m + 1 =>
        let x := takeRecords cls 0 m l
        (r :: x.1, x.2)

/-- How many records, in order, fit into so many carts: no record spans two units (R275). -/
def fitting : Nat → List (List Cart) → Nat
  | _, [] => 0
  | room, r :: l =>
    if r.length ≤ room ∧ (r.head?.map (fun c => c.lenM1 + 1)) = some r.length then fitting (room - r.length) l + 1 else 0

/-- The full tick of a cart's stamp: the value that lies nearest a tick (R273). -/
def fullTick (near : Nat) (c : Cart) : Nat :=
  let back := (near % 2 ^ 48 + 2 ^ 48 - c.tick) % 2 ^ 48
  if back < 2 ^ 47 then near - back else near + (2 ^ 48 - back)

/-- New carts enter the input stage, and the SRAM takes up to 128 of those that wait. -/
def State.storeTake (s : State) : State :=
  let p := s.store
  let stage := p.stage ++ (s.carts.take (s.carts.length - p.seen)).reverse
  { s with store := { p with seen := s.carts.length, stage := stage.drop sramCarts, held := p.held ++ stage.take sramCarts } }

/-- The UNIT cart that opens a unit (R277). -/
def State.unitCart (s : State) (cls : Nat) (copy : Bool) (addr session firstSeq : Nat) : Cart :=
  ⟨0x01, cls, 0, s.tick % 2 ^ 48, 0, 0, 63, 0, s.seqOf cls,
    [quad [(61, 3, cls), (60, 1, if copy then 1 else 0), (0, 48, addr)],
      quad [(32, 32, s.store.volId.get (fun _ => 0) cls), (16, 16, s.store.volEpoch.get (fun _ => 0) cls)],
      BitVec.ofNat 64 s.tick, quad [(32, 32, session), (0, 32, firstSeq)],
      quad [(0, 48, s.store.prevUnit.get (fun _ => 2 ^ 48 - 1) cls)]]⟩

/-- A unit of a class is written: its UNIT cart, the oldest records that wait and fit, and PAD carts. -/
def State.writeUnit (s : State) (cls addr session size : Nat) : State :=
  let recs := recordsOf s.store.held
  let mine := recs.filter (fun r => (r.head?.map (fun c => c.cls)) = some cls)
  let x := takeRecords cls 0 (fitting (size - 1) mine) recs
  let body := x.1.flatten
  let first := match body.head? with
    | some c => c.seq
    | none => s.seqOf cls
  let pad : Cart := ⟨0x00, cls, 0, 0, 0, 0, 63, 0, s.seqOf cls, []⟩
  let all := s.unitCart cls false addr session first :: (body ++ List.replicate (size - 1 - body.length) pad)
  { s with store := { s.store with held := x.2.flatten, units := ⟨cls, false, addr, all⟩ :: s.store.units,
                                   prevUnit := s.store.prevUnit.set (fun _ => 2 ^ 48 - 1) cls addr } }

/-- The second copy of the last unit of a class: the UNIT cart says so and names the first copy's address (R277). -/
def State.copyUnit (s : State) (cls addr : Nat) : State :=
  match s.store.units.find? (fun u => u.cls == cls && !u.copy) with
  | none => s
  | some u =>
    let mark := fun (c : Cart) => if c.typ = 0x01 then { c with body := c.body.modify 0 (fun b => b ||| quad [(60, 1, 1)]) } else c
    { s with store := { s.store with units := ⟨cls, true, addr, u.carts.map mark⟩ :: s.store.units } }

/-- A volume epoch of a class's volume starts (Table 1-7, R419): the epoch advances when the volume stays the same. -/
def State.volumeEpoch (s : State) (cls volId : Nat) : State :=
  let was := s.store.volId.get (fun _ => 0) cls
  let ep := if was = volId then (s.store.volEpoch.get (fun _ => 0) cls + 1) % 2 ^ 16 else 0
  let s := { s with store := { s.store with volId := s.store.volId.set (fun _ => 0) cls volId,
                                            volEpoch := s.store.volEpoch.set (fun _ => 0) cls ep } }
  s.cart 0x11 cls (st0 s.tick) 63 [quad [(62, 2, 2)], BitVec.ofNat 64 s.tick, quad [(32, 32, volId), (16, 16, ep)]]

/-- REASON of a LOSS cart (Table 10-3). -/
def lossCode : LossReason → Nat
  | .shed => 0 | .input => 1 | .media => 2

/-- Records are lost: the class's counter counts their carts, and one LOSS cart covers them (R420). -/
def State.loseRecords (s : State) (cls : Nat) (r : LossReason) (after n : Nat) : State :=
  let x := takeRecords cls after n (recordsOf (if r = .input then s.store.stage else s.store.held))
  match x.1.head?.bind (fun l => l.head?), x.1.getLast?.bind (fun l => l.head?) with
  | some a, some b =>
    let cnt := min (2 ^ 32 - 1) (s.store.lossCnt.get (fun _ => 0) cls + x.1.flatten.length)
    let p := { s.store with lossCnt := s.store.lossCnt.set (fun _ => 0) cls cnt }
    let p := if r = .input then { p with stage := x.2.flatten } else { p with held := x.2.flatten }
    ({ s with store := p }).cart 0x12 cls (st0 s.tick) 63
      [quad [(61, 3, cls), (56, 2, lossCode r), (0, 32, min (2 ^ 32 - 1) x.1.length)], BitVec.ofNat 64 (fullTick s.tick a),
        BitVec.ofNat 64 (fullTick s.tick b), quad [(0, 32, a.seq)]]
  | _, _ => s

/-- One event of the storage side. -/
def State.storeEvent (s : State) : StoreEvent → State
  | .unit cls copy addr session size =>
    if copy then s.copyUnit cls addr.toNat else s.writeUnit cls addr.toNat session.toNat size
  | .volume cls volId => s.volumeEpoch cls volId.toNat
  | .lose cls reason after n => s.loseRecords cls reason after n

/-- The record path in a tick. -/
def State.storeStep (s : State) (l : List StoreEvent) : State := (s.forEach l (fun s e => s.storeEvent e)).storeTake

/-- EPOCH_TICK_MARKER (R419): in the work of a tick whose low 48 bits are 0. -/
def execEpochTickMarker (s : State) : Host.Outcome State Fault Refusal :=
  run s (s.when (s.tick % 2 ^ 48 == 0) (fun s => s.epochCarts 1 s.tick))

/-- OVERFLOW_WINDOW (R420): a class wrote more carts than its reservation in an admission window. -/
def execOverflowWindow (cls : Fin 8) (beyond : Nat) (first last : Nat) (s : State) : Host.Outcome State Fault Refusal :=
  run s (s.cart 0x13 cls (st0 first) 63
    [quad [(61, 3, cls), (0, 32, min beyond (2 ^ 32 - 1))], BitVec.ofNat 64 first, BitVec.ofNat 64 last])

/-- PROV_CART_FLUSH (R422). -/
def execProvCartFlush (s : State) : Host.Outcome State Fault Refusal := run s s.provFlush

end Sys2Proof.Machine
end

