-- ==== Sys2Proof/Machine/Tracker.lean ====
section
/-! DEFINITION. Wheel trackers: positions, gap tests, states, cam phasing, angle prediction, tooth ring and the
correction table (R110 to R139). Angles are reckoned in micro-ticks along the direction of rotation: a coordinate u grows
as the wheel turns, u = theta going forward and u = R x 1024 - theta in reverse, R being the tooth-index range. An
absolute coordinate adds whole cycles, so that it never falls while the direction holds. -/

namespace Sys2Proof.Machine

/-! ### Configuration of a tracker -/

/-- STAT.STATE of tracker n (Table 4-3). -/
def State.wState (s : State) (n : Nat) : Nat := s.get (Reg.WHL.STAT.STATE n)
/-- POS. -/
def State.wPos (s : State) (n : Nat) : Nat := s.get (Reg.WHL.CFG.POS_M1 n) + 1
/-- PATTERN. -/
def State.wPat (s : State) (n : Nat) : Nat := s.get (Reg.WHL.CFG.PATTERN n)
/-- Missing teeth m (Table 4-1). -/
def State.wMiss (s : State) (n : Nat) : Nat :=
  match s.wPat n with
  | 0 => 1
  | 1 => 2
  | _ => 0
/-- Prescaler K. -/
def State.wK (s : State) (n : Nat) : Nat := s.get (Reg.WHL.CFG.PRESC n) + 1
/-- CAM_EN. -/
def State.wCam (s : State) (n : Nat) : Bool := s.bit (Reg.WHL.CFG.CAM_EN n)
/-- Source channel. -/
def State.wSrc (s : State) (n : Nat) : Nat := s.get (Reg.WHL.CFG.SRC_CH n)
/-- Tooth-index range: POS, or 2 x POS in PHASED (R124). -/
def State.wRange (s : State) (n : Nat) : Nat := if s.wState n = 4 then 2 * s.wPos n else s.wPos n
/-- ANGLE_VALID (R122). -/
def State.wValid (s : State) (n : Nat) : Bool := s.bit (Reg.WHL.STAT.ANGLE_VALID n)
/-- RESUME as the tracker treats it: 0 when the source channel does not sense direction (R119). -/
def State.wResume (s : State) (n : Nat) : Bool :=
  let c := s.wSrc n
  let m := s.get (Reg.INP.CFG.MODE c)
  let senses := m == 2 || m == 3 || (m == 1 && s.get (Reg.INP.CFG.DIRSRC c) != 0)
  s.bit (Reg.WHL.CFG.RESUME n) && senses
/-- RISE, or the default of the pattern (Table 4-2). -/
def State.wRise (s : State) (n : Nat) : Nat :=
  match s.get (Reg.WHL.SYNC_CFG.RISE n) with
  | 0 => if s.wPat n = 0 then 24 else 40
  | r => r
/-- FALL, or the default of the pattern. -/
def State.wFall (s : State) (n : Nat) : Nat :=
  match s.get (Reg.WHL.SYNC_CFG.FALL n) with
  | 0 => if s.wPat n = 0 then 12 else 7
  | r => r

/-- Table 4-1 and the paragraph after it: the tracker's settings agree with its source channel's (R110). -/
def State.wCfgOk (s : State) (n : Nat) : Bool :=
  let c := s.wSrc n
  let pos := s.wPos n
  let cam := s.wCam n
  let md := s.get (Reg.INP.CFG.MODE c)
  let cm := s.get (Reg.INP.COUNT_MOD.MOD c)
  let top := if cam then 512 else 1024
  let pattern :=
    match s.wPat n with
    | 0 => decide (8 ≤ pos ∧ pos ≤ top) && s.wK n == 1 && cm == pos - 1 && (md == 1 || md == 2 || md == 3)
    | 1 => decide (8 ≤ pos ∧ pos ≤ top) && s.wK n == 1 && cm == pos - 2 && (md == 1 || md == 2 || md == 3)
    | 2 => decide (2 ≤ pos ∧ pos ≤ top) && cm == pos * s.wK n && md == 2 && s.get (Reg.INP.CFG.INDEX c) == 2
    | _ => pos == 1 && s.wK n == 1 && cm == 1 && (md == 1 || md == 3) && !cam
  let sole := (List.range n).all (fun k => !(s.wSrc k == c && s.bit (Reg.WHL.SYNC_CFG.EN k)))
  pattern && !s.bit (Reg.INP.CFG.CLASS c) && sole && (!cam || s.get (Reg.WHL.CFG.CAM_CH n) != c)

/-! ### The chain and the prediction (R123 to R126, R149) -/

/-- What the chain needs of a wheel: POS, m, R, the direction, b and the foreground table. -/
structure Chain where
  pos : Nat
  miss : Nat
  range : Nat
  rev : Bool
  b : Nat
  corr : Sparse Int
deriving DecidableEq, Repr

/-- p of the position from u = q x 1024 to (q + 1) x 1024 (R123). -/
def Chain.p (c : Chain) (q : Nat) : Nat :=
  let i := if c.rev then c.range - 1 - q % c.range else q % c.range
  ((c.b : Int) * (4096 + c.corr.get (fun _ => 0) (i % c.pos))).toNat / 4096

/-- The edge at u = q x 1024 is a real tooth, not a missing position (R111). -/
def Chain.real (c : Chain) (q : Nat) : Bool :=
  let i := if c.rev then (c.range - q % c.range) % c.range else q % c.range
  decide (i % c.pos < c.pos - c.miss)

/-- The last micro-tick f of a position, at most `top`, that `e` st after its start have reached. -/
def fracAt (p e top : Nat) : Nat := if p = 0 then top else min top (((e + 1) * 1024 - 1) / p)

/-- The angle e st after the edge at q x 1024: it crosses missing positions and stands one micro-tick short of the next
real tooth (R125, R126). -/
def Chain.walk (c : Chain) : Nat → Nat → Nat → Nat
  | 0, q, e => q * 1024 + fracAt (c.p q) e 1023
  | fuel + 1, q, e =>
    if !c.real (q + 1) && decide (c.p q ≤ e) then c.walk fuel (q + 1) (e - c.p q) else q * 1024 + fracAt (c.p q) e 1023

/-- The hold point after the edge at q x 1024 (R125). -/
def Chain.holdFrom (c : Chain) : Nat → Nat → Nat
  | 0, q => q * 1024 + 1023
  | fuel + 1, q => if c.real (q + 1) then q * 1024 + 1023 else c.holdFrom fuel (q + 1)

/-- Time from u = q x 1024 over so many positions. -/
def Chain.sum (c : Chain) (q : Nat) : Nat → Nat
  | 0 => 0
  | k + 1 => c.p q + c.sum (q + 1) k

/-- C(u) for an absolute coordinate, from the edge at coordinate `abs` and time `ts`, in both directions (R149). -/
def Chain.time (c : Chain) (abs : Nat) (ts : Int) (u : Nat) : Int :=
  let q := u / 1024
  let part : Int := u % 1024 * c.p q / 1024
  if abs / 1024 ≤ q then ts + c.sum (abs / 1024) (q - abs / 1024) + part
  else ts - c.sum q (abs / 1024 - q) + part

/-- Length of a whole cycle. -/
def Chain.cycle (c : Chain) : Nat := c.sum 0 c.range

/-- Walks back from the start of position q for `rem` more st; the coordinate reached (R150). -/
def Chain.backTo (c : Chain) : Nat → Nat → Nat → Option Nat
  | 0, _, _ => none
  | fuel + 1, q, rem =>
    match q with
    | 0 => none
    | j + 1 =>
      if rem ≤ c.p j then some (j * 1024 + fracAt (c.p j) (c.p j - rem) 1023) else c.backTo fuel j (rem - c.p j)

/-- theta_s of an E-type pass that ends at absolute coordinate u: how far back it lies; none when a whole cycle of the
chain is no longer than DUR (R150). -/
def Chain.startBack (c : Chain) (u dur : Nat) : Option Nat :=
  if c.cycle ≤ dur then none
  else
    let q := u / 1024
    let span := u % 1024 * c.p q / 1024
    if dur ≤ span then some (u - (q * 1024 + fracAt (c.p q) (span - dur) (u % 1024)))
    else (c.backTo (c.range + 1) q (dur - span)).map (fun x => u - x)

/-- The chain of a prediction of tracker n, with the correction table that it was made with (R124, R127). -/
def State.chainOf (s : State) (n : Nat) (p : Pred) : Chain :=
  ⟨s.wPos n, s.wMiss n, s.wRange n, p.rev, p.b, p.corr⟩

/-- The absolute angle a prediction gives at a time (R125, R129). -/
def State.angleAt (s : State) (n : Nat) (p : Pred) (t : Nat) : Nat :=
  if p.run then (s.chainOf n p).walk 3 (p.abs / 1024) (t - p.ts) else p.abs

/-- The hold point of a prediction. -/
def State.holdPoint (s : State) (n : Nat) (p : Pred) : Nat :=
  if p.run then (s.chainOf n p).holdFrom 3 (p.abs / 1024) else p.abs

/-- The angle stands at the hold point at a time. -/
def State.atHold (s : State) (n : Nat) (p : Pred) (t : Nat) : Bool :=
  p.run && s.angleAt n p t == s.holdPoint n p

/-- The time of an absolute coordinate under the prediction in force in the work of tick k: none beyond k:0 while no valid
period backs it (R129), and none beyond the hold point once that was reached at boundary k (R124). -/
def State.timeOf (s : State) (n k : Nat) (p : Pred) (u : Nat) : Option Int :=
  if !p.run && decide (p.abs < u) then none
  else if p.run && decide (s.holdPoint n p < u) && s.atHold n p (st0 k) then none
  else some ((s.chainOf n p).time p.abs p.ts u)

/-- The angle of an absolute coordinate, 0 to R x 1024 - 1. -/
def thetaOf (range : Nat) (rev : Bool) (u : Nat) : Nat :=
  let m := range * 1024
  if rev then (m - u % m) % m else u % m

/-- The coordinate of an angle within one cycle. -/
def coordOf (range : Nat) (rev : Bool) (theta : Nat) : Nat :=
  let m := range * 1024
  if rev then (m - theta % m) % m else theta % m

/-- Four whole cycles of room below a fresh absolute coordinate. -/
def freshAbs (range : Nat) (rev : Bool) (k : Nat) : Nat := 4 * range * 1024 + coordOf range rev (k * 1024)

/-- The first coordinate at or after `low` that shows an angle. -/
def nextOccurrence (range : Nat) (rev : Bool) (theta low : Nat) : Nat :=
  let m := range * 1024
  low + (coordOf range rev theta + m - low % m) % m

/-- The angle the old prediction gives at a time, in the coordinates of the new one (R127). -/
def State.oldAngleAt (s : State) (n : Nat) (t : Nat) : Option Nat :=
  let tr := s.tracker n
  match tr.oldPred, tr.pred with
  | some o, some p =>
    let a := s.angleAt n o t
    if o.rev = p.rev then some a
    else
      let m := s.wRange n * 1024
      some (p.abs - (coordOf (s.wRange n) p.rev (p.pos * 1024) + m -
        coordOf (s.wRange n) p.rev (thetaOf (s.wRange n) o.rev a)) % m)
  | _, _ => none

/-! ### Transitions (R116, Table 4-4) -/

/-- A wheel marker cart (R132, R277 WHEEL) with the tooth index of the last processed edge, 0 when no position is fixed. -/
def State.wheelCart (s : State) (n row before index t : Nat) : State :=
  let tr := s.tracker n
  s.cart 0x16 s.markerCls t n
    [quad [(54, 10, index), (51, 3, s.wState n), (48, 3, before),
        (47, 1, s.get (Reg.WHL.STAT.DIR n)), (42, 5, row), (39, 3, s.get (Reg.WHL.STAT.LOSS_CAUSE n)),
        (38, 1, s.get (Reg.WHL.STAT.HALF n))],
      quad [(32, 32, tr.rev), (0, 32, s.get (Reg.INP.COUNT_NOW.COUNT (s.wSrc n)))]]

/-- STATE becomes `nxt`; ANGLE_VALID and SPEED_VALID follow (R122); STATE_CHANGE, LOST and STOPPED are raised; every entry
into LOST is counted (R116, R139). The prediction ends where the angle is no longer known. -/
def State.wEnter (s : State) (n nxt : Nat) : State :=
  let p := page .whl n
  let was := s.wValid n
  let now := nxt == 4 || (nxt == 3 && !s.wCam n)
  let s := (s.put (Reg.WHL.STAT.STATE n) nxt).raise p 0
  let s := if nxt = 5 then (((s.bump (Reg.WHL.LOSS_CNT.COUNT n)).err p).raise p 1) else s
  let s := if nxt = 0 then (s.put (Reg.WHL.STAT.SPEED_VALID n) 0).raise p 2 else s
  let s := s.putBit (Reg.WHL.STAT.ANGLE_VALID n) now
  let s := s.onTrk n (fun tr =>
    let tr := if nxt = 3 ∨ nxt = 4 then tr else { tr with pred := none, oldPred := none, past := [], learnBad := true }
    if now && !was then { tr with gainedAt := some s.tick, oldPred := none } else tr)
  if nxt = 4 then s else s.put (Reg.WHL.STAT.HALF n) 0

/-- ZERO and phase forgotten, period history cleared (rows 2 to 5, 20). The last processed edge and an index not yet taken stay. -/
def State.wForget (s : State) (n : Nat) : State :=
  (s.onTrk n (fun tr => { tr with zero := none, kept := none, hasPrev := false, hist := [], fails := 0 })).put (Reg.WHL.ZERO.ZERO n) 0

/-- STAT.CFG_MISMATCH: the configuration fails and the tracker is held (R110), or RESUME stands without a sense of direction
(R119). -/
def State.wFlag (s : State) (n : Nat) (held blind : Bool) : State :=
  (s.onTrk n (fun tr => { tr with held := held, blind := blind })).putBit (Reg.WHL.STAT.CFG_MISMATCH n) (held || blind)

/-- Rows 2, 3, 4 and 5: to SEEKING, with a marker cart stamped with the tick. -/
def State.wSeek (s : State) (n row : Nat) : State :=
  let before := s.wState n
  let index := (s.tracker n).lastPos
  ((s.wForget n).wEnter n 1).wheelCart n row before index s.now

/-- The commit that enables the tracker clears the tooth-period ring (R131). -/
def State.ringClear (s : State) (n : Nat) : State :=
  (s.onTrk n (fun tr => { tr with ring := [] })).put (Reg.WHL.RING_HEAD.HEAD n) 0

/-- Row 3 for the commit that first sets EN to 1: the tracker is placed in STOPPED (R116). -/
def State.wPlace (s : State) (n : Nat) : State :=
  let before := s.wState n
  let index := (s.tracker n).lastPos
  ((s.wForget n).wEnter n 0).wheelCart n 3 before index s.now

/-- Row 20: the configuration fails R110, and the tracker is held in STOPPED. -/
def State.wMismatch (s : State) (n : Nat) : State :=
  let before := s.wState n
  let s := (s.wFlag n true (s.tracker n).blind).raise (page .whl n) 8
  let index := (s.tracker n).lastPos
  if before = 0 then s else ((s.wForget n).wEnter n 0).wheelCart n 20 before index s.now

/-- Row 19: no position edge for STALL_TO ticks. The position is kept when RESUME is 1 in SYNCED and PHASED (R119). -/
def State.wStall (s : State) (n : Nat) : State :=
  let before := s.wState n
  let half := s.get (Reg.WHL.STAT.HALF n)
  let keep := s.wResume n && (before == 3 || before == 4)
  let s := s.onTrk n (fun tr => { tr with kept := if keep then some before else none, hasPrev := false, hist := [] })
  let s := s.wEnter n 0
  (s.put (Reg.WHL.STAT.HALF n) (if keep then half else 0)).wheelCart n 19 before (s.tracker n).lastPos s.now

/-- Row 1: the shutter takes the tracker to LOST. -/
def State.wShut (s : State) (n : Nat) : State :=
  let before := s.wState n
  let s := (s.put (Reg.WHL.STAT.LOSS_CAUSE n) 4).wEnter n 5
  s.wheelCart n 1 before (s.tracker n).lastPos s.now

/-! ### Revolutions -/

/-- The revolution counter advances; its wrap advances the epoch and raises REV_WRAP (R130). -/
def State.revolve (s : State) (n : Nat) : State :=
  let r := (s.tracker n).rev + 1
  if r < 2 ^ 32 then s.onTrk n (fun tr => { tr with rev := r })
  else
    let s := s.onTrk n (fun tr => { tr with rev := 0 })
    (s.put (Reg.WHL.REV_EPOCH.EPOCH n) (s.get (Reg.WHL.REV_EPOCH.EPOCH n) + 1)).raise (page .whl n) 9

/-! ### The correction table (R133 to R136) -/

/-- Nearest integer, halves away from zero (R134). -/
def roundDiv (a : Int) (b : Nat) : Int :=
  let q : Nat := (2 * a.natAbs + b) / (2 * b)
  if a < 0 then -(q : Int) else q

/-- Entries of missing positions are 0 in both tables, whatever POS and PATTERN have been before (R123). -/
def State.corrPurge (s : State) (n : Nat) : State :=
  let gone := fun (e : Nat × Int) => decide (s.wPos n - s.wMiss n ≤ e.1) && decide (e.1 < s.wPos n)
  s.onTrk n (fun t => { t with corrFg := t.corrFg.filter (fun e => !gone e), corrSh := t.corrSh.filter (fun e => !gone e), learnSum := t.learnSum.filter (fun e => !gone e) })

/-- CORR_STAT.STATE. -/
def State.corrState (s : State) (n : Nat) : Nat := s.get (Reg.WHL.CORR_STAT.STATE n)

/-- A COMMIT record of KIND TABLE: the complete new table, position by position (R135, R277), in records of up to 94
entries. -/
def commitBodies (b0 : List (Nat × Nat × Nat)) (entries : List Quad) : List (List (List Quad)) :=
  let groups := (List.range ((entries.length + 93) / 94)).map (fun i => (entries.drop (94 * i)).take 94)
  let groups := if groups.isEmpty then [[]] else groups
  (List.range groups.length).zip groups |>.map (fun (i, g) =>
    let words := quad b0 :: quad [(52, 12, i), (51, 1, if i + 1 = groups.length then 1 else 0), (44, 7, g.length)] :: g
    (List.range ((words.length + 5) / 6)).map (fun k => (words.drop (6 * k)).take 6))

/-- An 8-byte entry of a COMMIT record. -/
def commitEntry (bar2 : Bool) (off val : Nat) : Quad := quad [(63, 1, if bar2 then 1 else 0), (39, 24, off), (0, 32, val)]

/-- The READY shadow becomes the foreground at a gap instant; the state returns to IDLE; a commit cart carries the whole
table; LEARN ends (R135, R391). -/
def State.corrSwap (s : State) (n : Nat) : State :=
  if s.corrState n = 2 then
    let tr := s.tracker n
    let no := tr.tableNo
    let entries := (List.range (s.wPos n)).map (fun j => commitEntry false j (unsigned 32 (tr.corrSh.get (fun _ => 0) j)))
    let s := s.setTrk n { tr with corrFg := tr.corrSh, tableNo := (no + 1) % 2 ^ 32 }
    let s := (s.put (Reg.WHL.CORR_STAT.STATE n) 0).endLearn n
    s.forEach (commitBodies [(62, 2, 1), (57, 3, 2), (50, 6, n), (0, 32, no)] entries)
      (fun s b => s.recordTwice 0x07 s.commitCls s.now n b)
  else s

/-- A revolution from the edge of position 0 to the next ends: the first after the command sets T_prev only, a later one qualifies or
is skipped, and its length is T_prev of the next (R133, R134). -/
def State.learnClose (s : State) (n : Nat) : State :=
  let tr := s.tracker n
  if !tr.learnOpen then s
  else
    let T := tr.learnCur.foldl (fun a x => a + x.2.1) 0
    let s' := s.setTrk n { tr with learnPrev := some T }
    match tr.learnPrev with
    | none => s'
    | some T0 =>
      let steady := decide ((max T T0 - min T T0) * 4096 ≤ s.get (Reg.WHL.CORR_CTL.STEADY n) * T0)
      let done := decide (s.get (Reg.WHL.CORR_CTL.LEARN_REVS n) ≤ s.get (Reg.WHL.CORR_STAT.REVS_DONE n))
      if done then s'
      else if tr.learnBad || !steady then s'.bump (Reg.WHL.LEARN_SKIP_CNT.COUNT n)
      else
        let sum := tr.learnCur.foldl (fun (m : Sparse Int) x =>
          let e := roundDiv ((x.2.1 : Int) * 4096 * s.wPos n) T - 4096 * (x.2.2 : Int)
          m.set (fun _ => 0) x.1 (m.get (fun _ => 0) x.1 + e)) tr.learnSum
        (s'.onTrk n (fun t => { t with learnSum := sum })).bump (Reg.WHL.CORR_STAT.REVS_DONE n)

/-- Learning takes note of a processed edge: `from_` is the real position its period starts at, `span` its span. -/
def State.learnEdge (s : State) (n : Nat) (at0 usable : Bool) (from_ period span : Nat) : State :=
  if s.corrState n ≠ 1 then s
  else
    let s := s.onTrk n (fun t =>
      if usable then { t with learnCur := t.learnCur ++ [(from_, period, span)] } else { t with learnBad := true })
    if at0 then (s.learnClose n).onTrk n (fun t => { t with learnCur := [], learnOpen := true, learnBad := false }) else s

/-! ### Ring and tooth cart (R131, R132) -/

/-- Adds an entry to the tooth-period ring; the first entry after a clear has index 0. -/
def State.ringAdd (s : State) (n : Nat) (e : RingEntry) : State :=
  let h := if (s.tracker n).ring.isEmpty then 0 else (s.get (Reg.WHL.RING_HEAD.HEAD n) + 1) % 1024
  (s.onTrk n (fun tr => { tr with ring := tr.ring.insert h e })).put (Reg.WHL.RING_HEAD.HEAD n) h

/-! ### Processing one position edge (R112 to R118, R128 to R132) -/

/-- The flank an edge names: between counts c - 1 and c (R112). -/
def flankOf (cm : Nat) (e : DEdge) : Nat := if e.rev then (e.cnt + 1) % (if cm = 0 then 2 ^ 32 else cm) else e.cnt

/-- A delivered edge is a position edge of the tracker (R112). -/
def State.isPosition (s : State) (n : Nat) (e : DEdge) : Bool :=
  s.wPat n != 2 || flankOf (s.get (Reg.INP.COUNT_MOD.MOD (s.wSrc n))) e % s.wK n == 0

/-- The position of a flank; none while no ZERO is fixed under GAP1 and GAP2. -/
def State.positionOf (s : State) (n c : Nat) : Option Nat :=
  let real := s.wPos n - s.wMiss n
  match s.wPat n with
  | 0 | 1 => (s.tracker n).zero.map (fun z => (((c : Int) - z) % (real : Int)).toNat)
  | 2 => some (c / s.wK n % s.wPos n)
  | _ => some 0

/-- The count move (old, new] going forward, [new, old) in reverse, holds a value (R106, R117). -/
def moveHolds (cm old new : Nat) (rev : Bool) (x : Nat) : Bool :=
  let m := if cm = 0 then 2 ^ 32 else cm
  if rev then decide ((x + m - new % m) % m < (old + m - new % m) % m)
  else decide (0 < (x + m - old % m) % m ∧ (x + m - old % m) % m ≤ (new + m - old % m) % m)

/-- What a gap test or an index says at a processed edge. -/
inductive Verdict | nothing | expectedPass | otherPass | expectedFail | expectedSkip
deriving DecidableEq, Repr

/-- The gap test on the last three periods (R115): none when it cannot be evaluated. -/
def State.gapTest (s : State) (n : Nat) : Option Bool :=
  match (s.tracker n).hist with
  | [p1, p2, p3] =>
    if p1.valid && p2.valid && p3.valid then
      some (decide (s.wRise n * p1.len ≤ 16 * p2.len ∧ 16 * p3.len ≤ s.wFall n * p2.len))
    else none
  | _ => none

/-- The flank that ends the expected tested period in a direction: that of position 0 going forward, of POS - m - 1 in reverse (R117,
R118); none while no ZERO is fixed. -/
def State.gapFlank (s : State) (n : Nat) (rev : Bool) : Option Nat :=
  let real := s.wPos n - s.wMiss n
  (s.tracker n).zero.map (fun z => (z + (if rev then real - 1 else 0)) % real)

/-- A DIRCHG edge that ends the expected tested period: its test cannot be evaluated (Table 4-5). -/
def State.endsGap (s : State) (n : Nat) (e : DEdge) : Bool :=
  let flank := flankOf (s.get (Reg.INP.COUNT_MOD.MOD (s.wSrc n))) e
  e.dirChg && s.wMiss n != 0 && s.gapFlank n e.rev == some flank

/-- The expected test falls due at the first processed edge beyond the flank that ends the expected period, whether or not the edge of
that flank was itself processed; `prev` is the flank of the processed edge before (R117, R118). -/
def State.gapDue (s : State) (n : Nat) (prev : Option Nat) (e : DEdge) : Bool :=
  let flank := flankOf (s.get (Reg.INP.COUNT_MOD.MOD (s.wSrc n))) e
  let real := s.wPos n - s.wMiss n
  match s.gapFlank n e.rev, prev with
  | some g, some q => !e.dirChg && moveHolds real q flank e.rev ((g + (if e.rev then real - 1 else 1)) % real)
  | _, _ => false

/-- The verdict of GAP1 and GAP2 (R115, R117, R118): `prev` is the flank of the processed edge before, which ends the tested period. A
test that a DIRCHG edge has already spoilt is not counted again. -/
def State.gapVerdict (s : State) (n : Nat) (prev : Option Nat) (skipped : Bool) (e : DEdge) : Verdict :=
  let due := s.gapDue n prev e && !skipped
  let same := prev.isSome && prev == s.gapFlank n e.rev
  if s.endsGap n e then .expectedSkip
  else
    match s.gapTest n with
    | some true => if !same then .otherPass else if due then .expectedPass else .nothing
    | some false => if !due then .nothing else if same then .expectedFail else .expectedSkip
    | none => if due then .expectedSkip else .nothing

/-- The expected index is missed at this edge: its count move from `old` passes one count beyond INDEX_VAL, and no index has been taken
since the processed edge before, nor at it (R117). -/
def State.indexMissed (s : State) (n old : Nat) (e : DEdge) : Bool :=
  let c := s.wSrc n
  let v := s.get (Reg.INP.INDEX_VAL.VAL c)
  let cm := s.get (Reg.INP.COUNT_MOD.MOD c)
  moveHolds cm old e.cnt e.rev (if e.rev then (if v = 0 then cm - 1 else v - 1) else (if v + 1 = cm then 0 else v + 1))

/-- ZERO from the middle edge's flank: position 0 going forward, POS - m - 1 in reverse (row 8, row 12). -/
def State.fixZero (s : State) (n mid : Nat) (rev : Bool) : State :=
  let real := s.wPos n - s.wMiss n
  let z := if rev then (((mid : Int) - (real - 1 : Nat)) % (real : Int)).toNat else mid
  (s.onTrk n (fun tr => { tr with zero := some z })).put (Reg.WHL.ZERO.ZERO n) z

/-- CAND_FAIL: rows 12 and 13. -/
def State.candFail (s : State) (n : Nat) : State :=
  let p := page .whl n
  (((s.bump (Reg.WHL.CAND_FAIL_CNT.COUNT n)).put (Reg.WHL.FLAGS.CAND_FAIL n) 1).err p).raise p 3

/-- Entry into LOST at an edge: rows 16, 17, 18. -/
def State.wLose (s : State) (n cause : Nat) : State := (s.put (Reg.WHL.STAT.LOSS_CAUSE n) cause).wEnter n 5

/-- An index taken at a processed edge: rows 9, 11, 12 and 18 (R112, R117). -/
def State.indexRows (s : State) (n x : Nat) : State :=
  let good := x == s.get (Reg.INP.INDEX_VAL.VAL (s.wSrc n))
  match s.wState n with
  | 1 => s.wEnter n 2
  | 2 =>
    if good then ((s.wEnter n 3).revolve n).put (Reg.WHL.STAT.RESUMED n) 0
    else (s.wEnter n 2).candFail n
  | 3 | 4 =>
    if good then (s.onTrk n (fun t => { t with fails := 0 })).put (Reg.WHL.STAT.RESUMED n) 0
    else s.wLose n 3
  | _ => s

/-- An expected gap or index is missed in SYNCED or PHASED (rows 17 and 18, R118); LOSS_TOL counts as 0 while RESUMED (row 7). -/
def State.gapMissed (s : State) (n cause : Nat) : State :=
  let tol := if s.bit (Reg.WHL.STAT.RESUMED n) then 0 else s.get (Reg.WHL.SYNC_CFG.LOSS_TOL n)
  let s := (s.onTrk n (fun t => { t with fails := t.fails + 1 })).put (Reg.WHL.FLAGS.GAP_MISS n) 1
  if tol < (s.tracker n).fails then s.wLose n cause else s

/-- Rows 8, 10 to 13, 16 and 17 at a processed edge, and row 18 for a missed index: `mid` is the flank that ends the tested period. -/
def State.edgeRows (s : State) (n : Nat) (e : DEdge) (valid : Bool) (mid : Nat) (v : Verdict) : State :=
  match s.wState n with
  | 1 =>
    if s.wPat n = 3 then (if valid then s.wEnter n 3 else s)
    else
      match v with
      | .expectedPass | .otherPass => (s.fixZero n mid e.rev).wEnter n 2
      | .nothing | .expectedFail | .expectedSkip => s
  | 2 =>
    match v with
    | .expectedPass => ((s.wEnter n 3).revolve n).put (Reg.WHL.STAT.RESUMED n) 0
    | .otherPass => ((s.fixZero n mid e.rev).wEnter n 2).candFail n
    | .expectedFail | .expectedSkip => (s.wEnter n 1).candFail n
    | .nothing => if e.dirChg then (s.wEnter n 1).candFail n else s
  | 3 | 4 =>
    match v with
    | .expectedPass => (s.onTrk n (fun t => { t with fails := 0 })).put (Reg.WHL.STAT.RESUMED n) 0
    | .otherPass => s.wLose n 1
    | .expectedFail => s.gapMissed n (if s.wPat n = 2 then 3 else 2)
    | .expectedSkip => s.bump (Reg.WHL.GAP_SKIP_CNT.COUNT n)
    | .nothing => s
  | _ => s

/-! ### Halves and the cam window (R121) -/

/-- An edge crosses into position 0, or out of it going backward: its position `k`, the position `last` of the processed edge before,
whether the direction has changed between them. Edges between the two need not have been processed. -/
def crosses (rev turned hadLast : Bool) (last k : Nat) : Bool :=
  k == 0 || (hadLast && (if turned then last == 0 else k == last || (if rev then decide (last < k) && last != 0 else decide (k < last))))

/-- The window does not include position 0. -/
def State.camPlain (s : State) (n : Nat) : Bool := decide (s.get (Reg.WHL.CAM_LO.ANGLE n) ≤ s.get (Reg.WHL.CAM_HI.ANGLE n))

/-- The direction has changed at the edge of position k: the half can be judged only when the window lies wholly ahead. -/
def State.camTurn (s : State) (n k : Nat) (rev : Bool) : State :=
  let ahead := s.camPlain n && (if rev then decide (s.get (Reg.WHL.CAM_HI.ANGLE n) ≤ k * 1024) else decide (k * 1024 ≤ s.get (Reg.WHL.CAM_LO.ANGLE n)))
  s.onTrk n (fun t => { t with camOpen := ahead && !t.camDone, camSeen := !ahead && t.camSeen })

/-- CAM_MISS is judged at the first crank edge of half CAM_HALF beyond the window's end (R121). -/
def State.camJudge (s : State) (n pos : Nat) (rev : Bool) : State :=
  let tr := s.tracker n
  let beyond := if rev then decide (pos * 1024 < s.get (Reg.WHL.CAM_LO.ANGLE n))
    else decide (s.get (Reg.WHL.CAM_HI.ANGLE n) < pos * 1024)
  if s.wState n = 4 ∧ s.get (Reg.WHL.STAT.HALF n) = s.get (Reg.WHL.CFG.CAM_HALF n) ∧ tr.camOpen ∧ !tr.camDone ∧ beyond then
    let s' := s.setTrk n { tr with camOpen := false, camDone := true }
    if tr.camSeen then s'
    else ((s'.bump (Reg.WHL.CAM_MISS_CNT.COUNT n)).put (Reg.WHL.FLAGS.CAM_MISS n) 1).raise (page .whl n) 5
  else s

/-- The halves alternate at a crossing; a half entered by turning back into a window that includes position 0 is not judged. -/
def State.camCross (s : State) (n : Nat) (turned : Bool) : State :=
  (s.put (Reg.WHL.STAT.HALF n) (1 - s.get (Reg.WHL.STAT.HALF n))).onTrk n
    (fun t => { t with camOpen := !turned || s.camPlain n, camSeen := false, camDone := false })

/-- What a processed edge of position k does in PHASED: the turn, the judgement and the alternation of halves. Going backward the edge
of position 0 still belongs to the half that it leaves. -/
def State.camHalves (s : State) (n k : Nat) (rev turned crossed : Bool) : State :=
  let s := if turned then s.camTurn n k rev else s
  if rev && k == 0 then (s.camJudge n k rev).camCross n turned
  else (if crossed then s.camCross n turned else s).camJudge n k rev

/-- The index of an edge in the tooth-index range: the half applies in PHASED; going backward the edge of position 0 still
belongs to the half that the wheel leaves. -/
def fullIndex (phased : Bool) (pos half p : Nat) (rev : Bool) : Nat :=
  if !phased then p else if rev && p == 0 then (1 - half) * pos else half * pos + p

/-! ### Processing (R113) -/

/-- The tracker takes no notice of edges: disabled, or held in STOPPED (R110, R116). -/
def State.wDeaf (s : State) (n : Nat) : Bool := s.wState n == 0 && (!s.bit (Reg.WHL.SYNC_CFG.EN n) || !s.wCfgOk n)

/-- Ticks that an edge may reach a tracker late: a PWD pulse, a serial word and the filters take less. -/
def camReach : Nat := 2 ^ 17

/-- The predictions of earlier edges after one more: those that a cam edge of this tick or a later one may still need (R121). -/
def pastPreds (old : Option Pred) (past : List Pred) (now : Nat) : List Pred :=
  let l := old.toList ++ past
  l.takeWhile (fun p => decide (now < p.ts + camReach * 128)) ++ (l.dropWhile (fun p => decide (now < p.ts + camReach * 128))).take 1

/-- R113: a position edge is processed. `fast` marks TOOTH_RATE or EDGE_OVF. The rows of Table 4-4 are taken in its order: rows 6 and 7,
then those of an index taken at the edge, then those of the gap test. -/
def State.processEdge (s : State) (n : Nat) (e : DEdge) (fast : Bool) : State :=
  let p := page .whl n
  let shut := s.shut p
  let before := s.wState n
  if s.wDeaf n then s
  else
  let held := match (s.tracker n).pred with
    | some q => s.atHold n q e.ts
    | none => false
  let s := if fast then (s.put (Reg.WHL.FLAGS.OVERSPEED n) 1).raise p 6 else s
  -- rows 6 and 7
  let kept := if s.wResume n then (s.tracker n).kept else none
  let s := if before = 0 then
      match kept with
      | some k =>
        let half := s.get (Reg.WHL.STAT.HALF n)
        ((s.wEnter n k).put (Reg.WHL.STAT.HALF n) half).put (Reg.WHL.STAT.RESUMED n) 1
      | none => s.wEnter n 1
    else s
  let s := if before = 0 then (s.wFlag n false (s.tracker n).blind).onTrk n
        (fun t => { t with kept := none, hasPrev := false, hist := [], fails := 0 }) else s
  let resumed := before == 0 && kept.isSome
  let entered := s.wState n
  let live := entered == 3 || entered == 4
  let idx : Option Nat := if s.wPat n = 2 then (s.tracker n).index else none
  let s : State := match idx with
    | some x => if shut then s else s.indexRows n x
    | none => s
  let tr := s.tracker n
  -- period (R114)
  let dt := e.ts - tr.lastTs
  let valid := tr.hasPrev && !(e.dirChg || e.noPeriod || fast) && decide (dt ≤ s.get (Reg.WHL.STALL.STALL_TO n) * 128)
  let period := if valid then dt % 2 ^ 32 else 0
  let cm := s.get (Reg.INP.COUNT_MOD.MOD (s.wSrc n))
  let flank := flankOf cm e
  let hist := (tr.hist ++ [(⟨period, valid, flank⟩ : Period)]).drop (tr.hist.length - 2)
  let midFlank := match tr.hist.getLast? with
    | some q => q.cnt
    | none => flank
  let prev : Option Nat := if tr.hasPrev then tr.hist.getLast?.map (fun q => q.cnt) else none
  let hadLast := tr.hasPrev || resumed
  let turned := (s.get (Reg.WHL.STAT.DIR n) == 1) != e.rev
  let s := s.setTrk n { tr with hist := hist, index := none, took := idx.isSome, hasPrev := true, lastTs := e.ts, lastCnt := e.cnt, skipped := s.endsGap n e, stallFrom := s.tick }
  let s := s.putBit (Reg.WHL.STAT.DIR n) e.rev
  -- transitions
  let v : Verdict := match s.wPat n with
    | 0 | 1 => s.gapVerdict n prev tr.skipped e
    | 2 => if idx.isNone && !tr.took && hadLast && s.indexMissed n tr.lastCnt e then .expectedFail else .nothing
    | _ => .nothing
  let s := if shut then s else s.edgeRows n e valid midFlank v
  let now := s.wState n
  let pos := s.wPos n
  let miss := s.wMiss n
  let at_ := s.positionOf n flank
  let k := at_.getD 0
  -- revolutions and halves (R121, R130)
  let stays := live && (now == 3 || now == 4)
  let s := if stays && k == 0 then s.revolve n else s
  let crossed := stays && crosses e.rev turned hadLast (tr.lastPos % pos) k
  let s := if crossed then s.onTrk n (fun t => { t with par := !t.par }) else s
  let s := if entered = 4 ∧ now = 4 then s.camHalves n k e.rev turned crossed else s
  let full := fullIndex (now == 4) pos (s.get (Reg.WHL.STAT.HALF n)) k e.rev
  -- gap instant (R135)
  let known := now == 2 || now == 3 || now == 4
  let expected := known && miss != 0 && s.gapFlank n e.rev == some flank
  let instant := (now == 3 || now == 4) && !shut &&
    (match s.wPat n with
     | 0 | 1 => expected
     | 2 => idx.isSome
     | _ => true)
  let s := if instant then (s.corrSwap n).onTrk n (fun t => { t with gapAt := some s.tick }) else s
  -- base period and prediction (R123, R124, R129)
  let span := if miss != 0 && at_.isSome && k == (if e.rev then pos - miss - 1 else 0) then miss + 1 else 1
  let first := if e.rev then k else (k + pos - span) % pos
  let tr := s.tracker n
  let c := fun i => tr.corrFg.get (fun _ => 0) ((first + i) % pos)
  let sum : Int := if at_.isSome then (List.range span).foldl (fun a i => a + 4096 + c i) 0 else 4096 * span
  let b := if valid then period * 4096 / sum.toNat % 2 ^ 32 else tr.b
  let range := s.wRange n
  let abs := match tr.pred with
    | some q =>
      if q.rev = e.rev ∧ live then
        let d := (coordOf range e.rev (full * 1024) + range * 1024 - q.abs % (range * 1024)) % (range * 1024)
        q.abs + (if d = 0 then range * 1024 else d)
      else freshAbs range e.rev full
    | none => freshAbs range e.rev full
  let pr : Pred := ⟨full, e.ts, b, e.rev, valid, abs, tr.corrFg, tr.par⟩
  let known := now == 3 || now == 4
  let s := s.setTrk n { tr with
    b := b, lastPos := if at_.isSome then full else 0
    oldPred := if known && live then tr.pred else none
    pred := if known && !shut then some pr else none
    past := if known && s.wCam n then pastPreds tr.pred tr.past s.now else []
    angled := tr.angled || known
    replacedAt := some s.tick
    recomputedAt := if valid then some s.tick else tr.recomputedAt
    reversedAt := if turned && live then some s.tick else tr.reversedAt
    dirChgAt := if e.dirChg && live then some s.tick else tr.dirChgAt }
  let s := s.putBit (Reg.WHL.STAT.SPEED_VALID n) valid
  -- learning (R133, R134)
  let usable := valid && !e.rev && !fast && live && known
  let s := s.learnEdge n (k == 0 && !e.rev && (now == 3 || now == 4)) usable first period span
  -- ring and cart
  let s := s.ringAdd n ⟨e.ts, period, expected, !valid, e.rev, if at_.isSome then full else 0⟩
  s.cart 0x02 s.toothCls e.ts n
    [quad [(54, 10, if at_.isSome then full else 0), (51, 3, now), (48, 3, before), (47, 1, if e.rev then 1 else 0),
        (46, 1, if valid then 0 else 1), (45, 1, if expected then 1 else 0), (44, 1, if fast then 1 else 0),
        (43, 1, if held then 1 else 0), (0, 32, period)],
      quad [(32, 32, (s.tracker n).rev), (0, 32, e.cnt)]]

/-! ### Cam edges (R121) -/

/-- The prediction renumbered to a new tooth-index range (R127). -/
def renumber (p : Pred) (range full : Nat) : Pred := { p with pos := full, abs := freshAbs range p.rev full }

/-- A prediction renumbered for PHASED when the half at crossing parity `par` is `half`. -/
def phase (pos half : Nat) (par : Bool) (p : Pred) : Pred :=
  renumber p (2 * pos) (fullIndex true pos (if p.par == par then half else 1 - half) (p.pos % pos) p.rev)

/-- The prediction of the last processed crank edge at or before a timestamp, while the angle was known (R121). -/
def Tracker.predBefore (t : Tracker) (ts : Nat) : Option Pred := (t.pred.toList ++ t.past).find? (fun p => decide (p.ts ≤ ts))

/-- A cam edge in SYNCED or PHASED fixes, confirms or contradicts the phase. One that precedes every crank edge processed since the
angle became known is ignored, as in the states before (DEDUCED, log entry 50). -/
def State.camEdge (s : State) (n ts : Nat) : State :=
  let st := s.wState n
  let tr := s.tracker n
  if !(s.wCam n && (st == 3 || st == 4)) then s
  else
    match tr.predBefore ts with
    | none => s
    | some p =>
      let pos := s.wPos n
      let full := thetaOf (s.wRange n) p.rev (s.angleAt n p ts)
      let a := full % (pos * 1024)
      let lo := s.get (Reg.WHL.CAM_LO.ANGLE n)
      let hi := s.get (Reg.WHL.CAM_HI.ANGLE n)
      let inside := if lo ≤ hi then decide (lo ≤ a ∧ a ≤ hi) else decide (lo ≤ a ∨ a ≤ hi)
      let half := s.get (Reg.WHL.CFG.CAM_HALF n)
      if !inside then s.put (Reg.WHL.FLAGS.CAM_STRAY n) 1
      else if st = 3 then
        let s := (s.wEnter n 4).put (Reg.WHL.STAT.HALF n) (if tr.par == p.par then half else 1 - half)
        let s := s.onTrk n (fun t =>
          let q := t.pred.map (phase pos half p.par)
          { t with pred := q, past := t.past.map (phase pos half p.par), lastPos := (q.map (fun q => q.pos)).getD t.lastPos, oldPred := none, camOpen := false, camSeen := true, camDone := false })
        s.wheelCart n 14 3 (s.tracker n).lastPos ts
      else if full / (pos * 1024) = half then s.setTrk n { tr with camSeen := true }
      else
        let pg := page .whl n
        let s := ((s.put (Reg.WHL.FLAGS.CAM_ERR n) 1).err pg).raise pg 4
        let s := s.wEnter n 3
        let s := s.onTrk n (fun t =>
          let back := fun (p : Pred) => renumber p pos (p.pos % pos)
          { t with pred := t.pred.map back, past := t.past.map back, lastPos := t.lastPos % pos, oldPred := none })
        s.wheelCart n 15 4 (s.tracker n).lastPos ts

/-! ### The Track phase -/

/-- Delivered edges of one channel that are position edges, with the INDEX flag they carry remembered until a position
edge takes it (R112). -/
def State.gatherIndex (s : State) (n : Nat) (es : List DEdge) : State :=
  es.foldl (fun s e => match e.index with
    | some x => s.onTrk n (fun t => { t with index := some x })
    | none => s) s

/-- Cam edges up to a timestamp (exclusive), in order. -/
def State.camsBefore (s : State) (n : Nat) (es : List DEdge) (limit : Option Nat) : State :=
  (es.filter (fun e => match limit with
    | some t => decide (e.ts < t)
    | none => true)).foldl (fun s e => s.camEdge n e.ts) s

/-- The edge with the latest timestamp; of equal ones the last admitted (R113). -/
def latestEdge (es : List DEdge) : Option DEdge :=
  es.foldl (fun b e => match b with
    | none => some e
    | some x => if x.ts ≤ e.ts then some e else some x) none

/-- OVERSPEED in a tick marked EDGE_OVF that delivers no position edge (R113). -/
def State.overspeed (s : State) (n : Nat) : State :=
  ((s.put (Reg.WHL.FLAGS.OVERSPEED n) 1).raise (page .whl n) 6).onTrk n (fun t => { t with learnBad := true })

/-- Track for tracker n: crank and cam edges in timestamp order, a crank edge first at equal timestamps; of several
position edges only the latest is processed (R113, R121). -/
def State.track (s : State) (n : Nat) : State :=
  let c := s.inpCh (s.wSrc n)
  let es := c.edges
  let cams := if s.wCam n then (s.inpCh (s.get (Reg.WHL.CFG.CAM_CH n))).edges else []
  let posEdges := es.filter (fun e => s.isPosition n e)
  match latestEdge posEdges with
  | none =>
    let s := if c.overflowed && !s.wDeaf n then s.overspeed n else s
    ((s.gatherIndex n es).camsBefore n cams none)
  | some e =>
    let fast := decide (1 < posEdges.length) || c.overflowed
    let s := s.camsBefore n cams (some e.ts)
    let s := s.gatherIndex n (es.filter (fun x => decide (x.ts ≤ e.ts)))
    let s := s.processEdge n e fast
    let s := s.gatherIndex n (es.filter (fun x => decide (e.ts < x.ts)))
    s.camsBefore n (cams.filter (fun x => decide (e.ts ≤ x.ts))) none

end Sys2Proof.Machine
end

