-- ==== Sys2Proof/Machine/Slots.lean ====
section
/-! DEFINITION. The scan of one slot in one tick: arming and counting, the start angle, starts, ends, actions, the effect of
wheel events, catch-up intervals (R144 to R157, R168). Angles are absolute coordinates of the wheel's prediction. -/

namespace Sys2Proof.Machine

/-- What one slot sees of its wheel in the work of a tick: the horizon, whether the target tick is swept, the target tick,
the chain, the prediction, and the old and the new angle at the boundary of the target tick (R127, R175). -/
structure View where
  hz : Nat
  sweep : Bool
  k : Nat
  wheel : Nat
  chain : Chain
  pred : Pred
  lo : Nat
  hi : Nat
  edge : Bool
deriving DecidableEq, Repr

/-- The horizon of an endpoint, and whether its target tick is evaluated: a decrease of L suspends evaluation until
n + L_new > C, and catch-up intervals keep L_old meanwhile (R174, R221). -/
def State.horizonOf (s : State) (ep : Nat) : Nat × Bool :=
  let h := s.horizon ep
  if epIsLink ep then
    match (s.link (epPort ep)).resume with
    | some (c, old) => if s.tick + h ≤ c then (old, false) else (h, true)
    | none => (h, true)
  else (h, true)

/-- The view of a wheel for an endpoint; none while the wheel shows no valid angle. -/
def State.view (s : State) (w ep : Nat) : Option View :=
  let tr := s.tracker w
  if !s.wValid w then none
  else
    match tr.pred with
    | none => none
    | some p =>
      let hz := s.horizonOf ep
      let k := s.tick + hz.1
      let hi := s.angleAt w p (st0 k)
      let fresh := tr.replacedAt == some s.tick
      let lo := if fresh then (match s.oldAngleAt w (st0 k) with
        | some a => min a hi
        | none => hi) else hi
      some ⟨hz.1, hz.2, k, w, s.chainOf w p, p, lo, hi, fresh⟩

/-- Micro-ticks of a wheel cycle. -/
def View.cycle (v : View) : Nat := v.chain.range * 1024

/-- The coordinate of a slot angle within the cycle; none when its tooth is never reached (R144). -/
def View.coord (v : View) (theta : Nat) : Option Nat :=
  if theta < v.cycle then some (coordOf v.chain.range v.pred.rev theta) else none

/-- Start angle and distance from start to end, in the direction of rotation (R150, R154, R155). -/
def Slot.span (sl : Slot) (v : View) (typ : Nat) : Option (Nat × Nat) :=
  let m := v.cycle
  match typ with
  | 1 =>
    match v.coord sl.angA, sl.back with
    | some e, some b => some ((e + m - b % m) % m, b)
    | _, _ => none
  | 2 =>
    match v.coord sl.angA, v.coord sl.angB with
    | some a, some b => if v.pred.rev then some (b, (a + m - b) % m) else some (a, (b + m - a) % m)
    | _, _ => none
  | 3 => (v.coord sl.angA).map (fun a => (a, 0))
  | _ => none

/-- The distance from the start to the anchor: theta_e for E, the start for W, the point for P (R145). -/
def anchorOf (typ dist : Nat) : Nat := if typ = 1 then dist else 0

/-- The next start at or after the old angle whose anchor has not been counted: (start, anchor). -/
def Slot.nextStart (sl : Slot) (v : View) : Option (Nat × Nat) :=
  (sl.span v sl.typ).map (fun (c, d) =>
    let m := v.cycle
    let u := v.lo + (c + m - v.lo % m) % m
    let w := anchorOf sl.typ d
    match sl.last with
    | some l => if u + w ≤ l then (u + m * (1 + (l - (u + w)) / m), u + w + m * (1 + (l - (u + w)) / m)) else (u, u + w)
    | none => (u, u + w))

/-- When a coordinate falls due: in the catch-up interval at (n + h) + 0 st, or in the target tick (R127, R151, R175). A
coordinate equal to the new angle whose own time lies in a tick already decided is taken at the catch-up point. -/
def State.dueAt (s : State) (v : View) (u : Nat) : Option (Nat × Bool) :=
  let t0 := st0 v.k
  if v.lo ≤ u ∧ u < v.hi then some (t0, true)
  else if u = v.hi ∧ v.edge ∧ v.chain.time v.pred.abs v.pred.ts u < t0 then some (t0, true)
  else if v.sweep then
    match s.timeOf v.wheel s.tick v.pred u with
    | some t => if (t0 : Int) ≤ t ∧ t < (t0 + 128 : Nat) then some (t.toNat, false) else none
    | none => none
  else none

/-- The angles that the wheel sweeps for the target tick, catch-up included, meet a window of a length that ends at a coordinate (R175). -/
def State.meets (s : State) (v : View) (c d : Nat) : Bool :=
  let m := v.cycle
  let u := v.lo + (c + d + m - v.lo % m) % m
  decide (u ≤ s.angleAt v.wheel v.pred (st0 (v.k + 1)) + d)

/-- The live carriages of slot h match in the work of the current tick (R175). -/
def State.matched (s : State) (h : Nat) : Bool :=
  let sl := s.slot h
  sl.pass.isSome || (match s.view sl.wheel sl.endpoint with
    | none => false
    | some v => sl.arm && (!v.pred.rev || sl.revOk) && (match sl.span v sl.typ with
      | some (c, d) => s.meets v c d
      | none => false))

/-- The pass to be counted next fires (Table 5-2). -/
def Slot.fires (sl : Slot) : Bool :=
  match sl.rep with
  | 1 => sl.count == 0
  | 2 => sl.count % (sl.rdiv + 1) == 0
  | _ => true

/-- One count for an occurrence of the anchor (R145). -/
def Slot.counted (sl : Slot) (anchor : Nat) : Slot := { sl with count := sl.count + 1, last := some anchor }

/-- The anchor has been counted already. -/
def Slot.isCounted (sl : Slot) (anchor : Nat) : Bool :=
  match sl.last with
  | some l => decide (anchor ≤ l)
  | none => false

/-- R144: the slot may make passes; in RUN only (R351), while not stopping (R352), with a live carriage. -/
def State.may (s : State) (h : Nat) (v : View) : Bool :=
  let sl := s.slot h
  sl.typ != 0 && sl.arm && (!v.pred.rev || sl.revOk) && s.devState == 8 && !s.bit Reg.PRF.STAT.STOPPING && s.onFabric h && !sl.drop

/-- What an edge of a pass does under its ACTION (Table 5-3): edge 0 START, 1 END, 2 POINT. -/
def State.act (s : State) (h : Nat) (p : Pass) (edge t : Nat) : State :=
  let ep := targetEp p.target
  let a := targetAction p.target
  let par := targetParam p.target
  match a with
  | 0 => s
  | 1 | 2 =>
    if edge = 2 then s.onEp ep (fun e => { e with points := e.points ++ [(t, h, a == 1)] })
    else if edge = 0 then s.demand ep h (a == 1) t none
    else s.undemand ep h t
  | 3 => s.demand ep h true t (some (t + (par + 1) * 128))
  | _ =>
    if epIsLink ep then s.linkPush (epPort ep) ⟨t, ep, a, par, h, s.tick + 1, false⟩
    else if a = 8 then s.due { cartOf h edge t p with user := true }
    else { s with dueActs := s.dueActs ++ [⟨t, h, ep, a, par⟩] }

/-- A pass begins: fields read at its first decision (R153), the angle reference (R161), carts and actions. -/
def State.startPass (s : State) (h : Nat) (v : View) (us t flags : Nat) (first : Bool) : State :=
  let sl := s.slot h
  match sl.span v sl.typ with
  | none => s
  | some (_, dist) =>
    let ue := us + dist
    let refU := if sl.typ = 1 ∨ (sl.typ = 2 ∧ v.pred.rev) then ue else us
    let same := sl.typ == 2 && sl.angA == sl.angB
    let p : Pass := {
      s := t
      sDem := t
      te := if same then some t else none
      teCatch := false
      stop := none
      flags := flags
      kind := sl.typ
      wheel := sl.wheel
      rep := sl.rep
      target := sl.word 6
      ref := v.chain.time v.pred.abs v.pred.ts refU
      endAbs := some ue
      cause := 0
      first := first
      handed := false }
    let ep := targetEp p.target
    if sl.typ = 3 then (s.due (finalCart h 2 t p)).act h p 2 t
    else
      let s := s.setSlot h { sl with pass := some p }
      let s := if epIsDrive ep && targetAction p.target == 1 then
          s.onDrv (epChan ep) (fun d => { d with passes := d.passes ++ [⟨h, p, 0, none, sl.dmin, sl.dmax, false⟩] })
        else s.due (cartOf h 0 t p)
      s.act h p 0 t

/-- A pass that is over before any edge: one cart, one result, in this tick (R160). -/
def State.missPass (s : State) (h : Nat) (flags : Nat) (first : Bool) : State :=
  let sl := s.slot h
  let p : Pass := ⟨s.now, s.now, none, false, none, flags, sl.typ, sl.wheel, sl.rep, sl.word 6, 0, none, 0, first, false⟩
  s.due ((cartOf h 3 s.now p).missed s.now 0)

/-- A start that has been passed: Table 5-5 rows 1 to 3 for E, R154 for W, R155 for P. `anchor` is its anchor. -/
def State.latePass (s : State) (h : Nat) (v : View) (anchor : Nat) : State :=
  let sl := s.slot h
  let fire := sl.fires
  let first := sl.rep == 1 && sl.count == 0
  let s := s.setSlot h (sl.counted anchor)
  if !fire then s
  else
    let t := st0 v.k
    match sl.span v sl.typ with
    | none => s
    | some (_, dist) =>
      match sl.typ with
      | 1 =>
        if !sl.late && decide ((sl.dmin : Int) ≤ v.chain.time v.pred.abs v.pred.ts anchor - (t : Int)) then
          s.startPass h v (anchor - dist) t fLate first
        else s.missPass h fLate first
      | 2 => if v.hi < anchor + dist then s.startPass h v anchor t fLate first else s.missPass h fLate first
      | _ => s.missPass h fLate first

/-- Starts that fell due during the pass that is now over (R144). -/
def State.serveQueue (s : State) (h : Nat) (v : View) : State :=
  let q := (s.slot h).queued
  let s := s.onSlot h (fun sl => { sl with queued := [] })
  q.foldl (fun s u =>
    let sl := s.slot h
    if !s.may h v || sl.isCounted u then s
    else if sl.pass.isSome then s.setSlot h { sl with queued := sl.queued ++ [u] }
    else s.latePass h v u) s

/-- Wheel events and commits end a pass early: at boundary n + h, bounded by DMIN and DMAX afterwards (R146, R156, R352). -/
def State.cutPass (s : State) (h : Nat) (lostAngle : Bool) (now : Bool) : State :=
  let sl := s.slot h
  match sl.pass with
  | none => s
  | some p =>
    let k := s.tick + (s.horizonOf (targetEp p.target)).1
    let p := if lostAngle then { p with endAbs := none } else p
    let p := if now then { p with stop := some (match p.stop with
      | some x => x
      | none => st0 k) } else p
    s.setSlot h { sl with pass := some p }

/-- Hands the requested end, DMIN and DMAX of a pass to the protection stage (R238). -/
def State.handOver (s : State) (h : Nat) (p : Pass) (te : Option Nat) : State :=
  let sl := s.slot h
  let ep := targetEp p.target
  if epIsDrive ep && targetAction p.target == 1 then
    s.onDrv (epChan ep) (fun d => { d with passes := d.passes.map (fun x =>
      if x.handle = h ∧ x.pass.sDem = p.sDem then
        { x with dmin := sl.dmin, dmax := sl.dmax, pass := { x.pass with te := te, teCatch := p.teCatch && te == p.te } }
      else x) })
  else s

/-- The earlier of two optional times. -/
def earliest (a b : Option Nat) : Option Nat :=
  match a, b with
  | some x, some y => some (min x y)
  | some x, none => some x
  | none, b => b

/-- R152, R159: the end of a pass, and the clamp flags. -/
def passEnd (p : Pass) (dmin dmax : Nat) : Nat × Nat :=
  let lo := p.s + dmin
  let hi := p.sDem + dmax
  match earliest p.te p.stop with
  | none => (hi, fClampMax)
  | some x =>
    let e := min (max x lo) hi
    let f := if x < lo ∧ e = lo then fClampMin else 0
    let f := if hi < x ∨ (hi < lo ∧ e = hi) then f + fClampMax else f
    let f := if p.teCatch ∧ p.te = some e then f + fCatchup else f
    (e, f)

/-- The end of a pass at a protection stage and its clamp flags (R243). -/
def DPass.finish (p : DPass) : Nat × Nat := passEnd p.pass p.dmin p.dmax

/-- The live end angle of a pass in progress has changed: the new one governs (R153). -/
def Slot.retarget (sl : Slot) (v : View) (p : Pass) : Slot × Pass :=
  match p.endAbs with
  | none => (sl, p)
  | some u =>
    if sl.typ ≠ p.kind ∨ sl.wheel ≠ p.wheel then (sl, p)
    else
      let theta := if p.kind = 1 then sl.angA else if v.pred.rev then sl.angA else sl.angB
      match v.coord theta with
      | none => (sl, { p with endAbs := none, te := none })
      | some c =>
        if u % v.cycle = c then (sl, p)
        else
          let m := v.cycle
          let u' := v.lo + (c + m - v.lo % m) % m
          let sl := if p.kind = 1 ∧ !sl.isCounted u' then { sl with last := some u' } else sl
          (sl, { p with endAbs := some u', te := none, teCatch := false })

/-- The pass has its gate demand judged by a protection stage (R238). -/
def Pass.staged (p : Pass) : Bool := epIsDrive (targetEp p.target) && targetAction p.target == 1

/-- The last edge of a pass at a drive channel, once its demand has ended, when it falls before the end of tick k or has fallen
already: the stage may hold the event open to keep DMIN (R144, R159). -/
def State.stageOver (s : State) (h : Nat) (p : Pass) (k : Nat) : Option Nat :=
  match (s.drive (epChan (targetEp p.target))).passes.find? (fun x => x.handle == h && x.pass.sDem == p.sDem) with
  | none => some (st0 k)
  | some x => if x.finish.1 < st0 (k + 1) then some x.finish.1 else none

/-- T_e of the pass in progress when the angle reaches its end, under the live end angle (R152, R153). -/
def State.aim (s : State) (h : Nat) (v : Option View) (p : Pass) : State × Pass :=
  match v with
  | none => (s, p)
  | some v =>
    let (sl, p) := (s.slot h).retarget v p
    let p := match p.te, p.endAbs with
      | none, some u =>
        match s.dueAt v u with
        | some (t, c) => { p with te := some (max t p.s), teCatch := c }
        | none => p
      | _, _ => p
    (s.setSlot h sl, p)

/-- A staged pass: its demand ends at the requested end, and it is in progress until the stage has decided its last edge. -/
def State.progressStaged (s : State) (h : Nat) (p : Pass) (k : Nat) : State × Option Nat :=
  let asked := (passEnd { p with s := p.sDem } 0 (s.slot h).dmax).1
  let r :=
    if p.handed || decide (st0 (k + 1) ≤ asked) then (s, p)
    else
      let q := { p with handed := true }
      ((s.act h p 1 (max asked (max (st0 k) p.sDem))).onSlot h (fun sl => { sl with pass := some q }), q)
  if r.2.handed then
    match r.1.stageOver h r.2 k with
    | some e => (r.1.passOver h, some e)
    | none => (r.1, none)
  else (r.1, none)

/-- The pass in progress: the end when it falls in the target tick (R152). At a drive channel the demand ends at the requested end,
and the stage keeps DMIN (R159, R238). Answers the end that was decided. -/
def State.progress (s : State) (h : Nat) (v : Option View) : State × Option Nat :=
  match (s.slot h).pass with
  | none => (s, none)
  | some p =>
    let (s, p) := if p.handed then (s, p) else s.aim h v p
    let hz := s.horizonOf (targetEp p.target)
    let k := s.tick + hz.1
    let s := (s.onSlot h (fun sl => { sl with pass := some p })).handOver h p (earliest p.te p.stop)
    if !hz.2 then (s, none)
    else if p.staged then s.progressStaged h p k
    else
      let sl := s.slot h
      let (e, f) := passEnd p sl.dmin sl.dmax
      if st0 (k + 1) ≤ e then (s, none)
      else
        let e := max e (max (st0 k) p.s)
        let p := { p with flags := orFlags p.flags f }
        (((s.due (finalCart h 1 e p)).act h p 1 e).passOver h, some e)

/-- The slot takes theta_s from the chain in force (R150). -/
def State.takeStart (s : State) (h : Nat) (v : View) : State :=
  let sl := s.slot h
  match v.coord sl.angA with
  | none => s.setSlot h { sl with back := none }
  | some c => s.setSlot h { sl with back := v.chain.startBack (4 * v.cycle + c) sl.dur }

/-- R145: the first pass counted is the first whose start lies beyond the angle at boundary T + h. -/
def State.blockPass (s : State) (h : Nat) (v : View) (outright : Bool) : State :=
  let sl := s.slot h
  match sl.span v sl.typ with
  | none => s.setSlot h { sl with queued := [], last := if outright then none else sl.last }
  | some (c, d) =>
    let m := v.cycle
    let us := v.hi - (v.hi + m - c) % m
    let a := us + anchorOf sl.typ d
    let l := match sl.last with
      | some l => if outright then a else max l a
      | none => a
    s.setSlot h { sl with queued := [], last := some l }

/-- R150, R151: the judgement of a recomputation of theta_s. -/
def State.judge (s : State) (h : Nat) (v : View) : State :=
  let sl := s.slot h
  if sl.typ ≠ 1 ∨ !s.may h v then s
  else
    match v.coord sl.angA with
    | none => s
    | some c =>
      let m := v.cycle
      match sl.back with
      | none =>
        let ue := v.hi + (c + m - v.hi % m) % m
        if sl.pass.isSome || sl.isCounted ue then s
        else
          let s' := s.setSlot h (sl.counted ue)
          if sl.fires then s'.missPass h 0 (sl.rep == 1 && sl.count == 0) else s'
      | some b =>
        let ue := v.lo + (c + m - v.lo % m) % m
        if v.lo ≤ ue - b ∨ sl.isCounted ue then s
        else if sl.pass.isSome then s.setSlot h { sl with queued := if sl.queued.contains ue then sl.queued else sl.queued ++ [ue] }
        else s.latePass h v ue

/-- A start that falls due in the target tick (Table 5-5 rows 4 and 5, R154, R155). `passEnd` is the end of the previous pass
when it was decided in this tick. -/
def State.takeDue (s : State) (h : Nat) (v : View) (passEnd : Option Nat) (us anchor t : Nat) (caught : Bool) : State :=
  let sl := s.slot h
  let busy := sl.pass.isSome || (match passEnd with
    | some e => decide (t < e)
    | none => false)
  if sl.isCounted anchor then s
  else if busy then
    let s := s.setSlot h { sl with queued := if sl.queued.contains anchor then sl.queued else sl.queued ++ [anchor] }
    if sl.pass.isSome then s else s.serveQueue h v
  else
    let s' := s.setSlot h (sl.counted anchor)
    if sl.fires then s'.startPass h v us t (if caught then fCatchup else 0) (sl.rep == 1 && sl.count == 0) else s'

/-- TWIN_LOSS of a pass that runs on one carriage: its result and its carts, and at a drive channel every pass that the stage has
started and not yet ended (R182). -/
def State.markTwin (s : State) (h : Nat) : State :=
  let b := st0 (s.tick + 1)
  let s := { s with dueCarts := s.dueCarts.map (fun (d : DueCart) => if d.handle = h ∧ d.start < b ∧ d.edge ≠ 3 then { d with flags := orFlags d.flags fTwin } else d) }
  let s := s.onSlot h (fun sl => { sl with pass := sl.pass.map (fun p =>
    if p.s < b ∧ !p.staged then { p with flags := orFlags p.flags fTwin } else p) })
  let started := fun (x : DPass) => x.handle == h && (match x.sAct with
    | some t => decide (t < b)
    | none => false)
  s.forEach ((s.drv.filter (fun e => e.2.passes.any started)).map (fun e => e.1)) (fun s n =>
    s.onDrv n (fun d => { d with passes := d.passes.map (fun (x : DPass) =>
      if started x then { x with pass := { x.pass with flags := orFlags x.pass.flags fTwin } } else x) }))

/-- The view of the pass in progress: the wheel and the endpoint of its first decision (R153). -/
def State.passView (s : State) (h : Nat) : Option View :=
  match (s.slot h).pass with
  | some p => s.view p.wheel (targetEp p.target)
  | none => none

/-- Wheel events, disarming and STOP on the pass in progress (R146, R156, R352): an edge with DIRCHG and a loss of the angle end it
early. -/
def State.passEvents (s : State) (h : Nat) : State :=
  let sl := s.slot h
  match sl.pass with
  | none => s
  | some p =>
    let tr := s.tracker p.wheel
    let lost := (s.passView h).isNone || tr.gainedAt == some s.tick || tr.reversedAt == some s.tick || tr.dirChgAt == some s.tick
    let halt := s.devState != 8 || s.bit Reg.PRF.STAT.STOPPING
    if lost || halt || (p.rep == 3 && !sl.arm) || sl.drop then s.cutPass h lost true else s

/-- Starts that had been passed when the angle was lost or turned: the end angle is not reached any more, and each is LATE and
MISSED (R151, R156). -/
def State.dropQueued (s : State) (h : Nat) : State :=
  let sl := s.slot h
  let s := s.setSlot h { sl with queued := [] }
  let may := sl.typ != 0 && sl.arm && s.devState == 8 && !s.bit Reg.PRF.STAT.STOPPING && s.onFabric h && !sl.drop
  s.forEach (if may then sl.queued else []) (fun s u =>
    let sl := s.slot h
    if sl.isCounted u then s
    else
      let s := s.setSlot h (sl.counted u)
      if sl.fires then s.missPass h fLate (sl.rep == 1 && sl.count == 0) else s)

/-- A reversal on the passes to come: anchors count anew in the other direction, and theta_s stays where it is (R150, R156). -/
def Slot.reverse (sl : Slot) (m : Nat) : Slot := { sl with last := none, back := sl.back.map (fun b => (m - b % m) % m) }

/-- The passes to come of a slot whose wheel shows a valid angle (R145, R150, R151, R154, R155). -/
def State.scanStarts (s : State) (h : Nat) (v : View) : State :=
  let n := s.tick
  let sl := s.slot h
  let tr := s.tracker sl.wheel
  let gained := tr.gainedAt == some n
  let armed := sl.armAt == some n || (s.power.runAt == some n && sl.arm)
  let recalc := tr.recomputedAt == some n || sl.editAt == some n
  let s := if sl.typ == 1 && (recalc || armed || gained || sl.back.isNone) then s.takeStart h v else s
  let s := if sl.arm && (armed || gained) then s.blockPass h v gained else s
  let s := if recalc then s.judge h v else s
  let cand := if s.may h v then (s.slot h).nextStart v else none
  let hit := match cand with
    | some (us, a) => (s.dueAt v us).map (fun d => (us, a, d.1, d.2))
    | none => none
  let was := (s.slot h).pass
  let (s, passEnd) := s.progress h (s.passView h)
  let s := if passEnd.isSome then s.serveQueue h v else s
  let s := match hit with
    | some (us, a, t, c) => s.takeDue h v passEnd us a t c
    | none => s
  if (s.slot h).pass.isSome && (s.slot h).pass != was then
    let r := s.progress h (s.passView h)
    if r.2.isSome then r.1.serveQueue h v else r.1
  else s

/-- The evaluation of one slot in the work of a tick (R175, R176): the pass in progress on the wheel it began on, the passes to come
on the live wheel (R153). -/
def State.scanSlot (s : State) (h : Nat) : State :=
  let sl := s.slot h
  if sl.typ = 0 ∧ sl.pass = none then s
  else
    let s := (if s.isSingle h then s.markTwin h else s).passEvents h
    let tr := s.tracker sl.wheel
    let turned := tr.reversedAt == some s.tick
    let v := s.view sl.wheel sl.endpoint
    let s := if v.isNone || tr.gainedAt == some s.tick || turned then s.dropQueued h else s
    match v with
    | none => (s.progress h (s.passView h)).1
    | some v => (if turned then s.onSlot h (fun sl => sl.reverse v.cycle) else s).scanStarts h v

/-- The Scan phase: every slot, in ascending handle order (R172, R175). -/
def State.scan (s : State) : State :=
  if s.scanning then s.forEach (s.slots.map (fun e => e.1)) (fun s h => s.scanSlot h) else s

/-- The endpoints that may change their level: those with demands, points or a level, and pins with polarity or SAFE. -/
def State.liveEndpoints (s : State) : List Nat :=
  sortNat (s.eps.map (fun e => e.1) ++ (s.ept.filter (fun e => Word.bits e.2 5 4 != 0)).map (fun e => e.1))

/-- The Resolve phase for local endpoints and event lines, then for links. -/
def State.resolve (s : State) : State :=
  let safe := s.devState != 8
  s.forEach s.liveEndpoints (fun s a =>
    if epIsLink a then (if (s.horizonOf a).2 then s.resolveLink a (s.horizonOf a).1 else s)
    else if s.qOwned a && !safe then s.resolveOwned a
    else s.resolveLocal a safe)

end Sys2Proof.Machine
end

