-- ==== Sys2Proof/Machine/Drive.lean ====
section
/-! DEFINITION. Drive channels: the protection stage, regulation, over-current, duty limit, shutter and dip detector (R238 to
R257). What falls in a tick happens in time order: a command of one kind carries the channel up to and including the first
happening of that kind, and the next boundary carries it through everything left. -/

namespace Sys2Proof.Machine

/-! ### Output-timing cycles (R53, R56) -/

/-- STEP of the tick accumulator. -/
def State.stepSize (s : State) : Nat := ((2 ^ 25 : Nat) + signed 16 (s.get Reg.CLK.TRIM_LIVE.TRIM)).toNat

/-- The instant of cycle j counted from the boundary of the current tick. -/
def State.instantOf (s : State) (j : Nat) : Nat := s.now + (s.clk.acc + j * s.stepSize) / 2 ^ 25

/-- The first cycle of the current tick whose sub-tick is at least that of an instant in it; the last cycle when none is. -/
def State.cycleAt (s : State) (t : Nat) : Nat :=
  min ((((t - s.now) * 2 ^ 25 - s.clk.acc) + s.stepSize - 1) / s.stepSize) (s.clk.cycles - 1)

/-! ### Duty (R245) -/

/-- Ticks of a duty bin. -/
def State.binTicks (s : State) (n : Nat) : Nat := s.get (Reg.DRV.DUTY.W_MS n) * 50

/-- The start of the 99 bins before the current one, at an instant, or the last clear of the bins (R247). -/
def State.dutyFrom (s : State) (n t : Nat) : Nat :=
  max (s.drive n).usedFrom (st0 ((t / 128 / s.binTicks n - 99) * s.binTicks n))

/-- The on-time of events that lies in [a, b). -/
def onTime (ons : List (Nat × Nat)) (a b : Nat) : Nat := ons.foldl (fun x e => x + (min e.2 b - max e.1 a)) 0

/-- The used time U(t). -/
def State.dutyUsed (s : State) (n t : Nat) : Nat :=
  let d := s.drive n
  let ons := match d.event with
    | some e => if e.begun then (e.sAct, t) :: d.ons else d.ons
    | none => d.ons
  onTime ons (s.dutyFrom n t) t

/-- The budget B (R245). DEDUCED (log entry 5): Table 8-4 prints another reset value than this formula gives. -/
def State.dutyBudget (s : State) (n : Nat) : Nat := s.get (Reg.DRV.DUTY.W_MS n) * 640 * s.get (Reg.DRV.DUTY.DUTY_PM n)

/-- The duty limit acts. -/
def State.dutyActs (s : State) (n : Nat) : Bool := s.get (Reg.DRV.DUTY.DUTY_PM n) != 1000

/-! ### Settings at an instant (R244, R251) -/

/-- MIN_OFF for an event whose S_dem is t. -/
def State.minOff (s : State) (n t : Nat) : Nat :=
  match (s.drive n).held with
  | some (k, _, m, _) => if t < st0 (k + 1) then Word.bits m 23 0 else s.get (Reg.DRV.MIN_OFF.MIN_OFF n)
  | none => s.get (Reg.DRV.MIN_OFF.MIN_OFF n)

/-- CFG for an event that starts at t. -/
def State.drvCfg (s : State) (n t : Nat) : Word :=
  match (s.drive n).held with
  | some (k, c, _, _) => if t < st0 (k + 1) then c else s.reg (Reg.DRV.CFG.PERIOD n).addr
  | none => s.reg (Reg.DRV.CFG.PERIOD n).addr

/-- REF and SLOPE at t (R251). -/
def State.drvRef (s : State) (n t : Nat) : Word :=
  match (s.drive n).held with
  | some (k, _, _, r) => if t < st0 (k + 1) then r else s.reg (Reg.DRV.REF.REF n).addr
  | none => s.reg (Reg.DRV.REF.REF n).addr

/-- Values that a commit replaces, the oldest of one tick. -/
def State.holdOld (s : State) (n : Nat) : State :=
  s.onDrv n (fun d => match d.held with
    | some _ => d
    | none => { d with held := some (s.tick, s.reg (Reg.DRV.CFG.PERIOD n).addr, s.reg (Reg.DRV.MIN_OFF.MIN_OFF n).addr,
                                  s.reg (Reg.DRV.REF.REF n).addr) })

/-! ### Passes at the stage (R239 to R243) -/

/-- A pass that the stage has taken up: it started an event or joined one. -/
def DPass.taken (p : DPass) : Bool := p.sAct.isSome

/-- A pass without an edge: MISSED, reported in the tick after the one that holds S_dem (R240). -/
def State.drvMiss (s : State) (n : Nat) (p : DPass) (flags cause : Nat) : State :=
  let q := { p with pass := { p.pass with flags := orFlags (orFlags p.pass.flags fMissed) flags, cause := lowestCause p.pass.cause cause } }
  s.onDrv n (fun d => { d with
    passes := d.passes.filter (fun x => !(x.handle == p.handle && x.pass.sDem == p.pass.sDem))
    ended := d.ended ++ [⟨p.pass.sDem / 128 + 1, q, none, some (s.tracker p.pass.wheel).rev, none⟩] })

/-- A pass is taken up at an instant. -/
def State.drvTake (s : State) (n : Nat) (p : DPass) (t flags : Nat) : State :=
  s.onDrv n (fun d => { d with passes := d.passes.map (fun (x : DPass) =>
    if x.handle = p.handle ∧ x.pass.sDem = p.pass.sDem then
      { x with sAct := some t, pass := { x.pass with s := t, flags := orFlags x.pass.flags flags } }
    else x) })

/-- A pass that ends at an instant in its event (R240, R243); the cart of a fall removed under R206 carries MERGED. -/
def DPass.over (p : DPass) (stop rev ev : Nat) : DEnd :=
  let q := { p.pass with
    flags := orFlags p.pass.flags p.finish.2
    cause := if p.fell && p.pass.te == some stop then lowestCause p.pass.cause 2 else p.pass.cause }
  ⟨stop / 128 + 1, { p with pass := q }, some stop, some rev, some ev⟩

/-- The START report of a pass that starts at t (R240); the cart of a rise removed under R206 carries MERGED. -/
def State.drvStarted (s : State) (n : Nat) (p : DPass) (t : Nat) : State :=
  let p := if p.rise = 2 then { p with pass := { p.pass with cause := lowestCause p.pass.cause 2 } } else p
  s.onDrv n (fun d => { d with started := d.started ++ [(t / 128 + 1, (s.tracker p.pass.wheel).rev, p)] })

/-- The latest end among the passes of the event in progress, not before the current boundary (R243). -/
def State.drvEnd (s : State) (n : Nat) : Option Nat :=
  let d := s.drive n
  match d.event with
  | some e =>
    if e.begun then some ((d.passes.filter (fun p => p.taken)).foldl (fun a p => max a p.finish.1) s.now) else none
  | none => none

/-! ### Gate (R248, R250) -/

/-- GATE_n falls at an instant. -/
def State.gateLow (s : State) (n t : Nat) : State :=
  if s.bit (Reg.DRV.STAT.GATE n) then (s.put (Reg.DRV.STAT.GATE n) 0).edge (epDrive n) t false else s

/-- GATE_n rises at cycle c, at an instant, with a blanking interval. -/
def State.gateHigh (s : State) (n c t blank : Nat) : State :=
  if s.bit (Reg.DRV.STAT.GATE n) then s
  else ((s.put (Reg.DRV.STAT.GATE n) 1).edge (epDrive n) t true).onDrv n (fun d => { d with blankTo := some (c + blank) })

/-- The latch sets; the dip detector notes the first time in its event (R255). -/
def State.latchSet (s : State) (n t : Nat) : State :=
  let s := s.put (Reg.DRV.STAT.LATCH n) 1
  s.onDrv n (fun d => match d.event, d.dip with
    | some e, some x => if e.begun ∧ x.ev = e.sAct ∧ x.latchAt = none then { d with dip := some { x with latchAt := some (t / 128) } } else d
    | _, _ => d)

/-- A period starts at cycle c (R248). -/
def State.periodStart (s : State) (n c t : Nat) (e : DEvent) : State :=
  let s := if s.bit (Reg.DRV.STAT.COMP n) then s else s.put (Reg.DRV.STAT.LATCH n) 0
  let s := if s.bit (Reg.DRV.STAT.LATCH n) then
      ((s.put (Reg.DRV.FLAGS.SKIP n) 1).raise (page .drv n) 5).bump (Reg.DRV.SKIP_CNT.COUNT n)
    else s.gateHigh n c t e.blank
  s.onDrv n (fun d => { d with periodAt := c + e.period })

/-! ### Events (R241 to R243) -/

/-- An event ends at an instant: `why` is 0 for its passes' end, 4 a trip, 1 a duty cut, 5 a shutter; `cause` is the cause
of the carts of the passes it cuts. -/
def State.endEvent (s : State) (n t why cause : Nat) : State :=
  let d := s.drive n
  match d.event with
  | none => s
  | some e =>
    let s := (s.gateLow n t).put (Reg.DRV.STAT.EVENT n) 0
    let s := (s.put64 (Reg.DRV.LAST_END_LO.TICK n) (Reg.DRV.LAST_END_HI.TICK n) (t / 128)).put (Reg.DRV.LAST_END_ST.ST n) (t % 128)
    let s := s.raise (page .drv n) 0
    let s := if why = 4 then s else s.put (Reg.DRV.STAT.OC_CNT n) 0
    let out := (d.passes.filter (fun p => p.taken)).map (fun (p : DPass) =>
      let x := max p.finish.1 s.now
      let rev := (s.tracker p.pass.wheel).rev
      if x ≤ t then p.over x rev e.sAct
      else ⟨t / 128 + 1, { p with pass := { p.pass with flags := orFlags p.pass.flags fCut, cause := lowestCause p.pass.cause cause } }, some t, some rev, some e.sAct⟩)
    s.onDrv n (fun d => { d with
      passes := d.passes.filter (fun p => !p.taken)
      event := none
      ePrev := some t
      blocked := why
      ons := d.ons ++ [(e.sAct, t)]
      ended := d.ended ++ out })

/-- The result of the dip detector (R255): DIP_LAST, DIP_T_MAX, DIP_T_MIN. -/
def State.dipDone (s : State) (n : Nat) (r : DipRes) : State :=
  let s := (s.put (Reg.DRV.DIP_LAST.STATUS n) r.status).put (Reg.DRV.DIP_LAST.DEPTH n) r.depth
  let s := (s.put (Reg.DRV.DIP_T_MAX.TICK n) r.tMax).put (Reg.DRV.DIP_T_MIN.TICK n) r.tMin
  let s := s.onDrv n (fun d => { d with dip := none, dipRes := some r })
  if r.status = 1 then s.raise (page .drv n) 6 else (s.put (Reg.DRV.FLAGS.DIP_NONE n) 1).raise (page .drv n) 7

/-- The detector ends without a find: NOT_FOUND, the other values free. -/
def State.dipNone (s : State) (n : Nat) (x : Dip) : State :=
  let a := s.drawWord
  let b := a.2.drawWord
  let c := b.2.drawWord
  c.2.dipDone n ⟨x.ev, 2, a.1.toNat, b.1.toNat, c.1.toNat % 1024⟩

/-- A detector that is armed anew ends for its earlier event (R255). -/
def State.dipRearm (s : State) (n : Nat) : State :=
  match (s.drive n).dip with
  | some x => s.dipNone n x
  | none => s

/-- The event begins at S_act: its passes start, the dip detector is armed, period 0 starts. -/
def State.beginEvent (s : State) (n : Nat) (e : DEvent) : State :=
  let t := e.sAct
  let cfg := s.drvCfg n t
  let s := if Word.bits cfg 0 0 = 1 then s.dipRearm n else s
  let e := { e with begun := true, period := Word.bits cfg 31 16, blank := Word.bits cfg 15 8 }
  let s := (s.put (Reg.DRV.STAT.EVENT n) 1).bump (Reg.DRV.EVENT_CNT.COUNT n)
  let s := s.onDrv n (fun d => { d with
    event := some e
    dip := if Word.bits cfg 0 0 = 1 then some ⟨t, none, false, false, 0, 0, 0, 0⟩ else d.dip })
  let s := s.forEach ((s.drive n).passes.filter (fun p => p.taken)) (fun s p => s.drvStarted n p t)
  s.periodStart n (s.cycleAt t) t e

/-- Passes that the stage tracks at an instant (R239): taken up and not yet at their end. -/
def Drv.inProgress (d : Drv) (t : Nat) : Nat := (d.passes.filter (fun p => p.taken && decide (t < p.finish.1))).length

/-- The duty check of a start asked for at an instant (R242, R246). -/
def State.dutyEmpty (s : State) (n t : Nat) : Bool := s.dutyActs n && decide (s.dutyBudget n ≤ s.dutyUsed n t)

/-- A pass arrives at its S_dem (R239, R241, R242, R246, R254). -/
def State.arrive (s : State) (n : Nat) (p : DPass) : State :=
  let d := s.drive n
  let t := p.pass.sDem
  if p.pass.kind = 0 then s.onDrv n (fun d => { d with passes := d.passes.filter (fun x => !(x.handle == p.handle && x.pass.sDem == t)) })
  else if d.fenced then s.drvMiss n p 0 5
  else if 8 ≤ d.inProgress t then
    ((s.drvMiss n p 0 3).put (Reg.DRV.FLAGS.OVERLAP n) 1).raise (page .drv n) 8
  else
    match d.event with
    | some e =>
      if e.begun then (s.drvTake n p t 0).drvStarted n { p with sAct := some t, pass := { p.pass with s := t } } t
      else if s.dutyEmpty n t then s.drvMiss n p fCut 0
      else if t + p.dmax ≤ e.sAct then s.drvMiss n p fDelay 0
      else s.drvTake n p e.sAct (if t < e.sAct then fDelay else 0)
    | none =>
      if p.rise = 2 then s.drvMiss n p 0 2
      else if p.rise = 0 then
        (match d.blocked with
         | 5 => s.drvMiss n p 0 5
         | 4 => s.drvMiss n p fCut 4
         | _ => s.drvMiss n p fCut 0)
      else
        let s := s.onDrv n (fun d => { d with blocked := 0 })
        if s.dutyEmpty n t then s.drvMiss n p fCut 0
        else
          let sAct := match d.ePrev with
            | some x => max t (x + s.minOff n t)
            | none => t
          if t + p.dmax ≤ sAct then s.drvMiss n p fDelay 0
          else
            let e : DEvent := ⟨sAct, false, 0, 0⟩
            let s := (s.onDrv n (fun d => { d with event := some e })).drvTake n p sAct (if t < sAct then fDelay else 0)
            if t < sAct then
              ((s.put (Reg.DRV.FLAGS.OFF_DELAY n) 1).raise (page .drv n) 4).bump (Reg.DRV.DELAY_CNT.COUNT n)
            else s

/-! ### Over-current (R252, R253) -/

/-- A fault-manager or over-current fence of the page (R287, R379). -/
def State.fencePage (s : State) (p : Nat) : State :=
  (s.put (Reg.HEAD.PG_SHUTTER.SHUT p) 1).put (Reg.HEAD.PG_SHUTTER.FAULT p) 1

/-- The channel is shuttered for three trips in a row: in the tick of the trip, with its log entry and marker. -/
def State.ocShut (s : State) (n : Nat) : State :=
  let first := !(s.drive n).fenced
  let s := (s.fencePage (page .drv n)).put (Reg.DRV.STAT.OC_CNT n) 0
  let s := if first then s.put (Reg.DRV.STAT.SHUT_CAUSE n) 1 else s
  let s := s.onDrv n (fun d => { d with fenced := true })
  let s := (s.put (Reg.DRV.FLAGS.OC_SHUT n) 1).raise (page .drv n) 2
  (s.logFault 0x30 0x31 n aShuttered 0).faultMarker 0x30 0x31 n aShuttered none 0 s.tick 63

/-- A trip in the event in progress at cycle c: the gate falls in the next cycle and the event ends there. -/
def State.trip (s : State) (n c : Nat) : State :=
  let s := s.endEvent n (s.instantOf (c + 1)) 4 4
  let s := ((s.put (Reg.DRV.FLAGS.OC_TRIP n) 1).raise (page .drv n) 1).bump (Reg.DRV.TRIP_CNT.COUNT n)
  let s := s.err (page .drv n)
  let k := s.get (Reg.DRV.STAT.OC_CNT n) + 1
  if 3 ≤ k then s.ocShut n else s.put (Reg.DRV.STAT.OC_CNT n) k

/-- Blanking ends at cycle c. -/
def State.blankOver (s : State) (n c : Nat) : State :=
  let s := s.onDrv n (fun d => { d with blankTo := none })
  if !s.bit (Reg.DRV.STAT.COMP n) then s
  else
    let s := s.latchSet n (s.instantOf c)
    match (s.drive n).event with
    | some e => if e.begun then s.trip n c else s
    | none => s

/-! ### Happenings in time order (R256) -/

/-- What may fall in a tick, in the order that decides when two fall together (Table 8-1). -/
inductive DriveHap | finish | blankEnd | cut | period | clear | start | arrive
deriving DecidableEq, Repr

/-- When the used time reaches the budget in the event in progress, from the current boundary on (R246). -/
def State.cutAt (s : State) (n : Nat) : Option Nat :=
  match (s.drive n).event with
  | some e =>
    if e.begun && s.dutyActs n then
      let a := max s.now e.sAct
      some (a + (s.dutyBudget n - s.dutyUsed n a))
    else none
  | none => none

/-- The waiting pass with the earliest S_dem. -/
def Drv.nextPass (d : Drv) : Option DPass :=
  (d.passes.filter (fun p => !p.taken)).foldl (fun b p => match b with
    | none => some p
    | some q => if p.pass.sDem < q.pass.sDem then some p else some q) none

/-- What is to fall in the current tick, in the order of Table 8-1. -/
def State.driveDue (s : State) (n : Nat) : List (Nat × DriveHap) :=
  let d := s.drive n
  let at_ := fun (t : Option Nat) (h : DriveHap) => (t.map (fun t => (t, h))).toList
  let inTick := fun (c : Nat) => if c < s.clk.cycles then some (s.instantOf c) else none
  let run := match d.event with
    | some e => e.begun
    | none => false
  let pend := match d.event with
    | some e => if e.begun then none else some e.sAct
    | none => none
  let l := at_ (s.drvEnd n) .finish ++ at_ (d.blankTo.bind inTick) .blankEnd ++ at_ (s.cutAt n) .cut ++
    at_ (if run then inTick d.periodAt else none) .period ++ (if d.clr = some s.tick then [(s.now, .clear)] else []) ++ at_ pend .start ++ at_ (d.nextPass.map (fun p => p.pass.sDem)) .arrive
  l.filter (fun x => decide (x.1 < st0 (s.tick + 1)))

/-- The earliest happening; of those at one instant the first in the order of Table 8-1. -/
def State.driveNext (s : State) (n : Nat) : Option (Nat × DriveHap) :=
  (s.driveDue n).foldl (fun b x => match b with
    | none => some x
    | some y => if x.1 < y.1 then some x else some y) none

/-- CMP_CLR acts at the boundary (R250): the latch clears when the comparator is released there; in an event GATE_n rises with a new
blanking interval, and the period grid does not move. -/
def State.latchClear (s : State) (n : Nat) : State :=
  let s := s.onDrv n (fun d => { d with clr := none })
  if s.bit (Reg.DRV.STAT.COMP n) || !s.bit (Reg.DRV.STAT.LATCH n) then s
  else
    let s := s.put (Reg.DRV.STAT.LATCH n) 0
    match (s.drive n).event with
    | some e => if e.begun then s.gateHigh n 0 s.now e.blank else s
    | none => s

/-- One happening comes about. -/
def State.driveDo (s : State) (n t : Nat) (h : DriveHap) : State :=
  let d := s.drive n
  match h with
  | .finish => s.endEvent n t 0 0
  | .blankEnd => s.blankOver n (d.blankTo.getD 0)
  | .cut =>
    (((s.endEvent n t 1 0).put (Reg.DRV.FLAGS.DUTY_CUT n) 1).raise (page .drv n) 3).bump (Reg.DRV.CUT_CNT.COUNT n)
  | .period =>
    match d.event with
    | some e => s.periodStart n d.periodAt t e
    | none => s
  | .clear => s.latchClear n
  | .start =>
    match d.event with
    | some e => s.beginEvent n e
    | none => s
  | .arrive =>
    match d.nextPass with
    | some p => s.arrive n p
    | none => s

/-- Happenings before an instant, in order; at most so many. -/
def State.driveBefore (s : State) (n limit : Nat) : Nat → State
  | 0 => s
  | k + 1 =>
    match s.driveNext n with
    | some (t, h) => if t < limit then (s.driveDo n t h).driveBefore n limit k else s
    | none => s

/-- Happenings up to and including the first of one kind; none when that kind does not fall in the tick. -/
def State.driveUntil (s : State) (n : Nat) (kind : DriveHap) : Nat → Option State
  | 0 => none
  | k + 1 =>
    match s.driveNext n with
    | some (t, h) => if h = kind then some (s.driveDo n t h) else (s.driveDo n t h).driveUntil n kind k
    | none => none

/-- A bound on the happenings of one channel in one tick: eight passes arrive and the other kinds fall a few times. -/
def hapFuel : Nat := 64

/-- The happening of one kind that falls in the current tick, after all that come before it. -/
def State.driveHap (s : State) (n : Nat) (kind : DriveHap) : State := (s.driveUntil n kind hapFuel).getD s

/-! ### Boundaries -/

/-- Passes of an event that goes on have ended: they are reported (R240). -/
def State.retire (s : State) (n : Nat) : State :=
  let d := s.drive n
  match d.event with
  | none => s
  | some e =>
    let isOver := fun (p : DPass) => e.begun && p.taken && decide (max p.finish.1 s.now < st0 (s.tick + 1))
    let out := (d.passes.filter isOver).map (fun (p : DPass) => p.over (max p.finish.1 s.now) (s.tracker p.pass.wheel).rev e.sAct)
    s.setDrv n { d with passes := d.passes.filter (fun p => !isOver p), ended := d.ended ++ out }

/-- The end of a tick at a channel: what is left of it falls, and the cycle counts go on from the next boundary. -/
def State.driveClose (s : State) (n : Nat) : State :=
  let s := (s.driveBefore n (st0 (s.tick + 1)) hapFuel).retire n
  let c := s.clk.cycles
  s.onDrv n (fun d => { d with periodAt := d.periodAt - c, blankTo := d.blankTo.map (fun b => b - c), held := none })

/-- A fence takes effect at the current boundary (R241, R254): `cause` is the cause of the carts of passes cut or missed. -/
def State.driveFence (s : State) (n cut miss : Nat) : State :=
  let s := s.onDrv n (fun d => { d with fenced := true })
  match (s.drive n).event with
  | none => s
  | some e =>
    if e.begun then s.endEvent n s.now 5 cut
    else
      let s := s.forEach ((s.drive n).passes.filter (fun p => p.taken)) (fun s p => s.drvMiss n { p with sAct := none } 0 miss)
      s.onDrv n (fun d => { d with event := none })

/-- A shutter that ends the event at the current boundary, whatever a commit has in store for the next (R254). -/
def State.driveFenceNow (s : State) (n : Nat) : State := (s.onDrv n (fun d => { d with fenceNext := none })).driveFence n 0 5

/-- The start of a tick at a channel: a shutter or a release committed in the tick before, the demand. -/
def State.driveOpen (s : State) (n : Nat) : State :=
  let d := s.drive n
  let s := s.putBit (Reg.DRV.STAT.DEMAND n) (s.ep (epDrive n)).level
  let s := s.setDrv n { d with fenceNext := none }
  match d.fenceNext with
    | some true => s.driveFence n 0 5
    | some false =>
      ((s.put (Reg.DRV.STAT.SHUT_CAUSE n) 0).put (Reg.DRV.STAT.OC_CNT n) 0).onDrv n (fun d => { d with fenced := false, blocked := 5 })
    | none => s

/-- The channels that have anything to do. -/
def State.liveDrives (s : State) : List Nat :=
  sortNat (s.drv.map (fun e => e.1) ++ (s.eps.filter (fun e => epIsDrive e.1)).map (fun e => epChan e.1))

/-- Every channel at the end of a tick. -/
def State.drivesClose (s : State) : State := s.forEach s.liveDrives (fun s n => s.driveClose n)

/-- Every channel at the start of a tick. -/
def State.drivesOpen (s : State) : State := s.forEach s.liveDrives (fun s n => s.driveOpen n)

/-- The device-wide shutter at an instant (R385): events end, passes that wait are missed; DMIN is not kept. -/
def State.driveHold (s : State) (n t cause : Nat) : State :=
  let s := s.driveBefore n t hapFuel
  let s := match (s.drive n).event with
    | some e => if e.begun then s.endEvent n t 5 cause else s.onDrv n (fun d => { d with event := none })
    | none => s
  s.forEach (s.drive n).passes (fun s p => s.drvMiss n { p with sAct := none } fCut cause)

/-! ### Dips (R255) -/

/-- One conversion of the channel's sense input, by its conversion tick. -/
def State.dipSample (s : State) (n tick v : Nat) : State :=
  match (s.drive n).dip with
  | none => s
  | some x =>
    let inWin := decide (x.ev / 128 ≤ tick) && decide (tick ≤ x.ev / 128 + s.get (Reg.DRV.DIP_WIN.WIN n)) &&
      (match x.latchAt with
       | some l => decide (tick < l)
       | none => true)
    if !inWin then s
    else
      let thr := s.get (Reg.DRV.DIP_CFG.DIP_THR n)
      let least := s.get (Reg.DRV.DIP_CFG.DIP_MIN n)
      let keep := fun (x : Dip) => s.onDrv n (fun d => { d with dip := some x })
      if !x.some_ then keep { x with some_ := true, mx := v, tMx := tick }
      else if !x.falling then
        if x.mx < v then keep { x with mx := v, tMx := tick }
        else if least ≤ x.mx ∧ v + thr ≤ x.mx then keep { x with falling := true, mn := v, tMn := tick }
        else s
      else if v < x.mn then keep { x with mn := v, tMn := tick }
      else if x.mn + thr ≤ v then s.dipDone n ⟨x.ev, 1, x.tMx % 2 ^ 32, x.tMn % 2 ^ 32, x.mx - x.mn⟩
      else s

/-- The considered samples have run out: the window has passed, or the latch has set in an earlier tick or this one. -/
def State.dipOver (s : State) (n : Nat) : State :=
  match (s.drive n).dip with
  | none => s
  | some x =>
    let isOver := decide (x.ev / 128 + s.get (Reg.DRV.DIP_WIN.WIN n) < s.tick) ||
      (match x.latchAt with
       | some l => decide (l ≤ s.tick)
       | none => false)
    if isOver then s.dipNone n x else s

/-! ### Reports (R240) -/

/-- The pass in progress of a slot is the one at the stage. -/
def State.sameStage (s : State) (p : DPass) : Bool :=
  match (s.slot p.handle).pass with
  | some q => q.sDem == p.pass.sDem && targetEp q.target == targetEp p.pass.target
  | none => false

/-- START of a pass: its event cart, stamped S_act, and S_act for its later clamps. -/
def State.reportStart (s : State) (rev : Nat) (p : DPass) : State :=
  if p.pass.kind = 0 then s
  else
    let s := if s.sameStage p then
        s.onSlot p.handle (fun sl => { sl with pass := sl.pass.map (fun q => { q with s := p.pass.s, flags := orFlags q.flags p.pass.flags }) })
      else s
    s.emitWith (cartOf p.handle 0 p.pass.s p.pass) rev

/-- The dip of a pass's final cart: the result of its event as it stands. -/
def Drv.dipOf (d : Drv) (ev : Option Nat) : Nat × Nat × Nat × Nat :=
  match d.dipRes with
  | some r => if ev = some r.ev then (r.status, r.tMax, r.tMin, r.depth) else (0, 0, 0, 0)
  | none => (0, 0, 0, 0)

/-- The final cart of a pass carries the result of its event: with the event over, a detector still open ends there. -/
def State.dipSettle (s : State) (n : Nat) (ev : Option Nat) : State :=
  let d := s.drive n
  match d.dip with
  | some x => if ev = some x.ev ∧ (d.event.map (fun e => e.sAct)) ≠ some x.ev then s.dipNone n x else s
  | none => s

/-- The end or the miss of a pass: its final event cart and its result. -/
def State.reportEnd (s : State) (n : Nat) (e : DEnd) : State :=
  let p := e.pass
  if p.pass.kind = 0 then s
  else
    let rev := match e.rev with
      | some r => r
      | none => (s.tracker p.pass.wheel).rev
    let s := s.dipSettle n e.ev
    let dip := (s.drive n).dipOf e.ev
    let none_ := { (cartOf p.handle 3 s.now p.pass).missed s.now 0 with dip := dip }
    match e.stop with
    | none => s.emitWith none_ rev
    | some t => s.emitWith (if hasBit p.pass.flags 3 then none_ else { finalCart p.handle 1 t p.pass with dip := dip }) rev

/-- A pass cut in the tick it started in: both reports reach the same work, and the START cart carries PROTECT_CUT. -/
def Drv.cutTo (d : Drv) (p : DPass) : DPass :=
  if d.ended.any (fun e => e.pass.handle == p.handle && e.pass.pass.sDem == p.pass.sDem && hasBit e.pass.pass.flags 6) then
    { p with pass := { p.pass with flags := orFlags p.pass.flags fCut } }
  else p

/-- The reports of one channel due in this tick: starts, then ends. -/
def State.driveReport (s : State) (n : Nat) : State :=
  let d := s.drive n
  let s := s.setDrv n { d with
    started := d.started.filter (fun x => decide (s.tick < x.1))
    ended := d.ended.filter (fun x => decide (s.tick < x.tick)) }
  let s := s.forEach (d.started.filter (fun x => decide (x.1 ≤ s.tick))) (fun s x => s.reportStart x.2.1 (d.cutTo x.2.2))
  s.forEach (d.ended.filter (fun x => decide (x.tick ≤ s.tick))) (fun s e => s.reportEnd n e)

/-- The reports of every channel. -/
def State.driveReports (s : State) : State := s.forEach (s.drv.map (fun e => e.1)) (fun s n => s.driveReport n)

/-! ### Comparator (R249, R250) -/

/-- The comparator reference c cycles after a period start, in steps of 1/2560 mV: max(0, 1.5 × REF − SLOPE × c / 2560) (R249). -/
def vref (ref slope c : Nat) : Nat := 3840 * ref - slope * c

/-- HYST in steps of 1/2560 mV (R249). -/
def hysteresis (h : Nat) : Nat := [0, 25600, 51200, 102400].getD h 0

/-- Cycles since the period start at an instant of the current tick; 0 outside events (R249). -/
def State.rampAt (s : State) (n t : Nat) : Nat :=
  let d := s.drive n
  match d.event with
  | some e => if e.begun then s.cycleAt t + e.period - d.periodAt else 0
  | none => 0

/-- The state of the comparator when CS_n presents a voltage, in steps of 1/2560 mV: asserted above the reference, released below
it by more than HYST, else as it was (R249). -/
def State.sensed (s : State) (n sense t : Nat) : Bool :=
  let r := s.drvRef n t
  let v := vref (Word.bits r 9 0) (Word.bits r 23 16) (s.rampAt n t)
  if v < sense then true
  else if sense + hysteresis (Word.bits (s.drvCfg n t) 2 1) < v then false
  else s.bit (Reg.DRV.STAT.COMP n)

/-- CS_n presents a voltage at an instant of the current tick: the comparator may change state. -/
def State.compare (s : State) (n sense t : Nat) : State :=
  let s := s.driveBefore n t hapFuel
  let level := s.sensed n sense t
  if s.bit (Reg.DRV.STAT.COMP n) == level then s
  else
    let s := (s.putBit (Reg.DRV.STAT.COMP n) level).provCmp n level t
    if !level then s
    else
      let c := s.cycleAt t
      let blank := match (s.drive n).blankTo with
        | some b => decide (c ≤ b)
        | none => false
      if blank || s.bit (Reg.DRV.STAT.LATCH n) then s
      else (s.latchSet n t).gateLow n (s.instantOf (c + 1))

/-- A register read that captures others: the value returned and the captured ones (R58, R257). -/
def Door.capture (d : Door) (v : Word) (l : List (Nat × Word)) : Door :=
  { d with readData := v, snap := l.foldl (fun m e => m.set (fun _ => 0) e.1 e.2) d.snap }

/-! ### Commands of the drive channels -/

/-- COMPARATOR_TRANSITION (R249). -/
def execComparatorTransition (ch : DrvNo) (sense : Nat) (st : SubTick) (s : State) : Host.Outcome State Fault Refusal :=
  run s (s.compare ch sense (s.now + st))

/-- REG_PERIOD_START (R248). -/
def execRegPeriodStart (ch : DrvNo) (s : State) : Host.Outcome State Fault Refusal := run s (s.driveHap ch .period)

/-- BLANK_END (R252). -/
def execBlankEnd (ch : DrvNo) (s : State) : Host.Outcome State Fault Refusal := run s (s.driveHap ch .blankEnd)

/-- DRIVE_EVENT_START (R242). -/
def execDriveEventStart (ch : DrvNo) (s : State) : Host.Outcome State Fault Refusal := run s (s.driveHap ch .start)

/-- DRIVE_EVENT_END (R243). -/
def execDriveEventEnd (ch : DrvNo) (s : State) : Host.Outcome State Fault Refusal := run s (s.driveHap ch .finish)

/-- DUTY_CUT (R246). -/
def execDutyCut (ch : DrvNo) (s : State) : Host.Outcome State Fault Refusal := run s (s.driveHap ch .cut)

/-- DUTY_BIN_ROLL (R245): at a bin boundary the on-time of the oldest bin is forgotten. -/
def execDutyBinRoll (ch : DrvNo) (s : State) : Host.Outcome State Fault Refusal :=
  run s (s.when (s.tick % s.binTicks ch == 0) (fun s =>
    let a := s.dutyFrom ch s.now
    s.onDrv ch (fun d => { d with ons := d.ons.filter (fun e => decide (a < e.2)) })))

/-- CMP_CLR (R250): the latch clears at the next boundary when the comparator is released there. -/
def execCmpClr (ch : DrvNo) (s : State) : Host.Outcome State Fault Refusal :=
  run s (s.onDrv ch (fun d => { d with clr := some (s.tick + 1) }))

/-- DIP_WINDOW_END (R255). -/
def execDipWindowEnd (ch : DrvNo) (s : State) : Host.Outcome State Fault Refusal := run s (s.dipOver ch)

end Sys2Proof.Machine
end

