-- ==== Sys2Proof/Machine/Events.lean ====
section
/-! DEFINITION. Event lines and their routed sources (R325 to R328). -/

namespace Sys2Proof.Machine

/-- Routes in force: (source, line) (R326). Only a listed ROUTE register can have EN set. -/
def State.routes (s : State) : List (Nat × Nat) :=
  (s.regs.filter (fun e => decide (0x140040 ≤ e.1 ∧ e.1 < 0x140040 + 4 * 144) && Word.bits e.2 31 31 == 1)).map
    (fun e => ((e.1 - 0x140040) / 4, Word.bits e.2 8 0))

/-- The WINDOW source of a timer is high: RUN is 1 and C is below MATCH (Table 13-1). -/
def State.timerWindow (s : State) (t : Nat) : Bool :=
  s.bit (Reg.TMR.CFG.RUN t) && decide (s.get (Reg.TMR.COUNT.C t) < s.get (Reg.TMR.MATCH.MATCH t))

/-- A routed source is high in the tick that begins (Table 13-1). -/
def State.sourceHigh (s : State) (k : Nat) : Bool :=
  s.evt.pulses.contains k || (decide (k < 96) && k % 3 == 2 && s.timerWindow (k / 3))

/-- A pulse source is high from the next boundary for one tick. -/
def State.pulseSource (s : State) (k : Nat) : State := { s with evt := { s.evt with pulses := k :: s.evt.pulses } }

/-- The changes of an endpoint level in the current tick, oldest first (R29). -/
def State.edgesOf (s : State) (ep : Nat) : List Edge :=
  (s.edges.filter (fun e => e.ep == ep && e.t / 128 == s.tick)).reverse

/-- Rising edges of a line within a tick: the instants, given whether a routed source holds it high, the level in the last
sub-tick before, and the changes of its endpoint level (R325, R326). -/
def risesOf (now : Nat) (routed before ep0 : Bool) (changes : List Edge) : List Nat :=
  let at0 := routed || (match changes.head? with
    | some e => if e.t = now then e.level else ep0
    | none => ep0)
  (if at0 && !before then [now] else []) ++
    (if routed then [] else (changes.filter (fun e => e.level && decide (now < e.t))).map (fun e => e.t))

/-- The lines of the tick that begins (R325): levels, rising edges, counts. The routes are those in force before Apply. -/
def State.stepLines (s : State) : State :=
  let rs := s.routes.filter (fun r => s.sourceHigh r.1)
  let high := rs.map (fun r => r.2)
  let names := sortNat (high ++ (s.eps.filter (fun e => epIsEvt e.1)).map (fun e => epLine e.1) ++ s.evt.lines.map (fun e => e.1) ++
    (s.edges.filter (fun e => epIsEvt e.ep && e.t / 128 == s.tick)).map (fun e => epLine e.ep))
  let prevRise := s.evt.lines.filterMap (fun e => e.2.rise.map (fun t => (e.1, t)))
  let prevLevel := (s.evt.lines.filter (fun e => e.2.level)).map (fun e => e.1)
  let s := { s with evt := { s.evt with pulses := [], prevRise := prevRise, prevLevel := prevLevel } }
  s.forEach names (fun s x =>
    let l := s.line x
    let routed := high.contains x
    let now := (s.ep (epEvt x)).level
    let ch := s.edgesOf (epEvt x)
    let ep0 := match ch.head? with
      | some e => !e.level
      | none => now
    let rises := risesOf s.now routed l.level ep0 ch
    let start := match ch.head? with
      | some e => if e.t = s.now then e.level else ep0
      | none => ep0
    s.setLine x ⟨routed || start, routed || now, min 0xFFFF (l.edges + rises.length), rises.head?⟩)

/-- The instant at which a line rose in the tick before (R327). -/
def State.roseAt (s : State) (x : Nat) : Option Nat := (s.evt.prevRise.find? (fun e => e.1 == x)).map (fun e => e.2)

/-- A line rose in the tick before. -/
def State.rose (s : State) (x : Nat) : Bool := (s.roseAt x).isSome

/-- A line is host-timed: an enabled DONE route names it (R328). -/
def State.hostTimed (s : State) (x : Nat) : Bool := s.routes.any (fun r => decide (96 ≤ r.1 ∧ r.1 < 128) && r.2 == x)

/-- R328: a DONE route names a line that clocks or triggers a timer. -/
def State.badRoutes (s : State) : Bool :=
  (List.range 32).any (fun t =>
    (s.get (Reg.TMR.CFG.CLKSRC t) == 2 && s.hostTimed (s.get (Reg.TMR.LINES.CLK_LINE t))) ||
    (s.get (Reg.TMR.CFG.SLAVE t) != 0 && s.hostTimed (s.get (Reg.TMR.LINES.SLV_LINE t))))

end Sys2Proof.Machine
end

