-- ==== Sys2Proof/Machine/Adc.lean ====
section
/-! DEFINITION. ADC units: the choice of a conversion, urgent requests, calibration, windows, DATA and overruns (R259 to
R271). -/

namespace Sys2Proof.Machine

/-! ### Calibration arithmetic (R264) -/

/-- The gain of a calibration pair whose difference is at least 4 096, as 16 bits. -/
def gainOf (z f : Nat) : Nat := ((1023 * 2 ^ 18 + (f - z) / 2) / (f - z)) % 2 ^ 16

/-- The calibrated code of a raw code: the shift is arithmetic, the result is clamped. -/
def calCode (raw z gain : Nat) : Nat :=
  let v := ((raw * 16 : Int) - z) * gain + 2 ^ 17
  min 1023 (v / 2 ^ 18).toNat

/-- Window state of an entry: 0 IN, 1 ABOVE, 2 BELOW (R268). -/
def State.winState (s : State) (u k : Nat) : Nat := s.get (Reg.ADC.WIN_STATE.STATE u) / 4 ^ k % 4

/-- Sets the window state of an entry. -/
def State.setWin (s : State) (u k v : Nat) : State :=
  let f := Reg.ADC.WIN_STATE.STATE u
  s.put f (s.get f - s.winState u k * 4 ^ k + v * 4 ^ k)

/-! ### Urgent requests (R262, R263, R269) -/

/-- The cause of a slot's cart at an edge. -/
def State.causeOf (s : State) (h t cause : Nat) : State :=
  { s with dueCarts := s.dueCarts.map (fun (d : DueCart) =>
      if d.handle = h ∧ d.at_ = t then { d with cause := lowestCause d.cause cause } else d) }

/-- A request that is discarded or turned away by a shutter: only the cart of a slot's edge shows it. -/
def State.urgentLost (s : State) (r : Urgent) (cause : Nat) : State :=
  if r.line then s else s.causeOf r.order r.at_ cause

/-- The order in which requests are served. -/
def Urgent.rank (r : Urgent) : Nat := (r.at_ * 2 + (if r.line then 1 else 0)) * 2 ^ 17 + r.order

/-- A request arrives at a unit. -/
def State.urgentPush (s : State) (u : Nat) (r : Urgent) : State :=
  if s.shut (page .adc u) then s.urgentLost r 5
  else
    let a := s.unit u
    if 8 ≤ a.urgent.length then
      let s := (s.put (Reg.ADC.STAT.URG_DROP u) 1).raise (page .adc u) 2
      ((s.bump (Reg.ADC.DROP_CNT.COUNT u)).err (page .adc u)).urgentLost r 6
    else s.setAdc u { a with urgent := insertBy Urgent.rank r a.urgent }

/-- Slot requests whose edge lies in the current tick: (unit, request). -/
def State.slotRequests (s : State) : List (Nat × Urgent) :=
  (s.dueActs.filter (fun d => d.action == 4 && d.at_ / 128 == s.tick)).map
    (fun d => (d.param / 32, ⟨d.at_, false, d.handle, d.param % 16⟩))

/-- Requests of the event lines that rise in the current tick: (unit, request). Only a listed URG_TRIG register can have EN
set. -/
def State.lineRequests (s : State) : List (Nat × Urgent) :=
  (s.regs.filter (fun e => decide (0xd0000 ≤ e.1 ∧ e.1 < 0xd8000) && decide (0x48 ≤ e.1 % 0x1000 ∧ e.1 % 0x1000 < 0x58) &&
      Word.bits e.2 13 13 == 1)).filterMap (fun e =>
    (s.line (Word.bits e.2 12 4)).rise.map (fun t =>
      ((e.1 - 0xd0000) / 0x1000, ⟨t, true, (e.1 % 0x1000 - 0x48) / 4, Word.bits e.2 3 0⟩)))

/-- The requests of the current tick in their order of arrival. -/
def State.requests (s : State) : List (Nat × Urgent) :=
  sortBy (fun r => r.2.rank) (s.slotRequests ++ s.lineRequests)

/-! ### The choice of a conversion (R260 to R262) -/

/-- LEN of the sequence. -/
def State.seqLen (s : State) (u : Nat) : Nat := s.get (Reg.ADC.SEQ_CTL.LEN_M1 u) + 1

/-- The conversion of the current tick, picked at its boundary after Apply. -/
def State.pickConv (s : State) (u : Nat) : State :=
  let a := s.unit u
  if s.shut (page .adc u) then s.setAdc u { a with conv := none }
  else
    let entryIn := fun k => s.get (Reg.ADC.SEQ.INPUT u k)
    match a.urgent with
    | r :: l =>
      if r.at_ ≤ s.now then s.setAdc u { a with urgent := l, conv := some ⟨s.tick, r.entry, entryIn r.entry, true, false⟩ }
      else s.setAdc u { a with conv := none }
    | [] =>
      match a.cal.filter (fun c => c.made < 16) with
      | some c => s.setAdc u { a with conv := some ⟨s.tick, 0, c.input, false, true⟩ }
      | none =>
        if s.bit (Reg.ADC.SEQ_CTL.RUN u) && decide (a.resumeAt ≤ s.tick) then
          let k := s.get (Reg.ADC.STAT.POS u)
          (s.put (Reg.ADC.STAT.POS u) (if k + 1 < s.seqLen u then k + 1 else 0)).setAdc u
            { a with conv := some ⟨s.tick, k, entryIn k, false, false⟩ }
        else s.setAdc u { a with conv := none }

/-- Every unit at a boundary: requests that lie at it, the choice, the requests of the rest of the tick. -/
def State.adcBoundary (s : State) : State :=
  let rs := s.requests
  let s := s.forEach (rs.filter (fun r => decide (r.2.at_ ≤ s.now))) (fun s r => s.urgentPush r.1 r.2)
  let s := s.forEach (List.range 8) (fun s u => s.pickConv u)
  s.forEach (rs.filter (fun r => decide (s.now < r.2.at_))) (fun s r => s.urgentPush r.1 r.2)

/-! ### A code enters DATA (R264 to R268) -/

/-- The window of an entry at a calibrated code: the new state, and whether it is an exit. -/
def windowStep (was code lo hi : Nat) : Nat × Bool :=
  let now := if hi < code then 1 else if code < lo then 2 else 0
  (now, decide (now ≠ 0 ∧ now ≠ was))

/-- The window of the conversion's entry is judged: the exit is answered. -/
def State.judgeWin (s : State) (u k code : Nat) : State × Bool :=
  if s.bit (Reg.ADC.SEQ.WIN_EN u k) then
    let r := windowStep (s.winState u k) code (s.get (Reg.ADC.SEQ.LO u k)) (s.get (Reg.ADC.SEQ.HI u k))
    let s := s.setWin u k r.1
    if r.2 then
      let f := Reg.ADC.WIN_FLAGS.EXIT u
      (((s.put f (setBit (s.get f) k true)).raise (page .adc u) 0).pulseSource (136 + u), true)
    else (s, false)
  else (s, false)

/-- PENDING, DRDY and overrun of a code whose entry has DRQ (R266). -/
def State.dataReady (s : State) (u : Nat) : State :=
  let s := if s.bit (Reg.ADC.STAT.PENDING u) then
      (((s.put (Reg.ADC.STAT.OVR u) 1).raise (page .adc u) 1).bump (Reg.ADC.OVR_CNT.COUNT u)).err (page .adc u)
    else s
  (s.put (Reg.ADC.STAT.PENDING u) 1).pulseSource (128 + u)

/-- The code of the conversion in hand enters DATA at the boundary that follows, under the settings of its conversion tick: the
pair (R265), the entry (R261), the window, whose line is high from that boundary (Table 13-1). -/
def State.latchCode (s : State) (u raw : Nat) : State :=
  let a := s.unit u
  match a.conv with
  | none => s
  | some c =>
    let code := calCode raw (s.get (Reg.ADC.CAL.Z16 u c.input)) (s.get (Reg.ADC.GAIN.GAIN u c.input))
    let s := s.setAdc u { a with conv := none, dataTick := c.tick }
    let s := s.put (Reg.ADC.DATA.URG u) (if c.urg then 1 else 0)
    let s := ((s.put (Reg.ADC.DATA.RAW u) raw).put (Reg.ADC.DATA.ENTRY u) c.entry).put (Reg.ADC.DATA.CODE u) code
    let s := (s.putBit (Reg.ADC.DATA.CAL u) c.cal).bump (Reg.ADC.CONV_CNT.COUNT u)
    let s := if c.urg then s.bump (Reg.ADC.URG_CNT.COUNT u) else s
    if c.cal then
      let s := s.onAdc u (fun a => { a with
        cal := a.cal.map (fun k => { k with made := k.made + 1, sum := k.sum + raw, last := c.tick })
        sample := some ⟨c, raw, code, 0, false, true⟩ })
      s.put (Reg.ADC.STAT.CAL_CNT u) (s.get (Reg.ADC.STAT.CAL_CNT u) + 1)
    else
      let s := if s.bit (Reg.ADC.SEQ.DRQ u c.entry) then s.dataReady u else s
      let r := s.judgeWin u c.entry code
      r.1.onAdc u (fun a => { a with
        sample := some ⟨c, raw, code, r.1.winState u c.entry, r.2, r.1.bit (Reg.ADC.SEQ.REC u c.entry)⟩ })

/-- The ADC cart of a sample (R267, R277). -/
def State.adcCart (s : State) (u : Nat) (x : Sample) : State :=
  let b := fun (x : Bool) => if x then 1 else 0
  s.cart 0x04 (s.get (Reg.ADC.SEQ_CTL.REC_CLS u)) (st0 x.conv.tick) 63
    [quad [(61, 3, u), (57, 4, x.conv.entry), (53, 4, x.conv.input), (43, 10, x.raw), (33, 10, x.code), (32, 1, b x.conv.urg),
      (31, 1, b x.conv.cal), (30, 1, b x.exit), (28, 2, x.win)]]

/-- The sample of a unit in the work that admits it (R19, R25, R255, R267, R422): provenance, the cart where REC_EN asks for it, the
dip detector of its drive channel. -/
def State.adcRecord (s : State) (u : Nat) : State :=
  match (s.unit u).sample with
  | none => s
  | some x =>
    let s := s.onAdc u (fun a => { a with sample := none })
    let s := s.provAdc u ⟨x.conv.tick, x.conv.entry, x.conv.cal, x.raw⟩
    let s := if s.bit (Reg.ADC.SEQ_CTL.REC_EN u) && (x.exit || x.keep) then s.adcCart u x else s
    if x.conv.input < 8 then s.dipSample (8 * u + x.conv.input) x.conv.tick x.code else s

/-- A conversion whose code no command gave by the boundary that follows: the code is free. -/
def State.latchOpen (s : State) (u : Nat) : State :=
  if (s.unit u).conv.isSome then
    let r := s.drawWord
    r.2.latchCode u (r.1.toNat % 1024)
  else s

/-! ### Calibration (R265) -/

/-- CAL_ZERO or CAL_FULL of input i. -/
def State.startCal (s : State) (u : Nat) (full : Bool) (i : Nat) : State :=
  let a := s.unit u
  if s.shut (page .adc u) then s
  else if a.cal.isSome then s.put (Reg.ADC.STAT.CAL_RESULT u) 3
  else
    let s := s.setAdc u { a with cal := some ⟨full, i, 0, 0, 0⟩ }
    (s.put (Reg.ADC.STAT.CAL_BUSY u) 1).put (Reg.ADC.STAT.CAL_CNT u) 0

/-- RESTART (R261). -/
def State.adcRestart (s : State) (u : Nat) : State := s.put (Reg.ADC.STAT.POS u) 0

/-- The 16th conversion is made: the pair is replaced at the tick after it, or found out of range. -/
def State.calDone (s : State) (u : Nat) : State :=
  let a := s.unit u
  match a.cal with
  | none => s
  | some c =>
    if c.made < 16 ∨ s.tick ≤ c.last then s
    else
      let z := if c.full then s.get (Reg.ADC.CAL.Z16 u c.input) else c.sum
      let f := if c.full then c.sum else s.get (Reg.ADC.CAL.F16 u c.input)
      let s := (s.setAdc u { a with cal := none }).put (Reg.ADC.STAT.CAL_BUSY u) 0
      let s := if f < z + 4096 then s.put (Reg.ADC.STAT.CAL_RESULT u) 2
        else
          let s := ((s.put (Reg.ADC.CAL.Z16 u c.input) z).put (Reg.ADC.CAL.F16 u c.input) f).put (Reg.ADC.GAIN.GAIN u c.input) (gainOf z f)
          let no := a.calNo
          let s := s.onAdc u (fun a => { a with calNo := (no + 1) % 2 ^ 32 })
          let cal := (Reg.ADC.CAL.Z16 u c.input).addr
          let gain := (Reg.ADC.GAIN.GAIN u c.input).addr
          let es := [commitEntry false cal (s.reg cal).toNat, commitEntry false gain (s.reg gain).toNat]
          let s := s.forEach (commitBodies [(62, 2, 2), (57, 3, 2), (53, 3, u), (0, 32, no)] es)
            (fun s b => s.recordTwice 0x07 s.commitCls s.now 63 b)
          s.put (Reg.ADC.STAT.CAL_RESULT u) 1
      s.raise (page .adc u) 3

/-- A shutter of the unit (R269): the queue is discarded and a calibration ends. -/
def State.adcShut (s : State) (u : Nat) : State :=
  let a := s.unit u
  let s := s.forEach a.urgent (fun s r => s.urgentLost r 5)
  let s := s.setAdc u { a with urgent := [], cal := none }
  if a.cal.isSome then (s.put (Reg.ADC.STAT.CAL_RESULT u) 4).put (Reg.ADC.STAT.CAL_BUSY u) 0 else s

/-- The release of a unit: the sequence resumes at POS from the next boundary (R269). -/
def State.adcRelease (s : State) (u : Nat) : State := s.onAdc u (fun a => { a with resumeAt := s.tick + 1 })

/-! ### Commands of the ADC units -/

/-- ADC_DATA_LATCH (R266). -/
def execAdcDataLatch (u : AdcNo) (raw : BitVec 10) (s : State) : Host.Outcome State Fault Refusal :=
  run s (s.latchCode u raw.toNat)

/-- ADC_RESTART (R261). -/
def execAdcRestart (u : AdcNo) (s : State) : Host.Outcome State Fault Refusal := run s (s.adcRestart u)

/-- CAL_ZERO (R265). -/
def execCalZero (u : AdcNo) (s : State) : Host.Outcome State Fault Refusal :=
  run s (s.startCal u false (s.get (Reg.ADC.CMD.CAL_IN u)))

/-- CAL_FULL (R265). -/
def execCalFull (u : AdcNo) (s : State) : Host.Outcome State Fault Refusal :=
  run s (s.startCal u true (s.get (Reg.ADC.CMD.CAL_IN u)))

/-- CAL_DONE (R265). -/
def execCalDone (u : AdcNo) (s : State) : Host.Outcome State Fault Refusal := run s (s.calDone u)

end Sys2Proof.Machine
end

