-- ==== Sys2Proof/Machine/Links.lean ====
section
/-! DEFINITION. Speilog links: states and bring-up, frames, queues, sample requests, breaks, upstream cells (R207 to R229,
R233). -/

namespace Sys2Proof.Machine

/-! ### States (R213, R214) -/

/-- A change of STATE raises STATE_CHANGE; FAILED raises BRINGUP_FAIL. Leaving RUN discards the queues under the cause of
the new state; entering RUN sends a RUN place, and the nodes' outputs start from their safe level (R232). -/
def State.linkEnter (s : State) (n nxt : Nat) : State :=
  let was := s.lnkState n
  let p := page .lnk n
  let s := s.put (Reg.LNK.STAT.STATE n) nxt
  let s := s.raiseIf (was != nxt) p 0
  let s := s.raiseIf (nxt == 7) p 1
  let l := s.link n
  if nxt = 6 then
    let s := s.setLnk n { l with runPlace := true }
    { s with eps := s.eps.filterMap (fun e =>
        let v := { e.2 with level := if epIsLink e.1 && epPort e.1 == n then false else e.2.level }
        if v = Ep.reset then none else some (e.1, v)) }
  else
    let c := s.dropCause n
    let s := s.forEach (l.deadline ++ l.sample) (fun s x => s.causeCmd x c)
    s.setLnk n { l with deadline := [], sample := [], runPlace := false }

/-- The link follows the device state while in HOLD or RUN; a shuttered link stays in HOLD (R214, R222). -/
def State.linkFollow (s : State) (n : Nat) : State :=
  let st := s.lnkState n
  let run := s.devState == 8 && !s.shut (page .lnk n)
  if st = 5 ∧ run then s.linkEnter n 6 else if st = 6 ∧ !run then s.linkEnter n 5 else s

/-- Every link follows the device state. -/
def State.linksFollow (s : State) : State := s.forEach (List.range 16) (fun s n => s.linkFollow n)

/-- TRAIN starts at the current tick: what a bring-up before it had still to send is forgotten. -/
def State.trainStart (s : State) (n : Nat) (broke : Bool) : State :=
  (s.onLnk n (fun l => { l with
    script := [], trainAt := s.tick, swapAt := none, brokeOnce := broke, breakDue := none, healDue := false })).linkEnter n 1

/-- CMD = BRINGUP (R214). -/
def State.bringup (s : State) (n : Nat) : State := (s.put (Reg.LNK.STAT.CAUSE n) 0).trainStart n false

/-- CMD = STOP enters OFF. -/
def State.linkStop (s : State) (n : Nat) : State := (s.onLnk n (fun l => { l with script := [] })).linkEnter n 0

/-- A management place (R211, Table 7-5). -/
def mgmtOp (node opcode data : Nat) : BitVec 40 := BitVec.ofNat 40 (node * 2 ^ 34 + opcode * 2 ^ 27 + data % 2 ^ 23)

/-- MGMT_TX (R223): only opcodes 64 to 127. -/
def State.mgmtTx (s : State) (n : Nat) : State :=
  let op := s.get (Reg.LNK.MGMT_TX_A.OPCODE n)
  if op < 64 then s
  else s.onLnk n (fun l => { l with mgmt := some (mgmtOp (s.get (Reg.LNK.MGMT_TX_A.NODE n)) op (s.get (Reg.LNK.MGMT_TX_B.DATA n))) })

/-- Bring-up ends in FAILED with a cause. -/
def State.bringupFail (s : State) (n cause : Nat) : State :=
  ((s.onLnk n (fun l => { l with script := [] })).put (Reg.LNK.STAT.CAUSE n) cause).linkEnter n 7

/-! ### Bring-up (Table 7-10) -/

/-- R215: the delay of a node port from its round trip and HOLD_TIME. -/
def portDelay (rtt h : Nat) : Nat := (25 * rtt + 25 - 8 * h) / 50

/-- A mask of node numbers, in two registers. -/
def maskOf (l : List Nat) : Nat := l.foldl (fun a k => setBit a k true) 0

/-- RING: the ring condition is WRAP. -/
def State.wraps (s : State) (n : Nat) : Bool := s.bit (Reg.LNK.STAT.RING n)

/-- Puts the ring condition. -/
def State.setWrap (s : State) (n : Nat) (wrap : Bool) : State :=
  (s.raiseIf (s.wraps n != wrap) (page .lnk n) 0).putBit (Reg.LNK.STAT.RING n) wrap

/-- The nodes that answered discovery, ascending. -/
def State.presentNodes (s : State) (n : Nat) : List Nat :=
  (List.range 64).filter (fun k => hasBit (s.get64 (Reg.LNK.PRESENT_LO.MASK n) (Reg.LNK.PRESENT_HI.MASK n)) k)

/-- In WRAP the node is served from end B. -/
def State.behindB (s : State) (n k : Nat) : Bool := hasBit (s.get64 (Reg.LNK.SEG_B_LO.MASK n) (Reg.LNK.SEG_B_HI.MASK n)) k

/-- The places of ENUM: ENUM from each head, then STATUS_REQ to every node number, one every 4 ticks, the first of them 4 ticks after
ENUM (DESIGN CHOICE, log entry 35). -/
def enumScript (from_ : Nat) : List Script :=
  ⟨from_, true, true, mgmtOp 0 3 0⟩ :: (List.range 64).map (fun k => ⟨from_ + 4 * (k + 1), true, true, mgmtOp k 5 0⟩)

/-- The places of MEASURE: ECHO to each present node, one every 64 ticks, the time allowed for its answer (DESIGN CHOICE, log entry 35); in
RING from end A, then again from end B with the head swapped; in WRAP from the head that reaches the node. Answers the tick of the
swap too. -/
def State.measureScript (s : State) (n from_ : Nat) : List Script × Option Nat :=
  let ks := s.presentNodes n
  let echo := fun (b : Bool) (at_ : Nat) (e : Nat × Nat) => (⟨at_ + 64 * e.1, !b, b, mgmtOp e.2 4 0⟩ : Script)
  let ks := (List.range ks.length).zip ks
  let swap := from_ + 64 * ks.length
  if s.wraps n then (ks.map (fun e => echo (s.behindB n e.2) from_ e), none)
  else (ks.map (echo false from_) ++ ks.map (echo true swap), some swap)

/-- DATA23 of a delay (Table 7-5). -/
def delayData : Option Nat → Nat
  | some d => d
  | none => 0x7FFFFF

/-- The owner of an upstream entry as LNK holds it. -/
def State.upOwner (s : State) (n e : Nat) : Nat := s.get (Reg.LNK.UPMAP.OWNER n e)

/-- The places of CONFIG: UPCLR, the two delays of every node, then every entry owned. -/
def State.configScript (s : State) (n from_ : Nat) : List Script :=
  let l := s.link n
  let delays := (s.presentNodes n).flatMap (fun k =>
    let x := l.nodes.get (fun _ => LNode.reset) k
    [mgmtOp k 6 (delayData x.dP), mgmtOp k 7 (delayData x.dQ)])
  let owned := ((List.range 64).filter (fun e => decide (s.upOwner n e < 64))).map (fun e => mgmtOp (s.upOwner n e) 8 (e + 64))
  (mgmtOp 0 9 0 :: delays ++ owned).map (fun p => ⟨from_, true, true, p⟩)

/-- TRAIN ends: RING, WRAP with a tail, or NO_NODES. -/
def State.trainEnd (s : State) (n : Nat) (ring anyTail : Bool) : State :=
  if !ring && !anyTail then s.bringupFail n 1
  else ((s.setWrap n (!ring)).onLnk n (fun l => { l with script := enumScript (s.tick + 1) })).linkEnter n 2

/-- ENUM ends: the count must be that of the nodes that answered. -/
def State.enumEnd (s : State) (n count : Nat) (nodes : List (Fin 64 × Bool)) : State :=
  let present := maskOf (nodes.map (fun x => x.1.val))
  let segB := if s.wraps n then maskOf ((nodes.filter (fun x => x.2)).map (fun x => x.1.val)) else 0
  let s := s.put64 (Reg.LNK.PRESENT_LO.MASK n) (Reg.LNK.PRESENT_HI.MASK n) present
  let s := s.put64 (Reg.LNK.SEG_B_LO.MASK n) (Reg.LNK.SEG_B_HI.MASK n) segB
  let found := (s.presentNodes n).length
  let s := s.put (Reg.LNK.STAT.NODES n) found
  if count ≠ found then s.bringupFail n 2
  else
    let m := s.measureScript n (s.tick + 1)
    (s.onLnk n (fun l => { l with script := m.1, swapAt := m.2 })).linkEnter n 3

/-- Every ECHO to node k has its answer: in RING at both ports, in WRAP at the one that its head reaches. -/
def State.echoed (s : State) (n k : Nat) (l : List NodeFinding) : Bool :=
  match l.find? (fun x => x.node.val == k) with
  | none => false
  | some x => if s.wraps n then (if s.behindB n k then x.rttQ.isSome else x.rttP.isSome) else x.rttP.isSome && x.rttQ.isSome

/-- The delays of a node from its answers. -/
def measuredNode (x : NodeFinding) (old : LNode) : LNode :=
  { old with dP := x.rttP.map (fun r => portDelay r x.holdP), dQ := x.rttQ.map (fun r => portDelay r x.holdQ), seq := none }

/-- The largest measured delay of the present nodes (R215). -/
def State.topDelay (s : State) (n : Nat) : Nat :=
  (s.presentNodes n).foldl (fun a k =>
    let x := (s.link n).nodes.get (fun _ => LNode.reset) k
    max a (max (x.dP.getD 0) (x.dQ.getD 0))) 0

/-- MEASURE ends: every ECHO answered, every delay at or below 7 680 st. -/
def State.measureEnd (s : State) (n : Nat) (l : List NodeFinding) : State :=
  if !(s.presentNodes n).all (fun k => s.echoed n k l) then s.bringupFail n 4
  else
    let mine := l.filter (fun x => (s.presentNodes n).contains x.node.val)
    let s := s.onLnk n (fun k => { k with nodes := mine.foldl (fun m x =>
      m.set (fun _ => LNode.reset) x.node.val (measuredNode x (m.get (fun _ => LNode.reset) x.node.val))) k.nodes })
    if 7680 < s.topDelay n then s.bringupFail n 5
    else (s.onLnk n (fun l => { l with script := s.configScript n (s.tick + 1), swapAt := none })).linkEnter n 4

/-- CONFIG ends: DLIM, LOOP and the UPMAP that the nodes now have; L must allow for DLIM. -/
def State.configEnd (s : State) (n loop : Nat) : State :=
  let dlim := s.topDelay n + 128 * s.get (Reg.LNK.CFG.MINLEAD n)
  let s := (s.put (Reg.LNK.DLIM.DLIM n) dlim).put (Reg.LNK.LOOP.LOOP n) loop
  let map := (List.range 64).foldl (fun (m : Sparse Nat) e => m.set (fun _ => 0x40) e (s.upOwner n e)) []
  let s := s.onLnk n (fun l => { l with upmap := map })
  if (s.get (Reg.LNK.CFG.L n) - 1) * 128 < dlim then s.bringupFail n 3 else (s.linkEnter n 5).linkFollow n

/-- The step in progress ends with what it found, once every place of it has been sent. -/
def State.bringupStep (s : State) (n : Nat) (f : BringupFinding) : State :=
  if !(s.link n).script.isEmpty then s
  else
    match s.lnkState n, f with
    | 1, .train ring tail => s.trainEnd n ring tail
    | 2, .enumerate count nodes => s.enumEnd n count nodes
    | 3, .measure l => s.measureEnd n l
    | 4, .configure loop => s.configEnd n loop
    | _, _ => s

/-! ### Frames (R210, R218 to R220) -/

/-- A command place (Table 7-4). -/
def place (ep action offset st param : Nat) : BitVec 40 :=
  BitVec.ofNat 40 (epNode ep * 2 ^ 34 + epChan ep * 2 ^ 27 + action % 16 * 2 ^ 23 + offset % 256 * 2 ^ 15 + st % 128 * 2 ^ 8 + param % 256)

/-- PARAM of a placed command: 0 for SET and CLEAR. -/
def LCmd.par (c : LCmd) : Nat := if c.action = 1 ∨ c.action = 2 then 0 else c.param

/-- Order of the deadline queue: ascending E, then endpoint address, then ACTION. -/
def LCmd.rank (c : LCmd) : Nat := (c.e * 2 ^ 18 + c.ep) * 16 + c.action

/-- A command is placeable in frame g when its lead is at least DLIM (R219). -/
def leadOk (c : LCmd) (g dlim : Nat) : Bool := decide (dlim + 128 * g ≤ c.e)

/-- Places a command at its instant. -/
def LCmd.placeAt (c : LCmd) (g : Nat) : BitVec 40 := place c.ep c.action (c.e / 128 - g) (c.e % 128) c.par

/-- One command placed for an instant: counted. -/
def State.placed (s : State) (n t : Nat) : State :=
  (s.bump (Reg.LNK.CMD_CNT.COUNT n)).onLnk n (fun l => { l with sentTo := max l.sentTo t })

/-- A sample request placed in frame g: at E, or at DLIM when E is too near (R220). -/
def State.placeSample (s : State) (n g : Nat) (c : LCmd) : State × BitVec 40 :=
  let dlim := s.get (Reg.LNK.DLIM.DLIM n)
  if leadOk c g dlim then (s.placed n c.e, c.placeAt g)
  else
    let s := ((s.bump (Reg.LNK.SREQ_LATE_CNT.COUNT n)).raise (page .lnk n) 5).causeCmd c 7
    (s.placed n (st0 g + dlim), place c.ep 4 (dlim / 128) (dlim % 128) c.par)

/-- Deadline commands into so many places: one that is not placeable is dropped with LATE_LINK and the next is
considered. Answers the places and the commands that stay. -/
def State.placeDeadline (s : State) (n g : Nat) : Nat → List LCmd → State × List (BitVec 40) × List LCmd
  | _, [] => (s, [], [])
  | room, c :: l =>
    if room = 0 then (s, [], c :: l)
    else if leadOk c g (s.get (Reg.LNK.DLIM.DLIM n)) then
      let r := (s.placed n c.e).placeDeadline n g (room - 1) l
      (r.1, c.placeAt g :: r.2.1, r.2.2)
    else (((s.bump (Reg.LNK.LATE_LINK_CNT.COUNT n)).raise (page .lnk n) 4).causeCmd c 8).placeDeadline n g room l

/-- Sample requests into so many places. -/
def State.placeSamples (s : State) (n g : Nat) : Nat → List LCmd → State × List (BitVec 40) × List LCmd
  | _, [] => (s, [], [])
  | room, c :: l =>
    if room = 0 then (s, [], c :: l)
    else
      let p := s.placeSample n g c
      let r := p.1.placeSamples n g (room - 1) l
      (r.1, p.2 :: r.2.1, r.2.2)

/-- The DOWN frame of tick g of a link in RUN (R218). -/
def State.runFrame (s : State) (n g : Nat) : State × List (BitVec 40) :=
  let l := s.link n
  let head := (if l.runPlace then [mgmtOp 0 2 0] else []) ++ (match l.mgmt with
    | some m => [m]
    | none => [])
  let prom := l.sample.find? (fun c => c.promoted)
  let (s, pp, rest) := match prom with
    | some c =>
      let r := s.placeSample n g c
      (r.1, [r.2], l.sample.erase c)
    | none => (s, [], l.sample)
  let used := head ++ pp
  let d := s.placeDeadline n g (4 - used.length) (sortBy LCmd.rank l.deadline)
  let used := used ++ d.2.1
  let m := d.1.placeSamples n g (4 - used.length) (sortBy LCmd.rank rest)
  let s := m.1.onLnk n (fun l => { l with deadline := d.2.2, sample := m.2.2, runPlace := false, mgmt := none })
  (s, used ++ m.2.1)

/-- A frame of tick g filled up with empty places. -/
def downOf (g : Nat) (places : List (BitVec 40)) : EndFrame := .down ⟨g, places ++ List.replicate (4 - places.length) 0⟩

/-- End B of a link with HOLD places sends DOWN frames (Table 7-9): in WRAP, in FAILED, and in TRAIN once the first 4 ms, 20 000 ticks, are
over. -/
def State.bothHeads (s : State) (n g : Nat) : Bool :=
  match s.lnkState n with
  | 7 => true
  | 1 => decide ((s.link n).trainAt + 20000 ≤ g)
  | _ => s.wraps n

/-- The frames of tick g with a HOLD place: HOLD, MGMT_TX, then what bring-up has to send (R233). While the head is swapped end B sends
them, and end A carriers. -/
def State.holdFrames (s : State) (g n : Nat) : State :=
  let l := s.link n
  let head := mgmtOp 0 1 0 :: (match l.mgmt with
    | some m => [m]
    | none => [])
  let now := (l.script.filter (fun x => decide (x.due ≤ g))).take (4 - head.length)
  let a := downOf g (head ++ (now.filter (fun x => x.a)).map (fun x => x.place))
  let b := downOf g (head ++ (now.filter (fun x => x.b)).map (fun x => x.place))
  let swapped := s.lnkState n == 3 && (match l.swapAt with
    | some x => decide (x ≤ g)
    | none => false)
  s.setLnk n { l with
    mgmt := none
    script := l.script.filter (fun x => !now.contains x)
    frame := some (if swapped then .carrier g else a)
    frameB := some (if swapped || s.bothHeads n g then b else .carrier g) }

/-- DOWN_FRAME_SEND: at boundary g each end of a link sends its frame (R208, R213, R233). -/
def State.downFrame (s : State) (g n : Nat) : State :=
  match s.lnkState n with
  | 0 => s.onLnk n (fun l => { l with frame := none, frameB := none })
  | 6 =>
    let r := s.runFrame n g
    let f := downOf g r.2
    r.1.onLnk n (fun l => { l with frame := some f, frameB := some (if s.wraps n then f else .carrier g) })
  | _ => s.holdFrames g n

/-- The frames of tick g on every link. -/
def State.downFrames (s : State) (g : Nat) : State :=
  s.forEach ((List.range 16).filter (fun n => s.lnkState n != 0 || (s.link n).frame.isSome)) (fun s n => s.downFrame g n)

/-- The oldest sample request that has waited 64 ticks is promoted (R220). -/
def State.promote (s : State) (n : Nat) : State :=
  let l := s.link n
  match l.sample.find? (fun c => !c.promoted && decide (c.since + 64 ≤ s.tick + 1)) with
  | none => s
  | some c =>
    let q := l.sample.map (fun x => if x = c then { x with promoted := true } else x)
    ((s.setLnk n { l with sample := q }).bump (Reg.LNK.PROMO_CNT.COUNT n)).raise (page .lnk n) 6

/-! ### Breaks (R224, R227, R233) -/

/-- The first frame that had left end A and has not returned when a break is declared: of two that are missing the second is due in the
current tick. -/
def State.lostFrom (s : State) (n : Nat) : BreakSign → Nat
  | .missed => s.tick - s.get (Reg.LNK.LOOP.LOOP n) / 128 - 1
  | .upFrame returned => s.tick + 1 - returned.val

/-- A declared break: in HOLD and RUN it takes effect at the next boundary; during bring-up TRAIN restarts once, and a second break ends
it. -/
def State.cableBreak (s : State) (n beyond : Nat) (sign : BreakSign) : State :=
  let st := s.lnkState n
  if 1 ≤ st ∧ st ≤ 4 then (if (s.link n).brokeOnce then s.bringupFail n 4 else s.trainStart n true)
  else if st = 5 ∨ st = 6 then s.onLnk n (fun l => { l with breakDue := some ⟨beyond, s.lostFrom n sign, s.tick⟩, healDue := false })
  else s

/-- The cable is repaired: 16 consecutive valid DOWN frames at end B (R227); RING holds again from the next boundary. -/
def State.heal (s : State) (n : Nat) : State :=
  if (s.lnkState n = 5 ∨ s.lnkState n = 6) ∧ s.wraps n then s.onLnk n (fun l => { l with healDue := true }) else s

/-- The wrap marker (R277). -/
def State.wrapMarker (s : State) (n : Nat) (b : BreakDue) : State :=
  s.cart 0x17 s.markerCls s.now 63
    [quad [(60, 4, n)], BitVec.ofNat 64 b.first, BitVec.ofNat 64 b.last, BitVec.ofNat 64 s.tick]

/-- A break at the boundary of the current tick: end B sends the frames of end A from this tick on, and SEG_B shows the nodes beyond it. One
in WRAP has only its marker and its tails (R233); one at a link that has left HOLD and RUN has no effect. -/
def State.breakNow (s : State) (n : Nat) : State :=
  match (s.link n).breakDue with
  | none => s
  | some b =>
    let s := s.onLnk n (fun l => { l with breakDue := none })
    if s.lnkState n ≠ 5 ∧ s.lnkState n ≠ 6 then s
    else
      let was := s.wraps n
      let present := s.get64 (Reg.LNK.PRESENT_LO.MASK n) (Reg.LNK.PRESENT_HI.MASK n)
      let s := s.put64 (Reg.LNK.SEG_B_LO.MASK n) (Reg.LNK.SEG_B_HI.MASK n) (present &&& b.beyond)
      let s := if was then s
        else
          let s := ((s.setWrap n true).raise (page .lnk n) 2).bump (Reg.LNK.WRAP_CNT.COUNT n)
          let s := s.put64 (Reg.LNK.LAST_WRAP_LO.TICK n) (Reg.LNK.LAST_WRAP_HI.TICK n) s.tick
          s.onLnk n (fun l => { l with frameB := l.frame })
      s.wrapMarker n b

/-- The return to RING at the boundary of the current tick: end B sends carriers from this tick on. -/
def State.healNow (s : State) (n : Nat) : State :=
  if !(s.link n).healDue then s
  else
    let s := s.onLnk n (fun l => { l with healDue := false })
    if (s.lnkState n = 5 ∨ s.lnkState n = 6) ∧ s.wraps n then
      let s := s.put64 (Reg.LNK.SEG_B_LO.MASK n) (Reg.LNK.SEG_B_HI.MASK n) 0
      ((s.setWrap n false).raise (page .lnk n) 3).onLnk n (fun l => { l with frameB := some (.carrier s.tick) })
    else s

/-- Breaks and returns to RING at the boundary of the current tick, after the commits that apply there (R233). -/
def State.ringsNow (s : State) : State := s.forEach (s.lnk.map (fun e => e.1)) (fun s n => (s.breakNow n).healNow n)

/-! ### Upstream (R216, R228, R229) -/

/-- Little-endian words of a list of bytes. -/
def leQuads (l : List Byte) : Nat → List Quad
  | 0 => []
  | k + 1 => BitVec.ofNat 64 ((l.take 8).reverse.foldl (fun a b => a * 256 + b.toNat) 0) :: leQuads (l.drop 8) k

/-- K28.5 and K28.1, the commas of DOWN and UP frames (Table 7-3); a code group Kx.y is the control byte y * 32 + x (R207). -/
def commaDown : Byte := 0xBC
/-- See commaDown. -/
def commaUp : Byte := 0x3C

/-- One bit of the CRC of R209 enters. -/
def crc16Bit (c : Nat) (bit : Bool) : Nat :=
  let c2 := c * 2 % 2 ^ 16
  if (decide (2 ^ 15 ≤ c)) != bit then c2 ^^^ 0x1021 else c2

/-- One byte enters, most significant bit first. -/
def crc16Byte (c : Nat) (b : Byte) : Nat := [7, 6, 5, 4, 3, 2, 1, 0].foldl (fun c k => crc16Bit c (hasBit b.toNat k)) c

/-- CRC-16: polynomial x^16 + x^12 + x^5 + 1, initial value 0xFFFF, no reflection, no final inversion (R209). -/
def crc16 (l : List Byte) : Nat := l.foldl crc16Byte 0xFFFF

/-- The five bytes of a place, bit 39 first (R210). -/
def placeBytes (p : BitVec 40) : List Byte := [4, 3, 2, 1, 0].map (fun k => (p >>> (8 * k)).setWidth 8)

/-- The 20 payload bytes of a frame (Table 7-3): four places, or an IDLE cell. -/
def EndFrame.payload : EndFrame → List Byte
  | .down f => f.places.flatMap placeBytes
  | .carrier _ => List.replicate 20 0

/-- The tick of a frame. -/
def EndFrame.tick : EndFrame → Nat
  | .down f => f.tick
  | .carrier t => t

/-- The comma of a frame. -/
def EndFrame.comma : EndFrame → Byte
  | .down _ => commaDown
  | .carrier _ => commaUp

/-- A frame of 25 symbols from its comma and symbols 1 to 21 (Table 7-3). -/
def frameSymbols (comma : Byte) (body : List Byte) : List Symbol :=
  let c := crc16 body
  .control comma :: (body ++ [BitVec.ofNat 8 (c / 256), BitVec.ofNat 8 c, 0]).map Symbol.data

/-- The symbols that an end sends (R208). -/
def EndFrame.symbols (f : EndFrame) : List Symbol := frameSymbols f.comma (BitVec.ofNat 8 f.tick :: f.payload)

/-- The data bytes of symbols; none where one is no data. -/
def dataBytes : List Symbol → Option (List Byte)
  | [] => some []
  | .data b :: l => (dataBytes l).map (fun r => b :: r)
  | _ :: _ => none

/-- The upstream cell of a received frame when it is valid (R209): an UP comma, no violation, the CRC of symbols 1 to 21. -/
def cellOf (l : List Symbol) : Option (List Byte) :=
  match l with
  | .control c :: rest =>
    (match dataBytes rest with
     | some d =>
       if c = commaUp ∧ d.length = 24 ∧ crc16 (d.take 21) = (d.getD 21 0).toNat * 256 + (d.getD 22 0).toNat then some ((d.take 21).drop 1)
       else none
     | none => none)
  | _ => none

/-- A missing or invalid frame: counted, and recorded in the provenance class. -/
def State.badFrame (s : State) (n : Nat) (endB invalid : Bool) (f : Nat) : State :=
  let r := match endB, invalid with
    | false, false => Reg.LNK.ERR_A.MISS n
    | false, true => Reg.LNK.ERR_A.CRC n
    | true, false => Reg.LNK.ERR_B.MISS n
    | true, true => Reg.LNK.ERR_B.CRC n
  let s := ((s.bump r).err (page .lnk n)).raiseIf invalid (page .lnk n) 8
  s.cart 0x25 s.provCls (st0 f) 63
    [quad [(60, 4, n), (59, 1, if endB then 1 else 0), (58, 1, if invalid then 1 else 0)], BitVec.ofNat 64 f]

/-- A STATUS body (Table 7-8). -/
structure StatusBody where
  nstate : Nat
  faults : Nat
  crcP : Nat
  crcQ : Nat
  holdTime : Nat
  enumCnt : Nat
  portQ : Bool
  tail : Bool
  vendor : Nat
  typ : Nat
  rev : Nat
deriving DecidableEq, Repr

/-- Bytes of a cell as a number, most significant first (R208). -/
def cellField (c : List Byte) (from_ n : Nat) : Nat := ((c.drop from_).take n).foldl (fun a b => a * 256 + b.toNat) 0

/-- The STATUS body of a cell. -/
def statusBody (c : List Byte) : StatusBody where
  nstate := cellField c 2 1
  faults := cellField c 3 1
  crcP := cellField c 4 2
  crcQ := cellField c 6 2
  holdTime := cellField c 8 2
  enumCnt := cellField c 10 1
  portQ := hasBit (cellField c 11 1) 0
  tail := hasBit (cellField c 11 1) 1
  vendor := cellField c 12 4
  typ := cellField c 16 2
  rev := cellField c 18 2

/-- A sample of a SAMPLES body (Table 7-7), with the tick of its instant. -/
structure NodeSample where
  ch : Nat
  tick : Nat
  st : Nat
  value : Nat
  answer : Bool
  late : Bool
deriving DecidableEq, Repr

/-- The latest tick at or before a frame's tick with these low bits (R228). -/
def tickOf8 (f t8 : Nat) : Nat := f - (f + 256 - t8 % 256) % 256

/-- The samples of a SAMPLES cell in a frame of tick f. -/
def samplesOf (f : Nat) (c : List Byte) : List NodeSample :=
  ([2, 8, 14].map (fun k => cellField c k 6)).filterMap (fun x =>
    if hasBit x 40 then
      some ⟨x / 2 ^ 41, tickOf8 f (x / 2 ^ 32 % 256), x / 2 ^ 25 % 128, x / 2 ^ 8 % 2 ^ 16, hasBit x 0, hasBit x 1⟩
    else none)

/-- A valid cell: ownership under the UPMAP that the nodes have, recording, SEQ and node status. A cell out of turn is recorded in any case
(R216). -/
def State.cell (s : State) (n : Nat) (endB : Bool) (f : Nat) (c : List Byte) : State :=
  let b := fun k => (c.getD k 0).toNat
  let kind := b 0 / 64
  let node := b 0 % 64
  if kind = 0 then s
  else
    let p := page .lnk n
    let stray := s.lnkState n == 6 && (s.link n).upmap.get (fun _ => 0x40) (f % 64) != node
    let s := if stray then s.err p else s
    let (en, cls) := match kind with
      | 1 => (s.bit (Reg.LNK.REC_CFG.STAT_EN n), s.get (Reg.LNK.REC_CFG.STAT_CLS n))
      | 2 => (s.bit (Reg.LNK.REC_CFG.SMP_EN n), s.get (Reg.LNK.REC_CFG.SMP_CLS n))
      | _ => (s.bit (Reg.LNK.REC_CFG.NDEF_EN n), s.get (Reg.LNK.REC_CFG.NDEF_CLS n))
    let s := if en || stray then
        s.cart 0x06 cls (st0 f) 63
          (quad [(60, 4, n), (59, 1, if endB then 1 else 0), (48, 8, f % 256)] :: leQuads c 3)
      else s
    let x := (s.link n).nodes.get (fun _ => LNode.reset) node
    let gap := match x.seq with
      | some q => b 1 != (q + 1) % 256
      | none => false
    let s := if gap then (s.bump (Reg.LNK.SEQ_GAP_CNT.COUNT n)).raise p 9 else s
    let x := { x with seq := some (b 1), nstate := if kind = 1 then (statusBody c).nstate else x.nstate,
                       faults := if kind = 1 then (statusBody c).faults else x.faults }
    let s := s.onLnk n (fun l => { l with nodes := l.nodes.set (fun _ => LNode.reset) node x })
    s.raiseIf (kind == 1 && ((statusBody c).faults != 0 || (statusBody c).nstate == 4)) p 10

/-- An UP frame is due at a receiver: `age` ticks before now it was the frame's tick. It waits for the work it is admitted to (R228). -/
def State.upFrame (s : State) (n : Nat) (endB : Bool) (age : Nat) (f : UpFrame) : State :=
  if s.lnkState n = 0 then s else s.onLnk n (fun l => { l with inbox := l.inbox ++ [⟨endB, s.tick - age, f⟩] })

/-- An UP frame in the work that it is admitted to. -/
def State.upWork (s : State) (n : Nat) (w : UpWait) : State :=
  if s.lnkState n = 0 then s
  else
    match w.frame with
    | .missing => s.badFrame n w.endB false w.tick
    | .received l =>
      (match cellOf l with
       | none => s.badFrame n w.endB true w.tick
       | some c => s.cell n w.endB w.tick c)

/-- Record: the UP frames received in the tick before, link by link. -/
def State.upFramesWork (s : State) : State :=
  s.forEach (s.lnk.map (fun e => e.1)) (fun s n =>
    (s.onLnk n (fun l => { l with inbox := [] })).forEach (s.link n).inbox (fun s w => s.upWork n w))

/-! ### Commands of the links -/

/-- BRINGUP (R214): CMD = BRINGUP at its commit tick. -/
def execBringup (l : LinkNo) (s : State) : Host.Outcome State Fault Refusal := run s (s.when s.scanning (fun s => s.bringup l))

/-- LINK_STOP (R214). -/
def execLinkStop (l : LinkNo) (s : State) : Host.Outcome State Fault Refusal := run s (s.when s.scanning (fun s => s.linkStop l))

/-- MGMT_TX (R223). -/
def execMgmtTx (l : LinkNo) (s : State) : Host.Outcome State Fault Refusal := run s (s.when s.scanning (fun s => s.mgmtTx l))

/-- SREQ_PROMOTE (R220). -/
def execSreqPromote (l : LinkNo) (s : State) : Host.Outcome State Fault Refusal := run s (s.promote l)

/-- UP_FRAME_RECEIVE (R228). -/
def execUpFrameReceive (l : LinkNo) (endB : Bool) (age : Fin 256) (f : UpFrame) (s : State) : Host.Outcome State Fault Refusal :=
  run s (s.upFrame l endB age f)

/-- CABLE_BREAK (R224). -/
def execCableBreak (l : LinkNo) (b : BreakFinding) (s : State) : Host.Outcome State Fault Refusal :=
  run s (s.cableBreak l b.beyond.toNat b.sign)

/-- HEAL (R227). -/
def execHeal (l : LinkNo) (s : State) : Host.Outcome State Fault Refusal := run s (s.heal l)

/-- BRINGUP_END (R214): the step in progress ends, CONFIG as the last; each step that fails ends the bring-up. -/
def execBringupEnd (l : LinkNo) (f : BringupFinding) (s : State) : Host.Outcome State Fault Refusal := run s (s.bringupStep l f)

end Sys2Proof.Machine
end

