-- ==== Sys2Proof/Machine/Device.lean ====
section
/-! DEFINITION. The device-wide shutter and safe levels (R204, R385). -/

namespace Sys2Proof.Machine

/-- The device states of Table 14-1 row 2. -/
def State.shutFrom (s : State) : Bool :=
  s.devState == 3 || s.devState == 4 || s.devState == 5 || s.devState == 7 || s.devState == 8

/-- Cause code of event carts for a device-wide shutter (Table 10-4), by its fault cause. -/
def devCartCause (fc : Nat) : Nat := if fc = 0x22 then 16 else if fc = 0x25 then 17 else if fc = 0x23 then 18 else 19

/-- PRF STAT.LOAD_CAUSE of a device-wide shutter. -/
def devLoadCause (fc : Nat) : Nat := if fc = 0x22 then 8 else 9

/-- Block code of the function a device-wide shutter is reported for. -/
def devBlock (fc : Nat) : Nat := if fc = 0x22 then 0x02 else if fc = 0x23 then 0x03 else 0x05

/-- A local output or event line goes to its safe level at an instant: edges decided for it from then on do not happen. The gate
of a drive channel is the stage's own. -/
def State.goSafe (s : State) (a t : Nat) : State :=
  if epIsDrive a then s.onEp a (fun e => { e with demands := [], points := [], level := s.safePin a }) else
  let gone := s.edges.filter (fun e => e.ep == a && decide (t ≤ e.t))
  let was := match gone.getLast? with
    | some e => !e.level
    | none => (s.ep a).level
  let safe := s.safePin a
  let s := { s with edges := s.edges.filter (fun e => !(e.ep == a && decide (t ≤ e.t))) }
  let s := s.onEp a (fun e => { e with demands := [], points := [], level := safe })
  if was = safe then s else s.edge a t safe

/-- A waiting cart of a pass at the shutter: an edge still to come does not happen; an end still to come is at t. -/
def DueCart.shutAt (d : DueCart) (t cause : Nat) : DueCart :=
  let d := { d with flags := orFlags d.flags fCut, cause := lowestCause d.cause cause }
  if d.edge = 1 ∧ d.start < t then { d with at_ := t, resEnd := d.resEnd - BitVec.ofNat 32 (d.at_ - t) }
  else d.missed t 0

/-- The passes of one slot end at the shutter. -/
def State.shutPass (s : State) (h t cause : Nat) : State :=
  match (s.slot h).pass with
  | none => s
  | some p =>
    let ep := targetEp p.target
    let s := { s with dueCarts := s.dueCarts.filter (fun (d : DueCart) => !(d.handle == h && decide (t ≤ d.at_) && !d.final && !d.user)) }
    let s := s.passOver h
    if epIsDrive ep && targetAction p.target == 1 then s
    else
      let q := { p with flags := orFlags p.flags fCut, cause := lowestCause p.cause cause }
      if p.s < t then s.due (finalCart h 1 t q) else s.due ((cartOf h 3 t q).missed t 0)

/-- Passes, events and endpoints at a device-wide shutter that takes effect at instant t. -/
def State.endAll (s : State) (t cause : Nat) : State :=
  let s := s.forEach (s.drv.map (fun e => e.1)) (fun s n => s.driveHold n t cause)
  let late := s.dueCarts.filter (fun (d : DueCart) => decide (t ≤ d.at_) && d.final)
  let s := { s with dueCarts := s.dueCarts.filter (fun (d : DueCart) => !(decide (t ≤ d.at_) && (d.final || d.user))) }
  let s := s.forEach late (fun s d => s.due (d.shutAt t cause))
  let s := s.forEach ((s.slots.filter (fun e => e.2.pass.isSome)).map (fun e => e.1)) (fun s h => s.shutPass h t cause)
  let s := { s with dueActs := s.dueActs.filter (fun (d : DueAct) => decide (d.at_ < t)) }
  s.forEach s.liveEndpoints (fun s a =>
    if epIsLink a then s.onEp a (fun e => { e with demands := [], points := [] }) else s.goSafe a t)

/-- Every cart and report that waits is generated now: the record path keeps running, scheduling work does not. -/
def State.emitAll (s : State) : State :=
  let s := s.forEach s.dueCarts (fun s d => s.emitCart d)
  let s := { s with dueCarts := [] }
  s.forEach (s.drv.map (fun e => e.1)) (fun s n =>
    let d := s.drive n
    let s := s.setDrv n { d with started := [], ended := [] }
    let s := s.forEach d.started (fun s x => s.reportStart x.2.1 x.2.2)
    s.forEach d.ended (fun s e => s.reportEnd n e))

/-- A cause of R385 is logged, raised and marked (R32, R51). DEV_FAULT shows the cause by which the device entered SHUTTERED, not one
that comes while it is there (DEDUCED, log entry 62). -/
def State.deviceCause (s : State) (fc t : Nat) (entry : Bool) : State :=
  let s := if entry ∨ !s.bit Reg.FLT.DEV_FAULT.DEV_SHUT then
      (s.put Reg.FLT.DEV_FAULT.CAUSE fc).put Reg.FLT.DEV_FAULT.DEV_SHUT 1
    else s
  let s := (s.raise (page .flt 0) 2).logFault fc (devBlock fc) 0 aDevice 0
  s.faultMarker fc (devBlock fc) 0 aDevice none 0 (t / 128) 63

/-- The device-wide shutter for a fault cause, with its outputs ended at instant t (R385, Table 14-1 row 2). In SHUTTERED already,
the fault is still reported. -/
def State.deviceShut (s : State) (fc t : Nat) : State :=
  if s.devState = 6 then s.deviceCause fc t false
  else if !s.shutFrom then s
  else
    let was := s.devState
    let s := ((s.setDevState 6).put Reg.PRF.STAT.LOAD_CAUSE (devLoadCause fc)).deviceCause fc t true
    let s := if was = 8 then (s.endAll t (devCartCause fc)).emitAll else s
    (s.put Reg.PRF.STAT.STOPPING 0).linksFollow

/-- DEVICE_HOST_SHUTTER (R385): a commit of FLT PG_SHUTTER.SHUT = 1. -/
def State.hostShutDevice (s : State) (t : Nat) : State :=
  let was := s.bit (Reg.HEAD.PG_SHUTTER.SHUT (page .flt 0))
  let s := s.put (Reg.HEAD.PG_SHUTTER.SHUT (page .flt 0)) 1
  if was && s.devState == 6 then s else s.deviceShut 0x26 t

/-- DEVICE_HOST_SHUTTER (R385): outputs end at the next boundary. -/
def execDeviceHostShutter (s : State) : Host.Outcome State Fault Refusal :=
  run s (s.when s.shutFrom (fun s => s.hostShutDevice (st0 (s.tick + 1))))

/-- VCORE_OK was sampled low at the boundary of the current tick, outside a transition (R72, R385). In SHUTTERED the fault is one that
was not there at the boundary before (`was`). -/
def State.supplyFault (s : State) (was : Bool) : State :=
  s.when (s.bit Reg.FLT.DEV_FAULT.SUPPLY_LOW && s.clk.dvfs.isNone && !(was && s.devState == 6)) (fun s => s.deviceShut 0x23 s.now)

/-- SUPPLY_FAULT (R72, R385): in SHUTTERED the boundary itself has reported it. -/
def execSupplyFault (s : State) : Host.Outcome State Fault Refusal := run s (s.supplyFault true)

/-- The I/O ring drives every gate and LOC.Q low and every LOC.G to its safe level, and holds them so until reset (R386). -/
def State.ringSafe (s : State) : State :=
  let t := st0 (s.tick + 1)
  let s := s.forEach (s.drv.map (fun e => e.1)) (fun s n => s.gateLow n t)
  let s := s.forEach (s.liveEndpoints.filter (fun a => epIsQ a || epIsG a)) (fun s a => s.goSafe a t)
  { s with flt := { s.flt with ioSafe := true } }

/-- CORE_ALIVE_TIMEOUT (R386). -/
def execCoreAliveTimeout (s : State) : Host.Outcome State Fault Refusal := run s s.ringSafe

end Sys2Proof.Machine
end

