-- ==== Sys2Proof/Machine/Clock.lean ====
section
/-! DEFINITION. References, PLLs, failover, host time, SLOWCLK and the DVFS sequencer (R39 to R75, R384). -/

namespace Sys2Proof.Machine

/-- The main domain is powered and out of reset (Table 14-1). -/
def State.clockOn (s : State) : Bool := decide (3 ≤ s.devState)

/-! ### References (R39 to R43) -/

/-- REF_STAT state of door d: 0 ABSENT, 1 COUNTING, 2 QUALIFIED, 3 SPREAD, 4 FAILED, 5 XCHK_FAIL. -/
def State.refState (s : State) (d : Nat) : Nat := s.get Reg.CLK.REF_STAT.STATES / 16 ^ d % 16

/-- A door's reference changes state; REF_CHANGE is raised (Table 2-6). -/
def State.setRef (s : State) (d v : Nat) : State :=
  if s.refState d = v then s
  else
    let f := Reg.CLK.REF_STAT.STATES
    (s.put f (s.get f - s.refState d * 16 ^ d + v * 16 ^ d)).raise (page .clk 0) 0

/-- Bit d of TREF_EN. -/
def State.trefEn (s : State) (d : Nat) : Bool := hasBit (s.get Reg.CLK.REF_CFG.TREF_EN) d

/-- The doors in REF_CFG.PRIO order. -/
def State.prio (s : State) : List Nat := (List.range 4).map (fun k => s.get Reg.CLK.REF_CFG.PRIO / 4 ^ k % 4)

/-- Door d's reference is QUALIFIED. -/
def State.qualified (s : State) (d : Nat) : Bool := s.refState d == 2

/-- The tolerance of a cross-check in ppm. -/
def State.chkTol (s : State) : Nat := s.get Reg.CLK.REF_CFG.CHK_TOL * 10

/-! ### Core PLLs (R44 to R47): 0 is PLL A, 1 is PLL B -/

/-- The number of a PLL. -/
def pllNum : Pll → Nat
  | .a => 0
  | .b => 1

/-- State of a PLL: 0 IDLE, 1 LOCKING, 2 LOCKED, 3 UNLOCKED. -/
def State.pllState (s : State) (p : Nat) : Nat :=
  if p = 0 then s.get Reg.CLK.PLL_STAT.A_STATE else s.get Reg.CLK.PLL_STAT.B_STATE

/-- Changes the state of a PLL. -/
def State.setPll (s : State) (p v : Nat) : State :=
  if p = 0 then s.put Reg.CLK.PLL_STAT.A_STATE v else s.put Reg.CLK.PLL_STAT.B_STATE v

/-- The door of a PLL. -/
def State.pllDoor (s : State) (p : Nat) : Nat :=
  if p = 0 then s.get Reg.CLK.PLL_STAT.A_DOOR else s.get Reg.CLK.PLL_STAT.B_DOOR

/-- Gives a PLL its door. -/
def State.setPllDoor (s : State) (p d : Nat) : State :=
  if p = 0 then s.put Reg.CLK.PLL_STAT.A_DOOR d else s.put Reg.CLK.PLL_STAT.B_DOOR d

/-- A PLL locks or is locked to a door. -/
def State.pllUses (s : State) (p d : Nat) : Bool := (s.pllState p == 1 || s.pllState p == 2) && s.pllDoor p == d

/-- The selected PLL. -/
def State.pllSel (s : State) : Nat := s.get Reg.CLK.PLL_STAT.SEL

/-- R46: a PLL without a reference takes the first QUALIFIED door in PRIO order that the other does not use; the selected
PLL of a running tick keeps its own. -/
def State.assignPll (s : State) (p : Nat) : State :=
  if s.pllState p = 1 ∨ s.pllState p = 2 ∨ (s.clk.running ∧ s.pllSel = p) then s
  else
    match s.prio.find? (fun d => s.qualified d && !s.pllUses (1 - p) d) with
    | some d => (s.setPllDoor p d).setPll p 1
    | none => s

/-- R44, R46: both PLLs, A first. -/
def State.assignPlls (s : State) : State := (s.assignPll 0).assignPll 1

/-- The switch of R48: the multiplexer moves to the other PLL. DESIGN CHOICE (log entry 21): the switch tick is the tick of the failing
event; R48 allows any within 2 µs of it. -/
def State.failover (s : State) : State :=
  let s := s.put Reg.CLK.PLL_STAT.SEL (1 - s.pllSel)
  let s := s.bump Reg.CLK.FAILOVER_CNT.COUNT
  let s := s.put64 Reg.CLK.LAST_FAILOVER_TICK_LO.TICK Reg.CLK.LAST_FAILOVER_TICK_HI.TICK s.tick
  ({ s with clk := { s.clk with failover := true } }).raise (page .clk 0) 1

/-- The loss of R51: the selected PLL coasts and the device enters SHUTTERED; outputs end at the next coasting boundary. -/
def State.timebaseLost (s : State) : State :=
  let s := ((s.put Reg.CLK.PLL_STAT.COAST 1).put Reg.CLK.PLL_STAT.TIMEBASE_LOST 1).put Reg.CLK.HT_STAT.HT_VALID 0
  let s := ({ s with clk := { s.clk with failover := false } }).raise (page .clk 0) 2
  s.deviceShut 0x22 (st0 (s.tick + 1))

/-- A LOCKED or LOCKING PLL loses its reference or faults, reported with a cause (Table 2-1, R384). -/
def State.pllLost (s : State) (p cause : Nat) : State :=
  let o := 1 - p
  let covered := decide (s.pllState o = 2) && !s.clk.failover
  let s := s.setPll p 3
  if s.clk.running ∧ s.pllSel = p ∧ !s.bit Reg.CLK.PLL_STAT.COAST then
    if covered then ((s.logFault cause 0x02 0 aAbsorbed 0).failover).assignPlls
    else ((s.logFault cause 0x02 0 aCounted 0).timebaseLost).assignPlls
  else (s.logFault cause 0x02 0 aAbsorbed 0).assignPlls

/-- A door's reference fails for timing: the PLL it drives loses it; REF_FAIL is logged in any case (Table 15-2). -/
def State.refLost (s : State) (d : Nat) : State :=
  match (List.range 2).find? (fun p => s.pllUses p d) with
  | some p => s.pllLost p 0x20
  | none => s.logFault 0x20 0x02 0 aAbsorbed 0

/-- A QUALIFIED reference leaves that state and is treated as FAILED. -/
def State.refFail (s : State) (d v : Nat) : State := (s.setRef d v).refLost d

/-- A candidate's count ends (R39, R40, R41): until then a FAILED or SPREAD door keeps that state (DESIGN CHOICE, log entry 22). `ppm` is its difference from another QUALIFIED reference, `dev` the largest
deviation of a spread window. -/
def State.qualify (s : State) (d ppm dev : Nat) : State :=
  if !s.clockOn ∨ !s.trefEn d ∨ s.qualified d ∨ s.refState d = 5 then s
  else if (List.range 4).any (fun o => o != d && s.qualified o) && decide (s.chkTol < ppm) then s.setRef d 5
  else if s.get Reg.CLK.REF_CFG.SSC_THR < dev then (s.setRef d 3).raise (page .clk 0) 3
  else (s.setRef d 2).assignPlls

/-- REF_QUALIFY_DONE (R39). -/
def execRefQualifyDone (d : DoorNo) (ppm : Nat) (dev : Nat) (s : State) : Host.Outcome State Fault Refusal :=
  run s (s.qualify d ppm dev)

/-- XCHK_RETRY (R40): a failed candidate counts again. -/
def execXchkRetry (d : DoorNo) (s : State) : Host.Outcome State Fault Refusal :=
  run s (s.when (s.clockOn && s.refState d == 5) (fun s => s.setRef d 1))

/-- SPREAD_CHECK_DONE (R41, R42): a reference judged SPREAD while in use is treated as FAILED. -/
def execSpreadCheckDone (d : DoorNo) (dev : Nat) (s : State) : Host.Outcome State Fault Refusal :=
  run s (s.when (s.clockOn && s.trefEn d && decide (s.get Reg.CLK.REF_CFG.SSC_THR < dev) && s.refState d != 3) (fun s =>
    if s.qualified d then (s.raise (page .clk 0) 3).refFail d 3 else (s.setRef d 3).raise (page .clk 0) 3))

/-- The doors among the QUALIFIED that disagree with every other one (R43). -/
def State.strangers (s : State) (ppm : Nat → Int) : List Nat :=
  let q := (List.range 4).filter (fun d => s.qualified d)
  q.filter (fun d => q.all (fun o => o == d || decide (s.chkTol < (ppm d - ppm o).natAbs)))

/-- XCHK_WINDOW (R43): the measured deviations of the four references. -/
def State.crossCheck (s : State) (ppm : Nat → Int) : State :=
  let n := ((List.range 4).filter (fun d => s.qualified d)).length
  match n, s.strangers ppm with
  | 2, _ :: _ => (s.put Reg.CLK.REF_STAT.XCHK_DISAGREE 1).raise (page .clk 0) 0
  | 3, [d] => s.refFail d 5
  | 4, [d] => s.refFail d 5
  | _, _ => s

/-- XCHK_WINDOW (R43). -/
def execXchkWindow (ppm0 ppm1 ppm2 ppm3 : Int) (s : State) : Host.Outcome State Fault Refusal :=
  run s (s.when s.clockOn (fun s => s.crossCheck (fun d => [ppm0, ppm1, ppm2, ppm3].getD d 0)))

/-- REF_MISSING_EDGE (R39, R42): a QUALIFIED reference fails; a count restarts. -/
def State.missingEdge (s : State) (d : Nat) : State :=
  if s.qualified d then s.refFail d 4 else if s.trefEn d && s.refState d == 0 then s.setRef d 1 else s

/-- REF_MISSING_EDGE (R42). -/
def execRefMissingEdge (d : DoorNo) (s : State) : Host.Outcome State Fault Refusal :=
  run s (s.when s.clockOn (fun s => s.missingEdge d))

/-- A PLL has counted 65 536 quiet reference cycles (R45, R46, R52): the first one is selected and the tick starts from it;
a coasting PLL hands over to it. The accumulator starts from 0 after a wake and a warm reset too, and the cycles of the filter clock are
counted from there (R80; DESIGN CHOICE for A, log entry 44: R53 states it for cold start). -/
def State.lock (s : State) (p : Nat) : State :=
  if s.pllState p ≠ 1 then s
  else
    let s := s.setPll p 2
    if !s.clk.running then
      let s := s.put Reg.CLK.PLL_STAT.SEL p
      let s := s.forEach (s.inp.map (fun e => e.1)) (fun s ch => s.onInp ch (fun c => { c with oldFilts := [] }))
      { s with clk := { s.clk with running := true, acc := 0, cyc := 0, cycles := (2 ^ 32 + s.stepSize - 1) / s.stepSize } }
    else if s.bit Reg.CLK.PLL_STAT.COAST ∧ s.pllSel ≠ p then
      let o := s.pllSel
      ((s.failover.put Reg.CLK.PLL_STAT.COAST 0).setPll o 3).assignPlls
    else s

/-- PLL_LOCKED (R45). -/
def execPllLocked (p : Pll) (s : State) : Host.Outcome State Fault Refusal :=
  run s (s.when s.clockOn (fun s => s.lock (pllNum p)))

/-- PLL_FAULT (R45, R384): a PLL that still locks starts its count again. -/
def execPllFault (p : Pll) (s : State) : Host.Outcome State Fault Refusal :=
  run s (s.when (s.clockOn && s.pllState (pllNum p) == 2) (fun s => s.pllLost (pllNum p) 0x21))

/-- FAILOVER_COMPLETE (R50): the boundary of the current tick lay before the end of the move. -/
def execFailoverComplete (s : State) : Host.Outcome State Fault Refusal :=
  run s (s.when s.clk.failover (fun s => { s with clk := { s.clk with failover := false, moved := some s.tick } }))

/-- The divider may change at the boundary of the current tick: no failover is under way or ended after that boundary (R50). -/
def State.mayDivide (s : State) : Bool := !s.clk.failover && s.clk.moved != some s.tick

/-- SEL_REQ (R47): selects the other PLL when that is LOCKED. -/
def State.selReq (s : State) : State :=
  if s.pllState (1 - s.pllSel) = 2 then s.put Reg.CLK.PLL_STAT.SEL (1 - s.pllSel) else s

/-! ### Host time (R59 to R64); the offset is an integer in units of 2^-16 ns -/

/-- Host time of tick n + st, in ns. -/
def State.hostNs (s : State) (n st : Nat) : Int := (s.clk.htOfs + (102400 * (n * 128 + st) : Nat)) / 65536

/-- HT_DELTA as committed. -/
def State.htDelta (s : State) : Int := signed 64 (s.get64 Reg.CLK.HT_DELTA_LO.DELTA Reg.CLK.HT_DELTA_HI.DELTA)

/-- An offset whose integer part fits in 64 bits. -/
def ofsFits (o : Int) : Bool := decide (-(2 ^ 63 : Int) ≤ o / 65536) && decide (o / 65536 < (2 ^ 63 : Int))

/-- The units of a slew still to apply, with their sign. -/
def Slew.rest (w : Slew) : Int := if w.negative then -(w.left : Int) else w.left

/-- A time-step marker cart (R60, R277): `old` is the offset before the change, `rate` the slew rate of a SLEW. -/
def State.timeStep (s : State) (cmd : Nat) (done : Bool) (abandoned : Option Int) (rate : Nat) (old delta : Int) : State :=
  s.cart 0x10 s.markerCls (st0 s.tick) 63
    [quad [(62, 2, cmd), (61, 1, if done then 1 else 0), (60, 1, s.get Reg.CLK.HT_STAT.HT_VALID),
        (59, 1, if abandoned.isSome then 1 else 0), (16, 12, rate)],
      BitVec.ofNat 64 (unsigned 64 (old / 65536)), BitVec.ofNat 64 (old % 65536).toNat, BitVec.ofNat 64 (unsigned 64 delta),
      BitVec.ofNat 64 (unsigned 64 (abandoned.getD 0))]

/-- Puts the slew and its SLEW_ACTIVE. -/
def State.setSlew (s : State) (w : Option Slew) : State :=
  ({ s with clk := { s.clk with slew := w } }).putBit Reg.CLK.HT_STAT.SLEW_ACTIVE w.isSome

/-- The adjustment of the slew in the current tick; the last one is owed to SLEW_DONE. -/
def State.slewStep (s : State) : State :=
  match s.clk.slew with
  | none => s
  | some w =>
    if w.last = some s.tick then s
    else if w.left ≤ w.rate then { s with clk := { s.clk with slew := some { w with due := true, last := some s.tick } } }
    else
      let d : Int := if w.negative then -(w.rate : Int) else w.rate
      { s with clk := { s.clk with
          htOfs := s.clk.htOfs + d, slew := some { w with left := w.left - w.rate, last := some s.tick } } }

/-- The last adjustment of the slew: its remainder, the second marker, HT_DONE (R61). -/
def State.slewDone (s : State) : State :=
  match s.clk.slew with
  | none => s
  | some w =>
    if !w.due then s
    else
      let old := s.clk.htOfs
      let s := ({ s with clk := { s.clk with htOfs := old + w.rest } }).setSlew none
      (s.timeStep 3 true none w.rate old w.delta).raise (page .clk 0) 4

/-- The offset that a command leads to: 1 SET, 2 STEP, 3 SLEW. -/
def State.htGoal (s : State) (cmd : Nat) : Int := if cmd = 1 then s.htDelta * 65536 else s.clk.htOfs + s.htDelta * 65536

/-- R62: a command out of range. -/
def State.htBad (s : State) (cmd : Nat) : Bool :=
  !ofsFits (s.htGoal cmd) || (decide (cmd = 3) && decide (2 ^ 31 - 1 < s.htDelta.natAbs))

/-- A host-time command at its commit tick (Table 2-2, R61 to R63). -/
def State.htCommand (s : State) (cmd : Nat) : State :=
  if cmd = 0 then s
  else if s.htBad cmd then (s.put Reg.CLK.HT_STAT.REFUSED 1).raise (page .clk 0) 5
  else
    let old := s.clk.htOfs
    let left := s.clk.slew.map Slew.rest
    let goal := s.htGoal cmd
    let s := s.setSlew none
    if cmd = 3 then
      let rate := s.get Reg.CLK.HT_CMD.SLEW_RATE
      let s := s.setSlew (some ⟨s.htDelta.natAbs * 65536, decide (s.htDelta < 0), rate, s.htDelta, false, none⟩)
      (s.timeStep 3 false left rate old s.htDelta).slewStep
    else
      let s := { s with clk := { s.clk with htOfs := goal } }
      let s := if cmd = 1 then s.put Reg.CLK.HT_STAT.HT_VALID 1 else s
      (s.timeStep cmd false left 0 old s.htDelta).raise (page .clk 0) 4

/-- HT_CMD as a row of the table: the command acts and CMD reads 0 after it. -/
def State.htRow (s : State) (cmd : Nat) : State :=
  s.when s.clockOn (fun s => (s.htCommand cmd).put Reg.CLK.HT_CMD.CMD 0)

/-- HT_SET (R60). -/
def execHtSet (s : State) : Host.Outcome State Fault Refusal := run s (s.htRow 1)

/-- HT_STEP (R60). -/
def execHtStep (s : State) : Host.Outcome State Fault Refusal := run s (s.htRow 2)

/-- HT_SLEW (R61). -/
def execHtSlew (s : State) : Host.Outcome State Fault Refusal := run s (s.htRow 3)

/-- SLEW_DONE (R61). -/
def execSlewDone (s : State) : Host.Outcome State Fault Refusal := run s s.slewDone

/-! ### SLOWCLK (R65 to R69) -/

/-- Door d's SLOWCLK toggles. -/
def State.slowRuns (s : State) (d : Nat) : Bool := s.clk.slowOk.getD d false

/-- The door selected for SLOWCLK: none in AUTO when none toggles. -/
def State.slowDoor (s : State) : Option Nat :=
  let k := s.get Reg.PWR.SLOW_CFG.SEL
  if k < 4 then some k else s.prio.find? (fun d => s.slowRuns d)

/-- SLOW_STAT follows the selection. -/
def State.slowFollow (s : State) : State :=
  match s.slowDoor with
  | some d => (s.putBit Reg.PWR.SLOW_STAT.VALID (s.slowRuns d)).put Reg.PWR.SLOW_STAT.DOOR d
  | none => s.put Reg.PWR.SLOW_STAT.VALID 0

/-- The always-on domain carries the tick counter: in STANDBY, and on the way out of it until a PLL locks (R67, R68). -/
def State.aonCounts (s : State) : Bool := s.devState == 1 || (s.power.waking && !s.clk.running)

/-- No SLOWCLK toggles while the always-on domain counts (R69). -/
def State.slowMissed (s : State) : State :=
  if s.aonCounts ∧ !s.bit Reg.PWR.SLOW_STAT.VALID then s.put Reg.PWR.SLOW_STAT.SLOW_LOST 1 else s

/-- A door's SLOWCLK starts or stops. SLOW_LOST is raised when the one in use stops; its flag is set when none toggles in
standby (R69). -/
def State.slowChange (s : State) (d : Nat) (on : Bool) : State :=
  if !s.power.aonOn then s
  else
    let inUse := s.bit Reg.PWR.SLOW_STAT.VALID && s.get Reg.PWR.SLOW_STAT.DOOR == d
    let s := ({ s with clk := { s.clk with slowOk := s.clk.slowOk.set d on } }).slowFollow
    (s.raiseIf (inUse && !on && s.clockOn) (page .pwr 0) 3).slowMissed

/-- SLOWCLK_LOST (R65). -/
def execSlowclkLost (d : DoorNo) (s : State) : Host.Outcome State Fault Refusal := run s (s.slowChange d false)

/-- SLOWCLK_RETURN (R65). -/
def execSlowclkReturn (d : DoorNo) (s : State) : Host.Outcome State Fault Refusal := run s (s.slowChange d true)

/-! ### DVFS (R70 to R74) -/

/-- VID code of a level. -/
def State.vidOf (s : State) (l : Nat) : Nat :=
  if l = 0 then s.get Reg.PWR.VID_MAP.P0_VID else if l = 1 then s.get Reg.PWR.VID_MAP.P1_VID else s.get Reg.PWR.VID_MAP.P2_VID

/-- Drives VID to the code of a level. -/
def State.driveVid (s : State) (l : Nat) : State := s.put Reg.PWR.VCORE_STAT.VID_OUT (s.vidOf l)

/-- Puts the transition and IN_PROGRESS. -/
def State.setDvfs (s : State) (d : Option Dvfs) : State :=
  ({ s with clk := { s.clk with dvfs := d } }).putBit Reg.PWR.DVFS_STAT.IN_PROGRESS d.isSome

/-- A step to a lower frequency is judged (R73, R74, R392). -/
def State.stepDown (s : State) (l door : Nat) : State :=
  if s.active kEvac then (s.put Reg.PWR.DVFS_STAT.RESULT 4).enqueue kDvfs l door
  else if !s.compactAt (levelLimit l) then (s.put Reg.PWR.DVFS_STAT.RESULT 1).raise (page .pwr 0) 1
  else (s.setDvfs (some ⟨l, s.level, s.tick, none, false⟩)).setActive kDvfs true

/-- A level asked for, by a write or by the ledger's release. -/
def State.dvfsAsk (s : State) (l door : Nat) : State :=
  if l = s.level then s
  else if l < s.level then (s.driveVid l).setDvfs (some ⟨l, s.level, s.tick, none, true⟩)
  else s.stepDown l door

/-- A write of DVFS_TARGET (R71, R74): ignored with BUSY while a transition runs or a step down is queued. -/
def State.dvfsWrite (s : State) (l door : Nat) : State :=
  if s.clk.dvfs.isSome ∨ (s.isQueued kDvfs ∧ s.level < l) then s.put Reg.PWR.DVFS_STAT.RESULT 2
  else (s.put Reg.PWR.DVFS_TARGET.LEVEL l).dvfsAsk l door

/-- VCORE_OK as sampled at the current boundary (R72, R395). -/
def State.sampleVcore (s : State) (ok : Bool) : State :=
  let s := { s with clk := { s.clk with vcoreOk := ok } }
  match s.clk.dvfs with
  | none => s.putBit Reg.FLT.DEV_FAULT.SUPPLY_LOW (!ok)
  | some d =>
    if ok ∧ d.up ∧ d.okAt.isNone ∧ s.tick ≤ d.writeTick + s.get Reg.PWR.DVFS_TIMING.V_TIMEOUT then
      { s with clk := { s.clk with dvfs := some { d with okAt := some s.tick } } }
    else s

/-- The divider has changed at the boundary of the current tick (R71 to R73). -/
def State.dvfsDone (s : State) (d : Dvfs) : State :=
  let s := (s.put Reg.PWR.DVFS_STAT.LEVEL d.target).setDvfs none
  let s := s.put64 Reg.PWR.DVFS_LAST_TICK_LO.TICK Reg.PWR.DVFS_LAST_TICK_HI.TICK s.tick
  let s := if d.up then (s.put Reg.PLC.STAT.HOLD_LVL 0).put Reg.PLC.STAT.HOLD_EN 0
    else (s.driveVid d.target).setActive kDvfs false
  (s.put Reg.PWR.DVFS_STAT.RESULT 0).raise (page .pwr 0) 0

/-- The divider changes when its wait is over and no failover is under way (R50, R72). -/
def State.dvfsSettle (s : State) : State :=
  match s.clk.dvfs with
  | some d =>
    match d.okAt with
    | some b => if b + s.get Reg.PWR.DVFS_TIMING.V_SETTLE ≤ s.tick ∧ s.mayDivide then s.dvfsDone d else s
    | none => s
  | none => s

/-- The divider changes at the boundary after an accepted step down (R50, R73). -/
def State.dvfsStepDown (s : State) : State :=
  match s.clk.dvfs with
  | some d => if !d.up ∧ d.writeTick < s.tick ∧ s.mayDivide then s.dvfsDone d else s
  | none => s

/-- VCORE_OK was sampled high at none of the V_TIMEOUT boundaries (R72). -/
def State.vcoreTimeout (s : State) : State :=
  match s.clk.dvfs with
  | some d =>
    if d.up ∧ d.okAt.isNone ∧ d.writeTick + s.get Reg.PWR.DVFS_TIMING.V_TIMEOUT ≤ s.tick then
      let s := (s.driveVid d.source).setDvfs none
      (s.put Reg.PWR.DVFS_STAT.RESULT 3).raise (page .pwr 0) 2
    else s
  | none => s

/-- DVFS_SETTLE_EXPIRY (R72). -/
def execDvfsSettleExpiry (s : State) : Host.Outcome State Fault Refusal := run s s.dvfsSettle

/-- VCORE_TIMEOUT (R72). -/
def execVcoreTimeout (s : State) : Host.Outcome State Fault Refusal := run s s.vcoreTimeout

/-- DVFS_STEP_DOWN (R73). -/
def execDvfsStepDown (s : State) : Host.Outcome State Fault Refusal := run s s.dvfsStepDown

/-! ### Clock outputs (R75) -/

/-- SSC_CFG after a write: an enabled output keeps its DEPTH and FREQ; a reserved DEPTH leaves its field as it was. -/
def State.sscWrite (s : State) (v : Word) : State :=
  let one := fun (s : State) (en depth freq : FieldRef) =>
    let was := s.bit en
    let dep := Word.bits v depth.hi depth.lo
    let s := if was ∨ 10 < dep then s else s.put depth dep
    let s := if was then s else s.put freq (Word.bits v freq.hi freq.lo)
    s.put en (Word.bits v en.hi en.lo)
  let s := one s Reg.CLK.SSC_CFG.EN0 Reg.CLK.SSC_CFG.DEPTH0 Reg.CLK.SSC_CFG.FREQ0
  one s Reg.CLK.SSC_CFG.EN1 Reg.CLK.SSC_CFG.DEPTH1 Reg.CLK.SSC_CFG.FREQ1

end Sys2Proof.Machine
end

