-- ==== Sys2Proof/Machine/Coaches.lean ====
section
/-! DEFINITION. Coaches: shutters, lost slots, ECC findings, disputes, fault domains, moves, re-creation, compaction and
evacuation (R178 to R197, R383). -/

namespace Sys2Proof.Machine

/-! ### Lost and single slots (R180, R181) -/

/-- The node actions that the discarded record of the current tick decided do not reach their queues; those of earlier ticks stand (R21,
R181). -/
def State.dropActions (s : State) (h : Nat) : State :=
  let keep := fun (c : LCmd) => c.handle != h || decide (c.action < 4) || decide (c.e < st0 (s.tick + (s.horizonOf c.ep).1))
  { s with lnk := s.lnk.map (fun (e : Nat × Lnk) =>
      (e.1, { e.2 with deadline := e.2.deadline.filter keep, sample := e.2.sample.filter keep })) }

/-- A slot is lost: its demands end at (n + h) + 0 st, its pass writes no result, the handle reads as a slot of TYPE NONE
with every field 0 (R181). -/
def State.loseSlot (s : State) (h cause inst data : Nat) : State :=
  let w := (s.slot h).wheel
  let done := s.dueCarts.filter (fun (d : DueCart) => d.handle == h && d.final && decide (d.at_ / 128 ≤ s.tick))
  let s := s.forEach done (fun s d => s.emitCart d)
  let keep := fun (d : DueCart) => d.handle != h || (!d.final && decide (d.at_ < st0 (s.tick + (s.horizonOf (targetEp d.target)).1)))
  let s := s.cutDemands h (fun ep => st0 (s.tick + (s.horizonOf ep).1))
  let s := s.dropActions h
  let s := { s with
    dueCarts := s.dueCarts.filter keep
    dueActs := s.dueActs.filter (fun (d : DueAct) => d.handle != h || decide (d.at_ < st0 (s.tick + 1)))
    drv := s.drv.map (fun (e : Nat × Drv) => (e.1, { e.2 with
      passes := e.2.passes.map (fun (p : DPass) => if p.handle = h then
        { p with dmin := 0, pass := { p.pass with kind := 0, te := some (max (st0 (s.tick + 1)) p.pass.sDem) } } else p) })) }
  let s := { s with
    fabric := { s.fabric with lost := s.fabric.lost.insert h (s.slot h) }
    commits := s.commits.map (fun (c : Commit) => if c.reserved.any (fun r => r.1 == h) then c else { c with void := h :: c.void }) }
  let s := s.setSlot h { Slot.reset with w := [0, 0, 0, 0, 0, 0, 0] }
  let s := { s with fabric := { s.fabric with
      carr := s.fabric.carr.filter (fun e => e.2.handle != h || (e.2.role == 0 && !s.isTarget e.1))
      moves := s.fabric.moves.filter (fun m => (s.carriage m.src).handle != h) } }
  let s := (((s.unwait h).bump Reg.SCN.LOST_SLOTS.COUNT).put Reg.SCN.STAT.LOST 1).put Reg.SCN.LAST_LOST.HANDLE h
  (s.raise (page .scn 0) 5).faultMarker cause 0x20 (inst % 256) aShuttered (some h) data s.tick w

/-- A slot that lost one twin goes on on the other, which becomes DRIVER (R180): a twin-loss marker, a twin to re-create. -/
def State.singleSlot (s : State) (h lost coachCause : Nat) : State :=
  match s.carriageWith h (fun r => r != 0) with
  | none => s
  | some (a, c) =>
    let s := s.setCarriage a { c with role := 1 }
    let s := { s with fabric := { s.fabric with recreate := insertNat h s.fabric.recreate } }
    let s := s.cart 0x14 s.markerCls s.now (s.slot h).wheel
      [quad [(47, 17, h), (44, 3, coachCause)], quad [(0, 18, lost), (32, 18, a), (50, 1, if c.role = 2 then 1 else 0)]]
    (s.raise (page .scn 0) 4).markTwin h

/-- The engine reserves a replacement for a reserved carriage whose coach went out of service (R188). -/
def State.rereserve (s : State) (c : Carriage) : State :=
  match s.placeOne 0 c.handle c.wheel true (s.domainsOf c.handle) with
  | some (s', _) => s'
  | none => s

/-- A slot waits for a twin and no entry meets R190 (R194). -/
def State.noTwin (s : State) : State := (s.put Reg.SCN.STAT.DEGRADED 1).raise (page .plc 0) 3

/-- A copy that starts: two update cycles at each end (R186). -/
def Move.start (src dst : Nat) (twin : Bool) : Move := ⟨src, dst, twin, 2, 2⟩

/-- The copy of a move is complete (R193). -/
def Move.copied (m : Move) : Bool := m.reads == 0 && m.writes == 0

/-- Domains where the destination of a move may not lie: those of the slot's other carriages; a new twin stays clear of the survivor
too. -/
def State.moveBar (s : State) (m : Move) : List Nat :=
  let h := (s.carriage m.src).handle
  (s.fabric.carr.filter (fun e => e.2.handle == h && e.1 != m.dst && (m.twin || e.1 != m.src))).map (fun e => domainOf (coachOf e.1))

/-- Another destination for a move, whose copy starts again; none where no entry meets R190. -/
def State.redirect (s : State) (m : Move) : Option State :=
  let c := s.carriage m.src
  let bar := s.moveBar m
  let s := { s with fabric := { s.fabric with
      moves := s.fabric.moves.filter (fun x => x.dst != m.dst), carr := s.fabric.carr.erase m.dst } }
  match s.placeOne 0 c.handle c.wheel true bar with
  | some (s', a) => some { s' with fabric := { s'.fabric with moves := s'.fabric.moves ++ [Move.start m.src a m.twin] } }
  | none => none

/-- A move that loses its destination restarts to another entry; one that loses its source is abandoned (R198). One that finds no entry
waits: a twin to be made again, or the request for its coach. -/
def State.replanMoves (s : State) (out : Nat → Bool) : State :=
  let gone := s.fabric.moves.filter (fun m => out (coachOf m.src))
  let redo := s.fabric.moves.filter (fun m => !out (coachOf m.src) && out (coachOf m.dst))
  let s := { s with fabric := { s.fabric with
      moves := s.fabric.moves.filter (fun m => !out (coachOf m.src))
      carr := s.fabric.carr.filter (fun e => !gone.any (fun m => m.dst == e.1)) } }
  s.forEach redo (fun s m =>
    match s.redirect m with
    | some s' => s'
    | none =>
      let s := { s with fabric := { s.fabric with
          moves := s.fabric.moves.filter (fun x => x.dst != m.dst), carr := s.fabric.carr.erase m.dst } }
      if m.twin then s.noTwin else s)

/-- PLC command ends with a result (R200): 0 DONE, 1 BUSY, 2 NO_ROOM, 4 BAD_ARG, 5 TEST_FAIL. -/
def State.plcEnd (s : State) (result : Nat) : State :=
  let p := page .plc 0
  let s := (s.put Reg.PLC.STAT.RESULT result).put Reg.PLC.STAT.STATE 0
  let s := if result = 0 then s.raise p 0 else s.raise p 1
  s.raiseIf (result == 2) p 3

/-- A shutter of coaches in one tick: with its COACH_STAT cause, its fault cause, instance and log data; a whole domain or one coach. -/
structure Fence where
  coaches : List Nat
  cause : Nat
  fc : Nat
  inst : Nat
  data : Nat
deriving DecidableEq, Repr

/-- The coaches of a shutter are out from now on, for the whole tick (R180). -/
def State.fenceMark (s : State) (f : Fence) : State :=
  let s := s.forEach f.coaches (fun s c =>
    s.setCoach c { Coach.reset with state := 4, cause := f.cause, ce := (s.coach c).ce, ceWin := (s.coach c).ceWin, ceWinAt := (s.coach c).ceWinAt })
  s.raiseIf (!f.coaches.isEmpty) (page .scn 0) 0

/-- The shutter of a fault domain: every coach of it in service (R383). `code` is the DOM_CAUSE code. -/
def State.domainFence (s : State) (d code : Nat) : State × List Fence :=
  if hasBit (s.get Reg.SCN.DOMAIN_SHUT.MASK) d then (s, [])
  else
    let cs := ((List.range 128).map (fun i => d * 128 + i)).filter (fun c => s.inService c)
    let fence : Fence := ⟨cs, 4, 0x12 + code, d, d⟩
    let s := (s.fenceMark fence).put Reg.SCN.DOMAIN_SHUT.MASK (setBit (s.get Reg.SCN.DOMAIN_SHUT.MASK) d true)
    let f := if d < 8 then Reg.FLT.DOM_CAUSE_LO.CAUSE else Reg.FLT.DOM_CAUSE_HI.CAUSE
    let s := s.put f (s.get f - nibble (s.get f) (d % 8) * 16 ^ (d % 8) + code * 16 ^ (d % 8))
    ((s.raise (page .flt 0) 6).raise (page .scn 0) 0, [fence])

/-- DOM_MULTI: four coaches of a domain shuttered for ECC_UE or SELF_CHECK within one window of 2^20 ticks (R383). -/
def State.countDomain (s : State) (c : Nat) : State × List Fence :=
  let d := domainOf c
  let win := s.tick / 2 ^ 20
  let w := if s.flt.domWinAt = win then s.flt.domWin else []
  let n := w.get (fun _ => 0) d + 1
  let s := { s with flt := { s.flt with domWin := w.set (fun _ => 0) d n, domWinAt := win } }
  if n = 4 then s.domainFence d 4 else (s, [])

/-- A coach is shuttered for ECC_UE or SELF_CHECK, and with it its domain when it is the fourth; nothing where it is out already. -/
def State.coachFence (s : State) (c cause fc data : Nat) : State × List Fence :=
  if !s.inService c then (s, [])
  else
    let f : Fence := ⟨[c], cause, fc, c, data⟩
    let r := (s.fenceMark f).countDomain c
    (r.1, f :: r.2)

/-- The shutter that took a coach out. -/
def fenceOf (fs : List Fence) (c : Nat) : Fence := (fs.find? (fun f => f.coaches.contains c)).getD ⟨[], 0, 0, 0, 0⟩

/-- The coaches shuttered in the current tick lose their carriages, together whatever found them: protected slots go on on their twins,
others are lost (R180, R181, R198); each shutter has its log entry, and its marker when a slot is lost with it (R379). -/
def State.settle (s : State) (fs : List Fence) : State :=
  if fs.isEmpty then s
  else
    let out := fun c => fs.any (fun f => f.coaches.contains c)
    let victims := s.fabric.carr.filter (fun e => out (coachOf e.1))
    let res := victims.filter (fun e => e.2.role == 0 && !s.isTarget e.1)
    let s := s.replanMoves out
    let s := { s with fabric := { s.fabric with carr := s.fabric.carr.filter (fun e => !out (coachOf e.1)) } }
    let s := if s.get Reg.PLC.STAT.STATE = 3 ∧ out (s.get Reg.PLC.STAT.ARG) then (s.plcEnd 2).setActive kEvac false else s
    let live := victims.filter (fun e => e.2.role != 0)
    let at_ := fun h => match live.find? (fun e => e.2.handle == h) with
      | some e => e.1
      | none => 0
    let r := (sortNat (live.map (fun e => e.2.handle))).foldl (fun (acc : State × List Nat) h =>
      let f := fenceOf fs (coachOf (at_ h))
      if acc.1.onFabric h then (acc.1.singleSlot h (at_ h) f.cause, acc.2)
      else (acc.1.loseSlot h f.fc (coachOf (at_ h)) f.data, acc.2 ++ [coachOf (at_ h)])) (s, [])
    let s := r.1.forEach fs (fun s f =>
      let lost := r.2.any (fun c => (fenceOf fs c) == f)
      let s := s.logFault f.fc 0x20 f.inst (if lost then aShuttered else aAbsorbed) f.data
      if lost then s.faultMarker f.fc 0x20 (f.inst % 256) aShuttered none f.data s.tick 63 else s)
    s.forEach res (fun s e => s.rereserve e.2)

/-- What a finding leaves is settled at once. -/
def settled (r : State × List Fence) : State := r.1.settle r.2

/-- A coach is shuttered by one finding. -/
def State.coachShutter (s : State) (c cause fc data : Nat) : State := settled (s.coachFence c cause fc data)

/-- A fault domain is shuttered by its monitor. -/
def State.domainShutter (s : State) (d code : Nat) : State := settled (s.domainFence d code)

/-! ### Evacuation, tests, compaction (R195, R196) -/

/-- The carriage at an entry has to leave it: a live one by a move, a reserved one by another reservation, the destination of a move by
another destination. None where no entry meets R190. -/
def State.planMove (s : State) (aim : Bool) (a : Nat) : Option State :=
  let c := s.carriage a
  match s.fabric.moves.find? (fun m => m.dst == a) with
  | some m => s.redirect m
  | none =>
    if s.fabric.moves.any (fun m => m.src == a && !m.twin) then some s
    else
      match s.placeWith aim 0 c.handle c.wheel true ((s.setCarriage a Carriage.empty).domainsOf c.handle) with
      | none => none
      | some (s', b) =>
        if c.role = 0 then some (s'.setCarriage a Carriage.empty)
        else some { s' with fabric := { s'.fabric with moves := s'.fabric.moves ++ [Move.start a b false] } }

/-- Plans the moves of many carriages; none when one of them finds no entry. -/
def State.planWith (s : State) (aim : Bool) : List Nat → Option State
  | [] => some s
  | a :: l =>
    match s.planMove aim a with
    | some s' => s'.planWith aim l
    | none => none

/-- Plans the moves of many carriages, under R191 where that can be. -/
def State.planMoves (s : State) (l : List Nat) : Option State :=
  match s.planWith true l with
  | some s' => some s'
  | none => s.planWith false l

/-- Plans the moves that find an entry; the others wait. -/
def State.planSome (s : State) (l : List Nat) : State :=
  match s.planMoves l with
  | some s' => s'
  | none => s.forEach l (fun s a => (s.planMove true a).getD s)

/-- The carriages that an evacuation or a compaction has to move. -/
def State.toMove (s : State) (leave : Nat → Bool) : List Nat := (s.fabric.carr.filter (fun e => leave e.1)).map (fun e => e.1)

/-- The moves out of a coach that have not switched are abandoned. -/
def State.dropMoves (s : State) (c : Nat) : State :=
  let gone := s.fabric.moves.filter (fun m => coachOf m.src == c && !m.twin)
  { s with fabric := { s.fabric with
      moves := s.fabric.moves.filter (fun m => !(coachOf m.src == c && !m.twin))
      carr := s.fabric.carr.filter (fun e => !gone.any (fun m => m.dst == e.1)) } }

/-- The carriages of coach c get their moves; where one finds no entry the evacuation ends with NO_ROOM, the moves made stand, and the
coach returns to ACTIVE (Table 6-3). -/
def State.evacPlan (s : State) (c : Nat) : State :=
  match s.planMoves (s.toMove (fun a => coachOf a == c)) with
  | some s' => s'
  | none => (((s.dropMoves c).setCoach c { s.coach c with state := 0, cause := 0 }).setActive kEvac false).plcEnd 2

/-- EVAC starts: the coach enters EVACUATING and its carriages are moved. -/
def State.startEvac (s : State) (c cause : Nat) : State :=
  let s := (s.put Reg.PLC.STAT.ARG c).put Reg.PLC.STAT.STATE 3
  ((s.setCoach c { s.coach c with state := 1, cause := cause, tested := false }).setActive kEvac true).evacPlan c

/-- An EVAC that the ledger releases is judged as if newly made (R392): its coach must still be ACTIVE. -/
def State.judgeEvac (s : State) (c cause : Nat) : State := if (s.coach c).state = 0 then s.startEvac c cause else s.plcEnd 4

/-- Work that an evacuation or a compaction in progress still has without a move, such as carriages whose destination was lost. DESIGN
CHOICE (log entry 33): a compaction waits where no entry is free; Table 6-3 gives NO_ROOM to an evacuation alone. -/
def State.replan (s : State) : State :=
  let arg := s.get Reg.PLC.STAT.ARG
  let state := s.get Reg.PLC.STAT.STATE
  if state = 3 then s.evacPlan arg
  else if state = 2 then s.planSome (s.toMove (fun a => decide (levelLimit arg ≤ a % 128)))
  else s

/-- EVAC is taken, or held back by the ledger while a step to a lower level is active (R391, R392). -/
def State.takeEvac (s : State) (c cause door : Nat) : State :=
  if s.active kDvfs then
    (((s.put Reg.PLC.STAT.ARG c).put Reg.PLC.STAT.STATE 5).put Reg.PLC.STAT.RESULT 3).enqueue kEvac (cause * 2048 + c) door
  else s.startEvac c cause

/-- Capacity of a domain below limit k: entries of coaches where carriages may be placed. -/
def State.domainRoom (s : State) (k d : Nat) : Nat := s.countCoaches (fun c => c.state == 0) d * k

/-- R190 with every slot that holds or has reserved carriages, below limit k. -/
def State.fitsAll (s : State) (k : Nat) : Bool :=
  let hs := sortNat (s.fabric.carr.map (fun e => e.2.handle))
  let n := (hs.filter (fun h => decide (2 ≤ (s.fabric.carr.filter (fun e => e.2.handle == h && !s.isTarget e.1)).length) || (s.slot h).prot)).length
  let u := hs.length - n
  let c := (List.range 16).map (fun d => s.domainRoom k d)
  decide (2 * n ≤ c.foldl (fun a x => a + min x n) 0) && decide (2 * n + u ≤ c.foldl (· + ·) 0)

/-- PLC CMD (R195, R196). -/
def State.plcCommand (s : State) (cmd arg door : Nat) : State :=
  let p := page .plc 0
  if cmd = 0 then s
  else if s.get Reg.PLC.STAT.STATE ≠ 0 then (s.put Reg.PLC.STAT.RESULT 1).raise p 1
  else
    let s := s.put Reg.PLC.STAT.ARG arg
    let c := s.coach arg
    match cmd with
    | 1 =>
      if 2 < arg then s.plcEnd 4
      else
        let k := levelLimit arg
        let down := decide (k < s.kLimit)
        if down && !s.fitsAll k then s.plcEnd 2
        else
          let s := if down then (s.put Reg.PLC.STAT.HOLD_LVL arg).put Reg.PLC.STAT.HOLD_EN 1 else s
          let s := if arg = 0 then (s.put Reg.PLC.STAT.HOLD_LVL 0).put Reg.PLC.STAT.HOLD_EN 0 else s
          (s.planSome (s.toMove (fun a => decide (k ≤ a % 128)))).put Reg.PLC.STAT.STATE 2
    | 2 => if 2047 < arg ∨ c.state ≠ 0 then s.plcEnd 4 else s.takeEvac arg 7 door
    | 3 =>
      if 2047 < arg then s.plcEnd 4
      else if c.state = 2 ∨ (c.state = 4 ∧ (c.cause = 2 ∨ c.cause = 3 ∨ c.cause = 5)) then
        (s.setCoach arg { c with state := 3 }).put Reg.PLC.STAT.STATE 4
      else s.plcEnd 4
    | 4 =>
      if 2047 < arg ∨ c.state ≠ 2 then s.plcEnd 4
      else if !c.tested then s.plcEnd 5
      else (s.setCoach arg { Coach.reset with ce := c.ce }).plcEnd 0
    | _ => s

/-! ### ECC (R183 to R185) -/

/-- A correctable error: the corrected word waits for the update port (R183); counted, and evacuation requested when the window's count reaches LIMIT. -/
def State.correctable (s : State) (c : Nat) : State :=
  let co := s.coach c
  let win := s.tick / 2 ^ s.get Reg.SCN.CE_LIMIT.WIN
  let n := if co.ceWinAt = win then co.ceWin + 1 else 1
  let s := s.setCoach c { co with ce := min (2 ^ 32 - 1) (co.ce + 1), ceWin := n, ceWinAt := win, fixes := co.fixes + 1 }
  let s := (s.bump Reg.SCN.CE_CNT.COUNT).raise (page .scn 0) 1
  let lim := s.get Reg.SCN.CE_LIMIT.LIMIT
  if lim ≠ 0 ∧ n = lim then
    let s := (s.raise (page .scn 0) 6).logFault 0x12 0x20 c aCounted 0
    { s with fabric := { s.fabric with evacReq := s.fabric.evacReq ++ [c] } }
  else s

/-- The entry whose payload and pass-state words coach c scrubs in the current tick: the next live one, from the highest to the lowest
(R184). -/
def State.scrubbed (s : State) (c : Nat) : Option Nat :=
  let live := (s.fabric.carr.filter (fun e => coachOf e.1 == c && e.2.role != 0)).map (fun e => e.1 % 128)
  match live.find? (fun e => decide ((s.coach c).scrub ≤ e)) with
  | some e => some e
  | none => live.head?

/-- Words of a carriage are read in the current tick: the match word of an entry below K (R172), the other words of a carriage that
matches (R175), that the scrub takes (R184) or that is being copied (R193). -/
def State.readable (s : State) (f : EccFinding) : Bool :=
  let a := f.coach.val * 128 + f.entry.val
  s.inService f.coach && decide (f.entry.val < s.kLimit) &&
    (f.word == .matchWord || ((s.carriage a).role != 0 && (s.matched (s.carriage a).handle ||
      s.scrubbed f.coach == some f.entry.val || s.fabric.moves.any (fun m => m.src == a))))

/-- All ECC findings of a tick: the corrected words, then the coaches that an uncorrectable one shutters. -/
def State.eccFindings (s : State) (l : List EccFinding) : State × List Fence :=
  let l := l.filter (fun f => s.readable f)
  let s := s.forEach (l.filter (fun f => !f.uncorrectable)) (fun s f => s.correctable f.coach)
  (l.filter (fun f => f.uncorrectable)).foldl (fun (acc : State × List Fence) f =>
    let s := ((acc.1.bump Reg.SCN.UE_CNT.COUNT).raise (page .scn 0) 2).err (page .scn 0)
    let r := s.coachFence f.coach 2 0x10 (f.coach.val + f.entry.val * 2 ^ 16)
    (r.1, acc.2 ++ r.2)) (s, [])

/-- Pending evacuation requests are taken when the engine is idle (R185). -/
def State.serveEvac (s : State) : State :=
  match s.fabric.evacReq with
  | [] => s
  | c :: l =>
    if s.get Reg.PLC.STAT.STATE ≠ 0 then s
    else
      let s := { s with fabric := { s.fabric with evacReq := l } }
      if (s.coach c).state = 0 then (s.put Reg.PLC.STAT.ARG c).takeEvac c 6 0 else s

/-! ### Disputes (R178, R179) -/

/-- What a tick's disputes have led to so far: the state, the shutters, how many the arbiter has judged. -/
abbrev Judged := State × List Fence × Nat

/-- One dispute. A coach shuttered in this tick has lost it already (R179). -/
def Judged.dispute (acc : Judged) (f : DisputeFinding) : Judged :=
  let (s, fs, judged) := acc
  let h := f.handle.val
  match s.carriageWith h (fun r => r == 1), s.carriageWith h (fun r => r == 2) with
  | some (a, _), some (b, _) =>
    let data := coachOf a + a % 128 * 2 ^ 16
    let lose := fun (s : State) => (s.loseSlot h 0x11 (coachOf a) data).logFault 0x11 0x20 (coachOf a) aShuttered data
    if !s.inService (coachOf a) ∨ !s.inService (coachOf b) then acc
    else if 16 ≤ judged then ((lose s).raise (page .scn 0) 7, fs, judged)
    else if !f.arbiterAgrees then (lose s, fs, judged)
    else
      let s := ((s.bump Reg.SCN.DISPUTE_CNT.COUNT).raise (page .scn 0) 3).err (page .scn 0)
      if !f.wordsAgree then (lose s, fs, judged + 1)
      else
        let shut := fun (r : State × List Fence) (x : Nat) =>
          let q := r.1.coachFence (coachOf x) 3 0x11 (coachOf x + x % 128 * 2 ^ 16)
          (q.1, r.2 ++ q.2)
        let r := if f.driverWrong then shut (s, fs) a else (s, fs)
        let r := if f.checkerWrong then shut r b else r
        (r.1, r.2, judged + 1)
  | _, _ => acc

/-- The disputes of a tick, in ascending handle order, after its ECC findings. -/
def disputes (r : State × List Fence) (l : List DisputeFinding) : State × List Fence :=
  let j := (sortBy (fun (f : DisputeFinding) => f.handle.val) l).foldl Judged.dispute (r.1, r.2, 0)
  (j.1, j.2.1)

/-! ### Moves and re-creation (R192 to R194) -/

/-- One move switches: the destination takes over its source's ROLE; a new twin joins as CHECKER (R193, R194). Other copies from the
source go on from the destination. -/
def State.switchMove (s : State) (tick : Nat) (m : Move) : State :=
  let c := s.carriage m.src
  if m.twin then
    (((s.setCarriage m.src { c with role := 1 }).setCarriage m.dst { c with role := 2, reserved := false })).unwait c.handle
  else
    let s := (s.setCarriage m.dst { c with reserved := false }).setCarriage m.src Carriage.empty
    { s with fabric := { s.fabric with
        left := s.fabric.left.insert m.src (tick, c)
        moves := s.fabric.moves.map (fun (x : Move) => if x.src = m.src then { x with src := m.dst } else x) } }

/-- The map switch at the start of a tick: a batch of at most 1 024 copies that are complete, re-creations first. -/
def State.mapSwitch (s : State) (tick : Nat) : State :=
  let ready := s.fabric.moves.filter (fun m => m.copied)
  let batch := (ready.filter (fun m => m.twin) ++ ready.filter (fun m => !m.twin)).take 1024
  if batch.isEmpty then s
  else
    let s := { s with fabric := { s.fabric with moves := s.fabric.moves.filter (fun m => !batch.contains m) } }
    let s := s.forEach batch (fun s m => s.switchMove tick m)
    (s.bump Reg.PLC.MAP_SWITCH_CNT.COUNT).put64 Reg.PLC.LAST_SWITCH_LO.TICK Reg.PLC.LAST_SWITCH_HI.TICK tick

/-- The source carriages of a switch tick that is over are EMPTY. -/
def State.sourcesGone (s : State) : State :=
  { s with fabric := { s.fabric with left := s.fabric.left.filter (fun e => decide (s.tick ≤ e.2.1)) } }

/-- The engine takes up one slot left single: it gets a new twin in a domain that holds none of its carriages, or stays single. -/
def State.recreateTwin (s : State) (h : Nat) : State :=
  match s.carriageWith h (fun r => r == 1) with
  | none => s
  | some (a, c) =>
    match s.placeOne 0 h c.wheel true (s.domainsOf h) with
    | some (s', b) => { s' with fabric := { s'.fabric with moves := s'.fabric.moves ++ [Move.start a b true] } }
    | none => s.noTwin

/-- The engine takes up the slots left single that have no copy under way, in ascending handle order (R194); DEGRADED says that one found
no entry. -/
def State.recreateTwins (s : State) : State :=
  let waiting := s.fabric.recreate.filter (fun h => !s.fabric.moves.any (fun m => m.twin && (s.carriage m.src).handle == h))
  (s.put Reg.SCN.STAT.DEGRADED 0).forEach waiting (fun s h => s.recreateTwin h)

/-! ### The update port (R184, R186, R187) -/

/-- Update cycles of a tick at one coach but the last, which is the scrub's. -/
def State.portRoom (s : State) : Nat :=
  (if s.level = 0 then 32 else if s.level = 1 then 24 else 16) - 1 - (if s.clk.cycles < 128 then 1 else 0)

/-- Cycles that other work than placement asks for. -/
def Coach.other (c : Coach) : Nat := c.fixes + c.queued + c.peeks

/-- Cycles of a tick that serve placement first: every fourth while it is promoted. -/
def Coach.quarter (c : Coach) (room : Nat) : Nat := if c.promoted then (c.turn + room) / 4 else 0

/-- Cycles of a tick that placement may take at a coach. -/
def Coach.budget (c : Coach) (room : Nat) : Nat := max (room - c.other) (c.quarter room)

/-- A copy takes cycles of its source's port, then of its destination's, which writes no word before it is read. `left` holds what the
coaches have left in the tick. -/
def Move.serve (m : Move) (left : Sparse Nat) : Move × Sparse Nat :=
  let a := coachOf m.src
  let b := coachOf m.dst
  let r := min m.reads (left.get (fun _ => 0) a)
  let left := left.set (fun _ => 0) a (left.get (fun _ => 0) a - r)
  let m := { m with reads := m.reads - r }
  let w := min (m.writes - m.reads) (left.get (fun _ => 0) b)
  ({ m with writes := m.writes - w }, left.set (fun _ => 0) b (left.get (fun _ => 0) b - w))

/-- The copies under way in their order: new twins first (R194). -/
def serveMoves (ms : List Move) (left : Sparse Nat) : List Move × Sparse Nat :=
  (ms.filter (fun m => m.twin) ++ ms.filter (fun m => !m.twin)).foldl (fun (acc : List Move × Sparse Nat) m =>
    let r := m.serve acc.2
    (acc.1 ++ [r.1], r.2)) ([], left)

/-- Copies that wait at coach c. -/
def waitsAt (ms : List Move) (c : Nat) : Bool :=
  ms.any (fun m => (coachOf m.src == c && m.reads != 0) || (coachOf m.dst == c && m.writes != 0))

/-- A coach after its update cycles of tick n, `used` of them taken by placement: corrected words first, then entries and peeks; placement
that waits on has waited since it was served last. -/
def Coach.served (c : Coach) (room used : Nat) (waits : Bool) (n : Nat) : Coach :=
  let r := room - min used (c.quarter room)
  let f := min c.fixes r
  let p := min c.peeks (r - f)
  { c with
    fixes := c.fixes - f
    peeks := c.peeks - p
    queued := c.queued - min c.queued (r - f - p)
    turn := if c.promoted && waits then (c.turn + room) % 4 else 0
    promoted := c.promoted && waits
    waitFrom := if !waits then none else if 0 < used then some n else c.waitFrom.or (some n) }

/-- The update ports of all coaches in the current tick, and their scrub. -/
def State.servePorts (s : State) : State :=
  let room := s.portRoom
  let cs := sortNat (s.fabric.carr.map (fun e => coachOf e.1) ++ s.fabric.moves.map (fun m => coachOf m.src) ++
    (s.fabric.coach.filter (fun e => 0 < e.2.other || e.2.waitFrom.isSome)).map (fun e => e.1))
  let budgets : Sparse Nat := cs.map (fun c => (c, (s.coach c).budget room))
  let r := serveMoves s.fabric.moves budgets
  let s := { s with fabric := { s.fabric with moves := r.1 } }
  s.forEach cs (fun s c =>
    let used := budgets.get (fun _ => 0) c - r.2.get (fun _ => 0) c
    let next := match s.scrubbed c with
      | some e => e + 1
      | none => 0
    s.setCoach c { (s.coach c).served room used (waitsAt r.1 c) s.tick with scrub := next })

/-- Placement work of a coach that has waited 4 096 ticks is promoted (R187). -/
def State.promoteWork (s : State) (c : Nat) : State :=
  match (s.coach c).waitFrom with
  | some t =>
    s.when (decide (t + 4096 ≤ s.tick) && !(s.coach c).promoted) (fun s =>
      ((s.setCoach c { s.coach c with promoted := true }).bump Reg.PLC.PROMOTE_CNT.COUNT).raise (page .plc 0) 5)
  | none => s

/-- Every coach whose placement work is starved. -/
def State.promoteAll (s : State) : State := s.forEach (s.fabric.coach.map (fun e => e.1)) (fun s c => s.promoteWork c)

/-! ### Commands of the fabric -/

/-- PLACEMENT_PROMOTE (R187). -/
def execPlacementPromote (c : CoachNo) (s : State) : Host.Outcome State Fault Refusal := run s (s.promoteWork c)

/-- TWIN_RECREATE (R194). -/
def execTwinRecreate (s : State) : Host.Outcome State Fault Refusal := run s s.recreateTwins

/-- COMPACT_DONE (R195): the moves of a compaction are complete. -/
def execCompactDone (s : State) : Host.Outcome State Fault Refusal :=
  run s (s.when (s.get Reg.PLC.STAT.STATE == 2 && s.compactAt (levelLimit (s.get Reg.PLC.STAT.ARG))) (fun s => s.plcEnd 0))

/-- EVAC_DONE (R196): the evacuated coach is empty and enters MAINT. -/
def execEvacDone (s : State) : Host.Outcome State Fault Refusal :=
  let c := s.get Reg.PLC.STAT.ARG
  run s (s.when (s.get Reg.PLC.STAT.STATE == 3 && s.fabric.carr.all (fun e => coachOf e.1 != c)) (fun s =>
    (((s.setCoach c { s.coach c with state := 2, tested := false }).raise (page .scn 0) 0).setActive kEvac false).plcEnd 0))

/-- TEST_DONE (R196). -/
def execTestDone (passed : Bool) (s : State) : Host.Outcome State Fault Refusal :=
  let c := s.get Reg.PLC.STAT.ARG
  run s (s.when (s.get Reg.PLC.STAT.STATE == 4) (fun s =>
    if passed then (s.setCoach c { s.coach c with state := 2, tested := true }).plcEnd 0
    else (s.setCoach c { s.coach c with state := 4, cause := 5, tested := false }).plcEnd 5))

/-- DOMAIN_MONITOR_TRIP (R383): in the tick in which the monitor trips. -/
def execDomainMonitorTrip (dom : Fin 16) (cause : DomCause) (s : State) : Host.Outcome State Fault Refusal :=
  run s (s.domainShutter dom (match cause with
    | .supply => 1
    | .clock => 2
    | .bcast => 3))

end Sys2Proof.Machine
end

