-- ==== Sys2Proof/Machine/Irq.lean ====
section
/-! DEFINITION. The interrupt controller: sensing, source states, moderation, delivery, claims, exits, sleep and standby
(R302 to R324). -/

namespace Sys2Proof.Machine

/-! ### Sources, lines and masks of doors -/

/-- A number names a slot source (Table 12-1). -/
def slotSource (k : Nat) : Bool := decide (0x3000 ≤ k ∧ k < 0x3100)

/-- A number names a source (R302). -/
def sourceExists (k : Nat) : Bool :=
  slotSource k ||
    (match pageOf (k / 32 * 0x1000) with
     | some (b, _) => decide (k % 32 < b.nsrc)
     | none => false)

/-- Bit d of a mask of doors is set or cleared. -/
def markDoor (m d : Nat) (v : Bool) : Nat := setBit m d v

/-- Page bits that are pending and enabled: PG_IRQ_STAT (R287). -/
def State.irqStat (s : State) (p : Nat) : Word := s.reg (p + 0x10) &&& s.reg (p + 0x14)

/-- The lines of every page at a boundary; a page without a pending bit is not listed. -/
def State.pageLines (s : State) : Sparse Word :=
  (s.regs.filter (fun e => decide (e.1 < 0x160000) && e.1 % 0x1000 == 0x10)).foldl
    (fun (m : Sparse Word) e => m.set (fun _ => 0) (e.1 / 0x1000) (s.irqStat (e.1 - 0x10))) []

/-- Slot edges with ACTION 6 of the current tick: edges counted by slot source (R303). -/
def State.slotPulses (s : State) : Sparse Nat :=
  (s.dueActs.filter (fun (d : DueAct) => d.action == 6 && d.at_ / 128 == s.tick)).foldl
    (fun (m : Sparse Nat) d => m.set (fun _ => 0) (d.param % 256) (m.get (fun _ => 0) (d.param % 256) + 1)) []

/-- The line of a source, among lines and slot edges seen at one boundary. -/
def lineIn (lines : Sparse Word) (pulses : Sparse Nat) (k : Nat) : Bool :=
  if slotSource k then decide (0 < pulses.get (fun _ => 0) (k - 0x3000))
  else hasBit (lines.get (fun _ => 0) (k / 32)).toNat (k % 32)

/-- The line of a source at the last boundary. -/
def State.irqLine (s : State) (k : Nat) : Bool := lineIn s.irq.lines s.irq.pulses k

/-- SENSE of a source: as set while it is IDLE, else as when it last entered HELD (R306). -/
def Src.sense (x : Src) : Nat := Word.bits (if x.state = 0 then x.cfg else x.held) 25 24
/-- EN. -/
def Src.en (x : Src) : Bool := Word.bits x.cfg 31 31 == 1
/-- TARGET, the doors a delivery goes to. -/
def Src.targets (x : Src) : Nat := Word.bits x.cfg 29 26
/-- PRIO of the delivery. -/
def Src.prio (x : Src) : Nat := Word.bits x.held 23 20
/-- GROUP of the delivery. -/
def Src.group (x : Src) : Nat := Word.bits x.held 15 10
/-- VECTOR of the delivery. -/
def Src.vector (x : Src) : Nat := Word.bits x.held 9 0

/-- The MSI-X table after a reset: every entry masked (PRESUMED, log entry 9). -/
def msixReset (i : Nat) : Word := if i % 4 = 3 then 1 else 0
/-- Dword i of door d's MSI-X table. -/
def Door.msixWord (x : Door) (i : Nat) : Word := x.msix.get msixReset i

/-- The source is masked for door d (R311): the last three conditions. PRIO is the one now set (Table 12-8). -/
def State.irqMasked (s : State) (k d : Nat) : Bool :=
  let x := s.src k
  Word.bits ((s.door d).msixWord (4 * x.vector + 3)) 0 0 == 1 || Word.bits x.cfg 30 30 == 1 ||
    decide (Word.bits x.cfg 23 20 < s.get (Reg.IRQD.THR.THR d))

/-- Door d can take messages (R311, first condition). -/
def State.irqOpen (s : State) (d : Nat) : Bool :=
  let x := s.door d
  s.get (Reg.DOR.DOOR_STAT.STATE d) == 1 && !x.sleeping && x.msixEn && !x.fmask

/-- Sources due to door d. -/
def State.dueTo (s : State) (d : Nat) : List Nat :=
  (s.irq.srcs.filter (fun (e : Nat × Src) => hasBit e.2.due d)).map (fun e => e.1)

/-- A sleeping door with a DUE source: PME_Status is set and, with PME_En, WAKE# asserted (R320). -/
def State.wakeCheck (s : State) (d : Nat) : State :=
  let x := s.door d
  if x.sleeping && !(s.dueTo d).isEmpty then s.setDoor d { x with pmeStat := true, wake := x.pmeEn } else s

/-- Every door's WAKE#. -/
def State.wakeChecks (s : State) : State := s.forEach [0, 1, 2, 3] (fun s d => s.wakeCheck d)

/-- A source becomes DUE for the doors of a mask at the current tick. -/
def State.markDue (s : State) (k mask : Nat) : State :=
  let x := s.src k
  let at_ := (List.range 4).map (fun d => if hasBit mask d && !hasBit x.due d then s.tick else x.dueAt.getD d 0)
  s.setSrc k { x with due := x.due ||| mask, dueAt := at_ }

/-- Doors that sleep, as a mask. -/
def State.sleepers (s : State) : Nat := ([0, 1, 2, 3].filter (fun d => (s.door d).sleeping)).foldl (fun m d => m + 2 ^ d) 0

/-! ### Groups (R308 to R310) -/

/-- MODE: COALESCE. -/
def Grp.coalesce (g : Grp) : Bool := Word.bits g.cfg 8 8 == 1
/-- HOLDOFF. -/
def Grp.holdoff (g : Grp) : Nat := Word.bits g.time 15 0
/-- TIME. -/
def Grp.span (g : Grp) : Nat := Word.bits g.time 31 16
/-- COUNT_THR. -/
def Grp.thr (g : Grp) : Nat := Word.bits g.cfg 7 0

/-- An event of a group in COALESCE mode at the current boundary. -/
def State.groupEvent (s : State) (g : Nat) : State :=
  let x := s.grp g
  if x.coalesce then s.setGrp g { x with events := x.events + 1, first := some (x.first.getD s.tick) } else s

/-- HELD sources of a group. -/
def State.heldOf (s : State) (g : Nat) : List Nat :=
  (s.irq.srcs.filter (fun (e : Nat × Src) => e.2.state == 1 && e.2.group == g)).map (fun e => e.1)

/-- Row 3: every HELD source of a group is released. -/
def State.releaseHeld (s : State) (g : Nat) : State :=
  (s.forEach (s.heldOf g) (fun s k =>
    let x := s.src k
    (s.setSrc k { x with state := 2 }).markDue k x.targets)).wakeChecks

/-- R308: a HOLDOFF group with a HELD source is released at a boundary b that is not before R_g. -/
def State.holdoffRelease (s : State) (g : Nat) : State :=
  let x := s.grp g
  if x.coalesce || (s.heldOf g).isEmpty || decide (s.tick < x.release) then s
  else (s.releaseHeld g).setGrp g { x with release := s.tick + x.holdoff }

/-- R309: a COALESCE group is released at its count or its time. -/
def State.coalesceRelease (s : State) (g : Nat) : State :=
  let x := s.grp g
  let late := match x.first with
    | some b => decide (b + x.span ≤ s.tick)
    | none => false
  if !x.coalesce || !(decide (x.thr ≤ x.events) || late) then s
  else (s.releaseHeld g).setGrp g { x with events := 0, first := none }

/-- R310: writes to a group take effect at a boundary; a change of MODE judges its HELD sources afresh, each as one event. -/
def State.groupApply (s : State) (g : Nat) : State :=
  let x := s.grp g
  let cfg := x.newCfg.getD x.cfg
  let y : Grp := { x with cfg := cfg, time := x.newTime.getD x.time, newCfg := none, newTime := none }
  if Word.bits cfg 8 8 = Word.bits x.cfg 8 8 then s.setGrp g y
  else
    let s := s.setGrp g { y with release := 0, events := 0, first := none }
    s.forEach (s.heldOf g) (fun s _ => s.groupEvent g)

/-! ### Source states (R307) -/

/-- Rows 1 and 7: the source enters HELD at the current boundary; a sleeping target is DUE at once (R320). -/
def State.enterHeld (s : State) (k count : Nat) : State :=
  let x := s.src k
  let y : Src := { x with state := 1, held := x.cfg, assert := s.tick, count := min 255 count, claimer := 0, repend := false }
  let s := s.setSrc k y
  let s := s.markDue k (y.targets &&& s.sleepers)
  (s.groupEvent y.group).wakeChecks

/-- Row 5: a HELD or SENT source is withdrawn; OUT is kept. -/
def State.withdraw (s : State) (k : Nat) : State :=
  let x := s.src k
  if x.state = 1 ∨ x.state = 2 then s.setSrc k { x with state := 0, due := 0, withdrawn := x.withdrawn ||| x.out }
  else s

/-- Rows 1, 2 and 6: an event that carries a count. -/
def State.srcEvent (s : State) (k n : Nat) : State :=
  let x := s.src k
  if !x.en then s
  else
    match x.state with
    | 0 => s.enterHeld k n
    | 3 => s.setSrc k { x with repend := true, count := min 255 (if x.repend then x.count + n else n) }
    | _ => (s.setSrc k { x with count := min 255 (x.count + n) }).groupEvent x.group

/-- Events of the boundary of an exit wait for it. -/
def State.srcCarry (s : State) (k n : Nat) : State :=
  let x := s.src k
  s.setSrc k { x with carry := x.carry + n }

/-- One source at a boundary: an event under R304, or a LEVEL line found low. An event at the boundary of its exit waits for
the exit, but where the door that holds the claim has left UP it brings the source back under row 7 (Table 12-8). -/
def State.senseSource (s : State) (k : Nat) (before now : Bool) (n : Nat) : State :=
  let x := s.src k
  let sense := x.sense
  let hit :=
    if slotSource k then now
    else if sense = 0 then now && (!before || x.fresh)
    else if sense = 1 then now && !before
    else if sense = 2 then !now && before
    else now != before
  let low := !slotSource k && sense == 0 && !now
  let s := if x.fresh then s.setSrc k { x with fresh := false } else s
  let s :=
    if !hit then s
    else if x.exitAt.isSome && s.get (Reg.DOR.DOOR_STAT.STATE x.claimer) == 1 then s.srcCarry k n
    else s.srcEvent k n
  if !low then s
  else if x.state = 3 then s.setSrc k { s.src k with repend := false }
  else s.withdraw k

/-- Rows 7 and 8: the exit of a CLAIMED source at its boundary, then the events of that boundary. A release of the group that is due
at the boundary comes first, as row 3 does in Table 12-4. -/
def State.srcExit (s : State) (k : Nat) : State :=
  let x := s.src k
  match x.exitAt with
  | none => s
  | some b =>
    if s.tick < b then s
    else
      let s := s.setSrc k { x with state := 0, exitAt := none, carry := 0, repend := false, claimer := 0 }
      let high := x.sense == 0 && !slotSource k && s.irqLine k
      if !x.en then s
      else if high || x.repend then
        let g := Word.bits x.cfg 15 10
        let s := (s.holdoffRelease g).coalesceRelease g
        let s := s.enterHeld k (if x.repend then x.count else 1)
        let y := s.grp g
        let s := if y.coalesce then s else s.setGrp g { y with release := max y.release (s.tick + y.holdoff) }
        if 0 < x.carry ∧ !high then s.srcEvent k x.carry else s
      else if 0 < x.carry then s.srcEvent k x.carry
      else s

/-- R303: the boundary of the current tick: group settings take effect, lines and slot edges are sampled, events are judged. -/
def State.irqSample (s : State) : State :=
  let s := s.forEach (s.irq.grps.filter (fun (e : Nat × Grp) => e.2.newCfg.isSome || e.2.newTime.isSome)) (fun s e => s.groupApply e.1)
  let lines := s.pageLines
  let pulses := s.slotPulses
  let was := s.irq
  let s := { s with irq := { s.irq with lines := lines, pulses := pulses } }
  s.forEach (was.srcs.map (fun e => e.1)) (fun s k =>
    s.senseSource k (lineIn was.lines was.pulses k) (lineIn lines pulses k) (if slotSource k then pulses.get (fun _ => 0) (k - 0x3000) else 1))

/-! ### Delivery (R311, R312) -/

/-- Order of the messages in a send queue. -/
def HostWrite.rank (m : HostWrite) : Nat := ((15 - m.prio) * 2 ^ 64 + m.due) * 2 ^ 14 + m.src

/-- A source due to door d is delivered when nothing masks it. A HELD source due to a door counts as released for that door
(R320). -/
def State.irqDeliver (s : State) (k d : Nat) : State :=
  let x := s.src k
  if !hasBit x.due d || hasBit x.out d || !(x.state == 1 || x.state == 2) || !s.irqOpen d || s.irqMasked k d then s
  else
    let v := x.vector
    let e := s.door d
    let m : HostWrite :=
      { addr := (e.msixWord (4 * v + 1)).toNat * 2 ^ 32 + (e.msixWord (4 * v)).toNat, data := wordBytes (e.msixWord (4 * v + 2)),
        prio := x.prio, due := x.dueAt.getD d 0, src := k }
    let s := s.setSrc k { x with
      due := markDoor x.due d false, out := markDoor x.out d true, msgVec := x.msgVec.set d v,
      claimedSince := markDoor x.claimedSince d false, withdrawn := markDoor x.withdrawn d false }
    s.setDoor d { e with sendq := insertBy HostWrite.rank m e.sendq }

/-- The messages of a send queue leave, in its order. -/
def State.sendMessages (s : State) (d : Nat) : State :=
  let x := s.door d
  if x.sendq.isEmpty then s
  else (s.setDoor d { x with sendq := [], hostWrites := x.hostWrites ++ x.sendq }).bump (Reg.IRQD.MSG_CNT.COUNT d) x.sendq.length

/-- What falls at a boundary and no command named: exits, releases, deliveries; the messages leave. -/
def State.irqClose (s : State) : State :=
  let s := s.forEach ((s.irq.srcs.filter (fun (e : Nat × Src) => e.2.exitAt.isSome)).map (fun e => e.1)) (fun s k => s.srcExit k)
  let held := (s.irq.srcs.filter (fun (e : Nat × Src) => e.2.state == 1)).map (fun e => e.2.group)
  let gs := sortNat (held ++ (s.irq.grps.filter (fun (e : Nat × Grp) => e.2.first.isSome)).map (fun e => e.1))
  let s := s.forEach gs (fun s g => (s.holdoffRelease g).coalesceRelease g)
  let s := s.forEach ((s.irq.srcs.filter (fun (e : Nat × Src) => decide (0 < e.2.due))).map (fun e => e.1)) (fun s k =>
    s.forEach [0, 1, 2, 3] (fun s d => s.irqDeliver k d))
  s.forEach [0, 1, 2, 3] (fun s d => s.sendMessages d)

/-! ### Claims (R314 to R316) and exits (R317) -/

/-- Entries of door d's claim ring. -/
def State.ringSize (s : State) (d : Nat) : Nat := 2 ^ (s.get (Reg.IRQD.RING_CFG.SIZE d) + 4)

/-- The ring is full. -/
def State.ringFull (s : State) (d : Nat) : Bool :=
  (s.get (Reg.IRQD.RING_PROD.PROD d) + 65536 - s.get (Reg.IRQD.RING_CONS.CONS d)) % 65536 == s.ringSize d

/-- The outstanding source a claim of vector v at door d takes: highest PRIO, then earliest ASSERT, then lowest number. -/
def State.claimPick (s : State) (d v : Nat) : Option Nat :=
  let l := s.irq.srcs.filter (fun (e : Nat × Src) => hasBit e.2.out d && e.2.msgVec.getD d 0 == v)
  (sortBy (fun (e : Nat × Src) => (15 - e.2.prio) * 2 ^ 64 + e.2.assert) l).head?.map (fun e => e.1)

/-- Table 12-5: the result of a claim of source k with vector v by door d. -/
def State.claimResult (s : State) (k d v : Nat) : Nat :=
  let x := s.src k
  if (x.state = 3 ∧ x.claimer ≠ d) ∨ (hasBit x.claimedSince d ∧ (x.state = 0 ∨ x.state = 1)) then 0x3FF
  else if hasBit x.withdrawn d ∨ x.state = 0 ∨ x.state = 3 then 0x3FE
  else if s.irqMasked k d then 0x3FD
  else v

/-- One entry is written into the claim ring (R315); after CONS broke its rule the ring's content is undefined. -/
def State.ringPost (s : State) (d result prio source count : Nat) (assertLo assertHi : Word) : State :=
  let prod := s.get (Reg.IRQD.RING_PROD.PROD d)
  let n := s.ringSize d
  let base := s.get (Reg.IRQD.RING_BASE_HI.ADDR d) * 2 ^ 32 + s.get (Reg.IRQD.RING_BASE_LO.ADDR d) * 4096
  let phase := 1 - prod / n % 2
  let w0 := BitVec.ofNat 32 (phase * 2 ^ 31 + count * 2 ^ 16 + result)
  let w1 := BitVec.ofNat 32 (prio * 2 ^ 28 + source)
  let made : State × List Word :=
    if (s.door d).ringJunk then
      let a := s.drawWord
      let b := a.2.drawWord
      let c := b.2.drawWord
      let e := c.2.drawWord
      (e.2, [a.1, b.1, c.1, e.1])
    else (s, [w0, w1, assertLo, assertHi])
  let s := made.1.onDoor d (fun x => { x with hostWrites := x.hostWrites ++
    [({ addr := base + 16 * (prod % n), data := made.2.flatMap wordBytes, prio := 0, due := s.tick, src := source } : HostWrite)] })
  let s := s.put (Reg.IRQD.RING_PROD.PROD d) ((prod + 1) % 65536)
  let s := (s.put (Reg.IRQD.LAST_CLAIM.SOURCE d) source).put (Reg.IRQD.LAST_CLAIM.RESULT d) result
  let s := s.bump (Reg.IRQD.CLAIM_CNT.COUNT d)
  if result = 0x3FF then s.bump (Reg.IRQD.LOST_CNT.COUNT d) else s

/-- What a claim's result does to the source. -/
def State.claimEffect (s : State) (k d result : Nat) : State :=
  let x := s.src k
  let y : Src := { x with out := markDoor x.out d false, claimedSince := markDoor x.claimedSince d false,
                          withdrawn := markDoor x.withdrawn d false }
  if result = 0x3FD then (s.setSrc k y).markDue k (2 ^ d)
  else if result < 0x3FC then
    s.setSrc k { y with state := 3, claimer := d, due := 0, repend := false, withdrawn := 0,
                        claimedSince := y.claimedSince ||| y.out }
  else s.setSrc k y

/-- A claim of vector v by door d, judged when it is served (R314). -/
def State.claim (s : State) (d v : Nat) : State :=
  if 0x3FC ≤ v then s
  else if s.get (Reg.IRQD.RING_CFG.EN d) = 0 then (s.bump (Reg.IRQD.DROP_CNT.COUNT d)).err (page .irqd d)
  else if s.ringFull d then
    (((s.bump (Reg.IRQD.DROP_CNT.COUNT d)).err (page .irqd d)).put (Reg.IRQD.DOOR_IRQ_STAT.RING_FULL d) 1).raise (page .irqd d) 0
  else
    match s.claimPick d v with
    | none =>
      let a := s.drawWord
      let b := a.2.drawWord
      let c := b.2.drawWord
      (c.2.ringPost d 0x3FE (c.1.toNat % 16) 0x3FFF 0 a.1 b.1).err (page .irq 0)
    | some k =>
      let x := s.src k
      let r := s.claimResult k d v
      (s.ringPost d r x.prio k (if r < 0x3FC then x.count else 0) (BitVec.ofNat 32 x.assert)
        (BitVec.ofNat 32 (x.assert / 2 ^ 32))).claimEffect k d r

/-- The exit of a source by door d applies at the next boundary, or is rejected (R317). -/
def State.eoi (s : State) (d k : Nat) : State :=
  let x := s.src k
  if x.state = 3 ∧ x.claimer = d then s.setSrc k { x with exitAt := some (x.exitAt.getD (s.tick + 1)) }
  else
    (((s.put (Reg.IRQD.DOOR_IRQ_STAT.EOI_ERR d) 1).raise (page .irqd d) 1).bump (Reg.IRQD.EOI_ERR_CNT.COUNT d)).err (page .irqd d)

/-! ### Settings (R305, R306, R310, R316) -/

/-- SRC_CFG of source k is written (R306): a reserved VECTOR, and for a slot source a SENSE that is not RISING, keep what was
there (R15). -/
def State.srcWrite (s : State) (k : Nat) (v : Word) : State :=
  if !sourceExists k then s
  else
    let x := s.src k
    let v := Word.withBits v 19 16 0
    let v := if 0x3FC ≤ Word.bits v 9 0 then Word.withBits v 9 0 (Word.bits x.cfg 9 0) else v
    let v := if slotSource k && Word.bits v 25 24 != 1 then Word.withBits v 25 24 (Word.bits x.cfg 25 24) else v
    let on := Word.bits v 31 31 == 1
    let t := Word.bits v 29 26
    let y : Src := { x with cfg := v, due := x.due &&& t, out := x.out &&& t, fresh := (x.fresh || !x.en) && on }
    let s := s.setSrc k y
    if x.en && !on then (s.setSrc k { y with repend := false }).withdraw k else s

/-- GRP_CFG or GRP_TIME of group g is written: it takes effect at the next boundary; 0 is reserved in COUNT_THR and TIME. -/
def State.grpWrite (s : State) (g : Nat) (time : Bool) (v : Word) : State :=
  let x := s.grp g
  if time then
    let was := x.newTime.getD x.time
    s.setGrp g { x with newTime := some (if Word.bits v 31 16 = 0 then Word.withBits v 31 16 (Word.bits was 31 16) else v) }
  else
    let was := x.newCfg.getD x.cfg
    let v := Word.withBits v 31 9 0
    s.setGrp g { x with newCfg := some (if Word.bits v 7 0 = 0 then Word.withBits v 7 0 (Word.bits was 7 0) else v) }

/-- RING_CFG is written with EN and SIZE (R316): SIZE stays while EN is 1; EN from 0 to 1 clears PROD and CONS. -/
def State.ringWrite (s : State) (d : Nat) (en : Bool) (size : Nat) : State :=
  let was := s.get (Reg.IRQD.RING_CFG.EN d) == 1
  let s := if was ∨ 8 < size then s else s.put (Reg.IRQD.RING_CFG.SIZE d) size
  let s := s.putBit (Reg.IRQD.RING_CFG.EN d) en
  if en && !was then
    ((s.put (Reg.IRQD.RING_PROD.PROD d) 0).put (Reg.IRQD.RING_CONS.CONS d) 0).onDoor d (fun x => { x with ringJunk := false })
  else s

/-- CONS is written: a value outside the range from its last value up to PROD leaves the ring's content undefined. -/
def State.consWrite (s : State) (d v : Nat) : State :=
  let prod := s.get (Reg.IRQD.RING_PROD.PROD d)
  let cons := s.get (Reg.IRQD.RING_CONS.CONS d)
  let ok := decide ((v + 65536 - cons) % 65536 ≤ (prod + 65536 - cons) % 65536)
  let s := s.put (Reg.IRQD.RING_CONS.CONS d) v
  if ok then s else s.onDoor d (fun x => { x with ringJunk := true })

/-! ### Doors that leave service or sleep, and standby (R319 to R321) -/

/-- Door d leaves UP: its claims exit at the next boundary, its OUT marks are cleared, messages not yet sent are not sent. -/
def State.irqLeave (s : State) (d : Nat) : State :=
  let s := s.forEach (s.irq.srcs.map (fun e => e.1)) (fun s k =>
    let x := s.src k
    let y : Src := { x with out := markDoor x.out d false, claimedSince := markDoor x.claimedSince d false,
                            withdrawn := markDoor x.withdrawn d false }
    s.setSrc k (if x.state = 3 ∧ x.claimer = d then { y with exitAt := some (x.exitAt.getD (s.tick + 1)) } else y))
  s.onDoor d (fun x => { x with sendq := [] })

/-- Door d enters UP from DOWN: its IRQD page and MSI-X table take their reset values (R319). -/
def State.irqdReset (s : State) (d : Nat) : State :=
  let p := page .irqd d
  let s := { s with regs := s.regs.filter (fun e => !decide (p ≤ e.1 ∧ e.1 < p + 0x1000)) }
  s.onDoor d (fun x => { x with msix := [], ringJunk := false })

/-- Door d enters D3hot: moderation is abandoned for it. -/
def State.irqSleep (s : State) (d : Nat) : State :=
  let s := s.onDoor d (fun x => { x with sleeping := true })
  (s.forEach (s.irq.srcs.map (fun e => e.1)) (fun s k =>
    let x := s.src k
    if x.state = 1 ∧ hasBit x.targets d then s.markDue k (2 ^ d) else s)).wakeCheck d

/-- Door d returns to D0. -/
def State.irqAwake (s : State) (d : Nat) : State := s.onDoor d (fun x => { x with sleeping := false, wake := false })

/-- Standby entry: every HELD source is DUE for each of its targets; WAKE# of every door with a DUE source (R321). -/
def State.irqStandby (s : State) : State :=
  let s := s.forEach (s.irq.srcs.map (fun e => e.1)) (fun s k =>
    let x := s.src k
    if x.state = 1 then s.markDue k x.targets else s)
  s.forEach [0, 1, 2, 3] (fun s d => if (s.dueTo d).isEmpty then s else s.onDoor d (fun x => { x with wake := true }))

/-- The first boundary after wake: group timers restart there (R321). -/
def State.irqRestart (s : State) : State :=
  s.forEach (s.irq.grps.map (fun e => e.1)) (fun s g =>
    let x := s.grp g
    s.setGrp g { x with release := if x.release = 0 then 0 else s.tick + x.holdoff, first := x.first.map (fun _ => s.tick) })

/-! ### Computed registers (R323, R324) -/

/-- SRC_STAT of source k. -/
def State.srcStat (s : State) (k : Nat) : Word :=
  if !sourceExists k then 0
  else
    let x := s.src k
    BitVec.ofNat 32 (x.state * 2 ^ 28 + (if x.state = 3 then x.claimer else 0) * 2 ^ 26 + (if s.irqLine k then 2 ^ 25 else 0) +
      (if x.repend then 2 ^ 24 else 0) + x.count % 256 * 2 ^ 16 + x.out % 16 * 2 ^ 12 + x.due % 16 * 2 ^ 8 + 1)

/-- GRP_STAT of group g. -/
def State.grpStat (s : State) (g : Nat) : Word :=
  let x := s.grp g
  let remain :=
    if x.coalesce then (match x.first with | some b => b + x.span - s.tick | none => 0)
    else if (s.heldOf g).isEmpty then 0 else x.release - s.tick
  BitVec.ofNat 32 (min 0xFFFF remain * 2 ^ 16 + min 255 x.events)

/-- PEND_CNT: sources that are not IDLE. -/
def State.pendCnt (s : State) : Word := BitVec.ofNat 32 (s.irq.srcs.filter (fun (e : Nat × Src) => e.2.state != 0)).length

/-- DOOR_IRQ_STAT of door d. -/
def State.doorIrqStat (s : State) (d : Nat) : Word :=
  let x := s.door d
  let w := s.reg (page .irqd d + 0x60)
  BitVec.ofNat 32 (min 4095 (s.dueTo d).length * 2 ^ 16 + Word.bits w 3 2 * 4 + (if x.wake then 2 else 0) + (if x.sleeping then 1 else 0))

/-- Dword i of door d's pending-bit array (R311): sources DUE only because they are masked. -/
def State.pbaWord (s : State) (d i : Nat) : Word :=
  if !s.irqOpen d then 0
  else
    BitVec.ofNat 32 ((sortNat ((s.irq.srcs.filter (fun (e : Nat × Src) =>
      hasBit e.2.due d && !hasBit e.2.out d && (e.2.state == 1 || e.2.state == 2) && e.2.vector / 32 == i && s.irqMasked e.1 d)).map
        (fun e => e.2.vector % 32))).foldl (fun m b => m + 2 ^ b) 0)

/-! ### The commands of the controller itself -/

/-- IRQ_GROUP_RELEASE (R308). -/
def execIrqGroupRelease (g : Fin 64) (s : State) : Host.Outcome State Fault Refusal :=
  run s (s.when s.clk.running (fun s => s.holdoffRelease g))

/-- IRQ_COALESCE_RELEASE (R309). -/
def execIrqCoalesceRelease (g : Fin 64) (s : State) : Host.Outcome State Fault Refusal :=
  run s (s.when s.clk.running (fun s => s.coalesceRelease g))

/-- IRQ_DELIVER (R311). -/
def execIrqDeliver (src : SrcNo) (d : DoorNo) (s : State) : Host.Outcome State Fault Refusal :=
  run s (s.when s.clk.running (fun s => s.irqDeliver src d))

/-- IRQ_EXIT (R307). -/
def execIrqExit (src : SrcNo) (s : State) : Host.Outcome State Fault Refusal :=
  run s (s.when s.clk.running (fun s => s.srcExit src))

end Sys2Proof.Machine
end

