-- ==== Sys2Proof/Machine/Inputs.lean ====
section
/-! DEFINITION. Input channels: filters and edge stamps, TOOTH, QUAD and PWD decoding, serial words, counters, delivery, the
latched pair, compare lists (R78 to R109). -/

namespace Sys2Proof.Machine

/-! ### Binding -/

/-- The tracker that takes its edges from a channel: the lowest enabled one that names it (R110). -/
def State.boundTo (s : State) (ch : Nat) : Option Nat :=
  (List.range 48).find? (fun n => s.bit (Reg.WHL.SYNC_CFG.EN n) && s.wSrc n == ch)

/-- The channel is of the wheel class. -/
def State.wheelClass (s : State) (ch : Nat) : Bool := !s.bit (Reg.INP.CFG.CLASS ch)

/-- The counter as software reads it. -/
def State.count (s : State) (ch : Nat) : Nat := s.get (Reg.INP.COUNT_NOW.COUNT ch)

/-- The soft limits of a stroke-class channel. -/
def State.softLimits (s : State) (ch : Nat) : Int × Int :=
  (signed 32 (s.get (Reg.INP.SOFT_LO.LIM ch)), signed 32 (s.get (Reg.INP.SOFT_HI.LIM ch)))

/-- LIM_LO or LIM_HI is set and LIMIT raised. -/
def State.limit (s : State) (ch : Nat) (hi : Bool) : State :=
  (s.put (if hi then Reg.INP.CH_STAT.LIM_HI ch else Reg.INP.CH_STAT.LIM_LO ch) 1).raise (page .inp ch) 1

/-- Puts the counter. -/
def State.setCount (s : State) (ch : Nat) (v : Int) : State := s.put (Reg.INP.COUNT_NOW.COUNT ch) (unsigned 32 v)

/-! ### Compare lists (R105 to R107) -/

/-- Who drives the channel's outputs now (R105): the compare list under CMP_MODE 1, and under CMP_MODE 2 while the bound
tracker is shuttered. -/
def State.cmpDrives (s : State) (ch : Nat) : Bool :=
  let m := s.get (Reg.INP.CMP_CTRL.CMP_MODE ch)
  m == 1 || (m == 2 && (match s.boundTo ch with
    | some n => s.shut (page .whl n)
    | none => false))

/-- Drives compare output o of a channel to a level at an instant; where it changes, an edge of R29, and CMP is raised (R107). -/
def State.driveQ (s : State) (ch o t : Nat) (level : Bool) : State :=
  let a := epQ (2 * ch + o)
  if (s.ep a).level = level then s
  else ((s.onEp a (fun e => { e with level := level })).edge a t level).raise (page .inp ch) 13

/-- When the pulse on an output falls. -/
def InpCh.pulseOf (c : InpCh) (o : Nat) : Option Nat := if o = 0 then c.pulse0 else c.pulse1

/-- Puts the pulse on an output. -/
def InpCh.setPulse (c : InpCh) (o : Nat) (p : Option Nat) : InpCh :=
  if o = 0 then { c with pulse0 := p } else { c with pulse1 := p }

/-- A pulse that ends at or before an instant falls. -/
def State.endPulse (s : State) (ch o t : Nat) : State :=
  match (s.inpCh ch).pulseOf o with
  | some f => if f ≤ t then (s.onInp ch (fun c => c.setPulse o none)).driveQ ch o f false else s
  | none => s

/-- Ownership of the outputs follows CMP_MODE and the tracker's shutter, and while the channel is shuttered the endpoint path does
not have them either (R108); each output keeps its level until its new owner first acts, a pulse is given up with the outputs. -/
def State.ownQ (s : State) (ch : Nat) : State :=
  let on := s.cmpDrives ch || s.shut (page .inp ch)
  if (s.inpCh ch).ownsQ = on then s
  else
    let s := s.onInp ch (fun c => { c with ownsQ := on, pulse0 := none, pulse1 := none })
    if on then s
    else (s.onEp (epQ (2 * ch)) (fun e => { e with kept := true })).onEp (epQ (2 * ch + 1)) (fun e => { e with kept := true })

/-- One action on an output: 0 set, 1 clear, 2 pulse, 3 toggle (Table 3-8). A toggle that lands during a pulse ends it as a set or a
clear does, and drives the output low (DESIGN CHOICE, log entry 49: R107 names only set and clear). -/
def State.cmpAct (s : State) (ch o t act : Nat) : State :=
  let s := s.endPulse ch o t
  let pw := if o = 0 then s.get (Reg.INP.CMP_PULSE.PW0 ch) else s.get (Reg.INP.CMP_PULSE.PW1 ch)
  let level := (s.ep (epQ (2 * ch + o))).level
  let s := s.onInp ch (fun c => c.setPulse o (if act = 2 then some (t + pw * 128) else none))
  s.driveQ ch o t (if act = 0 ∨ act = 2 then true else if act = 1 then false else !level)

/-- The counter has moved: `hit` says which positions the move covers, `rev` its direction, `cap` its capture stamp. The last
matching entry of each output acts, four cycles later. -/
def State.compareMove (s : State) (ch : Nat) (hit : Nat → Bool) (rev : Bool) (cap : Nat) : State :=
  if !(s.inpCh ch).ownsQ ∨ s.shut (page .inp ch) ∨ s.devState ≠ 8 then s
  else
    let on := (List.range 16).filter (fun k => s.bit (Reg.INP.CMP_CTL.EN ch k) &&
      (let q := s.get (Reg.INP.CMP_CTL.DIRQ ch k); q == 0 || q == (if rev then 2 else 1)) && hit (s.get (Reg.INP.CMP_POS.POS ch k)))
    if on.isEmpty then s
    else
      let t := s.instantOf (s.cycleAt cap + 4)
      let s := s.forEach [0, 1] (fun s o =>
        match (on.filter (fun k => s.get (Reg.INP.CMP_CTL.OUT ch k) == o)).getLast? with
        | some k => s.cmpAct ch o t (s.get (Reg.INP.CMP_CTL.ACT ch k))
        | none => s)
      s.raise (page .inp ch) 13

/-! ### Counting (R99, R100) -/

/-- One count in a direction; a stroke-class count past a limit is not applied. -/
def State.countOne (s : State) (ch : Nat) (rev : Bool) (cap : Nat) : State :=
  let s := s.putBit (Reg.INP.CH_STAT.DIR ch) rev
  let c := s.count ch
  if s.wheelClass ch then
    let m := s.get (Reg.INP.COUNT_MOD.MOD ch)
    let v := if rev then (if c = 0 then m - 1 else c - 1) else (if c + 1 < m then c + 1 else 0)
    (s.setCount ch v).compareMove ch (fun x => x == v) rev cap
  else
    let v : Int := signed 32 c + (if rev then -1 else 1)
    let l := s.softLimits ch
    if rev ∧ v < l.1 then s.limit ch false
    else if !rev ∧ l.2 < v then s.limit ch true
    else (s.setCount ch v).compareMove ch (fun x => x == unsigned 32 v) rev cap

/-! ### Delivery (R83 to R85, R103) -/

/-- An edge or word is delivered at its admission instant: the latched pair updates and the edge waits for Track. Beyond 16 in
one tick it is not delivered (R84). -/
def State.deliver (s : State) (ch ts : Nat) (rev : Bool) : State :=
  let p := page .inp ch
  let c := s.inpCh ch
  if 16 ≤ c.admitted then
    let s := if c.overflowed then s else ((s.put (Reg.INP.CH_STAT.EDGE_OVF ch) 1).raise p 9).err p
    s.setInp ch { c with overflowed := true, noPeriod := true }
  else
    let turned := match c.prevDir with
      | some d => d != rev
      | none => false
    let s := if turned then (s.bump (Reg.INP.DIRCHG_CNT.COUNT ch)).raise p 12 else s
    let n := s.count ch
    let s := s.setReg (Reg.INP.LATCH_POS.POS ch).addr (BitVec.ofNat 32 n)
    s.setInp ch { c with
      edges := c.edges ++ [⟨ts, n, rev, turned, c.noPeriod, c.index⟩]
      admitted := c.admitted + 1
      prevDir := some rev
      index := none
      noPeriod := false
      latchTs := ts
      latchDir := rev
      latchDirChg := turned
      latchNoPer := c.noPeriod
      fresh := true }

/-- An index: latch, then load (R89). -/
def State.indexHit (s : State) (ch : Nat) : State :=
  let k := s.get (Reg.INP.CFG.INDEX ch)
  if k = 0 then s
  else
    let pos := s.count ch
    let s := (s.put (Reg.INP.INDEX_POS.POS ch) pos).raise (page .inp ch) 0
    let s := s.onInp ch (fun c => { c with index := some pos })
    if k = 2 then
      let v := s.get (Reg.INP.INDEX_VAL.VAL ch)
      if s.wheelClass ch then s.setCount ch (v % s.get (Reg.INP.COUNT_MOD.MOD ch) : Nat)
      else
        let l := s.softLimits ch
        s.setCount ch (min (max (signed 32 v) l.1) l.2)
    else s

/-! ### Pins (R80 to R90) -/

/-- D of a FILT value: cycles per sample of the filter clock (Table 3-2). -/
def filterClock (filt : Word) : Nat := 4 ^ Word.bits filt 31 30

/-- N x D of a pin under a FILT value: pin 0 A, 1 B, 2 Z. -/
def filterDelay (filt : Word) (pin : Nat) : Nat := Word.bits filt (9 + 10 * pin) (10 * pin) * filterClock filt

/-- The number of the cycle at an instant of the current tick, counted from the start of the tick generator (R80). -/
def State.cycleNo (s : State) (t : Nat) : Nat := s.clk.cyc + s.cycleAt t

/-- S0 of a pin that shows a new level from cycle `since` on, and the FILT value that judges it: the first sample of the values in
force at that sample (R80, R82). `l` lists the values replaced, oldest first, with the cycle at which each ceased; `start` is the first
cycle of the first of them. -/
def firstSample (live : Word) (since : Nat) : Nat → List (Nat × Word) → Nat × Word
  | start, [] => ((max since start + filterClock live - 1) / filterClock live * filterClock live, live)
  | start, (till, f) :: l =>
    let s0 := (max since start + filterClock f - 1) / filterClock f * filterClock f
    if s0 < till then (s0, f) else firstSample live since till l

/-- The filter of a pin accepts, at a capture stamp, a level that the pin has shown for so many cycles: exactly N x D cycles after S0.
It answers N x D, which the edge timestamp lies before the stamp (R80, R81); a shorter excursion is rejected. -/
def State.filterAccepts (s : State) (ch pin held cap : Nat) : Option Nat :=
  let at_ := s.cycleNo cap
  let r := firstSample (s.reg (Reg.INP.FILT.FCLK ch).addr) (at_ - held) 0 (s.inpCh ch).oldFilts.reverse
  let d := filterDelay r.2 pin
  if at_ = r.1 + d then some d else none

/-- PWD_ERR: the pulse under measurement is discarded (R90). -/
def State.pwdError (s : State) (ch : Nat) : State :=
  let p := page .inp ch
  let s := s.onInp ch (fun c => { c with pulse := none, noPeriod := true })
  ((s.put (Reg.INP.CH_STAT.PWD_ERR ch) 1).raise p 3).err p

/-- A transition of A in TOOTH mode; `b` is filtered B in the cycle before (R86). A flank whose count a limit of the stroke class keeps
from being applied is delivered and latched all the same (DESIGN CHOICE, log entry 48: R100 withholds the count alone). -/
def State.toothPin (s : State) (ch : Nat) (level b : Bool) (ts cap : Nat) : State :=
  let src := s.get (Reg.INP.CFG.DIRSRC ch)
  let rev := if src = 1 then b else if src = 2 then !b else false
  let rising := (s.get (Reg.INP.CFG.EDGE ch) == 0) != rev
  if level = rising then (s.countOne ch rev cap).deliver ch ts rev else s

/-- A transition of A in PWD mode (R90). -/
def State.pwdPin (s : State) (ch : Nat) (level : Bool) (ts cap : Nat) : State :=
  if level then
    s.onInp ch (fun c => { c with pulse := some ⟨ts, s.get (Reg.INP.PWD_CFG.THR ch), s.get (Reg.INP.PWD_CFG.MAX ch)⟩ })
  else
    match (s.inpCh ch).pulse with
    | none => s
    | some p =>
      if p.lead + p.limit * 128 < cap then s.pwdError ch
      else
        let rev := decide (p.thr * 128 ≤ ts - p.lead) != s.bit (Reg.INP.CFG.DIRINV ch)
        let s := s.onInp ch (fun c => { c with pulse := none })
        (s.countOne ch rev cap).deliver ch p.lead rev

/-- Transitions accepted in one cycle in QUAD mode (R87 to R89): whether A and B changed, their levels and Z's rise. -/
def State.quadPins (s : State) (ch : Nat) (aChg bChg a b zRise : Bool) (ts cap : Nat) : State :=
  let p := page .inp ch
  if aChg && bChg then
    let s := ((s.put (Reg.INP.CH_STAT.QUAD_ERR ch) 1).raise p 2).err p
    let s := s.onInp ch (fun c => { c with noPeriod := true })
    if zRise then s.indexHit ch else s
  else
    let fwd := if aChg then a != b else a == b
    let rev := fwd == s.bit (Reg.INP.CFG.DIRINV ch)
    let flank := aChg && (a != rev)
    let x := s.get (Reg.INP.CFG.XMODE ch)
    let counts := (aChg || bChg) && (x == 2 || (aChg && (x == 1 || flank)))
    let s := if counts then s.countOne ch rev cap else s
    let s := if zRise then s.indexHit ch else s
    if counts && (!s.bit (Reg.INP.CFG.TSEL ch) || flank) then s.deliver ch ts rev else s

/-- N x D of a transition of a pin that its filter accepts at a capture stamp; none where the pin shows the level that the filter's output
has, or has not held the new one long enough. -/
def State.pinAccepts (s : State) (ch pin : Nat) (v : Option PinMove) (was : Bool) (cap : Nat) : Option Nat :=
  match v with
  | some m => if m.level = was then none else s.filterAccepts ch pin m.held cap
  | none => none

/-- The filters accept transitions of one channel in one cycle, at a capture stamp (R80, R422). -/
def State.pins (s : State) (ch : Nat) (a b z : Option PinMove) (cap : Nat) : State :=
  let c := s.inpCh ch
  let aD := s.pinAccepts ch 0 a c.a cap
  let bD := s.pinAccepts ch 1 b c.b cap
  let zD := s.pinAccepts ch 2 z c.z cap
  let aC := aD.isSome
  let bC := bD.isSome
  let zC := zD.isSome
  let s := s.setInp ch { c with a := c.a != aC, b := c.b != bC, z := c.z != zC }
  if !s.scanning then s
  else
    let m := c.mode
    let usesB := m == 2 || (m == 1 && s.get (Reg.INP.CFG.DIRSRC ch) != 0)
    let tA := cap - aD.getD 0
    let tB := cap - bD.getD 0
    let tZ := cap - zD.getD 0
    let s := if aC && (m == 1 || m == 2 || m == 3) then s.provPin ch 0 (!c.a) tA else s
    let s := if bC && usesB then s.provPin ch 1 (!c.b) tB else s
    let s := if zC && m == 2 then s.provPin ch 2 (!c.z) tZ else s
    match m with
    | 1 => if aC then s.toothPin ch (!c.a) c.b tA cap else s
    | 2 => s.quadPins ch aC bC (c.a != aC) (c.b != bC) (zC && !c.z) (if aC then tA else tB) cap
    | 3 => if aC then s.pwdPin ch (!c.a) tA cap else s
    | _ => s

/-! ### Modes and commits of the page (R79, R82, R98, R100) -/

/-- A change of MODE takes effect: partly decoded state is discarded; the next delivery carries NOPERIOD. -/
def State.enterMode (s : State) (ch : Nat) : State :=
  let m := s.get (Reg.INP.CFG.MODE ch)
  if (s.inpCh ch).mode = m then s
  else s.onInp ch (fun c => { c with mode := m, pulse := none, prevDir := none, lastPos := none, noPeriod := true })

/-- After a commit to the page: the mode changes unless a word is in progress, and a count at or beyond COUNT_MOD is
reduced. -/
def State.inpCommitted (s : State) (ch : Nat) : State :=
  let s := if (s.inpCh ch).word.isNone then s.enterMode ch else s
  let m := s.get (Reg.INP.COUNT_MOD.MOD ch)
  let s := if s.wheelClass ch ∧ m ≤ s.count ch then s.setCount ch (s.count ch % m : Nat) else s
  s.ownQ ch

/-- The longest N x D in cycles, and a sample more. -/
def filterReach : Nat := 1024 * 16

/-- A commit is about to replace FILT: the old value still judges transitions that began to qualify before the tick (R82). Values that
ceased longer ago than any filter delay judge nothing any more. -/
def State.inpHoldFilt (s : State) (ch : Nat) : State :=
  let old := s.reg (Reg.INP.FILT.FCLK ch).addr
  s.onInp ch (fun c => { c with
    oldFilts := (s.clk.cyc, old) :: c.oldFilts.filter (fun e => decide (s.clk.cyc < e.1 + filterReach) && e.1 != s.clk.cyc) ++
      (c.oldFilts.filter (fun e => e.1 == s.clk.cyc)) })

/-- The shutter of a channel (R108): both its outputs are held low, whoever drove them. -/
def State.inpShut (s : State) (ch t : Nat) : State :=
  let s := s.onInp ch (fun c => { c with ownsQ := true, pulse0 := none, pulse1 := none })
  (s.driveQ ch 0 t false).driveQ ch 1 t false

/-- The release: the first delivery carries NOPERIOD. -/
def State.inpRelease (s : State) (ch : Nat) : State :=
  s.onInp ch (fun c =>
    match c.edges with
    | e :: l => { c with edges := { e with noPeriod := true } :: l }
    | [] => { c with noPeriod := true })

/-! ### Serial words (R91 to R98, R101) -/

/-- The CRC of x^6 + x + 1 over a list of bits, most significant first (R92). -/
def crc6 (bits : List Bool) : Nat :=
  bits.foldl (fun r b =>
    let top := (decide (32 ≤ r)) != b
    let r := r * 2 % 64
    if top then r ^^^ 3 else r) 0

/-- The low n bits of a number, most significant first. -/
def bitsOf (v : Nat) : Nat → List Bool
  | 0 => []
  | n + 1 => hasBit v n :: bitsOf v n

/-- Gray code to binary (R93). -/
def grayOf (v : Nat) (n : Nat) : Nat :=
  ((bitsOf v n).foldl (fun (r : Nat × Bool) b => let x := r.2 != b; (r.1 * 2 + (if x then 1 else 0), x)) (0, false)).1

/-- What a completed word says: position and outcome (0 delivered, 2 SER_CRC, 3 SER_PARITY, 4 SER_ERRBIT, 5 delivered with
SER_WARN). -/
def SerWord.judge (w : SerWord) (raw : Nat) : Nat × Nat :=
  if w.biss then
    let body := raw / 64
    let pos := body / 4 % 2 ^ w.bits
    if crc6 (bitsOf body (w.bits + 2)) ≠ 63 - raw % 64 then (pos, 2)
    else if !hasBit body 1 then (pos, 4)
    else if !hasBit body 0 then (pos, 5)
    else (pos, 0)
  else
    let code := (if w.parity then raw / 2 else raw) % 2 ^ w.bits
    let pos := if w.gray then grayOf code w.bits else code
    if w.parity && ((bitsOf raw (w.bits + 1)).filter id).length % 2 == 1 then (pos, 3) else (pos, 0)

/-- Flag and interrupt source of an outcome (Table 3-6). -/
def State.serFlag (s : State) (ch outcome : Nat) : State :=
  let p := page .inp ch
  let bad := fun (s : State) (f : FieldRef) (k : Nat) => ((s.put f 1).raise p k).err p
  match outcome with
  | 1 => bad s (Reg.INP.CH_STAT.SER_TIMEOUT ch) 7
  | 2 => bad s (Reg.INP.CH_STAT.SER_CRC ch) 4
  | 3 => bad s (Reg.INP.CH_STAT.SER_PARITY ch) 8
  | 4 => bad s (Reg.INP.CH_STAT.SER_ERRBIT ch) 5
  | 5 => (s.put (Reg.INP.CH_STAT.SER_WARN ch) 1).raise p 6
  | _ => s

/-- The direction a delivered position gives (R97): `d` is its signed difference from the one before. -/
def State.serialDir (s : State) (ch : Nat) (d : Int) : Bool :=
  let d := if s.bit (Reg.INP.CFG.DIRINV ch) then -d else d
  let db : Int := s.get (Reg.INP.DIR_DB.DB ch)
  let rev := s.bit (Reg.INP.CH_STAT.DIR ch)
  if rev then !decide (db < d) else decide (d < -db)

/-- Difference modulo m read in the shorter direction; one of exactly half m is read as forward (DESIGN CHOICE, log entry 46: R97 gives neither
direction). -/
def shorter (m : Nat) (d : Int) : Int :=
  let r := d % (m : Int)
  if 2 * r ≤ (m : Int) then r else r - m

/-- A word is delivered (R96, R97, R101). The first one, with no position before it, keeps the direction that CH_STAT.DIR shows (DESIGN
CHOICE, log entry 47: R97 takes the direction from successive positions). A compare position at or beyond COUNT_MOD is never moved onto (R106). -/
def State.wordDelivered (s : State) (ch pos ts cap : Nat) : State :=
  let c := s.inpCh ch
  let old := s.count ch
  if s.wheelClass ch then
    let m := s.get (Reg.INP.COUNT_MOD.MOD ch)
    let v := pos % m
    let rev := match c.lastPos with
      | some l => s.serialDir ch (shorter m ((v : Int) - l))
      | none => s.bit (Reg.INP.CH_STAT.DIR ch)
    let s := ((s.onInp ch (fun c => { c with lastPos := some v })).putBit (Reg.INP.CH_STAT.DIR ch) rev).setCount ch v
    ((s.compareMove ch (fun x => decide (x < m) && moveHolds m old v rev x) rev cap).deliver ch ts rev).raise (page .inp ch) 14
  else
    let l := s.softLimits ch
    let p : Int := (pos % 2 ^ 31 : Nat)
    let v := min (max p l.1) l.2
    let s := if p < l.1 then s.limit ch false else if l.2 < p then s.limit ch true else s
    let rev := match c.lastPos with
      | some x => s.serialDir ch (v - x)
      | none => s.bit (Reg.INP.CH_STAT.DIR ch)
    let s := ((s.onInp ch (fun c => { c with lastPos := some v })).putBit (Reg.INP.CH_STAT.DIR ch) rev).setCount ch v
    let o := signed 32 old
    let hit := fun x =>
      let x := signed 32 x
      if rev then decide (v ≤ x) && decide (x < o) else decide (o < x) && decide (x ≤ v)
    ((s.compareMove ch hit rev cap).deliver ch ts rev).raise (page .inp ch) 14

/-- A word ends with an outcome at an instant: its bits are kept, its outcome flagged, a delayed change of MODE takes
effect. -/
def State.wordEnd (s : State) (ch : Nat) (w : SerWord) (raw outcome pos cap : Nat) : State :=
  let s := (s.put (Reg.INP.SER_RAW_LO.BITS ch) raw).put (Reg.INP.SER_RAW_HI.BITS ch) (raw / 2 ^ 32)
  let s := (s.serFlag ch outcome).provSerial ch outcome raw w.latch
  let s := (s.onInp ch (fun c => { c with word := none })).put (Reg.INP.CH_STAT.WORD_BUSY ch) 0
  let s := if outcome = 0 ∨ outcome = 5 then s.wordDelivered ch pos ((w.latch : Int) + w.comp).toNat cap
    else s.onInp ch (fun c => { c with noPeriod := true })
  s.enterMode ch

/-- Half a clock cycle on B in cycles of 640 MHz (R91). -/
def SerWord.half (w : SerWord) : Nat := 16 * (w.div + 1)

/-- Cycles from the latch instant, the first falling edge, to the sampling of A after rising edge k, counted from 0 (R91). -/
def SerWord.sampleAt (w : SerWord) (k : Nat) : Nat := w.half * (2 * k + 1) + w.dly

/-- Rising edges of an SSI word: its bits, and the parity bit (R93). -/
def SerWord.ssiEdges (w : SerWord) : Nat := w.bits + (if w.parity then 1 else 0)

/-- The level of the clock on B so many cycles after the latch instant: it falls there, and after the last rising edge of an SSI word it
stops high (R91, R93). -/
def SerWord.clockHigh (w : SerWord) (c : Nat) : Bool :=
  c / w.half % 2 == 1 || (!w.biss && decide (w.half * (2 * w.ssiEdges - 1) ≤ c))

/-- B of a channel in a serial mode at an instant of the current tick: idle high (R91). -/
def State.serClock (s : State) (ch t : Nat) : Bool :=
  match (s.inpCh ch).word with
  | some w => w.clockHigh (s.cycleNo t - w.cyc)
  | none => true

/-- A BiSS word whose last CRC bit is sampled c cycles after the latch instant: its start bit was sampled BITS + 9 edges before, within
TIMEOUT (Table 3-5, R94). -/
def SerWord.bissDone (w : SerWord) (c : Nat) : Bool :=
  let start := c - w.half * 2 * (w.bits + 9)
  decide (w.sampleAt (w.bits + 9) ≤ c) && (start - w.sampleAt 0) % (w.half * 2) == 0 && (match w.limit with
    | some l => decide (start ≤ l)
    | none => true)

/-- The instant at which the last bit of an SSI word has been sampled, at the latest in the current tick. -/
def State.ssiLast (s : State) (w : SerWord) : Option Nat :=
  match w.lastBit with
  | some t => some t
  | none =>
    let c := w.cyc + w.sampleAt (w.ssiEdges - 1) - s.clk.cyc
    if c < s.clk.cycles then some (s.instantOf c) else none

/-- A word completes at an instant (R93, Table 3-3): with the last CRC bit, or when A is found high after the last bit of an SSI word,
within TIMEOUT of it. -/
def State.wordDone (s : State) (w : SerWord) (aHigh : Bool) (t : Nat) : Bool :=
  if w.biss then w.bissDone (s.cycleNo t - w.cyc)
  else aHigh && (match s.ssiLast w with
    | some l => decide (l ≤ t) && decide (t ≤ l + w.timeout * 128)
    | none => false)

/-- A word times out by the end of the current tick (R94): a BiSS word with no start bit among its samples, an SSI word after its last
bit. -/
def State.wordLate (s : State) (w : SerWord) (raw : Nat) : Bool :=
  if w.biss then raw == 0 && decide (w.latch + w.timeout * 128 ≤ s.now + 127)
  else match s.ssiLast w with
    | some l => decide (l + w.timeout * 128 ≤ s.now + 127)
    | none => false

/-- What a word in progress notes when the current tick ends: the boundary that ends the TIMEOUT of a BiSS word, the last bit of an SSI
word. -/
def State.wordTick (s : State) (ch : Nat) : State :=
  match (s.inpCh ch).word with
  | none => s
  | some w =>
    let limit := if w.latch + w.timeout * 128 = st0 (s.tick + 1) then some (s.clk.cyc + s.clk.cycles - w.cyc) else w.limit
    s.onInp ch (fun c => { c with word := some { w with limit := limit, lastBit := if w.biss then none else s.ssiLast w } })

/-- A word starts at a PERIOD boundary, or the start is skipped (R95, R98). -/
def State.wordStart (s : State) (ch : Nat) (aHigh : Bool) : State :=
  let c := s.inpCh ch
  let per := s.get (Reg.INP.SER_TIMING.PERIOD ch)
  if !s.scanning ∨ !(c.mode == 4 || c.mode == 5) ∨ s.tick % per ≠ 0 then s
  else if c.word.isSome ∨ !aHigh then
    let s := ((s.put (Reg.INP.CH_STAT.SER_SKIP ch) 1).bump (Reg.INP.SKIP_CNT.COUNT ch)).raise (page .inp ch) 11
    (s.onInp ch (fun c => { c with noPeriod := true })).provSerial ch 6 0 s.now
  else
    (s.onInp ch (fun c => { c with word := some {
      latch := s.now
      cyc := s.clk.cyc
      limit := none
      lastBit := none
      div := s.get (Reg.INP.SER_CFG.DIV ch)
      dly := s.get (Reg.INP.SER_CFG.SAMPLE_DLY ch)
      biss := c.mode == 4
      bits := s.get (Reg.INP.SER_CFG.BITS ch)
      gray := s.bit (Reg.INP.CFG.SER_GRAY ch)
      parity := s.bit (Reg.INP.CFG.SER_PARITY ch)
      timeout := s.get (Reg.INP.SER_TIMING.TIMEOUT ch)
      comp := signed 16 (s.get (Reg.INP.SER_LAT_COMP.COMP ch)) } })).put (Reg.INP.CH_STAT.WORD_BUSY ch) 1

/-! ### The Track phase of the channels -/

/-- Before the trackers: a shuttered channel delivers nothing (R108); TOOTH_RATE where more than one position edge is admitted
(R84). -/
def State.inputsOpen (s : State) : State :=
  s.forEach ((s.inp.filter (fun e => !e.2.edges.isEmpty)).map (fun e => e.1)) (fun s ch =>
    if s.shut (page .inp ch) then s.onInp ch (fun c => { c with edges := [] })
    else
      match s.boundTo ch with
      | some n =>
        if 1 < ((s.inpCh ch).edges.filter (fun e => s.isPosition n e)).length then
          (s.put (Reg.INP.CH_STAT.TOOTH_RATE ch) 1).raise (page .inp ch) 10
        else s
      | none => s)

/-- After the trackers: the admitted edges are spent. -/
def State.inputsClear (s : State) : State :=
  s.forEach (s.inp.map (fun e => e.1)) (fun s ch => s.onInp ch (fun c => { c with edges := [], admitted := 0, overflowed := false }))

/-- Ownership of every compare output after Apply (R105). -/
def State.inputsOwn (s : State) : State := s.forEach (List.range 48) (fun s ch => s.ownQ ch)

/-- A PWD pulse whose time has run out in the current tick (R90). -/
def State.pulseTimeout (s : State) (ch : Nat) : State :=
  match (s.inpCh ch).pulse with
  | some p => s.when (s.scanning && (s.inpCh ch).mode == 3 && decide (p.lead + p.limit * 128 < st0 (s.tick + 1))) (fun s => s.pwdError ch)
  | none => s

/-! ### Commands -/

/-- PIN_EDGE_ACCEPT (R80): in one cycle of the current tick the pins have shown these levels for so long. -/
def execPinEdgeAccept (ch : ChNo) (a b z : Option PinMove) (st : SubTick) (s : State) : Host.Outcome State Fault Refusal :=
  run s (s.pins ch a b z (s.now + st))

/-- COMPARE_PULSE_END (R107). -/
def execComparePulseEnd (ch : ChNo) (out : Bool) (s : State) : Host.Outcome State Fault Refusal :=
  run s (s.endPulse ch (if out then 1 else 0) (s.now + 127))

/-- PWD_TIMEOUT (R90): MAX ticks after the leading edge timestamp, within the current tick. -/
def execPwdTimeout (ch : ChNo) (s : State) : Host.Outcome State Fault Refusal :=
  run s (s.pulseTimeout ch)

/-- SERIAL_WORD_START (R95). -/
def execSerialWordStart (ch : ChNo) (aHigh : Bool) (s : State) : Host.Outcome State Fault Refusal := run s (s.wordStart ch aHigh)

/-- SERIAL_WORD_END (R96): at the instant at which the word in progress completes, with its bits and the level of A. -/
def execSerialWordEnd (ch : ChNo) (x : SerialRead) (st : SubTick) (s : State) : Host.Outcome State Fault Refusal :=
  run s (match (s.inpCh ch).word with
    | some w =>
      let r := w.judge x.raw.toNat
      s.when (s.wordDone w x.aHigh (s.now + st)) (fun s => s.wordEnd ch w x.raw.toNat r.2 r.1 (s.now + st))
    | none => s)

/-- SERIAL_TIMEOUT (R94): the word in progress has exceeded TIMEOUT, with the bits sampled so far. -/
def execSerialTimeout (ch : ChNo) (raw : BitVec 41) (s : State) : Host.Outcome State Fault Refusal :=
  run s (match (s.inpCh ch).word with
    | some w => s.when (s.wordLate w raw.toNat) (fun s => s.wordEnd ch w raw.toNat 1 0 s.now)
    | none => s)

/-- A stroke-class channel records its latched pair at a boundary n with n mod STROKE_REC = 0 (R102). -/
def State.strokeRecord (s : State) (ch : Nat) : State :=
  let c := s.inpCh ch
  let per := s.get (Reg.INP.STROKE_REC.PERIOD ch)
  if !s.scanning ∨ s.wheelClass ch ∨ per = 0 ∨ s.tick % per ≠ 0 ∨ !c.fresh ∨ s.shut (page .inp ch) then s
  else
    (s.onInp ch (fun c => { c with fresh := false })).cart 0x05 s.strokeCls c.latchTs 63
      [quad [(58, 6, ch), (57, 1, if c.latchDir then 1 else 0), (56, 1, s.get (Reg.INP.CH_STAT.LIM_LO ch)),
        (55, 1, s.get (Reg.INP.CH_STAT.LIM_HI ch)), (0, 32, s.get (Reg.INP.LATCH_POS.POS ch))]]

end Sys2Proof.Machine
end

