-- ==== Sys2Proof/Machine/Wheels.lean ====
section
/-! DEFINITION. Commands of the wheel trackers: stall, RESYNC, learning and the shadow table (R116, R120, R133 to R136). -/

namespace Sys2Proof.Machine

/-- The bit that a content gives PG_SHUTTER.SHUT of a page. -/
def shutBit (es : List Entry) (p : Nat) : Option Bool :=
  (es.find? (fun e => !e.bar2 && e.off == p + 0x1C && Word.bits e.mask 0 0 == 1)).map (fun e => Word.bits e.val 0 0 == 1)

/-- The page is shuttered, or a shutter takes effect on it in the Apply phase of the current tick: row 1 comes before the other rows of
Table 4-4 (R116, R137). -/
def State.willShut (s : State) (p : Nat) : Bool :=
  s.shut p || s.flt.shutPend.any (fun x => x.page == p) ||
    s.commits.any (fun c => c.page == p && decide (c.eff ≤ s.tick) && shutBit c.entries p == some true)

/-- Row 19: no position edge processed for STALL_TO ticks; not while the shutter holds (R138). -/
def State.stall (s : State) (n : Nat) : State :=
  if !s.scanning ∨ s.wState n = 0 ∨ s.shut (page .whl n) then s
  else if (s.tracker n).stallFrom + s.get (Reg.WHL.STALL.STALL_TO n) ≤ s.tick then s.wStall n
  else s

/-- Rows 4 and 5: CMD = RESYNC at its commit tick; not while the shutter holds. -/
def State.resync (s : State) (n : Nat) : State :=
  let st := s.wState n
  if st = 0 ∨ s.willShut (page .whl n) then s else s.wSeek n (if st = 5 then 5 else 4)

/-- Row 5 with AUTO_RESYNC at 1. -/
def State.autoResync (s : State) (n : Nat) : State :=
  if s.wState n = 5 ∧ s.bit (Reg.WHL.CFG.AUTO_RESYNC n) ∧ !s.willShut (page .whl n) then s.wSeek n 5 else s

/-- CORR_STAT.STATE. -/
def State.setCorr (s : State) (n v : Nat) : State := s.put (Reg.WHL.CORR_STAT.STATE n) v

/-- Learning starts: the shadow is cleared (R133). -/
def State.learnStart (s : State) (n : Nat) : State :=
  let s := s.onTrk n (fun t =>
    { t with corrSh := [], learnSum := [], learnCur := [], learnOpen := false, learnBad := false, learnPrev := none })
  (((s.put (Reg.WHL.CORR_STAT.REVS_DONE n) 0).put (Reg.WHL.CORR_STAT.RESULT n) 0).setCorr n 1).startLearn n

/-- A command that needs the state IDLE; otherwise RESULT becomes BUSY (R136). -/
def State.corrIdle (s : State) (n : Nat) (f : State → State) : State :=
  if s.corrState n = 0 then f s else s.put (Reg.WHL.CORR_STAT.RESULT n) 4

/-- LEARN, held back by the ledger while a profile switch is active (R133, R392). -/
def State.corrLearn (s : State) (n door : Nat) : State :=
  s.corrIdle n (fun s => if s.active kSwitch then (s.setCorr n 3).enqueue kLearn n door else s.learnStart n)

/-- SWAP: the host-written shadow becomes READY. -/
def State.corrReady (s : State) (n : Nat) : State := s.corrIdle n (fun s => s.setCorr n 2)

/-- CLEAR: a shadow of zeros becomes READY. -/
def State.corrClear (s : State) (n : Nat) : State :=
  s.corrIdle n (fun s => (s.onTrk n (fun t => { t with corrSh := [] })).setCorr n 2)

/-- ABORT of a LEARNING, READY or queued shadow. -/
def State.corrAbort (s : State) (n : Nat) : State :=
  if s.corrState n = 0 then s
  else
    let s := if s.corrState n = 3 then s.unqueue kLearn n else s
    let s := (s.onTrk n (fun t => { t with corrSh := [] })).setCorr n 0
    ((s.put (Reg.WHL.CORR_STAT.RESULT n) 3).raise (page .whl n) 7).endLearn n

/-- After LEARN_REVS qualifying revolutions the sums are averaged: READY, or RANGE with the shadow discarded (R134). -/
def State.learnDone (s : State) (n : Nat) : State :=
  let revs := s.get (Reg.WHL.CORR_CTL.LEARN_REVS n)
  if s.corrState n ≠ 1 ∨ s.get (Reg.WHL.CORR_STAT.REVS_DONE n) < revs then s
  else
    let mean := (s.tracker n).learnSum.map (fun e => (e.1, roundDiv e.2 revs))
    let s := s.raise (page .whl n) 7
    if mean.all (fun e => decide (-512 ≤ e.2) && decide (e.2 ≤ 511)) then
      ((s.onTrk n (fun t => { t with corrSh := mean.filter (fun e => e.2 != 0) })).put (Reg.WHL.CORR_STAT.RESULT n) 1).setCorr n 2
    else
      (((s.onTrk n (fun t => { t with corrSh := [] })).put (Reg.WHL.CORR_STAT.RESULT n) 2).setCorr n 0).endLearn n

/-- A CORR_CMD value at its commit tick. -/
def State.corrCommand (s : State) (n cmd door : Nat) : State :=
  match cmd with
  | 1 => s.corrLearn n door
  | 2 => s.corrReady n
  | 3 => s.corrAbort n
  | 4 => s.corrClear n
  | _ => s

/-- TRACKER_STALL (R116). -/
def execTrackerStall (w : WheelNo) (s : State) : Host.Outcome State Fault Refusal := run s (s.stall w)

/-- RESYNC (R116). -/
def execResync (w : WheelNo) (s : State) : Host.Outcome State Fault Refusal := run s (s.when s.scanning (fun s => s.resync w))

/-- CORR_LEARN (R133). -/
def execCorrLearn (w : WheelNo) (s : State) : Host.Outcome State Fault Refusal :=
  run s (s.when s.scanning (fun s => s.corrCommand w 1 0))

/-- CORR_SWAP_CMD (R136). -/
def execCorrSwapCmd (w : WheelNo) (s : State) : Host.Outcome State Fault Refusal :=
  run s (s.when s.scanning (fun s => s.corrCommand w 2 0))

/-- CORR_CLEAR (R136). -/
def execCorrClear (w : WheelNo) (s : State) : Host.Outcome State Fault Refusal :=
  run s (s.when s.scanning (fun s => s.corrCommand w 4 0))

/-- CORR_ABORT (R136). -/
def execCorrAbort (w : WheelNo) (s : State) : Host.Outcome State Fault Refusal :=
  run s (s.when s.scanning (fun s => s.corrCommand w 3 0))

/-- LEARN_DONE (R134). -/
def execLearnDone (w : WheelNo) (s : State) : Host.Outcome State Fault Refusal := run s (s.when s.scanning (fun s => s.learnDone w))

end Sys2Proof.Machine
end

