-- ==== Sys2Proof/Machine/Faults.lean ====
section
/-! DEFINITION. The fault manager: reports, shutters of functions and their release, the ledger's recorder activities (R377 to
R382, R391 to R394). -/

namespace Sys2Proof.Machine

/-! ### Shutters of functions (R379 to R382) -/

/-- All kinds of function. -/
def allFns : List FnKind := [.inp, .whl, .lnk, .drv, .adc, .tmr, .dma]

/-- The function whose page this is. -/
def fnOfPage (p : Nat) : Option (FnKind × Nat) :=
  match pageOf p with
  | some (b, n) => (allFns.find? (fun f => fnBlock f == b)).map (fun f => (f, n))
  | none => none

/-- The function of a block code and its number. -/
def fnOfCode (block inst : Nat) : Option FnKind :=
  (allFns.find? (fun f => (fnBlock f).code == block)).filter (fun f => fnExists f inst)

/-- Causes that the fault manager shutters a kind of function for (Table 15-3). -/
def fnCauses : FnKind → List Nat
  | .inp => [1, 2, 7]
  | .whl => [1, 2, 7]
  | .lnk => [1, 2, 5, 7]
  | .drv => [1, 2, 3, 7]
  | .adc => [1, 4, 7]
  | .tmr => [7]
  | .dma => [7]

/-- The cause for which the fault manager holds a page shuttered; 0 none. -/
def State.pageCause (s : State) (p : Nat) : Nat := s.flt.pageCause.get (fun _ => 0) p

/-- Puts the cause of a page. -/
def State.setPageCause (s : State) (p c : Nat) : State :=
  { s with flt := { s.flt with pageCause := s.flt.pageCause.set (fun _ => 0) p c } }

/-- What a function does when its shutter is set, at an instant; the shutter of a commit ends a drive event one boundary later
(R254). -/
def State.shutEffect (s : State) (f : FnKind) (n t : Nat) (fm : Bool) : State :=
  match f with
  | .inp => s.inpShut n t
  | .whl => if s.bit (Reg.WHL.SYNC_CFG.EN n) then s.wShut n else s
  | .lnk => s.linkFollow n
  | .drv =>
    let open_ := s.get (Reg.DRV.STAT.SHUT_CAUSE n) == 0 || (s.drive n).fenceNext == some false
    let s := if open_ then s.put (Reg.DRV.STAT.SHUT_CAUSE n) (if fm then 3 else 2) else s
    if fm then s.driveFenceNow n else s.onDrv n (fun d => { d with fenceNext := some true })
  | .adc => s.adcShut n
  | .tmr => (s.put (Reg.TMR.CFG.RUN n) 0).onTmr n (fun t => { t with dead := true })
  | .dma => s.onDma n (fun d => { d with dead := true })

/-- A shutter of the fault manager takes effect at the current boundary, with its marker (R379); a drive event that the host's shutter of
the same Apply phase would end one boundary later ends now (R254). -/
def State.fmShut (s : State) (f : FnKind) (n cause : Nat) : State :=
  let p := fnPage f n
  let was := s.shut p
  let marked := s.bit (Reg.HEAD.PG_SHUTTER.FAULT p)
  let s := if (fnBlock f).hasShutter then s.fencePage p else s
  let s := if s.pageCause p = 7 then s else s.setPageCause p cause
  let s := if was then (if f = .drv ∧ (s.drive n).fenceNext = some true then s.driveFenceNow n else s) else s.shutEffect f n s.now true
  if marked then s else s.faultMarker cause (fnBlock f).code n aShuttered none 0 s.tick (fnWheel f n)

/-- A host's shutter at its commit tick: no fault, no marker (R382). -/
def State.hostShut (s : State) (f : FnKind) (n : Nat) : State :=
  let p := fnPage f n
  if !(fnBlock f).hasShutter ∨ s.shut p then s
  else (s.put (Reg.HEAD.PG_SHUTTER.SHUT p) 1).shutEffect f n s.now false

/-- What a function does when its shutter is released. -/
def State.releaseEffect (s : State) (f : FnKind) (n : Nat) : State :=
  match f with
  | .inp => s.inpRelease n
  | .whl =>
    if !s.bit (Reg.WHL.SYNC_CFG.EN n) then s
    else if s.wCfgOk n then (s.wSeek n 2).wFlag n false (s.bit (Reg.WHL.CFG.RESUME n) && !s.wResume n)
    else s.wMismatch n
  | .lnk => s.linkFollow n
  | .drv => s.onDrv n (fun d => { d with fenceNext := some false })
  | .adc => s.adcRelease n
  | .tmr => s
  | .dma => s

/-- A release at its commit tick (R380, R381): none for BIST; a failed re-check keeps the shutter and is logged anew. -/
def State.releaseShut (s : State) (f : FnKind) (n : Nat) (sound : Bool) : State :=
  let p := fnPage f n
  if !(fnBlock f).hasShutter ∨ !s.shut p ∨ s.pageCause p = 7 then s
  else if !sound then
    let c := s.pageCause p
    let c := if c = 3 ∨ c = 4 then c else 1
    ((s.put (Reg.HEAD.PG_SHUTTER.FAULT p) 1).setPageCause p c).logFault c (fnBlock f).code n aShuttered 0
  else
    (((s.put (Reg.HEAD.PG_SHUTTER.SHUT p) 0).put (Reg.HEAD.PG_SHUTTER.FAULT p) 0).setPageCause p 0).releaseEffect f n

/-- A fault of a function is reported: logged now, its shutter raised for the next Apply (R377, R379). -/
def State.fnFault (s : State) (f : FnKind) (n cause : Nat) : State :=
  if !fnExists f n ∨ !(fnCauses f).contains cause then s
  else
    let s := s.logFault cause (fnBlock f).code n aShuttered 0
    { s with flt := { s.flt with shutPend := s.flt.shutPend ++ [(⟨fnPage f n, cause⟩ : ShutPend)] } }

/-- The shutters raised before the current boundary take effect in Apply. -/
def State.admitShutters (s : State) : State :=
  let l := s.flt.shutPend
  let s := { s with flt := { s.flt with shutPend := [] } }
  s.forEach l (fun s x =>
    match fnOfPage x.page with
    | some (f, n) => s.fmShut f n x.cause
    | none => s)

/-! ### Doors and the fault manager itself -/

/-- A cause to shutter door d arises (R294): only FAULT matters outside UP, and it is held while the door is DOWN. -/
def State.doorCause (s : State) (d k : Nat) : State :=
  let st := s.get (Reg.DOR.DOOR_STAT.STATE d)
  if st = 1 ∨ (k = 5 ∧ st = 2) then
    s.onDoor d (fun x => { x with causes := insertNat k x.causes })
  else if k = 5 ∧ st = 0 then s.onDoor d (fun x => { x with heldFault := true })
  else s

/-- DOOR_PATH: the door is shuttered with cause FAULT. -/
def State.doorPath (s : State) (d : Nat) : State := (s.logFault 0x06 0x60 d aShuttered d).doorCause d 5

/-- FM_PAIR (R378): the first mismatch retires a pair; the second leaves no fault manager. -/
def State.fmPair (s : State) : State :=
  match s.flt.pairs with
  | 0 => s
  | 1 => ({ s with flt := { s.flt with pairs := 0 } }).deviceShut 0x25 (st0 (s.tick + 1))
  | _ =>
    let s := ({ s with flt := { s.flt with pairs := 1 } }).logFault 0x24 0x05 0 aCounted 0
    (s.put Reg.FLT.DEV_FAULT.FM_SINGLE 1).raise (page .flt 0) 3

/-! ### Reports (R377) -/

/-- The action for a reported cause (Table 15-2). The recorder's own causes are ABSORBED or COUNTED as a chapter that the spec
does not hold decides: that choice is free. -/
def State.report (s : State) (r : FaultReport) : State :=
  let c := r.cause.toNat
  let inst := r.inst.toNat
  let data := r.data.toNat
  let coach := data % 2048
  if c = 0x06 then (if inst < 4 then s.doorPath inst else s)
  else if c = 0x10 then (if s.inService coach then s.coachShutter coach 2 0x10 data else s)
  else if c = 0x11 then (if s.inService coach then s.coachShutter coach 3 0x11 data else s)
  else if c = 0x12 then s.logFault 0x12 0x20 inst aCounted 0
  else if 0x13 ≤ c ∧ c ≤ 0x16 then s.domainShutter (data % 16) (c - 0x12)
  else if c = 0x20 then (if inst < 4 ∧ s.qualified inst then s.refFail inst 4 else s.logFault 0x20 0x02 0 aAbsorbed 0)
  else if c = 0x21 then (if inst < 2 ∧ s.pllState inst = 2 then s.pllLost inst 0x21 else s)
  else if c = 0x22 then s.timebaseLost
  else if c = 0x23 ∨ c = 0x25 then s.deviceShut c (st0 (s.tick + 1))
  else if c = 0x24 then s.fmPair
  else if c = 0x26 then s.hostShutDevice (st0 (s.tick + 1))
  else if c = 0x30 then (if inst < 64 then s.ocShut inst else s)
  else if 0x40 ≤ c ∧ c ≤ 0x43 then
    let w := s.drawWord
    w.2.logFault c r.block.toNat inst (w.1.toNat % 2) data
  else
    match fnOfCode r.block.toNat inst with
    | some f => s.fnFault f inst c
    | none => s

/-- FAULT_REPORT (R377). -/
def execFaultReport (r : FaultReport) (s : State) : Host.Outcome State Fault Refusal := run s (s.when s.clockOn (fun s => s.report r))

/-- LOCKSTEP (R378). -/
def execLockstep (f : FnKind) (n : Fin 64) (s : State) : Host.Outcome State Fault Refusal :=
  run s (s.when s.clockOn (fun s => s.fnFault f n 0x02))

/-- GATE_READBACK (R378). -/
def execGateReadback (ch : DrvNo) (s : State) : Host.Outcome State Fault Refusal :=
  run s (s.when s.clockOn (fun s => s.fnFault .drv ch 0x03))

/-- REF_MON (R378). -/
def execRefMon (u : AdcNo) (s : State) : Host.Outcome State Fault Refusal := run s (s.when s.clockOn (fun s => s.fnFault .adc u 0x04))

/-- NO_FRAMES (R378, R393): counted only in HOLD and RUN. -/
def execNoFrames (l : LinkNo) (s : State) : Host.Outcome State Fault Refusal :=
  run s (s.when (s.clockOn && (s.lnkState l == 5 || s.lnkState l == 6)) (fun s => s.fnFault .lnk l 0x05))

/-- DOOR_PATH (R378). -/
def execDoorPath (d : DoorNo) (s : State) : Host.Outcome State Fault Refusal := run s (s.when s.clockOn (fun s => s.doorPath d))

/-- FM_PAIR (R378). -/
def execFmPair (s : State) : Host.Outcome State Fault Refusal := run s (s.when s.clockOn (fun s => s.fmPair))

/-- HOST_SHUTTER (R382). -/
def execHostShutter (f : FnKind) (n : Fin 64) (s : State) : Host.Outcome State Fault Refusal :=
  run s (s.when (s.scanning && fnExists f n) (fun s => s.hostShut f n))

/-- SHUTTER_RELEASE (R381): `sound` is what the function's own check finds. -/
def execShutterRelease (f : FnKind) (n : Fin 64) (sound : Bool) (s : State) : Host.Outcome State Fault Refusal :=
  run s (s.when (s.scanning && fnExists f n) (fun s => s.releaseShut f n sound))

/-! ### Activities of the recorder in the ledger (R391, R392) -/

/-- An activity of the recorder starts, or waits behind its rival; one at a time of a kind. -/
def State.ledgerStart (s : State) (k : Nat) : State :=
  if s.active k ∨ s.isQueued k then s
  else if s.active (kRival k) then s.enqueue k 0 0
  else s.setActive k true

/-- DRIVE_RETIREMENT (R391). -/
def execDriveRetirement (s : State) : Host.Outcome State Fault Refusal := run s (s.when s.clockOn (fun s => s.ledgerStart kRetire))

/-- DRIVE_RETIREMENT_END (R391). -/
def execDriveRetirementEnd (s : State) : Host.Outcome State Fault Refusal := run s (s.setActive kRetire false)

/-- VOLUME_SCRUB (R391). -/
def execVolumeScrub (s : State) : Host.Outcome State Fault Refusal := run s (s.when s.clockOn (fun s => s.ledgerStart kScrub))

/-- VOLUME_SCRUB_END (R391). -/
def execVolumeScrubEnd (s : State) : Host.Outcome State Fault Refusal := run s (s.setActive kScrub false)

end Sys2Proof.Machine
end

