-- ==== Sys2Proof/Machine/Timers.lean ====
section
/-! DEFINITION. Timers: the step in the work of a tick, captures, triggers, make-up after standby (R329 to R334). -/

namespace Sys2Proof.Machine

/-- The timers that can do anything or show something: only a listed CFG, LINES or STAT register can have a bit set. -/
def State.liveTimers (s : State) : List Nat :=
  sortNat ((s.regs.filter (fun e => decide (0x100000 ≤ e.1 ∧ e.1 < 0x120000) &&
    [0x40, 0x44, 0x70].contains (e.1 % 0x1000))).map (fun e => (e.1 - 0x100000) / 0x1000) ++
    (s.tmr.filter (fun e => e.2.loaded)).map (fun e => e.1))

/-- STAT.WINDOW shows the level that the WINDOW source of each timer takes at a boundary (Table 13-1). -/
def State.windowLevels (s : State) : State := s.forEach s.liveTimers (fun s n => s.putBit (Reg.TMR.STAT.WINDOW n) (s.timerWindow n))

/-- Step 1: a capture edge taken in this tick (R333). -/
def State.timerCapture (s : State) (n : Nat) : State :=
  if !s.bit (Reg.TMR.LINES.CAP_EN n) then s
  else
    match s.roseAt (s.get (Reg.TMR.LINES.CAP_LINE n)) with
    | none => s
    | some t =>
      let p := page .tmr n
      let full := s.bit (Reg.TMR.STAT.CAP_FULL n)
      let s := (s.put (Reg.TMR.CAPTURE.C n) (s.get (Reg.TMR.COUNT.C n))).onTmr n (fun x => { x with capAt := t })
      let s := if full then ((s.put (Reg.TMR.STAT.OVERRUN n) 1).raise p 3).err p else s
      (s.put (Reg.TMR.STAT.CAP_FULL n) 1).raise p 2

/-- A trigger reaches the timer: a rise of SLV_LINE, or a slot's ACTION 7 of the tick before. -/
def State.timerTriggered (s : State) (n : Nat) : Bool :=
  s.rose (s.get (Reg.TMR.LINES.SLV_LINE n)) || s.dueActs.any (fun d => d.action == 7 && d.param % 32 == n && d.at_ / 128 + 1 == s.tick)

/-- One count: the new C, whether it overflowed, whether it matches; a MATCH above RELOAD never does (R329). A wrap that is no overflow
raises no event (R332). -/
def countStep (c reload mtch : Nat) : Nat × Bool × Bool :=
  let isOver := c == reload
  let c' := if isOver then 0 else (c + 1) % 2 ^ 32
  (c', isOver, c' == mtch && decide (mtch ≤ reload) && (isOver || c' != 0))

/-- One timer's step; `below` says whether timer n - 1 overflowed in this tick. Answers whether it overflowed. -/
def State.timerStep (s : State) (n : Nat) (below : Bool) : State × Bool :=
  let s := s.timerCapture n
  let slave := s.get (Reg.TMR.CFG.SLAVE n)
  let trig := s.timerTriggered n
  let gate := s.evt.prevLevel.contains (s.get (Reg.TMR.LINES.SLV_LINE n))
  let zero := trig && (slave == 2 || slave == 4)
  let go := trig && (slave == 3 || slave == 4) && !(s.timer n).dead
  let s := if zero then (s.put (Reg.TMR.COUNT.C n) 0).put (Reg.TMR.PRESC.P n) 0 else s
  let s := if go then s.put (Reg.TMR.CFG.RUN n) 1 else s
  let s := s.putBit (Reg.TMR.STAT.GATE n) (slave == 1 && gate)
  let loaded := (s.timer n).loaded
  let s := s.onTmr n (fun x => { x with loaded := false })
  let src := s.get (Reg.TMR.CFG.CLKSRC n)
  let event := if src = 0 then true else if src = 1 then below else s.rose (s.get (Reg.TMR.LINES.CLK_LINE n))
  if !s.bit (Reg.TMR.CFG.RUN n) || (slave == 1 && !gate) || loaded || zero || !event then (s, false)
  else
    let p := s.get (Reg.TMR.PRESC.P n)
    if p + 1 ≤ s.get (Reg.TMR.CFG.PSC n) then (s.put (Reg.TMR.PRESC.P n) (p + 1), false)
    else
      let r := countStep (s.get (Reg.TMR.COUNT.C n)) (s.get (Reg.TMR.RELOAD.RELOAD n)) (s.get (Reg.TMR.MATCH.MATCH n))
      let s := (s.put (Reg.TMR.PRESC.P n) 0).put (Reg.TMR.COUNT.C n) r.1
      let s := if r.2.1 then (s.raise (page .tmr n) 0).pulseSource (3 * n) else s
      let s := if r.2.2 then (s.raise (page .tmr n) 1).pulseSource (3 * n + 1) else s
      (if r.2.1 && s.bit (Reg.TMR.CFG.ONESHOT n) then s.put (Reg.TMR.CFG.RUN n) 0 else s, r.2.1)

/-- Every timer in ascending number (R331). -/
def State.timersStep (s : State) : State :=
  (s.liveTimers.foldl (fun (a : State × Option Nat) n =>
    let r := a.1.timerStep n (a.2 == some n)
    (r.1, if r.2 then some (n + 1) else none)) (s, none)).1

/-- The make-up of one timer for so many ticks; `below` counts the overflows of timer n - 1. Answers its own (R334). -/
def State.timerMakeup (s : State) (n delta below : Nat) : State × Nat :=
  let p := s.get (Reg.TMR.PRESC.P n)
  let psc := s.get (Reg.TMR.CFG.PSC n)
  let src := s.get (Reg.TMR.CFG.CLKSRC n)
  if !s.bit (Reg.TMR.CFG.RUN n) || s.get (Reg.TMR.CFG.SLAVE n) == 1 || src == 2 then (s, 0)
  else
    let add := if src = 0 then delta else below
    let k := (p + add) / (psc + 1)
    let s := s.put (Reg.TMR.PRESC.P n) ((p + add) % (psc + 1))
    if k = 0 then (s, 0)
    else
      let c := s.get (Reg.TMR.COUNT.C n)
      let m := s.get (Reg.TMR.RELOAD.RELOAD n) + 1
      let once := s.bit (Reg.TMR.CFG.ONESHOT n) && decide (c ≤ m) && decide (m ≤ c + k)
      let ovf := if once then 1 else (c + k) / m
      let s := if once then (s.put (Reg.TMR.COUNT.C n) 0).put (Reg.TMR.CFG.RUN n) 0 else s.put (Reg.TMR.COUNT.C n) ((c + k) % m)
      let s := (s.put (Reg.TMR.MAKEUP_OVF.COUNT n) (min ovf (2 ^ 32 - 1))).put (Reg.TMR.MAKEUP_DT.TICKS n) (min delta (2 ^ 32 - 1))
      ((s.put (Reg.TMR.STAT.MADEUP n) 1).raise (page .tmr n) 4, ovf)

/-- The make-up of every timer at the first work after wake, when it is due. -/
def State.timersMakeup (s : State) : State :=
  if !s.power.makeupDue then s
  else
    let delta := s.tick - s.power.lastWork - 1
    let s := { s with power := { s.power with makeupDue := false } }
    (s.liveTimers.foldl (fun (a : State × Nat × Nat) n =>
      let r := a.1.timerMakeup n delta (if a.2.1 = n then a.2.2 else 0)
      (r.1, n + 1, r.2)) (s, 0, 0)).1

/-- CMD = LOAD (R332): C is LOADV, P is 0. -/
def State.timerLoad (s : State) (n : Nat) : State :=
  (s.put (Reg.TMR.COUNT.C n) (s.get (Reg.TMR.LOADV.VALUE n))).put (Reg.TMR.PRESC.P n) 0

/-- TIMER_LOAD (R332): in the current tick, whose count it stands over. -/
def execTimerLoad (t : TmrNo) (s : State) : Host.Outcome State Fault Refusal :=
  run s (s.when s.scanning (fun s => s.timerLoad t))

end Sys2Proof.Machine
end

