-- ==== Sys2Proof/Machine/Access.lean ====
section
/-! DEFINITION. Access codes and reserved encodings (R13 to R15), plain register writes, and what every register reads as
(R285, R287). -/

namespace Sys2Proof.Machine

/-! ### Reserved encodings (R15) -/

/-- A value is no reserved encoding of a field. DESIGN CHOICE (log entry 30): the tooth of a CAM window is judged against the POS_M1 in
force when it is staged; R15 and Table 4-9 do not say which. -/
def State.legal (s : State) (addr : Nat) (f : RegField) (v : Nat) : Bool :=
  match f.legal with
  | .any => true
  | .nz => v != 0
  | .within a b => decide (a ≤ v ∧ v ≤ b)
  | .zeroOrFrom n => v == 0 || decide (n ≤ v)
  | .perm => [0, 1, 2, 3].all (fun d => (List.range 4).any (fun k => v / 4 ^ k % 4 == d))
  | .trim => decide (-16777 ≤ signed 16 v ∧ signed 16 v ≤ 16777)
  | .camAngle => decide (v / 1024 ≤ s.get (Reg.WHL.CFG.POS_M1 ((addr - 0x10000) / 0x1000)))
  | .clkSrc => decide (v < 3) && !(v == 1 && addr == 0x100040)
  | .space => v == 0 || v == 1 || decide (4 ≤ v ∧ v ≤ 7)

/-- The fields of a register; none where the offset names none. -/
def fieldsAt (addr : Nat) : List RegField :=
  match regRow addr with
  | some r => r.fields
  | none => []

/-- A value with the fields of some access codes taken from another; a reserved encoding leaves its field as it was. -/
def State.merge (s : State) (addr : Nat) (codes : List Acc) (old v : Word) : Word :=
  (fieldsAt addr).foldl (fun w f =>
    let x := Word.bits v f.hi f.lo
    if codes.contains f.acc && s.legal addr f x then Word.withBits w f.hi f.lo x else w) old

/-- The register has a field of one of these access codes. -/
def hasAcc (addr : Nat) (codes : List Acc) : Bool := (fieldsAt addr).any (fun f => codes.contains f.acc)

/-- The bits of the fields of some access codes. -/
def accMask (addr : Nat) (codes : List Acc) : Nat :=
  ((fieldsAt addr).filter (fun f => codes.contains f.acc)).foldl (fun m f => m + (2 ^ (f.hi + 1 - f.lo) - 1) * 2 ^ f.lo) 0

/-- A write of a dword to the register file: RW fields take the value, W1C and WAC fields clear, the rest ignore it (R13). -/
def State.plainWrite (s : State) (addr : Nat) (v : Word) : State :=
  let w := s.merge addr [.rw] (s.reg addr) v
  let w := (fieldsAt addr).foldl (fun w f =>
    let x := Word.bits v f.hi f.lo
    match f.acc with
    | .w1c => Word.withBits w f.hi f.lo ((Word.bits w f.hi f.lo) - ((Word.bits w f.hi f.lo) &&& x))
    | .wac => if x + 1 = 2 ^ (f.hi + 1 - f.lo) then Word.withBits w f.hi f.lo 0 else w
    | _ => w) w
  s.setReg addr w

/-! ### Registers that a door holds for itself -/

/-- Offsets of the captured registers of a block's page. -/
def snapOffsets : Block → List Nat
  | .clk => [0x64, 0x68, 0x7C, 0x80]
  | .inp => [0x108, 0x10C, 0x110]
  | .whl => [0x70, 0x78, 0x7C, 0x80, 0x84]
  | .scn => [0x80, 0x84]
  | .plc => [0x80]
  | .drv => [0x70, 0x74]
  | .adc => [0x5C, 0x60]
  | .irq => [0x4C, 0x50]
  | .tmr => [0x64, 0x68, 0x6C]
  | .flt => [0x50, 0x54, 0x58]
  | .dor => [0x80, 0x84, 0x88, 0x8C]
  | .glb | .pwr | .prf | .lnk | .recorder | .mem | .stg | .irqd | .dma | .evt => []

/-- Offsets of the selectors of a block's page (R290 and the pages that follow its manner). -/
def selOffsets : Block → List Nat
  | .whl => [0x60, 0xA4]
  | .scn => [0x4C, 0x78]
  | .plc => [0x78]
  | .lnk => [0x5C]
  | .irq => [0x40, 0x54]
  | .evt => [0x300]
  | .flt => [0x48]
  | .glb | .clk | .pwr | .prf | .inp | .drv | .adc | .recorder | .mem | .stg | .irqd | .tmr | .dma | .dor => []

/-- What door d holds in a selector. -/
def State.selOf (s : State) (d addr : Nat) : Nat := ((s.door d).sel.get (fun _ => 0) addr).toNat

/-- What door d has captured in a register. -/
def State.snapOf (s : State) (d addr : Nat) : Word := (s.door d).snap.get (fun _ => 0) addr

/-- Puts the captured registers of a door, and the dword that its read returns. -/
def State.captures (s : State) (d : Nat) (v : Word) (l : List (Nat × Word)) : State := s.onDoor d (fun x => x.capture v l)

/-! ### The common head (R287) -/

/-- Pending commits of a door, across all its stages. -/
def State.pendingOf (s : State) (d : Nat) : Nat := (s.commits.filter (fun c => c.door == d)).length

/-- The stage of a door for a page holds a value; the SCN page stands for the slot and endpoint stages. -/
def State.staged (s : State) (d p : Nat) : Bool :=
  let x := s.door d
  if p = page .scn 0 then !x.slotStage.isEmpty || !x.eptStage.isEmpty
  else x.stage.any (fun e => pageBase e.1 == p)

/-- The doors of a compartment, as a mask. -/
def State.doorsOf (s : State) (c : Nat) : Nat := ([0, 1, 2, 3].filter (fun d => s.comp d == c)).foldl (fun m d => m + 2 ^ d) 0

/-- PG_OWNER.COMP: of a DOR or IRQD page the compartment of its door. -/
def State.ownerOf (s : State) (b : Block) (n : Nat) : Nat :=
  match b with
  | .dor | .irqd => s.comp n
  | .glb | .clk | .pwr | .prf | .flt | .whl | .inp | .scn | .plc | .lnk | .drv | .adc | .recorder | .mem | .stg | .irq | .tmr
  | .dma | .evt => s.pageComp (page b n)

/-- A door may write the fields of a page under the page-owner rule. -/
def State.mayWrite (s : State) (d : Nat) (b : Block) (n : Nat) : Bool :=
  if b = .irqd then d == n else s.ownerOf b n == s.comp d

/-- A register of the head as door d reads it. -/
def State.readHead (s : State) (d : Nat) (b : Block) (n off : Nat) : Word :=
  let p := page b n
  let o := (s.door d).outcome.get (fun _ => ⟨0, 0⟩) p
  match off with
  | 0x00 => BitVec.ofNat 32 (b.code * 2 ^ 16 + n * 2 ^ 8 + 1)
  | 0x04 => BitVec.ofNat 32 ((if b.hasCommit then 2 ^ 7 else 0) + (if b.hasShutter then 2 ^ 6 else 0) + b.nsrc)
  | 0x0C => BitVec.ofNat 32 (s.pendingOf d * 2 ^ 4 + (if s.staged d p then 2 ^ 3 else 0) + o.code)
  | 0x10 => s.reg (p + 0x10)
  | 0x14 => s.reg (p + 0x14)
  | 0x18 => s.irqStat p
  | 0x1C => s.reg (p + 0x1C)
  | 0x20 => BitVec.ofNat 32 o.tick
  | 0x24 => s.snapOf d (p + 0x24)
  | 0x28 => BitVec.ofNat 32 ((if s.mayWrite d b n then 2 ^ 8 else 0) + s.doorsOf (s.ownerOf b n) * 2 ^ 4 + s.ownerOf b n)
  | 0x2C => s.reg (p + 0x2C)
  | _ => 0

/-! ### Computed registers -/

/-- A 32-bit register that saturates. -/
def sat32 (n : Nat) : Word := BitVec.ofNat 32 (min (2 ^ 32 - 1) n)

/-- CLK registers computed from the timebase. -/
def State.readClk (s : State) (off : Nat) : Option Word :=
  match off with
  | 0x60 => some (BitVec.ofNat 32 s.tick)
  | 0x70 => some (BitVec.ofNat 32 (unsigned 64 (s.clk.htOfs / 65536)))
  | 0x74 => some (BitVec.ofNat 32 (unsigned 64 (s.clk.htOfs / 65536) / 2 ^ 32))
  | 0x78 => some (BitVec.ofNat 32 (s.clk.htOfs % 65536).toNat)
  | 0x94 =>
    (match s.clk.slew with
     | some w => some (BitVec.ofNat 32 (unsigned 32 (if w.negative then -((w.left / 65536 : Nat) : Int) else ((w.left / 65536 : Nat) : Int))))
     | none => some 0)
  | _ => none

/-- Live and reserved carriages of a coach. -/
def State.coachOcc (s : State) (c : Nat) : Nat := (s.fabric.carr.filter (fun e => coachOf e.1 == c)).length

/-- A count of the fabric as its register shows it: 0, its reset value, until self-test has ended (R199, R200; DEDUCED, log entry 34). -/
def State.afterTest (s : State) (n : Nat) : Nat := if s.devState < 5 then 0 else n

/-- A count of carriages in its field of 18 bits; the spec does not say what a count of 2^18 reads as. -/
def count18 (n : Nat) : Word := if n < 2 ^ 18 then BitVec.ofNat 32 n else Config.fullCount.setWidth 32

/-- SCN registers computed from the fabric (R197, R199). -/
def State.readScn (s : State) (d off : Nat) : Option Word :=
  let c := s.selOf d (page .scn 0 + 0x4C)
  match off with
  | 0x40 => some (BitVec.ofNat 32 ((if s.power.is1024 then 1024 else 2048) * 2 ^ 16 + 0x80 * 2 ^ 8 + 0x10))
  | 0x44 => some (BitVec.ofNat 32 (s.afterTest s.healthy * 2 ^ 16 + s.kLimit * 2 ^ 8 + s.get Reg.SCN.STAT.LOST * 4 +
      s.get Reg.SCN.STAT.DEGRADED * 2 + (if s.scanning then 1 else 0)))
  | 0x50 => some (BitVec.ofNat 32 ((s.coach c).cause * 2 ^ 16 + s.coachOcc c * 2 ^ 8 + (s.coach c).state))
  | 0x54 => some (sat32 (s.coach c).ce)
  | 0x64 => some (BitVec.ofNat 32 (sortNat ((s.fabric.carr.filter (fun e => e.2.role == 1 && s.isSingle e.2.handle)).map
      (fun e => e.2.handle))).length)
  | 0x74 => some (BitVec.ofNat 32 ((if (s.door d).overflow then 2 ^ 13 else 0) +
      (sortNat ((s.door d).slotStage.map (fun e => e.1 / 8))).length))
  | _ =>
    if 0x100 ≤ off ∧ off < 0x200 then
      some (BitVec.ofNat 32 ((List.range 32).foldl (fun m b =>
        let st := (s.coach ((off - 0x100) / 4 * 32 + b)).state
        if 2 ≤ st then m + 2 ^ b else m) 0))
    else none

/-- HANDLE_LOC of a carriage with one of some roles. -/
def State.handleLoc (s : State) (h : Nat) (role : Nat → Bool) : Word :=
  match s.carriageWith h role with
  | some (a, c) => BitVec.ofNat 32 (2 ^ 31 + c.role * 2 ^ 29 + a)
  | none => 0

/-- PLC registers computed from the fabric (R190, R197). -/
def State.readPlc (s : State) (d off : Nat) : Option Word :=
  match off with
  | 0x48 => some (count18 (s.afterTest (s.freeAt 0)))
  | 0x4C => some (count18 (s.afterTest (s.freeAt 1)))
  | 0x50 => some (count18 (s.afterTest (s.freeAt 2)))
  | 0x54 => some (count18 (s.afterTest s.protRoom))
  | 0x58 => some (count18 s.occupied)
  | 0x5C => some (BitVec.ofNat 32 s.fabric.moves.length)
  | 0x70 => some (BitVec.ofNat 32 s.fabric.recreate.length)
  | 0x7C => some (s.handleLoc (s.selOf d (page .plc 0 + 0x78)) (fun r => r == 1 || r == 3))
  | _ => none

/-- A round trip as DLY_P and DLY_Q show it. -/
def delayWord : Option Nat → Word
  | some x => BitVec.ofNat 32 (2 ^ 31 + x % 2 ^ 23)
  | none => 0

/-- LNK registers of the node that door d has selected, and the queues (R215, R229, R218). -/
def State.readLnk (s : State) (d n off : Nat) : Option Word :=
  let x := (s.link n).nodes.get (fun _ => LNode.reset) (s.selOf d (page .lnk n + 0x5C))
  match off with
  | 0x60 => some (delayWord x.dP)
  | 0x64 => some (delayWord x.dQ)
  | 0x68 => some (BitVec.ofNat 32 (x.faults * 2 ^ 8 + x.nstate))
  | 0x74 => some (BitVec.ofNat 32 ((s.link n).sample.length * 2 ^ 16 + (s.link n).deadline.length))
  | _ => none

/-- DRV registers computed from the stage (R239, R245). -/
def State.readDrv (s : State) (n off : Nat) : Option Word :=
  match off with
  | 0x5C => some (Word.withBits (s.reg (page .drv n + 0x5C)) 9 6 ((s.drive n).passes.filter (fun p => p.taken)).length)
  | 0x64 => some (sat32 (s.dutyUsed n s.now))
  | 0x68 => some (sat32 (s.dutyBudget n))
  | _ => none

/-- ADC STAT with the depth of the urgent queue. -/
def State.readAdc (s : State) (n off : Nat) : Option Word :=
  match off with
  | 0x64 => some (Word.withBits (s.reg (page .adc n + 0x64)) 15 12 (s.unit n).urgent.length)
  | _ => none

/-- IRQ registers of the source and group that door d has selected (R305, R323). -/
def State.readIrq (s : State) (d off : Nat) : Option Word :=
  let k := s.selOf d (page .irq 0 + 0x40)
  let g := s.grp (s.selOf d (page .irq 0 + 0x54))
  match off with
  | 0x44 => some (if sourceExists k then (s.src k).cfg else 0)
  | 0x48 => some (s.srcStat k)
  | 0x58 => some (g.newCfg.getD g.cfg)
  | 0x5C => some (g.newTime.getD g.time)
  | 0x60 => some (s.grpStat (s.selOf d (page .irq 0 + 0x54)))
  | 0x64 => some s.pendCnt
  | _ => none

/-- EVT LINE_STAT of the line that door d has selected. -/
def State.readEvt (s : State) (d off : Nat) : Option Word :=
  match off with
  | 0x304 =>
    let x := s.selOf d (page .evt 0 + 0x300)
    let l := s.line x
    some (BitVec.ofNat 32 ((if s.hostTimed x then 2 ^ 31 else 0) + (if l.boundary then 2 ^ 30 else 0) +
      (min 255 (s.routes.filter (fun r => r.2 == x)).length) * 2 ^ 16 + min 0xFFFF l.edges))
  | _ => none

/-- The log entry that door d has selected. -/
def State.logSel (s : State) (d : Nat) : Option LogEntry := s.flt.log.find (s.selOf d (page .flt 0 + 0x48))

/-- FLT LOG_INFO. -/
def State.readFlt (s : State) (d off : Nat) : Option Word :=
  match off with
  | 0x4C =>
    (match s.logSel d with
     | some e => some (BitVec.ofNat 32 (e.cause % 256 * 2 ^ 24 + e.block % 256 * 2 ^ 16 + e.num % 256 * 2 ^ 8 + e.action % 4 * 2 ^ 6 + 1))
     | none => some 0)
  | _ => none

/-- Two entries of a correction table as a CORR register shows them. -/
def corrPair (t : Sparse Int) (k : Nat) : Word :=
  BitVec.ofNat 32 (unsigned 10 (t.get (fun _ => 0) (k + 1)) * 2 ^ 16 + unsigned 10 (t.get (fun _ => 0) k))

/-- A register of the ring window (R131). -/
def State.ringReg (s : State) (n e part : Nat) : Word :=
  match (s.tracker n).ring.find e with
  | none => 0
  | some r =>
    (match part with
     | 0 => BitVec.ofNat 32 (r.ts / 128)
     | 1 => BitVec.ofNat 32 (r.ts / 128 / 2 ^ 32)
     | 2 => if r.discard then 0 else BitVec.ofNat 32 r.period
     | _ => BitVec.ofNat 32 (2 ^ 23 + (if r.gap then 2 ^ 22 else 0) + (if r.discard then 2 ^ 21 else 0) + (if r.rev then 2 ^ 20 else 0) +
         r.ts % 128 * 2 ^ 10 + r.tooth % 1024))

/-- WHL registers: HOLD as the angle stands now, the correction window and the ring window of door d. -/
def State.readWhl (s : State) (d n off : Nat) : Option Word :=
  let p := page .whl n
  let tr := s.tracker n
  if off = 0x64 then
    let hold := match tr.pred with
      | some q => s.atHold n q s.now
      | none => false
    some (Word.withBits (s.reg (p + 0x64)) 6 6 (if hold then 1 else 0))
  else if 0x400 ≤ off ∧ off < 0x800 then
    let sel := s.selOf d (p + 0x60)
    some (corrPair (if sel / 2 = 1 then tr.corrSh else tr.corrFg) (sel % 2 * 512 + (off - 0x400) / 4 * 2))
  else if 0x800 ≤ off then some (s.ringReg n (s.selOf d (p + 0xA4) * 128 + (off - 0x800) / 16) (off / 4 % 4))
  else none

/-- PRF registers that show the fuses. -/
def State.readPrf (s : State) (off : Nat) : Option Word :=
  if off = 0x8C then some (BitVec.ofNat 32 ((if s.power.keyBurnt then 2 else 0) + (if s.power.sigReq then 1 else 0)))
  else if 0x90 ≤ off ∧ off < 0xB0 ∧ s.power.keyBurnt then some (s.power.keyHash.getD ((off - 0x90) / 4) 0)
  else none

/-- DOR registers: the door's compartment and number. -/
def State.readDor (s : State) (n off : Nat) : Option Word :=
  match off with
  | 0x40 => some (BitVec.ofNat 32 (s.comp n * 2 ^ 4 + n))
  | _ => none

/-- The computed value of a register beside the head, where it has one. -/
def State.computed (s : State) (d : Nat) (b : Block) (n off : Nat) : Option Word :=
  match b with
  | .glb => if off = 0x40 then some (BitVec.ofNat 32 Config.stepping.toNat) else none
  | .clk => s.readClk off
  | .prf => s.readPrf off
  | .flt => s.readFlt d off
  | .whl => s.readWhl d n off
  | .scn => s.readScn d off
  | .plc => s.readPlc d off
  | .lnk => s.readLnk d n off
  | .drv => s.readDrv n off
  | .adc => s.readAdc n off
  | .irq => s.readIrq d off
  | .irqd => if off = 0x60 then some (s.doorIrqStat n) else none
  | .evt => s.readEvt d off
  | .dor => s.readDor n off
  | .pwr | .inp | .recorder | .mem | .stg | .tmr | .dma => none

/-- What a dword of BAR0 reads as at door d, without the side effects of the read (R285, R287). -/
def State.readReg (s : State) (d addr : Nat) : Word :=
  if 0xF00000 ≤ addr ∧ addr < 0xF04000 then (s.door d).msixWord ((addr - 0xF00000) / 4)
  else if 0xF04000 ≤ addr ∧ addr < 0xF04080 then s.pbaWord d ((addr - 0xF04000) / 4)
  else
    match pageOf addr with
    | none => 0
    | some (b, n) =>
      let off := addr % 0x1000
      if off < 0x40 then s.readHead d b n off
      else if (snapOffsets b).contains off then (if b = .dor ∧ n ≠ d then 0 else s.snapOf d addr)
      else if (selOffsets b).contains off then (s.door d).sel.get (fun _ => 0) addr
      else
        match s.computed d b n off with
        | some v => v
        | none => if (regRow addr).isSome then s.reg addr else 0

/-- What a dword of BAR2 reads as (R140, R201): a slot word, W7 being the result, or four endpoint bytes. -/
def State.readBar2 (s : State) (off : Nat) : Word :=
  match bar2At off with
  | .slotWord h k =>
    if k = 0 then s.slotW0 h
    else if k = 7 then
      let x := s.slotSeen h
      BitVec.ofNat 32 (x.flags % 256 * 2 ^ 24 + x.rev8 % 256 * 2 ^ 16 + x.passCnt % 65536)
    else (s.slotSeen h).word k
  | .eptBytes a => BitVec.ofNat 32 ((List.range 4).foldl (fun m i => m + (s.eptByte (a + i)).toNat % 256 * 256 ^ i) 0)
  | .hole => 0

/-! ### Reads with side effects -/

/-- Low and high word of a number. -/
def lowHigh (lo hi v : Nat) : List (Nat × Word) := [(lo, BitVec.ofNat 32 v), (hi, BitVec.ofNat 32 (v / 2 ^ 32))]

/-- The instant a pair of captured registers and a sub-tick show. -/
def instantRegs (lo hi sub t : Nat) : List (Nat × Word) := lowHigh lo hi (t / 128) ++ [(sub, BitVec.ofNat 32 (t % 128))]

/-- The angle of wheel w at sub-tick st, and the registers that a read of it captures (R139): the reset value 0 until an angle has
been known; after it has been lost, the value that no rule states is free. -/
def State.angleRead (s : State) (d w st : Nat) : State :=
  let p := page .whl w
  let tr := s.tracker w
  let r : Word × State :=
    match tr.pred with
    | some q => (BitVec.ofNat 32 (thetaOf (s.wRange w) q.rev (s.angleAt w q (s.now + st))), s)
    | none =>
      if !tr.angled then (0, s)
      else
        let x := s.drawWord
        (Word.withBits x.1 31 20 0, x.2)
  r.2.captures d r.1 ([(p + 0x70, BitVec.ofNat 32 tr.rev), (p + 0x78, BitVec.ofNat 32 tr.b)] ++
    lowHigh (p + 0x7C) (p + 0x80) (tr.lastTs / 128) ++
    [(p + 0x84, BitVec.ofNat 32 (tr.lastTs % 128 * 2 ^ 10 + tr.lastPos % 1024))])

/-- A read of LATCH_POS (R104). -/
def State.latchRead (s : State) (d ch : Nat) : State :=
  let p := page .inp ch
  let c := s.inpCh ch
  s.captures d (s.reg (p + 0x104)) (lowHigh (p + 0x108) (p + 0x10C) (c.latchTs / 128) ++
    [(p + 0x110, BitVec.ofNat 32 (c.latchTs % 128 + (if c.latchDir then 2 ^ 7 else 0) + (if c.latchNoPer then 2 ^ 8 else 0) +
      (if c.latchDirChg then 2 ^ 9 else 0)))])

/-- A read of TICK_LO at sub-tick st (R58). -/
def State.tickRead (s : State) (d st : Nat) : State :=
  let p := page .clk 0
  let ns := unsigned 64 (s.hostNs s.tick st)
  s.captures d (BitVec.ofNat 32 s.tick) ([(p + 0x64, BitVec.ofNat 32 (s.tick / 2 ^ 32)), (p + 0x68, BitVec.ofNat 32 st)] ++
    lowHigh (p + 0x7C) (p + 0x80) ns)

/-- A read of LAST_END_LO (R257): LAST_END_HI and LAST_END_ST stand in the register file. -/
def State.lastEndRead (s : State) (d n : Nat) : State :=
  let p := page .drv n
  s.captures d (s.reg (p + 0x6C)) [(p + 0x70, s.reg (p + 0x70)), (p + 0x74, s.reg (p + 0x74))]

/-- PENDING is cleared by a read of DATA (R266). -/
def State.dataTaken (s : State) (u : Nat) : State := s.put (Reg.ADC.STAT.PENDING u) 0

/-- A read of DATA (R271). -/
def State.adcDataRead (s : State) (d u : Nat) : State :=
  let p := page .adc u
  (s.captures d (s.reg (p + 0x58)) (lowHigh (p + 0x5C) (p + 0x60) (s.unit u).dataTick)).dataTaken u

/-- CAP_FULL is cleared by a read of CAPTURE (R333). -/
def State.captureTaken (s : State) (t : Nat) : State := s.put (Reg.TMR.STAT.CAP_FULL t) 0

/-- A read of CAPTURE (R333). -/
def State.captureRead (s : State) (d t : Nat) : State :=
  let p := page .tmr t
  (s.captures d (s.reg (p + 0x60)) (instantRegs (p + 0x64) (p + 0x68) (p + 0x6C) (s.timer t).capAt)).captureTaken t

/-- A read of SRC_STAT (R323). -/
def State.srcStatRead (s : State) (d : Nat) : State :=
  let p := page .irq 0
  let k := s.selOf d (p + 0x40)
  s.captures d (s.srcStat k) (lowHigh (p + 0x4C) (p + 0x50) (if sourceExists k then (s.src k).assert else 0))

/-- A read of LOG_INFO (R395). -/
def State.logRead (s : State) (d : Nat) : State :=
  let p := page .flt 0
  match s.logSel d with
  | some e => s.captures d (s.readReg d (p + 0x4C)) (lowHigh (p + 0x50) (p + 0x54) e.tick ++ [(p + 0x58, e.data)])
  | none => s.captures d 0 (lowHigh (p + 0x50) (p + 0x54) 0 ++ [(p + 0x58, 0)])

/-- A read of PG_COMMIT of a page (R287). -/
def State.commitRead (s : State) (d p : Nat) : State :=
  let o := (s.door d).outcome.get (fun _ => ⟨0, 0⟩) p
  s.captures d (BitVec.ofNat 32 o.tick) [(p + 0x24, BitVec.ofNat 32 (o.tick / 2 ^ 32))]

/-- A read of W7 of slot h (R161). -/
def State.resultRead (s : State) (d h : Nat) : State :=
  let p := page .dor d
  let x := s.slotSeen h
  s.captures d (s.readBar2 (h * 32 + 28)) [(p + 0x80, BitVec.ofNat 32 h), (p + 0x84, x.resRev), (p + 0x88, x.resStart), (p + 0x8C, x.resEnd)]

/-- A read of HANDLE_LOC_A (R200). -/
def State.handleLocRead (s : State) (d : Nat) : State :=
  let p := page .plc 0
  let h := s.selOf d (p + 0x78)
  s.captures d (s.handleLoc h (fun r => r == 1 || r == 3)) [(p + 0x80, s.handleLoc h (fun r => r == 2))]

/-- The carriage that a peek finds at an entry: the source of a move keeps its words to the end of the switch tick (R193). -/
def State.carriageSeen (s : State) (a : Nat) : Carriage :=
  match s.fabric.left.find a with
  | some e => e.2
  | none => s.carriage a

/-- TYPE of a live carriage: a slot that takes TYPE NONE keeps that of its pass until the pass is over (R146, Table 6-1). -/
def Slot.typeSeen (sl : Slot) : Nat :=
  if sl.typ = 0 then (match sl.pass with
    | some p => p.kind
    | none => 0)
  else sl.typ

/-- The match word of a carriage without its check bits (Table 6-1). The destination of a copy holds its source's words with ROLE EMPTY
(R193); of another EMPTY one the reserved bits, ROLE and TYPE are given, the rest is `rest`. -/
def State.matchBits (s : State) (a rest : Nat) : Nat :=
  let c := s.carriageSeen a
  let copy := s.fabric.moves.any (fun m => m.dst == a && m.copied)
  if c.role = 0 ∧ !copy then rest % 2 ^ 47 + rest / 2 ^ 54 % 2 ^ 8 * 2 ^ 54 + rest / 2 ^ 62 % 2 ^ 6 * 2 ^ 64
  else
    let x := s.slot c.handle
    let aux := if x.typeSeen = 1 then x.dur else if x.typeSeen = 2 then x.angB else 0
    c.role * 2 ^ 70 + c.wheel * 2 ^ 64 + x.typeSeen * 2 ^ 62 + (if x.arm then 2 ^ 61 else 0) + (if x.revOk then 2 ^ 60 else 0) +
      (if x.pass.isSome then 2 ^ 59 else 0) + (if epIsLink x.endpoint then epPort x.endpoint else 16) * 2 ^ 54 + x.angA * 2 ^ 27 + aux

/-- A peek (R186, R199): `ecc` is the error the read finds, uncorrectable or not. A word that cannot be corrected is free. -/
def State.peekRead (s : State) (d : Nat) (ecc : Option Bool) : State :=
  let p := page .scn 0
  let a := s.selOf d (p + 0x78)
  let c := coachOf a
  if !s.inService c then s.captures d 0 [(p + 0x80, 0), (p + 0x84, 0)]
  else
    let x := s.drawWord
    let y := x.2.drawWord
    let z := y.2.drawWord
    let junk := x.1.toNat + y.1.toNat * 2 ^ 32 + z.1.toNat * 2 ^ 64
    let m := s.matchBits a junk
    let w := if ecc = some true then junk % 2 ^ 80 else m + (Config.eccBits (BitVec.ofNat 72 m)).toNat * 2 ^ 72
    let s := if ecc = some true ∨ (s.carriageSeen a).role = 0 then z.2 else s
    let s := s.setCoach c { s.coach c with peeks := (s.coach c).peeks + 1 }
    let s := s.captures d (BitVec.ofNat 32 w) [(p + 0x80, BitVec.ofNat 32 (w / 2 ^ 32)), (p + 0x84, BitVec.ofNat 32 (w / 2 ^ 64))]
    match ecc with
    | none => s
    | some false => s.correctable c
    | some true =>
      let s := ((s.bump Reg.SCN.UE_CNT.COUNT).raise (page .scn 0) 2).err (page .scn 0)
      s.coachShutter c 2 0x10 (c + a % 128 * 2 ^ 16)

/-- A served read of a dword of BAR0 by door d at sub-tick st, with its side effects (R283). -/
def State.busRead (s : State) (d addr st : Nat) : State :=
  match pageOf addr with
  | none => s.captures d (s.readReg d addr) []
  | some (b, n) =>
    let off := addr % 0x1000
    if off = 0x20 then s.commitRead d (page b n)
    else
      match b, off with
      | .clk, 0x60 => s.tickRead d st
      | .inp, 0x104 => s.latchRead d n
      | .whl, 0x6C => s.angleRead d n st
      | .scn, 0x7C => s.peekRead d none
      | .plc, 0x7C => s.handleLocRead d
      | .drv, 0x6C => s.lastEndRead d n
      | .adc, 0x58 => s.adcDataRead d n
      | .irq, 0x48 => s.srcStatRead d
      | .tmr, 0x60 => s.captureRead d n
      | .flt, 0x4C => s.logRead d
      | _, _ => s.captures d (s.readReg d addr) []

end Sys2Proof.Machine
end

