-- ==== Sys2Proof/Machine/Dma.lean ====
section
/-! DEFINITION. DMA channels: start, bursts, bus errors, abort and the ways a transfer ends (R335 to R342). -/

namespace Sys2Proof.Machine

/-! ### The working copy -/

/-- SRC_SPACE of the working copy. -/
def Dma.srcSpace (x : Dma) : Nat := Word.bits x.cfg 31 28
/-- DST_SPACE. -/
def Dma.dstSpace (x : Dma) : Nat := Word.bits x.cfg 27 24
/-- SRC_INC. -/
def Dma.srcInc (x : Dma) : Bool := Word.bits x.cfg 23 23 == 1
/-- DST_INC. -/
def Dma.dstInc (x : Dma) : Bool := Word.bits x.cfg 22 22 == 1
/-- UNIT in bytes. -/
def Dma.unit (x : Dma) : Nat := 2 ^ Word.bits x.cfg 21 20
/-- RETRY. -/
def Dma.retry (x : Dma) : Nat := Word.bits x.cfg 19 16
/-- OP: 0 COPY, 1 FILL, 2 COMPARE. -/
def Dma.op (x : Dma) : Nat := Word.bits x.cfg 15 14
/-- WB_EN. -/
def Dma.wbEn (x : Dma) : Bool := Word.bits x.cfg 13 13 == 1
/-- WB_DOOR. -/
def Dma.wbDoor (x : Dma) : Nat := Word.bits x.cfg 12 11

/-- A space is host memory: 4 to 7. -/
def isHost (space : Nat) : Bool := decide (4 ≤ space)

/-- The configuration registers of channel c as a working copy. -/
def State.dmaCopy (s : State) (c : Nat) : Dma :=
  { s.channel c with
    src := s.get64 (Reg.DMA.SRC_LO.ADDR c) (Reg.DMA.SRC_HI.ADDR c)
    dst := s.get64 (Reg.DMA.DST_LO.ADDR c) (Reg.DMA.DST_HI.ADDR c)
    count := s.get (Reg.DMA.COUNT.BYTES c)
    cfg := s.reg (Reg.DMA.CFG.OP c).addr
    fill := s.reg (Reg.DMA.FILL.PATTERN c).addr
    wb := s.get64 (Reg.DMA.WB_LO.ADDR c) (Reg.DMA.WB_HI.ADDR c)
    done := 0
    tries := 0
    retryAt := 0 }

/-! ### Start (R335, R336) -/

/-- One side fails the checks of Table 13-4; `doors` is PG_OWNER.DOORS of the channel's page. -/
def sideBad (doors space addr count unit : Nat) (inc : Bool) : Bool :=
  let fixed := !inc && (addr % unit != 0 || count % unit != 0)
  if isHost space then fixed || !hasBit doors (space - 4) || decide (2 ^ 64 < addr + count)
  else
    let size := if space = 0 then 2 ^ 24 else 2 ^ 23
    fixed || addr % 4 != 0 || count % 4 != 0 || (!inc && decide (unit < 4)) || decide (size < addr + (if inc then count else unit))

/-- Table 13-4. FILL has no source, and a write-back side exists only with WB_EN at 1. -/
def Dma.bad (x : Dma) (doors : Nat) : Bool :=
  (!isHost x.dstSpace && x.op != 2) || (x.op != 1 && sideBad doors x.srcSpace x.src x.count x.unit x.srcInc) ||
    sideBad doors x.dstSpace x.dst x.count x.unit x.dstInc ||
    (x.wbEn && (x.wb % 8 != 0 || !hasBit doors x.wbDoor || decide (2 ^ 64 < x.wb + 8)))

/-- A start reaches channel c; one that failed its self-test applies none and counts each (R380, Table 15-3). -/
def State.dmaStart (s : State) (c : Nat) : State :=
  let p := page .dma c
  let x := s.dmaCopy c
  if x.dead then s.bump (Reg.DMA.START_LOST_CNT.COUNT c)
  else if s.get (Reg.DMA.STATUS.STATE c) ≠ 0 then (s.bump (Reg.DMA.START_LOST_CNT.COUNT c)).raise p 2
  else if x.bad (s.doorsOf (s.pageComp p)) then ((s.put (Reg.DMA.STATUS.RESULT c) 5).raise p 3).err p
  else ((s.setDma c x).put (Reg.DMA.STATUS.STATE c) 1).put (Reg.DMA.STATUS.RESIDUE c) x.count

/-! ### Ends (R339 to R342) -/

/-- The transfer is over with a result and the bytes that are left. -/
def State.dmaEnd (s : State) (c result residue : Nat) : State :=
  ((s.put (Reg.DMA.STATUS.STATE c) 0).put (Reg.DMA.STATUS.RESULT c) result).put (Reg.DMA.STATUS.RESIDUE c) residue

/-- DONE or MISMATCH: the DONE source pulses. -/
def State.dmaDone (s : State) (c result residue : Nat) : State :=
  ((s.dmaEnd c result residue).bump (Reg.DMA.DONE_CNT.COUNT c)).pulseSource (96 + c)

/-- Door d serves what the device sends or asks through it. -/
def State.doorUp (s : State) (d : Nat) : Bool := s.get (Reg.DOR.DOOR_STAT.STATE d) == 1

/-- Bytes go to host memory through a door. -/
def State.hostWrite (s : State) (d addr : Nat) (l : List Byte) (src : Nat) : State :=
  s.onDoor d (fun x => { x with hostWrites := x.hostWrites ++ [({ addr := addr, data := l, prio := 0, due := s.tick, src := src } : HostWrite)] })

/-- The write-back of final STATUS and ERR; one that fails shows in ERR.SIDE. -/
def State.dmaWriteBack (s : State) (c : Nat) : State :=
  let x := s.channel c
  if !x.wbEn then s
  else if s.doorUp x.wbDoor then
    s.hostWrite x.wbDoor x.wb (wordBytes (s.reg (Reg.DMA.STATUS.STATE c).addr) ++ wordBytes (s.reg (Reg.DMA.ERR.SIDE c).addr)) c
  else s.put (Reg.DMA.ERR.SIDE c) 3

/-- The channel halts or is aborted: result, write-back, then the page bit. -/
def State.dmaStop (s : State) (c result bit : Nat) : State :=
  let x := s.channel c
  ((s.dmaEnd c result (x.count - x.done)).dmaWriteBack c).raise (page .dma c) bit

/-- An aborted channel ends. -/
def State.dmaAborted (s : State) (c : Nat) : State := s.dmaStop c 4 1

/-- ERR of a failed burst; its count of attempts saturates (R38). -/
def State.dmaErr (s : State) (c side kind tries : Nat) : State :=
  ((s.put (Reg.DMA.ERR.SIDE c) side).put (Reg.DMA.ERR.KIND c) kind).put (Reg.DMA.ERR.TRIES c) (min 15 tries)

/-- The burst in hand meets a bus error (R340, R341). -/
def State.dmaFail (s : State) (c side kind : Nat) : State :=
  let x := s.channel c
  let st := s.get (Reg.DMA.STATUS.STATE c)
  let tries := x.tries + 1
  if st = 0 ∨ s.tick < x.retryAt then s
  else if st = 2 then (s.dmaErr c side kind tries).dmaAborted c
  else if tries ≤ x.retry then s.setDma c { x with tries := tries, retryAt := s.tick + 1 }
  else ((s.dmaErr c side kind tries).dmaStop c 3 0).err (page .dma c)

/-- CTRL.ABORT (R341): a burst that waits for its retry is none in progress, and the channel ends at once. -/
def State.dmaAbort (s : State) (c : Nat) : State :=
  if s.get (Reg.DMA.STATUS.STATE c) ≠ 1 then s
  else
    let s := s.put (Reg.DMA.STATUS.STATE c) 2
    if s.tick < (s.channel c).retryAt then s.dmaAborted c else s

/-! ### Bursts (R337, R338) -/

/-- The address of the next byte of a side. -/
def nextAddr (addr done : Nat) (inc : Bool) : Nat := if inc then addr + done else addr

/-- A burst of so many bytes may be made on a side. -/
def sideFits (space addr done unit len : Nat) (inc : Bool) : Bool :=
  (isHost space || len % 4 == 0) && (if inc then decide ((addr + done) % 256 + len ≤ 256) else len % unit == 0)

/-- What the device reads of its own spaces for a burst: dword by dword, with the side effects of a door's read and without its
snapshots; door number 5 is no door and is forgotten. `st` is the sub-tick of the reads. -/
def State.deviceRead (s : State) (space addr st : Nat) : Word × State :=
  if space = 0 then
    let t := s.busRead 5 addr st
    ((t.door 5).readData, t.setDoor 5 Door.reset)
  else (s.readBar2 addr, s)

/-- So many dwords of a device side from byte i on. -/
def State.deviceBytes (s : State) (space addr unit st : Nat) (inc : Bool) : Nat → Nat → State × List Byte
  | _, 0 => (s, [])
  | i, n + 1 =>
    let a := if inc then addr + i else addr + i % unit
    let r := s.deviceRead space a st
    let rest := r.2.deviceBytes space addr unit st inc (i + 4) n
    (rest.1, wordBytes r.1 ++ rest.2)

/-- The bytes of a side for a burst: those of host memory come with the command. -/
def State.sideBytes (s : State) (space addr done unit len st : Nat) (inc : Bool) (host : List Byte) : State × List Byte :=
  if isHost space then (s, host.take len) else s.deviceBytes space addr unit st inc done (len / 4)

/-- The bytes that FILL gives addresses a, a + 1 and so on. -/
def fillBytes (pattern : Word) (addr len unit : Nat) (inc : Bool) : List Byte :=
  (List.range len).map (fun i => BitVec.ofNat 8 (pattern.toNat / 256 ^ ((if inc then addr + i else addr + i % unit) % 4)))

/-- The first byte of two lists that differs. -/
def firstDiff : List Byte → List Byte → Nat → Option Nat
  | a :: l, b :: m, i => if a = b then firstDiff l m (i + 1) else some i
  | _, _, _ => none

/-- The writes of a burst to host memory: at one address, UNIT bytes each, on a fixed side. -/
def State.burstWrite (s : State) (x : Dma) (c : Nat) (l : List Byte) : State :=
  let d := x.dstSpace - 4
  if x.dstInc then s.hostWrite d (x.dst + x.done) l c
  else s.forEach (List.range (l.length / x.unit)) (fun s i => s.hostWrite d x.dst ((l.drop (i * x.unit)).take x.unit) c)

/-- A burst has been made: the transfer goes on, or ends when all is done or the channel is aborting. -/
def State.dmaMoved (s : State) (c len : Nat) : State :=
  let x := s.channel c
  let s := s.setDma c { x with done := x.done + len, tries := 0 }
  let left := x.count - (x.done + len)
  let s := s.put (Reg.DMA.STATUS.RESIDUE c) left
  if s.get (Reg.DMA.STATUS.STATE c) = 2 then s.dmaAborted c else if left = 0 then s.dmaDone c 1 0 else s

/-- A side goes through a door that is not UP (R340). -/
def State.sideDown (s : State) (space : Nat) : Bool := isHost space && !s.doorUp (space - 4)

/-- A burst of `len` bytes of channel c; `src` and `dst` are what the sides in host memory return. A burst of no bytes ends a
channel that was aborted between bursts. -/
def State.dmaBurst (s : State) (c len : Nat) (src dst : List Byte) : State :=
  let x := s.channel c
  let st := s.get (Reg.DMA.STATUS.STATE c)
  let reads := x.op != 1
  let bytesGiven := (!reads || !isHost x.srcSpace || decide (len ≤ src.length)) &&
    (x.op != 2 || !isHost x.dstSpace || decide (len ≤ dst.length))
  let fits := (!reads || sideFits x.srcSpace x.src x.done x.unit len x.srcInc) && sideFits x.dstSpace x.dst x.done x.unit len x.dstInc
  if st = 0 ∨ s.tick < x.retryAt then s
  else if len = 0 then (if st = 2 then s.dmaAborted c else s)
  else if x.count < x.done + len ∨ !fits ∨ !bytesGiven then s
  else if reads ∧ s.sideDown x.srcSpace then s.dmaFail c 1 5
  else if s.sideDown x.dstSpace then s.dmaFail c 2 5
  else
    let w := s.drawWord
    let at_ := w.1.toNat % 128
    let a := if reads then w.2.sideBytes x.srcSpace x.src x.done x.unit len at_ x.srcInc src
      else (s, fillBytes x.fill (nextAddr x.dst x.done x.dstInc) len x.unit x.dstInc)
    if x.op = 2 then
      let b := a.1.sideBytes x.dstSpace x.dst x.done x.unit len at_ x.dstInc dst
      match firstDiff a.2 b.2 x.done with
      | some i =>
        if st = 2 then b.1.dmaMoved c len else b.1.dmaDone c 2 (x.count - i)
      | none => b.1.dmaMoved c len
    else (a.1.burstWrite x c a.2).dmaMoved c len

/-! ### Commands -/

/-- Code of a bus error's side. -/
def sideCode : BusSide → Nat
  | .source => 1 | .destination => 2

/-- Code of a bus error's kind. -/
def kindCode : BusKind → Nat
  | .ur => 1 | .ca => 2 | .poisoned => 3 | .timeout => 4 | .door => 5

/-- DMA_BURST_DONE (R337). -/
def execDmaBurstDone (c : DmaNo) (len : Fin 257) (src dst : List Byte) (s : State) : Host.Outcome State Fault Refusal :=
  run s (s.dmaBurst c len src dst)

/-- DMA_BUS_ERROR (R340). -/
def execDmaBusError (c : DmaNo) (side : BusSide) (kind : BusKind) (s : State) : Host.Outcome State Fault Refusal :=
  run s (s.dmaFail c (sideCode side) (kindCode kind))

end Sys2Proof.Machine
end

