-- ==== Sys2Proof/Machine/Profile.lean ====
section
/-! DEFINITION. Profile images in the configuration flash: their format, checks and the choice between the copies (R359 to
R364). -/

namespace Sys2Proof.Machine

/-! ### Numbers in bytes -/

/-- A little-endian number. -/
def leNat : List Byte → Nat
  | [] => 0
  | b :: l => b.toNat + 256 * leNat l

/-- A big-endian number. -/
def beNat (l : List Byte) : Nat := l.foldl (fun a b => a * 256 + b.toNat) 0

/-- The little-endian dwords of a body; a tail shorter than a dword is dropped. -/
def leWords : List Byte → List Nat
  | a :: b :: c :: d :: l => leNat [a, b, c, d] :: leWords l
  | _ => []

/-- A number as so many bytes, most significant first. -/
def beBytes (v : Nat) : Nat → List Byte
  | 0 => []
  | n + 1 => BitVec.ofNat 8 (v / 256 ^ n) :: beBytes v n

/-! ### CRC-32C (R362) -/

/-- One byte of the reflected CRC. -/
def crcByte (c : Nat) (b : Byte) : Nat :=
  (List.range 8).foldl (fun x _ => if x % 2 = 1 then (x / 2) ^^^ 0x82F63B78 else x / 2) (c ^^^ b.toNat)

/-- CRC-32C: initial value and final inversion all ones. -/
def crc32c (l : List Byte) : Nat := l.foldl crcByte 0xFFFFFFFF ^^^ 0xFFFFFFFF

/-! ### SHA-256 and ECDSA over P-256 (R363). PRESUMED (log entry 10): R363 names them; their steps and constants are those of FIPS 180-4 and
FIPS 186-4. -/

/-- The first 64 primes. -/
def primes : List Nat := (List.range 312).filter (fun n => decide (1 < n) && (List.range n).all (fun d => decide (d < 2) || n % d != 0))

/-- The integer part of the k-th root of a number, in so many bits. -/
def rootFloor (k : Nat) : Nat → Nat → Nat
  | 0, _ => 0
  | bits + 1, v =>
    let r := 2 * rootFloor k bits (v / 2 ^ k)
    if (r + 1) ^ k ≤ v then r + 1 else r

/-- The first 32 bits of the fraction of the k-th root of a small number. -/
def rootFraction (k v : Nat) : Nat := rootFloor k 36 (v * 2 ^ (32 * k)) % 2 ^ 32

/-- The round constants: cube roots of the first 64 primes. -/
def shaRoundConstants : List Nat := primes.map (rootFraction 3)

/-- The initial hash value: square roots of the first eight primes. -/
def shaInit : List Nat := (primes.take 8).map (rootFraction 2)

/-- Rotation right of a dword. -/
def rotr (x n : Nat) : Nat := x / 2 ^ n + x % 2 ^ n * 2 ^ (32 - n)

/-- The message schedule, latest word first. -/
def shaExpand : Nat → List Nat → List Nat
  | 0, w => w
  | k + 1, w =>
    let at_ := fun i => w.getD (i - 1) 0
    let a := at_ 15
    let b := at_ 2
    let s0 := (rotr a 7 ^^^ rotr a 18) ^^^ (a / 2 ^ 3)
    let s1 := (rotr b 17 ^^^ rotr b 19) ^^^ (b / 2 ^ 10)
    shaExpand k ((at_ 16 + s0 + at_ 7 + s1) % 2 ^ 32 :: w)

/-- One round on the eight working variables. -/
def shaRound (h : List Nat) (kw : Nat) : List Nat :=
  match h with
  | [a, b, c, d, e, f, g, x] =>
    let s1 := (rotr e 6 ^^^ rotr e 11) ^^^ rotr e 25
    let ch := (e &&& f) ^^^ ((e ^^^ 0xFFFFFFFF) &&& g)
    let t1 := x + s1 + ch + kw
    let s0 := (rotr a 2 ^^^ rotr a 13) ^^^ rotr a 22
    let mj := ((a &&& b) ^^^ (a &&& c)) ^^^ (b &&& c)
    [(t1 + s0 + mj) % 2 ^ 32, a, b, c, (d + t1) % 2 ^ 32, e, f, g]
  | _ => h

/-- One block of 64 bytes. -/
def shaBlock (h : List Nat) (block : List Byte) : List Nat :=
  let w0 := ((List.range 16).map (fun i => beNat ((block.drop (4 * i)).take 4))).reverse
  let w := (shaExpand 48 w0).reverse
  let r := (List.zipWith (fun k x => k + x) shaRoundConstants w).foldl shaRound h
  List.zipWith (fun x y => (x + y) % 2 ^ 32) h r

/-- SHA-256 of a message, as a big-endian number. -/
def sha256 (m : List Byte) : Nat :=
  let pad := (64 - (m.length + 9) % 64) % 64
  let full := m ++ (0x80 : Byte) :: List.replicate pad 0 ++ beBytes (8 * m.length) 8
  let blocks := (List.range (full.length / 64)).map (fun i => (full.drop (64 * i)).take 64)
  (blocks.foldl shaBlock shaInit).foldl (fun a x => a * 2 ^ 32 + x) 0

/-- The field prime of P-256. -/
def p256 : Nat := 2 ^ 256 - 2 ^ 224 + 2 ^ 192 + 2 ^ 96 - 1
/-- The order of the base point. -/
def p256n : Nat := 0xFFFFFFFF00000000FFFFFFFFFFFFFFFFBCE6FAADA7179E84F3B9CAC2FC632551
/-- The coefficient b of the curve; a is -3. -/
def p256b : Nat := 0x5AC635D8AA3A93E7B3EBBD55769886BC651D06B0CC53B0F63BCE3C3E27D2604B
/-- The base point. -/
def p256G : Option (Nat × Nat) :=
  some (0x6B17D1F2E12C4247F8BCE6E563A440F277037D812DEB33A0F4A13945D898C296,
    0x4FE342E2FE1A7F9B8EE7EB4A7C0F9E162BCE33576B315ECECBB6406837BF51F5)

/-- A power modulo m, over so many bits of the exponent. -/
def powMod (m : Nat) : Nat → Nat → Nat → Nat
  | 0, _, _ => 1 % m
  | k + 1, b, e =>
    let h := powMod m k (b * b % m) (e / 2)
    if e % 2 = 1 then b * h % m else h

/-- The inverse modulo a prime of 256 bits. -/
def invMod (m x : Nat) : Nat := powMod m 256 (x % m) (m - 2)

/-- The third point on the line of a slope, mirrored. -/
def curveThird (l x y u : Nat) : Option (Nat × Nat) :=
  let r := (l * l + 2 * p256 - x - u) % p256
  some (r, (l * (x + p256 - r) + p256 - y) % p256)

/-- Addition of points; none is the point at infinity. -/
def curveAdd (p q : Option (Nat × Nat)) : Option (Nat × Nat) :=
  match p, q with
  | none, q => q
  | p, none => p
  | some (x, y), some (u, v) =>
    if x = u then
      if (y + v) % p256 = 0 then none
      else curveThird ((3 * x * x + p256 - 3) * invMod p256 (2 * y) % p256) x y x
    else curveThird ((v + p256 - y) * invMod p256 (u + p256 - x) % p256) x y u

/-- A multiple of a point, over so many bits of the factor. -/
def curveMul : Nat → Nat → Option (Nat × Nat) → Option (Nat × Nat)
  | 0, _, _ => none
  | k + 1, e, p =>
    let h := curveMul k (e / 2) (curveAdd p p)
    if e % 2 = 1 then curveAdd p h else h

/-- A public key is a point of the curve. -/
def keyOk (x y : Nat) : Bool :=
  decide (x < p256 ∧ y < p256) && y * y % p256 == (x * x * x + (p256 - 3) * x + p256b) % p256

/-- A signature (r, s) of a hash is good under a key. -/
def sigGood (x y r t hash : Nat) : Bool :=
  decide (0 < r ∧ r < p256n ∧ 0 < t ∧ t < p256n) && keyOk x y &&
    (let w := invMod p256n t
     match curveAdd (curveMul 256 (hash * w % p256n) p256G) (curveMul 256 (r * w % p256n) (some (x, y))) with
     | some z => z.1 % p256n == r
     | none => false)

/-! ### Images (R360, R361) -/

/-- A record of an image: its offset in the image, TYPE, TAG, FLAGS and body. -/
structure ProfRec where
  off : Nat
  typ : Nat
  tag : Nat
  flags : Nat
  body : List Byte
deriving DecidableEq, Repr

/-- A valid image: what the loader needs of its header, its records and its CRC. -/
structure ProfImage where
  ident : Nat
  version : Nat
  level : Nat
  subsys : Nat
  crc : Nat
  recs : List ProfRec
deriving DecidableEq, Repr

/-- The records that exactly fill the rest of an image; none where they do not, or one is of a reserved TYPE. -/
def parseRecs : Nat → Nat → List Byte → Option (List ProfRec)
  | _, _, [] => some []
  | 0, _, _ :: _ => none
  | k + 1, off, l =>
    let h := l.take 8
    let typ := leNat (h.take 2)
    let len := leNat (h.drop 4)
    let rest := l.drop 8
    if h.length < 8 ∨ typ = 0 ∨ 6 < typ ∨ len % 4 ≠ 0 ∨ rest.length < len then none
    else
      (parseRecs k (off + 8 + len) (rest.drop len)).map (fun r =>
        ⟨off, typ, leNat ((h.drop 2).take 1), leNat ((h.drop 3).take 1), rest.take len⟩ :: r)

/-- Bytes of the flash. -/
def State.flashRange (s : State) (a n : Nat) : List Byte := (List.range n).map (fun i => s.flashByte (a + i))

/-- Bytes of the flash as SFDP gives its density; 0 while no supported flash has been found. -/
def State.flashSize (s : State) : Nat :=
  if s.bit Reg.PRF.FL_INFO.VALID then 2 ^ s.get Reg.PRF.FL_INFO.DENSITY / 8 else 0

/-- The bytes of KEY_HASH as the fuses hold them, byte 0 first. -/
def State.fuseHash (s : State) : Nat :=
  beNat (s.power.keyHash.flatMap (fun w => (List.range 4).map (fun i => BitVec.ofNat 8 (w.toNat / 256 ^ i))))

/-- The signature block is accepted: its key is the burnt one and the signature over the message is good (R363). -/
def State.signed (s : State) (msg block : List Byte) : Bool :=
  let part := fun (i : Nat) => (block.drop (32 * i)).take 32
  s.power.keyBurnt && sha256 (block.take 64) == s.fuseHash &&
    sigGood (beNat (part 0)) (beNat (part 1)) (beNat (part 2)) (beNat (part 3)) (sha256 msg)

/-- The image that starts at a flash address, when it is valid (R364). -/
def State.imageAt (s : State) (a : Nat) : Option ProfImage :=
  let h := s.flashRange a 64
  let u := fun (off size : Nat) => leNat ((h.drop off).take size)
  let len := u 8 4
  if u 0 4 ≠ 0x5036584A ∨ u 4 2 ≠ 1 ∨ u 6 2 ≠ 64 then none
  else if len < 64 ∨ 2097020 < len ∨ len % 4 ≠ 0 then none
  else if !hasBit (u 0x14 2) (if s.power.is1024 then 1 else 0) then none
  else
    let body := s.flashRange a len
    let crc := leNat (s.flashRange (a + len) 4)
    match parseRecs (len / 8) 64 (body.drop 64) with
    | none => none
    | some rs =>
      if crc32c body ≠ crc then none
      else if hasBit (u 0x16 2) 0 then
        if s.signed (s.flashRange a (len + 4)) (s.flashRange (a + len + 4) 128) then
          some ⟨u 0x0C 4, u 0x10 4, u 0x18 1, u 0x1A 2, crc, rs⟩
        else none
      else if s.power.sigReq then none
      else some ⟨u 0x0C 4, u 0x10 4, u 0x18 1, u 0x1A 2, crc, rs⟩

/-- Where a copy of a profile lies (R359). -/
def copyBase (p c : Nat) : Nat := p * 0x400000 + c * 0x200000

/-- A copy's region extends beyond the density. -/
def State.copyAbsent (s : State) (p c : Nat) : Bool := decide (s.flashSize < copyBase p c + 0x200000)

/-- A valid copy of a profile. -/
def State.copyOf (s : State) (p c : Nat) : Option ProfImage := if s.copyAbsent p c then none else s.imageAt (copyBase p c)

/-- COPY_STAT code of a copy that has been checked: 1 VALID, 2 INVALID, 3 ABSENT. -/
def State.verdictOf (s : State) (p c : Nat) : Nat :=
  if s.copyAbsent p c then 3 else if (s.imageAt (copyBase p c)).isSome then 1 else 2

/-- COPY_STAT shows the verdict on both copies of a profile. -/
def State.showCopies (s : State) (p : Nat) : State :=
  let f := Reg.PRF.COPY_STAT.STATE
  let v := s.get f
  let w := v - v / 16 ^ p % 16 * 16 ^ p + (s.verdictOf p 1 * 4 + s.verdictOf p 0) * 16 ^ p
  s.put f w

/-- The copy taken, 0 A or 1 B: the greater VERSION, A with equal ones (R364). -/
def State.chooseCopy (s : State) (p : Nat) : Option (Nat × ProfImage) :=
  match s.copyOf p 0, s.copyOf p 1 with
  | some a, some b => if a.version < b.version then some (1, b) else some (0, a)
  | some a, none => some (0, a)
  | none, some b => some (1, b)
  | none, none => none

end Sys2Proof.Machine
end

