-- ==== Sys2Proof/Machine/Power.lean ====
section
/-! DEFINITION. Power, reset, device states, PRF commands, standby, flash operations and fuses (R348 to R358, R365, R370 to
R376). -/

namespace Sys2Proof.Machine

/-! ### Reset and retention (R66, R321, R334, R349) -/

/-- Bytes of flash that hold nothing known any more: each takes a free value. -/
def State.scramble (s : State) (a n : Nat) : State :=
  s.forEach (List.range n) (fun s i =>
    let r := s.drawByte
    r.2.setFlash (a + i) r.1)

/-- Size of a flash operation (Table 14-11). -/
def flashSpan (op : Nat) : Nat := if op = 3 then 4096 else if op = 4 then 65536 else 256

/-- A program or erase in progress is interrupted: its page or sector is undefined (R374). -/
def State.flashCut (s : State) : State :=
  match s.power.flOp with
  | some (op, a) => if op = 1 then s else s.scramble a (flashSpan op)
  | none => s

/-- What RESET keeps of the power state: the part, its supplies and pins, the fuses. -/
def Power.blank (p : Power) : Power :=
  { Power.reset with is1024 := p.is1024, ddrOk := p.ddrOk, aonOn := p.aonOn, mainOn := p.mainOn, rstN := p.rstN, keyHash := p.keyHash,
                     keyBurnt := p.keyBurnt, sigReq := p.sigReq }

/-- What a door keeps: what it has written to its host, and the fields that the always-on domain holds for it. -/
def Door.keep (d : Door) (aon : Bool) : Door :=
  if aon then { Door.reset with hostWrites := d.hostWrites, msix := d.msix, wake := d.wake, pmeEn := d.pmeEn, restored := true }
  else { Door.reset with hostWrites := d.hostWrites }

/-- Doors, endpoints and the like, changed one by one; those that read as after reset are not listed. -/
def Sparse.mapTo {α : Type} [DecidableEq α] (dflt : Nat → α) (f : Nat → α → α) (m : Sparse α) : Sparse α :=
  m.filterMap (fun e => let v := f e.1 e.2; if v = dflt e.1 then none else some (e.1, v))

/-- The main domain in RESET: everything outside the always-on domain is at its reset value. The host-visible past (carts,
edges, writes to hosts), the flash and the fuses are not of that domain. -/
def State.blank (s : State) : State :=
  let s := s.flashCut
  State.slowFollow { State.reset with
    tick := s.tick
    pending := s.pending
    clk := { Clk.reset with slowOk := s.clk.slowOk, vcoreOk := s.clk.vcoreOk }
    edges := s.edges
    carts := s.carts
    store := { s.store with seen := s.carts.length, stage := [], held := [], lossCnt := [] }
    doors := s.doors.mapTo (fun _ => Door.reset) (fun _ d => d.keep false)
    power := s.power.blank
    flash := s.flash
    freeCtr := s.freeCtr }

/-- What the always-on domain retains of a register. REF_CFG is not among it, so that AUTO takes the reset PRIO while the main domain
is off (DESIGN CHOICE, log entry 24). -/
def retainedReg (a : Nat) (v : Word) : Word :=
  if a = 0x1090 then v &&& 1
  else if a = 0x3044 then v &&& 0x1C000
  else if [0x1058, 0x105C, 0x2048, 0x2054, 0x2058, 0x205C, 0x30B4, 0x30B8, 0x30BC, 0x30C0].contains a then v
  else if 0xF1000 ≤ a ∧ a < 0xF5000 then v
  else if 0x100000 ≤ a ∧ a < 0x120000 ∧ 0x40 ≤ a % 0x1000 ∧ a % 0x1000 < 0x60 then v
  else regReset a

/-- The registers of the retention image. -/
def State.retainedRegs (s : State) : Sparse Word := s.regs.mapTo regReset retainedReg

/-- The main domain loses its state; the always-on domain keeps the retention image (R66, R321). -/
def State.retain (s : State) : State :=
  let p := s.power
  State.slowFollow { s.blank with
    regs := s.retainedRegs
    clk := { Clk.reset with slowOk := s.clk.slowOk, vcoreOk := s.clk.vcoreOk, htOfs := s.clk.htOfs, makeup := s.clk.makeup }
    irq := ⟨s.irq.srcs, s.irq.grps, [], []⟩
    doors := s.doors.mapTo (fun _ => Door.reset) (fun _ d => d.keep true)
    power := { p.blank with image := p.image, waking := p.waking, lastWork := p.lastWork, makeupDue := p.makeupDue,
                            irqDue := p.irqDue } }

/-- GLB DEV_STATE while the registers around it are lost. -/
def State.showState (s : State) (v : Nat) : State := s.put Reg.GLB.DEV_STATE.STATE v

/-- RESET with the image still valid: WAKE# is released, the way out is a wake. -/
def State.resetAwake (s : State) : State :=
  let s := s.retain
  let s := { s with doors := s.doors.mapTo (fun _ => Door.reset) (fun _ d => { d with wake := false }) }
  ({ s with power := { s.power with waking := true } }).showState 2

/-- RST_N goes low (R349, Table 14-1 rows 1 and 4). -/
def State.assertReset (s : State) : State :=
  if !s.power.rstN then s
  else
    let was := s.devState
    let s := { s with power := { s.power with rstN := false } }
    if !s.power.mainOn then s else if was = 1 ∧ s.power.image then s.resetAwake else s.blank

/-- PWR_REQ (R349, R371): low in STANDBY until a wake event; undriven in OFF (none). -/
def State.pwrReq (s : State) : Option Bool :=
  if s.devState = 0 then none
  else some (s.devState != 1 || Word.bits (s.reg 0x30C0) 7 0 != 0)

/-- Entry into SHUTTERED with a load cause (R376). -/
def State.enterShuttered (s : State) (cause : Nat) : State := (s.put Reg.PRF.STAT.LOAD_CAUSE cause).setDevState 6

/-- RST_N goes high (Table 14-1 row 5): PROFILE is sampled, enabled references are counted. -/
def State.releaseReset (s : State) (prof : Nat) : State :=
  let wake := s.power.image
  let s := { s with power := { s.power with rstN := true } }
  let s := (s.put Reg.PRF.STAT.PIN_PROF prof).setDevState 3
  let s := s.forEach ([0, 1, 2, 3].filter (fun d => s.trefEn d)) (fun s d => s.setRef d 1)
  let load := if wake then s.get Reg.PRF.STAT.PROF_LOADED else prof
  let s := { s with power := { s.power with loadProf := load } }
  if wake then
    let s := s.put Reg.PRF.STAT.WAKE 1
    if s.bit Reg.PWR.SLOW_STAT.SLOW_LOST then (s.put Reg.CLK.HT_STAT.HT_VALID 0).raise (page .pwr 0) 3 else s
  else s

/-! ### Entry into LOAD (R365) -/

/-- What a register of the map keeps on entry into LOAD: the CLK and PWR pages, coach and domain shutters, shutters of the fault
manager, the fault log's count and the causes of DEV_FAULT, states of device, doors and links to hosts, and what PRF holds of
the start; after a wake also what hardware restored. -/
def State.keptOnLoad (s : State) (a : Nat) (v : Word) : Word :=
  let p := pageBase a
  let held := s.pageCause p != 0
  if 0x1000 ≤ a ∧ a < 0x3000 then v
  else if a = 0x44 ∨ a = 0x48 ∨ a = 0x70048 ∨ a = 0x4040 ∨ a = 0x4044 ∨ a = 0x4068 ∨ a = 0x406C then v
  else if 0x150000 ≤ a ∧ a < 0x154000 ∧ a % 0x1000 = 0x44 then v
  else if 0x150000 ≤ a ∧ a < 0x154000 ∧ a % 0x1000 = 0x48 then v &&& 0x73
  else if a = 0x3044 then v &&& 0x0F41DC00
  else if [0x3084, 0x3088, 0x30C0, 0x30C8, 0x30D4].contains a then v
  else if held ∧ a % 0x1000 = 0x1C then v
  else if held ∧ p = page .drv ((p - 0x90000) / 0x1000) ∧ a % 0x1000 = 0x5C then v &&& 0x3000
  else if s.power.waking ∧ 0xF1000 ≤ a then retainedReg a v
  else if s.power.waking ∧ [0x30B4, 0x30B8, 0x30BC].contains a then v
  else regReset a

/-- R365: stages, pending commits and a switch end, every slot becomes TYPE NONE, every page takes its reset values but for
what is kept. -/
def State.loadEntry (s : State) : State :=
  let aborted := s.get Reg.PRF.STAT.SW_STATE != 0
  let s := s.emitAll.clearLedger.provEnd
  let regs := s.regs.mapTo regReset s.keptOnLoad
  let s := { s with
    regs := regs
    commits := []
    owner := []
    slots := s.slots.mapTo (fun _ => Slot.reset) (fun _ x =>
      { x.setWord 0 (Word.withBits (x.word 0) 2 0 0) with
        pass := none, count := 0, last := none, back := none, queued := [], armAt := none, editAt := none, w0At := none,
        drop := false })
    eps := s.eps.mapTo (fun _ => Ep.reset) (fun _ e => { e with demands := [], points := [] })
    dueActs := []
    inp := s.inp.mapTo (fun _ => InpCh.reset) (fun _ c => { InpCh.reset with a := c.a, b := c.b, z := c.z })
    trk := []
    lnk := []
    drv := []
    adc := []
    tmr := s.tmr.mapTo (fun _ => Tmr.reset) (fun _ t => { Tmr.reset with dead := t.dead })
    dma := s.dma.mapTo (fun _ => Dma.reset) (fun _ d => { Dma.reset with dead := d.dead })
    evt := ⟨[], [], [], []⟩
    fabric := { Fabric.reset with coach := s.fabric.coach.mapTo s.coachReset (fun _ c =>
      { Coach.reset with state := c.state, cause := c.cause, tested := c.tested }) }
    irq := if s.power.waking then s.irq else ⟨[], [], [], []⟩
    doors := s.doors.mapTo (fun _ => Door.reset) (fun _ d =>
      { d with stage := [], slotStage := [], eptStage := [], overflow := false, upper := 0, outcome := [], snap := [], sel := [],
               hbAt := none })
    recd := { s.recd with commitNo := [], loadTick := none, started := false }
    power := { s.power with sw := none, runSeen := false, runAt := none, epochDue := false, draining := none, loadCopy := none } }
  let s := s.forEach (s.regs.filter (fun e => s.pageCause (pageBase e.1) != 0 && e.1 % 0x1000 == 0x1C)) (fun s e =>
    match fnOfPage (pageBase e.1) with
    | some (.drv, n) => s.onDrv n (fun d => { d with fenced := true })
    | _ => s)
  let s := if aborted then s.put Reg.PRF.STAT.RESULT 10 else s
  s.setDevState 5

/-! ### Preamble and self-test (R356, R358, R366) -/

/-- The PRE record of an image: VID_MAP, DVFS_TIMING, BIST; none where it is not first or not well formed. -/
def ProfImage.pre (m : ProfImage) : Option (Nat × Nat × Nat) :=
  match m.recs with
  | [] => none
  | r :: _ =>
    match leWords r.body with
    | v :: d :: b :: _ => if r.typ = 1 ∧ b ≤ 1 then some (v, d, b) else none
    | _ => none

/-- QUALIFY reads the preamble: `density` is log2 of the flash size in bits, none where SFDP gives no supported flash. -/
def State.readPreamble (s : State) (density : Option Nat) : State :=
  match density.filter (fun n => decide (26 ≤ n ∧ n ≤ 29)) with
  | none => s.enterShuttered 2
  | some n =>
    let b := s.drawByte
    let s := (b.2.put Reg.PRF.FL_INFO.VALID 1).putBit Reg.PRF.FL_INFO.ADDR4 (decide (27 < n))
    let s := (s.put Reg.PRF.FL_INFO.DUMMY b.1.toNat).put Reg.PRF.FL_INFO.DENSITY n
    let s := s.showCopies s.power.loadProf
    match (s.chooseCopy s.power.loadProf).bind (fun c => c.2.pre) with
    | none => s.enterShuttered 1
    | some (vid, timing, bist) =>
      let s := (s.plainWrite 0x2054 (BitVec.ofNat 32 vid)).plainWrite 0x2048 (BitVec.ofNat 32 timing)
      let s := { s with power := { s.power with bistSkip := bist == 1 } }
      (s.driveVid 2).setDevState 4

/-- A coach that failed at start-up. -/
def State.failCoach (s : State) (c cause : Nat) : State :=
  if (s.coach c).state = 5 then s else s.setCoach c { Coach.reset with state := 4, cause := cause }

/-- A coach or fault domain that fails its test is reported with cause BIST (R377, Table 15-3): its log entry and its marker (R379). -/
def State.bistFault (s : State) (n : Nat) : State :=
  ((s.logFault 7 0x20 n aShuttered 0).faultMarker 7 0x20 (n % 256) aShuttered none n s.tick 63).raise (page .scn 0) 0

/-- A coach fails its test. -/
def State.coachFails (s : State) (c : Nat) : State := if (s.coach c).state = 5 then s else (s.failCoach c 1).bistFault c

/-- The shared logic of a fault domain fails its test: every coach of it is shuttered (R356, R383). -/
def State.domainFails (s : State) (d : Nat) : State :=
  let s := s.forEach (List.range 128) (fun s i => s.failCoach (d * 128 + i) 4)
  let s := s.put Reg.SCN.DOMAIN_SHUT.MASK (setBit (s.get Reg.SCN.DOMAIN_SHUT.MASK) d true)
  let f := if d < 8 then Reg.FLT.DOM_CAUSE_LO.CAUSE else Reg.FLT.DOM_CAUSE_HI.CAUSE
  let s := s.put f (s.get f - s.get f / 16 ^ (d % 8) % 16 * 16 ^ (d % 8) + 5 * 16 ^ (d % 8))
  let s := s.put Reg.PRF.BIST_STAT.DOMAIN_FAIL (setBit (s.get Reg.PRF.BIST_STAT.DOMAIN_FAIL) d true)
  (s.bistFault d).raise (page .flt 0) 6

/-- Coaches that the start-up test shuttered. -/
def State.failedCoaches (s : State) : Nat := (s.fabric.coach.filter (fun e => e.2.state == 4 && (e.2.cause == 1 || e.2.cause == 4))).length

/-- Self-test ends (R356, R357): what failed is reported, and the load begins unless an essential item is among it. -/
def State.selftest (s : State) (r : BistResult) : State :=
  if s.power.bistSkip then (s.put Reg.PRF.BIST_STAT.SKIPPED 1).loadEntry
  else
    let s := s.forEach r.coaches (fun s c => s.coachFails c)
    let s := s.forEach r.domains (fun s d => s.domainFails d)
    let s := s.put Reg.PRF.BIST_STAT.COACH_FAIL s.failedCoaches
    let s := (s.forEach r.functions (fun s f => s.fnFault f.1 f.2 7)).admitShutters
    if r.essential then (s.put Reg.PRF.BIST_STAT.CORE_FAIL 1).enterShuttered 7 else s.loadEntry

/-! ### Commands of the PRF page (R351 to R353, R367, R370) -/

/-- A command ends with a result: 1 DONE raises CMD_DONE, a refusal raises CMD_REFUSED. -/
def State.cmdEnd (s : State) (result : Nat) : State :=
  let s := s.put Reg.PRF.STAT.RESULT result
  if result = 1 then s.raise (page .prf 0) 0
  else s.raiseIf (result == 2 || result == 3 || result == 5) (page .prf 0) 1

/-- CMD = RUN in READY. -/
def State.enterRun (s : State) : State :=
  let t := s.tick
  let s := if s.power.runSeen then s else s.put64 Reg.PRF.FIRST_RUN_LO.TICK Reg.PRF.FIRST_RUN_HI.TICK t
  let s := { s with power := { s.power with runSeen := true, runAt := some t } }
  (s.setDevState 8).linksFollow.cmdEnd 1

/-- A switch starts, or is released by the ledger: the current tick is S (R367). -/
def State.startSwitch (s : State) (prof : Nat) : State :=
  let w : Switch := ⟨prof, s.tick, s.tick + s.get Reg.PRF.ARM_DELAY.TICKS, false, []⟩
  let s := { s with power := { s.power with sw := some w } }
  ((s.put Reg.PRF.STAT.SW_STATE 2).put Reg.PRF.STAT.SW_PROF prof).setActive kSwitch true

/-- CMD = SWITCH, held back while a wheel learns. -/
def State.askSwitch (s : State) (prof door : Nat) : State :=
  if s.get Reg.PRF.STAT.SW_STATE ≠ 0 then s.cmdEnd 3
  else if s.active kLearn then
    (((s.put Reg.PRF.STAT.SW_STATE 1).put Reg.PRF.STAT.SW_PROF prof).put Reg.PRF.STAT.RESULT 4).enqueue kSwitch prof door
  else s.startSwitch prof

/-- The timebase allows LOAD and STANDBY: no PLL coasts and one is LOCKED (R353). -/
def State.timebaseOk (s : State) : Bool :=
  !s.bit Reg.CLK.PLL_STAT.COAST && (s.pllState 0 == 2 || s.pllState 1 == 2)

/-- CMD = STANDBY: every link enters OFF, the recorder drains (R370 steps 1 and 2). -/
def State.askStandby (s : State) : State :=
  let s := s.forEach (List.range 16) (fun s n => if s.lnkState n = 0 then s else s.linkStop n)
  let s := s.setReg 0x30C0 0
  { s with power := { s.power with draining := some s.tick } }

/-- The rest of the standby entry (R370 steps 3 to 5). -/
def State.enterStandby (s : State) : State :=
  if s.power.draining.isNone then s
  else
    let s := s.irqStandby
    let s := { s with power := { s.power with image := true, waking := false, makeupDue := true, irqDue := true } }
    (s.retain.showState 1).slowMissed

/-- A CMD = LOAD: the profile it names, and the RESULT it is owed. -/
def State.forLoad (s : State) (prof : Nat) : State := { s with power := { s.power with loadProf := prof, loadCmd := true } }

/-- A CMD value judged in the state in force (R353, Table 14-1). -/
def State.prfCommand (s : State) (cmd prof door : Nat) : State :=
  let st := s.devState
  let busy := s.power.draining.isSome
  if cmd = 0 then s
  else if cmd = 6 then s.assertReset
  else if busy then s.cmdEnd 3
  else
    match cmd with
    | 1 => if st = 7 then s.enterRun else s.cmdEnd 2
    | 2 => if st = 8 then s.put Reg.PRF.STAT.STOPPING 1 else s.cmdEnd 2
    | 3 =>
      if st ≠ 7 ∧ st ≠ 6 then s.cmdEnd 2
      else if !s.timebaseOk then s.cmdEnd 5
      else s.loadEntry.forLoad prof
    | 4 => if st = 7 ∨ st = 8 then s.askSwitch prof door else s.cmdEnd 2
    | 5 =>
      if st ≠ 7 ∧ st ≠ 6 then s.cmdEnd 2
      else if !s.timebaseOk then s.cmdEnd 5
      else if s.get Reg.PRF.STAT.SW_STATE ≠ 0 ∨ s.power.flOp.isSome then s.cmdEnd 3
      else s.askStandby
    | _ => s

/-- No pass is in progress, no edge of one is still to come, and no link command waits or has an instant still to come. -/
def State.quiet (s : State) : Bool :=
  s.slots.all (fun e => e.2.pass.isNone) && s.dueCarts.isEmpty && s.drv.all (fun e => e.2.passes.isEmpty && e.2.event.isNone) &&
    s.lnk.all (fun e => e.2.deadline.isEmpty && e.2.sample.isEmpty && decide (e.2.sentTo ≤ s.now))

/-- The boundary of R352 at which STOP is complete; READY holds outputs and event lines at their safe levels (R204). -/
def State.stopComplete (s : State) : State :=
  if s.devState = 8 ∧ s.bit Reg.PRF.STAT.STOPPING ∧ s.quiet then
    let s := { s with power := { s.power with runAt := none } }
    let s := s.forEach (s.liveEndpoints.filter (fun a => !epIsLink a)) (fun s a => s.goSafe a s.now)
    ((s.put Reg.PRF.STAT.STOPPING 0).setDevState 7).linksFollow.cmdEnd 1
  else s

/-! ### Wake events (R371) -/

/-- A wake event sets its bit: the first one in STANDBY, any during the entry. -/
def State.wakeEvent (s : State) (f : FieldRef) (v : Nat) : State :=
  if s.power.draining.isSome then s.put f (s.get f ||| v)
  else if s.devState = 1 ∧ s.bit Reg.PWR.SLOW_STAT.VALID ∧ Word.bits (s.reg 0x30C0) 7 0 = 0 then s.put f v
  else s

/-- The tick counter has reached WAKE_AT. -/
def State.wakeTimer (s : State) : State :=
  let at_ := s.get64 Reg.PRF.WAKE_AT_LO.TICK Reg.PRF.WAKE_AT_HI.TICK
  if s.bit Reg.PRF.WAKE_CFG.TIMER_EN ∧ at_ ≤ s.tick then s.wakeEvent Reg.PRF.WAKE_CAUSE.TIMER 1 else s

/-! ### Flash operations and fuses (R363, R374) -/

/-- A flash operation fails at once, or ends: FL_STAT, FLASH_DONE, and PG_ERRCNT of one that failed. -/
def State.flashEnd (s : State) (result : Nat) : State :=
  let s := (s.put Reg.PRF.FL_STAT.RESULT result).raise (page .prf 0) 4
  if result = 1 then s else s.err (page .prf 0)

/-- FL_CMD: BUSY during LOAD, switch preparation and another operation; BAD_ADDR for a misaligned address or one beyond the
density. -/
def State.flashStart (s : State) (op : Nat) : State :=
  let a := s.get Reg.PRF.FL_ADDR.ADDR
  if s.devState = 5 ∨ s.get Reg.PRF.STAT.SW_STATE = 2 ∨ s.power.flOp.isSome then s.flashEnd 2
  else if a % flashSpan op ≠ 0 ∨ s.flashSize ≤ a then s.flashEnd 3
  else ({ s with power := { s.power with flOp := some (op, a) } }).put Reg.PRF.FL_STAT.ACTIVE 1

/-- Dword w of FL_BUF. -/
def State.flBuf (s : State) (w : Nat) : Nat := s.get (Reg.PRF.FL_BUF.DATA w)

/-- READ fills FL_BUF from the flash. -/
def State.flashLoad (s : State) (a : Nat) : State :=
  s.forEach (List.range 64) (fun s w => s.put (Reg.PRF.FL_BUF.DATA w) (leNat (s.flashRange (a + 4 * w) 4)))

/-- PROGRAM clears the bits that FL_BUF holds at 0. PRESUMED, log entry 51: NOR flash sets no bit by programming. -/
def State.flashProgram (s : State) (a : Nat) : State :=
  s.forEach (List.range 256) (fun s i =>
    s.setFlash (a + i) (s.flashByte (a + i) &&& BitVec.ofNat 8 (s.flBuf (i / 4) / 256 ^ (i % 4))))

/-- An erase leaves every byte at 0xFF. -/
def State.flashErase (s : State) (a n : Nat) : State :=
  { s with flash := s.flash.filter (fun e => !decide (a ≤ e.1 ∧ e.1 < a + n)) }

/-- The flash operation in progress ends, or its time runs out: what a program or erase has then done is undefined. -/
def State.flashDone (s : State) (timedOut : Bool) : State :=
  match s.power.flOp with
  | none => s
  | some (op, a) =>
    let late := timedOut && op != 1
    let s := if late then s.flashCut
      else if op = 1 then s.flashLoad a
      else if op = 2 then s.flashProgram a
      else s.flashErase a (flashSpan op)
    let s := { s with power := { s.power with flOp := none } }
    (s.put Reg.PRF.FL_STAT.ACTIVE 0).flashEnd (if late then 4 else 1)

/-- FUSE_CTL (R363): fuses change from 0 to 1, in SHUTTERED only. -/
def State.burn (s : State) (key sig : Bool) : State :=
  if s.devState ≠ 6 then s
  else
    let p := s.power
    let p := if key ∧ !p.keyBurnt then
      { p with keyBurnt := true, keyHash := (List.range 8).map (fun k => s.reg (Reg.PRF.KEY_HASH.HASH k).addr) } else p
    { s with power := { p with sigReq := p.sigReq || sig } }

/-! ### Commands -/

/-- A PRF command as a row of the table: it acts and CMD reads 0 after it. -/
def State.prfRow (s : State) (cmd : Nat) : State :=
  s.when s.clockOn (fun s => (s.prfCommand cmd (s.get Reg.PRF.CMD.PROF) 0).put Reg.PRF.CMD.CMD 0)

/-- AON_POWER_UP (R350, Table 14-1 row 3). -/
def execAonPowerUp (s : State) : Host.Outcome State Fault Refusal :=
  run s (s.when (!s.power.aonOn) (fun s =>
    let s := { s with power := { s.power with aonOn := true, image := false, waking := false } }
    s.showState 1))

/-- MAIN_POWER_UP (R350, R348): RST_N must be low and the always-on supply up. -/
def execMainPowerUp (s : State) : Host.Outcome State Fault Refusal :=
  if s.power.mainOn then run s s
  else if !s.power.aonOn || s.power.rstN then .fault .supplyOrder
  else
    let t := { s with power := { s.power with mainOn := true } }
    run s (if t.power.image then t.resetAwake else t.blank)

/-- RST_ASSERT (R349). -/
def execRstAssert (s : State) : Host.Outcome State Fault Refusal := run s s.assertReset

/-- RST_RELEASE (R350): at a cold start the tick counter starts from 0 (R57). -/
def execRstRelease (prof : Fin 8) (s : State) : Host.Outcome State Fault Refusal :=
  if s.power.rstN then run s s
  else if !s.power.mainOn || s.devState != 2 then run s { s with power := { s.power with rstN := true } }
  else runAt s (s.releaseReset prof) (if s.power.image then s.tick else 0)

/-- PREAMBLE_READ (R366): in QUALIFY, once a PLL is LOCKED. -/
def execPreambleRead (density : Option (Fin 64)) (s : State) : Host.Outcome State Fault Refusal :=
  run s (s.when (s.devState == 3 && s.clk.running) (fun s => s.readPreamble (density.map (fun x => x.val))))

/-- SELFTEST_DONE (R356). -/
def execSelftestDone (r : BistResult) (s : State) : Host.Outcome State Fault Refusal :=
  run s (s.when (s.devState == 4) (fun s => s.selftest r))

/-- RUN (R351): the commit tick T is the tick about to begin, the first whose work it governs. -/
def execRun (s : State) : Host.Outcome State Fault Refusal := run s ({ s with tick := s.tick + 1 }.prfRow 1)

/-- STOP (R352). -/
def execStop (s : State) : Host.Outcome State Fault Refusal := run s (s.prfRow 2)

/-- STOP_COMPLETE (R352). -/
def execStopComplete (s : State) : Host.Outcome State Fault Refusal := run s s.stopComplete

/-- LOAD (R365). -/
def execLoad (s : State) : Host.Outcome State Fault Refusal := run s (s.prfRow 3)

/-- SWITCH (R367). -/
def execSwitch (s : State) : Host.Outcome State Fault Refusal := run s (s.prfRow 4)

/-- STANDBY (R370). -/
def execStandby (s : State) : Host.Outcome State Fault Refusal := run s (s.prfRow 5)

/-- DEVICE_RESET_CMD (R349). -/
def execDeviceResetCmd (s : State) : Host.Outcome State Fault Refusal := run s (s.when s.clockOn (fun s => s.assertReset))

/-- DRAIN_END (R370): the recorder has drained, or DRAIN_TO ticks have passed. -/
def execDrainEnd (s : State) : Host.Outcome State Fault Refusal := run s s.enterStandby

/-- SLOWCLK_CYCLE (R67): 78 125 / 512 ticks; the wake timer is checked on SLOWCLK (R371). -/
def execSlowclkCycle (s : State) : Host.Outcome State Fault Refusal :=
  if s.aonCounts && s.bit Reg.PWR.SLOW_STAT.VALID then
    let f := s.clk.makeup + 78125
    let t := { s with clk := { s.clk with makeup := f % 512 }, tick := s.tick + f / 512 }
    runAt s t.wakeTimer t.tick
  else run s s

/-- WAKE_TIMER (R371). -/
def execWakeTimer (s : State) : Host.Outcome State Fault Refusal := run s s.wakeTimer

/-- WAKE_IN (R371): WAKE_IN_N has been low for two SLOWCLK cycles. -/
def execWakeIn (s : State) : Host.Outcome State Fault Refusal :=
  run s (s.when (s.bit Reg.PRF.WAKE_CFG.IN_EN) (fun s => s.wakeEvent Reg.PRF.WAKE_CAUSE.IN 1))

/-- WAKE_PERST (R371): PERST# of door d rises. -/
def execWakePerst (d : DoorNo) (s : State) : Host.Outcome State Fault Refusal :=
  run s (s.when (hasBit (s.get Reg.PRF.WAKE_CFG.PERST_EN) d) (fun s => s.wakeEvent Reg.PRF.WAKE_CAUSE.PERST (2 ^ d.val)))

/-- FLASH_DONE (R374). -/
def execFlashDone (timedOut : Bool) (s : State) : Host.Outcome State Fault Refusal := run s (s.flashDone timedOut)

/-- MAIN_POWER_LOSS (R398, R386): in STANDBY and in RESET it is the way down; otherwise the core supply is lost: the I/O ring
drives every output safe, and everything outside the always-on domain is gone. -/
def execMainPowerLoss (s : State) : Host.Outcome State Fault Refusal :=
  let off := fun (x : State) => { x with power := { x.power with mainOn := false } }
  run s (if !s.power.mainOn then s
    else if s.devState = 1 then off s
    else
      let held := if 3 ≤ s.devState then { s.ringSafe with power := { s.ringSafe.power with image := false } } else s
      off (if held.power.image then held.retain.showState 2 else held.blank))

/-- AON_POWER_LOSS (R350, R348): the always-on supply goes last. -/
def execAonPowerLoss (s : State) : Host.Outcome State Fault Refusal :=
  if s.power.mainOn then .fault .supplyOrder
  else
    let t := { s with power := { s.power with aonOn := false, image := false, waking := false } }
    run s (t.blank.showState 0)

end Sys2Proof.Machine
end

