-- ==== Sys2Proof/Machine/Commits.lean ====
section
/-! DEFINITION. Stages and commits: what a stage takes, issue, the judgement at issue and at the commit tick, the carriages that
a commit reserves, and its effects (R162 to R167, R188, R189, R221, R289, R292, R416). -/

namespace Sys2Proof.Machine

/-! ### Stages (R162, R202, R289) -/

/-- A value with the bits of a mask taken from another. -/
def overlaid (old v m : Word) : Word := (old &&& ~~~m) ||| (v &&& m)

/-- A stage with bits of a value staged at a key; what they do not cover stays staged. -/
def stageJoin (m : Sparse (Word × Word)) (k : Nat) (v mask : Word) : Sparse (Word × Word) :=
  let e := m.get (fun _ => (0, 0)) k
  m.set (fun _ => (0, 0)) k (overlaid e.1 v mask, e.2 ||| mask)

/-- PG_SHUTTER of a page without a shutter takes no write (R288). -/
def deafShutter (addr : Nat) : Bool :=
  match pageOf addr with
  | some (b, _) => addr % 0x1000 == 0x1C && !b.hasShutter
  | none => false

/-- The bits that a stage takes of a write to a BAR0 dword: RWC fields whose value is no reserved encoding (R289). -/
def State.stageMask (s : State) (addr : Nat) (v : Word) : Word :=
  if deafShutter addr then 0
  else BitVec.ofNat 32 ((fieldsAt addr).foldl (fun m f =>
    if f.acc == .rwc && s.legal addr f (Word.bits v f.hi f.lo) then m + (2 ^ (f.hi + 1 - f.lo) - 1) * 2 ^ f.lo else m) 0)

/-- A slot of this handle may be unprotected (GLB COMP_CFG.UNPROT of its owner). -/
def State.mayUnprotect (s : State) (h : Nat) : Bool := s.bit (Reg.GLB.COMP_CFG.UNPROT (s.handleOwner h))

/-- The bits that the slot stage takes of a word (R141). -/
def State.slotStageMask (s : State) (h k : Nat) (v : Word) : Word :=
  if k ≠ 0 then BitVec.ofNat 32 (slotMask k)
  else
    let typ := if 4 ≤ Word.bits v 2 0 then 2 ^ 3 - 1 else 0
    let wheel := if 48 ≤ Word.bits v 8 3 then (2 ^ 6 - 1) * 2 ^ 3 else 0
    let prot := if Word.bits v 10 10 = 0 ∧ !s.mayUnprotect h then 2 ^ 10 else 0
    BitVec.ofNat 32 (slotMask 0 - typ - wheel - prot)

/-- The bits that the endpoint stage takes of a byte (Table 7-1). -/
def eptStageMask (a : Nat) (v : Word) : Word :=
  if !epExists a then 0 else if Word.bits v 7 6 = 3 then 0x30 else 0xF0

/-- Door d stages a BAR0 dword. -/
def State.stageReg (s : State) (d addr : Nat) (v : Word) : State :=
  let m := s.stageMask addr v
  if m = 0 then s else s.onDoor d (fun x => { x with stage := stageJoin x.stage addr v m })

/-- Slots in a slot stage. -/
def Door.stagedSlots (x : Door) : List Nat := sortNat (x.slotStage.map (fun e => e.1 / 8))

/-- Door d stages word k of slot h; a 4 097th slot overflows the stage (R162). -/
def State.stageSlot (s : State) (d h k : Nat) (v : Word) : State :=
  let m := s.slotStageMask h k v
  if m = 0 then s
  else s.onDoor d (fun x =>
    if x.stagedSlots.contains h || decide (x.stagedSlots.length < 4096) then
      { x with slotStage := stageJoin x.slotStage (h * 8 + k) v m }
    else { x with overflow := true })

/-- Door d stages an endpoint byte; a 4 097th byte overflows the slot stage (R202). -/
def State.stageEpt (s : State) (d a : Nat) (v : Word) : State :=
  let m := eptStageMask a v
  if m = 0 then s
  else s.onDoor d (fun x =>
    if (x.eptStage.find a).isSome || decide (x.eptStage.length < 4096) then { x with eptStage := stageJoin x.eptStage a v m }
    else { x with overflow := true })

/-- The stage of a door for a page is emptied; that of SCN is the slot and endpoint stages with their overflow (R287). -/
def State.emptyStage (s : State) (d p : Nat) : State :=
  s.onDoor d (fun x =>
    if p = page .scn 0 then { x with slotStage := [], eptStage := [], overflow := false }
    else { x with stage := x.stage.filter (fun e => pageBase e.1 != p) })

/-- What a commit of a page by a door freezes: ascending SPACE, then offset (R163, R277). -/
def State.stageEntries (s : State) (d p : Nat) : List Entry :=
  let x := s.door d
  if p = page .scn 0 then
    x.slotStage.map (fun e => (⟨true, e.1 / 8 * 32 + e.1 % 8 * 4, e.2.1, e.2.2⟩ : Entry)) ++
      x.eptStage.map (fun e => (⟨true, 0x400000 + e.1, e.2.1, e.2.2⟩ : Entry))
  else (x.stage.filter (fun e => pageBase e.1 == p)).map (fun e => (⟨false, e.1, e.2.1, e.2.2⟩ : Entry))

/-! ### Content over the live configuration -/

/-- One entry written over the live state; PG_SHUTTER is no configuration. -/
def State.putEntry (s : State) (e : Entry) : State :=
  if !e.bar2 then (if e.off % 0x1000 = 0x1C then s else s.setReg e.off (overlaid (s.reg e.off) e.val e.mask))
  else if e.off < 0x400000 then s.onSlot (e.off / 32) (fun sl => sl.setWord (e.off / 4 % 8) (overlaid (sl.word (e.off / 4 % 8)) e.val e.mask))
  else s.setEpt (e.off - 0x400000) (overlaid (s.eptByte (e.off - 0x400000)) e.val e.mask)

/-- The live configuration with the content of a commit laid over it (R416). -/
def State.overlay (s : State) (es : List Entry) : State := s.forEach es (fun s e => s.putEntry e)

/-- The slots that a content writes, ascending. -/
def slotsOf (es : List Entry) : List Nat := sortNat ((es.filter (fun e => e.bar2 && decide (e.off < 0x400000))).map (fun e => e.off / 32))

/-- The entries of a commit but those of slots lost since its acceptance, which are discarded (R188). -/
def Commit.live (c : Commit) : List Entry :=
  if c.void.isEmpty then c.entries else c.entries.filter (fun e => (slotsOf [e]).all (fun h => !c.void.contains h))

/-- The content writes a BAR0 dword. -/
def writes (es : List Entry) (addr : Nat) : Bool := es.any (fun e => !e.bar2 && e.off == addr)

/-! ### The checks of INVALID (R416) -/

/-- R142, R143, R153, R154, R205: a descriptor that cannot stand. -/
def Slot.bad (sl : Slot) : Bool :=
  let ep := sl.endpoint
  let a := sl.action
  let local_ := epIsLocal ep && (decide (9 ≤ a) || (a == 4 && hasBit sl.param 4) || ((a == 5 || a == 7) && decide (32 ≤ sl.param)))
  let drive := epIsDrive ep && !((sl.typ == 1 || sl.typ == 2) && a == 1)
  let eType := sl.typ == 1 && (sl.dmax == 0 || decide (sl.dur < sl.dmin) || decide (sl.dmax < sl.dur))
  let wType := sl.typ == 2 && (sl.dmax == 0 || decide (sl.dmax < sl.dmin))
  sl.typ != 0 && (local_ || drive || eType || wType || (a != 0 && !epExists ep))

/-- The page that a slot's ACTION 4, 5 or 7 at a local endpoint names. -/
def actionPage (a param : Nat) : Nat :=
  if a = 4 then page .adc (param / 32) else if a = 5 then page .dma (param % 32) else page .tmr (param % 32)

/-- R292: a descriptor that a compartment may not give. -/
def State.slotDenied (s : State) (c : Nat) (sl : Slot) : Bool :=
  let a := sl.action
  let group := match epGroup sl.endpoint with
    | some g => !s.mayUseGroup c g
    | none => true
  let unit := epIsLocal sl.endpoint && (a == 4 || a == 5 || a == 7) && s.pageComp (actionPage a sl.param) != c
  sl.typ != 0 && (!s.mayUseWheel c sl.wheel || (a != 0 && group) || unit)

/-- R292: class fields of a content that name a class outside a compartment's use. -/
def State.classDenied (s : State) (c : Nat) (b : Block) (n : Nat) (es : List Entry) : Bool :=
  let bad := fun (f : FieldRef) => writes es f.addr && !s.mayUseClass c (s.get f)
  match b with
  | .lnk => bad (Reg.LNK.REC_CFG.NDEF_CLS n) || bad (Reg.LNK.REC_CFG.STAT_CLS n) || bad (Reg.LNK.REC_CFG.SMP_CLS n)
  | .adc => bad (Reg.ADC.SEQ_CTL.REC_CLS n)
  | .recorder =>
    [Reg.REC.CART_CLS.TOOTH_CLS, Reg.REC.CART_CLS.EVENT_CLS, Reg.REC.CART_CLS.STROKE_CLS, Reg.REC.CART_CLS.MARKER_CLS,
      Reg.REC.CART_CLS.COMMIT_CLS, Reg.REC.CART_CLS.PROV_CLS].any bad
  | .glb | .clk | .pwr | .prf | .flt | .whl | .inp | .scn | .plc | .drv | .mem | .stg | .irq | .irqd | .tmr | .dma | .evt | .dor => false

/-- The checks of a page's chapter on a configuration: R90 and R100 (INP), R264 and R268 (ADC), R328 (TMR, EVT). -/
def State.pageBad (s : State) (b : Block) (n : Nat) : Bool :=
  match b with
  | .inp =>
    decide (s.get (Reg.INP.PWD_CFG.MAX n) ≤ s.get (Reg.INP.PWD_CFG.THR n)) ||
      (s.bit (Reg.INP.CFG.CLASS n) && decide ((s.softLimits n).2 < (s.softLimits n).1))
  | .adc =>
    (List.range 12).any (fun k => decide (s.get (Reg.ADC.CAL.F16 n k) < s.get (Reg.ADC.CAL.Z16 n k) + 4096)) ||
      (List.range 16).any (fun k => decide (s.get (Reg.ADC.SEQ.HI n k) < s.get (Reg.ADC.SEQ.LO n k)))
  | .tmr | .evt => s.badRoutes
  | .glb | .clk | .pwr | .prf | .flt | .whl | .scn | .plc | .lnk | .drv | .recorder | .mem | .stg | .irq | .irqd | .dma | .dor => false

/-- A content is INVALID over the live configuration; `c` is the committing compartment, none where every right holds. -/
def State.contentBad (s : State) (c : Option Nat) (p : Nat) (es : List Entry) : Bool :=
  let t := s.overlay es
  let slots := (slotsOf es).any (fun h => (t.slot h).bad || (match c with
    | some c => t.slotDenied c (t.slot h)
    | none => false))
  let pageWrong := match pageOf p with
    | some (b, n) => t.pageBad b n || (match c with
      | some c => t.classDenied c b n es
      | none => false)
    | none => false
  slots || pageWrong

/-- What a refusal with INVALID leaves on the page: CFG_REJ of a channel (R109), an error of a route (R328). -/
def State.refusalMark (s : State) (p : Nat) : State :=
  match pageOf p with
  | some (.inp, n) => s.put (Reg.INP.CH_STAT.CFG_REJ n) 1
  | some (.evt, _) => s.err (page .evt 0)
  | some (.tmr, _) => s.err (page .evt 0)
  | _ => s

/-- R221: a change of L judged at its tick T on the state of the link after the shutter events of that tick. -/
def State.lookaheadBad (s : State) (p : Nat) (es : List Entry) : Bool :=
  match pageOf p with
  | some (.lnk, n) =>
    let old := s.get (Reg.LNK.CFG.L n)
    let new := (s.overlay es).get (Reg.LNK.CFG.L n)
    let runs := s.lnkState n == 6 && !s.willShut p
    runs && (decide (old < new) || (decide (new < old) && decide ((new - 1) * 128 < s.get (Reg.LNK.DLIM.DLIM n))))
  | _ => false

/-! ### Carriages (R188, R189) -/

/-- Carriages of a handle that are live or reserved, not counting destinations of moves. -/
def State.heldBy (s : State) (h : Nat) : Nat := (s.fabric.carr.filter (fun e => e.2.handle == h && !s.isTarget e.1)).length

/-- How many carriages a change of a slot gives it that it did not have: none where it gains none. -/
def State.wants (s : State) (h : Nat) (old new : Slot) : Nat :=
  if new.typ = 0 then 0
  else if old.typ = 0 then (if new.prot then 2 else 1) - s.heldBy h
  else if new.prot ∧ !old.prot then 2 - s.heldBy h
  else 0

/-- Reserves carriages for a slot one by one, each in a domain of its own; none when one finds no place. `aim` keeps to R191. -/
def State.reserveMore (s : State) (aim : Bool) (h w : Nat) : Nat → Option State
  | 0 => some s
  | n + 1 =>
    match s.placeWith aim 0 h w true (s.domainsOf h) with
    | some (s', _) => s'.reserveMore aim h w n
    | none => none

/-- R191 is a preference only: what finds no place under it is placed without it. -/
def preferAim (f : Bool → Option State) : Option State :=
  match f true with
  | some s => some s
  | none => f false

/-- The carriages of a handle that are reserved. -/
def State.reservedFor (s : State) (h : Nat) : List (Nat × Nat) :=
  (s.fabric.carr.filter (fun e => e.2.handle == h && e.2.role == 0 && !s.isTarget e.1)).map (fun e => (h, e.1))

/-- Reserves what the slots of a content gain, in ascending handle order: none where no place is found. -/
def State.reserveWith (s after : State) (aim : Bool) : List Nat → Option State
  | [] => some s
  | h :: hs =>
    match s.reserveMore aim h (after.slot h).wheel (s.wants h (s.slot h) (after.slot h)) with
    | some s' => s'.reserveWith after aim hs
    | none => none

/-- Reserves what the slots of a content gain: none where no placement meets R190. -/
def State.reserveAll (s after : State) (hs : List Nat) : Option State := preferAim (fun aim => s.reserveWith after aim hs)

/-- The reservations of a commit that is refused are released; a handle that another commit reserves for keeps its own. -/
def State.unreserve (s : State) (rs : List (Nat × Nat)) : State :=
  s.forEach rs (fun s r =>
    if s.commits.any (fun c => c.reserved.any (fun x => x.1 == r.1)) then
      (if (s.carriage r.2).handle = r.1 ∧ (s.carriage r.2).role = 0 then s.setCarriage r.2 Carriage.empty else s)
    else s.releaseReserved r.1)

/-- Entries that the slots of a content load into the apply queue of a coach. -/
def State.loads (s : State) (es : List Entry) (c : Nat) : Nat :=
  let hs := slotsOf es
  (s.fabric.carr.filter (fun e => coachOf e.1 == c && hs.contains e.2.handle)).length

/-- Some entry of a commit is still unloaded at its tick: its coach's queue of 256 holds entries not yet written back and those
of commits accepted earlier that are still to apply. -/
def State.queueFull (s : State) (earlier : List Commit) (es : List Entry) : Bool :=
  let hs := slotsOf es
  let cs := sortNat ((s.fabric.carr.filter (fun e => hs.contains e.2.handle)).map (fun e => coachOf e.1))
  cs.any (fun c => decide (256 < (s.coach c).queued + s.loads es c + earlier.foldl (fun n x => n + s.loads x.live c) 0))

/-! ### Issue (R163 to R165) -/

/-- The outcome and the tick that a door reads of its last commit on a page. -/
def State.setOutcome (s : State) (d p code tick : Nat) : State :=
  s.onDoor d (fun x => { x with outcome := x.outcome.set (fun _ => ⟨0, 0⟩) p ⟨code, tick % 2 ^ 64⟩ })

/-- The tick that requests an immediate commit. -/
def immediate : Nat := 2 ^ 64 - 1

/-- An accepted commit: its content is frozen, the stage is empty, carriages are reserved. -/
def State.acceptCommit (s : State) (d p eff : Nat) (es : List Entry) : State :=
  let hs := slotsOf es
  let r := s.reserveAll (s.overlay es) hs
  let s' := r.getD s
  let gained := (hs.flatMap (fun h => s'.reservedFor h)).filter (fun x => (s.fabric.carr.find x.2).isNone)
  let c : Commit := ⟨d, p, eff, true, es, r.isSome, gained, []⟩
  let s := s'.emptyStage d p
  { s with commits := s.commits.map (fun (x : Commit) => if x.door = d ∧ x.page = p then { x with latest := false } else x) ++ [c] }

/-- A write of PG_COMMIT issues the commit of a door's stage for a page. -/
def State.issue (s : State) (d p : Nat) (low : Word) : State :=
  let x := s.door d
  let asked := x.upper.toNat * 2 ^ 32 + low.toNat
  let slots := if p = page .scn 0 then x.stagedSlots.length else 0
  let least := s.tick + 2 + slots / 256
  let eff := if asked = immediate then least else asked
  let es := s.stageEntries d p
  let refuse := fun (s : State) code =>
    { s.setOutcome d p code eff with
      commits := s.commits.map (fun (c : Commit) => if c.door = d ∧ c.page = p then { c with latest := false } else c) }
  if p = page .scn 0 ∧ x.overflow then refuse (s.emptyStage d p) 5
  else if eff < least then refuse s 3
  else if 16 ≤ s.pendingOf d then refuse s 4
  else if s.contentBad (some (s.comp d)) p es then refuse (s.refusalMark p) 6
  else (s.acceptCommit d p eff es).setOutcome d p 1 eff

/-! ### Effects of a commit on a page -/

/-- A tracker's configuration is judged at a commit (R110, row 20, R119): every failing check raises CFG_MISMATCH, and a tracker that
failed is held until row 6; RESUME without a sense of direction raises it when it newly arises. Row 20 does not apply while the shutter
holds (R138). -/
def State.wCheck (s : State) (w : Nat) : State :=
  if s.willShut (page .whl w) then s
  else
    let t := s.tracker w
    let blind := s.bit (Reg.WHL.CFG.RESUME w) && !s.wResume w
    let s := s.wFlag w t.held blind
    let s := if blind && !t.blind then s.raise (page .whl w) 8 else s
    if s.wCfgOk w then s else s.wMismatch w

/-- The fields that row 3 of Table 4-4 names. -/
def State.wKey (s : State) (w : Nat) : List Nat :=
  [s.wSrc w, s.get (Reg.WHL.CFG.CAM_CH w), s.wPat w, s.wPos w, s.get (Reg.WHL.CFG.PRESC w), s.get (Reg.WHL.CFG.CAM_EN w),
    s.get (Reg.WHL.CFG.CAM_HALF w)]

/-- A commit of a WHL page (R116, R119, R120, R136). -/
def State.whlCommitted (s old : State) (w door : Nat) : State :=
  let en := s.bit (Reg.WHL.SYNC_CFG.EN w)
  let was := old.bit (Reg.WHL.SYNC_CFG.EN w)
  let shut := s.willShut (page .whl w)
  let s :=
    if was ∧ !en then (s.wForget w).wEnter w 0
    else if en ∧ !was then (if s.shut (page .whl w) then ((s.ringClear w).wForget w).wShut w else (s.ringClear w).wPlace w)
    else if en ∧ !shut ∧ s.wState w ≠ 0 ∧ s.wKey w ≠ old.wKey w then s.wSeek w 3
    else s
  let cmd := s.get (Reg.WHL.CMD.CMD w)
  let corr := s.get (Reg.WHL.CORR_CTL.CORR_CMD w)
  let s := if cmd = 1 ∧ en then s.resync w else s
  let s := (s.wCheck w).corrPurge w
  let s := s.corrCommand w corr door
  (s.put (Reg.WHL.CMD.CMD w) 0).put (Reg.WHL.CORR_CTL.CORR_CMD w) 0

/-- A commit of an INP page: the trackers that take edges from the channel are judged anew. -/
def State.inpPageCommitted (s : State) (ch : Nat) : State :=
  let s := s.inpCommitted ch
  s.forEach ((List.range 48).filter (fun w => s.wSrc w == ch || s.get (Reg.WHL.CFG.CAM_CH w) == ch)) (fun s w => s.wCheck w)

/-- A commit of a LNK page (R214, R221, R223). -/
def State.lnkCommitted (s old : State) (n : Nat) (es : List Entry) : State :=
  let was := old.get (Reg.LNK.CFG.L n)
  let s := if s.get (Reg.LNK.CFG.L n) < was ∧ s.lnkState n = 6 ∧ !s.shut (page .lnk n) then
      s.onLnk n (fun l => { l with resume := some (s.tick + was - 1, was) })
    else s
  let s := if writes es (Reg.LNK.MGMT_TX_A.OPCODE n).addr ∨ writes es (Reg.LNK.MGMT_TX_B.DATA n).addr then
      (s.mgmtTx n).put (Reg.LNK.MGMT_TX_A.OPCODE n) 0
    else s
  let cmd := s.get (Reg.LNK.CMD.CMD n)
  let s := s.put (Reg.LNK.CMD.CMD n) 0
  if cmd = 1 then s.bringup n else if cmd = 2 then s.linkStop n else s

/-- A commit of a DRV page (R245, R250): a change of W_MS clears the bins. -/
def State.drvCommitted (s old : State) (n : Nat) : State :=
  let s := if s.get (Reg.DRV.DUTY.W_MS n) ≠ old.get (Reg.DRV.DUTY.W_MS n) then
      s.onDrv n (fun d => { d with ons := [], usedFrom := s.now })
    else s
  if s.bit (Reg.DRV.CTRL.CMP_CLR n) then (s.onDrv n (fun d => { d with clr := some (s.tick + 1) })).put (Reg.DRV.CTRL.CMP_CLR n) 0 else s

/-- INPUT, LO, HI and WIN_EN of a sequence entry (R268). -/
def State.winKey (s : State) (u k : Nat) : List Nat :=
  [s.get (Reg.ADC.SEQ.INPUT u k), s.get (Reg.ADC.SEQ.LO u k), s.get (Reg.ADC.SEQ.HI u k), s.get (Reg.ADC.SEQ.WIN_EN u k)]

/-- A commit of an ADC page (R261, R264, R265, R268). -/
def State.adcCommitted (s old : State) (u : Nat) : State :=
  let s := s.forEach ((List.range 12).filter (fun k => s.reg (Reg.ADC.CAL.F16 u k).addr != old.reg (Reg.ADC.CAL.F16 u k).addr))
    (fun s k => s.put (Reg.ADC.GAIN.GAIN u k) (gainOf (s.get (Reg.ADC.CAL.Z16 u k)) (s.get (Reg.ADC.CAL.F16 u k))))
  let s := s.forEach ((List.range 16).filter (fun k => s.winKey u k != old.winKey u k)) (fun s k => s.setWin u k 0)
  let s := if s.seqLen u ≤ s.get (Reg.ADC.STAT.POS u) then s.adcRestart u else s
  let cmd := s.get (Reg.ADC.CMD.CMD u)
  let s := s.put (Reg.ADC.CMD.CMD u) 0
  if cmd = 1 then s.adcRestart u
  else if cmd = 2 ∨ cmd = 3 then s.startCal u (cmd == 3) (s.get (Reg.ADC.CMD.CAL_IN u))
  else s

/-- A commit of a TMR page (R332); a timer that failed its self-test holds RUN at 0 (R380, Table 15-3). -/
def State.tmrCommitted (s : State) (n : Nat) : State :=
  let s := if (s.timer n).dead then s.put (Reg.TMR.CFG.RUN n) 0 else s
  if s.get (Reg.TMR.CMD.CMD n) = 1 then
    ((s.timerLoad n).onTmr n (fun t => { t with loaded := true })).put (Reg.TMR.CMD.CMD n) 0
  else s

/-- A commit of the CLK page (R54, R60). -/
def State.clkCommitted (s : State) : State :=
  let s := s.put Reg.CLK.TRIM_LIVE.TRIM (s.get Reg.CLK.TRIM.TRIM)
  let cmd := s.get Reg.CLK.HT_CMD.CMD
  (s.htCommand cmd).put Reg.CLK.HT_CMD.CMD 0

/-- A commit of the PRF page (R353). -/
def State.prfCommitted (s : State) (door : Nat) : State :=
  let cmd := s.get Reg.PRF.CMD.CMD
  (s.put Reg.PRF.CMD.CMD 0).prfCommand cmd (s.get Reg.PRF.CMD.PROF) door

/-- A committed PG_SHUTTER.SHUT (R288, R380 to R382, R385). -/
def State.shutCommitted (s : State) (p : Nat) (v : Bool) : State :=
  if p = page .flt 0 then (if v then s.hostShutDevice s.now else s)
  else
    match fnOfPage p with
    | some (f, n) => if v then s.hostShut f n else s.releaseShut f n (!s.flt.shutPend.any (fun x => x.page == p))
    | none => s

/-- What must be noted before the values of a page change (R82, R244, R251). -/
def State.beforeCommit (s : State) (b : Block) (n : Nat) (es : List Entry) : State :=
  match b with
  | .inp => if writes es (Reg.INP.FILT.FCLK n).addr then s.inpHoldFilt n else s
  | .drv => s.holdOld n
  | .glb | .clk | .pwr | .prf | .flt | .whl | .scn | .plc | .lnk | .adc | .recorder | .mem | .stg | .irq | .irqd | .tmr | .dma
  | .evt | .dor => s

/-- What a commit of a register page does beside giving its fields their values. -/
def State.pageCommitted (s old : State) (b : Block) (n door : Nat) (es : List Entry) : State :=
  match b with
  | .clk => s.clkCommitted
  | .prf => s.prfCommitted door
  | .inp => s.inpPageCommitted n
  | .whl => s.whlCommitted old n door
  | .lnk => s.lnkCommitted old n es
  | .drv => s.drvCommitted old n
  | .adc => s.adcCommitted old n
  | .tmr => s.tmrCommitted n
  | .flt | .evt | .recorder | .glb | .pwr | .scn | .plc | .mem | .stg | .irq | .irqd | .dma | .dor => s

/-- A register page takes a content. -/
def State.applyPage (s : State) (p door : Nat) (es : List Entry) : State :=
  match pageOf p with
  | none => s
  | some (b, n) =>
    let old := s
    let s := (s.beforeCommit b n es).overlay es
    let s := match shutBit es p with
      | some v => s.shutCommitted p v
      | none => s
    s.pageCommitted old b n door es

/-! ### Effects of a commit on slots (R145, R146, R167, R189) -/

/-- What a slot keeps and forgets when its words have been replaced at tick n. -/
def Slot.replaced (sl old : Slot) (n : Nat) (w0 : Bool) : Slot :=
  let fresh := old.typ == 0 && sl.typ != 0
  let armed := sl.arm && (!old.arm || fresh)
  let moved := sl.wheel != old.wheel
  let edited := sl.angA != old.angA || sl.dur != old.dur || sl.typ != old.typ || moved
  let sl := if w0 then { sl.setWord 0 (Word.withBits (sl.word 0) 31 25 ((sl.gen + 1) % 128)) with w0At := some n } else sl
  let sl := if fresh then { sl with last := none, back := none, queued := [], drop := false } else sl
  let sl := if armed then { sl with armAt := some n, count := 0 } else sl
  let sl := if moved then { sl with last := none, back := none, queued := [] } else sl
  if edited then { sl with editAt := some n } else sl

/-- A slot that is no longer protected gives up its twin and the making of one. -/
def State.dropTwin (s : State) (h : Nat) : State :=
  let mine := fun (m : Move) => m.twin && (s.carriage m.src).handle == h
  let gone := s.fabric.moves.filter mine
  State.unwait { s with fabric := { s.fabric with
      moves := s.fabric.moves.filter (fun m => !mine m)
      carr := s.fabric.carr.filter (fun e => !gone.any (fun m => m.dst == e.1)) } } h

/-- The fault cause of a slot lost with a coach of a cause (R181). -/
def State.lossCause (s : State) (a : Nat) : Nat :=
  let k := (s.coach (coachOf a)).cause
  if k = 3 then 0x11
  else if k = 4 then
    let d := domainOf (coachOf a)
    0x12 + nibble (s.get (if d < 8 then Reg.FLT.DOM_CAUSE_LO.CAUSE else Reg.FLT.DOM_CAUSE_HI.CAUSE)) (d % 8)
  else 0x10

/-- The slot becomes live on the carriages it has: one of a protected slot makes it single, none loses it (R188). -/
def State.liveOn (s : State) (h : Nat) (rs : List (Nat × Nat)) : State :=
  let sl := s.slot h
  let s := if sl.prot then s else s.dropTwin h
  let s := s.liven h sl.wheel sl.prot
  let lost := match rs.find? (fun r => r.1 == h && (s.carriage r.2).handle != h) with
    | some r => r.2
    | none => 0
  let n := (s.carriagesOf h).length
  if n = 0 then s.loseSlot h (s.lossCause lost) (coachOf lost) (coachOf lost)
  else if sl.prot ∧ n = 1 ∧ !s.fabric.recreate.contains h then s.singleSlot h lost (s.coach (coachOf lost)).cause
  else s

/-- The words of a slot have been replaced. -/
def State.slotApplied (s : State) (h : Nat) (old : Slot) (w0 : Bool) (rs : List (Nat × Nat)) : State :=
  let n := s.tick
  let s := s.onSlot h (fun sl => sl.replaced old n w0)
  let sl := s.slot h
  if sl.typ = 0 then
    (if old.typ = 0 then s
     else if sl.pass.isSome then s.onSlot h (fun sl => { sl with drop := true })
     else s.releaseCarriages h)
  else if old.typ = 0 ∨ sl.prot ≠ old.prot ∨ sl.wheel ≠ old.wheel then s.liveOn h rs
  else s

/-- The entries of a content enter the count of their coaches' queues. -/
def State.loadQueues (s : State) (es : List Entry) : State :=
  let hs := slotsOf es
  s.forEach (s.fabric.carr.filter (fun e => hs.contains e.2.handle)) (fun s e =>
    s.setCoach (coachOf e.1) { s.coach (coachOf e.1) with queued := (s.coach (coachOf e.1)).queued + 1 })

/-- Slots and endpoint bytes take a content. -/
def State.applySlots (s : State) (es : List Entry) (rs : List (Nat × Nat)) : State :=
  let old := s
  let s := (s.overlay es).loadQueues es
  s.forEach (slotsOf es) (fun s h => s.slotApplied h (old.slot h) (es.any (fun e => e.bar2 && e.off == h * 32)) rs)

/-! ### The commit tick (R166, R416) -/

/-- A content takes effect whole. -/
def State.applyContent (s : State) (p door : Nat) (es : List Entry) (rs : List (Nat × Nat)) : State :=
  if p = page .scn 0 then s.applySlots es rs else s.applyPage p door es

/-- The commit record (R277 COMMIT, kind 0). -/
def State.commitRecord (s : State) (c : Commit) (code : Nat) : State :=
  let no := s.recd.commitNo.get (fun _ => 0) c.door
  let s := { s with recd := { s.recd with commitNo := s.recd.commitNo.set (fun _ => 0) c.door ((no + 1) % 2 ^ 32) } }
  let es := c.entries.map (fun e => commitEntry e.bar2 e.off e.val.toNat)
  s.forEach (commitBodies [(62, 2, 0), (60, 2, c.door), (57, 3, code), (0, 32, no)] es)
    (fun s b => s.recordTwice 0x07 s.commitCls (st0 s.tick) 63 b)

/-- The carriages that a content still lacks at its tick are reserved now, except those that were reserved and lost. -/
def State.fillWith (s after : State) (rs : List (Nat × Nat)) (aim : Bool) : List Nat → Option State
  | [] => some s
  | h :: hs =>
    match s.reserveMore aim h (after.slot h).wheel (s.wants h (s.slot h) (after.slot h)) with
    | some s' => s'.fillWith after rs aim hs
    | none => if rs.any (fun r => r.1 == h) then s.fillWith after rs aim hs else none

/-- The carriages that a content still lacks at its tick, under R191 where that can be. -/
def State.fillIn (s after : State) (rs : List (Nat × Nat)) (hs : List Nat) : Option State :=
  preferAim (fun aim => s.fillWith after rs aim hs)

/-- The classes that the commits of CART_CLS due at the current tick give: they govern every cart generated in its work, the
COMMIT carts too (R417). -/
def State.foresee (s : State) : State :=
  s.forEach [0, 1, 2, 3] (fun s d =>
    s.forEach (s.commits.filter (fun c => c.door == d && c.page == page .recorder 0 && decide (c.eff ≤ s.tick)))
      (fun s c => if s.contentBad (some (s.comp d)) c.page c.live then s else s.overlay c.live))

/-- One commit reaches its tick, the current one. -/
def State.applyCommit (s : State) (c : Commit) : State :=
  let s := s.foresee
  let es := c.live
  let bad := s.contentBad (some (s.comp c.door)) c.page es || s.lookaheadBad c.page es
  let earlier := s.commits.takeWhile (fun x => x != c)
  let s := { s with commits := s.commits.erase c }
  let filled := if c.placed && !s.queueFull earlier es then s.fillIn (s.overlay es) c.reserved (slotsOf es) else none
  let code := if bad then 6 else if filled.isNone then 7 else 2
  let s := if code = 2 then filled.getD s else s.unreserve c.reserved
  let s := if code = 6 then s.refusalMark c.page else s
  let s := if c.latest then s.setOutcome c.door c.page code c.eff else s
  let s := s.commitRecord c code
  if code = 2 then (s.applyContent c.page c.door es c.reserved).foresee else s

/-- The first commit that is due at the current tick: the lowest door, then the order of issue. -/
def State.nextCommit (s : State) : Option Commit :=
  (s.commits.filter (fun c => decide (c.eff ≤ s.tick))).foldl (fun b c => match b with
    | none => some c
    | some x => if c.door < x.door then some c else some x) none

/-- The commits due at the current tick; `n` bounds their number, 16 of each of four doors. -/
def State.applyDue (s : State) : Nat → State
  | 0 => s
  | n + 1 =>
    match s.nextCommit with
    | some c => (s.applyCommit c).applyDue n
    | none => s

end Sys2Proof.Machine
end

