-- ==== Sys2Proof/Machine/Writes.lean ====
section
/-! DEFINITION. What a write of a BAR0 dword does once its door's rights are settled (R13, R287, R289 and the register tables).
Writer 4 is the profile loader, which has selectors of its own and no stage (R366). -/

namespace Sys2Proof.Machine

/-! ### Doors (R294, R296) -/

/-- CTRL.SHUT = 1 on the page of door n; a RELEASE of the same tick is undone (Table 11-9). -/
def State.adminShut (s : State) (n : Nat) : State := (s.onDoor n (fun x => { x with relAt := none })).doorCause n 4

/-- CTRL.RELEASE = 1 on the page of door n: at the next boundary, unless the fault manager set the shutter; a SHUT of the same
tick is undone. -/
def State.adminRelease (s : State) (n : Nat) : State :=
  s.onDoor n (fun x =>
    if s.get (Reg.DOR.DOOR_STAT.STATE n) = 2 then (if x.byFm then x else { x with relAt := some (s.tick + 1) })
    else { x with causes := x.causes.filter (fun k => k != 4) })

/-- A write of CTRL of door n. -/
def State.ctrlWrite (s : State) (n : Nat) (v : Word) : State :=
  let s := if Word.bits v 0 0 = 1 then s.adminShut n else s
  if Word.bits v 1 1 = 1 then s.adminRelease n else s

/-- A write of HEARTBEAT of door d by that door. -/
def State.beat (s : State) (d : Nat) : State :=
  (s.onDoor d (fun x => { x with hbAt := some s.tick })).put (Reg.DOR.DOOR_STAT.HB_ARMED d) 1

/-! ### Special registers -/

/-- A write of REF_CFG: a reference newly enabled is counted, one no longer enabled is ABSENT (R39); AUTO follows PRIO (R65). DESIGN CHOICE
(log entry 20): a PLL locked to a door that is no longer enabled stays LOCKED. -/
def State.refCfgWrite (s : State) (v : Word) : State :=
  let was := s.get Reg.CLK.REF_CFG.TREF_EN
  let s := (s.plainWrite 0x1040 v).slowFollow
  let now := s.get Reg.CLK.REF_CFG.TREF_EN
  s.forEach [0, 1, 2, 3] (fun s d =>
    if hasBit was d = hasBit now d then s
    else if hasBit now d then s.when s.clockOn (fun s => s.setRef d 1)
    else s.setRef d 0)

/-- A write of PLC CMD (R200): ARG takes its value, but for the level 3 of a COMPACT, which is reserved (R15); a reserved CMD has no
effect. -/
def State.plcWrite (s : State) (v : Word) (door : Nat) : State :=
  let cmd := Word.bits v 3 0
  let s := if cmd = 1 ∧ Word.bits v 26 16 = 3 then s else s.plainWrite 0x71040 v
  if cmd ≤ 4 then s.plcCommand cmd (s.get Reg.PLC.CMD.ARG) door else s

/-- A dword of the correction window: TBL 1 with the shadow IDLE, entries of real positions only (R139). -/
def State.corrWrite (s : State) (d n i : Nat) (v : Word) : State :=
  let sel := s.selOf d (page .whl n + 0x60)
  let k := sel % 2 * 512 + 2 * i
  let one := fun (t : Sparse Int) (j x : Nat) => if j < s.wPos n - s.wMiss n then t.set (fun _ => 0) j (Sys2Proof.Machine.signed 10 x) else t
  if sel / 2 % 2 = 1 ∧ s.corrState n = 0 then
    s.onTrk n (fun t => { t with corrSh := one (one t.corrSh k (Word.bits v 9 0)) (k + 1) (Word.bits v 25 16) })
  else s

/-- A write of KEY_HASH: in SHUTTERED while the key is not burnt (R363). -/
def State.keyHashWrite (s : State) (addr : Nat) (v : Word) : State :=
  if s.devState = 6 ∧ !s.power.keyBurnt then s.setReg addr v else s

/-- A write of FL_CMD: reserved operations have no effect. -/
def State.flCmdWrite (s : State) (v : Word) : State :=
  let op := Word.bits v 3 0
  if 1 ≤ op ∧ op ≤ 4 then s.flashStart op else s

/-- A write of DMA CTRL of channel c. -/
def State.dmaCtrl (s : State) (c : Nat) (v : Word) : State :=
  let s := if Word.bits v 0 0 = 1 then s.dmaStart c else s
  if Word.bits v 1 1 = 1 then s.dmaAbort c else s

/-- A write of the common head. -/
def State.headWrite (s : State) (d : Nat) (b : Block) (n off : Nat) (v : Word) : State :=
  let p := page b n
  match off with
  | 0x08 => if Word.bits v 0 0 = 1 then s.emptyStage d p else s
  | 0x20 => if b.hasCommit ∧ d < 4 then s.issue d p v else s
  | 0x24 => if d < 4 then s.onDoor d (fun x => { x with upper := v }) else s
  | 0x14 => s.plainWrite (p + off) (v &&& BitVec.ofNat 32 (2 ^ b.nsrc - 1))
  | 0x10 | 0x2C => s.plainWrite (p + off) v
  | _ => s

/-- A write of a register with an effect of its own, or of a plain one. -/
def State.blockWrite (s : State) (d : Nat) (b : Block) (n off : Nat) (v : Word) : State :=
  let addr := page b n + off
  match b with
  | .clk =>
    if off = 0x40 then s.refCfgWrite v
    else if off = 0x48 then (if Word.bits v 12 12 = 1 then s.selReq else s)
    else if off = 0x98 then s.sscWrite v
    else s.plainWrite addr v
  | .pwr =>
    if off = 0x40 then (if Word.bits v 1 0 ≤ 2 then s.dvfsWrite (Word.bits v 1 0) d else s)
    else if off = 0x58 then (s.plainWrite addr v).slowFollow
    else s.plainWrite addr v
  | .prf =>
    if 0x90 ≤ off ∧ off < 0xB0 then s.keyHashWrite addr v
    else if off = 0xB0 then s.burn (Word.bits v 0 0 == 1) (Word.bits v 1 1 == 1)
    else if off = 0xD0 then s.flCmdWrite v
    else s.plainWrite addr v
  | .whl => if 0x400 ≤ off ∧ off < 0x800 then s.corrWrite d n ((off - 0x400) / 4) v else s.plainWrite addr v
  | .plc => if off = 0x40 then s.plcWrite v d else s.plainWrite addr v
  | .irq =>
    let k := s.selOf d (page .irq 0 + 0x40)
    let g := s.selOf d (page .irq 0 + 0x54)
    if off = 0x44 then s.srcWrite k v
    else if off = 0x58 then s.grpWrite g false v
    else if off = 0x5C then s.grpWrite g true v
    else s
  | .irqd =>
    if off = 0x40 ∨ off = 0x44 then (if s.bit (Reg.IRQD.RING_CFG.EN n) then s else s.plainWrite addr v)
    else if off = 0x48 then
      s.ringWrite n (Word.bits v 4 4 == 1) (Word.bits v 3 0)
    else if off = 0x50 then s.consWrite n (Word.bits v 15 0)
    else if off = 0x54 then s.claim n (Word.bits v 9 0)
    else if off = 0x58 then s.eoi n (Word.bits v 13 0)
    else s.plainWrite addr v
  | .dma => if off = 0x64 then s.dmaCtrl n v else s.plainWrite addr v
  | .dor =>
    if off = 0x4C then s.ctrlWrite n v
    else if off = 0x50 then (if d = n then s.beat d else s)
    else s.plainWrite addr v
  | .glb | .flt | .inp | .scn | .lnk | .drv | .adc | .recorder | .mem | .stg | .tmr | .evt => s.plainWrite addr v

/-- A permitted write of a BAR0 dword by a writer: fields that are committed go to the door's stage, the others act. -/
def State.write (s : State) (d addr : Nat) (v : Word) : State :=
  match pageOf addr with
  | none => s
  | some (b, n) =>
    let off := addr % 0x1000
    if (regRow addr).isNone then s
    else
      let s := if d < 4 then s.stageReg d addr v else s
      if off < 0x40 then s.headWrite d b n off v
      else if (selOffsets b).contains off then
        s.onDoor d (fun x => { x with sel := x.sel.set (fun _ => 0) addr (v &&& BitVec.ofNat 32 (accMask addr [.rw])) })
      else s.blockWrite d b n off v

end Sys2Proof.Machine
end

