-- ==== Sys2Proof/Machine/Load.lean ====
section
/-! DEFINITION. Loading a profile and switching wheels to another at run time (R361, R366 to R369, Tables 14-6 and 14-7). -/

namespace Sys2Proof.Machine

/-! ### Folding with a place of failure -/

/-- Applies a step to each of a list; the first that fails answers its image offset. -/
def foldE {α β : Type} (f : β → α → Except Nat β) : β → List α → Except Nat β
  | b, [] => .ok b
  | b, x :: l =>
    match f b x with
    | .ok b' => foldE f b' l
    | .error e => .error e

/-- Image offset of a failure that concerns no entry. -/
def noEntry : Nat := 0xFFFFFFFF

/-- Pairs of dwords with the image offset of each. -/
def pairsFrom : Nat → List Nat → List (Nat × Nat × Nat)
  | off, a :: v :: l => (off, a, v) :: pairsFrom (off + 8) l
  | _, _ => []

/-- The pairs of a record. -/
def ProfRec.pairs (r : ProfRec) : List (Nat × Nat × Nat) := pairsFrom (r.off + 8) (leWords r.body)

/-- POST (Table 14-5). -/
def ProfRec.post (r : ProfRec) : Bool := hasBit r.flags 0

/-- The descriptors of a SLOT record: image offset, handle, W0 to W6; none where the body does not hold n of them. -/
def ProfRec.slots (r : ProfRec) : Option (List (Nat × Nat × List Nat)) :=
  match leWords r.body with
  | h :: n :: l =>
    if l.length = 7 * n ∧ h + n ≤ 131072 then
      some ((List.range n).map (fun i => (r.off + 16 + 28 * i, h + i, (l.drop (7 * i)).take 7)))
    else none
  | _ => none

/-- The bytes of an EPT record: image offset, endpoint address, value. -/
def ProfRec.bytes (r : ProfRec) : Option (List (Nat × Nat × Nat)) :=
  match leWords r.body with
  | a :: n :: _ =>
    if n ≤ r.body.length - 8 ∧ a + n ≤ 262144 then
      some (((List.range n).zip ((r.body.drop 8).take n)).map (fun e => (r.off + 16 + e.1, a + e.1, e.2.toNat)))
    else none
  | _ => none

/-! ### Order and tags (R361) -/

/-- Rank of a record type: PRE, then GLB and OWN, then the rest. -/
def recRank (t : Nat) : Nat := if t = 1 then 0 else if t ≤ 3 then 1 else 2

/-- The first record that stands out of order, a second PRE, or one whose TAG its type does not allow. -/
def misplaced : Nat → List ProfRec → Option Nat
  | _, [] => none
  | k, r :: l =>
    let tagBad := r.tag != 0xFF && !(decide (r.tag < 48) && (r.typ == 4 || r.typ == 5))
    if recRank r.typ < k ∨ tagBad then some r.off else misplaced (if r.typ = 1 then 1 else recRank r.typ) l

/-! ### Records of a load (Table 14-7) -/

/-- Bits that a profile gives a GLB register: EP_GROUP and CLASS hold a USE mask and an owner for each byte (Table 11-15). -/
def glbMask (addr : Nat) : Nat :=
  if (0x70 ≤ addr ∧ addr < 0x94) ∨ (0xC0 ≤ addr ∧ addr < 0xC8) then 0xF3F3F3F3 else accMask addr [.ro]

/-- A GLB pair: a field that the profile sets, or HB_PERIOD of a door; a field kept by hardware is ignored. -/
def State.loadGlb (s : State) (x : Nat × Nat × Nat) : Except Nat State :=
  let (off, addr, v) := x
  let glb := decide (0x40 ≤ addr ∧ addr < 0x1000)
  let hb := decide (0x150000 ≤ addr ∧ addr < 0x154000) && addr % 0x1000 == 0x54
  if addr % 4 ≠ 0 ∨ (regRow addr).isNone ∨ !(glb || hb) then .error off
  else if addr ≤ 0x48 then .ok s
  else .ok (s.setReg addr (BitVec.ofNat 32 v &&& BitVec.ofNat 32 (glbMask addr)))

/-- An OWN entry: a page and its compartment. -/
def State.loadOwn (s : State) (x : Nat × Nat) : Except Nat State :=
  let p := x.2 / 0x1000 * 0x1000
  if (pageOf p).isNone then .error x.1 else .ok { s with owner := s.owner.set (fun _ => 0) p (x.2 % 4) }

/-- A register has a field that a value would give a reserved encoding. -/
def State.reservedIn (s : State) (addr : Nat) (v : Word) : Bool :=
  (fieldsAt addr).any (fun f => (f.acc == .rw || f.acc == .rwc) && !s.legal addr f (Word.bits v f.hi f.lo))

/-- A REG pair goes straight into the live configuration: its RW fields as written, its RWC fields as committed. -/
def State.applyPair (s : State) (addr : Nat) (v : Word) : State :=
  let rw := BitVec.ofNat 32 (accMask addr [.rw])
  let rwc := BitVec.ofNat 32 (accMask addr [.rwc])
  let s := if rw = 0 then s else s.write 4 addr (v &&& rw)
  if rwc = 0 then s else s.applyPage (pageBase addr) 4 [⟨false, addr, v, rwc⟩]

/-- A REG pair of a load. -/
def State.loadPair (s : State) (x : Nat × Nat × Nat) : Except Nat State :=
  let (off, addr, v) := x
  let w := BitVec.ofNat 32 v
  if addr % 4 ≠ 0 ∨ !hasAcc addr [.rw, .rwc] ∨ s.reservedIn addr w then .error off else .ok (s.applyPair addr w)

/-- The page of a pair stands as no commit could leave it. -/
def State.pairStands (s : State) (x : Nat × Nat × Nat) : Except Nat State :=
  match pageOf x.2.1 with
  | some (b, n) => if s.pageBad b n then .error x.1 else .ok s
  | none => .ok s

/-- A descriptor as a profile gives it, before its checks: RO bits are ignored. -/
def Slot.given (sl : Slot) (ws : List Nat) : Slot :=
  { sl with w := ((List.range 7).zip ws).map (fun e =>
      overlaid (sl.word e.1) (BitVec.ofNat 32 e.2) (BitVec.ofNat 32 (slotMask e.1))) }

/-- A descriptor that a profile may not give: a reserved encoding, PROT 0 without UNPROT, or a check of INVALID. -/
def State.givenBad (s : State) (h : Nat) (sl : Slot) : Bool :=
  decide (4 ≤ sl.typ) || decide (48 ≤ sl.wheel) || (!sl.prot && !s.mayUnprotect h) || sl.bad

/-- A SLOT descriptor of a load. -/
def State.loadSlot (s : State) (x : Nat × Nat × List Nat) : Except Nat State :=
  let (off, h, ws) := x
  let old := s.slot h
  let sl := old.given ws
  if s.givenBad h sl then .error off else .ok (s.setSlot h (sl.replaced old s.tick false))

/-- An endpoint byte of a load. -/
def State.loadByte (s : State) (x : Nat × Nat × Nat) : Except Nat State :=
  let (off, a, v) := x
  if !epExists a then .ok s
  else if v / 64 = 3 then .error off
  else .ok (s.setEpt a (BitVec.ofNat 32 v &&& 0xF0))

/-- The entries of an OWN record with their image offsets. -/
def ownEntries (r : ProfRec) : List (Nat × Nat) :=
  (leWords r.body).foldl (fun (a : Nat × List (Nat × Nat)) v => (a.1 + 4, a.2 ++ [(a.1, v)])) (r.off + 8, []) |>.2

/-- One record of a load. -/
def State.loadRec (s : State) (r : ProfRec) : Except Nat State :=
  match r.typ with
  | 2 => foldE State.loadGlb s r.pairs
  | 3 => foldE State.loadOwn s (ownEntries r)
  | 4 =>
    (match foldE State.loadPair s r.pairs with
     | .ok s => foldE State.pairStands s r.pairs
     | .error e => .error e)
  | 5 =>
    (match r.slots with
     | some l => foldE State.loadSlot s l
     | none => .error r.off)
  | 6 =>
    (match r.bytes with
     | some l => foldE State.loadByte s l
     | none => .error r.off)
  | _ => .ok s

/-- The handle boundaries rise. -/
def State.boundsOk (s : State) : Bool :=
  decide (s.handleBound 1 ≤ s.handleBound 2 ∧ s.handleBound 2 ≤ s.handleBound 3 ∧ s.handleBound 3 ≤ 131072)

/-- Step 4: every slot is placed, in ascending handle order, at the limit of a level. -/
def State.placeAll (s : State) (aim : Bool) : List Nat → Option State
  | [] => some s
  | h :: hs =>
    let sl := s.slot h
    match s.reserveMore aim h sl.wheel (if sl.prot then 2 else 1) with
    | some s' => (s'.liven h sl.wheel sl.prot).placeAll aim hs
    | none => none

/-- Step 4 at the limit of LEVEL, whatever level is in force. -/
def State.placeProfile (s : State) (level : Nat) : Option State :=
  let now := s.level
  let hs := (s.slots.filter (fun e => e.2.typ != 0)).map (fun e => e.1)
  (preferAim (fun aim => (s.put Reg.PWR.DVFS_STAT.LEVEL level).placeAll aim hs)).map (fun s => s.put Reg.PWR.DVFS_STAT.LEVEL now)

/-- Step 5: the move to LEVEL begins as a transition of R72 or R73, in place of one that was under way; it ends at a boundary to
come. -/
def State.moveLevel (s : State) (level : Nat) : State :=
  let s := s.put Reg.PWR.DVFS_TARGET.LEVEL level
  if level = s.level then (if s.clk.dvfs.isSome then (s.driveVid level).setDvfs none else s)
  else if level < s.level then (s.driveVid level).setDvfs (some ⟨level, s.level, s.tick, none, true⟩)
  else s.setDvfs (some ⟨level, s.level, s.tick, none, false⟩)

/-- The records of a load after GLB and OWN. -/
def ProfImage.content (m : ProfImage) : List ProfRec := m.recs.filter (fun r => decide (4 ≤ r.typ))

/-- Steps 2 to 5 of Table 14-7 on the image of the copy taken, up to the start of the move: the state they leave, with cause and offset
of a failure. On a board whose memory does not train the load fails with CONTENT, for no entry (R409). -/
def State.loadSteps (s : State) (m : ProfImage) : State × Option (Nat × Nat) :=
  if !s.power.ddrOk then (s, some (4, noEntry)) else
  match misplaced 0 m.recs with
  | some off => (s, some (4, off))
  | none =>
    match foldE State.loadRec s (m.recs.filter (fun r => r.typ == 2 || r.typ == 3)) with
    | .error off => (s, some (4, off))
    | .ok s1 =>
      if !s1.boundsOk ∨ 2 < m.level then (s1, some (4, noEntry))
      else
        match foldE State.loadRec s1 (m.content.filter (fun r => !r.post)) with
        | .error off => (s1, some (4, off))
        | .ok s2 =>
          match s2.placeProfile m.level with
          | none => (s2, some (5, noEntry))
          | some s3 => (s3.moveLevel m.level, none)

/-- Step 6 of Table 14-7: POST records. A move that has not reached LEVEL fails with VCORE. -/
def State.loadPost (s : State) (m : ProfImage) : State × Option (Nat × Nat) :=
  if s.level ≠ m.level then (s, some (6, noEntry))
  else
    match foldE State.loadRec s (m.content.filter (fun r => r.post)) with
    | .error off => (s, some (4, off))
    | .ok s => (s, none)

/-- RESULT of a failed load or switch, by its load cause. -/
def resultOf (cause : Nat) : Nat := if cause = 6 then 11 else cause + 3

/-- The load fails with a cause. -/
def State.loadFails (s : State) (cause off : Nat) : State :=
  let s := ((s.put Reg.PRF.LOAD_ERR.OFFSET off).err (page .prf 0)).enterShuttered cause
  let s := if s.power.loadCmd then s.cmdEnd (resultOf cause) else s
  { s with power := { s.power with loadCmd := false, loadCopy := none } }

/-- WHEEL_PROF of every wheel. -/
def State.allWheels (s : State) (p : Nat) : State :=
  s.forEach (List.range 6) (fun s i => s.put (Reg.PRF.WHEEL_PROF.PROF i) ((List.range 8).foldl (fun a j => a + p * 16 ^ j) 0))

/-- The load is complete: the device enters READY. -/
def State.loadDone (s : State) (p copy : Nat) (m : ProfImage) : State :=
  let s := (s.put Reg.PRF.STAT.PROF_LOADED p).put Reg.PRF.STAT.COPY copy
  let s := ((s.put Reg.PRF.PROF_ID.ID m.ident).put Reg.PRF.PROF_VER.VERSION m.version).put Reg.PRF.PROF_CRC.CRC m.crc
  let s := (s.allWheels p).put Reg.PLC.STAT.STATE 0
  let s := (s.put Reg.CLK.PLL_STAT.TIMEBASE_LOST 0).put Reg.FLT.DEV_FAULT.DEV_SHUT 0
  let done := s.power.loadCmd
  let s := { s with
    power := { s.power with subsys := m.subsys, epochDue := true, loadCmd := false, loadCopy := none }
    recd := { s.recd with
      loadTick := some s.tick, loadOfs := s.clk.htOfs, loadTrim := s.get Reg.CLK.TRIM_LIVE.TRIM,
      loadValid := s.bit Reg.CLK.HT_STAT.HT_VALID, loadLevel := m.level } }
  let s := s.setDevState 7
  if done then s.cmdEnd 1 else s

/-- The load goes on once the move of step 5 is over (Table 14-7): step 6, and its end. The image is still the one chosen: the flash takes
no operation during LOAD (R374). The loader's selectors are its own and are forgotten. -/
def State.loadResume (s : State) : State :=
  match s.power.loadCopy with
  | none => s
  | some c =>
    if s.devState ≠ 5 ∨ s.clk.dvfs.isSome then s
    else
      match s.copyOf s.power.loadProf c with
      | none => s.loadFails 3 noEntry
      | some m =>
        let r := s.loadPost m
        let s := r.1.setDoor 4 Door.reset
        match r.2 with
        | some (cause, off) => s.loadFails cause off
        | none => if s.devState = 5 then s.loadDone s.power.loadProf c m else s

/-- LOAD runs (R366): to its end, or up to a move of step 5 that waits for a boundary. -/
def State.loadComplete (s : State) : State :=
  if s.devState ≠ 5 then s
  else if s.power.loadCopy.isSome then s.loadResume
  else
    let p := s.power.loadProf
    let s := s.showCopies p
    match s.chooseCopy p with
    | none => s.loadFails 3 noEntry
    | some (c, m) =>
      let r := s.loadSteps m
      let s := r.1.setDoor 4 Door.reset
      match r.2 with
      | some (cause, off) => s.loadFails cause off
      | none => ({ s with power := { s.power with loadCopy := some c } }).loadResume

/-! ### Run-time switch: preparation (R361, R367) -/

/-- COMP_CFG.SWITCH of a compartment. -/
def State.maySwitch (s : State) (c : Nat) : Bool := s.bit (Reg.GLB.COMP_CFG.SWITCH c)

/-- The wheels that an image switches: the owner of the page takes part and records are tagged for it. -/
def State.switchWheels (s : State) (m : ProfImage) : List Nat :=
  (List.range 48).filter (fun w => s.maySwitch (s.pageComp (page .whl w)) && m.recs.any (fun r => r.tag == w && decide (4 ≤ r.typ)))

/-- What a wheel's content is built in: the live state with it laid over, and the entries so far as stages. -/
abbrev Build := State × Sparse (Word × Word) × Sparse (Word × Word)

/-- A wheel-tagged REG pair: RWC fields of a page of a compartment that takes part. -/
def switchPair (b : Build) (x : Nat × Nat × Nat) : Except Nat Build :=
  let (off, addr, v) := x
  let w := BitVec.ofNat 32 v
  let mask := BitVec.ofNat 32 (accMask addr [.rwc])
  let allowed := match pageOf addr with
    | some (bl, n) => b.1.maySwitch (b.1.ownerOf bl n)
    | none => false
  if addr % 4 ≠ 0 ∨ !hasAcc addr [.rwc] ∨ hasAcc addr [.rw] ∨ !allowed ∨ b.1.reservedIn addr w then .error off
  else .ok (b.1.putEntry ⟨false, addr, w, mask⟩, stageJoin b.2.1 addr w mask, b.2.2)

/-- A wheel-tagged SLOT descriptor: a handle of a compartment that takes part, of that wheel or of TYPE NONE. -/
def switchSlot (tag : Nat) (b : Build) (x : Nat × Nat × List Nat) : Except Nat Build :=
  let (off, h, ws) := x
  let s := b.1
  let sl := (s.slot h).given ws
  if !s.maySwitch (s.handleOwner h) ∨ (sl.typ ≠ 0 ∧ sl.wheel ≠ tag) ∨ s.givenBad h sl ∨ s.slotDenied (s.handleOwner h) sl then .error off
  else
    let st := ((List.range 7).zip ws).foldl (fun a e => stageJoin a (h * 8 + e.1) (BitVec.ofNat 32 e.2) (BitVec.ofNat 32 (slotMask e.1))) b.2.2
    .ok (s.setSlot h sl, b.2.1, st)

/-- One record tagged for a wheel. -/
def switchRec (b : Build) (r : ProfRec) : Except Nat Build :=
  if r.typ = 4 then foldE switchPair b r.pairs
  else if r.typ = 5 then
    match r.slots with
    | some l => foldE (switchSlot r.tag) b l
    | none => .error r.off
  else .error r.off

/-- The entries of a build, ascending SPACE, then offset. -/
def Build.entries (b : Build) : List Entry :=
  b.2.1.map (fun e => (⟨false, e.1, e.2.1, e.2.2⟩ : Entry)) ++
    b.2.2.map (fun e => (⟨true, e.1 / 8 * 32 + e.1 % 8 * 4, e.2.1, e.2.2⟩ : Entry))

/-- The pages that a content writes. -/
def pagesOf (es : List Entry) : List Nat := sortNat ((es.filter (fun e => !e.bar2)).map (fun e => pageBase e.off))

/-- A page of a content fails its chapter's checks or names a class outside its owner's use. -/
def State.pagesBad (s : State) (es : List Entry) : Bool :=
  (pagesOf es).any (fun p => match pageOf p with
    | some (b, n) => s.pageBad b n || s.classDenied (s.ownerOf b n) b n es
    | none => false)

/-- The content of one wheel; none where a check of R361 or Table 14-7 step 3 fails. -/
def State.switchContent (s : State) (m : ProfImage) (w : Nat) : Option (List Entry) :=
  match foldE switchRec (s, [], []) (m.recs.filter (fun r => r.tag == w && decide (4 ≤ r.typ))) with
  | .error _ => none
  | .ok b => if b.1.pagesBad b.entries then none else some b.entries

/-- The contents of the wheels that switch. -/
def State.switchContents (s : State) (m : ProfImage) : List Nat → Option (List (Nat × List Entry))
  | [] => some []
  | w :: ws =>
    match s.switchContent m w, s.switchContents m ws with
    | some es, some l => some ((w, es) :: l)
    | _, _ => none

/-- Carriages for the new slots of every wheel. -/
def State.reserveSwitch (s : State) : List (Nat × List Entry) → Option State
  | [] => some s
  | (_, es) :: l =>
    match s.reserveAll (s.overlay es) (slotsOf es) with
    | some s' => s'.reserveSwitch l
    | none => none

/-- SW_PEND: the wheels that have yet to switch. -/
def State.pend (s : State) : Nat := s.get Reg.PRF.SW_PEND_HI.MASK * 2 ^ 32 + s.get Reg.PRF.SW_PEND_LO.MASK

/-- Puts SW_PEND. -/
def State.setPend (s : State) (m : Nat) : State := (s.put Reg.PRF.SW_PEND_LO.MASK (m % 2 ^ 32)).put Reg.PRF.SW_PEND_HI.MASK (m / 2 ^ 32)

/-- The switch in progress ends with a result; what it reserved and did not use is released. -/
def State.switchEnd (s : State) (result : Nat) : State :=
  match s.power.sw with
  | none => s
  | some w =>
    let s := s.unreserve (w.content.flatMap (fun c => (slotsOf c.2).map (fun h => (h, 0))))
    let s := { s with power := { s.power with sw := none } }
    let s := ((s.put Reg.PRF.STAT.SW_STATE 0).put Reg.PRF.STAT.SW_PROF 0).setPend 0
    (s.setActive kSwitch false).cmdEnd result

/-- Preparation completes or fails; complete, the switch is armed and its wheels are pending. -/
def State.switchPrepared (s : State) : State :=
  match s.power.sw with
  | none => s
  | some w =>
    if w.ready then s
    else
      let s := s.showCopies w.prof
      match s.chooseCopy w.prof with
      | none => s.switchEnd 6
      | some (_, m) =>
        match s.switchContents m (s.switchWheels m) with
        | none => s.switchEnd 7
        | some l =>
          match s.reserveSwitch l with
          | none => s.switchEnd 8
          | some s =>
            let s := { s with power := { s.power with sw := some { w with ready := true, content := l } } }
            (s.put Reg.PRF.STAT.SW_STATE 3).setPend (l.foldl (fun a e => a + 2 ^ e.1) 0)

/-! ### Run-time switch: arming and the switch of each wheel (R368, R369) -/

/-- Every wheel has switched: DONE. -/
def State.switchDone (s : State) : State :=
  match s.power.sw with
  | some w => if w.ready ∧ s.pend = 0 then (s.switchEnd 1).raise (page .prf 0) 3 else s
  | none => s

/-- The arming tick: a preparation that is not complete ends with NOT_READY; a switch without wheels is done. -/
def State.switchArm (s : State) : State :=
  match s.power.sw with
  | some w => if s.tick < w.arm then s else if w.ready then s.switchDone else s.switchEnd 9
  | none => s

/-- Wheel w has yet to switch and may from the current tick on. -/
def State.switchDue (s : State) (w : Nat) : Bool :=
  match s.power.sw with
  | some x => x.ready && decide (x.arm ≤ s.tick) && hasBit s.pend w
  | none => false

/-- Live slots of a wheel that its switch sets to TYPE NONE: of compartments that take part, not written by its records. -/
def State.orphans (s : State) (w : Nat) (es : List Entry) : List Entry :=
  let kept := slotsOf es
  ((s.slots.filter (fun e => e.2.typ != 0 && e.2.wheel == w && s.maySwitch (s.handleOwner e.1) && !kept.contains e.1)).map
    (fun e => (⟨true, e.1 * 32, 0, 7⟩ : Entry)))

/-- WHEEL_PROF of a wheel. -/
def State.setWheelProf (s : State) (w p : Nat) : State :=
  let f := Reg.PRF.WHEEL_PROF.PROF (w / 8)
  let v := s.get f
  s.put f (v - v / 16 ^ (w % 8) % 16 * 16 ^ (w % 8) + p * 16 ^ (w % 8))

/-- The commit record of a wheel's switch (R277 COMMIT, kind 3). -/
def State.switchRecord (s : State) (w prof : Nat) (es : List Entry) : State :=
  let no := (s.tracker w).switchNo
  let s := s.onTrk w (fun t => { t with switchNo := (no + 1) % 2 ^ 32 })
  s.forEach (commitBodies [(62, 2, 3), (57, 3, 2), (50, 6, w), (44, 3, prof), (0, 32, no)]
      (es.map (fun e => commitEntry e.bar2 e.off e.val.toNat)))
    (fun s b => s.recordTwice 0x07 s.commitCls (st0 s.tick) w b)

/-- Wheel w switches in the current tick. -/
def State.wheelSwitch (s : State) (w : Nat) : State :=
  match s.power.sw with
  | none => s
  | some x =>
    if !s.switchDue w then s
    else
      let mine := match x.content.find? (fun c => c.1 == w) with
        | some c => c.2
        | none => []
      let regs := mine.filter (fun e => !e.bar2)
      let slots := sortBy (fun e => e.off) (mine.filter (fun e => e.bar2) ++ s.orphans w mine)
      let rs := (slotsOf mine).map (fun h => (h, 0))
      let s := s.switchRecord w x.prof (regs ++ slots)
      let s := (s.fillIn (s.overlay slots) rs (slotsOf slots)).getD s
      let s := s.forEach (pagesOf regs) (fun s p => s.applyPage p 4 (regs.filter (fun e => pageBase e.off == p)))
      let s := s.applySlots slots rs
      let s := (s.setWheelProf w x.prof).setPend (setBit s.pend w false)
      (s.raise (page .prf 0) 2).switchDone

/-- Wheels that are due to switch and whose angle is not valid at the boundary of the current tick (R368). -/
def State.idleWheels (s : State) : List Nat := (List.range 48).filter (fun w => s.switchDue w && !s.wValid w)

/-- Wheels whose angle was not valid at the boundary switch in its Apply phase; one that a shutter of that phase takes waits for the next
(Table 14-12). -/
def State.idleSwitches (s : State) (ws : List Nat) : State := s.forEach ws (fun s w => s.wheelSwitch w)

/-! ### The ledger (R392) -/

/-- A queued request is released and judged as if newly made. -/
def State.judgeHeld (s : State) (h : Held) : State :=
  let s := (s.unqueue h.kind h.arg).raise (page .flt 0) 5
  if h.kind = kEvac then s.judgeEvac (h.arg % 2048) (h.arg / 2048)
  else if h.kind = kDvfs then (if s.clk.dvfs.isSome then s.put Reg.PWR.DVFS_STAT.RESULT 2 else s.dvfsAsk h.arg h.door)
  else if h.kind = kLearn then s.learnStart h.arg
  else if h.kind = kSwitch then s.startSwitch h.arg
  else s.setActive h.kind true

/-- The queued requests whose rival is no longer active, in the order in which they were queued. -/
def State.releaseLedger (s : State) : State :=
  s.forEach s.flt.queue (fun s h => if s.active (kRival h.kind) then s else s.judgeHeld h)

/-! ### Commands -/

/-- LOAD_COMPLETE (R366, R409). -/
def execLoadComplete (s : State) : Host.Outcome State Fault Refusal := run s s.loadComplete

/-- SWITCH_PREPARED (R367). -/
def execSwitchPrepared (s : State) : Host.Outcome State Fault Refusal := run s s.switchPrepared

/-- SWITCH_ARM (R368). -/
def execSwitchArm (s : State) : Host.Outcome State Fault Refusal := run s s.switchArm

/-- LEDGER_RELEASE (R392): one queued request whose rival has ended; `w` names the wheel of a LEARN. -/
def execLedgerRelease (k : Fin 6) (w : WheelNo) (s : State) : Host.Outcome State Fault Refusal :=
  run s (match s.flt.queue.find? (fun h => h.kind == k.val && (k.val != kLearn || h.arg == w.val)) with
    | some h => if s.active (kRival k) then s else s.judgeHeld h
    | none => s)

end Sys2Proof.Machine
end

