-- ==== Sys2Proof/Machine/Doors.lean ====
section
/-! DEFINITION. Doors: states and shutters, the service of reads and writes under their rights, and the commands that are
accesses of a door (R281 to R296, R354, R387). -/

namespace Sys2Proof.Machine

/-! ### The PCIe function of a door (R278, R279) -/

/-- The capabilities of the function (Table 11-1). -/
inductive Capability where
  | powerManagement | pciExpress | msix | advancedErrors
deriving DecidableEq, Repr

/-- A base address register pair (Table 11-2). -/
structure Bar where
  size : Nat
  wide : Bool
  prefetchable : Bool
deriving DecidableEq, Repr

/-- What the configuration space of a door reports (Tables 11-1 and 11-2). `bars` holds the pairs BAR0 and BAR1, BAR2 and BAR3, BAR4 and
BAR5; none reads 0. The addresses that a host gives them are not held: accesses come as offsets. -/
structure PcieFunction where
  vendor : Nat
  device : Nat
  revision : Nat
  classCode : Nat
  subsystemVendor : Nat
  subsystem : Nat
  headerType : Nat
  interruptPin : Nat
  generation : Nat
  lanes : Nat
  maxPayload : Nat
  msixEntries : Nat
  capabilities : List Capability
  functionReset : Bool
  completionTimeoutMs : Nat
  timeoutDisable : Bool
  bars : List (Option Bar)
deriving DecidableEq, Repr

/-- The function that every door presents (R278): the revision follows the die, the subsystem the profile. -/
def State.pcieFunction (s : State) : PcieFunction where
  vendor := 0x1EFC
  device := 0x6A06
  revision := Config.stepping.toNat
  classCode := 0x118000
  subsystemVendor := 0x1EFC
  subsystem := s.power.subsys
  headerType := 0
  interruptPin := 0
  generation := 4
  lanes := 4
  maxPayload := 512
  msixEntries := 1024
  capabilities := [.powerManagement, .pciExpress, .msix, .advancedErrors]
  functionReset := true
  completionTimeoutMs := 50
  timeoutDisable := false
  bars := [some ⟨2 ^ 24, true, false⟩, some ⟨2 ^ 23, true, false⟩, none]

/-! ### Door states (R281, R282, R294 to R296) -/

/-- DOOR_STAT.STATE of door d: 0 DOWN, 1 UP, 2 SHUTTERED. -/
def State.doorState (s : State) (d : Nat) : Nat := s.get (Reg.DOR.DOOR_STAT.STATE d)

/-- A door changes state, on its page and in GLB DOOR_STATE; DOOR_CHANGE is raised. -/
def State.showDoor (s : State) (d v : Nat) : State :=
  if s.doorState d = v then s
  else
    let g := s.get Reg.GLB.DOOR_STATE.STATE
    let s := (s.put (Reg.DOR.DOOR_STAT.STATE d) v).put Reg.GLB.DOOR_STATE.STATE (g - g / 4 ^ d % 4 * 4 ^ d + v * 4 ^ d)
    s.raise (page .glb 0) 1

/-- The per-door state that R282 sets on entry into UP. -/
def Door.fresh (x : Door) : Door :=
  { x with stage := [], slotStage := [], eptStage := [], overflow := false, upper := 0, outcome := [], snap := [], sel := [],
           hbAt := none }

/-- R282 for door d: its stages, words, outcomes, snapshots and selectors, the violation count and the heartbeat timer. -/
def State.doorFresh (s : State) (d : Nat) : State :=
  ((s.onDoor d Door.fresh).put (Reg.DOR.VIOL_CNT.COUNT d) 0).put (Reg.DOR.DOOR_STAT.HB_ARMED d) 0

/-- R319: a door that comes up from DOWN takes the reset values of IRQD and of its MSI-X table, but for its first entry after a
wake, which keeps what was restored (R321). -/
def State.doorRenew (s : State) (d : Nat) : State :=
  if (s.door d).restored then s.onDoor d (fun x => { x with restored := false }) else s.irqdReset d

/-- The marker of a door that the fault manager shutters, at the boundary about to begin (R32, R379). -/
def State.doorMarker (s : State) (d : Nat) : State := s.faultMarker 0x06 0x60 d aShuttered none d (s.tick + 1) 63

/-- LINK_STAT of a door that is no longer DOWN (Table 11-13). -/
def State.showLink (s : State) (d : Nat) (cfg : LinkUp) : State :=
  (s.put (Reg.DOR.LINK_STAT.WIDTH d) cfg.width).put (Reg.DOR.LINK_STAT.SPEED d) cfg.speed

/-- Door d enters SHUTTERED at the boundary about to begin, with a cause. -/
def State.shutDoor (s : State) (d cause : Nat) : State :=
  let s := s.irqLeave d
  let s := s.onDoor d (fun x =>
    { x with stage := [], slotStage := [], eptStage := [], overflow := false, causes := [], byFm := cause == 5, relAt := none })
  let s := (s.put (Reg.DOR.DOOR_STAT.CAUSE d) cause).put64 (Reg.DOR.SHUT_TICK_LO.TICK d) (Reg.DOR.SHUT_TICK_HI.TICK d) (s.tick + 1)
  let s := (s.showDoor d 2).raise (page .dor d) 1
  if cause = 5 then s.doorMarker d else s

/-- CAUSE of several: FAULT, else the lowest code (R294). -/
def doorCode (l : List Nat) : Nat := if l.contains 5 then 5 else l.headD 0

/-- The shutter of door d takes effect at the boundary about to begin. -/
def State.doorShutterEffect (s : State) (d : Nat) : State :=
  let x := s.door d
  match s.doorState d with
  | 0 =>
    (match x.heldFault, x.upCfg with
     | true, some cfg =>
       let s := (s.doorRenew d).onDoor d (fun x => { x with heldFault := false, upCfg := none })
       ((s.doorFresh d).showLink d cfg).shutDoor d 5
     | _, _ => s)
  | 1 => if x.causes.isEmpty then s else s.shutDoor d (doorCode x.causes)
  | _ => if x.causes.contains 5 then
      let s := if x.byFm then s else s.doorMarker d
      (s.onDoor d (fun x => { x with causes := [], byFm := true })).put (Reg.DOR.DOOR_STAT.CAUSE d) 5
    else s

/-- A RELEASE of the current tick takes effect at the boundary about to begin (R296). -/
def State.doorReleaseEffect (s : State) (d : Nat) : State :=
  if s.doorState d = 2 ∧ (s.door d).relAt.isSome then
    let s := (s.onDoor d (fun x => { x with relAt := none })).doorFresh d
    (s.showDoor d 1).raise (page .dor d) 2
  else s

/-- A release applies first, a new shutter after it (Table 11-9). -/
def State.doorBoundary (s : State) (d : Nat) : State := (s.doorReleaseEffect d).doorShutterEffect d

/-- The link of door d is up: the door enters UP, or waits for the boundary at which a held fault shutters it. -/
def State.doorLinkUp (s : State) (d : Nat) (cfg : LinkUp) : State :=
  if s.doorState d ≠ 0 ∨ !s.clockOn then s
  else
    let s := s.onDoor d (fun x => { x with msixEn := cfg.msixEn, fmask := cfg.fmask, pmeEn := cfg.pmeEn, pmeStat := false })
    if (s.door d).heldFault then s.onDoor d (fun x => { x with upCfg := some cfg })
    else (((s.doorRenew d).doorFresh d).showLink d cfg).showDoor d 1

/-- Door d enters DOWN (R281): a FAULT that has not taken effect is held, other causes are forgotten; a SHUTTERED door leaves its shutter
(R296). -/
def State.doorDown (s : State) (d : Nat) : State :=
  let s := (s.put (Reg.DOR.LINK_STAT.WIDTH d) 0).put (Reg.DOR.LINK_STAT.SPEED d) 0
  if s.doorState d = 0 then s.onDoor d (fun x => { x with upCfg := none })
  else
    let s := (s.raiseIf (s.doorState d == 2) (page .dor d) 2).irqLeave d
    let s := s.onDoor d (fun x =>
      { x with heldFault := x.heldFault || x.causes.contains 5, causes := [], byFm := false, relAt := none, hbAt := none,
               sleeping := false, wake := false, msixEn := false })
    ((s.put (Reg.DOR.DOOR_STAT.HB_ARMED d) 0).bump (Reg.DOR.DOWN_CNT.COUNT d)).showDoor d 0

/-! ### Heartbeats (Table 11-7) -/

/-- HB_PERIOD of door d. -/
def State.hbPeriod (s : State) (d : Nat) : Nat := s.get (Reg.DOR.HB_PERIOD.PERIOD d)

/-- The tick of the last heartbeat of an UP door whose timer runs. -/
def State.lastBeat (s : State) (d : Nat) : Option Nat :=
  if s.doorState d = 1 ∧ s.hbPeriod d ≠ 0 then (s.door d).hbAt else none

/-- HB_WARN at the boundary about to begin. -/
def State.hbWarn (s : State) (d : Nat) : State :=
  match s.lastBeat d with
  | some w => s.raiseIf (s.tick == w + s.hbPeriod d / 2) (page .dor d) 3
  | none => s

/-- HB_PERIOD has passed: the shutter takes effect at the boundary about to begin. -/
def State.hbTimeout (s : State) (d : Nat) : State :=
  match s.lastBeat d with
  | some w => if w + s.hbPeriod d ≤ s.tick then s.doorCause d 2 else s
  | none => s

/-- What the boundary about to begin does at a door without a command. -/
def State.doorClose (s : State) (d : Nat) : State := ((s.hbWarn d).hbTimeout d).doorBoundary d

/-! ### Violations and malformed writes (R283, R293) -/

/-- A violating write by door d: dropped, counted, shown; the limit of its compartment shutters the door. -/
def State.violation (s : State) (d : Nat) (bar2 : Bool) (off : Nat) : State :=
  let p := page .dor d
  let s := ((s.bump (Reg.DOR.VIOL_CNT.COUNT d)).putBit (Reg.DOR.VIOL_ADDR.SPACE d) bar2).put (Reg.DOR.VIOL_ADDR.OFFSET d) off
  let s := (s.raise p 0).err p
  let limit := s.get (Reg.GLB.COMP_CFG.VIOL_LIMIT (s.comp d))
  if limit ≠ 0 ∧ limit ≤ s.get (Reg.DOR.VIOL_CNT.COUNT d) then s.doorCause d 1 else s

/-- A malformed write by door d. -/
def State.malformed (s : State) (d : Nat) : State := (s.bump (Reg.DOR.FORM_CNT.COUNT d)).err (page .dor d)

/-! ### Service (R285, R290, R295, R354, R387) -/

/-- The device and the link of door d serve its requests at all. -/
def State.serves (s : State) (d : Nat) : Bool := decide (4 ≤ s.devState) && s.doorState d != 0

/-- A page that a door may write in the state of the device: every page from READY on, PRF alone in SELFTEST and LOAD. -/
def State.pageOpen (s : State) (b : Block) (off : Nat) : Bool :=
  if 7 ≤ s.devState then true
  else if b = .prf then true
  else if s.devState = 6 then
    (match b with
     | .irq | .irqd => true
     | .flt => off == 0x48 || off == 0x14 || off == 0x10
     | .dor => off == 0x4C || off == 0x50
     | _ => false)
  else false

/-- The door may write a register (R290, R305). PRF is open to every door below READY. -/
def State.hasRight (s : State) (d : Nat) (b : Block) (n off : Nat) : Bool :=
  let own := s.mayWrite d b n
  match b with
  | .scn => own || off == 0x20 || off == 0x24 || off == 0x08 || (selOffsets b).contains off
  | .prf => own || decide (s.devState ≤ 6)
  | .dor =>
    if off = 0x50 then d == n
    else if off = 0x4C then hasBit (s.get (Reg.GLB.COMP_CFG.ADMIN (s.comp d))) n
    else own
  | .irq =>
    let k := s.selOf d (page .irq 0 + 0x40)
    if (selOffsets b).contains off then true
    else if off = 0x44 then
      (if !sourceExists k then true
       else if slotSource k then own
       else match pageOf (k / 32 * 0x1000) with
         | some (b', n') => s.ownerOf b' n' == s.comp d
         | none => true)
    else own
  | .glb | .clk | .pwr | .flt | .whl | .inp | .plc | .lnk | .drv | .adc | .recorder | .mem | .stg | .irqd | .tmr | .dma | .evt =>
    own || (selOffsets b).contains off

/-- A register has a field that some door may write. -/
def writable (addr : Nat) : Bool := hasAcc addr [.rw, .rwc, .w1c, .wac, .wo] && !deafShutter addr

/-- A dword of door d's MSI-X table; Vector Control holds the Mask bit alone. -/
def State.msixWrite (s : State) (d i : Nat) (v : Word) : State :=
  let w := if i % 4 = 3 then v &&& 1 else v
  s.onDoor d (fun x => { x with msix := x.msix.set msixReset i w })

/-- A served write of a BAR0 dword by door d. -/
def State.busWrite (s : State) (d addr : Nat) (v : Word) : State :=
  if !s.serves d ∨ s.doorState d = 2 then s
  else if 0xF00000 ≤ addr ∧ addr < 0xF04000 then (if 7 ≤ s.devState then s.msixWrite d ((addr - 0xF00000) / 4) v else s)
  else
    match pageOf addr with
    | none => s
    | some (b, n) =>
      let off := addr % 0x1000
      if !s.pageOpen b off ∨ !writable addr then s
      else if s.hasRight d b n off then s.write d addr v
      else s.violation d false addr

/-- A BAR0 write of a form (R283): a 64-bit write is two 32-bit ones, the higher address first. -/
def State.formWrite (s : State) (d off : Nat) (v : Quad) (form : WriteForm) : State :=
  let lo := v.setWidth 32
  let bad := fun (s : State) => if s.serves d && s.doorState d == 1 then s.malformed d else s
  match form with
  | .w32 => if off % 4 = 0 then s.busWrite d off lo else bad s
  | .w64 => if off % 8 = 0 then (s.busWrite d (off + 4) ((v >>> 32).setWidth 32)).busWrite d off lo else bad s
  | .other => bad s

/-- A served write of an endpoint byte. -/
def State.byteWrite (s : State) (d a : Nat) (v : Word) : State :=
  match epGroup a with
  | none => s
  | some g => if s.groupOwner g = s.comp d then s.stageEpt d a v else s.violation d true (0x400000 + a)

/-- A write of BAR2 with the bytes it enables (R283): a slot word, which takes all four at a dword address, or endpoint bytes in ascending
address order. -/
def State.bar2Write (s : State) (d off : Nat) (v : Word) (be : Fin 16) : State :=
  if !s.serves d ∨ s.doorState d = 2 ∨ s.devState < 7 then s
  else if off < 0x400000 then
    let h := off / 32
    let k := off / 4 % 8
    if off % 4 ≠ 0 ∨ be ≠ 15 then s.malformed d
    else if k = 7 then s
    else if s.handleOwner h = s.comp d then s.stageSlot d h k v
    else s.violation d true off
  else if off < 0x440000 then
    let a := off - 0x400000
    s.forEach ([0, 1, 2, 3].filter (fun i => hasBit be i)) (fun s i => s.byteWrite d (a + i) (BitVec.ofNat 32 (v.toNat / 256 ^ i % 256)))
  else s

/-- A read of a page is served: in SHUTTERED of the door GLB and its own DOR page, below SHUTTERED of the device GLB and PRF. -/
def State.mayRead (s : State) (d addr : Nat) : Bool :=
  let at_ := pageOf addr
  (s.doorState d != 2 || at_ == some (.glb, 0) || at_ == some (.dor, d)) &&
    (decide (6 ≤ s.devState) || at_ == some (.glb, 0) || at_ == some (.prf, 0))

/-- What a read does, when it is served; a read that is not completes with data 0. -/
def State.served (s : State) (d : Nat) (ok : Bool) (f : State → State) : State :=
  if !s.serves d then s else if ok then f s else s.onDoor d (fun x => { x with readData := 0 })

/-- A read of a BAR0 dword by door d at a sub-tick. -/
def State.doorRead (s : State) (d addr st : Nat) : State :=
  s.served d (s.mayRead d addr) (fun s => s.busRead d addr st)

/-- A read of BAR2 is served. -/
def State.mayReadBar2 (s : State) (d : Nat) : Bool := s.doorState d != 2 && decide (6 ≤ s.devState)

/-! ### Writes that have a row of their own -/

/-- SEL_REQ (R47). -/
def execSelReq (d : DoorNo) (s : State) : Host.Outcome State Fault Refusal := run s (s.busWrite d 0x1048 0x1000)

/-- DVFS_TARGET_WRITE (R71). -/
def execDvfsTargetWrite (d : DoorNo) (level : Fin 4) (s : State) : Host.Outcome State Fault Refusal :=
  run s (s.busWrite d 0x2040 (BitVec.ofNat 32 level))

/-- SSC_CFG_WRITE (R75). -/
def execSscCfgWrite (d : DoorNo) (v : Word) (s : State) : Host.Outcome State Fault Refusal := run s (s.busWrite d 0x1098 v)

/-- STAGE_WRITE (R162): one dword with its byte enables. A longer write of good form is served dword by dword, and so is a series of these;
one of any other form is dropped whole, and so is one of these (R283). -/
def execStageWrite (d : DoorNo) (sp : Space) (off : BitVec 24) (v : StageDword) (s : State) :
    Host.Outcome State Fault Refusal :=
  run s (match sp with
    | .bar0 => s.formWrite d off.toNat (v.value.setWidth 64) (if v.be = 15 then .w32 else .other)
    | .bar2 => s.bar2Write d off.toNat v.value v.be)

/-- STAGE_DISCARD (R287): `off` names the page. -/
def execStageDiscard (d : DoorNo) (off : BitVec 24) (s : State) : Host.Outcome State Fault Refusal :=
  run s (s.busWrite d (pageBase off.toNat + 0x08) 1)

/-- COMMIT_ISSUE (R164): `off` names the page. -/
def execCommitIssue (d : DoorNo) (off : BitVec 24) (v : Word) (s : State) : Host.Outcome State Fault Refusal :=
  run s (s.busWrite d (pageBase off.toNat + 0x20) v)

/-- A PLC command word: CMD and ARG (R200). -/
def plcWord (cmd arg : Nat) : Word := BitVec.ofNat 32 (arg * 2 ^ 16 + cmd)

/-- COMPACT (R195). -/
def execCompact (d : DoorNo) (level : Fin 3) (s : State) : Host.Outcome State Fault Refusal :=
  run s (s.busWrite d 0x71040 (plcWord 1 level))

/-- EVAC (R196). -/
def execEvac (d : DoorNo) (c : CoachNo) (s : State) : Host.Outcome State Fault Refusal :=
  run s (s.busWrite d 0x71040 (plcWord 2 c))

/-- TEST (R196). -/
def execTest (d : DoorNo) (c : CoachNo) (s : State) : Host.Outcome State Fault Refusal :=
  run s (s.busWrite d 0x71040 (plcWord 3 c))

/-- RESTORE (R196). -/
def execRestore (d : DoorNo) (c : CoachNo) (s : State) : Host.Outcome State Fault Refusal :=
  run s (s.busWrite d 0x71040 (plcWord 4 c))

/-- REGISTER_WRITE (R283). -/
def execRegisterWrite (d : DoorNo) (off : BitVec 24) (v : Quad) (form : WriteForm) (s : State) :
    Host.Outcome State Fault Refusal :=
  run s (s.formWrite d off.toNat v form)

/-- HEARTBEAT (R294): door d writes HEARTBEAT on the page of door p. -/
def execHeartbeat (d p : DoorNo) (s : State) : Host.Outcome State Fault Refusal :=
  run s (s.busWrite d (page .dor p + 0x50) 0)

/-- DOOR_SHUT (R294). -/
def execDoorShut (d p : DoorNo) (s : State) : Host.Outcome State Fault Refusal :=
  run s (s.busWrite d (page .dor p + 0x4C) 1)

/-- DOOR_RELEASE (R296). -/
def execDoorRelease (d p : DoorNo) (s : State) : Host.Outcome State Fault Refusal :=
  run s (s.busWrite d (page .dor p + 0x4C) 2)

/-- IRQ_CLAIM (R314). -/
def execIrqClaim (d : DoorNo) (v : BitVec 10) (s : State) : Host.Outcome State Fault Refusal :=
  run s (s.busWrite d (page .irqd d + 0x54) (v.setWidth 32))

/-- IRQ_EOI (R317). -/
def execIrqEoi (d : DoorNo) (src : SrcNo) (s : State) : Host.Outcome State Fault Refusal :=
  run s (s.busWrite d (page .irqd d + 0x58) (BitVec.ofNat 32 src))

/-- RING_ENABLE (R316). -/
def execRingEnable (d : DoorNo) (size : Fin 16) (s : State) : Host.Outcome State Fault Refusal :=
  run s (s.busWrite d (page .irqd d + 0x48) (BitVec.ofNat 32 (16 + size)))

/-- SRC_CFG_WRITE (R306). -/
def execSrcCfgWrite (d : DoorNo) (v : Word) (s : State) : Host.Outcome State Fault Refusal := run s (s.busWrite d 0xF0044 v)

/-- GRP_CFG_WRITE (R310). -/
def execGrpCfgWrite (d : DoorNo) (time : Bool) (v : Word) (s : State) : Host.Outcome State Fault Refusal :=
  run s (s.busWrite d (if time then 0xF005C else 0xF0058) v)

/-- DMA_START (R335). -/
def execDmaStart (d : DoorNo) (c : DmaNo) (s : State) : Host.Outcome State Fault Refusal :=
  run s (s.busWrite d (page .dma c + 0x64) 1)

/-- DMA_ABORT (R341). -/
def execDmaAbort (d : DoorNo) (c : DmaNo) (s : State) : Host.Outcome State Fault Refusal :=
  run s (s.busWrite d (page .dma c + 0x64) 2)

/-- FLASH_READ (R374). -/
def execFlashRead (d : DoorNo) (s : State) : Host.Outcome State Fault Refusal := run s (s.busWrite d 0x30D0 1)

/-- FLASH_PROGRAM (R374). -/
def execFlashProgram (d : DoorNo) (s : State) : Host.Outcome State Fault Refusal := run s (s.busWrite d 0x30D0 2)

/-- FLASH_ERASE_4K (R374). -/
def execFlashErase4k (d : DoorNo) (s : State) : Host.Outcome State Fault Refusal := run s (s.busWrite d 0x30D0 3)

/-- FLASH_ERASE_64K (R374). -/
def execFlashErase64k (d : DoorNo) (s : State) : Host.Outcome State Fault Refusal := run s (s.busWrite d 0x30D0 4)

/-- BURN_KEY (R363). -/
def execBurnKey (d : DoorNo) (s : State) : Host.Outcome State Fault Refusal := run s (s.busWrite d 0x30B0 1)

/-- BURN_SIGREQ (R363). -/
def execBurnSigreq (d : DoorNo) (s : State) : Host.Outcome State Fault Refusal := run s (s.busWrite d 0x30B0 2)

/-! ### Reads that have a row of their own -/

/-- TICK_LO_READ (R58). -/
def execTickLoRead (d : DoorNo) (st : SubTick) (s : State) : Host.Outcome State Fault Refusal := run s (s.doorRead d 0x1060 st)

/-- LATCH_POS_READ (R104). -/
def execLatchPosRead (d : DoorNo) (ch : ChNo) (s : State) : Host.Outcome State Fault Refusal :=
  run s (s.doorRead d (page .inp ch + 0x104) 0)

/-- ANGLE_READ (R139). -/
def execAngleRead (d : DoorNo) (w : WheelNo) (st : SubTick) (s : State) : Host.Outcome State Fault Refusal :=
  run s (s.doorRead d (page .whl w + 0x6C) st)

/-- PG_COMMIT_READ (R287): `off` names the page. -/
def execPgCommitRead (d : DoorNo) (off : BitVec 24) (s : State) : Host.Outcome State Fault Refusal :=
  run s (s.doorRead d (pageBase off.toNat + 0x20) 0)

/-- RESULT_READ (R161). -/
def execResultRead (d : DoorNo) (h : Handle) (s : State) : Host.Outcome State Fault Refusal :=
  run s (s.served d (s.mayReadBar2 d) (fun s => s.resultRead d h))

/-- PEEK_READ (R199): `ecc` is the error that the read finds. -/
def execPeekRead (d : DoorNo) (ecc : Option Bool) (s : State) : Host.Outcome State Fault Refusal :=
  run s (s.served d (s.mayRead d 0x7007C) (fun s => s.peekRead d ecc))

/-- HANDLE_LOC_READ (R200). -/
def execHandleLocRead (d : DoorNo) (s : State) : Host.Outcome State Fault Refusal := run s (s.doorRead d 0x7107C 0)

/-- LAST_END_READ (R257). -/
def execLastEndRead (d : DoorNo) (ch : DrvNo) (s : State) : Host.Outcome State Fault Refusal :=
  run s (s.doorRead d (page .drv ch + 0x6C) 0)

/-- ADC_DATA_READ (R266). -/
def execAdcDataRead (d : DoorNo) (u : AdcNo) (s : State) : Host.Outcome State Fault Refusal :=
  run s (s.doorRead d (page .adc u + 0x58) 0)

/-- SRC_STAT_READ (R323). -/
def execSrcStatRead (d : DoorNo) (s : State) : Host.Outcome State Fault Refusal := run s (s.doorRead d 0xF0048 0)

/-- CAPTURE_READ (R333). -/
def execCaptureRead (d : DoorNo) (t : TmrNo) (s : State) : Host.Outcome State Fault Refusal :=
  run s (s.doorRead d (page .tmr t + 0x60) 0)

/-- LOG_INFO_READ (R395). -/
def execLogInfoRead (d : DoorNo) (s : State) : Host.Outcome State Fault Refusal := run s (s.doorRead d 0x404C 0)

/-! ### The door itself -/

/-- DOOR_LINK_UP (R282). -/
def execDoorLinkUp (d : DoorNo) (cfg : LinkUp) (s : State) : Host.Outcome State Fault Refusal := run s (s.doorLinkUp d cfg)

/-- DOOR_PERST (R281). -/
def execDoorPerst (d : DoorNo) (s : State) : Host.Outcome State Fault Refusal := run s (s.doorDown d)

/-- DOOR_FLR (R281): acts as PERST# of the door. -/
def execDoorFlr (d : DoorNo) (s : State) : Host.Outcome State Fault Refusal := run s (s.doorDown d)

/-- DOOR_HOT_RESET (R281). -/
def execDoorHotReset (d : DoorNo) (s : State) : Host.Outcome State Fault Refusal := run s (s.doorDown d)

/-- DOOR_LINK_LOSS (R281). -/
def execDoorLinkLoss (d : DoorNo) (s : State) : Host.Outcome State Fault Refusal := run s (s.doorDown d)

/-- HB_WARN (R294). -/
def execHbWarn (d : DoorNo) (s : State) : Host.Outcome State Fault Refusal := run s (s.hbWarn d)

/-- HEARTBEAT_TIMEOUT (R294). -/
def execHeartbeatTimeout (d : DoorNo) (s : State) : Host.Outcome State Fault Refusal := run s (s.hbTimeout d)

/-- CPL_TIMEOUT (R294). -/
def execCplTimeout (d : DoorNo) (s : State) : Host.Outcome State Fault Refusal := run s (s.doorCause d 3)

/-- DOOR_SHUTTER_EFFECT (R295): at the boundary about to begin. -/
def execDoorShutterEffect (d : DoorNo) (s : State) : Host.Outcome State Fault Refusal := run s (s.doorBoundary d)

/-- DOOR_D3HOT (R320). -/
def execDoorD3hot (d : DoorNo) (s : State) : Host.Outcome State Fault Refusal :=
  run s (s.when (s.doorState d != 0) (fun s => s.irqSleep d))

/-- DOOR_D0_RETURN (R320). -/
def execDoorD0Return (d : DoorNo) (s : State) : Host.Outcome State Fault Refusal := run s (s.irqAwake d)

end Sys2Proof.Machine
end

