-- ==== Sys2Proof/Machine/Tick.lean ====
section
/-! DEFINITION. The tick boundary and the phases of a tick's work (R18 to R27), with the commands that belong to its Apply
phase. What a tick brings about by itself comes about when its own command names it, at the latest here. -/

namespace Sys2Proof.Machine

/-! ### The end of a tick -/

/-- What is left of the current tick at a channel: compare pulses, PWD timeouts and the bits of a serial word. -/
def State.inputClose (s : State) (ch : Nat) : State :=
  (((s.endPulse ch 0 (s.now + 127)).endPulse ch 1 (s.now + 127)).pulseTimeout ch).wordTick ch

/-- What is left of the current tick. -/
def State.closeTick (s : State) : State :=
  let s := s.forEach (List.range 8) (fun s u => s.latchOpen u)
  let s := s.forEach (s.inp.map (fun e => e.1)) (fun s ch => s.inputClose ch)
  let s := s.drivesClose
  let s := s.forEach (s.drv.map (fun e => e.1)) (fun s n => s.dipOver n)
  let s := s.slewDone.irqClose.promoteAll
  let s := s.forEach [0, 1, 2, 3] (fun s d => s.doorClose d)
  s.when s.power.draining.isSome (fun s => s.wakeTimer)

/-! ### The boundary up to Apply -/

/-- Output-timing cycles of a tick whose accumulator starts at a value (R53). -/
def cyclesOf (acc step : Nat) : Nat := (2 ^ 32 - acc + step - 1) / step

/-- The cycles of the tick that begins, under the STEP in force in it (R55). -/
def State.retime (s : State) : State :=
  { s with clk := { s.clk with cycles := cyclesOf s.clk.acc s.stepSize } }

/-- What the accumulator holds at the next boundary (R53). -/
def State.nextAcc (s : State) : Nat := s.clk.acc + s.clk.cycles * s.stepSize - 2 ^ 32

/-- The first boundary after a wake (R321, R334). -/
def State.afterWake (s : State) : State :=
  let s := s.when s.scanning (fun s => s.timersMakeup)
  if s.power.irqDue then ({ s with power := { s.power with irqDue := false } }).irqRestart else s

/-- What happens at a boundary before its Apply phase. -/
def State.boundary (s : State) : State :=
  let s := (s.afterWake.windowLevels.stepLines).irqSample
  s.drivesOpen

/-- The next boundary begins, once: the current tick closes, and lines, interrupts and drive channels enter the new one. The
counter itself advances in TICK_BOUNDARY alone (R57). -/
def State.openTick (s : State) : State :=
  if s.clk.opened then s
  else
    let t := s.closeTick
    let clk := { t.clk with acc := t.nextAcc, cyc := t.clk.cyc + t.clk.cycles }
    let t := ({ t with tick := s.tick + 1, clk := clk }).retime.boundary
    { t with tick := s.tick, clk := { t.clk with opened := true } }

/-- What belongs to the Apply phase of the tick about to begin. -/
def State.early (s : State) (f : State → State) : State :=
  if !s.clk.running then s
  else
    let t := s.openTick
    { f { t with tick := s.tick + 1 } with tick := s.tick }

/-! ### Apply (R20 to R22) -/

/-- Trackers in LOST with AUTO_RESYNC (R116). -/
def State.autoResyncs (s : State) : State :=
  s.when s.scanning (fun s => s.forEach ((List.range 48).filter (fun w => s.wState w == 5)) (fun s w => s.autoResync w))

/-- Calibrations whose last conversion is past (R265). -/
def State.calsDone (s : State) : State :=
  s.forEach ((s.adc.filter (fun e => e.2.cal.isSome)).map (fun e => e.1)) (fun s u => s.calDone u)

/-- Commits pending at one tick: 16 of each of four doors (R164). -/
def maxCommits : Nat := 64

/-- The Apply phase. -/
def State.apply (s : State) : State :=
  let idle := s.idleWheels
  let s := (s.foresee.stopComplete.releaseLedger).applyDue maxCommits
  let s := s.slewStep.admitShutters.ringsNow.autoResyncs.calsDone
  (s.switchArm.idleSwitches idle).inputsOwn

/-! ### Track -/

/-- The tracker of a wheel, which switches to its new profile first in the tick of a gap instant (R368). -/
def State.trackWheel (s : State) (w : Nat) : State :=
  let t := s.track w
  if (t.tracker w).gapAt = some s.tick ∧ s.switchDue w then (s.wheelSwitch w).track w else t

/-- The Track phase: edges first, then stalls, then the end of learning. -/
def State.trackAll (s : State) : State :=
  let ws := (List.range 48).filter (fun w => s.bit (Reg.WHL.SYNC_CFG.EN w))
  let s := s.inputsOpen
  let s := s.forEach ws (fun s w => ((s.trackWheel w).stall w).learnDone w)
  s.inputsClear

/-! ### Emit, timers and DMA triggers -/

/-- Sample requests that have waited 64 ticks (R220). -/
def State.promotes (s : State) (n : Nat) : State := s.forEach (s.link n).sample (fun s _ => s.promote n)

/-- Emit: the link frames that start at the next boundary (Table 1-3); a coasting PLL sends none (R52). -/
def State.emitFrames (s : State) : State :=
  let s := s.forEach (s.lnk.map (fun e => e.1)) (fun s n => s.promotes n)
  if s.bit Reg.CLK.PLL_STAT.COAST then s else s.downFrames (s.tick + 1)

/-- Channels that a rise of their line in the tick before starts (R335). -/
def State.lineStarts (s : State) : List Nat :=
  (List.range 32).filter (fun c => s.bit (Reg.DMA.CFG.TRIG_EN c) && s.rose (s.get (Reg.DMA.CFG.TRIG_LINE c)))

/-- Channels that a slot edge with ACTION 5 in the tick before starts. -/
def State.slotStarts (s : State) : List Nat :=
  (s.dueActs.filter (fun d => d.action == 5 && d.at_ / 128 + 1 == s.tick)).map (fun d => d.param % 32)

/-- The triggers of DMA channels: the first start of a channel counts, others are lost. -/
def State.dmaTriggers (s : State) : State := s.forEach (s.lineStarts ++ s.slotStarts) (fun s c => s.dmaStart c)

/-- Actions whose tick is past. -/
def State.actsDone (s : State) : State := { s with dueActs := s.dueActs.filter (fun d => decide (s.tick ≤ d.at_ / 128)) }

/-! ### Record and signal -/

/-- EPOCH carts of the first tick after a LOAD or a wake, before all other carts of that tick (R419). -/
def State.epochStart (s : State) : State :=
  if s.power.epochDue ∧ 6 ≤ s.devState then ({ s with power := { s.power with epochDue := false } }).epochCarts 0 s.tick else s

/-- The start of provenance (R422). -/
def State.recordStarts (s : State) : State := if s.devState = 8 ∧ !s.recd.started ∧ s.provOn then s.provStart else s

/-- The record path while no scheduling work runs (R376): what is owed and what has aged. -/
def State.recordIdle (s : State) : State := if 6 ≤ s.devState then s.recordStarts.upFramesWork.provFlush else s

/-- Record and signal. -/
def State.recordAll (s : State) : State :=
  let s := s.recordStarts.emitDue.actsDone
  let s := (s.forEach (List.range 8) (fun s u => s.adcRecord u)).driveReports
  let s := s.forEach (s.inp.map (fun e => e.1)) (fun s ch => s.strokeRecord ch)
  s.upFramesWork.provFlush.serveEvac.replan.servePorts

/-! ### The work of a tick -/

/-- The phases after Apply, in READY and RUN (R351). -/
def State.work (s : State) (obs : TickObs) : State :=
  let s := s.adcBoundary.trackAll.scan
  let s := (settled (disputes (s.eccFindings obs.ecc) obs.disputes)).resolve.emitFrames
  let s := s.timersStep.dmaTriggers.recordAll
  { s with power := { s.power with lastWork := s.tick } }

/-- The standby entry has waited DRAIN_TO ticks for the recorder (R370). -/
def State.drainOver (s : State) : Bool :=
  match s.power.draining with
  | some t => decide (t + s.get Reg.PRF.DRAIN_TO.TICKS ≤ s.tick)
  | none => false

/-- What VCORE_OK at the boundary does: a supply fault outside a DVFS transition, or the transition's next step (R72, R73, R385); a load
that waits for it goes on. -/
def State.dvfsBoundary (s : State) (ok : Bool) : State :=
  let was := s.bit Reg.FLT.DEV_FAULT.SUPPLY_LOW
  ((((s.sampleVcore ok).supplyFault was).dvfsSettle.dvfsStepDown).vcoreTimeout).loadResume

/-- Functions whose configuration fails its parity (R378). -/
def State.parityFaults (s : State) (l : List (FnKind × Fin 64)) : State := s.forEach l (fun s f => s.fnFault f.1 f.2 0x01)

/-- Apply and all that follows it at the boundary of the current tick. -/
def State.tickWork (s : State) (obs : TickObs) : State :=
  if s.drainOver then s.enterStandby
  else
    let s := s.epochStart.apply
    if !s.clk.running then s
    else
      let s := s.retime
      let s := if s.scanning then s.work obs else s.emitFrames.recordIdle
      (s.parityFaults obs.parity).storeStep obs.store

/-- One tick boundary. -/
def State.tickBoundary (s : State) (obs : TickObs) : State :=
  if !s.clk.running then s
  else
    let t := s.openTick
    let t := { t with tick := s.tick + 1, clk := { t.clk with opened := false }, fabric := { t.fabric with lost := [] } }.sourcesGone
    t.dvfsBoundary obs.vcoreOk |>.tickWork obs

/-! ### Commands -/

/-- TICK_BOUNDARY (R18, R57): while the tick runs the counter advances by exactly one. -/
def execTickBoundary (obs : TickObs) (s : State) : Host.Outcome State Fault Refusal :=
  runAt s (s.tickBoundary obs) (if s.clk.running then s.tick + 1 else s.tick)

/-- COMMIT_APPLY (R166): the first commit due at the tick about to begin. -/
def execCommitApply (s : State) : Host.Outcome State Fault Refusal :=
  run s (s.early (fun s => match s.nextCommit with
    | some c => s.applyCommit c
    | none => s))

/-- MAP_SWITCH (R193): the Apply phase of the tick about to begin; the reads of the copies are checked first (R183). -/
def execMapSwitch (ecc : List EccFinding) (s : State) : Host.Outcome State Fault Refusal :=
  run s (s.when (!s.fabric.moves.isEmpty) (fun s => s.early (fun s => (settled (s.eccFindings ecc)).mapSwitch s.tick)))

/-- WHEEL_SWITCH (R369): in the tick about to begin, while the angle is not valid; at a gap instant the work of the tick itself
switches the wheel. -/
def execWheelSwitch (w : WheelNo) (s : State) : Host.Outcome State Fault Refusal :=
  run s (s.early (fun s => if s.wValid w then s else s.wheelSwitch w))

/-- STROKE_RECORD (R102): at the boundary about to begin. -/
def execStrokeRecord (ch : ChNo) (s : State) : Host.Outcome State Fault Refusal := run s (s.early (fun s => s.strokeRecord ch))

/-- AUTO_RESYNC (R116, R120): at the boundary about to begin. -/
def execAutoResync (w : WheelNo) (s : State) : Host.Outcome State Fault Refusal :=
  run s (s.when s.scanning (fun s => s.early (fun s => s.autoResync w)))

end Sys2Proof.Machine
end

