-- ==== Sys2Proof/Machine/Dispatch.lean ====
section
/-! DEFINITION. Which meaning each command has: one arm for each constructor of Instr. -/

namespace Sys2Proof.Machine

def exec (i : Instr) (s : State) : Host.Outcome State Fault Refusal :=
  match i with
  | .tickBoundary obs => Sys2Proof.Machine.execTickBoundary obs s
  | .refQualifyDone d ppm dev => Sys2Proof.Machine.execRefQualifyDone d ppm dev s
  | .xchkRetry d => Sys2Proof.Machine.execXchkRetry d s
  | .spreadCheckDone d dev => Sys2Proof.Machine.execSpreadCheckDone d dev s
  | .xchkWindow ppm0 ppm1 ppm2 ppm3 => Sys2Proof.Machine.execXchkWindow ppm0 ppm1 ppm2 ppm3 s
  | .refMissingEdge d => Sys2Proof.Machine.execRefMissingEdge d s
  | .pllLocked p => Sys2Proof.Machine.execPllLocked p s
  | .pllFault p => Sys2Proof.Machine.execPllFault p s
  | .selReq d => Sys2Proof.Machine.execSelReq d s
  | .tickLoRead d st => Sys2Proof.Machine.execTickLoRead d st s
  | .htSet => Sys2Proof.Machine.execHtSet s
  | .htStep => Sys2Proof.Machine.execHtStep s
  | .htSlew => Sys2Proof.Machine.execHtSlew s
  | .slewDone => Sys2Proof.Machine.execSlewDone s
  | .slowclkCycle => Sys2Proof.Machine.execSlowclkCycle s
  | .slowclkLost d => Sys2Proof.Machine.execSlowclkLost d s
  | .dvfsTargetWrite d level => Sys2Proof.Machine.execDvfsTargetWrite d level s
  | .dvfsSettleExpiry => Sys2Proof.Machine.execDvfsSettleExpiry s
  | .vcoreTimeout => Sys2Proof.Machine.execVcoreTimeout s
  | .dvfsStepDown => Sys2Proof.Machine.execDvfsStepDown s
  | .supplyFault => Sys2Proof.Machine.execSupplyFault s
  | .sscCfgWrite d v => Sys2Proof.Machine.execSscCfgWrite d v s
  | .pinEdgeAccept ch a b z st => Sys2Proof.Machine.execPinEdgeAccept ch a b z st s
  | .comparePulseEnd ch out => Sys2Proof.Machine.execComparePulseEnd ch out s
  | .pwdTimeout ch => Sys2Proof.Machine.execPwdTimeout ch s
  | .serialWordStart ch aHigh => Sys2Proof.Machine.execSerialWordStart ch aHigh s
  | .serialWordEnd ch w st => Sys2Proof.Machine.execSerialWordEnd ch w st s
  | .serialTimeout ch raw => Sys2Proof.Machine.execSerialTimeout ch raw s
  | .strokeRecord ch => Sys2Proof.Machine.execStrokeRecord ch s
  | .latchPosRead d ch => Sys2Proof.Machine.execLatchPosRead d ch s
  | .trackerStall w => Sys2Proof.Machine.execTrackerStall w s
  | .resync w => Sys2Proof.Machine.execResync w s
  | .autoResync w => Sys2Proof.Machine.execAutoResync w s
  | .corrLearn w => Sys2Proof.Machine.execCorrLearn w s
  | .corrSwapCmd w => Sys2Proof.Machine.execCorrSwapCmd w s
  | .corrClear w => Sys2Proof.Machine.execCorrClear w s
  | .corrAbort w => Sys2Proof.Machine.execCorrAbort w s
  | .learnDone w => Sys2Proof.Machine.execLearnDone w s
  | .angleRead d w st => Sys2Proof.Machine.execAngleRead d w st s
  | .stageWrite d sp off v => Sys2Proof.Machine.execStageWrite d sp off v s
  | .stageDiscard d off => Sys2Proof.Machine.execStageDiscard d off s
  | .commitIssue d off v => Sys2Proof.Machine.execCommitIssue d off v s
  | .commitApply => Sys2Proof.Machine.execCommitApply s
  | .pgCommitRead d off => Sys2Proof.Machine.execPgCommitRead d off s
  | .resultRead d h => Sys2Proof.Machine.execResultRead d h s
  | .placementPromote c => Sys2Proof.Machine.execPlacementPromote c s
  | .mapSwitch ecc => Sys2Proof.Machine.execMapSwitch ecc s
  | .twinRecreate => Sys2Proof.Machine.execTwinRecreate s
  | .compact d level => Sys2Proof.Machine.execCompact d level s
  | .compactDone => Sys2Proof.Machine.execCompactDone s
  | .evac d c => Sys2Proof.Machine.execEvac d c s
  | .evacDone => Sys2Proof.Machine.execEvacDone s
  | .test d c => Sys2Proof.Machine.execTest d c s
  | .testDone passed => Sys2Proof.Machine.execTestDone passed s
  | .restore d c => Sys2Proof.Machine.execRestore d c s
  | .peekRead d ecc => Sys2Proof.Machine.execPeekRead d ecc s
  | .handleLocRead d => Sys2Proof.Machine.execHandleLocRead d s
  | .bringup l => Sys2Proof.Machine.execBringup l s
  | .linkStop l => Sys2Proof.Machine.execLinkStop l s
  | .mgmtTx l => Sys2Proof.Machine.execMgmtTx l s
  | .sreqPromote l => Sys2Proof.Machine.execSreqPromote l s
  | .upFrameReceive l endB age f => Sys2Proof.Machine.execUpFrameReceive l endB age f s
  | .cableBreak l b => Sys2Proof.Machine.execCableBreak l b s
  | .heal l => Sys2Proof.Machine.execHeal l s
  | .comparatorTransition ch sense st => Sys2Proof.Machine.execComparatorTransition ch sense st s
  | .regPeriodStart ch => Sys2Proof.Machine.execRegPeriodStart ch s
  | .blankEnd ch => Sys2Proof.Machine.execBlankEnd ch s
  | .driveEventStart ch => Sys2Proof.Machine.execDriveEventStart ch s
  | .driveEventEnd ch => Sys2Proof.Machine.execDriveEventEnd ch s
  | .dutyCut ch => Sys2Proof.Machine.execDutyCut ch s
  | .dutyBinRoll ch => Sys2Proof.Machine.execDutyBinRoll ch s
  | .cmpClr ch => Sys2Proof.Machine.execCmpClr ch s
  | .dipWindowEnd ch => Sys2Proof.Machine.execDipWindowEnd ch s
  | .lastEndRead d ch => Sys2Proof.Machine.execLastEndRead d ch s
  | .adcDataLatch u raw => Sys2Proof.Machine.execAdcDataLatch u raw s
  | .adcRestart u => Sys2Proof.Machine.execAdcRestart u s
  | .calZero u => Sys2Proof.Machine.execCalZero u s
  | .calFull u => Sys2Proof.Machine.execCalFull u s
  | .calDone u => Sys2Proof.Machine.execCalDone u s
  | .adcDataRead d u => Sys2Proof.Machine.execAdcDataRead d u s
  | .epochTickMarker => Sys2Proof.Machine.execEpochTickMarker s
  | .overflowWindow cls beyond first last => Sys2Proof.Machine.execOverflowWindow cls beyond first last s
  | .provCartFlush => Sys2Proof.Machine.execProvCartFlush s
  | .registerWrite d off v form => Sys2Proof.Machine.execRegisterWrite d off v form s
  | .doorLinkUp d cfg => Sys2Proof.Machine.execDoorLinkUp d cfg s
  | .doorPerst d => Sys2Proof.Machine.execDoorPerst d s
  | .doorFlr d => Sys2Proof.Machine.execDoorFlr d s
  | .doorHotReset d => Sys2Proof.Machine.execDoorHotReset d s
  | .doorLinkLoss d => Sys2Proof.Machine.execDoorLinkLoss d s
  | .heartbeat d p => Sys2Proof.Machine.execHeartbeat d p s
  | .hbWarn d => Sys2Proof.Machine.execHbWarn d s
  | .heartbeatTimeout d => Sys2Proof.Machine.execHeartbeatTimeout d s
  | .cplTimeout d => Sys2Proof.Machine.execCplTimeout d s
  | .doorShut d p => Sys2Proof.Machine.execDoorShut d p s
  | .doorRelease d p => Sys2Proof.Machine.execDoorRelease d p s
  | .doorShutterEffect d => Sys2Proof.Machine.execDoorShutterEffect d s
  | .doorD3hot d => Sys2Proof.Machine.execDoorD3hot d s
  | .doorD0Return d => Sys2Proof.Machine.execDoorD0Return d s
  | .irqGroupRelease g => Sys2Proof.Machine.execIrqGroupRelease g s
  | .irqCoalesceRelease g => Sys2Proof.Machine.execIrqCoalesceRelease g s
  | .irqDeliver src d => Sys2Proof.Machine.execIrqDeliver src d s
  | .irqClaim d v => Sys2Proof.Machine.execIrqClaim d v s
  | .irqEoi d src => Sys2Proof.Machine.execIrqEoi d src s
  | .irqExit src => Sys2Proof.Machine.execIrqExit src s
  | .ringEnable d size => Sys2Proof.Machine.execRingEnable d size s
  | .srcCfgWrite d v => Sys2Proof.Machine.execSrcCfgWrite d v s
  | .grpCfgWrite d time v => Sys2Proof.Machine.execGrpCfgWrite d time v s
  | .srcStatRead d => Sys2Proof.Machine.execSrcStatRead d s
  | .timerLoad t => Sys2Proof.Machine.execTimerLoad t s
  | .captureRead d t => Sys2Proof.Machine.execCaptureRead d t s
  | .dmaStart d c => Sys2Proof.Machine.execDmaStart d c s
  | .dmaBurstDone c len src dst => Sys2Proof.Machine.execDmaBurstDone c len src dst s
  | .dmaBusError c side kind => Sys2Proof.Machine.execDmaBusError c side kind s
  | .dmaAbort d c => Sys2Proof.Machine.execDmaAbort d c s
  | .aonPowerUp => Sys2Proof.Machine.execAonPowerUp s
  | .mainPowerUp => Sys2Proof.Machine.execMainPowerUp s
  | .rstAssert => Sys2Proof.Machine.execRstAssert s
  | .rstRelease prof => Sys2Proof.Machine.execRstRelease prof s
  | .preambleRead density => Sys2Proof.Machine.execPreambleRead density s
  | .selftestDone r => Sys2Proof.Machine.execSelftestDone r s
  | .loadComplete => Sys2Proof.Machine.execLoadComplete s
  | .run => Sys2Proof.Machine.execRun s
  | .stop => Sys2Proof.Machine.execStop s
  | .stopComplete => Sys2Proof.Machine.execStopComplete s
  | .load => Sys2Proof.Machine.execLoad s
  | .switch => Sys2Proof.Machine.execSwitch s
  | .switchPrepared => Sys2Proof.Machine.execSwitchPrepared s
  | .switchArm => Sys2Proof.Machine.execSwitchArm s
  | .wheelSwitch w => Sys2Proof.Machine.execWheelSwitch w s
  | .standby => Sys2Proof.Machine.execStandby s
  | .drainEnd => Sys2Proof.Machine.execDrainEnd s
  | .deviceResetCmd => Sys2Proof.Machine.execDeviceResetCmd s
  | .wakeTimer => Sys2Proof.Machine.execWakeTimer s
  | .wakeIn => Sys2Proof.Machine.execWakeIn s
  | .wakePerst d => Sys2Proof.Machine.execWakePerst d s
  | .flashRead d => Sys2Proof.Machine.execFlashRead d s
  | .flashProgram d => Sys2Proof.Machine.execFlashProgram d s
  | .flashErase4k d => Sys2Proof.Machine.execFlashErase4k d s
  | .flashErase64k d => Sys2Proof.Machine.execFlashErase64k d s
  | .flashDone timedOut => Sys2Proof.Machine.execFlashDone timedOut s
  | .burnKey d => Sys2Proof.Machine.execBurnKey d s
  | .burnSigreq d => Sys2Proof.Machine.execBurnSigreq d s
  | .faultReport r => Sys2Proof.Machine.execFaultReport r s
  | .lockstep f n => Sys2Proof.Machine.execLockstep f n s
  | .gateReadback ch => Sys2Proof.Machine.execGateReadback ch s
  | .refMon u => Sys2Proof.Machine.execRefMon u s
  | .noFrames l => Sys2Proof.Machine.execNoFrames l s
  | .doorPath d => Sys2Proof.Machine.execDoorPath d s
  | .fmPair => Sys2Proof.Machine.execFmPair s
  | .hostShutter f n => Sys2Proof.Machine.execHostShutter f n s
  | .shutterRelease f n sound => Sys2Proof.Machine.execShutterRelease f n sound s
  | .domainMonitorTrip dom cause => Sys2Proof.Machine.execDomainMonitorTrip dom cause s
  | .deviceHostShutter => Sys2Proof.Machine.execDeviceHostShutter s
  | .coreAliveTimeout => Sys2Proof.Machine.execCoreAliveTimeout s
  | .ledgerRelease k w => Sys2Proof.Machine.execLedgerRelease k w s
  | .logInfoRead d => Sys2Proof.Machine.execLogInfoRead d s
  | .failoverComplete => Sys2Proof.Machine.execFailoverComplete s
  | .bringupEnd l f => Sys2Proof.Machine.execBringupEnd l f s
  | .slowclkReturn d => Sys2Proof.Machine.execSlowclkReturn d s
  | .mainPowerLoss => Sys2Proof.Machine.execMainPowerLoss s
  | .aonPowerLoss => Sys2Proof.Machine.execAonPowerLoss s
  | .driveRetirement => Sys2Proof.Machine.execDriveRetirement s
  | .driveRetirementEnd => Sys2Proof.Machine.execDriveRetirementEnd s
  | .volumeScrub => Sys2Proof.Machine.execVolumeScrub s
  | .volumeScrubEnd => Sys2Proof.Machine.execVolumeScrubEnd s

end Sys2Proof.Machine
end

