-- ==== Sys2Proof/WellFormed.lean ====
section
/-! DEFINITION. Which commands are well formed: the operands whose type is wider than what the spec allows. -/

namespace Sys2Proof

/-- How many functions of a kind the device has (R286). -/
def FnKind.number : FnKind → Nat
  | .inp => 48 | .whl => 48 | .lnk => 16 | .drv => 64 | .adc => 8 | .tmr => 32 | .dma => 32

/-- The function exists. -/
def fnWf (f : FnKind) (n : Nat) : Bool := decide (n < f.number)

/-- A frame of 25 symbols is due at a time (R208). -/
def UpFrame.wf : UpFrame → Bool
  | .missing => true
  | .received symbols => symbols.length == 25

/-- A unit holds at least its UNIT cart (R276). -/
def StoreEvent.wf : StoreEvent → Bool
  | .unit _ _ _ _ size => decide (0 < size)
  | .volume .. | .lose .. => true

/-- What one tick observes: parity is checked on functions that exist. -/
def TickObs.wf (o : TickObs) : Bool := o.parity.all (fun p => fnWf p.1 p.2) && o.store.all StoreEvent.wf

/-- Node numbers found by discovery are distinct. -/
def BringupFinding.wf : BringupFinding → Bool
  | .train .. | .configure .. => true
  | .enumerate _ nodes => decide (nodes.map (fun n => n.1)).Nodup
  | .measure answers => decide (answers.map (fun n => n.node)).Nodup

/-- What self-test found: functions that exist. -/
def BistResult.wf (r : BistResult) : Bool := r.functions.all (fun p => fnWf p.1 p.2)

/-- The causes of Table 15-2 that occur. -/
def causeWf (c : Nat) : Bool :=
  decide (0x01 ≤ c ∧ c ≤ 0x07) || decide (0x10 ≤ c ∧ c ≤ 0x16) || decide (0x20 ≤ c ∧ c ≤ 0x26) || c == 0x30 ||
    decide (0x40 ≤ c ∧ c ≤ 0x43)

/-- A command is well formed. -/
def Instr.wf : Instr → Bool
  | .tickBoundary obs => obs.wf
  | .upFrameReceive _ _ _ f => f.wf
  | .bringupEnd _ f => f.wf
  | .selftestDone r => r.wf
  | .dmaBurstDone _ len src dst => src.length == len.val && (dst.length == len.val || dst.isEmpty)
  | .overflowWindow _ beyond first last => decide (0 < beyond) && decide (first ≤ last)
  | .lockstep f n => fnWf f n
  | .hostShutter f n => fnWf f n
  | .shutterRelease f n _ => fnWf f n
  | .faultReport r => causeWf r.cause.toNat
  | .xchkWindow a b c d => decide (-1000000 < a ∧ -1000000 < b ∧ -1000000 < c ∧ -1000000 < d)
  | .refQualifyDone .. | .xchkRetry .. | .spreadCheckDone .. | .refMissingEdge .. | .pllLocked ..
  | .pllFault .. | .selReq .. | .tickLoRead .. | .htSet | .htStep | .htSlew | .slewDone
  | .slowclkCycle | .slowclkLost .. | .dvfsTargetWrite .. | .dvfsSettleExpiry | .vcoreTimeout
  | .dvfsStepDown | .supplyFault | .sscCfgWrite .. | .pinEdgeAccept .. | .comparePulseEnd ..
  | .pwdTimeout .. | .serialWordStart .. | .serialWordEnd .. | .serialTimeout .. | .strokeRecord ..
  | .latchPosRead .. | .trackerStall .. | .resync .. | .autoResync .. | .corrLearn .. | .corrSwapCmd ..
  | .corrClear .. | .corrAbort .. | .learnDone .. | .angleRead .. | .stageWrite .. | .stageDiscard ..
  | .commitIssue .. | .commitApply | .pgCommitRead .. | .resultRead .. | .placementPromote ..
  | .mapSwitch .. | .twinRecreate | .compact .. | .compactDone | .evac .. | .evacDone | .test ..
  | .testDone .. | .restore .. | .peekRead .. | .handleLocRead .. | .bringup .. | .linkStop .. | .mgmtTx ..
  | .sreqPromote .. | .cableBreak .. | .heal .. | .comparatorTransition .. | .regPeriodStart .. | .blankEnd ..
  | .driveEventStart .. | .driveEventEnd .. | .dutyCut .. | .dutyBinRoll .. | .cmpClr .. | .dipWindowEnd ..
  | .lastEndRead .. | .adcDataLatch .. | .adcRestart .. | .calZero .. | .calFull .. | .calDone ..
  | .adcDataRead .. | .epochTickMarker | .provCartFlush | .registerWrite .. | .doorLinkUp ..
  | .doorPerst .. | .doorFlr .. | .doorHotReset .. | .doorLinkLoss .. | .heartbeat .. | .hbWarn ..
  | .heartbeatTimeout .. | .cplTimeout .. | .doorShut .. | .doorRelease .. | .doorShutterEffect ..
  | .doorD3hot .. | .doorD0Return .. | .irqGroupRelease .. | .irqCoalesceRelease .. | .irqDeliver ..
  | .irqClaim .. | .irqEoi .. | .irqExit .. | .ringEnable .. | .srcCfgWrite .. | .grpCfgWrite ..
  | .srcStatRead .. | .timerLoad .. | .captureRead .. | .dmaStart .. | .dmaBusError .. | .dmaAbort ..
  | .aonPowerUp | .mainPowerUp | .rstAssert | .rstRelease .. | .preambleRead .. | .loadComplete
  | .run | .stop | .stopComplete | .load | .switch | .switchPrepared | .switchArm
  | .wheelSwitch .. | .standby | .drainEnd | .deviceResetCmd | .wakeTimer | .wakeIn
  | .wakePerst .. | .flashRead .. | .flashProgram .. | .flashErase4k .. | .flashErase64k .. | .flashDone ..
  | .burnKey .. | .burnSigreq .. | .gateReadback .. | .refMon .. | .noFrames .. | .doorPath .. | .fmPair
  | .domainMonitorTrip .. | .deviceHostShutter | .coreAliveTimeout | .ledgerRelease .. | .logInfoRead ..
  | .failoverComplete | .slowclkReturn .. | .mainPowerLoss | .aonPowerLoss | .driveRetirement
  | .driveRetirementEnd | .volumeScrub | .volumeScrubEnd => true

end Sys2Proof
end

