-- ==== Sys2Proof/Safety.lean ====
section
/-! DEFINITION. The vocabulary of claims: frames over registers, doors and units, what a door may do, which queues are well
formed. -/

namespace Sys2Proof.Machine

/-! ### Frames -/

/-- Every register reads as before but for the bits of the fields listed. -/
def FieldsKept (fs : List FieldRef) (s t : State) : Prop :=
  ∀ a i, i < 32 → (∀ f ∈ fs, f.addr = a → i < f.lo ∨ f.hi < i) → (t.reg a).getLsbD i = (s.reg a).getLsbD i

/-- The same for every register outside one page. -/
def FieldsKeptBut (p : Nat) (fs : List FieldRef) (s t : State) : Prop :=
  ∀ a i, i < 32 → pageBase a ≠ p → (∀ f ∈ fs, f.addr = a → i < f.lo ∨ f.hi < i) → (t.reg a).getLsbD i = (s.reg a).getLsbD i

/-- Nothing of the state differs but the bits of the fields listed. -/
def OnlyFields (fs : List FieldRef) (s t : State) : Prop := t = { s with regs := t.regs } ∧ FieldsKept fs s t

/-- Nothing of the state differs but what belongs to door d beside its DOR page. -/
def OnlyDoor (d : Nat) (s t : State) : Prop := t = { s with doors := t.doors } ∧ ∀ e, e ≠ d → t.door e = s.door e

/-- Source k of the table of a page, pending in PG_IRQ_RAW (R287). -/
def rawBit (p k : Nat) : FieldRef := ⟨p + 0x10, k, k⟩

/-- Source k of a page is pending. -/
def State.isRaised (s : State) (p k : Nat) : Prop := s.get (rawBit p k) = 1

/-- The read of a door returns a value and captures words at offsets of its own snapshot registers: nothing else changes. -/
def Captured (d : Nat) (v : Word) (l : List (Nat × Word)) (s t : State) : Prop :=
  OnlyDoor d s t ∧ t.door d = { s.door d with readData := v, snap := (t.door d).snap } ∧
    (∀ e ∈ l, t.snapOf d e.1 = e.2) ∧ ∀ a, a ∉ l.map (fun e => e.1) → t.snapOf d a = s.snapOf d a

/-- An entry of the fault log as the newest of the ring, and what the log's registers show of it (R377, R394). -/
def Logged (cause block inst action data : Nat) (s t : State) : Prop :=
  t.flt = { s.flt with
    log := s.flt.log.insert (s.get Reg.FLT.LOG_COUNT.COUNT % 64) ⟨cause, block, inst, action, s.tick, BitVec.ofNat 32 data⟩ } ∧
  t.get Reg.FLT.LOG_COUNT.COUNT = (s.get Reg.FLT.LOG_COUNT.COUNT + 1) % 2 ^ 32 ∧ t.isRaised (page .flt 0) 0

/-- The registers that an entry of the fault log writes. -/
def logFields : List FieldRef :=
  [Reg.FLT.LOG_COUNT.COUNT, Reg.HEAD.PG_ERRCNT.COUNT (page .flt 0), rawBit (page .flt 0) 0, rawBit (page .flt 0) 1,
    Reg.FLT.SHUT_CNT.COUNT, Reg.FLT.ABSORB_CNT.COUNT]

/-- One more cart, of a type and a class, stamped with an instant and numbered by its class's counter (R272, R274). -/
def OneCart (typ cls at_ : Nat) (s t : State) : Prop :=
  ∃ c : Cart, t.carts = c :: s.carts ∧ c.typ = typ ∧ c.cls = cls ∧ c.st = at_ % 128 ∧ c.tick = at_ / 128 % 2 ^ 48 ∧
    c.seq = s.seqOf cls ∧ t.seqOf cls = (s.seqOf cls + 1) % 2 ^ 32 ∧ ∀ k, k ≠ cls → t.seqOf k = s.seqOf k

/-- One more record of one cart, a second time in PROV_CLS where its class differs (R422). -/
def MarkerCart (typ cls at_ : Nat) (s t : State) : Prop :=
  ∃ c : Cart, t.carts = (if s.provCls = cls then [c] else [{ c with cls := s.provCls, seq := s.seqOf s.provCls }, c]) ++ s.carts ∧
    c.typ = typ ∧ c.cls = cls ∧ c.st = at_ % 128 ∧ c.tick = at_ / 128 % 2 ^ 48 ∧ c.seq = s.seqOf cls ∧
    ∀ k, t.seqOf k = if k = cls ∨ k = s.provCls then (s.seqOf k + 1) % 2 ^ 32 else s.seqOf k

/-- The main domain is in RESET: everything is at its reset value but the tick, supplies, pins and fuses, what the outside has seen, the
flash, the carts that reached storage (R349), the SLOWCLK in use (R65) and the fields listed. -/
def Blanked (fs : List FieldRef) (s t : State) : Prop :=
  t = { State.reset with
    tick := s.tick, pending := s.pending, clk := { Clk.reset with slowOk := s.clk.slowOk, vcoreOk := s.clk.vcoreOk },
    edges := s.edges, carts := s.carts, store := { s.store with seen := s.carts.length, stage := [], held := [], lossCnt := [] },
    doors := t.doors, power := t.power, flash := t.flash, freeCtr := t.freeCtr, regs := t.regs } ∧
  FieldsKept ([Reg.PWR.SLOW_STAT.VALID, Reg.PWR.SLOW_STAT.DOOR] ++ fs) { t with regs := [] } t ∧
  (∀ d, t.slowDoor = some d → t.bit Reg.PWR.SLOW_STAT.VALID = t.slowRuns d ∧ t.get Reg.PWR.SLOW_STAT.DOOR = d) ∧
  (s.power.flOp = none → t.flash = s.flash ∧ t.freeCtr = s.freeCtr) ∧
  (∀ d v, (d, v) ∈ t.doors → ∃ w, (d, w) ∈ s.doors ∧ v = { Door.reset with hostWrites := w.hostWrites }) ∧
  t.power = { Power.reset with
    is1024 := s.power.is1024, ddrOk := s.power.ddrOk, aonOn := t.power.aonOn, mainOn := t.power.mainOn, rstN := t.power.rstN,
    keyHash := s.power.keyHash,
    keyBurnt := s.power.keyBurnt, sigReq := s.power.sigReq }

/-- The registers that links following the device state write. -/
def linkFields : List FieldRef := (List.range 16).flatMap (fun l => [Reg.LNK.STAT.STATE l, rawBit (page .lnk l) 0])

/-- A switch is over: nothing of it is left but its RESULT (R367, R368). -/
def SwitchOver (s t : State) : Prop :=
  t.get Reg.PRF.STAT.SW_STATE = 0 ∧ t.get Reg.PRF.STAT.SW_PROF = 0 ∧ t.pend = 0 ∧ t.active kSwitch = false ∧
  t = { s with regs := t.regs, power := { s.power with sw := none } } ∧
  FieldsKept [Reg.PRF.STAT.SW_STATE, Reg.PRF.STAT.SW_PROF, Reg.PRF.SW_PEND_LO.MASK, Reg.PRF.SW_PEND_HI.MASK, Reg.FLT.LEDGER.ACTIVE,
    Reg.PRF.STAT.RESULT, Reg.PRF.COPY_STAT.STATE, rawBit (page .prf 0) 0, rawBit (page .prf 0) 3] s t

/-- The state at the boundary of the tick about to begin, before its Apply phase (Table 1-3). -/
def State.nextTick (s : State) : State := { s.openTick with tick := s.tick + 1 }

/-! ### Doors -/

/-- Door d's write of a BAR0 dword is served, names a register that can be written in this state of the device, and is within
the door's rights. -/
abbrev State.accepts (s : State) (d : Nat) (b : Block) (n off : Nat) : Prop :=
  s.serves d = true ∧ s.doorState d ≠ 2 ∧ s.pageOpen b off = true ∧ s.hasRight d b n off = true

/-- Door d's read of a register is served. -/
abbrev State.reads (s : State) (d addr : Nat) : Prop := s.serves d = true ∧ s.mayRead d addr = true

/-! ### Queues -/

/-- Every waiting command is well formed. -/
def State.queueWf (s : State) : Prop := ∀ c ∈ s.pending, c.wf = true

end Sys2Proof.Machine
end

