-- ==== Sys2Proof/Certificates/Slice0/Obligations.lean ====
section
/-! DEFINITION. The statements about the block, in the order of the manual's chapters. -/

open Sys2Proof Sys2Proof.Machine

/-- What a host-time command leaves as it was. -/
def HtFrame (s t : State) : Prop :=
  t = { s with regs := t.regs, clk := { s.clk with htOfs := t.clk.htOfs, slew := t.clk.slew }, carts := t.carts,
               recd := { s.recd with seq := t.recd.seq } } ∧
    FieldsKept [Reg.CLK.HT_CMD.CMD, Reg.CLK.HT_STAT.HT_VALID, Reg.CLK.HT_STAT.SLEW_ACTIVE, rawBit (page .clk 0) 4] s t

/-- What the counting and delivery of an edge of channel ch leaves as it was. -/
def InpFrame (ch : Nat) (fs : List FieldRef) (s t : State) : Prop :=
  t = { s with regs := t.regs, inp := t.inp } ∧ (∀ k, k ≠ ch → t.inpCh k = s.inpCh k) ∧ FieldsKept fs s t

/-- The same where the event is also recorded for replay: with provenance on, entries and carts of it may be added (R422). -/
def InpProvFrame (ch : Nat) (fs : List FieldRef) (s t : State) : Prop :=
  t = { s with regs := t.regs, inp := t.inp, carts := t.carts,
               recd := { s.recd with seq := t.recd.seq, pinPart := t.recd.pinPart, pinAt := t.recd.pinAt } } ∧
    (s.provOn = false → t.carts = s.carts ∧ t.recd = s.recd) ∧ (∀ k, k ≠ ch → t.inpCh k = s.inpCh k) ∧ FieldsKept fs s t

/-- What a command to tracker w leaves as it was: other trackers, and every part of the state but registers and the record. -/
def TrkFrame (w : Nat) (fs : List FieldRef) (s t : State) : Prop :=
  t = { s with regs := t.regs, trk := t.trk, carts := t.carts, recd := { s.recd with seq := t.recd.seq } } ∧
    (∀ k, k ≠ w → t.tracker k = s.tracker k) ∧ FieldsKept fs s t

/-- What a happening at drive channel n leaves as it was. -/
def DrvFrame (n : Nat) (fs : List FieldRef) (s t : State) : Prop :=
  t = { s with regs := t.regs, drv := t.drv, edges := t.edges } ∧ (∀ k, k ≠ n → t.drive k = s.drive k) ∧ FieldsKept fs s t

/-- The same where the event is also recorded for replay (R422). -/
def DrvProvFrame (n : Nat) (fs : List FieldRef) (s t : State) : Prop :=
  t = { s with regs := t.regs, drv := t.drv, edges := t.edges, carts := t.carts,
               recd := { s.recd with seq := t.recd.seq, cmpPart := t.recd.cmpPart, cmpAt := t.recd.cmpAt } } ∧
    (s.provOn = false → t.carts = s.carts ∧ t.recd = s.recd) ∧
    (s.provOn = true → s.recd.cmpPart.length < 5 → t.carts = s.carts ∧ t.recd.cmpPart.length = s.recd.cmpPart.length + 1) ∧
    (∀ k, k ≠ n → t.drive k = s.drive k) ∧ FieldsKept fs s t

/-- What a command to link n leaves as it was, beside the causes of waiting carts. -/
def LnkFrame (n : Nat) (fs : List FieldRef) (s t : State) : Prop :=
  t = { s with regs := t.regs, lnk := t.lnk, dueCarts := t.dueCarts } ∧ (∀ k, k ≠ n → t.link k = s.link k) ∧
    t.dueCarts.map (fun d => { d with cause := 0 }) = s.dueCarts.map (fun d => { d with cause := 0 }) ∧ FieldsKept fs s t

/-- A step of the bring-up of link n fails with a cause: FAILED, BRINGUP_FAIL, nothing left to send, the fields listed written on the
way. -/
def StepFails (n cause : Nat) (fs : List FieldRef) (s t : State) : Prop :=
  t.lnkState n = 7 ∧ t.get (Reg.LNK.STAT.CAUSE n) = cause ∧ t.isRaised (page .lnk n) 0 ∧ t.isRaised (page .lnk n) 1 ∧
    (t.link n).script = [] ∧
    LnkFrame n (fs ++ [Reg.LNK.STAT.STATE n, Reg.LNK.STAT.CAUSE n, rawBit (page .lnk n) 0, rawBit (page .lnk n) 1]) s t

/-! ### References, PLLs, failover, host time, SLOWCLK and DVFS -/

/-- R39, R40, R41: a counted reference differs from another QUALIFIED one by more than CHK_TOL and is XCHK_FAIL, else its
deviation exceeds SSC_THR and it is SPREAD with SPREAD_DETECT, else it is QUALIFIED; no other reference changes. R40: XCHK_RETRY
makes a reference in XCHK_FAIL count again, with REF_CHANGE. R41, R42: a reference that no PLL uses is found SPREAD, or a
QUALIFIED one misses an edge; the second is FAILED and logged with cause REF_FAIL. R43: of exactly two QUALIFIED references that
differ by more than CHK_TOL neither fails and XCHK_DISAGREE is set; of exactly three the one that differs from both others,
while those agree, is XCHK_FAIL where no PLL uses it. -/
def Obligations.ReferencesAreJudged : Prop :=
  (∀ (d : DoorNo) (ppm dev : Nat) (s : State), s.clockOn = true → s.trefEn d = true → s.refState d ≠ 2 → s.refState d ≠ 5 →
    ∃ t, exec (.refQualifyDone d ppm dev) s = .next t ∧
      t.refState d =
        (if (∃ o : DoorNo, o ≠ d ∧ s.refState o = 2) ∧ s.chkTol < ppm then 5
         else if s.get Reg.CLK.REF_CFG.SSC_THR < dev then 3 else 2) ∧
      (t.refState d = 3 → t.isRaised (page .clk 0) 3) ∧
      (t.refState d ≠ s.refState d → t.isRaised (page .clk 0) 0) ∧
      (∀ e : DoorNo, e ≠ d → t.refState e = s.refState e) ∧
      OnlyFields [Reg.CLK.REF_STAT.STATES, rawBit (page .clk 0) 0, rawBit (page .clk 0) 3, Reg.CLK.PLL_STAT.A_STATE,
        Reg.CLK.PLL_STAT.A_DOOR, Reg.CLK.PLL_STAT.B_STATE, Reg.CLK.PLL_STAT.B_DOOR] s t) ∧
  (∀ (d : DoorNo) (s : State), s.clockOn = true → s.refState d = 5 →
    ∃ t, exec (.xchkRetry d) s = .next t ∧ t.refState d = 1 ∧ t.isRaised (page .clk 0) 0 ∧
      (∀ e : DoorNo, e ≠ d → t.refState e = s.refState e) ∧
      OnlyFields [Reg.CLK.REF_STAT.STATES, rawBit (page .clk 0) 0] s t) ∧
  (∀ (d : DoorNo) (dev : Nat) (s : State), s.clockOn = true → s.trefEn d = true → s.get Reg.CLK.REF_CFG.SSC_THR < dev →
    s.refState d ≠ 3 → s.refState d ≠ 2 →
    ∃ t, exec (.spreadCheckDone d dev) s = .next t ∧ t.refState d = 3 ∧ t.isRaised (page .clk 0) 0 ∧ t.isRaised (page .clk 0) 3 ∧
      (∀ e : DoorNo, e ≠ d → t.refState e = s.refState e) ∧
      OnlyFields [Reg.CLK.REF_STAT.STATES, rawBit (page .clk 0) 0, rawBit (page .clk 0) 3] s t) ∧
  (∀ (d : DoorNo) (s : State), s.clockOn = true → s.refState d = 2 → s.pllUses 0 d = false → s.pllUses 1 d = false →
    ∃ t, exec (.refMissingEdge d) s = .next t ∧ t.refState d = 4 ∧ t.isRaised (page .clk 0) 0 ∧
      (∀ e : DoorNo, e ≠ d → t.refState e = s.refState e) ∧ Logged 0x20 0x02 0 aAbsorbed 0 s t ∧
      t = { s with regs := t.regs, flt := t.flt } ∧
      FieldsKept (Reg.CLK.REF_STAT.STATES :: rawBit (page .clk 0) 0 :: logFields) s t) ∧
  (∀ (p0 p1 p2 p3 : Int) (a b : DoorNo) (s : State), s.clockOn = true → a ≠ b →
    (∀ d : DoorNo, s.qualified d = true ↔ d = a ∨ d = b) →
    s.chkTol < ([p0, p1, p2, p3].getD a 0 - [p0, p1, p2, p3].getD b 0).natAbs →
    ∃ t, exec (.xchkWindow p0 p1 p2 p3) s = .next t ∧ t.get Reg.CLK.REF_STAT.XCHK_DISAGREE = 1 ∧ t.isRaised (page .clk 0) 0 ∧
      OnlyFields [Reg.CLK.REF_STAT.XCHK_DISAGREE, rawBit (page .clk 0) 0] s t) ∧
  (∀ (p0 p1 p2 p3 : Int) (a b c : DoorNo) (s : State), s.clockOn = true → a ≠ b → a ≠ c → b ≠ c →
    (∀ d : DoorNo, s.qualified d = true ↔ d = a ∨ d = b ∨ d = c) → s.pllUses 0 a = false → s.pllUses 1 a = false →
    s.chkTol < ([p0, p1, p2, p3].getD a 0 - [p0, p1, p2, p3].getD b 0).natAbs →
    s.chkTol < ([p0, p1, p2, p3].getD a 0 - [p0, p1, p2, p3].getD c 0).natAbs →
    ([p0, p1, p2, p3].getD b 0 - [p0, p1, p2, p3].getD c 0).natAbs ≤ s.chkTol →
    ∃ t, exec (.xchkWindow p0 p1 p2 p3) s = .next t ∧ t.refState a = 5 ∧ (∀ e : DoorNo, e ≠ a → t.refState e = s.refState e) ∧
      Logged 0x20 0x02 0 aAbsorbed 0 s t ∧ t = { s with regs := t.regs, flt := t.flt } ∧
      FieldsKept (Reg.CLK.REF_STAT.STATES :: rawBit (page .clk 0) 0 :: logFields) s t)

/-- R45, R46: the first PLL to lock is selected and the tick starts from it. R48, R50, R384: the selected PLL faults while the
other is LOCKED: the other is selected, FAILOVER_CNT and LAST_FAILOVER_TICK follow, FAILOVER is raised and the switch is under
way until FAILOVER_COMPLETE, which ends it and nothing else. The switch tick is the model's choice (log entry 21). R47, R75:
SEL_REQ selects the other PLL when that is LOCKED; a write of SSC_CFG gives EN0 and EN1 their values, and DEPTH and FREQ of an
output that was off. -/
def Obligations.PllsAndClockOutputs : Prop :=
  (∀ (p : Pll) (s : State), s.clockOn = true → s.pllState (pllNum p) = 1 → s.clk.running = false →
    ∃ t, exec (.pllLocked p) s = .next t ∧ t.pllState (pllNum p) = 2 ∧ t.pllSel = pllNum p ∧ t.clk.running = true ∧
      t = { s with regs := t.regs, inp := t.inp, clk := { s.clk with running := true, acc := 0, cyc := 0, cycles := t.clk.cycles } } ∧
      (∀ ch, t.inpCh ch = { s.inpCh ch with oldFilts := [] }) ∧
      FieldsKept [if p = .a then Reg.CLK.PLL_STAT.A_STATE else Reg.CLK.PLL_STAT.B_STATE, Reg.CLK.PLL_STAT.SEL] s t) ∧
  (∀ (p : Pll) (s : State), s.clockOn = true → s.clk.running = true → s.pllSel = pllNum p → s.pllState (pllNum p) = 2 →
    s.pllState (1 - pllNum p) = 2 → s.bit Reg.CLK.PLL_STAT.COAST = false → s.clk.failover = false →
    ∃ t, exec (.pllFault p) s = .next t ∧ t.pllSel = 1 - pllNum p ∧ t.pllState (1 - pllNum p) = 2 ∧
      t.get Reg.CLK.FAILOVER_CNT.COUNT = min (2 ^ 32 - 1) (s.get Reg.CLK.FAILOVER_CNT.COUNT + 1) ∧
      t.get64 Reg.CLK.LAST_FAILOVER_TICK_LO.TICK Reg.CLK.LAST_FAILOVER_TICK_HI.TICK = s.tick % 2 ^ 64 ∧
      t.isRaised (page .clk 0) 1 ∧ Logged 0x21 0x02 0 aAbsorbed 0 s t ∧
      t = { s with regs := t.regs, flt := t.flt, clk := { s.clk with failover := true } }) ∧
  (∀ s : State, s.clk.failover = true →
    exec .failoverComplete s = .next { s with clk := { s.clk with failover := false, moved := some s.tick } }) ∧
  (∀ (d : DoorNo) (s : State), s.accepts d .clk 0 0x48 → s.pllState (1 - s.pllSel) = 2 →
    ∃ t, exec (.selReq d) s = .next t ∧ t.pllSel = 1 - s.pllSel ∧ OnlyFields [Reg.CLK.PLL_STAT.SEL] s t) ∧
  (∀ (d : DoorNo) (v : Word) (s : State), s.accepts d .clk 0 0x98 →
    ∃ t, exec (.sscCfgWrite d v) s = .next t ∧
      t.get Reg.CLK.SSC_CFG.EN0 = Word.bits v 0 0 ∧ t.get Reg.CLK.SSC_CFG.EN1 = Word.bits v 8 8 ∧
      t.get Reg.CLK.SSC_CFG.DEPTH0 = (if s.bit Reg.CLK.SSC_CFG.EN0 ∨ 10 < Word.bits v 4 1 then s.get Reg.CLK.SSC_CFG.DEPTH0
        else Word.bits v 4 1) ∧
      t.get Reg.CLK.SSC_CFG.FREQ0 = (if s.bit Reg.CLK.SSC_CFG.EN0 then s.get Reg.CLK.SSC_CFG.FREQ0 else Word.bits v 6 5) ∧
      t.get Reg.CLK.SSC_CFG.DEPTH1 = (if s.bit Reg.CLK.SSC_CFG.EN1 ∨ 10 < Word.bits v 12 9 then s.get Reg.CLK.SSC_CFG.DEPTH1
        else Word.bits v 12 9) ∧
      t.get Reg.CLK.SSC_CFG.FREQ1 = (if s.bit Reg.CLK.SSC_CFG.EN1 then s.get Reg.CLK.SSC_CFG.FREQ1 else Word.bits v 14 13) ∧
      OnlyFields [Reg.CLK.SSC_CFG.EN0, Reg.CLK.SSC_CFG.EN1, Reg.CLK.SSC_CFG.DEPTH0, Reg.CLK.SSC_CFG.FREQ0,
        Reg.CLK.SSC_CFG.DEPTH1, Reg.CLK.SSC_CFG.FREQ1] s t)

/-- R60, R63: SET makes the offset HT_DELTA and sets HT_VALID; STEP adds HT_DELTA; both end a slew, generate a TIMESTEP cart,
raise HT_DONE and leave CMD at 0. R61: a SLEW in range applies SLEW_RATE units toward HT_DELTA in its first tick where more is
to apply, and is the slew in progress; its last adjustment, when due, applies the rest exactly and raises HT_DONE. Each of the
two generates a TIMESTEP cart. -/
def Obligations.HostTimeMoves : Prop :=
  (∀ s : State, s.clockOn = true →
    ∃ t, exec .htSet s = .next t ∧ t.clk.htOfs = s.htDelta * 65536 ∧ t.clk.slew = none ∧
      t.get Reg.CLK.HT_STAT.HT_VALID = 1 ∧ t.get Reg.CLK.HT_STAT.SLEW_ACTIVE = 0 ∧ t.get Reg.CLK.HT_CMD.CMD = 0 ∧
      t.isRaised (page .clk 0) 4 ∧ OneCart 0x10 s.markerCls s.now s t ∧ HtFrame s t) ∧
  (∀ s : State, s.clockOn = true → ofsFits (s.clk.htOfs + s.htDelta * 65536) = true →
    ∃ t, exec .htStep s = .next t ∧ t.clk.htOfs = s.clk.htOfs + s.htDelta * 65536 ∧ t.clk.slew = none ∧
      t.get Reg.CLK.HT_STAT.HT_VALID = s.get Reg.CLK.HT_STAT.HT_VALID ∧ t.get Reg.CLK.HT_STAT.SLEW_ACTIVE = 0 ∧
      t.get Reg.CLK.HT_CMD.CMD = 0 ∧ t.isRaised (page .clk 0) 4 ∧ OneCart 0x10 s.markerCls s.now s t ∧ HtFrame s t) ∧
  (∀ s : State, s.clockOn = true → ofsFits (s.clk.htOfs + s.htDelta * 65536) = true → s.htDelta.natAbs ≤ 2 ^ 31 - 1 →
    s.get Reg.CLK.HT_CMD.SLEW_RATE < s.htDelta.natAbs * 65536 →
    ∃ t w, exec .htSlew s = .next t ∧ t.clk.slew = some w ∧
      t.clk.htOfs = s.clk.htOfs + (if s.htDelta < 0 then -(s.get Reg.CLK.HT_CMD.SLEW_RATE : Int) else s.get Reg.CLK.HT_CMD.SLEW_RATE) ∧
      w.left = s.htDelta.natAbs * 65536 - s.get Reg.CLK.HT_CMD.SLEW_RATE ∧ w.negative = decide (s.htDelta < 0) ∧
      w.rate = s.get Reg.CLK.HT_CMD.SLEW_RATE ∧ t.get Reg.CLK.HT_STAT.SLEW_ACTIVE = 1 ∧ t.get Reg.CLK.HT_CMD.CMD = 0 ∧
      OneCart 0x10 s.markerCls s.now s t ∧ HtFrame s t) ∧
  (∀ (w : Slew) (s : State), s.clk.slew = some w → w.due = true →
    ∃ t, exec .slewDone s = .next t ∧ t.clk.htOfs = s.clk.htOfs + (if w.negative then -(w.left : Int) else w.left) ∧
      t.clk.slew = none ∧ t.get Reg.CLK.HT_STAT.SLEW_ACTIVE = 0 ∧ t.isRaised (page .clk 0) 4 ∧
      OneCart 0x10 s.markerCls s.now s t ∧ HtFrame s t)

/-- R62: a SET, STEP or SLEW that would carry the offset outside 64 bits, or a SLEW by more than 2^31 - 1 ns, is refused: offset
and slew stay, no marker is written, REFUSED is set and HT_REFUSED raised. -/
def Obligations.HostTimeOutOfRangeIsRefused : Prop :=
  ∀ (i : Instr) (s : State), s.clockOn = true →
    (i = .htSet ∧ ofsFits (s.htDelta * 65536) = false ∨
      i = .htStep ∧ ofsFits (s.clk.htOfs + s.htDelta * 65536) = false ∨
      i = .htSlew ∧ (ofsFits (s.clk.htOfs + s.htDelta * 65536) = false ∨ 2 ^ 31 - 1 < s.htDelta.natAbs)) →
    ∃ t, exec i s = .next t ∧ t.get Reg.CLK.HT_STAT.REFUSED = 1 ∧ t.isRaised (page .clk 0) 5 ∧ t.get Reg.CLK.HT_CMD.CMD = 0 ∧
      OnlyFields [Reg.CLK.HT_STAT.REFUSED, Reg.CLK.HT_CMD.CMD, rawBit (page .clk 0) 5] s t

/-- R65, R67, R69: where the always-on domain carries the tick each SLOWCLK cycle adds 78 125 to the make-up fraction, whole
512ths go to the counter; a door's SLOWCLK that stops or starts moves the selection in AUTO to the first door in PRIO order that
toggles, and a fixed selection does not move; SLOW_LOST is raised for the one in use, and kept where none is left in standby. -/
def Obligations.SlowClockCountsAndFollows : Prop :=
  (∀ s : State, s.aonCounts = true → s.bit Reg.PWR.SLOW_STAT.VALID = true →
    ∃ t, exec .slowclkCycle s = .next t ∧ t.tick = s.tick + (s.clk.makeup + 78125) / 512 ∧
      t = { s with tick := t.tick, regs := t.regs, clk := { s.clk with makeup := (s.clk.makeup + 78125) % 512 } } ∧
      (s.bit Reg.PRF.WAKE_CFG.TIMER_EN = false → t.regs = s.regs) ∧ FieldsKept [Reg.PRF.WAKE_CAUSE.TIMER] s t) ∧
  (∀ (i : Instr) (on : Bool) (d : DoorNo) (s : State),
    (i = .slowclkLost d ∧ on = false) ∨ (i = .slowclkReturn d ∧ on = true) → s.power.aonOn = true →
    ∃ t, exec i s = .next t ∧
      t = { s with regs := t.regs, clk := { s.clk with slowOk := s.clk.slowOk.set d on } } ∧
      (s.get Reg.PWR.SLOW_CFG.SEL < 4 → t.get Reg.PWR.SLOW_STAT.DOOR = s.get Reg.PWR.SLOW_CFG.SEL ∧
        t.get Reg.PWR.SLOW_STAT.VALID = (if t.slowRuns (s.get Reg.PWR.SLOW_CFG.SEL) then 1 else 0)) ∧
      (4 ≤ s.get Reg.PWR.SLOW_CFG.SEL →
        (∀ e, s.prio.find? (fun k => t.slowRuns k) = some e →
          t.get Reg.PWR.SLOW_STAT.DOOR = e ∧ t.get Reg.PWR.SLOW_STAT.VALID = 1) ∧
        (s.prio.find? (fun k => t.slowRuns k) = none → t.get Reg.PWR.SLOW_STAT.VALID = 0)) ∧
      (on = false → s.get Reg.PWR.SLOW_STAT.VALID = 1 → s.get Reg.PWR.SLOW_STAT.DOOR = d → s.clockOn = true →
        t.isRaised (page .pwr 0) 3) ∧
      (on = false → s.aonCounts = true → t.get Reg.PWR.SLOW_STAT.VALID = 0 → t.get Reg.PWR.SLOW_STAT.SLOW_LOST = 1) ∧
      FieldsKept [Reg.PWR.SLOW_STAT.VALID, Reg.PWR.SLOW_STAT.DOOR, Reg.PWR.SLOW_STAT.SLOW_LOST, rawBit (page .pwr 0) 3] s t)

/-- R71 to R73, R392: a write of DVFS_TARGET starts a step up, which drives VID to the new level at once, or, with every
carriage below the new limit and no evacuation active, a step down, which is active in the ledger; with a carriage at or above
the limit it is refused with NOT_COMPACT; while a transition runs it is ignored with BUSY. -/
def Obligations.DvfsTargetWriteOutcome : Prop :=
  ∀ (d : DoorNo) (l : Fin 4) (s : State), s.accepts d .pwr 0 0x40 → l.val < 3 →
    ∃ t, exec (.dvfsTargetWrite d l) s = .next t ∧
      (s.clk.dvfs.isSome = true → t.get Reg.PWR.DVFS_STAT.RESULT = 2 ∧ OnlyFields [Reg.PWR.DVFS_STAT.RESULT] s t) ∧
      (s.clk.dvfs = none → s.isQueued kDvfs = false → l.val < s.level →
        t.clk.dvfs = some ⟨l, s.level, s.tick, none, true⟩ ∧ t.get Reg.PWR.DVFS_STAT.IN_PROGRESS = 1 ∧
        t.get Reg.PWR.DVFS_TARGET.LEVEL = l ∧ t.get Reg.PWR.VCORE_STAT.VID_OUT = s.vidOf l ∧ t.level = s.level ∧
        t = { s with regs := t.regs, clk := { s.clk with dvfs := t.clk.dvfs } } ∧
        FieldsKept [Reg.PWR.DVFS_TARGET.LEVEL, Reg.PWR.DVFS_STAT.IN_PROGRESS, Reg.PWR.VCORE_STAT.VID_OUT] s t) ∧
      (s.clk.dvfs = none → s.isQueued kDvfs = false → s.level < l → s.active kEvac = false →
        s.compactAt (levelLimit l) = true →
        t.clk.dvfs = some ⟨l, s.level, s.tick, none, false⟩ ∧ t.get Reg.PWR.DVFS_STAT.IN_PROGRESS = 1 ∧
        t.get Reg.PWR.DVFS_TARGET.LEVEL = l ∧ t.active kDvfs = true ∧ t.level = s.level ∧
        t = { s with regs := t.regs, clk := { s.clk with dvfs := t.clk.dvfs } } ∧
        FieldsKept [Reg.PWR.DVFS_TARGET.LEVEL, Reg.PWR.DVFS_STAT.IN_PROGRESS, Reg.FLT.LEDGER.ACTIVE] s t) ∧
      (s.clk.dvfs = none → s.isQueued kDvfs = false → s.level < l → s.active kEvac = false →
        s.compactAt (levelLimit l) = false →
        t.get Reg.PWR.DVFS_STAT.RESULT = 1 ∧ t.isRaised (page .pwr 0) 1 ∧ t.level = s.level ∧
        OnlyFields [Reg.PWR.DVFS_TARGET.LEVEL, Reg.PWR.DVFS_STAT.RESULT, rawBit (page .pwr 0) 1] s t)

/-- R50, R72, R73: with no failover under way, nor one that ended in the current tick, the divider changes V_SETTLE ticks after
VCORE_OK was seen (step up) or at the boundary after the write (step down): LEVEL, DVFS_LAST_TICK, RESULT DONE and DVFS_DONE; a
step up lifts the hold on placement, a step down drives VID to the new level and leaves the ledger. R72: when VCORE_OK was high
at none of the V_TIMEOUT boundaries, VID returns to the old level's code, the level stays, RESULT is TIMEOUT and VCORE_TIMEOUT
is raised. -/
def Obligations.DvfsTransitionEnds : Prop :=
  (∀ (x : Dvfs) (b : Nat) (s : State), s.clk.dvfs = some x → x.okAt = some b → x.up = true → x.target < 4 →
    b + s.get Reg.PWR.DVFS_TIMING.V_SETTLE ≤ s.tick → s.mayDivide = true →
    ∃ t, exec .dvfsSettleExpiry s = .next t ∧ t.level = x.target ∧ t.get Reg.PWR.DVFS_STAT.IN_PROGRESS = 0 ∧
      t.get Reg.PWR.DVFS_STAT.RESULT = 0 ∧
      t.get64 Reg.PWR.DVFS_LAST_TICK_LO.TICK Reg.PWR.DVFS_LAST_TICK_HI.TICK = s.tick % 2 ^ 64 ∧
      t.get Reg.PLC.STAT.HOLD_EN = 0 ∧ t.isRaised (page .pwr 0) 0 ∧
      t = { s with regs := t.regs, clk := { s.clk with dvfs := none } } ∧
      FieldsKept [Reg.PWR.DVFS_STAT.LEVEL, Reg.PWR.DVFS_STAT.IN_PROGRESS, Reg.PWR.DVFS_STAT.RESULT,
        Reg.PWR.DVFS_LAST_TICK_LO.TICK, Reg.PWR.DVFS_LAST_TICK_HI.TICK, Reg.PLC.STAT.HOLD_LVL, Reg.PLC.STAT.HOLD_EN,
        rawBit (page .pwr 0) 0] s t) ∧
  (∀ (x : Dvfs) (s : State), s.clk.dvfs = some x → x.up = false → x.target < 4 → x.writeTick < s.tick → s.mayDivide = true →
    ∃ t, exec .dvfsStepDown s = .next t ∧ t.level = x.target ∧ t.get Reg.PWR.DVFS_STAT.IN_PROGRESS = 0 ∧
      t.get Reg.PWR.DVFS_STAT.RESULT = 0 ∧ t.get Reg.PWR.VCORE_STAT.VID_OUT = s.vidOf x.target ∧ t.active kDvfs = false ∧
      t.get64 Reg.PWR.DVFS_LAST_TICK_LO.TICK Reg.PWR.DVFS_LAST_TICK_HI.TICK = s.tick % 2 ^ 64 ∧ t.isRaised (page .pwr 0) 0 ∧
      t = { s with regs := t.regs, clk := { s.clk with dvfs := none } } ∧
      FieldsKept [Reg.PWR.DVFS_STAT.LEVEL, Reg.PWR.DVFS_STAT.IN_PROGRESS, Reg.PWR.DVFS_STAT.RESULT,
        Reg.PWR.DVFS_LAST_TICK_LO.TICK, Reg.PWR.DVFS_LAST_TICK_HI.TICK, Reg.PWR.VCORE_STAT.VID_OUT, Reg.FLT.LEDGER.ACTIVE,
        rawBit (page .pwr 0) 0] s t) ∧
  (∀ (x : Dvfs) (s : State), s.clk.dvfs = some x → x.up = true → x.okAt = none →
    x.writeTick + s.get Reg.PWR.DVFS_TIMING.V_TIMEOUT ≤ s.tick →
    ∃ t, exec .vcoreTimeout s = .next t ∧ t.get Reg.PWR.VCORE_STAT.VID_OUT = s.vidOf x.source ∧ t.level = s.level ∧
      t.get Reg.PWR.DVFS_STAT.IN_PROGRESS = 0 ∧ t.get Reg.PWR.DVFS_STAT.RESULT = 3 ∧ t.isRaised (page .pwr 0) 2 ∧
      t = { s with regs := t.regs, clk := { s.clk with dvfs := none } } ∧
      FieldsKept [Reg.PWR.VCORE_STAT.VID_OUT, Reg.PWR.DVFS_STAT.IN_PROGRESS, Reg.PWR.DVFS_STAT.RESULT, rawBit (page .pwr 0) 2] s t)

/-! ### Reads -/

/-- R58, R104, R257: a served read of TICK_LO returns the low word of the tick and captures the high word, the sub-tick and host
time in ns; one of LATCH_POS captures the latched timestamp and its marks; one of LAST_END_LO captures the rest of the instant.
Nothing else changes. R165, R161, R200: a served read of PG_COMMIT returns the low word of the commit tick of the door's last
commit on the page and captures the high word; one of W7 of a slot captures its handle, revolution, start and end; one of
HANDLE_LOC_A returns where the driver or single carriage of the selected handle is and captures the checker's place. R139, R323,
R395: a served read of ANGLE of a tracker with a prediction returns the angle at the read's sub-tick and captures the
revolution, the base period and the last edge; one of SRC_STAT captures the source's ASSERT tick; one of LOG_INFO captures the
entry's tick and data. -/
def Obligations.ReadsCaptureTogether : Prop :=
  (∀ (d : DoorNo) (st : SubTick) (s : State), s.reads d 0x1060 →
    ∃ t, exec (.tickLoRead d st) s = .next t ∧
      Captured d (BitVec.ofNat 32 s.tick)
        ([(0x1064, BitVec.ofNat 32 (s.tick / 2 ^ 32)), (0x1068, BitVec.ofNat 32 st)] ++
          lowHigh 0x107C 0x1080 (unsigned 64 ((s.clk.htOfs + (102400 * (s.tick * 128 + st) : Nat)) / 65536))) s t) ∧
  (∀ (d : DoorNo) (ch : ChNo) (s : State), s.reads d (page .inp ch + 0x104) →
    ∃ t, exec (.latchPosRead d ch) s = .next t ∧
      Captured d (s.reg (page .inp ch + 0x104))
        (lowHigh (page .inp ch + 0x108) (page .inp ch + 0x10C) ((s.inpCh ch).latchTs / 128) ++
          [(page .inp ch + 0x110, BitVec.ofNat 32 ((s.inpCh ch).latchTs % 128 + (if (s.inpCh ch).latchDir then 2 ^ 7 else 0) +
            (if (s.inpCh ch).latchNoPer then 2 ^ 8 else 0) + (if (s.inpCh ch).latchDirChg then 2 ^ 9 else 0)))]) s t) ∧
  (∀ (d : DoorNo) (ch : DrvNo) (s : State), s.reads d (page .drv ch + 0x6C) →
    ∃ t, exec (.lastEndRead d ch) s = .next t ∧
      Captured d (s.reg (page .drv ch + 0x6C))
        [(page .drv ch + 0x70, s.reg (page .drv ch + 0x70)), (page .drv ch + 0x74, s.reg (page .drv ch + 0x74))] s t) ∧
  (∀ (d : DoorNo) (b : Block) (n : Nat) (off : BitVec 24) (s : State), n < b.pages → off.toNat = page b n →
    s.reads d (page b n + 0x20) →
    ∃ t, exec (.pgCommitRead d off) s = .next t ∧
      Captured d (BitVec.ofNat 32 ((s.door d).outcome.get (fun _ => ⟨0, 0⟩) (page b n)).tick)
        [(page b n + 0x24, BitVec.ofNat 32 (((s.door d).outcome.get (fun _ => ⟨0, 0⟩) (page b n)).tick / 2 ^ 32))] s t) ∧
  (∀ (d : DoorNo) (h : Handle) (s : State), s.serves d = true → s.mayReadBar2 d = true →
    ∃ t, exec (.resultRead d h) s = .next t ∧
      Captured d (BitVec.ofNat 32 ((s.slotSeen h).flags % 256 * 2 ^ 24 + (s.slotSeen h).rev8 % 256 * 2 ^ 16 +
          (s.slotSeen h).passCnt % 65536))
        [(page .dor d + 0x80, BitVec.ofNat 32 h), (page .dor d + 0x84, (s.slotSeen h).resRev),
          (page .dor d + 0x88, (s.slotSeen h).resStart), (page .dor d + 0x8C, (s.slotSeen h).resEnd)] s t) ∧
  (∀ (d : DoorNo) (s : State), s.reads d 0x7107C →
    ∃ t, exec (.handleLocRead d) s = .next t ∧
      Captured d (s.handleLoc (s.selOf d 0x71078) (fun r => r == 1 || r == 3))
        [(0x71080, s.handleLoc (s.selOf d 0x71078) (fun r => r == 2))] s t) ∧
  (∀ (d : DoorNo) (w : WheelNo) (st : SubTick) (q : Pred) (s : State), s.reads d (page .whl w + 0x6C) →
    (s.tracker w).pred = some q →
    ∃ t, exec (.angleRead d w st) s = .next t ∧
      Captured d (BitVec.ofNat 32 (thetaOf (s.wRange w) q.rev (s.angleAt w q (s.now + st))))
        ([(page .whl w + 0x70, BitVec.ofNat 32 (s.tracker w).rev), (page .whl w + 0x78, BitVec.ofNat 32 (s.tracker w).b)] ++
          lowHigh (page .whl w + 0x7C) (page .whl w + 0x80) ((s.tracker w).lastTs / 128) ++
          [(page .whl w + 0x84, BitVec.ofNat 32 ((s.tracker w).lastTs % 128 * 2 ^ 10 + (s.tracker w).lastPos % 1024))]) s t) ∧
  (∀ (d : DoorNo) (s : State), s.reads d 0xF0048 → sourceExists (s.selOf d 0xF0040) = true →
    ∃ t, exec (.srcStatRead d) s = .next t ∧
      Captured d (s.srcStat (s.selOf d 0xF0040))
        [(0xF004C, BitVec.ofNat 32 (s.src (s.selOf d 0xF0040)).assert),
          (0xF0050, BitVec.ofNat 32 ((s.src (s.selOf d 0xF0040)).assert / 2 ^ 32))] s t) ∧
  (∀ (d : DoorNo) (e : LogEntry) (s : State), s.reads d 0x404C → s.flt.log.find (s.selOf d 0x4048) = some e →
    ∃ t, exec (.logInfoRead d) s = .next t ∧
      Captured d (BitVec.ofNat 32 (e.cause % 256 * 2 ^ 24 + e.block % 256 * 2 ^ 16 + e.num % 256 * 2 ^ 8 + e.action % 4 * 2 ^ 6 + 1))
        [(0x4050, BitVec.ofNat 32 e.tick), (0x4054, BitVec.ofNat 32 (e.tick / 2 ^ 32)), (0x4058, e.data)] s t)

/-- R199, Table 6-1: a served peek without an ECC error of a live carriage returns its match word, the check bits on top, in
three words; of a coach out of service it returns 0. The read waits at the coach's update port (R186): nothing else of the coach
changes. R266, R333: a served read of ADC DATA returns it, captures its tick and clears PENDING; one of CAPTURE returns it,
captures its instant and clears CAP_FULL. R295, R354: a door serves no read of a page that its own shutter or the state of the
device closes to it: the read returns 0 and captures nothing. -/
def Obligations.PeeksClearingAndClosedReads : Prop :=
  (∀ (d : DoorNo) (s : State) (c : Carriage) (x : Slot), s.reads d 0x7007C → s.inService (coachOf (s.selOf d 0x70078)) = true →
    c = s.carriageSeen (s.selOf d 0x70078) → c.role ≠ 0 → x = s.slot c.handle →
    ∃ t m, exec (.peekRead d none) s = .next t ∧
      m = c.role * 2 ^ 70 + c.wheel * 2 ^ 64 + x.typeSeen * 2 ^ 62 + (if x.arm then 2 ^ 61 else 0) + (if x.revOk then 2 ^ 60 else 0) +
        (if x.pass.isSome then 2 ^ 59 else 0) + (if epIsLink x.endpoint then epPort x.endpoint else 16) * 2 ^ 54 + x.angA * 2 ^ 27 +
        (if x.typeSeen = 1 then x.dur else if x.typeSeen = 2 then x.angB else 0) ∧
      Captured d (BitVec.ofNat 32 (m + (Config.eccBits (BitVec.ofNat 72 m)).toNat * 2 ^ 72))
        [(0x70080, BitVec.ofNat 32 ((m + (Config.eccBits (BitVec.ofNat 72 m)).toNat * 2 ^ 72) / 2 ^ 32)),
          (0x70084, BitVec.ofNat 32 ((m + (Config.eccBits (BitVec.ofNat 72 m)).toNat * 2 ^ 72) / 2 ^ 64))] s { t with fabric := s.fabric } ∧
      t.fabric = { s.fabric with coach := t.fabric.coach } ∧
      ∀ k, t.coach k = if k = coachOf (s.selOf d 0x70078) then { s.coach k with peeks := (s.coach k).peeks + 1 } else s.coach k) ∧
  (∀ (d : DoorNo) (ecc : Option Bool) (s : State), s.reads d 0x7007C → s.inService (coachOf (s.selOf d 0x70078)) = false →
    ∃ t, exec (.peekRead d ecc) s = .next t ∧ Captured d 0 [(0x70080, 0), (0x70084, 0)] s t) ∧
  (∀ (d : DoorNo) (u : AdcNo) (s : State), s.reads d (page .adc u + 0x58) →
    ∃ t, exec (.adcDataRead d u) s = .next t ∧
      Captured d (s.reg (page .adc u + 0x58))
        (lowHigh (page .adc u + 0x5C) (page .adc u + 0x60) (s.unit u).dataTick) s { t with regs := s.regs } ∧
      t.get (Reg.ADC.STAT.PENDING u) = 0 ∧ FieldsKept [Reg.ADC.STAT.PENDING u] s t) ∧
  (∀ (d : DoorNo) (k : TmrNo) (s : State), s.reads d (page .tmr k + 0x60) →
    ∃ t, exec (.captureRead d k) s = .next t ∧
      Captured d (s.reg (page .tmr k + 0x60))
        (lowHigh (page .tmr k + 0x64) (page .tmr k + 0x68) ((s.timer k).capAt / 128) ++
          [(page .tmr k + 0x6C, BitVec.ofNat 32 ((s.timer k).capAt % 128))]) s { t with regs := s.regs } ∧
      t.get (Reg.TMR.STAT.CAP_FULL k) = 0 ∧ FieldsKept [Reg.TMR.STAT.CAP_FULL k] s t) ∧
  (∀ (i : Instr) (d : DoorNo) (addr : Nat) (s : State), s.serves d = true → s.mayRead d addr = false →
    (i = .logInfoRead d ∧ addr = 0x404C ∨ (∃ st, i = .tickLoRead d st ∧ addr = 0x1060) ∨
      (∃ u : AdcNo, i = .adcDataRead d u ∧ addr = page .adc u + 0x58) ∨
      (∃ k : TmrNo, i = .captureRead d k ∧ addr = page .tmr k + 0x60) ∨ (∃ e, i = .peekRead d e ∧ addr = 0x7007C)) →
    ∃ t, exec i s = .next t ∧ Captured d 0 [] s t)

/-! ### Input channels -/

/-- R80, R81, R83, R86, R99: a filter accepts a transition N x D cycles after the first sample that shows it, else the command
changes nothing; in TOOTH mode without a direction source an active edge of A so accepted advances the counter modulo COUNT_MOD
and is delivered with its edge timestamp, N x D before its acceptance; a 17th edge of the tick is not delivered but sets
EDGE_OVF (R84). -/
def Obligations.ToothEdgeCountsAndIsDelivered : Prop :=
  (∀ (ch : ChNo) (held first : Nat) (st : SubTick) (s : State), (s.inpCh ch).oldFilts = [] →
    first = (s.cycleNo (s.now + st) - held + 4 ^ s.get (Reg.INP.FILT.FCLK ch) - 1) / 4 ^ s.get (Reg.INP.FILT.FCLK ch) *
      4 ^ s.get (Reg.INP.FILT.FCLK ch) →
    s.filterAccepts ch 0 held (s.now + st) =
        (if s.cycleNo (s.now + st) = first + s.get (Reg.INP.FILT.N_A ch) * 4 ^ s.get (Reg.INP.FILT.FCLK ch) then
          some (s.get (Reg.INP.FILT.N_A ch) * 4 ^ s.get (Reg.INP.FILT.FCLK ch)) else none) ∧
      (s.cycleNo (s.now + st) ≠ first + s.get (Reg.INP.FILT.N_A ch) * 4 ^ s.get (Reg.INP.FILT.FCLK ch) → ∀ level : Bool,
        ∃ t, exec (.pinEdgeAccept ch (some ⟨level, held⟩) none none st) s = .next t ∧ t = { s with inp := t.inp } ∧
          ∀ k, t.inpCh k = s.inpCh k)) ∧
  (∀ (ch : ChNo) (st : SubTick) (held d : Nat) (s : State), s.filterAccepts ch 0 held (s.now + st) = some d → s.scanning = true → (s.inpCh ch).mode = 1 → (s.inpCh ch).a = false →
    s.get (Reg.INP.CFG.DIRSRC ch) = 0 → s.get (Reg.INP.CFG.EDGE ch) = 0 → s.wheelClass ch = true → (s.inpCh ch).ownsQ = false →
    ∃ t, exec (.pinEdgeAccept ch (some ⟨true, held⟩) none none st) s = .next t ∧
      t.count ch = (if s.count ch + 1 < s.get (Reg.INP.COUNT_MOD.MOD ch) then s.count ch + 1 else 0) ∧
      t.get (Reg.INP.CH_STAT.DIR ch) = 0 ∧ (t.inpCh ch).a = true ∧
      (s.provOn = true → s.recd.pinPart.length < 5 → t.carts = s.carts ∧ t.recd.pinPart.length = s.recd.pinPart.length + 1) ∧
      ((s.inpCh ch).admitted < 16 →
        (t.inpCh ch).edges = (s.inpCh ch).edges ++
          [⟨s.now + st - d, t.count ch, false,
            (s.inpCh ch).prevDir == some true, (s.inpCh ch).noPeriod, (s.inpCh ch).index⟩] ∧
        t.get (Reg.INP.LATCH_POS.POS ch) = t.count ch ∧
        InpProvFrame ch [Reg.INP.COUNT_NOW.COUNT ch, Reg.INP.CH_STAT.DIR ch, Reg.INP.LATCH_POS.POS ch, Reg.INP.DIRCHG_CNT.COUNT ch,
          rawBit (page .inp ch) 12] s t) ∧
      (16 ≤ (s.inpCh ch).admitted → (s.inpCh ch).overflowed = false →
        (t.inpCh ch).edges = (s.inpCh ch).edges ∧ t.get (Reg.INP.CH_STAT.EDGE_OVF ch) = 1 ∧ t.isRaised (page .inp ch) 9 ∧
        (t.inpCh ch).noPeriod = true ∧
        InpProvFrame ch [Reg.INP.COUNT_NOW.COUNT ch, Reg.INP.CH_STAT.DIR ch, Reg.INP.CH_STAT.EDGE_OVF ch,
          Reg.HEAD.PG_ERRCNT.COUNT (page .inp ch), rawBit (page .inp ch) 9] s t))

/-- R90, R107: a pulse of a compare output falls at its end with an edge of the output, and raises CMP; a PWD pulse that
outlasts MAX is discarded with PWD_ERR, and the next delivery carries no period. -/
def Obligations.PulsesEndInTime : Prop :=
  (∀ (ch : ChNo) (out : Bool) (f : Nat) (s : State), (s.inpCh ch).pulseOf (if out then 1 else 0) = some f → f ≤ s.now + 127 →
    (s.ep (epQ (2 * ch + (if out then 1 else 0)))).level = true →
    ∃ t, exec (.comparePulseEnd ch out) s = .next t ∧ (t.inpCh ch).pulseOf (if out then 1 else 0) = none ∧
      t.ep (epQ (2 * ch + (if out then 1 else 0))) =
        { s.ep (epQ (2 * ch + (if out then 1 else 0))) with level := false } ∧
      t.edges = ⟨epQ (2 * ch + (if out then 1 else 0)), f, false⟩ :: s.edges ∧
      t.isRaised (page .inp ch) 13 ∧
      (∀ a, a ≠ epQ (2 * ch + (if out then 1 else 0)) → t.ep a = s.ep a) ∧ (∀ k, k ≠ ch.val → t.inpCh k = s.inpCh k) ∧
      t = { s with regs := t.regs, inp := t.inp, eps := t.eps, edges := t.edges } ∧ FieldsKept [rawBit (page .inp ch) 13] s t) ∧
  (∀ (ch : ChNo) (p : Pulse) (s : State), s.scanning = true → (s.inpCh ch).mode = 3 → (s.inpCh ch).pulse = some p →
    p.lead + p.limit * 128 < st0 (s.tick + 1) →
    ∃ t, exec (.pwdTimeout ch) s = .next t ∧ t.inpCh ch = { s.inpCh ch with pulse := none, noPeriod := true } ∧
      t.get (Reg.INP.CH_STAT.PWD_ERR ch) = 1 ∧ t.isRaised (page .inp ch) 3 ∧
      InpFrame ch [Reg.INP.CH_STAT.PWD_ERR ch, Reg.HEAD.PG_ERRCNT.COUNT (page .inp ch), rawBit (page .inp ch) 3] s t)

/-- R95: words start at boundaries whose number PERIOD, as it is in force, divides, with the settings in force; with a word in
progress or A low there, the start is skipped, SER_SKIP set and SKIP_CNT counted; at no other boundary does anything happen. -/
def Obligations.SerialWordStartsOrIsSkipped : Prop :=
  (∀ (ch : ChNo) (s : State), s.scanning = true → (s.inpCh ch).mode = 4 ∨ (s.inpCh ch).mode = 5 →
    s.tick % s.get (Reg.INP.SER_TIMING.PERIOD ch) = 0 → (s.inpCh ch).word = none →
    ∃ t, exec (.serialWordStart ch true) s = .next t ∧
      t.inpCh ch = { s.inpCh ch with word := some {
        latch := s.now, cyc := s.clk.cyc, limit := none, lastBit := none, div := s.get (Reg.INP.SER_CFG.DIV ch),
        dly := s.get (Reg.INP.SER_CFG.SAMPLE_DLY ch), biss := (s.inpCh ch).mode == 4, bits := s.get (Reg.INP.SER_CFG.BITS ch),
        gray := s.bit (Reg.INP.CFG.SER_GRAY ch), parity := s.bit (Reg.INP.CFG.SER_PARITY ch),
        timeout := s.get (Reg.INP.SER_TIMING.TIMEOUT ch), comp := signed 16 (s.get (Reg.INP.SER_LAT_COMP.COMP ch)) } } ∧
      t.get (Reg.INP.CH_STAT.WORD_BUSY ch) = 1 ∧ InpFrame ch [Reg.INP.CH_STAT.WORD_BUSY ch] s t) ∧
  (∀ (ch : ChNo) (aHigh : Bool) (s : State), s.scanning = true → (s.inpCh ch).mode = 4 ∨ (s.inpCh ch).mode = 5 →
    s.tick % s.get (Reg.INP.SER_TIMING.PERIOD ch) = 0 → (s.inpCh ch).word ≠ none ∨ aHigh = false →
    ∃ t, exec (.serialWordStart ch aHigh) s = .next t ∧ t.inpCh ch = { s.inpCh ch with noPeriod := true } ∧
      t.get (Reg.INP.CH_STAT.SER_SKIP ch) = 1 ∧ t.isRaised (page .inp ch) 11 ∧
      t.get (Reg.INP.SKIP_CNT.COUNT ch) = min (Reg.INP.SKIP_CNT.COUNT ch).top (s.get (Reg.INP.SKIP_CNT.COUNT ch) + 1) ∧
      (∀ k, k ≠ ch.val → t.inpCh k = s.inpCh k) ∧ (s.provOn = false → t.carts = s.carts) ∧
      (s.provOn = true → OneCart 0x22 s.provCls s.now s t) ∧
      t = { s with regs := t.regs, inp := t.inp, carts := t.carts, recd := { s.recd with seq := t.recd.seq } } ∧
      FieldsKept [Reg.INP.CH_STAT.SER_SKIP ch, Reg.INP.SKIP_CNT.COUNT ch, rawBit (page .inp ch) 11] s t) ∧
  (∀ (ch : ChNo) (aHigh : Bool) (s : State), s.tick % s.get (Reg.INP.SER_TIMING.PERIOD ch) ≠ 0 →
    exec (.serialWordStart ch aHigh) s = .next s)

/-- R94, R96: a BiSS word whose CRC fails, a BiSS word with no start bit within TIMEOUT, or an SSI word that has not ended
TIMEOUT after its last bit, is not delivered: its bits are kept, its flag is set and raised, and the next delivery carries no
period. R93, R96, R101: a word that is not complete goes on; a sound SSI word of a wheel-class channel, complete with A high
within TIMEOUT of its last bit, is delivered: its position modulo COUNT_MOD becomes the counter, WORD is raised and the edge
waits for its tracker with the compensated latch instant. -/
def Obligations.SerialWordsEnd : Prop :=
  (∀ (ch : ChNo) (raw : BitVec 41) (aHigh : Bool) (st : SubTick) (w : SerWord) (s : State), (s.inpCh ch).word = some w → w.biss = true →
    w.bissDone (s.cycleNo (s.now + st) - w.cyc) = true → crc6 (bitsOf (raw.toNat / 64) (w.bits + 2)) ≠ 63 - raw.toNat % 64 →
    (s.inpCh ch).mode = s.get (Reg.INP.CFG.MODE ch) →
    ∃ t, exec (.serialWordEnd ch ⟨raw, aHigh⟩ st) s = .next t ∧ t.inpCh ch = { s.inpCh ch with word := none, noPeriod := true } ∧
      t.get (Reg.INP.CH_STAT.SER_CRC ch) = 1 ∧ t.isRaised (page .inp ch) 4 ∧ t.get (Reg.INP.CH_STAT.WORD_BUSY ch) = 0 ∧
      t.get (Reg.INP.SER_RAW_LO.BITS ch) = raw.toNat % 2 ^ 32 ∧ t.get (Reg.INP.SER_RAW_HI.BITS ch) = raw.toNat / 2 ^ 32 ∧
      (s.provOn = true → OneCart 0x22 s.provCls w.latch s t) ∧
      InpProvFrame ch [Reg.INP.CH_STAT.SER_CRC ch, Reg.INP.CH_STAT.WORD_BUSY ch, Reg.INP.SER_RAW_LO.BITS ch,
        Reg.INP.SER_RAW_HI.BITS ch, Reg.HEAD.PG_ERRCNT.COUNT (page .inp ch), rawBit (page .inp ch) 4] s t) ∧
  (∀ (ch : ChNo) (raw : BitVec 41) (w : SerWord) (s : State), (s.inpCh ch).word = some w →
    (w.biss = true ∧ raw = 0 ∧ w.latch + w.timeout * 128 ≤ s.now + 127 ∨
      w.biss = false ∧ ∃ l, s.ssiLast w = some l ∧ l + w.timeout * 128 ≤ s.now + 127) → (s.inpCh ch).mode = s.get (Reg.INP.CFG.MODE ch) →
    ∃ t, exec (.serialTimeout ch raw) s = .next t ∧ t.inpCh ch = { s.inpCh ch with word := none, noPeriod := true } ∧
      t.get (Reg.INP.CH_STAT.SER_TIMEOUT ch) = 1 ∧ t.isRaised (page .inp ch) 7 ∧ t.get (Reg.INP.CH_STAT.WORD_BUSY ch) = 0 ∧
      (s.provOn = true → OneCart 0x22 s.provCls w.latch s t) ∧
      InpProvFrame ch [Reg.INP.CH_STAT.SER_TIMEOUT ch, Reg.INP.CH_STAT.WORD_BUSY ch, Reg.INP.SER_RAW_LO.BITS ch,
        Reg.INP.SER_RAW_HI.BITS ch, Reg.HEAD.PG_ERRCNT.COUNT (page .inp ch), rawBit (page .inp ch) 7] s t) ∧
  (∀ (ch : ChNo) (raw : BitVec 41) (aHigh : Bool) (st : SubTick) (w : SerWord) (s : State), (s.inpCh ch).word = some w →
    s.wordDone w aHigh (s.now + st) = false → exec (.serialWordEnd ch ⟨raw, aHigh⟩ st) s = .next s) ∧
  (∀ (ch : ChNo) (raw : BitVec 41) (st : SubTick) (w : SerWord) (l : Nat) (s : State), (s.inpCh ch).word = some w → w.biss = false →
    s.ssiLast w = some l → l ≤ s.now + st → s.now + st ≤ l + w.timeout * 128 → w.parity = false → w.gray = false → s.wheelClass ch = true → (s.inpCh ch).ownsQ = false →
    0 < s.get (Reg.INP.COUNT_MOD.MOD ch) → (s.inpCh ch).admitted < 16 → (s.inpCh ch).mode = s.get (Reg.INP.CFG.MODE ch) →
    ∃ t, exec (.serialWordEnd ch ⟨raw, true⟩ st) s = .next t ∧
      t.count ch = raw.toNat % 2 ^ w.bits % s.get (Reg.INP.COUNT_MOD.MOD ch) ∧ (t.inpCh ch).word = none ∧
      (t.inpCh ch).lastPos = some (t.count ch : Int) ∧ t.isRaised (page .inp ch) 14 ∧ t.get (Reg.INP.CH_STAT.WORD_BUSY ch) = 0 ∧
      (∃ e, (t.inpCh ch).edges = (s.inpCh ch).edges ++ [e] ∧ e.ts = ((w.latch : Int) + w.comp).toNat ∧ e.cnt = t.count ch) ∧
      (s.provOn = true → OneCart 0x22 s.provCls w.latch s t) ∧
      InpProvFrame ch [Reg.INP.COUNT_NOW.COUNT ch, Reg.INP.CH_STAT.DIR ch, Reg.INP.CH_STAT.WORD_BUSY ch, Reg.INP.LATCH_POS.POS ch,
        Reg.INP.SER_RAW_LO.BITS ch, Reg.INP.SER_RAW_HI.BITS ch, Reg.INP.DIRCHG_CNT.COUNT ch, rawBit (page .inp ch) 12,
        rawBit (page .inp ch) 14] s t)

/-- R102: at a boundary whose number STROKE_REC divides, a stroke-class channel whose latched pair is new since its last record
generates a STROKE cart stamped with the latched instant; at any other, with STROKE_REC 0, without a new pair, and in the wheel
class, no cart is generated. The boundary is that of the tick about to begin. -/
def Obligations.StrokeIsRecorded : Prop :=
  ∀ (ch : ChNo) (s : State), s.clk.running = true → s.nextTick.scanning = true → s.nextTick.shut (page .inp ch) = false →
    ∃ t, exec (.strokeRecord ch) s = .next t ∧ t.tick = s.tick ∧
      (if s.nextTick.wheelClass ch = false ∧ s.nextTick.get (Reg.INP.STROKE_REC.PERIOD ch) ≠ 0 ∧
          (s.tick + 1) % s.nextTick.get (Reg.INP.STROKE_REC.PERIOD ch) = 0 ∧ (s.nextTick.inpCh ch).fresh = true then
        OneCart 0x05 s.nextTick.strokeCls (s.nextTick.inpCh ch).latchTs s.nextTick t ∧
          t.inpCh ch = { s.nextTick.inpCh ch with fresh := false } ∧ (∀ k, k ≠ ch.val → t.inpCh k = s.nextTick.inpCh k) ∧
          t = { s.nextTick with tick := s.tick, pending := s.pending, inp := t.inp, carts := t.carts,
                                recd := { s.nextTick.recd with seq := t.recd.seq } }
       else t = { s.nextTick with tick := s.tick, pending := s.pending })

/-! ### Wheel trackers -/

/-- R116 row 19, R119: a tracker without a position edge for STALL_TO ticks stops: STATE STOPPED, angle and speed no longer
valid, STATE_CHANGE and STOPPED raised, a WHEEL cart; in SYNCED or PHASED with RESUME its position is kept, else not. R116 rows
4 and 5: RESYNC, and AUTO_RESYNC in LOST at the boundary about to begin, take a tracker to SEEKING: ZERO and phase are
forgotten, the angle is no longer valid, and a WHEEL cart is generated. -/
def Obligations.TrackerStopsAndSeeks : Prop :=
  (∀ (w : WheelNo) (s : State), s.scanning = true → s.wState w ≠ 0 → s.shut (page .whl w) = false →
    (s.tracker w).stallFrom + s.get (Reg.WHL.STALL.STALL_TO w) ≤ s.tick →
    ∃ t, exec (.trackerStall w) s = .next t ∧ t.wState w = 0 ∧ t.wValid w = false ∧ t.get (Reg.WHL.STAT.SPEED_VALID w) = 0 ∧
      t.isRaised (page .whl w) 0 ∧ t.isRaised (page .whl w) 2 ∧ (t.tracker w).pred = none ∧
      (t.tracker w).kept =
        (if s.wResume w = true ∧ (s.wState w = 3 ∨ s.wState w = 4) then some (s.wState w) else none) ∧
      (t.tracker w).rev = (s.tracker w).rev ∧ (t.tracker w).corrFg = (s.tracker w).corrFg ∧
      OneCart 0x16 s.markerCls s.now s t ∧
      TrkFrame w [Reg.WHL.STAT.STATE w, Reg.WHL.STAT.SPEED_VALID w, Reg.WHL.STAT.ANGLE_VALID w, Reg.WHL.STAT.HALF w,
        rawBit (page .whl w) 0, rawBit (page .whl w) 2] s t) ∧
  (∀ (w : WheelNo) (s : State), s.scanning = true → s.wState w ≠ 0 → s.willShut (page .whl w) = false →
    ∃ t, exec (.resync w) s = .next t ∧ t.wState w = 1 ∧ t.wValid w = false ∧ t.get (Reg.WHL.ZERO.ZERO w) = 0 ∧
      t.isRaised (page .whl w) 0 ∧ (t.tracker w).zero = none ∧ (t.tracker w).kept = none ∧
      (t.tracker w).pred = none ∧ (t.tracker w).rev = (s.tracker w).rev ∧ OneCart 0x16 s.markerCls s.now s t ∧
      TrkFrame w [Reg.WHL.STAT.STATE w, Reg.WHL.STAT.ANGLE_VALID w, Reg.WHL.STAT.HALF w, Reg.WHL.ZERO.ZERO w,
        rawBit (page .whl w) 0] s t) ∧
  (∀ (w : WheelNo) (s : State), s.clk.running = true → s.scanning = true → s.nextTick.wState w = 5 →
    s.nextTick.bit (Reg.WHL.CFG.AUTO_RESYNC w) = true → s.nextTick.willShut (page .whl w) = false →
    ∃ t, exec (.autoResync w) s = .next t ∧ t.tick = s.tick ∧ t.wState w = 1 ∧ t.wValid w = false ∧
      (t.tracker w).zero = none ∧ (t.tracker w).pred = none ∧
      OneCart 0x16 s.nextTick.markerCls (st0 (s.tick + 1)) s.nextTick t ∧
      TrkFrame w [Reg.WHL.STAT.STATE w, Reg.WHL.STAT.ANGLE_VALID w, Reg.WHL.STAT.HALF w, Reg.WHL.ZERO.ZERO w,
        rawBit (page .whl w) 0] s.nextTick { t with tick := s.tick + 1, pending := s.nextTick.pending })

/-- R133, R136, R392: with the shadow IDLE, LEARN clears it and learns, or waits in the ledger while a profile switch is active;
SWAP makes the shadow READY as it is and CLEAR makes a shadow of zeros READY; in any other state each changes RESULT to BUSY and
nothing else. R134, R136: ABORT of a LEARNING or READY shadow discards it; learning whose revolutions are done ends with the
rounded means as a READY shadow, or, where one lies outside -512 to 511, with RANGE and no shadow. Each raises CORR_DONE. -/
def Obligations.CorrectionTables : Prop :=
  (∀ (w : WheelNo) (s : State), s.scanning = true → s.corrState w = 0 → s.active kSwitch = false →
    ∃ t, exec (.corrLearn w) s = .next t ∧ t.corrState w = 1 ∧ t.get (Reg.WHL.CORR_STAT.REVS_DONE w) = 0 ∧
      t.get (Reg.WHL.CORR_STAT.RESULT w) = 0 ∧ t.active kLearn = true ∧ w.val ∈ t.flt.learning ∧
      t.tracker w = { s.tracker w with corrSh := [], learnSum := [], learnCur := [], learnOpen := false, learnBad := false,
                                       learnPrev := none } ∧
      (∀ k, k ≠ w.val → t.tracker k = s.tracker k) ∧
      t = { s with regs := t.regs, trk := t.trk, flt := { s.flt with learning := t.flt.learning } } ∧
      FieldsKept [Reg.WHL.CORR_STAT.STATE w, Reg.WHL.CORR_STAT.REVS_DONE w, Reg.WHL.CORR_STAT.RESULT w, Reg.FLT.LEDGER.ACTIVE] s t) ∧
  (∀ (w : WheelNo) (s : State), s.scanning = true → s.corrState w = 0 → s.active kSwitch = true →
    ∃ t, exec (.corrLearn w) s = .next t ∧ t.corrState w = 3 ∧ t.isQueued kLearn = true ∧ t.isRaised (page .flt 0) 4 ∧
      t.flt = { s.flt with queue := s.flt.queue ++ [⟨kLearn, w, 0⟩] } ∧ t = { s with regs := t.regs, flt := t.flt } ∧
      FieldsKept [Reg.WHL.CORR_STAT.STATE w, Reg.FLT.LEDGER.QUEUED, rawBit (page .flt 0) 4] s t) ∧
  (∀ (w : WheelNo) (s : State), s.scanning = true → s.corrState w = 0 →
    (∃ t, exec (.corrSwapCmd w) s = .next t ∧ t.corrState w = 2 ∧ OnlyFields [Reg.WHL.CORR_STAT.STATE w] s t) ∧
    (∃ t, exec (.corrClear w) s = .next t ∧ t.corrState w = 2 ∧ t.tracker w = { s.tracker w with corrSh := [] } ∧
      (∀ k, k ≠ w.val → t.tracker k = s.tracker k) ∧ t = { s with regs := t.regs, trk := t.trk } ∧
      FieldsKept [Reg.WHL.CORR_STAT.STATE w] s t)) ∧
  (∀ (i : Instr) (w : WheelNo) (s : State), i = .corrLearn w ∨ i = .corrSwapCmd w ∨ i = .corrClear w → s.scanning = true →
    s.corrState w ≠ 0 →
    ∃ t, exec i s = .next t ∧ t.get (Reg.WHL.CORR_STAT.RESULT w) = 4 ∧ OnlyFields [Reg.WHL.CORR_STAT.RESULT w] s t) ∧
  (∀ (w : WheelNo) (s : State), s.scanning = true → s.corrState w = 1 ∨ s.corrState w = 2 →
    ∃ t, exec (.corrAbort w) s = .next t ∧ t.corrState w = 0 ∧ t.get (Reg.WHL.CORR_STAT.RESULT w) = 3 ∧
      t.isRaised (page .whl w) 7 ∧ t.tracker w = { s.tracker w with corrSh := [] } ∧ w.val ∉ t.flt.learning ∧
      (t.active kLearn = true ↔ t.flt.learning ≠ []) ∧ (∀ k, k ≠ w.val → t.tracker k = s.tracker k) ∧
      t = { s with regs := t.regs, trk := t.trk, flt := { s.flt with learning := t.flt.learning } } ∧
      FieldsKept [Reg.WHL.CORR_STAT.STATE w, Reg.WHL.CORR_STAT.RESULT w, Reg.FLT.LEDGER.ACTIVE, rawBit (page .whl w) 7] s t) ∧
  (∀ (w : WheelNo) (s : State), s.scanning = true → s.corrState w = 1 →
    s.get (Reg.WHL.CORR_CTL.LEARN_REVS w) ≤ s.get (Reg.WHL.CORR_STAT.REVS_DONE w) →
    ∃ t, exec (.learnDone w) s = .next t ∧ t.isRaised (page .whl w) 7 ∧ (t.tracker w).corrFg = (s.tracker w).corrFg ∧
      (if (s.tracker w).learnSum.all (fun e => decide (-512 ≤ roundDiv e.2 (s.get (Reg.WHL.CORR_CTL.LEARN_REVS w)) ∧
          roundDiv e.2 (s.get (Reg.WHL.CORR_CTL.LEARN_REVS w)) ≤ 511)) = true then
        t.corrState w = 2 ∧ t.get (Reg.WHL.CORR_STAT.RESULT w) = 1 ∧ t.flt = s.flt ∧
          (t.tracker w).corrSh = ((s.tracker w).learnSum.map (fun e => (e.1, roundDiv e.2 (s.get (Reg.WHL.CORR_CTL.LEARN_REVS w))))).filter
            (fun e => e.2 != 0)
       else t.corrState w = 0 ∧ t.get (Reg.WHL.CORR_STAT.RESULT w) = 2 ∧ (t.tracker w).corrSh = [] ∧ w.val ∉ t.flt.learning) ∧
      (∀ k, k ≠ w.val → t.tracker k = s.tracker k) ∧
      t = { s with regs := t.regs, trk := t.trk, flt := { s.flt with learning := t.flt.learning } } ∧
      FieldsKept [Reg.WHL.CORR_STAT.STATE w, Reg.WHL.CORR_STAT.RESULT w, Reg.FLT.LEDGER.ACTIVE, rawBit (page .whl w) 7] s t)

/-! ### Stages and commits -/

/-- R162, R290: a served, aligned write of a slot word W0 to W6 by a door of the compartment that owns the handle goes to the
door's slot stage, in the bits that are written and no reserved encoding, and nowhere else. R287: PG_CMD.DISCARD empties the
door's own stage of the page, of SCN the slot and endpoint stages with the overflow, and changes nothing else. -/
def Obligations.StagesHoldAndDiscard : Prop :=
  (∀ (d : DoorNo) (off : BitVec 24) (h k : Nat) (v : Word) (s : State), s.serves d = true → s.doorState d ≠ 2 → 7 ≤ s.devState →
    off.toNat = h * 32 + k * 4 → h < 131072 → k < 7 → s.handleOwner h = s.comp d → s.slotStageMask h k v ≠ 0 →
    (s.door d).stagedSlots.contains h = true ∨ (s.door d).stagedSlots.length < 4096 →
    ∃ t, exec (.stageWrite d .bar2 off ⟨v, 15⟩) s = .next t ∧ OnlyDoor d s t ∧
      t.door d = { s.door d with slotStage := (t.door d).slotStage } ∧
      (t.door d).slotStage.get (fun _ => (0, 0)) (h * 8 + k) =
        (overlaid ((s.door d).slotStage.get (fun _ => (0, 0)) (h * 8 + k)).1 v (s.slotStageMask h k v),
          ((s.door d).slotStage.get (fun _ => (0, 0)) (h * 8 + k)).2 ||| s.slotStageMask h k v) ∧
      ∀ j, j ≠ h * 8 + k → (t.door d).slotStage.get (fun _ => (0, 0)) j = (s.door d).slotStage.get (fun _ => (0, 0)) j) ∧
  (∀ (d : DoorNo) (b : Block) (n : Nat) (a : BitVec 24) (s : State), n < b.pages → pageBase a.toNat = page b n →
    s.accepts d b n 0x08 →
    ∃ t, exec (.stageDiscard d a) s = .next t ∧ OnlyDoor d s t ∧
      (b ≠ .scn → t.door d = { s.door d with stage := (s.door d).stage.filter (fun e => pageBase e.1 != page b n) }) ∧
      (b = .scn → t.door d = { s.door d with slotStage := [], eptStage := [], overflow := false }))

/-- R289: a served write, within the door's rights, of a register with committed fields (none has others besides) goes to the
door's stage, in the fields that take no reserved encoding, and changes no register. -/
def Obligations.CommittedRegisterWriteIsStaged : Prop :=
  ∀ (d : DoorNo) (b : Block) (n off : Nat) (a : BitVec 24) (v : Word) (s : State),
    n < b.pages → off < 0x1000 → off % 4 = 0 → a.toNat = page b n + off → (selOffsets b).contains off = false →
    hasAcc (page b n + off) [.rwc] = true → hasAcc (page b n + off) [.rw, .w1c, .wac, .wo] = false →
    deafShutter (page b n + off) = false → s.accepts d b n off →
    ∃ t, exec (.stageWrite d .bar0 a ⟨v, 15⟩) s = .next t ∧ t = { s with regs := t.regs, doors := t.doors } ∧
      (∀ r, t.reg r = s.reg r) ∧ (∀ e, e ≠ d.val → t.door e = s.door e) ∧
      t.door d = { s.door d with stage := (t.door d).stage } ∧
      (s.stageMask (page b n + off) v ≠ 0 → (t.door d).stage.get (fun _ => (0, 0)) (page b n + off) =
        (overlaid ((s.door d).stage.get (fun _ => (0, 0)) (page b n + off)).1 v (s.stageMask (page b n + off) v),
          ((s.door d).stage.get (fun _ => (0, 0)) (page b n + off)).2 ||| s.stageMask (page b n + off) v)) ∧
      (s.stageMask (page b n + off) v = 0 → (t.door d).stage = (s.door d).stage) ∧
      ∀ r, r ≠ page b n + off → (t.door d).stage.get (fun _ => (0, 0)) r = (s.door d).stage.get (fun _ => (0, 0)) r

/-- R163 to R165: a commit of a register page issued in time, with fewer than 16 pending and a content that stands, is PENDING
with its content frozen, and the stage is empty; one whose tick is earlier than n + 2 is LATE and the stage stays. -/
def Obligations.CommitIssueFreezesStage : Prop :=
  ∀ (d : DoorNo) (b : Block) (n : Nat) (a : BitVec 24) (v : Word) (s : State), b ≠ .scn → b.hasCommit = true → n < b.pages →
    pageBase a.toNat = page b n → s.accepts d b n 0x20 →
    (∀ eff, (if (s.door d).upper.toNat * 2 ^ 32 + v.toNat = immediate then eff = s.tick + 2
        else eff = (s.door d).upper.toNat * 2 ^ 32 + v.toNat ∧ s.tick + 2 ≤ eff) → s.pendingOf d < 16 →
      s.contentBad (some (s.comp d)) (page b n) (s.stageEntries d (page b n)) = false →
      ∃ t, exec (.commitIssue d a v) s = .next t ∧
        (∃ l, t.commits = l ++ [⟨d, page b n, eff, true, s.stageEntries d (page b n), true, [], []⟩] ∧ l.length = s.commits.length) ∧
        t.pendingOf d = s.pendingOf d + 1 ∧
        (t.door d).outcome.get (fun _ => ⟨0, 0⟩) (page b n) = ⟨1, eff % 2 ^ 64⟩ ∧
        (t.door d).stage = (s.door d).stage.filter (fun e => pageBase e.1 != page b n) ∧
        (∀ e, e ≠ d.val → t.door e = s.door e) ∧ t = { s with doors := t.doors, commits := t.commits }) ∧
    ((s.door d).upper.toNat * 2 ^ 32 + v.toNat < s.tick + 2 → (s.door d).upper.toNat * 2 ^ 32 + v.toNat ≠ immediate →
      ∃ t, exec (.commitIssue d a v) s = .next t ∧ t.pendingOf d = s.pendingOf d ∧
        (t.door d).outcome.get (fun _ => ⟨0, 0⟩) (page b n) =
          ⟨3, ((s.door d).upper.toNat * 2 ^ 32 + v.toNat) % 2 ^ 64⟩ ∧
        (t.door d).stage = (s.door d).stage ∧ (∀ e, e ≠ d.val → t.door e = s.door e) ∧
        t = { s with doors := t.doors, commits := t.commits })

/-- R166: the first commit due at the tick about to begin takes effect whole: on a page of the recorder, an event or link class
page without effects of its own, where no other is due there, every dword it writes takes the bits written, nothing else of the
configuration changes, the outcome is EFFECTIVE and a COMMIT cart is generated, in the class that holds after it (R417). One
whose content no longer stands is REFUSED with INVALID and changes no configuration. -/
def Obligations.CommitTakesEffectWhole : Prop :=
  ∀ (c : Commit) (s : State), s.clk.running = true → s.nextTick.nextCommit = some c → c.page = page .recorder 0 → c.void = [] →
    c.placed = true → c.reserved = [] → c.latest = true → (∀ e ∈ c.entries, e.bar2 = false ∧ pageBase e.off = page .recorder 0 ∧ e.off % 0x1000 ≠ 0x1C) →
    (c.entries.map (fun e => e.off)).Nodup →
    (∀ x ∈ s.nextTick.commits, x.page = page .recorder 0 → x.eff ≤ s.tick + 1 → x = c) →
    (s.nextTick.contentBad (some (s.nextTick.comp c.door)) c.page c.entries = false →
      ∃ t, exec .commitApply s = .next t ∧ t.tick = s.tick ∧
        (∀ e ∈ c.entries, t.reg e.off = overlaid (s.nextTick.reg e.off) e.val e.mask) ∧
        (∀ r, r ∉ c.entries.map (fun e => e.off) → t.reg r = s.nextTick.reg r) ∧
        t.commits = s.nextTick.commits.erase c ∧
        (t.door c.door).outcome.get (fun _ => ⟨0, 0⟩) c.page = ⟨2, c.eff % 2 ^ 64⟩ ∧
        (∃ x ∈ t.carts, x.typ = 0x07 ∧ x.tick = (s.tick + 1) % 2 ^ 48 ∧ x.cls = t.commitCls) ∧
        t = { s.nextTick with tick := s.tick, pending := s.pending, regs := t.regs, doors := t.doors, commits := t.commits,
                              carts := t.carts, recd := t.recd }) ∧
    (s.nextTick.contentBad (some (s.nextTick.comp c.door)) c.page c.entries = true →
      ∃ t, exec .commitApply s = .next t ∧ t.tick = s.tick ∧ t.regs = s.nextTick.regs ∧
        t.commits = s.nextTick.commits.erase c ∧
        (t.door c.door).outcome.get (fun _ => ⟨0, 0⟩) c.page = ⟨6, c.eff % 2 ^ 64⟩ ∧
        t = { s.nextTick with tick := s.tick, pending := s.pending, doors := t.doors, commits := t.commits,
                              carts := t.carts, recd := t.recd })

/-- R166, R167: a commit of one word of a live slot, which keeps TYPE, PROT and WHEEL, replaces the word; W0 takes a generation
one higher, any other word leaves it; the pass in progress and every other slot stay. -/
def Obligations.SlotEditReplacesItsWord : Prop :=
  ∀ (c : Commit) (h k : Nat) (v m : Word) (s : State), s.clk.running = true → s.nextTick.nextCommit = some c →
    c.page = page .scn 0 → c.void = [] → c.placed = true → c.reserved = [] → h < 131072 → k < 7 →
    c.entries = [⟨true, h * 32 + k * 4, v, m⟩] → (s.nextTick.slot h).w.length = 7 → (s.nextTick.slot h).typ ≠ 0 →
    ((s.nextTick.slot h).setWord k (overlaid ((s.nextTick.slot h).word k) v m)).typ = (s.nextTick.slot h).typ →
    ((s.nextTick.slot h).setWord k (overlaid ((s.nextTick.slot h).word k) v m)).prot = (s.nextTick.slot h).prot →
    ((s.nextTick.slot h).setWord k (overlaid ((s.nextTick.slot h).word k) v m)).wheel = (s.nextTick.slot h).wheel →
    s.nextTick.contentBad (some (s.nextTick.comp c.door)) c.page c.entries = false →
    s.nextTick.queueFull (s.nextTick.commits.takeWhile (fun x => x != c)) c.entries = false →
    (∀ x ∈ s.nextTick.commits, x.page = page .recorder 0 → s.tick + 1 < x.eff) →
    ∃ t, exec .commitApply s = .next t ∧ t.tick = s.tick ∧
      (t.slot h).word k = (if k = 0 then
          Word.withBits (overlaid ((s.nextTick.slot h).word 0) v m) 31 25
            ((Word.bits (overlaid ((s.nextTick.slot h).word 0) v m) 31 25 + 1) % 128)
        else overlaid ((s.nextTick.slot h).word k) v m) ∧
      (∀ j, j < 7 → j ≠ k → (t.slot h).word j = (s.nextTick.slot h).word j) ∧ (t.slot h).pass = (s.nextTick.slot h).pass ∧
      (∀ j, j ≠ h → t.slot j = s.nextTick.slot j) ∧ t.regs = s.nextTick.regs ∧ t.eps = s.nextTick.eps

/-! ### Doors and register accesses -/

/-- R281, R282: the link of a DOWN door with no fault held comes up: the door is UP, what R282 lists is empty, and, but on its
first entry after a wake, its IRQD page and MSI-X table are at their reset values. With a fault held it stays DOWN, and its
registers as they are, until the boundary that shutters it. -/
def Obligations.DoorComesUpFresh : Prop :=
  (∀ (d : DoorNo) (cfg : LinkUp) (s : State), s.doorState d = 0 → s.clockOn = true → (s.door d).heldFault = true →
    ∃ t, exec (.doorLinkUp d cfg) s = .next t ∧ OnlyDoor d s t ∧
      t.door d = { s.door d with msixEn := cfg.msixEn, fmask := cfg.fmask, pmeEn := cfg.pmeEn, pmeStat := false, upCfg := some cfg }) ∧
  (∀ (d : DoorNo) (cfg : LinkUp) (s : State), s.doorState d = 0 → s.clockOn = true → (s.door d).heldFault = false →
    ∃ t, exec (.doorLinkUp d cfg) s = .next t ∧ t.doorState d = 1 ∧
      t.get Reg.GLB.DOOR_STATE.STATE / 4 ^ d.val % 4 = 1 ∧ t.isRaised (page .glb 0) 1 ∧
      t.get (Reg.DOR.LINK_STAT.WIDTH d) = cfg.width ∧ t.get (Reg.DOR.LINK_STAT.SPEED d) = cfg.speed ∧
      t.get (Reg.DOR.VIOL_CNT.COUNT d) = 0 ∧ t.get (Reg.DOR.DOOR_STAT.HB_ARMED d) = 0 ∧
      t.door d = { s.door d with stage := [], slotStage := [], eptStage := [], overflow := false, upper := 0, outcome := [],
                                 snap := [], sel := [], hbAt := none, msixEn := cfg.msixEn, fmask := cfg.fmask, pmeEn := cfg.pmeEn,
                                 pmeStat := false, restored := false, msix := (t.door d).msix, ringJunk := (t.door d).ringJunk } ∧
      ((s.door d).restored = false → (t.door d).msix = [] ∧ (t.door d).ringJunk = false ∧
        ∀ a, page .irqd d ≤ a → a < page .irqd d + 0x1000 → t.reg a = regReset a) ∧
      ((s.door d).restored = true → (t.door d).msix = (s.door d).msix ∧ (t.door d).ringJunk = (s.door d).ringJunk ∧
        ∀ a, page .irqd d ≤ a → a < page .irqd d + 0x1000 → t.reg a = s.reg a) ∧
      t = { s with regs := t.regs, doors := t.doors } ∧ (∀ e, e ≠ d.val → t.door e = s.door e) ∧
      FieldsKeptBut (page .irqd d) [Reg.DOR.LINK_STAT.WIDTH d, Reg.DOR.LINK_STAT.SPEED d, Reg.DOR.VIOL_CNT.COUNT d,
        Reg.DOR.DOOR_STAT.HB_ARMED d, Reg.DOR.DOOR_STAT.STATE d, Reg.GLB.DOOR_STATE.STATE, rawBit (page .glb 0) 1] s t)

/-- R281, R319: PERST#, FLR, hot reset and link loss take a door that is not DOWN to DOWN, where it is counted, its heartbeat is
disarmed, its messages not yet sent are dropped, its outstanding marks are cleared and the sources it had claimed exit; a FAULT
that has not taken effect is held, and a door that leaves SHUTTERED raises RELEASED (Table 11-12). -/
def Obligations.DoorGoesDown : Prop :=
  ∀ (i : Instr) (d : DoorNo) (s : State), i = .doorPerst d ∨ i = .doorFlr d ∨ i = .doorHotReset d ∨ i = .doorLinkLoss d →
    s.doorState d ≠ 0 →
    ∃ t, exec i s = .next t ∧ t.doorState d = 0 ∧ t.get Reg.GLB.DOOR_STATE.STATE / 4 ^ d.val % 4 = 0 ∧ t.isRaised (page .glb 0) 1 ∧
      t.get (Reg.DOR.DOWN_CNT.COUNT d) = min (2 ^ 32 - 1) (s.get (Reg.DOR.DOWN_CNT.COUNT d) + 1) ∧ (s.doorState d = 2 → t.isRaised (page .dor d) 2) ∧
      t.get (Reg.DOR.LINK_STAT.WIDTH d) = 0 ∧ t.get (Reg.DOR.LINK_STAT.SPEED d) = 0 ∧ t.get (Reg.DOR.DOOR_STAT.HB_ARMED d) = 0 ∧
      t.door d = { s.door d with heldFault := (s.door d).heldFault || (s.door d).causes.contains 5, causes := [], byFm := false,
                                 relAt := none, hbAt := none, sleeping := false, wake := false, msixEn := false, sendq := [] } ∧
      (∀ k, (t.src k).state = (s.src k).state ∧ (t.src k).cfg = (s.src k).cfg ∧ hasBit (t.src k).out d = false ∧
        ((s.src k).state = 3 → (s.src k).claimer = d → (t.src k).exitAt = some ((s.src k).exitAt.getD (s.tick + 1))) ∧
        ((s.src k).state ≠ 3 → (t.src k).exitAt = (s.src k).exitAt)) ∧
      t = { s with regs := t.regs, doors := t.doors, irq := { s.irq with srcs := t.irq.srcs } } ∧
      (∀ e, e ≠ d.val → t.door e = s.door e) ∧
      FieldsKept [Reg.DOR.LINK_STAT.WIDTH d, Reg.DOR.LINK_STAT.SPEED d, Reg.DOR.DOOR_STAT.HB_ARMED d, Reg.DOR.DOWN_CNT.COUNT d,
        Reg.DOR.DOOR_STAT.STATE d, Reg.GLB.DOOR_STATE.STATE, rawBit (page .glb 0) 1, rawBit (page .dor d) 2] s t

/-- R294, R296: a write of CTRL.SHUT by a door with the right, a completion time-out and a heartbeat that stayed away for
HB_PERIOD each give an UP door a cause to be shuttered; CTRL.RELEASE of a SHUTTERED door that the fault manager did not shutter
is due at the next boundary. Nothing else changes before that boundary. R294 to R296: at the boundary about to begin an UP door
with a cause that is no FAULT enters SHUTTERED, with CAUSE, SHUT_TICK and DOOR_SHUT, its stages empty and its messages not sent;
a SHUTTERED door whose release is due and that has no new cause enters UP with the state of R282 and DOOR_RELEASE. -/
def Obligations.DoorShutters : Prop :=
  (∀ (d p : DoorNo) (s : State), s.accepts d .dor p 0x4C → s.doorState p = 1 →
    ∃ t, exec (.doorShut d p) s = .next t ∧ OnlyDoor p s t ∧
      t.door p = { s.door p with causes := insertNat 4 (s.door p).causes, relAt := none }) ∧
  (∀ (d : DoorNo) (s : State), s.doorState d = 1 →
    ∃ t, exec (.cplTimeout d) s = .next t ∧ OnlyDoor d s t ∧ t.door d = { s.door d with causes := insertNat 3 (s.door d).causes }) ∧
  (∀ (d : DoorNo) (w : Nat) (s : State), s.doorState d = 1 → s.hbPeriod d ≠ 0 → (s.door d).hbAt = some w → w + s.hbPeriod d ≤ s.tick →
    ∃ t, exec (.heartbeatTimeout d) s = .next t ∧ OnlyDoor d s t ∧
      t.door d = { s.door d with causes := insertNat 2 (s.door d).causes }) ∧
  (∀ (d p : DoorNo) (s : State), s.accepts d .dor p 0x4C → s.doorState p = 2 → (s.door p).byFm = false →
    ∃ t, exec (.doorRelease d p) s = .next t ∧ OnlyDoor p s t ∧ t.door p = { s.door p with relAt := some (s.tick + 1) }) ∧
  (∀ (d : DoorNo) (c : Nat) (l : List Nat) (s : State), s.doorState d = 1 → (s.door d).causes = c :: l → 5 ∉ (s.door d).causes →
    c < 8 →
    ∃ t, exec (.doorShutterEffect d) s = .next t ∧ t.doorState d = 2 ∧ t.get Reg.GLB.DOOR_STATE.STATE / 4 ^ d.val % 4 = 2 ∧
      t.get (Reg.DOR.DOOR_STAT.CAUSE d) = c ∧
      t.get64 (Reg.DOR.SHUT_TICK_LO.TICK d) (Reg.DOR.SHUT_TICK_HI.TICK d) = (s.tick + 1) % 2 ^ 64 ∧
      t.isRaised (page .glb 0) 1 ∧ t.isRaised (page .dor d) 1 ∧
      t.door d = { s.door d with stage := [], slotStage := [], eptStage := [], overflow := false, causes := [], byFm := false,
                                 relAt := none, sendq := [] } ∧
      t = { s with regs := t.regs, doors := t.doors, irq := { s.irq with srcs := t.irq.srcs } } ∧
      (∀ e, e ≠ d.val → t.door e = s.door e) ∧
      FieldsKept [Reg.DOR.DOOR_STAT.STATE d, Reg.DOR.DOOR_STAT.CAUSE d, Reg.DOR.SHUT_TICK_LO.TICK d, Reg.DOR.SHUT_TICK_HI.TICK d,
        Reg.GLB.DOOR_STATE.STATE, rawBit (page .glb 0) 1, rawBit (page .dor d) 1] s t) ∧
  (∀ (d : DoorNo) (r : Nat) (s : State), s.doorState d = 2 → (s.door d).relAt = some r → (s.door d).causes = [] →
    ∃ t, exec (.doorShutterEffect d) s = .next t ∧ t.doorState d = 1 ∧ t.get Reg.GLB.DOOR_STATE.STATE / 4 ^ d.val % 4 = 1 ∧
      t.isRaised (page .glb 0) 1 ∧ t.isRaised (page .dor d) 2 ∧ t.get (Reg.DOR.VIOL_CNT.COUNT d) = 0 ∧
      t.door d = { s.door d with relAt := none, stage := [], slotStage := [], eptStage := [], overflow := false, upper := 0,
                                 outcome := [], snap := [], sel := [], hbAt := none } ∧
      t = { s with regs := t.regs, doors := t.doors } ∧ (∀ e, e ≠ d.val → t.door e = s.door e) ∧
      FieldsKept [Reg.DOR.DOOR_STAT.STATE d, Reg.DOR.DOOR_STAT.HB_ARMED d, Reg.DOR.VIOL_CNT.COUNT d, Reg.GLB.DOOR_STATE.STATE,
        rawBit (page .glb 0) 1, rawBit (page .dor d) 2] s t)

/-- R294, R320: a heartbeat of a door on its own page arms its timer at the current tick, and HB_WARN is raised at half of
HB_PERIOD; a door that enters D3hot sleeps and every HELD source that it is a target of is DUE to it at once; it wakes in D0. -/
def Obligations.HeartbeatAndSleep : Prop :=
  (∀ (d : DoorNo) (s : State), s.accepts d .dor d 0x50 →
    ∃ t, exec (.heartbeat d d) s = .next t ∧ t.door d = { s.door d with hbAt := some s.tick } ∧
      t.get (Reg.DOR.DOOR_STAT.HB_ARMED d) = 1 ∧ t = { s with regs := t.regs, doors := t.doors } ∧
      (∀ e, e ≠ d.val → t.door e = s.door e) ∧ FieldsKept [Reg.DOR.DOOR_STAT.HB_ARMED d] s t) ∧
  (∀ (d : DoorNo) (w : Nat) (s : State), s.doorState d = 1 → s.hbPeriod d ≠ 0 → (s.door d).hbAt = some w →
    s.tick = w + s.hbPeriod d / 2 →
    ∃ t, exec (.hbWarn d) s = .next t ∧ t.isRaised (page .dor d) 3 ∧ OnlyFields [rawBit (page .dor d) 3] s t) ∧
  (∀ (d : DoorNo) (s : State), s.doorState d ≠ 0 →
    ∃ t, exec (.doorD3hot d) s = .next t ∧ (t.door d).sleeping = true ∧
      (∀ e ∈ s.irq.srcs, (s.src e.1).state = 1 → hasBit (s.src e.1).targets d = true → hasBit (t.src e.1).due d = true) ∧
      (∀ k, (s.src k).state ≠ 1 ∨ hasBit (s.src k).targets d = false → t.src k = s.src k) ∧
      t.door d = { s.door d with sleeping := true, pmeStat := (t.door d).pmeStat, wake := (t.door d).wake } ∧
      (t.dueTo d ≠ [] → (t.door d).pmeStat = true ∧ (t.door d).wake = (s.door d).pmeEn) ∧
      t = { s with doors := t.doors, irq := { s.irq with srcs := t.irq.srcs } } ∧ (∀ e, e ≠ d.val → t.door e = s.door e)) ∧
  (∀ (d : DoorNo) (s : State),
    ∃ t, exec (.doorD0Return d) s = .next t ∧ OnlyDoor d s t ∧ t.door d = { s.door d with sleeping := false, wake := false })

/-- R13, R15: a served, aligned 32-bit write, within the door's rights, of PG_IRQ_RAW, PG_IRQ_EN (in which only the page's
sources have bits) or PG_ERRCNT of any page, or of a register without committed fields on a page without effects of its own,
gives each RW field the value written unless it is a reserved encoding, clears the W1C bits written 1 and a WAC field written
with ones, leaves RO, RH and WO fields, and changes no other register. -/
def Obligations.RegisterWriteObeysAccessCodes : Prop :=
  ∀ (d : DoorNo) (b : Block) (n off : Nat) (u v : Word) (s : State), v = (if off = 0x14 then u &&& BitVec.ofNat 32 (2 ^ b.nsrc - 1) else u) →
    off = 0x10 ∨ off = 0x14 ∨ off = 0x2C ∨
      (0x40 ≤ off ∧ b ∈ [Block.glb, .flt, .inp, .scn, .lnk, .drv, .adc, .recorder, .mem, .stg, .tmr, .evt]) →
    n < b.pages → off < 0x1000 →
    off % 4 = 0 → (selOffsets b).contains off = false → s.accepts d b n off → writable (page b n + off) = true →
    hasAcc (page b n + off) [.rwc] = false →
    ∃ t, exec (.registerWrite d (BitVec.ofNat 24 (page b n + off)) (u.setWidth 64) .w32) s = .next t ∧
      (∀ f ∈ fieldsAt (page b n + off), Word.bits (t.reg (page b n + off)) f.hi f.lo =
        match f.acc with
        | .rw => if s.legal (page b n + off) f (Word.bits v f.hi f.lo) = true then Word.bits v f.hi f.lo
            else Word.bits (s.reg (page b n + off)) f.hi f.lo
        | .w1c => Word.bits (s.reg (page b n + off)) f.hi f.lo -
            (Word.bits (s.reg (page b n + off)) f.hi f.lo &&& Word.bits v f.hi f.lo)
        | .wac => if Word.bits v f.hi f.lo + 1 = 2 ^ (f.hi + 1 - f.lo) then 0 else Word.bits (s.reg (page b n + off)) f.hi f.lo
        | _ => Word.bits (s.reg (page b n + off)) f.hi f.lo) ∧
      (∀ a, a ≠ page b n + off → t.reg a = s.reg a) ∧ t = { s with regs := t.regs }

/-- R283, R293: a write without the right to it is dropped and counted on the page of the door that made it, where it is shown
and raised, and gives that door the cause to be shuttered when the count reaches VIOL_LIMIT of its compartment; a malformed
write, of a slot word one that does not enable its four bytes too, is dropped and counted there. Nothing else changes. -/
def Obligations.DroppedWritesTouchOnlyTheWriter : Prop :=
  (∀ (d : DoorNo) (b : Block) (n off : Nat) (v : Word) (s : State), n < b.pages → off < 0x1000 → off % 4 = 0 →
    s.serves d = true → s.doorState d = 1 → s.pageOpen b off = true → writable (page b n + off) = true → s.hasRight d b n off = false →
    ∃ t, exec (.registerWrite d (BitVec.ofNat 24 (page b n + off)) (v.setWidth 64) .w32) s = .next t ∧
      t.get (Reg.DOR.VIOL_CNT.COUNT d) = min 255 (s.get (Reg.DOR.VIOL_CNT.COUNT d) + 1) ∧
      t.get (Reg.DOR.VIOL_ADDR.SPACE d) = 0 ∧ t.get (Reg.DOR.VIOL_ADDR.OFFSET d) = page b n + off ∧ t.isRaised (page .dor d) 0 ∧
      t = { s with regs := t.regs, doors := t.doors } ∧ (∀ e, e ≠ d.val → t.door e = s.door e) ∧
      t.door d = (if s.get (Reg.GLB.COMP_CFG.VIOL_LIMIT (s.comp d)) ≠ 0 ∧
          s.get (Reg.GLB.COMP_CFG.VIOL_LIMIT (s.comp d)) ≤ min 255 (s.get (Reg.DOR.VIOL_CNT.COUNT d) + 1) then
          { s.door d with causes := insertNat 1 (s.door d).causes } else s.door d) ∧
      FieldsKept [Reg.DOR.VIOL_CNT.COUNT d, Reg.DOR.VIOL_ADDR.SPACE d, Reg.DOR.VIOL_ADDR.OFFSET d,
        Reg.HEAD.PG_ERRCNT.COUNT (page .dor d), rawBit (page .dor d) 0] s t) ∧
  (∀ (d : DoorNo) (off : BitVec 24) (v : Quad) (form : WriteForm) (s : State), s.serves d = true → s.doorState d = 1 →
    form = .other ∨ (form = .w32 ∧ off.toNat % 4 ≠ 0) ∨ (form = .w64 ∧ off.toNat % 8 ≠ 0) →
    ∃ t, exec (.registerWrite d off v form) s = .next t ∧
      t.get (Reg.DOR.FORM_CNT.COUNT d) = min (2 ^ 32 - 1) (s.get (Reg.DOR.FORM_CNT.COUNT d) + 1) ∧
      OnlyFields [Reg.DOR.FORM_CNT.COUNT d, Reg.HEAD.PG_ERRCNT.COUNT (page .dor d)] s t) ∧
  (∀ (d : DoorNo) (off : BitVec 24) (v : Word) (be : Fin 16) (s : State), s.serves d = true → s.doorState d = 1 → 7 ≤ s.devState →
    off.toNat < 0x400000 → off.toNat % 4 ≠ 0 ∨ be ≠ 15 →
    ∃ t, exec (.stageWrite d .bar2 off ⟨v, be⟩) s = .next t ∧
      t.get (Reg.DOR.FORM_CNT.COUNT d) = min (2 ^ 32 - 1) (s.get (Reg.DOR.FORM_CNT.COUNT d) + 1) ∧
      OnlyFields [Reg.DOR.FORM_CNT.COUNT d, Reg.HEAD.PG_ERRCNT.COUNT (page .dor d)] s t)

/-! ### Interrupts and DMA -/

/-- R305, R306, R310, R316: the claim ring is enabled with its size and starts empty; SRC_CFG of the selected page source takes
the value written and a source whose EN is cleared is withdrawn; GRP_CFG and GRP_TIME of the selected group wait for the next
boundary. -/
def Obligations.InterruptSettingsWritten : Prop :=
  (∀ (d : DoorNo) (size : Fin 16) (s : State), s.accepts d .irqd d 0x48 → s.get (Reg.IRQD.RING_CFG.EN d) = 0 → size.val ≤ 8 →
    ∃ t, exec (.ringEnable d size) s = .next t ∧ t.get (Reg.IRQD.RING_CFG.EN d) = 1 ∧ t.get (Reg.IRQD.RING_CFG.SIZE d) = size ∧
      t.get (Reg.IRQD.RING_PROD.PROD d) = 0 ∧ t.get (Reg.IRQD.RING_CONS.CONS d) = 0 ∧
      t.door d = { s.door d with ringJunk := false } ∧ (∀ e, e ≠ d.val → t.door e = s.door e) ∧
      t = { s with regs := t.regs, doors := t.doors } ∧
      FieldsKept [Reg.IRQD.RING_CFG.EN d, Reg.IRQD.RING_CFG.SIZE d, Reg.IRQD.RING_PROD.PROD d, Reg.IRQD.RING_CONS.CONS d] s t) ∧
  (∀ (d : DoorNo) (v : Word) (k : Nat) (s : State), s.accepts d .irq 0 0x44 → s.selOf d 0xF0040 = k → sourceExists k = true →
    slotSource k = false → Word.bits v 9 0 < 0x3FC →
    ∃ t, exec (.srcCfgWrite d v) s = .next t ∧ (t.src k).cfg = Word.withBits v 19 16 0 ∧
      (Word.bits v 31 31 = 1 → t.src k = { s.src k with
        cfg := Word.withBits v 19 16 0, due := (s.src k).due &&& Word.bits v 29 26, out := (s.src k).out &&& Word.bits v 29 26,
        fresh := (s.src k).fresh || !(s.src k).en }) ∧
      (Word.bits v 31 31 = 0 → (s.src k).en = true → (s.src k).state = 1 ∨ (s.src k).state = 2 →
        (t.src k).state = 0 ∧ (t.src k).due = 0 ∧ (t.src k).repend = false) ∧
      (∀ j, j ≠ k → t.src j = s.src j) ∧ t = { s with irq := { s.irq with srcs := t.irq.srcs } }) ∧
  (∀ (d : DoorNo) (v : Word) (g : Nat) (s : State), s.accepts d .irq 0 0x58 → s.selOf d 0xF0054 = g → Word.bits v 7 0 ≠ 0 →
    ∃ t, exec (.grpCfgWrite d false v) s = .next t ∧ t.grp g = { s.grp g with newCfg := some (Word.withBits v 31 9 0) } ∧
      (∀ j, j ≠ g → t.grp j = s.grp j) ∧ t = { s with irq := { s.irq with grps := t.irq.grps } }) ∧
  (∀ (d : DoorNo) (v : Word) (g : Nat) (s : State), s.accepts d .irq 0 0x5C → s.selOf d 0xF0054 = g → Word.bits v 31 16 ≠ 0 →
    ∃ t, exec (.grpCfgWrite d true v) s = .next t ∧ t.grp g = { s.grp g with newTime := some v } ∧
      (∀ j, j ≠ g → t.grp j = s.grp j) ∧ t = { s with irq := { s.irq with grps := t.irq.grps } })

/-- R307 row 3, R308, R309, R311, R312: a HOLDOFF group at or after its R_g, and a COALESCE group at its count, release every
HELD source of theirs, which is SENT and DUE to all its targets; a DUE source that nothing masks for a door that takes messages
is delivered: its message, with the address and data of its MSI-X entry, joins the door's send queue. -/
def Obligations.ReleaseAndDelivery : Prop :=
  (∀ (g : Fin 64) (s : State), s.clk.running = true → (s.grp g).coalesce = false → s.heldOf g ≠ [] → (s.grp g).release ≤ s.tick →
    ∃ t, exec (.irqGroupRelease g) s = .next t ∧ t.grp g = { s.grp g with release := s.tick + (s.grp g).holdoff } ∧
      (∀ j, j ≠ g.val → t.grp j = s.grp j) ∧ (∀ k, k ∉ s.heldOf g → t.src k = s.src k) ∧
      (∀ k ∈ s.heldOf g, (t.src k).state = 2 ∧ (t.src k).cfg = (s.src k).cfg ∧
        ∀ e, hasBit (s.src k).targets e = true → hasBit (t.src k).due e = true) ∧
      t = { s with doors := t.doors, irq := { s.irq with srcs := t.irq.srcs, grps := t.irq.grps } }) ∧
  (∀ (g : Fin 64) (s : State), s.clk.running = true → (s.grp g).coalesce = true → (s.grp g).thr ≤ (s.grp g).events →
    ∃ t, exec (.irqCoalesceRelease g) s = .next t ∧ t.grp g = { s.grp g with events := 0, first := none } ∧
      (∀ j, j ≠ g.val → t.grp j = s.grp j) ∧ (∀ k, k ∉ s.heldOf g → t.src k = s.src k) ∧
      (∀ k ∈ s.heldOf g, (t.src k).state = 2 ∧ (t.src k).cfg = (s.src k).cfg ∧
        ∀ e, hasBit (s.src k).targets e = true → hasBit (t.src k).due e = true) ∧
      t = { s with doors := t.doors, irq := { s.irq with srcs := t.irq.srcs, grps := t.irq.grps } }) ∧
  (∀ (k : SrcNo) (d : DoorNo) (s : State), s.clk.running = true → hasBit (s.src k).due d = true → hasBit (s.src k).out d = false →
    (s.src k).state = 1 ∨ (s.src k).state = 2 → s.irqOpen d = true → s.irqMasked k d = false →
    ∃ t, exec (.irqDeliver k d) s = .next t ∧ hasBit (t.src k).due d = false ∧ hasBit (t.src k).out d = true ∧
      (t.src k).state = (s.src k).state ∧ (∀ j, j ≠ k.val → t.src j = s.src j) ∧
      t.door d = { s.door d with sendq := insertBy HostWrite.rank (HostWrite.mk
        ( ((s.door d).msixWord (4 * (s.src k).vector + 1)).toNat * 2 ^ 32 + ((s.door d).msixWord (4 * (s.src k).vector)).toNat)
        (wordBytes ((s.door d).msixWord (4 * (s.src k).vector + 2))) (s.src k).prio ((s.src k).dueAt.getD d 0) k) (s.door d).sendq } ∧
      (∀ e, e ≠ d.val → t.door e = s.door e) ∧
      t = { s with doors := t.doors, irq := { s.irq with srcs := t.irq.srcs } })

/-- R314 to R317: a claim of a vector whose outstanding source is SENT and not masked, with the ring enabled and not full, posts
one entry of 16 bytes at PROD, advances PROD, and the source is CLAIMED by the door; an EOI by the claiming door applies at the
next boundary, any other is rejected with EOI_ERR and counted; at that boundary the source is HELD again where an event or its
line asks for it, and IDLE otherwise. -/
def Obligations.ClaimAndExit : Prop :=
  (∀ (d : DoorNo) (v : BitVec 10) (k : Nat) (s : State), s.accepts d .irqd d 0x54 → v.toNat < 0x3FC →
    s.get (Reg.IRQD.RING_CFG.EN d) = 1 → s.ringFull d = false → s.claimPick d v.toNat = some k → s.claimResult k d v.toNat = v.toNat →
    (s.door d).ringJunk = false → k < 2 ^ 14 →
    ∃ t, exec (.irqClaim d v) s = .next t ∧ (t.src k).state = 3 ∧ (t.src k).claimer = d ∧ (t.src k).due = 0 ∧
      hasBit (t.src k).out d = false ∧ (∀ j, j ≠ k → t.src j = s.src j) ∧
      t.get (Reg.IRQD.RING_PROD.PROD d) = (s.get (Reg.IRQD.RING_PROD.PROD d) + 1) % 65536 ∧
      t.get (Reg.IRQD.LAST_CLAIM.SOURCE d) = k ∧ t.get (Reg.IRQD.LAST_CLAIM.RESULT d) = v.toNat ∧
      t.get (Reg.IRQD.CLAIM_CNT.COUNT d) = min (2 ^ 32 - 1) (s.get (Reg.IRQD.CLAIM_CNT.COUNT d) + 1) ∧
      t.door d = { s.door d with hostWrites := (t.door d).hostWrites } ∧
      (∃ w, (t.door d).hostWrites = (s.door d).hostWrites ++ [w] ∧ w.data.length = 16 ∧
        w.addr = s.get (Reg.IRQD.RING_BASE_HI.ADDR d) * 2 ^ 32 + s.get (Reg.IRQD.RING_BASE_LO.ADDR d) * 4096 +
          16 * (s.get (Reg.IRQD.RING_PROD.PROD d) % s.ringSize d)) ∧
      (∀ e, e ≠ d.val → t.door e = s.door e) ∧
      t = { s with regs := t.regs, doors := t.doors, irq := { s.irq with srcs := t.irq.srcs } } ∧
      FieldsKept [Reg.IRQD.RING_PROD.PROD d, Reg.IRQD.LAST_CLAIM.SOURCE d, Reg.IRQD.LAST_CLAIM.RESULT d,
        Reg.IRQD.CLAIM_CNT.COUNT d] s t) ∧
  (∀ (d : DoorNo) (k : SrcNo) (s : State), s.accepts d .irqd d 0x58 → (s.src k).state = 3 → (s.src k).claimer = d →
    ∃ t, exec (.irqEoi d k) s = .next t ∧ t.src k = { s.src k with exitAt := some ((s.src k).exitAt.getD (s.tick + 1)) } ∧
      (∀ j, j ≠ k.val → t.src j = s.src j) ∧ t = { s with irq := { s.irq with srcs := t.irq.srcs } }) ∧
  (∀ (d : DoorNo) (k : SrcNo) (s : State), s.accepts d .irqd d 0x58 → (s.src k).state ≠ 3 ∨ (s.src k).claimer ≠ d →
    ∃ t, exec (.irqEoi d k) s = .next t ∧ t.get (Reg.IRQD.DOOR_IRQ_STAT.EOI_ERR d) = 1 ∧ t.isRaised (page .irqd d) 1 ∧
      t.get (Reg.IRQD.EOI_ERR_CNT.COUNT d) = min (2 ^ 32 - 1) (s.get (Reg.IRQD.EOI_ERR_CNT.COUNT d) + 1) ∧
      OnlyFields [Reg.IRQD.DOOR_IRQ_STAT.EOI_ERR d, Reg.IRQD.EOI_ERR_CNT.COUNT d, Reg.HEAD.PG_ERRCNT.COUNT (page .irqd d),
        rawBit (page .irqd d) 1] s t) ∧
  (∀ (k : SrcNo) (b : Nat) (s : State), s.clk.running = true → (s.src k).exitAt = some b → b ≤ s.tick → (s.src k).repend = false →
    (s.src k).carry = 0 → (s.src k).sense ≠ 0 ∨ s.irqLine k = false →
    ∃ t, exec (.irqExit k) s = .next t ∧
      t.src k = { s.src k with state := 0, exitAt := none, carry := 0, repend := false, claimer := 0 } ∧
      (∀ j, j ≠ k.val → t.src j = s.src j) ∧ t = { s with irq := { s.irq with srcs := t.irq.srcs } }) ∧
  (∀ (k : SrcNo) (b : Nat) (s : State), s.clk.running = true → (s.src k).exitAt = some b → b ≤ s.tick → (s.src k).en = true →
    (s.src k).carry = 0 → (s.src k).repend = true ∨ ((s.src k).sense = 0 ∧ slotSource k = false ∧ s.irqLine k = true) →
    let g := Word.bits (s.src k).cfg 15 10
    let u := (((s.setSrc k { s.src k with state := 0, exitAt := none, carry := 0, repend := false, claimer := 0 }).holdoffRelease
      g).coalesceRelease g)
    ∃ t, exec (.irqExit k) s = .next t ∧ (t.src k).state = 1 ∧ (t.src k).assert = s.tick ∧ (t.src k).exitAt = none ∧
      (t.src k).claimer = 0 ∧ (t.src k).repend = false ∧ (t.src k).cfg = (s.src k).cfg ∧ (t.src k).held = (s.src k).cfg ∧
      ((s.grp g).coalesce = false → (t.grp g).release = max (u.grp g).release (s.tick + (s.grp g).holdoff)) ∧
      (∀ j, j ≠ k.val → t.src j = u.src j) ∧ (∀ j, j ≠ g → t.grp j = u.grp j) ∧
      t = { s with doors := t.doors, irq := { s.irq with srcs := t.irq.srcs, grps := t.irq.grps } })

/-- R335, R336: a start of an IDLE channel whose settings pass Table 13-4 takes its working copy and makes it ACTIVE with
RESIDUE at COUNT; settings that fail end with BAD_CFG; a start of a channel that is not IDLE is lost and counted, as is every
start of one that failed its self-test (R380). R337 to R341: a burst of a COPY from host memory to host memory, both sides
incrementing, writes the bytes read at the next addresses and moves on, and the transfer ends DONE with the last byte; a bus
error within RETRY is retried at the next boundary, and beyond it halts the channel with BUS_ERROR; an ABORT makes an ACTIVE
channel abort after the burst in progress. -/
def Obligations.DmaChannels : Prop :=
  (∀ (d : DoorNo) (c : DmaNo) (s : State), s.accepts d .dma c 0x64 → (s.channel c).dead = false →
    ∃ t, exec (.dmaStart d c) s = .next t ∧
      (s.get (Reg.DMA.STATUS.STATE c) = 0 → (s.dmaCopy c).bad (s.doorsOf (s.pageComp (page .dma c))) = false →
        t.channel c = s.dmaCopy c ∧ (∀ k, k ≠ c.val → t.channel k = s.channel k) ∧ t.get (Reg.DMA.STATUS.STATE c) = 1 ∧
        t.get (Reg.DMA.STATUS.RESIDUE c) = s.get (Reg.DMA.COUNT.BYTES c) ∧ t = { s with regs := t.regs, dma := t.dma } ∧
        FieldsKept [Reg.DMA.STATUS.STATE c, Reg.DMA.STATUS.RESIDUE c] s t) ∧
      (s.get (Reg.DMA.STATUS.STATE c) = 0 → (s.dmaCopy c).bad (s.doorsOf (s.pageComp (page .dma c))) = true →
        t.get (Reg.DMA.STATUS.RESULT c) = 5 ∧ t.isRaised (page .dma c) 3 ∧
        OnlyFields [Reg.DMA.STATUS.RESULT c, Reg.HEAD.PG_ERRCNT.COUNT (page .dma c), rawBit (page .dma c) 3] s t) ∧
      (s.get (Reg.DMA.STATUS.STATE c) ≠ 0 →
        t.get (Reg.DMA.START_LOST_CNT.COUNT c) = min (2 ^ 32 - 1) (s.get (Reg.DMA.START_LOST_CNT.COUNT c) + 1) ∧
        t.isRaised (page .dma c) 2 ∧ OnlyFields [Reg.DMA.START_LOST_CNT.COUNT c, rawBit (page .dma c) 2] s t)) ∧
  (∀ (d : DoorNo) (c : DmaNo) (s : State), s.accepts d .dma c 0x64 → (s.channel c).dead = true →
    ∃ t, exec (.dmaStart d c) s = .next t ∧
      t.get (Reg.DMA.START_LOST_CNT.COUNT c) = min (2 ^ 32 - 1) (s.get (Reg.DMA.START_LOST_CNT.COUNT c) + 1) ∧
      OnlyFields [Reg.DMA.START_LOST_CNT.COUNT c] s t) ∧
  (∀ (c : DmaNo) (len : Fin 257) (src dst : List Byte) (s : State), s.get (Reg.DMA.STATUS.STATE c) = 1 →
    (s.channel c).retryAt ≤ s.tick → (s.channel c).op = 0 → 4 ≤ (s.channel c).srcSpace → (s.channel c).srcSpace < 8 →
    4 ≤ (s.channel c).dstSpace → (s.channel c).dstSpace < 8 → (s.channel c).srcInc = true → (s.channel c).dstInc = true →
    0 < len.val → src.length = len → (s.channel c).done + len ≤ (s.channel c).count → (s.channel c).count < 2 ^ 24 →
    ((s.channel c).src + (s.channel c).done) % 256 + len ≤ 256 → ((s.channel c).dst + (s.channel c).done) % 256 + len ≤ 256 →
    s.doorUp ((s.channel c).srcSpace - 4) = true → s.doorUp ((s.channel c).dstSpace - 4) = true →
    ∃ t, exec (.dmaBurstDone c len src dst) s = .next t ∧
      t.channel c = { s.channel c with done := (s.channel c).done + len, tries := 0 } ∧
      (∀ k, k ≠ c.val → t.channel k = s.channel k) ∧
      (t.door ((s.channel c).dstSpace - 4)).hostWrites = (s.door ((s.channel c).dstSpace - 4)).hostWrites ++
        [{ addr := (s.channel c).dst + (s.channel c).done, data := src, prio := 0, due := s.tick, src := c }] ∧
      (∀ e, e ≠ (s.channel c).dstSpace - 4 → t.door e = s.door e) ∧
      t.get (Reg.DMA.STATUS.RESIDUE c) = (s.channel c).count - ((s.channel c).done + len) ∧
      ((s.channel c).done + len < (s.channel c).count → t.get (Reg.DMA.STATUS.STATE c) = 1 ∧ t.evt = s.evt) ∧
      ((s.channel c).done + len = (s.channel c).count → t.get (Reg.DMA.STATUS.STATE c) = 0 ∧ t.get (Reg.DMA.STATUS.RESULT c) = 1 ∧
        t.get (Reg.DMA.DONE_CNT.COUNT c) = min (2 ^ 32 - 1) (s.get (Reg.DMA.DONE_CNT.COUNT c) + 1) ∧
        (96 + c.val) ∈ t.evt.pulses) ∧
      t = { s with regs := t.regs, dma := t.dma, doors := t.doors, evt := { s.evt with pulses := t.evt.pulses },
                   freeCtr := s.freeCtr + 1 } ∧
      FieldsKept [Reg.DMA.STATUS.STATE c, Reg.DMA.STATUS.RESULT c, Reg.DMA.STATUS.RESIDUE c, Reg.DMA.DONE_CNT.COUNT c] s t) ∧
  (∀ (c : DmaNo) (side : BusSide) (kind : BusKind) (s : State), s.get (Reg.DMA.STATUS.STATE c) = 1 → (s.channel c).retryAt ≤ s.tick →
    ∃ t, exec (.dmaBusError c side kind) s = .next t ∧
      ((s.channel c).tries + 1 ≤ (s.channel c).retry →
        t.channel c = { s.channel c with tries := (s.channel c).tries + 1, retryAt := s.tick + 1 } ∧
        (∀ k, k ≠ c.val → t.channel k = s.channel k) ∧ t = { s with dma := t.dma }) ∧
      ((s.channel c).retry < (s.channel c).tries + 1 → (s.channel c).wbEn = false →
        (s.channel c).count < 2 ^ 24 →
        t.get (Reg.DMA.STATUS.STATE c) = 0 ∧ t.get (Reg.DMA.STATUS.RESULT c) = 3 ∧
        t.get (Reg.DMA.STATUS.RESIDUE c) = (s.channel c).count - (s.channel c).done ∧
        t.get (Reg.DMA.ERR.SIDE c) = sideCode side ∧ t.get (Reg.DMA.ERR.KIND c) = kindCode kind ∧
        t.get (Reg.DMA.ERR.TRIES c) = min 15 ((s.channel c).tries + 1) ∧ t.isRaised (page .dma c) 0 ∧
        OnlyFields [Reg.DMA.STATUS.STATE c, Reg.DMA.STATUS.RESULT c, Reg.DMA.STATUS.RESIDUE c, Reg.DMA.ERR.SIDE c,
          Reg.DMA.ERR.KIND c, Reg.DMA.ERR.TRIES c, Reg.HEAD.PG_ERRCNT.COUNT (page .dma c), rawBit (page .dma c) 0] s t)) ∧
  (∀ (d : DoorNo) (c : DmaNo) (s : State), s.accepts d .dma c 0x64 → s.get (Reg.DMA.STATUS.STATE c) = 1 →
    (s.channel c).retryAt ≤ s.tick →
    ∃ t, exec (.dmaAbort d c) s = .next t ∧ t.get (Reg.DMA.STATUS.STATE c) = 2 ∧ OnlyFields [Reg.DMA.STATUS.STATE c] s t)

/-! ### ADC units, timers and the recorder -/

/-- R264 to R268: the raw code of the conversion in hand enters DATA with its calibrated code, entry and marks, and is counted;
with DRQ the entry makes it PENDING; with WIN_EN the entry's window state is judged. The sample waits for the work of the next
tick, which records it (R19, R267). -/
def Obligations.ConversionEntersData : Prop :=
  ∀ (u : AdcNo) (raw : BitVec 10) (c : Conv) (s : State), (s.unit u).conv = some c → c.entry < 16 → c.input < 12 →
    ∃ t, exec (.adcDataLatch u raw) s = .next t ∧ t.get (Reg.ADC.DATA.RAW u) = raw.toNat ∧ t.get (Reg.ADC.DATA.ENTRY u) = c.entry ∧
      t.get (Reg.ADC.DATA.CODE u) = calCode raw.toNat (s.get (Reg.ADC.CAL.Z16 u c.input)) (s.get (Reg.ADC.GAIN.GAIN u c.input)) ∧
      t.get (Reg.ADC.DATA.URG u) = (if c.urg then 1 else 0) ∧ t.get (Reg.ADC.DATA.CAL u) = (if c.cal then 1 else 0) ∧
      t.get (Reg.ADC.CONV_CNT.COUNT u) = min (2 ^ 32 - 1) (s.get (Reg.ADC.CONV_CNT.COUNT u) + 1) ∧
      (t.unit u).conv = none ∧ (t.unit u).dataTick = c.tick ∧ (t.unit u).urgent = (s.unit u).urgent ∧
      (c.cal = false → s.get (Reg.ADC.SEQ.DRQ u c.entry) = 1 → t.get (Reg.ADC.STAT.PENDING u) = 1) ∧
      (c.cal = false → s.get (Reg.ADC.SEQ.WIN_EN u c.entry) = 1 → t.winState u c.entry =
        (windowStep (s.winState u c.entry) (calCode raw.toNat (s.get (Reg.ADC.CAL.Z16 u c.input)) (s.get (Reg.ADC.GAIN.GAIN u c.input)))
          (s.get (Reg.ADC.SEQ.LO u c.entry)) (s.get (Reg.ADC.SEQ.HI u c.entry))).1) ∧
      (∃ x, (t.unit u).sample = some x ∧ x.conv = c ∧ x.raw = raw.toNat ∧ x.code = t.get (Reg.ADC.DATA.CODE u) ∧
        (c.cal = false → x.win = t.winState u c.entry ∧ x.keep = s.bit (Reg.ADC.SEQ.REC u c.entry))) ∧
      (∀ k, k ≠ u.val → t.unit k = s.unit k) ∧
      t = { s with regs := t.regs, adc := t.adc, evt := { s.evt with pulses := t.evt.pulses } } ∧
      FieldsKept [Reg.ADC.DATA.URG u, Reg.ADC.DATA.RAW u, Reg.ADC.DATA.ENTRY u, Reg.ADC.DATA.CAL u, Reg.ADC.DATA.CODE u,
        Reg.ADC.CONV_CNT.COUNT u, Reg.ADC.URG_CNT.COUNT u, Reg.ADC.STAT.CAL_CNT u, Reg.ADC.STAT.PENDING u, Reg.ADC.STAT.OVR u,
        Reg.ADC.OVR_CNT.COUNT u, Reg.HEAD.PG_ERRCNT.COUNT (page .adc u), Reg.ADC.WIN_STATE.STATE u, Reg.ADC.WIN_FLAGS.EXIT u,
        rawBit (page .adc u) 0, rawBit (page .adc u) 1] s t

/-- R265: a calibration command on a unit that is not shuttered starts 16 conversions of its input, or, while one runs, is
refused with BUSY; after the sixteenth the pair of a zero calibration is replaced, with its gain, when the full code lies at
least 4 096 above, else RANGE keeps it; each end raises CAL_DONE. R261, R250, R332: RESTART puts the sequence at its first
entry; LOAD of a timer puts C at LOADV and P at 0; CMP_CLR of a drive channel waits for the next boundary. -/
def Obligations.CalibrationAndLoads : Prop :=
  (∀ (i : Instr) (u : AdcNo) (full : Bool) (s : State), i = (if full then .calFull u else .calZero u) → s.shut (page .adc u) = false →
    ((s.unit u).cal = none →
      ∃ t, exec i s = .next t ∧ t.unit u = { s.unit u with cal := some ⟨full, s.get (Reg.ADC.CMD.CAL_IN u), 0, 0, 0⟩ } ∧
        t.get (Reg.ADC.STAT.CAL_BUSY u) = 1 ∧ t.get (Reg.ADC.STAT.CAL_CNT u) = 0 ∧ (∀ k, k ≠ u.val → t.unit k = s.unit k) ∧
        t = { s with regs := t.regs, adc := t.adc } ∧ FieldsKept [Reg.ADC.STAT.CAL_BUSY u, Reg.ADC.STAT.CAL_CNT u] s t) ∧
    ((s.unit u).cal ≠ none →
      ∃ t, exec i s = .next t ∧ t.get (Reg.ADC.STAT.CAL_RESULT u) = 3 ∧ OnlyFields [Reg.ADC.STAT.CAL_RESULT u] s t)) ∧
  (∀ (u : AdcNo) (c : Calib) (s : State), (s.unit u).cal = some c → 16 ≤ c.made → c.last < s.tick → c.full = false → c.input < 12 →
    c.sum < 2 ^ 14 →
    ∃ t, exec (.calDone u) s = .next t ∧ (t.unit u).cal = none ∧ t.get (Reg.ADC.STAT.CAL_BUSY u) = 0 ∧ t.isRaised (page .adc u) 3 ∧
      (if s.get (Reg.ADC.CAL.F16 u c.input) < c.sum + 4096 then
        t.get (Reg.ADC.STAT.CAL_RESULT u) = 2 ∧ t.get (Reg.ADC.CAL.Z16 u c.input) = s.get (Reg.ADC.CAL.Z16 u c.input) ∧
          t.get (Reg.ADC.GAIN.GAIN u c.input) = s.get (Reg.ADC.GAIN.GAIN u c.input) ∧ t.carts = s.carts
       else t.get (Reg.ADC.STAT.CAL_RESULT u) = 1 ∧ t.get (Reg.ADC.CAL.Z16 u c.input) = c.sum ∧
          t.get (Reg.ADC.CAL.F16 u c.input) = s.get (Reg.ADC.CAL.F16 u c.input) ∧
          t.get (Reg.ADC.GAIN.GAIN u c.input) = gainOf c.sum (s.get (Reg.ADC.CAL.F16 u c.input))) ∧
      (∀ k, k ≠ u.val → t.unit k = s.unit k) ∧
      t = { s with regs := t.regs, adc := t.adc, carts := t.carts, recd := { s.recd with seq := t.recd.seq } } ∧
      FieldsKept [Reg.ADC.STAT.CAL_BUSY u, Reg.ADC.STAT.CAL_RESULT u, Reg.ADC.CAL.Z16 u c.input, Reg.ADC.CAL.F16 u c.input,
        Reg.ADC.GAIN.GAIN u c.input, rawBit (page .adc u) 3] s t) ∧
  (∀ (u : AdcNo) (s : State), ∃ t, exec (.adcRestart u) s = .next t ∧ t.get (Reg.ADC.STAT.POS u) = 0 ∧
    OnlyFields [Reg.ADC.STAT.POS u] s t) ∧
  (∀ (k : TmrNo) (s : State), s.scanning = true →
    ∃ t, exec (.timerLoad k) s = .next t ∧ t.get (Reg.TMR.COUNT.C k) = s.get (Reg.TMR.LOADV.VALUE k) ∧ t.get (Reg.TMR.PRESC.P k) = 0 ∧
      OnlyFields [Reg.TMR.COUNT.C k, Reg.TMR.PRESC.P k] s t) ∧
  (∀ (n : DrvNo) (s : State), ∃ t, exec (.cmpClr n) s = .next t ∧ t.drive n = { s.drive n with clr := some (s.tick + 1) } ∧
    (∀ k, k ≠ n.val → t.drive k = s.drive k) ∧ t = { s with drv := t.drv })

/-- R274, R419, R420, R422: where the low 48 bits of the tick are 0 every class gets an EPOCH cart; an OVERFLOW cart shows what
a class wrote too much without taking a record number; a P_PIN cart in the making whose first entry is 32 ticks old is written.
R36, R275, R276: no cart is lost or doubled on its way to the record SRAM, which takes at most 128 in a tick; a unit of a class
holds so many carts, its UNIT cart first, and every record that it takes leaves those that wait. -/
def Obligations.RecorderWritesItsOwnCarts : Prop :=
  (∀ s : State, s.tick % 2 ^ 48 = 0 →
    ∃ t l, exec .epochTickMarker s = .next t ∧ t.carts = l ++ s.carts ∧ l.length = 8 ∧
      (∀ x ∈ l, x.typ = 0x11 ∧ x.tick = 0 ∧ x.st = 0 ∧ x.seq = s.seqOf x.cls) ∧ (∀ k, k < 8 → ∃ x ∈ l, x.cls = k) ∧
      (∀ k, t.seqOf k = if k < 8 then (s.seqOf k + 1) % 2 ^ 32 else s.seqOf k) ∧
      t = { s with carts := t.carts, recd := { s.recd with seq := t.recd.seq } }) ∧
  (∀ (cls : Fin 8) (beyond first last : Nat) (s : State),
    ∃ t, exec (.overflowWindow cls beyond first last) s = .next t ∧ t = { s with carts := t.carts } ∧
      ∃ c, t.carts = c :: s.carts ∧ c.typ = 0x13 ∧ c.cls = cls ∧ c.tick = first % 2 ^ 48 ∧ c.st = 0 ∧ c.seq = s.seqOf cls ∧
        c.body = [quad [(61, 3, cls), (0, 32, min beyond (2 ^ 32 - 1))], BitVec.ofNat 64 first, BitVec.ofNat 64 last]) ∧
  (∀ s : State, s.recd.pinPart ≠ [] → s.recd.pinAt / 128 + 32 ≤ s.tick → s.recd.cmpPart = [] → s.recd.adcPart = [] →
    ∃ t, exec .provCartFlush s = .next t ∧ t.recd.pinPart = [] ∧ OneCart 0x21 s.provCls s.recd.pinAt s t ∧
      t = { s with carts := t.carts, recd := { s.recd with seq := t.recd.seq, pinPart := [] } }) ∧
  (∀ s : State, s.store.seen ≤ s.carts.length →
    (s.storeStep []).store.held ++ (s.storeStep []).store.stage =
        s.store.held ++ s.store.stage ++ (s.carts.take (s.carts.length - s.store.seen)).reverse ∧
      (s.storeStep []).store.held.length ≤ s.store.held.length + 128 ∧
      s.storeStep [] = { s with store := { s.store with seen := s.carts.length, stage := (s.storeStep []).store.stage,
                                                        held := (s.storeStep []).store.held } }) ∧
  (∀ (cls : Fin 8) (addr : BitVec 48) (session : Word) (size : Nat) (s t : State), 0 < size →
    (∀ c, s.store.held.head? = some c → c.part = 0) → t = s.storeEvent (.unit cls false addr session size) →
    ∃ u, t.store.units = u :: s.store.units ∧ u.cls = cls ∧ u.copy = false ∧ u.addr = addr.toNat ∧ u.carts.length = size ∧
      (∃ c, u.carts.head? = some c ∧ c.typ = 0x01) ∧ t.store.prevUnit.get (fun _ => 2 ^ 48 - 1) cls = addr.toNat ∧
      (∀ c : Cart, c.typ ≠ 0x00 → c.typ ≠ 0x01 → u.carts.count c + t.store.held.count c = s.store.held.count c) ∧
      t = { s with store := { s.store with held := t.store.held, units := t.store.units, prevUnit := t.store.prevUnit } })

/-! ### Drive channels -/

/-- R242, R246, R248, R257: the next happening of a channel, when it is the start of its event, begins it: EVENT, EVENT_CNT, the
settings of CFG, and with the comparator low and no dip detector still open GATE rises there; when it is the end of its passes
or the duty limit, the event ends there: GATE and EVENT fall, LAST_END shows the instant, EVENT_END is raised, at the limit with
DUTY_CUT. -/
def Obligations.DriveEventBeginsAndEnds : Prop :=
  (∀ (n : DrvNo) (x : Nat) (e : DEvent) (s : State), s.driveNext n = some (x, .start) → (s.drive n).event = some e →
    (s.drive n).held = none → s.get (Reg.DRV.STAT.COMP n) = 0 → s.get (Reg.DRV.STAT.GATE n) = 0 →
    (s.drive n).dip = none →
    ∃ t, exec (.driveEventStart n) s = .next t ∧
      (t.drive n).event = some ⟨e.sAct, true, s.get (Reg.DRV.CFG.PERIOD n), s.get (Reg.DRV.CFG.BLANK n)⟩ ∧
      (t.drive n).passes = (s.drive n).passes ∧ t.get (Reg.DRV.STAT.EVENT n) = 1 ∧
      t.get (Reg.DRV.EVENT_CNT.COUNT n) = min (2 ^ 32 - 1) (s.get (Reg.DRV.EVENT_CNT.COUNT n) + 1) ∧
      t.get (Reg.DRV.STAT.GATE n) = 1 ∧ t.get (Reg.DRV.STAT.LATCH n) = 0 ∧ t.edges = ⟨epDrive n, e.sAct, true⟩ :: s.edges ∧
      DrvFrame n [Reg.DRV.STAT.EVENT n, Reg.DRV.EVENT_CNT.COUNT n, Reg.DRV.STAT.GATE n, Reg.DRV.STAT.LATCH n] s t) ∧
  (∀ (i : Instr) (n : DrvNo) (x : Nat) (e : DEvent) (s : State),
    (i = .driveEventEnd n ∧ s.driveNext n = some (x, .finish)) ∨ (i = .dutyCut n ∧ s.driveNext n = some (x, .cut)) →
    (s.drive n).event = some e →
    ∃ t, exec i s = .next t ∧ (t.drive n).event = none ∧ (t.drive n).ePrev = some x ∧
      (t.drive n).passes = (s.drive n).passes.filter (fun p => !p.taken) ∧
      (t.drive n).ons = (s.drive n).ons ++ [(e.sAct, x)] ∧ t.get (Reg.DRV.STAT.EVENT n) = 0 ∧ t.get (Reg.DRV.STAT.GATE n) = 0 ∧
      t.edges = (if s.get (Reg.DRV.STAT.GATE n) = 1 then ⟨epDrive n, x, false⟩ :: s.edges else s.edges) ∧
      t.get64 (Reg.DRV.LAST_END_LO.TICK n) (Reg.DRV.LAST_END_HI.TICK n) = x / 128 % 2 ^ 64 ∧
      t.get (Reg.DRV.LAST_END_ST.ST n) = x % 128 ∧ t.isRaised (page .drv n) 0 ∧
      (i = .dutyCut n → t.get (Reg.DRV.FLAGS.DUTY_CUT n) = 1 ∧ t.isRaised (page .drv n) 3 ∧
        t.get (Reg.DRV.CUT_CNT.COUNT n) = min (2 ^ 32 - 1) (s.get (Reg.DRV.CUT_CNT.COUNT n) + 1)) ∧
      (i = .driveEventEnd n → t.get (Reg.DRV.FLAGS.DUTY_CUT n) = s.get (Reg.DRV.FLAGS.DUTY_CUT n) ∧
        t.get (Reg.DRV.CUT_CNT.COUNT n) = s.get (Reg.DRV.CUT_CNT.COUNT n)) ∧
      DrvFrame n [Reg.DRV.STAT.EVENT n, Reg.DRV.STAT.GATE n, Reg.DRV.STAT.OC_CNT n, Reg.DRV.LAST_END_LO.TICK n,
        Reg.DRV.LAST_END_HI.TICK n, Reg.DRV.LAST_END_ST.ST n, Reg.DRV.FLAGS.DUTY_CUT n, Reg.DRV.CUT_CNT.COUNT n,
        rawBit (page .drv n) 0, rawBit (page .drv n) 3] s t)

/-- R248 to R250, R252, R253: at a period start GATE rises with the latch clear, or with the latch set the period is skipped and
counted; at the end of blanking nothing happens with the comparator low, while with it high the event trips and ends in the next
cycle. A voltage above the reference, 1.5 x REF less SLOPE with every cycle of the period (in steps of 1/2560 mV), asserts the
comparator: outside blanking the latch sets and GATE falls in the next cycle; one below it by more than HYST releases it; one
between changes nothing. -/
def Obligations.RegulationAndTrip : Prop :=
  (∀ (n : DrvNo) (x : Nat) (e : DEvent) (s : State), s.driveNext n = some (x, .period) → (s.drive n).event = some e →
    ∃ t, exec (.regPeriodStart n) s = .next t ∧ (t.drive n).periodAt = (s.drive n).periodAt + e.period ∧
      (t.drive n).event = some e ∧
      (s.get (Reg.DRV.STAT.COMP n) = 0 → s.get (Reg.DRV.STAT.GATE n) = 0 → t.get (Reg.DRV.STAT.GATE n) = 1 ∧
        t.get (Reg.DRV.STAT.LATCH n) = 0 ∧ t.edges = ⟨epDrive n, x, true⟩ :: s.edges ∧
        (t.drive n).blankTo = some ((s.drive n).periodAt + e.blank)) ∧
      (s.get (Reg.DRV.STAT.COMP n) = 1 → s.get (Reg.DRV.STAT.LATCH n) = 1 → t.get (Reg.DRV.STAT.GATE n) = s.get (Reg.DRV.STAT.GATE n) ∧
        t.get (Reg.DRV.FLAGS.SKIP n) = 1 ∧ t.isRaised (page .drv n) 5 ∧ t.edges = s.edges ∧
        t.get (Reg.DRV.SKIP_CNT.COUNT n) = min (2 ^ 32 - 1) (s.get (Reg.DRV.SKIP_CNT.COUNT n) + 1)) ∧
      DrvFrame n [Reg.DRV.STAT.LATCH n, Reg.DRV.STAT.GATE n, Reg.DRV.FLAGS.SKIP n, Reg.DRV.SKIP_CNT.COUNT n,
        rawBit (page .drv n) 5] s t) ∧
  (∀ (n : DrvNo) (x : Nat) (s : State), s.driveNext n = some (x, .blankEnd) → s.get (Reg.DRV.STAT.COMP n) = 0 →
    ∃ t, exec (.blankEnd n) s = .next t ∧ t.drive n = { s.drive n with blankTo := none } ∧
      (∀ k, k ≠ n.val → t.drive k = s.drive k) ∧ t = { s with drv := t.drv }) ∧
  (∀ (n : DrvNo) (x c : Nat) (e : DEvent) (s : State), s.driveNext n = some (x, .blankEnd) → s.get (Reg.DRV.STAT.COMP n) = 1 →
    (s.drive n).blankTo = some c → (s.drive n).event = some e → e.begun = true → s.get (Reg.DRV.STAT.OC_CNT n) < 2 →
    ∃ t, exec (.blankEnd n) s = .next t ∧ (t.drive n).event = none ∧ (t.drive n).ePrev = some (s.instantOf (c + 1)) ∧
      t.get (Reg.DRV.STAT.LATCH n) = 1 ∧ t.get (Reg.DRV.STAT.EVENT n) = 0 ∧ t.get (Reg.DRV.STAT.GATE n) = 0 ∧
      t.get (Reg.DRV.FLAGS.OC_TRIP n) = 1 ∧ t.isRaised (page .drv n) 1 ∧
      t.get (Reg.DRV.TRIP_CNT.COUNT n) = min (2 ^ 32 - 1) (s.get (Reg.DRV.TRIP_CNT.COUNT n) + 1) ∧
      t.get (Reg.DRV.STAT.OC_CNT n) = s.get (Reg.DRV.STAT.OC_CNT n) + 1 ∧
      DrvFrame n [Reg.DRV.STAT.EVENT n, Reg.DRV.STAT.GATE n, Reg.DRV.STAT.LATCH n, Reg.DRV.STAT.OC_CNT n,
        Reg.DRV.LAST_END_LO.TICK n, Reg.DRV.LAST_END_HI.TICK n, Reg.DRV.LAST_END_ST.ST n, Reg.DRV.FLAGS.OC_TRIP n,
        Reg.DRV.TRIP_CNT.COUNT n, Reg.HEAD.PG_ERRCNT.COUNT (page .drv n), rawBit (page .drv n) 0, rawBit (page .drv n) 1] s t) ∧
  (∀ (n : DrvNo) (sense : Nat) (st : SubTick) (s : State), (s.driveNext n).all (fun x => decide (s.now + st ≤ x.1)) = true →
    (s.drive n).held = none → sense ≤ 3840 * s.get (Reg.DRV.REF.REF n) - s.get (Reg.DRV.REF.SLOPE n) * s.rampAt n (s.now + st) →
    3840 * s.get (Reg.DRV.REF.REF n) - s.get (Reg.DRV.REF.SLOPE n) * s.rampAt n (s.now + st) ≤
        sense + hysteresis (s.get (Reg.DRV.CFG.HYST n)) ∨ s.get (Reg.DRV.STAT.COMP n) = 0 →
    exec (.comparatorTransition n sense st) s = .next s) ∧
  (∀ (n : DrvNo) (sense : Nat) (st : SubTick) (s : State), (s.driveNext n).all (fun x => decide (s.now + st ≤ x.1)) = true →
    (s.drive n).held = none → s.get (Reg.DRV.STAT.COMP n) = 1 →
    sense + hysteresis (s.get (Reg.DRV.CFG.HYST n)) <
      3840 * s.get (Reg.DRV.REF.REF n) - s.get (Reg.DRV.REF.SLOPE n) * s.rampAt n (s.now + st) →
    ∃ t, exec (.comparatorTransition n sense st) s = .next t ∧ t.get (Reg.DRV.STAT.COMP n) = 0 ∧ t.edges = s.edges ∧
      DrvProvFrame n [Reg.DRV.STAT.COMP n] s t) ∧
  (∀ (n : DrvNo) (sense : Nat) (st : SubTick) (s : State), (s.driveNext n).all (fun x => decide (s.now + st ≤ x.1)) = true →
    (s.drive n).held = none → 3840 * s.get (Reg.DRV.REF.REF n) - s.get (Reg.DRV.REF.SLOPE n) * s.rampAt n (s.now + st) < sense →
    (s.drive n).blankTo = none → s.get (Reg.DRV.STAT.COMP n) = 0 → s.get (Reg.DRV.STAT.LATCH n) = 0 →
    ∃ t, exec (.comparatorTransition n sense st) s = .next t ∧ t.get (Reg.DRV.STAT.COMP n) = 1 ∧ t.get (Reg.DRV.STAT.LATCH n) = 1 ∧
      t.get (Reg.DRV.STAT.GATE n) = 0 ∧
      t.edges = (if s.get (Reg.DRV.STAT.GATE n) = 1 then ⟨epDrive n, s.instantOf (s.cycleAt (s.now + st) + 1), false⟩ :: s.edges
        else s.edges) ∧
      DrvProvFrame n [Reg.DRV.STAT.COMP n, Reg.DRV.STAT.LATCH n, Reg.DRV.STAT.GATE n] s t)

/-- R245, R255: at the start of a duty bin the on-time that ended before the 99 bins that still count is forgotten; a dip
detector whose window has passed without a dip ends with NOT_FOUND, DIP_NONE raised and its other values free. -/
def Obligations.DutyBinsAndDipWindow : Prop :=
  (∀ (n : DrvNo) (s : State), s.tick % s.binTicks n = 0 →
    ∃ t, exec (.dutyBinRoll n) s = .next t ∧
      t.drive n = { s.drive n with ons := (s.drive n).ons.filter (fun e => decide (s.dutyFrom n s.now < e.2)) } ∧
      (∀ k, k ≠ n.val → t.drive k = s.drive k) ∧ t = { s with drv := t.drv }) ∧
  (∀ (n : DrvNo) (x : Dip) (s : State), (s.drive n).dip = some x → x.ev / 128 + s.get (Reg.DRV.DIP_WIN.WIN n) < s.tick →
    ∃ t, exec (.dipWindowEnd n) s = .next t ∧ t.drive n = { s.drive n with dip := none, dipRes := (t.drive n).dipRes } ∧
      (∃ r, (t.drive n).dipRes = some r ∧ r.status = 2 ∧ r.ev = x.ev) ∧ t.get (Reg.DRV.DIP_LAST.STATUS n) = 2 ∧ t.get (Reg.DRV.FLAGS.DIP_NONE n) = 1 ∧ t.isRaised (page .drv n) 7 ∧
      (∀ k, k ≠ n.val → t.drive k = s.drive k) ∧ t = { s with regs := t.regs, drv := t.drv, freeCtr := s.freeCtr + 3 } ∧
      FieldsKept [Reg.DRV.DIP_LAST.STATUS n, Reg.DRV.DIP_LAST.DEPTH n, Reg.DRV.DIP_T_MAX.TICK n, Reg.DRV.DIP_T_MIN.TICK n,
        Reg.DRV.FLAGS.DIP_NONE n, rawBit (page .drv n) 7] s t)

/-! ### Node links -/

/-- R214, R222, R223: BRINGUP enters its first state with CAUSE 0 and STOP enters OFF, each with its queues discarded and
STATE_CHANGE where the state changed; MGMT_TX with an opcode from 64 on has its place waiting for the next frame. R214: a step
of bring-up ends only when its places have all been sent. TRAIN passes to ENUM with RING, or WRAP where only a tail answers, and
with neither fails with NO_NODES; ENUM, its count that of the distinct nodes that answered, passes to MEASURE with NODES,
PRESENT and, in WRAP, SEG_B, and else fails with DUP_NODE. R214, R215: MEASURE, with every ECHO answered and every delay at or
below 7 680 st, passes to CONFIG with the delays of the nodes, and else fails with ECHO_TIMEOUT or DELAY_RANGE; CONFIG gives
DLIM, the largest delay with MINLEAD, LOOP and the UPMAP of the nodes, and ends in HOLD where L allows for DLIM, else it fails
with L_SHORT. -/
def Obligations.LinkBringup : Prop :=
  (∀ (l : LinkNo) (s : State), s.scanning = true →
    ∃ t, exec (.bringup l) s = .next t ∧ t.lnkState l = 1 ∧ t.get (Reg.LNK.STAT.CAUSE l) = 0 ∧
      (s.lnkState l ≠ 1 → t.isRaised (page .lnk l) 0) ∧
      t.link l = { s.link l with deadline := [], sample := [], runPlace := false, script := [], trainAt := s.tick, swapAt := none,
                                 brokeOnce := false, breakDue := none, healDue := false } ∧
      LnkFrame l [Reg.LNK.STAT.STATE l, Reg.LNK.STAT.CAUSE l, rawBit (page .lnk l) 0] s t) ∧
  (∀ (l : LinkNo) (s : State), s.scanning = true →
    ∃ t, exec (.linkStop l) s = .next t ∧ t.lnkState l = 0 ∧ (s.lnkState l ≠ 0 → t.isRaised (page .lnk l) 0) ∧
      t.link l = { s.link l with deadline := [], sample := [], runPlace := false, script := [] } ∧
      LnkFrame l [Reg.LNK.STAT.STATE l, rawBit (page .lnk l) 0] s t) ∧
  (∀ (l : LinkNo) (s : State), s.scanning = true → 64 ≤ s.get (Reg.LNK.MGMT_TX_A.OPCODE l) →
    ∃ t, exec (.mgmtTx l) s = .next t ∧ t.link l = { s.link l with mgmt := some (BitVec.ofNat 40
        (s.get (Reg.LNK.MGMT_TX_A.NODE l) * 2 ^ 34 + s.get (Reg.LNK.MGMT_TX_A.OPCODE l) * 2 ^ 27 + s.get (Reg.LNK.MGMT_TX_B.DATA l))) } ∧
      (∀ k, k ≠ l.val → t.link k = s.link k) ∧ t = { s with lnk := t.lnk }) ∧
  (∀ (l : LinkNo) (c : LCmd) (r : List LCmd) (s : State), (s.link l).sample = c :: r → c.promoted = false →
    c.since + 64 ≤ s.tick + 1 → c ∉ r →
    ∃ t, exec (.sreqPromote l) s = .next t ∧ t.link l = { s.link l with sample := { c with promoted := true } :: r } ∧
      t.get (Reg.LNK.PROMO_CNT.COUNT l) = min (2 ^ 32 - 1) (s.get (Reg.LNK.PROMO_CNT.COUNT l) + 1) ∧ t.isRaised (page .lnk l) 6 ∧
      LnkFrame l [Reg.LNK.PROMO_CNT.COUNT l, rawBit (page .lnk l) 6] s t) ∧
  (∀ (l : LinkNo) (f : BringupFinding) (s : State), (s.link l).script ≠ [] → exec (.bringupEnd l f) s = .next s) ∧
  (∀ (l : LinkNo) (ring anyTail : Bool) (s : State), s.lnkState l = 1 → (s.link l).script = [] →
    ∃ t, exec (.bringupEnd l (.train ring anyTail)) s = .next t ∧
      (ring = true ∨ anyTail = true → t.lnkState l = 2 ∧ t.get (Reg.LNK.STAT.RING l) = (if ring then 0 else 1) ∧
        t.isRaised (page .lnk l) 0 ∧
        t.link l = { s.link l with deadline := [], sample := [], runPlace := false, script := enumScript (s.tick + 1) } ∧
        LnkFrame l [Reg.LNK.STAT.STATE l, Reg.LNK.STAT.RING l, rawBit (page .lnk l) 0] s t) ∧
      (ring = false → anyTail = false → StepFails l 1 [] s t)) ∧
  (∀ (l : LinkNo) (count : Nat) (nodes : List (Fin 64 × Bool)) (s : State), s.lnkState l = 2 → (s.link l).script = [] →
    (BringupFinding.enumerate count nodes).wf = true →
    ∃ t, exec (.bringupEnd l (.enumerate count nodes)) s = .next t ∧ t.get (Reg.LNK.STAT.NODES l) = nodes.length ∧
      t.get64 (Reg.LNK.PRESENT_LO.MASK l) (Reg.LNK.PRESENT_HI.MASK l) = maskOf (nodes.map (fun x => x.1.val)) ∧
      t.get64 (Reg.LNK.SEG_B_LO.MASK l) (Reg.LNK.SEG_B_HI.MASK l) =
        (if s.get (Reg.LNK.STAT.RING l) = 0 then 0 else maskOf ((nodes.filter (fun x => x.2)).map (fun x => x.1.val))) ∧
      (count = nodes.length → t.lnkState l = 3 ∧ t.isRaised (page .lnk l) 0 ∧
        LnkFrame l [Reg.LNK.STAT.STATE l, Reg.LNK.STAT.NODES l, Reg.LNK.PRESENT_LO.MASK l, Reg.LNK.PRESENT_HI.MASK l,
          Reg.LNK.SEG_B_LO.MASK l, Reg.LNK.SEG_B_HI.MASK l, rawBit (page .lnk l) 0] s t) ∧
      (count ≠ nodes.length → StepFails l 2 [Reg.LNK.STAT.NODES l, Reg.LNK.PRESENT_LO.MASK l, Reg.LNK.PRESENT_HI.MASK l,
        Reg.LNK.SEG_B_LO.MASK l, Reg.LNK.SEG_B_HI.MASK l] s t)) ∧
  (∀ (l : LinkNo) (answers : List NodeFinding) (s : State), s.lnkState l = 3 → (s.link l).script = [] →
    (BringupFinding.measure answers).wf = true →
    ∃ t, exec (.bringupEnd l (.measure answers)) s = .next t ∧
      ((∃ k ∈ s.presentNodes l, s.echoed l k answers = false) → StepFails l 4 [] s t) ∧
      ((∀ k ∈ s.presentNodes l, s.echoed l k answers = true) →
        (∀ x ∈ answers, x.node.val ∈ s.presentNodes l → (t.link l).nodes.get (fun _ => LNode.reset) x.node.val =
          { (s.link l).nodes.get (fun _ => LNode.reset) x.node.val with
            dP := x.rttP.map (fun r => portDelay r x.holdP), dQ := x.rttQ.map (fun r => portDelay r x.holdQ), seq := none }) ∧
        ((∀ x ∈ answers, x.node.val ∈ s.presentNodes l → (∀ r, x.rttP = some r → portDelay r x.holdP ≤ 7680) ∧
            (∀ r, x.rttQ = some r → portDelay r x.holdQ ≤ 7680)) →
          t.lnkState l = 4 ∧ t.isRaised (page .lnk l) 0 ∧ LnkFrame l [Reg.LNK.STAT.STATE l, rawBit (page .lnk l) 0] s t) ∧
        ((∃ x ∈ answers, x.node.val ∈ s.presentNodes l ∧ ((∃ r, x.rttP = some r ∧ 7680 < portDelay r x.holdP) ∨
            ∃ r, x.rttQ = some r ∧ 7680 < portDelay r x.holdQ)) → StepFails l 5 [] s t))) ∧
  (∀ (l : LinkNo) (loop : Nat) (s : State), s.lnkState l = 4 → (s.link l).script = [] → s.devState ≠ 8 → loop < 2 ^ 16 →
    s.topDelay l ≤ 7680 →
    ∃ t, exec (.bringupEnd l (.configure loop)) s = .next t ∧
      t.get (Reg.LNK.DLIM.DLIM l) = s.topDelay l + 128 * s.get (Reg.LNK.CFG.MINLEAD l) ∧ t.get (Reg.LNK.LOOP.LOOP l) = loop ∧
      (∀ e, e < 64 → (t.link l).upmap.get (fun _ => 0x40) e = s.get (Reg.LNK.UPMAP.OWNER l e)) ∧
      (s.topDelay l + 128 * s.get (Reg.LNK.CFG.MINLEAD l) ≤ (s.get (Reg.LNK.CFG.L l) - 1) * 128 →
        t.lnkState l = 5 ∧ t.isRaised (page .lnk l) 0 ∧
        LnkFrame l [Reg.LNK.STAT.STATE l, Reg.LNK.DLIM.DLIM l, Reg.LNK.LOOP.LOOP l, rawBit (page .lnk l) 0] s t) ∧
      ((s.get (Reg.LNK.CFG.L l) - 1) * 128 < s.topDelay l + 128 * s.get (Reg.LNK.CFG.MINLEAD l) →
        StepFails l 3 [Reg.LNK.DLIM.DLIM l, Reg.LNK.LOOP.LOOP l] s t))

/-- R224, R227, R233: a break and a repair in HOLD and RUN wait for the next boundary; during bring-up the first break starts
TRAIN again and a second fails with ECHO_TIMEOUT. At its boundary a break makes a ring WRAP: SEG_B, WRAP_CNT, LAST_WRAP, WRAP
raised, end B sends the frame of end A, and a WRAP cart with the frames that had not returned is generated; the repair makes it
RING, with SEG_B empty and HEAL raised, and end B sends carriers. R208, R209, R228: a frame's symbols are found valid by its
receiver, which takes the cell that they carry; an UP frame that is due at a receiver of a link that is not OFF waits for the
work it is admitted to; in that work one that is missing or invalid is counted at its receiver and recorded. R229: a STATUS cell
of a node whose record number is in order, on a link in HOLD that does not record such cells, updates the node's state, faults
and number, and raises NODE_FAULT for a fault. -/
def Obligations.LinkEvents : Prop :=
  (∀ (l : LinkNo) (beyond : BitVec 64) (sign : BreakSign) (s : State), s.lnkState l = 5 ∨ s.lnkState l = 6 →
    ∃ t, exec (.cableBreak l ⟨beyond, sign⟩) s = .next t ∧
      t.link l = { s.link l with breakDue := some ⟨beyond.toNat, s.lostFrom l sign, s.tick⟩, healDue := false } ∧
      (∀ k, k ≠ l.val → t.link k = s.link k) ∧ t = { s with lnk := t.lnk }) ∧
  (∀ (l : LinkNo) (beyond : BitVec 64) (sign : BreakSign) (s : State), 1 ≤ s.lnkState l → s.lnkState l ≤ 4 →
    ∃ t, exec (.cableBreak l ⟨beyond, sign⟩) s = .next t ∧
      ((s.link l).brokeOnce = false → t.lnkState l = 1 ∧ (t.link l).brokeOnce = true ∧ (t.link l).trainAt = s.tick ∧
        (t.link l).script = [] ∧ LnkFrame l [Reg.LNK.STAT.STATE l, rawBit (page .lnk l) 0] s t) ∧
      ((s.link l).brokeOnce = true → StepFails l 4 [] s t)) ∧
  (∀ (l : LinkNo) (s : State), s.lnkState l = 5 ∨ s.lnkState l = 6 → s.get (Reg.LNK.STAT.RING l) = 1 →
    ∃ t, exec (.heal l) s = .next t ∧ t.link l = { s.link l with healDue := true } ∧
      (∀ k, k ≠ l.val → t.link k = s.link k) ∧ t = { s with lnk := t.lnk }) ∧
  (∀ (l : LinkNo) (b : BreakDue) (s t : State), (s.link l).breakDue = some b → s.lnkState l = 5 ∨ s.lnkState l = 6 →
    s.get (Reg.LNK.STAT.RING l) = 0 → t = s.breakNow l →
    t.get (Reg.LNK.STAT.RING l) = 1 ∧ t.lnkState l = s.lnkState l ∧
      t.get64 (Reg.LNK.SEG_B_LO.MASK l) (Reg.LNK.SEG_B_HI.MASK l) =
        s.get64 (Reg.LNK.PRESENT_LO.MASK l) (Reg.LNK.PRESENT_HI.MASK l) &&& b.beyond ∧
      t.get (Reg.LNK.WRAP_CNT.COUNT l) = min (2 ^ 32 - 1) (s.get (Reg.LNK.WRAP_CNT.COUNT l) + 1) ∧
      t.get64 (Reg.LNK.LAST_WRAP_LO.TICK l) (Reg.LNK.LAST_WRAP_HI.TICK l) = s.tick % 2 ^ 64 ∧
      t.isRaised (page .lnk l) 0 ∧ t.isRaised (page .lnk l) 2 ∧
      t.link l = { s.link l with breakDue := none, frameB := (s.link l).frame } ∧ (∀ k, k ≠ l.val → t.link k = s.link k) ∧
      OneCart 0x17 s.markerCls s.now s t ∧
      (∃ c r, t.carts = c :: r ∧ c.body =
        [quad [(60, 4, l)], BitVec.ofNat 64 b.first, BitVec.ofNat 64 b.last, BitVec.ofNat 64 s.tick]) ∧
      t = { s with regs := t.regs, lnk := t.lnk, carts := t.carts, recd := { s.recd with seq := t.recd.seq } } ∧
      FieldsKept [Reg.LNK.STAT.RING l, Reg.LNK.SEG_B_LO.MASK l, Reg.LNK.SEG_B_HI.MASK l, Reg.LNK.WRAP_CNT.COUNT l,
        Reg.LNK.LAST_WRAP_LO.TICK l, Reg.LNK.LAST_WRAP_HI.TICK l, rawBit (page .lnk l) 0, rawBit (page .lnk l) 2] s t) ∧
  (∀ (l : LinkNo) (s t : State), (s.link l).healDue = true → s.lnkState l = 5 ∨ s.lnkState l = 6 →
    s.get (Reg.LNK.STAT.RING l) = 1 → t = s.healNow l →
    t.get (Reg.LNK.STAT.RING l) = 0 ∧ t.get64 (Reg.LNK.SEG_B_LO.MASK l) (Reg.LNK.SEG_B_HI.MASK l) = 0 ∧
      t.isRaised (page .lnk l) 0 ∧ t.isRaised (page .lnk l) 3 ∧
      t.link l = { s.link l with healDue := false, frameB := some (.carrier s.tick) } ∧ (∀ k, k ≠ l.val → t.link k = s.link k) ∧
      t = { s with regs := t.regs, lnk := t.lnk } ∧
      FieldsKept [Reg.LNK.STAT.RING l, Reg.LNK.SEG_B_LO.MASK l, Reg.LNK.SEG_B_HI.MASK l, rawBit (page .lnk l) 0,
        rawBit (page .lnk l) 3] s t) ∧
  (∀ (t8 : Byte) (c : List Byte), c.length = 20 → cellOf (frameSymbols commaUp (t8 :: c)) = some c) ∧
  (∀ (l : LinkNo) (endB : Bool) (age : Fin 256) (f : UpFrame) (s : State), s.lnkState l ≠ 0 →
    ∃ t, exec (.upFrameReceive l endB age f) s = .next t ∧
      t.link l = { s.link l with inbox := (s.link l).inbox ++ [⟨endB, s.tick - age, f⟩] } ∧
      (∀ k, k ≠ l.val → t.link k = s.link k) ∧ t = { s with lnk := t.lnk }) ∧
  (∀ (l : LinkNo) (w : UpWait) (invalid : Bool) (r : FieldRef) (s t : State), s.lnkState l ≠ 0 →
    (invalid = false ∧ w.frame = .missing ∧ r = (if w.endB then Reg.LNK.ERR_B.MISS l else Reg.LNK.ERR_A.MISS l)) ∨
      (invalid = true ∧ (∃ m, w.frame = .received m ∧ cellOf m = none) ∧
        r = (if w.endB then Reg.LNK.ERR_B.CRC l else Reg.LNK.ERR_A.CRC l)) →
    t = s.upWork l w →
    t.get r = min 65535 (s.get r + 1) ∧ (invalid = true → t.isRaised (page .lnk l) 8) ∧ OneCart 0x25 s.provCls (st0 w.tick) s t ∧
      t = { s with regs := t.regs, carts := t.carts, recd := { s.recd with seq := t.recd.seq } } ∧
      FieldsKept [r, Reg.HEAD.PG_ERRCNT.COUNT (page .lnk l), rawBit (page .lnk l) 8] s t) ∧
  (∀ (l : LinkNo) (endB : Bool) (tick : Nat) (node : Fin 64) (q st faults : Byte) (c : List Byte) (m : List Symbol) (s t : State),
    s.lnkState l = 5 → s.get (Reg.LNK.REC_CFG.STAT_EN l) = 0 →
    (((s.link l).nodes.get (fun _ => LNode.reset) node).seq = none ∨
      ((s.link l).nodes.get (fun _ => LNode.reset) node).seq = some ((q.toNat + 255) % 256)) →
    cellOf m = some (BitVec.ofNat 8 (64 + node) :: q :: st :: faults :: c) → t = s.upWork l ⟨endB, tick, .received m⟩ →
    (t.link l).nodes.get (fun _ => LNode.reset) node = { (s.link l).nodes.get (fun _ => LNode.reset) node with
        seq := some q.toNat, nstate := st.toNat, faults := faults.toNat } ∧
      t.link l = { s.link l with nodes := (t.link l).nodes } ∧
      (∀ m, m ≠ node.val → (t.link l).nodes.get (fun _ => LNode.reset) m = (s.link l).nodes.get (fun _ => LNode.reset) m) ∧
      (faults ≠ 0 ∨ st = 4 → t.isRaised (page .lnk l) 10) ∧ (∀ k, k ≠ l.val → t.link k = s.link k) ∧
      t = { s with regs := t.regs, lnk := t.lnk } ∧ FieldsKept [rawBit (page .lnk l) 10] s t)

/-! ### The placement engine -/

/-- R195, R196: with the engine idle, COMPACT of a fabric that lies below the level's limit enters COMPACTING and holds a lower
level, or is refused with NO_ROOM when R190 fails there; EVAC of an ACTIVE coach that is empty enters EVACUATING, or waits in
the ledger behind a step down; TEST and RESTORE take the coaches that Table 6-3 allows. R187, R195, R196: the work of the engine
ends: a compaction with every carriage below the limit is DONE; an evacuated coach that is empty enters MAINT, untested; a coach
under test enters MAINT as tested, or SHUTTERED with TEST_FAIL; placement work that has waited 4 096 ticks is promoted and
counted, once. -/
def Obligations.PlacementCommands : Prop :=
  (∀ (d : DoorNo) (l : Fin 3) (s : State), s.accepts d .plc 0 0x40 → s.get Reg.PLC.STAT.STATE = 0 →
    (s.compactAt (levelLimit l) = true → (levelLimit l < s.kLimit → s.fitsAll (levelLimit l) = true) →
      ∃ t, exec (.compact d l) s = .next t ∧ t.get Reg.PLC.STAT.STATE = 2 ∧ t.get Reg.PLC.STAT.ARG = l ∧
        (levelLimit l < s.kLimit → t.get Reg.PLC.STAT.HOLD_EN = 1 ∧ t.get Reg.PLC.STAT.HOLD_LVL = l) ∧
        (l = 0 → t.get Reg.PLC.STAT.HOLD_EN = 0) ∧
        OnlyFields [Reg.PLC.CMD.ARG, Reg.PLC.STAT.STATE, Reg.PLC.STAT.ARG, Reg.PLC.STAT.HOLD_EN, Reg.PLC.STAT.HOLD_LVL] s t) ∧
    (levelLimit l < s.kLimit → s.fitsAll (levelLimit l) = false →
      ∃ t, exec (.compact d l) s = .next t ∧ t.get Reg.PLC.STAT.RESULT = 2 ∧ t.get Reg.PLC.STAT.STATE = 0 ∧
        t.isRaised (page .plc 0) 1 ∧ t.isRaised (page .plc 0) 3 ∧
        OnlyFields [Reg.PLC.CMD.ARG, Reg.PLC.STAT.RESULT, Reg.PLC.STAT.STATE, Reg.PLC.STAT.ARG, rawBit (page .plc 0) 1,
          rawBit (page .plc 0) 3] s t)) ∧
  (∀ (d : DoorNo) (c : CoachNo) (s : State), s.accepts d .plc 0 0x40 → s.get Reg.PLC.STAT.STATE = 0 → (s.coach c).state = 0 →
    (s.active kDvfs = false → (∀ e ∈ s.fabric.carr, coachOf e.1 ≠ c) →
      ∃ t, exec (.evac d c) s = .next t ∧ t.get Reg.PLC.STAT.STATE = 3 ∧ t.get Reg.PLC.STAT.ARG = c ∧ t.active kEvac = true ∧
        t.coach c = { s.coach c with state := 1, cause := 7, tested := false } ∧ (∀ k, k ≠ c.val → t.coach k = s.coach k) ∧
        t = { s with regs := t.regs, fabric := { s.fabric with coach := t.fabric.coach } } ∧
        FieldsKept [Reg.PLC.CMD.ARG, Reg.PLC.STAT.STATE, Reg.PLC.STAT.ARG, Reg.FLT.LEDGER.ACTIVE] s t) ∧
    (s.active kDvfs = true →
      ∃ t, exec (.evac d c) s = .next t ∧ t.get Reg.PLC.STAT.STATE = 5 ∧ t.get Reg.PLC.STAT.RESULT = 3 ∧
        t.get Reg.PLC.STAT.ARG = c ∧ t.isQueued kEvac = true ∧ t.isRaised (page .flt 0) 4 ∧
        t = { s with regs := t.regs, flt := { s.flt with queue := s.flt.queue ++ [⟨kEvac, 7 * 2048 + c, d⟩] } } ∧
        FieldsKept [Reg.PLC.CMD.ARG, Reg.PLC.STAT.STATE, Reg.PLC.STAT.RESULT, Reg.PLC.STAT.ARG, Reg.FLT.LEDGER.QUEUED,
          rawBit (page .flt 0) 4] s t)) ∧
  (∀ (d : DoorNo) (c : CoachNo) (s : State), s.accepts d .plc 0 0x40 → s.get Reg.PLC.STAT.STATE = 0 →
    ((s.coach c).state = 2 ∨ ((s.coach c).state = 4 ∧ ((s.coach c).cause = 2 ∨ (s.coach c).cause = 3 ∨ (s.coach c).cause = 5)) →
      ∃ t, exec (.test d c) s = .next t ∧ t.get Reg.PLC.STAT.STATE = 4 ∧ t.get Reg.PLC.STAT.ARG = c ∧
        t.coach c = { s.coach c with state := 3 } ∧ (∀ k, k ≠ c.val → t.coach k = s.coach k) ∧
        t = { s with regs := t.regs, fabric := { s.fabric with coach := t.fabric.coach } } ∧
        FieldsKept [Reg.PLC.CMD.ARG, Reg.PLC.STAT.STATE, Reg.PLC.STAT.ARG] s t) ∧
    ((s.coach c).state = 2 → (s.coach c).tested = true →
      ∃ t, exec (.restore d c) s = .next t ∧ t.get Reg.PLC.STAT.RESULT = 0 ∧ t.get Reg.PLC.STAT.STATE = 0 ∧
        t.isRaised (page .plc 0) 0 ∧ t.coach c = { Coach.reset with ce := (s.coach c).ce } ∧
        (∀ k, k ≠ c.val → t.coach k = s.coach k) ∧
        t = { s with regs := t.regs, fabric := { s.fabric with coach := t.fabric.coach } } ∧
        FieldsKept [Reg.PLC.CMD.ARG, Reg.PLC.STAT.STATE, Reg.PLC.STAT.RESULT, Reg.PLC.STAT.ARG, rawBit (page .plc 0) 0] s t) ∧
    ((s.coach c).state = 2 → (s.coach c).tested = false →
      ∃ t, exec (.restore d c) s = .next t ∧ t.get Reg.PLC.STAT.RESULT = 5 ∧ t.isRaised (page .plc 0) 1 ∧
        OnlyFields [Reg.PLC.CMD.ARG, Reg.PLC.STAT.STATE, Reg.PLC.STAT.RESULT, Reg.PLC.STAT.ARG, rawBit (page .plc 0) 1] s t)) ∧
  (∀ s : State, s.get Reg.PLC.STAT.STATE = 2 → s.compactAt (levelLimit (s.get Reg.PLC.STAT.ARG)) = true →
    ∃ t, exec .compactDone s = .next t ∧ t.get Reg.PLC.STAT.RESULT = 0 ∧ t.get Reg.PLC.STAT.STATE = 0 ∧ t.isRaised (page .plc 0) 0 ∧
      OnlyFields [Reg.PLC.STAT.RESULT, Reg.PLC.STAT.STATE, rawBit (page .plc 0) 0] s t) ∧
  (∀ (c : Nat) (s : State), s.get Reg.PLC.STAT.STATE = 3 → s.get Reg.PLC.STAT.ARG = c → (∀ e ∈ s.fabric.carr, coachOf e.1 ≠ c) →
    ∃ t, exec .evacDone s = .next t ∧ t.coach c = { s.coach c with state := 2, tested := false } ∧
      (∀ k, k ≠ c → t.coach k = s.coach k) ∧ t.get Reg.PLC.STAT.RESULT = 0 ∧ t.get Reg.PLC.STAT.STATE = 0 ∧
      t.isRaised (page .plc 0) 0 ∧ t.isRaised (page .scn 0) 0 ∧ t.active kEvac = false ∧
      t = { s with regs := t.regs, fabric := { s.fabric with coach := t.fabric.coach } } ∧
      FieldsKept [Reg.PLC.STAT.RESULT, Reg.PLC.STAT.STATE, Reg.FLT.LEDGER.ACTIVE, rawBit (page .plc 0) 0,
        rawBit (page .scn 0) 0] s t) ∧
  (∀ (passed : Bool) (c : Nat) (s : State), s.get Reg.PLC.STAT.STATE = 4 → s.get Reg.PLC.STAT.ARG = c →
    ∃ t, exec (.testDone passed) s = .next t ∧
      t.coach c = (if passed then { s.coach c with state := 2, tested := true }
        else { s.coach c with state := 4, cause := 5, tested := false }) ∧
      (∀ k, k ≠ c → t.coach k = s.coach k) ∧ t.get Reg.PLC.STAT.RESULT = (if passed then 0 else 5) ∧
      t.get Reg.PLC.STAT.STATE = 0 ∧ t.isRaised (page .plc 0) (if passed then 0 else 1) ∧
      t = { s with regs := t.regs, fabric := { s.fabric with coach := t.fabric.coach } } ∧
      FieldsKept [Reg.PLC.STAT.RESULT, Reg.PLC.STAT.STATE, rawBit (page .plc 0) 0, rawBit (page .plc 0) 1] s t) ∧
  (∀ (c : CoachNo) (s : State), (s.coach c).promoted = true → exec (.placementPromote c) s = .next s) ∧
  (∀ (c : CoachNo) (w : Nat) (s : State), (s.coach c).waitFrom = some w → w + 4096 ≤ s.tick → (s.coach c).promoted = false →
    ∃ t, exec (.placementPromote c) s = .next t ∧ t.coach c = { s.coach c with promoted := true } ∧
      (∀ k, k ≠ c.val → t.coach k = s.coach k) ∧
      t.get Reg.PLC.PROMOTE_CNT.COUNT = min (2 ^ 32 - 1) (s.get Reg.PLC.PROMOTE_CNT.COUNT + 1) ∧ t.isRaised (page .plc 0) 5 ∧
      t = { s with regs := t.regs, fabric := { s.fabric with coach := t.fabric.coach } } ∧
      FieldsKept [Reg.PLC.PROMOTE_CNT.COUNT, rawBit (page .plc 0) 5] s t)

/-- R193, R194: at the tick about to begin the map switch gives the destination of a complete copy what its source held and
empties the source, which reads as before in that tick; a new twin joins as CHECKER beside the DRIVER and, as the last one,
raises RECREATED; a copy that is not complete does not switch; the engine reserves an entry for the new twin of a slot left
single in a domain that holds none of its carriages, or shows DEGRADED with NO_ROOM. -/
def Obligations.MovesAndTwins : Prop :=
  (∀ (a b : Nat) (twin : Bool) (c : Carriage) (s : State), s.clk.running = true → s.fabric.moves ≠ [] →
    s.nextTick.fabric.moves = [⟨a, b, twin, 0, 0⟩] → a ≠ b → s.nextTick.carriage a = c →
    s.nextTick.fabric.recreate = (if twin then [c.handle] else []) →
    ∃ t, exec (.mapSwitch []) s = .next t ∧ t.tick = s.tick ∧
      t.carriage b = { c with role := if twin then 2 else c.role, reserved := false } ∧
      t.carriage a = (if twin then { c with role := 1 } else Carriage.empty) ∧
      (∀ k, k ≠ a → k ≠ b → t.carriage k = s.nextTick.carriage k) ∧ t.fabric.moves = [] ∧ t.fabric.recreate = [] ∧
      (twin = true → t.isRaised (page .plc 0) 2 ∧ t.get Reg.SCN.STAT.DEGRADED = 0) ∧
      (twin = false → t.get Reg.SCN.STAT.DEGRADED = s.nextTick.get Reg.SCN.STAT.DEGRADED) ∧
      t.fabric.left = (if twin then s.nextTick.fabric.left else s.nextTick.fabric.left.insert a (s.tick + 1, c)) ∧
      t.get Reg.PLC.MAP_SWITCH_CNT.COUNT = min (2 ^ 32 - 1) (s.nextTick.get Reg.PLC.MAP_SWITCH_CNT.COUNT + 1) ∧
      t.get64 Reg.PLC.LAST_SWITCH_LO.TICK Reg.PLC.LAST_SWITCH_HI.TICK = (s.tick + 1) % 2 ^ 64 ∧
      t = { s.nextTick with tick := s.tick, pending := s.pending, regs := t.regs, fabric := { s.nextTick.fabric with
        carr := t.fabric.carr, moves := t.fabric.moves, recreate := t.fabric.recreate, left := t.fabric.left } } ∧
      FieldsKept [Reg.SCN.STAT.DEGRADED, Reg.PLC.MAP_SWITCH_CNT.COUNT, Reg.PLC.LAST_SWITCH_LO.TICK, Reg.PLC.LAST_SWITCH_HI.TICK,
        rawBit (page .plc 0) 2] s.nextTick t) ∧
  (∀ s : State, s.clk.running = true → s.fabric.moves ≠ [] → (∀ m ∈ s.nextTick.fabric.moves, m.reads ≠ 0 ∨ m.writes ≠ 0) →
    exec (.mapSwitch []) s = .next { s.nextTick with tick := s.tick, pending := s.pending }) ∧
  (∀ (h a : Nat) (c : Carriage) (s : State), s.fabric.recreate = [h] → s.fabric.moves = [] →
    s.carriageWith h (fun r => r == 1) = some (a, c) →
    ∃ t, exec .twinRecreate s = .next t ∧
      (∀ y, s.placeOne 0 h c.wheel true (s.domainsOf h) = some y →
        t.fabric.moves = [⟨a, y.2, true, 2, 2⟩] ∧ domainOf (coachOf y.2) ∉ s.domainsOf h ∧ s.carriage y.2 = Carriage.empty ∧
          t.get Reg.SCN.STAT.DEGRADED = 0 ∧
          t.carriage y.2 = ⟨0, h, c.wheel, true⟩ ∧ (∀ k, k ≠ y.2 → t.carriage k = s.carriage k) ∧
          t = { s with regs := t.regs, fabric := { s.fabric with carr := t.fabric.carr, moves := t.fabric.moves } } ∧
          FieldsKept [Reg.SCN.STAT.DEGRADED, rawBit (page .plc 0) 4] s t) ∧
      (s.placeOne 0 h c.wheel true (s.domainsOf h) = none →
        t.get Reg.SCN.STAT.DEGRADED = 1 ∧ t.isRaised (page .plc 0) 3 ∧
          OnlyFields [Reg.SCN.STAT.DEGRADED, rawBit (page .plc 0) 3] s t))

/-! ### Faults and the ledger -/

/-- R377 to R379: a fault of a function that exists, for a cause of its kind, is logged with action SHUTTERED and its shutter
waits for the next Apply; DOOR_PATH is logged and gives a door that is not DOWN the cause FAULT, or is held for a door that is
DOWN. -/
def Obligations.FaultsAreLoggedThenShuttered : Prop :=
  (∀ (i : Instr) (f : FnKind) (n : Fin 64) (cause : Nat) (r : FaultReport) (s : State), s.clockOn = true → fnExists f n = true →
    (fnCauses f).contains cause = true →
    (i = .lockstep f n ∧ cause = 2) ∨ (i = .gateReadback n ∧ f = .drv ∧ cause = 3) ∨
      (∃ u : AdcNo, i = .refMon u ∧ f = .adc ∧ n.val = u.val ∧ cause = 4) ∨
      (∃ l : LinkNo, i = .noFrames l ∧ f = .lnk ∧ n.val = l.val ∧ cause = 5 ∧ (s.lnkState l = 5 ∨ s.lnkState l = 6)) ∨
      (i = .faultReport r ∧ r.cause.toNat = cause ∧ r.block.toNat = (fnBlock f).code ∧ r.inst.toNat = n) →
    ∃ t, exec i s = .next t ∧ t.flt.shutPend = s.flt.shutPend ++ [⟨fnPage f n, cause⟩] ∧
      Logged cause (fnBlock f).code n aShuttered 0 s { t with flt := { t.flt with shutPend := s.flt.shutPend } } ∧
      t.isRaised (page .flt 0) 1 ∧ t.get Reg.FLT.SHUT_CNT.COUNT = min (2 ^ 32 - 1) (s.get Reg.FLT.SHUT_CNT.COUNT + 1) ∧
      t = { s with regs := t.regs, flt := t.flt } ∧ FieldsKept logFields s t) ∧
  (∀ (d : DoorNo) (s : State), s.clockOn = true → s.doorState d < 3 →
    ∃ t, exec (.doorPath d) s = .next t ∧ Logged 0x06 0x60 d aShuttered d s t ∧
      t.door d = (if s.doorState d = 0 then { s.door d with heldFault := true }
        else { s.door d with causes := insertNat 5 (s.door d).causes }) ∧
      (∀ e, e ≠ d.val → t.door e = s.door e) ∧ t = { s with regs := t.regs, flt := t.flt, doors := t.doors } ∧
      FieldsKept logFields s t)

/-- R382: a host's shutter of a function sets SHUT, logs nothing and writes no fault marker, but for the shutter of FLT, which
does both; a drive channel shows cause HOST and is fenced one boundary later; a page that is shuttered already, or has no
shutter, stays as it is. -/
def Obligations.HostShuttersAreNoFaults : Prop :=
  (∀ (f : FnKind) (n : Fin 64) (s : State), s.scanning = true → fnExists f n = true → (fnBlock f).hasShutter = true →
    s.shut (fnPage f n) = false →
    ∃ t, exec (.hostShutter f n) s = .next t ∧ t.shut (fnPage f n) = true ∧ t.flt.log = s.flt.log ∧
      t.get Reg.FLT.LOG_COUNT.COUNT = s.get Reg.FLT.LOG_COUNT.COUNT ∧
      (∀ c ∈ t.carts, c.typ = 0x15 → c ∈ s.carts) ∧
      (f = .drv → t.get (Reg.DRV.STAT.SHUT_CAUSE n) =
          (if s.get (Reg.DRV.STAT.SHUT_CAUSE n) = 0 ∨ (s.drive n).fenceNext = some false then 2
            else s.get (Reg.DRV.STAT.SHUT_CAUSE n)) ∧
        t.drive n = { s.drive n with fenceNext := some true } ∧ (∀ k, k ≠ n.val → t.drive k = s.drive k) ∧
        t = { s with regs := t.regs, drv := t.drv } ∧
        FieldsKept [Reg.HEAD.PG_SHUTTER.SHUT (fnPage f n), Reg.DRV.STAT.SHUT_CAUSE n] s t)) ∧
  (∀ (f : FnKind) (n : Fin 64) (s : State), (fnBlock f).hasShutter = false ∨ s.shut (fnPage f n) = true →
    exec (.hostShutter f n) s = .next s) ∧
  (∀ s : State, s.devState = 7 → (∀ l, l < 16 → s.lnkState l ≠ 6) →
    ∃ t, exec .deviceHostShutter s = .next t ∧ t.shut (page .flt 0) = true ∧ Logged 0x26 0x05 0 aDevice 0 s t ∧
      MarkerCart 0x15 s.markerCls (st0 (s.tick + 1)) s t)

/-- R378, R380, R381: the first mismatch of a pair of the fault manager retires it with FM_SINGLE and leaves the device as it
was, and with no pair left nothing more happens; a release that the function's own check allows clears SHUT and FAULT, one that
it does not keeps them and is logged anew, a BIST shutter is not released, and a page that is not shuttered, or has no shutter,
has nothing to release. -/
def Obligations.PairsRetireAndShuttersAreReleased : Prop :=
  (∀ s : State, s.clockOn = true → s.flt.pairs = 2 →
    ∃ t, exec .fmPair s = .next t ∧ t.flt.pairs = 1 ∧ t.get Reg.FLT.DEV_FAULT.FM_SINGLE = 1 ∧ t.isRaised (page .flt 0) 3 ∧
      Logged 0x24 0x05 0 aCounted 0 { s with flt := { s.flt with pairs := 1 } } t ∧ t = { s with regs := t.regs, flt := t.flt } ∧
      FieldsKept (Reg.FLT.DEV_FAULT.FM_SINGLE :: rawBit (page .flt 0) 3 :: logFields) s t) ∧
  (∀ s : State, s.flt.pairs = 0 → exec .fmPair s = .next s) ∧
  (∀ (f : FnKind) (n : Fin 64) (sound : Bool) (s : State), (fnBlock f).hasShutter = false → exec (.shutterRelease f n sound) s = .next s) ∧
  (∀ (f : FnKind) (n : Fin 64) (sound : Bool) (s : State), s.scanning = true → fnExists f n = true → (fnBlock f).hasShutter = true →
    (s.shut (fnPage f n) = false ∨ s.pageCause (fnPage f n) = 7 → exec (.shutterRelease f n sound) s = .next s) ∧
    (s.shut (fnPage f n) = true → s.pageCause (fnPage f n) ≠ 7 → sound = true →
      ∃ t, exec (.shutterRelease f n sound) s = .next t ∧ t.shut (fnPage f n) = false ∧
        t.get (Reg.HEAD.PG_SHUTTER.FAULT (fnPage f n)) = 0 ∧ t.pageCause (fnPage f n) = 0 ∧ t.flt.log = s.flt.log ∧
        (f = .drv → t.drive n = { s.drive n with fenceNext := some false } ∧ (∀ k, k ≠ n.val → t.drive k = s.drive k) ∧
          t = { s with regs := t.regs, drv := t.drv, flt := { s.flt with pageCause := t.flt.pageCause } } ∧
          FieldsKept [Reg.HEAD.PG_SHUTTER.SHUT (fnPage f n), Reg.HEAD.PG_SHUTTER.FAULT (fnPage f n)] s t)) ∧
    (s.shut (fnPage f n) = true → s.pageCause (fnPage f n) ≠ 7 → sound = false →
      ∃ t, exec (.shutterRelease f n sound) s = .next t ∧ t.shut (fnPage f n) = true ∧
        t.get (Reg.HEAD.PG_SHUTTER.FAULT (fnPage f n)) = 1 ∧
        t.flt.log = s.flt.log.insert (s.get Reg.FLT.LOG_COUNT.COUNT % 64)
          ⟨t.pageCause (fnPage f n), (fnBlock f).code, n, aShuttered, s.tick, 0⟩ ∧
        t = { s with regs := t.regs, flt := { s.flt with log := t.flt.log, pageCause := t.flt.pageCause } } ∧
        FieldsKept (Reg.HEAD.PG_SHUTTER.FAULT (fnPage f n) :: logFields) s t))

/-- R383: a monitor of a domain that holds no carriage trips: every coach of the domain in service is SHUTTERED with cause
DOMAIN, in this tick, DOMAIN_SHUT and DOM_CAUSE show it, DOMAIN is raised, the log entry has action ABSORBED; no other coach
changes. -/
def Obligations.DomainMonitorShuttersItsDomain : Prop :=
  ∀ (dom : Fin 16) (m : DomCause) (code : Nat) (s : State), code = (match m with | .supply => 1 | .clock => 2 | .bcast => 3) →
    hasBit (s.get Reg.SCN.DOMAIN_SHUT.MASK) dom = false → (∀ e ∈ s.fabric.carr, domainOf (coachOf e.1) ≠ dom) →
    (∀ x ∈ s.fabric.moves, domainOf (coachOf x.src) ≠ dom ∧ domainOf (coachOf x.dst) ≠ dom) → s.get Reg.PLC.STAT.STATE ≠ 3 →
    ∃ t, exec (.domainMonitorTrip dom m) s = .next t ∧
      (∀ c, domainOf c = dom → s.inService c = true → t.coach c = { Coach.reset with
        state := 4, cause := 4, ce := (s.coach c).ce, ceWin := (s.coach c).ceWin, ceWinAt := (s.coach c).ceWinAt }) ∧
      (∀ c, domainOf c ≠ dom ∨ s.inService c = false → t.coach c = s.coach c) ∧
      (∀ k, k < 16 → hasBit (t.get Reg.SCN.DOMAIN_SHUT.MASK) k = (hasBit (s.get Reg.SCN.DOMAIN_SHUT.MASK) k || k == dom.val)) ∧
      (dom.val < 8 → nibble (t.get Reg.FLT.DOM_CAUSE_LO.CAUSE) dom = code) ∧
      (8 ≤ dom.val → nibble (t.get Reg.FLT.DOM_CAUSE_HI.CAUSE) (dom - 8) = code) ∧
      t.isRaised (page .flt 0) 6 ∧ t.isRaised (page .scn 0) 0 ∧ Logged (0x12 + code) 0x20 dom aAbsorbed dom s t ∧
      t = { s with regs := t.regs, flt := t.flt, fabric := { s.fabric with coach := t.fabric.coach } } ∧
      FieldsKept (Reg.SCN.DOMAIN_SHUT.MASK :: Reg.FLT.DOM_CAUSE_LO.CAUSE :: Reg.FLT.DOM_CAUSE_HI.CAUSE :: rawBit (page .flt 0) 6 ::
        rawBit (page .scn 0) 0 :: logFields) s t

/-- R378, R385, R386, Table 14-1 row 2: a host's commit of the FLT shutter, VCORE_OK low outside a DVFS transition, and the
mismatch of the fault manager's last pair take a device that is not in RUN to SHUTTERED with their cause: LOAD_CAUSE DEVICE,
DEV_FAULT, DEV_SHUT, one log entry and one marker, of a wake the image invalid; in SHUTTERED already the last is logged and
marked. A core that is no longer alive leaves every gate and LOC.Q low and every LOC.G at its safe level. -/
def Obligations.DeviceIsFenced : Prop :=
  (∀ (i : Instr) (fc n : Nat) (s u : State),
    (i = .deviceHostShutter ∧ fc = 0x26 ∧ n = s.tick + 1 ∧ u = s) ∨
      (i = .supplyFault ∧ s.get Reg.FLT.DEV_FAULT.SUPPLY_LOW = 1 ∧ s.clk.dvfs = none ∧ fc = 0x23 ∧ n = s.tick ∧ u = s) ∨
      (i = .fmPair ∧ s.flt.pairs = 1 ∧ fc = 0x25 ∧ n = s.tick + 1 ∧ u = { s with flt := { s.flt with pairs := 0 } }) →
    (s.devState = 3 ∨ s.devState = 4 ∨ s.devState = 5 ∨ s.devState = 7 → (∀ l, l < 16 → s.lnkState l ≠ 6) →
      ∃ t, exec i s = .next t ∧ t.devState = 6 ∧ t.get Reg.PRF.STAT.LOAD_CAUSE = 9 ∧ t.get Reg.FLT.DEV_FAULT.CAUSE = fc ∧
        t.get Reg.FLT.DEV_FAULT.DEV_SHUT = 1 ∧ t.isRaised (page .flt 0) 2 ∧ t.isRaised (page .glb 0) 0 ∧
        (i = .deviceHostShutter → t.shut (page .flt 0) = true) ∧
        (s.power.waking = true → t.isRaised (page .prf 0) 5) ∧
        t.power = { s.power with waking := false, image := !s.power.waking && s.power.image,
                                 epochDue := s.power.waking || s.power.epochDue } ∧
        Logged fc (devBlock fc) 0 aDevice 0 u t ∧ MarkerCart 0x15 s.markerCls (st0 n) s t ∧
        t = { s with regs := t.regs, flt := t.flt, power := t.power, carts := t.carts, recd := { s.recd with seq := t.recd.seq } } ∧
        FieldsKept (Reg.HEAD.PG_SHUTTER.SHUT (page .flt 0) :: Reg.GLB.DEV_STATE.STATE :: Reg.PRF.STAT.LOAD_CAUSE ::
          Reg.PRF.STAT.STOPPING :: Reg.FLT.DEV_FAULT.CAUSE :: Reg.FLT.DEV_FAULT.DEV_SHUT :: rawBit (page .flt 0) 2 ::
          rawBit (page .glb 0) 0 :: rawBit (page .prf 0) 5 :: logFields) s t) ∧
    (s.devState = 6 → i = .fmPair →
      ∃ t, exec i s = .next t ∧ t.isRaised (page .flt 0) 2 ∧ Logged fc (devBlock fc) 0 aDevice 0 u t ∧
        MarkerCart 0x15 s.markerCls (st0 n) s t ∧
        t = { s with regs := t.regs, flt := t.flt, carts := t.carts, recd := { s.recd with seq := t.recd.seq } } ∧
        FieldsKept (Reg.FLT.DEV_FAULT.CAUSE :: Reg.FLT.DEV_FAULT.DEV_SHUT :: rawBit (page .flt 0) 2 :: logFields) s t)) ∧
  (∀ s : State, ∃ t, exec .coreAliveTimeout s = .next t ∧ t.flt = { s.flt with ioSafe := true } ∧
    (∀ e ∈ s.drv, t.get (Reg.DRV.STAT.GATE e.1) = 0) ∧
    (∀ a ∈ s.liveEndpoints, epIsQ a = true ∨ epIsG a = true →
      (t.ep a).level = s.safePin a ∧ (t.ep a).demands = [] ∧ (t.ep a).points = []) ∧
    (∀ a, a ∉ s.liveEndpoints ∨ (epIsQ a = false ∧ epIsG a = false) → t.ep a = s.ep a) ∧
    t = { s with regs := t.regs, flt := t.flt, eps := t.eps, edges := t.edges } ∧
    FieldsKept (s.drv.map (fun e => Reg.DRV.STAT.GATE e.1)) s t)

/-- R391, R392: a drive retirement or volume scrub that is neither active nor queued is active at once, or, while the other is
active, waits with LEDGER_QUEUED; its end leaves the ledger; a queued one is released, with LEDGER_RELEASED, when its rival is
no longer active and not before. -/
def Obligations.LedgerSerialisesRecorderWork : Prop :=
  (∀ (i : Instr) (k : Nat) (s : State), (i = .driveRetirement ∧ k = kRetire) ∨ (i = .volumeScrub ∧ k = kScrub) → s.clockOn = true →
    s.active k = false → s.isQueued k = false →
    (s.active (kRival k) = false →
      ∃ t, exec i s = .next t ∧ t.active k = true ∧ (∀ j, j < 6 → j ≠ k → t.active j = s.active j) ∧
        OnlyFields [Reg.FLT.LEDGER.ACTIVE] s t) ∧
    (s.active (kRival k) = true →
      ∃ t, exec i s = .next t ∧ t.isQueued k = true ∧ t.isRaised (page .flt 0) 4 ∧
        t = { s with regs := t.regs, flt := { s.flt with queue := s.flt.queue ++ [⟨k, 0, 0⟩] } } ∧
        FieldsKept [Reg.FLT.LEDGER.QUEUED, rawBit (page .flt 0) 4] s t)) ∧
  (∀ (i : Instr) (k : Nat) (s : State), (i = .driveRetirementEnd ∧ k = kRetire) ∨ (i = .volumeScrubEnd ∧ k = kScrub) →
    ∃ t, exec i s = .next t ∧ t.active k = false ∧ (∀ j, j < 6 → j ≠ k → t.active j = s.active j) ∧
      OnlyFields [Reg.FLT.LEDGER.ACTIVE] s t) ∧
  (∀ (k : Fin 6) (w : WheelNo) (h : Held) (s : State), k.val = kRetire ∨ k.val = kScrub →
    s.flt.queue.find? (fun x => x.kind == k.val) = some h →
    (s.active (kRival k) = true → exec (.ledgerRelease k w) s = .next s) ∧
    (s.active (kRival k) = false →
      ∃ t, exec (.ledgerRelease k w) s = .next t ∧ t.active k = true ∧ t.isRaised (page .flt 0) 5 ∧ h ∉ t.flt.queue ∧
        t = { s with regs := t.regs, flt := { s.flt with queue := t.flt.queue } } ∧
        FieldsKept [Reg.FLT.LEDGER.ACTIVE, Reg.FLT.LEDGER.QUEUED, rawBit (page .flt 0) 5] s t))

/-! ### Power, start-up, profiles and the flash -/

/-- R348 to R350: the always-on supply takes the device from OFF to STANDBY; the main supply takes it to RESET, where with a
valid image every register listed is what is retained of it, and without one everything is at its reset value; the main supply
goes first in STANDBY, and elsewhere takes the main domain's state with it; the always-on supply goes last, to OFF. A breach of
R348's order stops the model. -/
def Obligations.SuppliesComeAndGo : Prop :=
  (∀ s : State, s.power.aonOn = false →
    ∃ t, exec .aonPowerUp s = .next t ∧ t.devState = 1 ∧
      t = { s with regs := t.regs, power := { s.power with aonOn := true, image := false, waking := false } } ∧
      FieldsKept [Reg.GLB.DEV_STATE.STATE] s t) ∧
  (∀ s : State, s.power.mainOn = false →
    (s.power.aonOn = false ∨ s.power.rstN = true → exec .mainPowerUp s = .fault .supplyOrder) ∧
    (s.power.aonOn = true → s.power.rstN = false → s.power.image = false →
      ∃ t, exec .mainPowerUp s = .next t ∧ t.devState = 2 ∧ t.power.mainOn = true ∧ Blanked [] s t) ∧
    (s.power.aonOn = true → s.power.rstN = false → s.power.image = true →
      ∃ t, exec .mainPowerUp s = .next t ∧ t.devState = 2 ∧ t.power.mainOn = true ∧ t.power.image = true ∧ t.power.waking = true ∧
        t.tick = s.tick ∧ t.slots = [] ∧ t.clk.htOfs = s.clk.htOfs ∧ t.irq.srcs = s.irq.srcs ∧ t.irq.grps = s.irq.grps ∧
        ∀ a v, a ≠ Reg.GLB.DEV_STATE.STATE.addr → a ≠ Reg.PWR.SLOW_STAT.VALID.addr →
          ((a, v) ∈ t.regs ↔ ∃ w, (a, w) ∈ s.regs ∧ v = retainedReg a w ∧ v ≠ regReset a))) ∧
  (∀ s : State, s.power.mainOn = true →
    exec .aonPowerLoss s = .fault .supplyOrder ∧
    (s.devState = 1 → exec .mainPowerLoss s = .next { s with power := { s.power with mainOn := false } }) ∧
    (3 ≤ s.devState → ∃ t, exec .mainPowerLoss s = .next t ∧ t.devState = 2 ∧ t.power.mainOn = false ∧
      Blanked [] { s with edges := s.ringSafe.edges } t) ∧
    (s.devState = 2 → s.power.image = false →
      ∃ t, exec .mainPowerLoss s = .next t ∧ t.devState = 2 ∧ t.power.mainOn = false ∧ Blanked [] s t)) ∧
  (∀ s : State, s.power.mainOn = false →
    ∃ t, exec .aonPowerLoss s = .next t ∧ t.devState = 0 ∧ t.power.aonOn = false ∧ t.power.image = false ∧
      Blanked [Reg.GLB.DEV_STATE.STATE] s t)

/-- R349, R350, R57, R366: RST_N low, and CMD = RESET, bring the main domain to RESET; from there the release of RST_N enters
QUALIFY, with PROFILE sampled and every enabled reference counted, at a cold start with the tick at 0 and the sampled profile to
load, at a wake with the tick kept, WAKE shown and the profile that was loaded. R371: in STANDBY, with SLOWCLK valid and no wake
cause yet, the tick's reaching WAKE_AT with TIMER_EN, WAKE_IN_N with IN_EN and a rise of an enabled door's PERST# each set their
bit of WAKE_CAUSE, which drives PWR_REQ high; without its enable none does anything. -/
def Obligations.ResetReleaseAndWake : Prop :=
  (∀ (i : Instr) (s : State), i = .rstAssert ∧ ¬(s.devState = 1 ∧ s.power.image = true) ∨ i = .deviceResetCmd ∧ s.clockOn = true →
    s.power.rstN = true → s.power.mainOn = true →
    ∃ t, exec i s = .next t ∧ t.devState = 2 ∧ t.power.rstN = false ∧ Blanked [] s t) ∧
  (∀ (prof : Fin 8) (s : State), s.power.rstN = false → s.power.mainOn = true → s.devState = 2 →
    ∃ t, exec (.rstRelease prof) s = .next t ∧ t.devState = 3 ∧ t.get Reg.PRF.STAT.PIN_PROF = prof ∧ t.isRaised (page .glb 0) 0 ∧
      (∀ d : DoorNo, t.refState d = if s.trefEn d then 1 else s.refState d) ∧
      (s.power.image = false → t.tick = 0 ∧ t.power = { s.power with rstN := true, loadProf := prof }) ∧
      (s.power.image = true → t.tick = s.tick ∧ t.get Reg.PRF.STAT.WAKE = 1 ∧
        t.power = { s.power with rstN := true, loadProf := s.get Reg.PRF.STAT.PROF_LOADED } ∧
        (s.get Reg.PWR.SLOW_STAT.SLOW_LOST = 1 → t.get Reg.CLK.HT_STAT.HT_VALID = 0 ∧ t.isRaised (page .pwr 0) 3)) ∧
      t = { s with tick := t.tick, regs := t.regs, power := t.power } ∧
      FieldsKept [Reg.GLB.DEV_STATE.STATE, Reg.PRF.STAT.PIN_PROF, Reg.PRF.STAT.WAKE, Reg.CLK.REF_STAT.STATES,
        Reg.CLK.HT_STAT.HT_VALID, rawBit (page .glb 0) 0, rawBit (page .clk 0) 0, rawBit (page .pwr 0) 3] s t) ∧
  (∀ s : State, s.devState = 1 → s.power.draining = none → s.bit Reg.PWR.SLOW_STAT.VALID = true → Word.bits (s.reg 0x30C0) 7 0 = 0 →
    (s.bit Reg.PRF.WAKE_CFG.TIMER_EN = true → s.get64 Reg.PRF.WAKE_AT_LO.TICK Reg.PRF.WAKE_AT_HI.TICK ≤ s.tick →
      ∃ t, exec .wakeTimer s = .next t ∧ t.get Reg.PRF.WAKE_CAUSE.TIMER = 1 ∧ t.pwrReq = some true ∧
        OnlyFields [Reg.PRF.WAKE_CAUSE.TIMER] s t) ∧
    (s.bit Reg.PRF.WAKE_CFG.TIMER_EN = false → exec .wakeTimer s = .next s) ∧
    (s.bit Reg.PRF.WAKE_CFG.IN_EN = true →
      ∃ t, exec .wakeIn s = .next t ∧ t.get Reg.PRF.WAKE_CAUSE.IN = 1 ∧ t.pwrReq = some true ∧
        OnlyFields [Reg.PRF.WAKE_CAUSE.IN] s t) ∧
    (s.bit Reg.PRF.WAKE_CFG.IN_EN = false → exec .wakeIn s = .next s) ∧
    ∀ d : DoorNo,
      (hasBit (s.get Reg.PRF.WAKE_CFG.PERST_EN) d = true →
        ∃ t, exec (.wakePerst d) s = .next t ∧ t.get Reg.PRF.WAKE_CAUSE.PERST = 2 ^ d.val ∧ t.pwrReq = some true ∧
          OnlyFields [Reg.PRF.WAKE_CAUSE.PERST] s t) ∧
      (hasBit (s.get Reg.PRF.WAKE_CFG.PERST_EN) d = false → exec (.wakePerst d) s = .next s))

/-- R356, R358, R366, R376: in QUALIFY a flash that SFDP does not give as supported ends the start with FLASH_UNSUPPORTED, one
without a valid copy of the profile with PREAMBLE, and a valid preamble is applied and enters SELFTEST with VID at P2; a
self-test that is skipped enters LOAD, and one in which an essential item fails ends in SHUTTERED with CORE_FAIL, every failed
coach shuttered and logged. -/
def Obligations.QualifyAndSelfTest : Prop :=
  (∀ (density : Option (Fin 64)) (s : State), s.devState = 3 → s.clk.running = true → s.power.waking = false →
    (∀ n, density = some n → n.val < 26 ∨ 29 < n.val) →
    ∃ t, exec (.preambleRead density) s = .next t ∧ t.devState = 6 ∧ t.get Reg.PRF.STAT.LOAD_CAUSE = 2 ∧ t.isRaised (page .glb 0) 0 ∧
      OnlyFields [Reg.GLB.DEV_STATE.STATE, Reg.PRF.STAT.LOAD_CAUSE, rawBit (page .glb 0) 0] s t) ∧
  (∀ (n : Fin 64) (s u : State), s.devState = 3 → s.clk.running = true → s.power.waking = false → 26 ≤ n.val → n.val ≤ 29 →
    s.power.loadProf < 8 → u = (s.put Reg.PRF.FL_INFO.VALID 1).put Reg.PRF.FL_INFO.DENSITY n →
    ((u.chooseCopy s.power.loadProf).bind (fun c => c.2.pre) = none →
      ∃ t, exec (.preambleRead (some n)) s = .next t ∧ t.devState = 6 ∧ t.get Reg.PRF.STAT.LOAD_CAUSE = 1 ∧
        t.get Reg.PRF.FL_INFO.VALID = 1 ∧ t.get Reg.PRF.FL_INFO.DENSITY = n ∧
        t.get Reg.PRF.FL_INFO.ADDR4 = (if 27 < n.val then 1 else 0) ∧ t.isRaised (page .glb 0) 0 ∧
        t = { s with regs := t.regs, freeCtr := s.freeCtr + 1 } ∧
        FieldsKept [Reg.PRF.FL_INFO.VALID, Reg.PRF.FL_INFO.ADDR4, Reg.PRF.FL_INFO.DUMMY, Reg.PRF.FL_INFO.DENSITY,
          Reg.PRF.COPY_STAT.STATE, Reg.GLB.DEV_STATE.STATE, Reg.PRF.STAT.LOAD_CAUSE, rawBit (page .glb 0) 0] s t) ∧
    (∀ p : Nat × Nat × Nat, (u.chooseCopy s.power.loadProf).bind (fun c => c.2.pre) = some p →
      ∃ t, exec (.preambleRead (some n)) s = .next t ∧ t.devState = 4 ∧ t.isRaised (page .glb 0) 0 ∧
        t.get Reg.PWR.VCORE_STAT.VID_OUT = t.vidOf 2 ∧ t.power = { s.power with bistSkip := p.2.2 == 1 } ∧
        t.get Reg.PRF.COPY_STAT.STATE / 16 ^ s.power.loadProf % 16 =
          u.verdictOf s.power.loadProf 1 * 4 + u.verdictOf s.power.loadProf 0 ∧
        t = { s with regs := t.regs, power := t.power, freeCtr := s.freeCtr + 1 } ∧
        t.reg 0x2054 = (s.plainWrite 0x2054 (BitVec.ofNat 32 p.1)).reg 0x2054 ∧
        t.reg 0x2048 = (s.plainWrite 0x2048 (BitVec.ofNat 32 p.2.1)).reg 0x2048 ∧
        (∀ a, a ∉ [0x10, 0x44, 0x2048, 0x2054, 0x2060, 0x3084, 0x30C8] → t.reg a = s.reg a))) ∧
  (∀ (r : BistResult) (s : State), s.devState = 4 → s.power.bistSkip = true →
    ∃ t, exec (.selftestDone r) s = .next t ∧ t.devState = 5 ∧ t.commits = [] ∧ t.lnk = [] ∧ t.fabric.carr = [] ∧
      (∀ d v, (d, v) ∈ t.doors → v.stage = [] ∧ v.slotStage = [] ∧ v.eptStage = [] ∧ v.outcome = []) ∧ t.tick = s.tick) ∧
  (∀ (r : BistResult) (s : State), s.devState = 4 → s.power.bistSkip = false → s.power.waking = false → r.essential = true →
    r.domains = [] → r.functions = [] → s.flt.shutPend = [] → (∀ c ∈ r.coaches, (s.coach c).state ≠ 5) →
    ∃ t, exec (.selftestDone r) s = .next t ∧ t.devState = 6 ∧ t.get Reg.PRF.STAT.LOAD_CAUSE = 7 ∧
      t.get Reg.PRF.BIST_STAT.CORE_FAIL = 1 ∧ t.isRaised (page .glb 0) 0 ∧
      (∀ c ∈ r.coaches, t.coach c = { Coach.reset with state := 4, cause := 1 }) ∧
      (∀ k, (∀ c ∈ r.coaches, c.val ≠ k) → t.coach k = s.coach k) ∧
      t.get Reg.FLT.LOG_COUNT.COUNT = (s.get Reg.FLT.LOG_COUNT.COUNT + r.coaches.length) % 2 ^ 32 ∧
      (r.coaches ≠ [] → t.isRaised (page .flt 0) 0 ∧ t.isRaised (page .flt 0) 1 ∧ t.isRaised (page .scn 0) 0) ∧
      (∃ l, t.carts = l ++ s.carts ∧ ∀ x ∈ l, x.typ = 0x15) ∧
      t = { s with regs := t.regs, fabric := { s.fabric with coach := t.fabric.coach }, flt := { s.flt with log := t.flt.log },
                   carts := t.carts, recd := { s.recd with seq := t.recd.seq } } ∧
      FieldsKept [Reg.PRF.BIST_STAT.COACH_FAIL, Reg.PRF.BIST_STAT.CORE_FAIL, Reg.GLB.DEV_STATE.STATE, Reg.PRF.STAT.LOAD_CAUSE,
        rawBit (page .glb 0) 0, Reg.FLT.LOG_COUNT.COUNT, Reg.HEAD.PG_ERRCNT.COUNT (page .flt 0), Reg.FLT.SHUT_CNT.COUNT,
        rawBit (page .flt 0) 0, rawBit (page .flt 0) 1, rawBit (page .scn 0) 0] s t)

/-- R72, R364, R366, R409: a load without a valid copy of its profile ends in SHUTTERED with NO_VALID_COPY and LOAD_ERR of all
ones, and one whose memory does not train with CONTENT; one whose steps succeed up to the move to LEVEL waits while the move is
under way, and, once it is over, enters READY with the profile, its copy and identity shown and every wheel on it when step 6
succeeds; a move that did not reach LEVEL ends the load with VCORE. -/
def Obligations.LoadEndsInReadyOrShuttered : Prop :=
  (∀ s : State, s.devState = 5 → s.power.loadProf < 8 → s.power.loadCopy = none →
    s.chooseCopy s.power.loadProf = none ∨ s.power.ddrOk = false →
    ∃ t, exec .loadComplete s = .next t ∧ t.devState = 6 ∧
      t.get Reg.PRF.STAT.LOAD_CAUSE = (if s.chooseCopy s.power.loadProf = none then 3 else 4) ∧
      t.get Reg.PRF.LOAD_ERR.OFFSET = 0xFFFFFFFF ∧ t.isRaised (page .glb 0) 0 ∧
      (s.power.loadCmd = true → t.get Reg.PRF.STAT.RESULT = if s.chooseCopy s.power.loadProf = none then 6 else 7) ∧
      t.power = { s.power with loadCmd := false, waking := false, image := !s.power.waking && s.power.image,
                               epochDue := s.power.waking || s.power.epochDue } ∧
      t = { s with regs := t.regs, doors := t.doors, power := t.power } ∧
      (∀ d : DoorNo, t.door d = s.door d) ∧
      FieldsKept [Reg.PRF.COPY_STAT.STATE, Reg.PRF.LOAD_ERR.OFFSET, Reg.HEAD.PG_ERRCNT.COUNT (page .prf 0), Reg.GLB.DEV_STATE.STATE,
        Reg.PRF.STAT.LOAD_CAUSE, Reg.PRF.STAT.RESULT, rawBit (page .glb 0) 0, rawBit (page .prf 0) 5] s t) ∧
  (∀ (c : Nat) (m : ProfImage) (s u : State), s.devState = 5 → s.power.loadProf < 8 → s.power.loadCopy = none →
    s.chooseCopy s.power.loadProf = some (c, m) →
    (s.showCopies s.power.loadProf).loadSteps m = (u, none) → u.devState = 5 → u.clk.dvfs ≠ none →
    ∃ t, exec .loadComplete s = .next t ∧ t.devState = 5 ∧ t.power = { u.power with loadCopy := some c } ∧
      (∀ d : DoorNo, t.door d = u.door d) ∧
      t = { u with tick := s.tick, pending := s.pending, doors := t.doors, power := t.power }) ∧
  (∀ (c : Nat) (m : ProfImage) (s u : State), s.devState = 5 → s.power.loadProf < 8 → s.power.loadCopy = some c →
    s.clk.dvfs = none → s.copyOf s.power.loadProf c = some m → c < 2 →
    (s.level ≠ m.level →
      ∃ t, exec .loadComplete s = .next t ∧ t.devState = 6 ∧ t.get Reg.PRF.STAT.LOAD_CAUSE = 6 ∧
        t.get Reg.PRF.LOAD_ERR.OFFSET = 0xFFFFFFFF ∧ (s.power.loadCmd = true → t.get Reg.PRF.STAT.RESULT = 11) ∧
        t.power = { s.power with loadCmd := false, loadCopy := none, waking := false, image := !s.power.waking && s.power.image,
                                 epochDue := s.power.waking || s.power.epochDue }) ∧
    (s.loadPost m = (u, none) → u.devState = 5 →
      ∃ t, exec .loadComplete s = .next t ∧ t.devState = 7 ∧ t.get Reg.PRF.STAT.PROF_LOADED = u.power.loadProf % 8 ∧
        t.get Reg.PRF.STAT.COPY = c ∧ t.get Reg.PRF.PROF_ID.ID = m.ident % 2 ^ 32 ∧
        t.get Reg.PRF.PROF_VER.VERSION = m.version % 2 ^ 32 ∧ t.get Reg.PRF.PROF_CRC.CRC = m.crc % 2 ^ 32 ∧
        (u.power.loadProf < 8 →
          ∀ w : WheelNo, t.get (Reg.PRF.WHEEL_PROF.PROF (w / 8)) / 16 ^ (w.val % 8) % 16 = u.power.loadProf) ∧
        t.get Reg.FLT.DEV_FAULT.DEV_SHUT = 0 ∧ t.get Reg.CLK.PLL_STAT.TIMEBASE_LOST = 0 ∧
        (u.power.loadCmd = true → t.get Reg.PRF.STAT.RESULT = 1 ∧ t.isRaised (page .prf 0) 0) ∧
        t.power = { u.power with subsys := m.subsys, epochDue := true, loadCmd := false, loadCopy := none, waking := false,
                                 image := !u.power.waking && u.power.image } ∧
        t.recd.loadTick = some u.tick ∧ t.slots = u.slots ∧ t.ept = u.ept ∧ t.fabric = u.fabric ∧ t.owner = u.owner))

/-- R351 to R353: CMD = RUN in READY enters RUN at the next boundary, shows a first entry in FIRST_RUN, takes links from HOLD to
RUN and is DONE; CMD = STOP in RUN sets STOPPING; at a boundary at which nothing is in progress any more a stop completes in
READY, with every local output at its safe level and links in HOLD, and before it nothing happens. -/
def Obligations.RunAndStop : Prop :=
  (∀ s : State, s.devState = 7 → s.power.draining = none →
    ∃ t, exec .run s = .next t ∧ t.devState = 8 ∧ t.get Reg.PRF.STAT.RESULT = 1 ∧ t.isRaised (page .prf 0) 0 ∧
      t.isRaised (page .glb 0) 0 ∧ t.get Reg.PRF.CMD.CMD = 0 ∧ t.power = { s.power with runSeen := true, runAt := some (s.tick + 1) } ∧
      t.get64 Reg.PRF.FIRST_RUN_LO.TICK Reg.PRF.FIRST_RUN_HI.TICK = (if s.power.runSeen
        then s.get64 Reg.PRF.FIRST_RUN_LO.TICK Reg.PRF.FIRST_RUN_HI.TICK else (s.tick + 1) % 2 ^ 64) ∧
      (∀ l, l < 16 → s.lnkState l = 5 → s.shut (page .lnk l) = false → t.lnkState l = 6 ∧ t.isRaised (page .lnk l) 0) ∧
      t = { s with regs := t.regs, power := t.power, lnk := t.lnk, eps := t.eps, dueCarts := t.dueCarts } ∧
      FieldsKept ([Reg.GLB.DEV_STATE.STATE, Reg.PRF.STAT.RESULT, Reg.PRF.CMD.CMD, Reg.PRF.FIRST_RUN_LO.TICK, Reg.PRF.FIRST_RUN_HI.TICK,
        rawBit (page .prf 0) 0, rawBit (page .glb 0) 0] ++ linkFields) s t) ∧
  (∀ s : State, s.devState = 8 → s.power.draining = none →
    ∃ t, exec .stop s = .next t ∧ t.get Reg.PRF.STAT.STOPPING = 1 ∧ t.get Reg.PRF.CMD.CMD = 0 ∧
      OnlyFields [Reg.PRF.STAT.STOPPING, Reg.PRF.CMD.CMD] s t) ∧
  (∀ s : State, s.devState = 8 → s.get Reg.PRF.STAT.STOPPING = 1 →
    (s.quiet = false → exec .stopComplete s = .next s) ∧
    (s.quiet = true →
      ∃ t, exec .stopComplete s = .next t ∧ t.devState = 7 ∧ t.get Reg.PRF.STAT.STOPPING = 0 ∧ t.get Reg.PRF.STAT.RESULT = 1 ∧
        t.isRaised (page .prf 0) 0 ∧ t.isRaised (page .glb 0) 0 ∧
        (∀ a ∈ s.liveEndpoints, epIsLink a = false → (t.ep a).level = s.safePin a ∧ (t.ep a).demands = []) ∧
        (∀ l, l < 16 → s.lnkState l = 6 → t.lnkState l = 5) ∧
        t.power = { s.power with runAt := none, waking := false, image := !s.power.waking && s.power.image,
                                 epochDue := s.power.waking || s.power.epochDue } ∧
        t = { s with regs := t.regs, power := t.power, lnk := t.lnk, eps := t.eps, edges := t.edges, dueCarts := t.dueCarts } ∧
        FieldsKept ([Reg.GLB.DEV_STATE.STATE, Reg.PRF.STAT.RESULT, Reg.PRF.STAT.STOPPING, rawBit (page .prf 0) 0,
          rawBit (page .prf 0) 5, rawBit (page .glb 0) 0] ++ linkFields) s t))

/-- R353: a command of the PRF page in a state that Table 14-1 does not allow it in ends with WRONG_STATE, LOAD and STANDBY
without a timebase with NO_TIMEBASE, any of them while a standby entry drains and a STANDBY or SWITCH during a switch with BUSY;
each raises CMD_REFUSED and changes nothing else. -/
def Obligations.CommandsAreRefused : Prop :=
  ∀ (i : Instr) (r : Nat) (s : State), s.clockOn = true →
    (s.power.draining = none ∧ r = 2 ∧ ((i = .run ∧ s.devState ≠ 7) ∨ (i = .stop ∧ s.devState ≠ 8) ∨
        (i = .switch ∧ s.devState ≠ 7 ∧ s.devState ≠ 8) ∨ ((i = .load ∨ i = .standby) ∧ s.devState ≠ 7 ∧ s.devState ≠ 6))) ∨
      (s.power.draining = none ∧ r = 5 ∧ (i = .load ∨ i = .standby) ∧ (s.devState = 7 ∨ s.devState = 6) ∧ s.timebaseOk = false) ∨
      (s.power.draining = none ∧ r = 3 ∧ s.get Reg.PRF.STAT.SW_STATE ≠ 0 ∧ ((i = .switch ∧ (s.devState = 7 ∨ s.devState = 8)) ∨
        (i = .standby ∧ (s.devState = 7 ∨ s.devState = 6) ∧ s.timebaseOk = true))) ∨
      (s.power.draining ≠ none ∧ r = 3 ∧ (i = .run ∨ i = .stop ∨ i = .load ∨ i = .switch ∨ i = .standby)) →
    ∃ t, exec i s = .next t ∧ t.get Reg.PRF.STAT.RESULT = r ∧ t.isRaised (page .prf 0) 1 ∧ t.get Reg.PRF.CMD.CMD = 0 ∧
      OnlyFields [Reg.PRF.STAT.RESULT, Reg.PRF.CMD.CMD, rawBit (page .prf 0) 1] s t

/-- R365, R370: CMD = LOAD in READY or SHUTTERED enters LOAD with the profile named: no slot has a TYPE, no commit is pending,
no stage holds anything; CMD = STANDBY there takes every link to OFF, forgets the wake causes and drains the recorder, and the
end of the draining enters STANDBY with a valid image of what is retained. -/
def Obligations.LoadAndStandbyEntry : Prop :=
  (∀ s : State, s.devState = 7 ∨ s.devState = 6 → s.power.draining = none → s.timebaseOk = true →
    (∃ t, exec .load s = .next t ∧ t.devState = 5 ∧ t.power.loadProf = s.get Reg.PRF.CMD.PROF ∧ t.power.loadCmd = true ∧
      t.power.sw = none ∧ t.get Reg.PRF.CMD.CMD = 0 ∧ (∀ h x, (h, x) ∈ t.slots → x.typ = 0 ∧ x.pass = none) ∧ t.commits = [] ∧
      (∀ d v, (d, v) ∈ t.doors → v.stage = [] ∧ v.slotStage = [] ∧ v.eptStage = [] ∧ v.outcome = []) ∧ t.fabric.carr = [] ∧
      t.owner = [] ∧ t.tick = s.tick) ∧
    (s.get Reg.PRF.STAT.SW_STATE = 0 → s.power.flOp = none →
      ∃ t, exec .standby s = .next t ∧ (∀ l, l < 16 → t.lnkState l = 0) ∧ t.reg 0x30C0 = 0 ∧
        t.power = { s.power with draining := some s.tick } ∧ t.get Reg.PRF.CMD.CMD = 0 ∧ t.devState = s.devState ∧
        t = { s with regs := t.regs, power := t.power, lnk := t.lnk, dueCarts := t.dueCarts } ∧
        FieldsKept ([⟨0x30C0, 31, 0⟩, Reg.PRF.CMD.CMD] ++
          linkFields) s t)) ∧
  (∀ (n : Nat) (s : State), s.power.draining = some n →
    ∃ t, exec .drainEnd s = .next t ∧ t.devState = 1 ∧ t.power.image = true ∧ t.power.draining = none ∧ t.tick = s.tick ∧
      t.slots = [] ∧ t.clk.running = false ∧ t.clk.htOfs = s.clk.htOfs ∧
      (∀ a v, a ≠ Reg.GLB.DEV_STATE.STATE.addr → a ≠ Reg.PWR.SLOW_STAT.VALID.addr →
        ((a, v) ∈ t.regs ↔ ∃ w, (a, w) ∈ s.regs ∧ v = retainedReg a w ∧ v ≠ regReset a)) ∧
      ∀ k, (t.src k).state = (s.src k).state ∧ (t.src k).cfg = (s.src k).cfg) ∧
  (∀ s : State, s.power.draining = none → exec .drainEnd s = .next s)

/-- R367, R368, R392: CMD = SWITCH in READY or RUN starts a preparation with its arming tick, or is queued while a wheel learns;
a preparation without a valid copy ends the switch, one that finds its contents and carriages is ARMED; at the arming tick one
that is not complete ends with NOT_READY and one with no wheel left is DONE, before it nothing happens. R368, R369: a wheel that
is due and whose angle is not valid switches in the tick about to begin: WHEEL_PROF shows the new profile, its bit of SW_PEND is
clear, WHEEL_SWITCH is raised. -/
def Obligations.ProfileSwitch : Prop :=
  (∀ s : State, s.devState = 7 ∨ s.devState = 8 → s.power.draining = none → s.get Reg.PRF.STAT.SW_STATE = 0 →
    (s.active kLearn = false →
      ∃ t, exec .switch s = .next t ∧ t.get Reg.PRF.STAT.SW_STATE = 2 ∧ t.get Reg.PRF.STAT.SW_PROF = s.get Reg.PRF.CMD.PROF ∧
        t.active kSwitch = true ∧ t.get Reg.PRF.CMD.CMD = 0 ∧ t.power = { s.power with
          sw := some ⟨s.get Reg.PRF.CMD.PROF, s.tick, s.tick + s.get Reg.PRF.ARM_DELAY.TICKS, false, []⟩ } ∧
        t = { s with regs := t.regs, power := t.power } ∧
        FieldsKept [Reg.PRF.STAT.SW_STATE, Reg.PRF.STAT.SW_PROF, Reg.PRF.CMD.CMD, Reg.FLT.LEDGER.ACTIVE] s t) ∧
    (s.active kLearn = true →
      ∃ t, exec .switch s = .next t ∧ t.get Reg.PRF.STAT.SW_STATE = 1 ∧ t.get Reg.PRF.STAT.SW_PROF = s.get Reg.PRF.CMD.PROF ∧
        t.get Reg.PRF.STAT.RESULT = 4 ∧ t.isQueued kSwitch = true ∧ t.isRaised (page .flt 0) 4 ∧ t.get Reg.PRF.CMD.CMD = 0 ∧
        t = { s with regs := t.regs, flt := { s.flt with queue := s.flt.queue ++ [⟨kSwitch, s.get Reg.PRF.CMD.PROF, 0⟩] } } ∧
        FieldsKept [Reg.PRF.STAT.SW_STATE, Reg.PRF.STAT.SW_PROF, Reg.PRF.STAT.RESULT, Reg.PRF.CMD.CMD, Reg.FLT.LEDGER.QUEUED,
          rawBit (page .flt 0) 4] s t)) ∧
  (∀ (w : Switch) (s : State), s.power.sw = some w → w.ready = false → w.prof < 8 →
    (s.chooseCopy w.prof = none → w.content = [] →
      ∃ t, exec .switchPrepared s = .next t ∧ t.get Reg.PRF.STAT.RESULT = 6 ∧ SwitchOver s t) ∧
    (∀ x : Nat × ProfImage, s.chooseCopy w.prof = some x →
      ∀ l, (s.showCopies w.prof).switchContents x.2 ((s.showCopies w.prof).switchWheels x.2) = some l →
      ∀ u, (s.showCopies w.prof).reserveSwitch l = some u →
      ∃ t, exec .switchPrepared s = .next t ∧ t.get Reg.PRF.STAT.SW_STATE = 3 ∧
        t.power = { u.power with sw := some { w with ready := true, content := l } } ∧ t = { u with regs := t.regs, power := t.power } ∧
        FieldsKept [Reg.PRF.STAT.SW_STATE, Reg.PRF.SW_PEND_LO.MASK, Reg.PRF.SW_PEND_HI.MASK] u t)) ∧
  (∀ (w : Switch) (s : State), s.power.sw = some w →
    (s.tick < w.arm → exec .switchArm s = .next s) ∧
    (w.arm ≤ s.tick → w.ready = false → w.content = [] →
      ∃ t, exec .switchArm s = .next t ∧ t.get Reg.PRF.STAT.RESULT = 9 ∧ SwitchOver s t) ∧
    (w.arm ≤ s.tick → w.ready = true → s.pend = 0 → w.content = [] →
      ∃ t, exec .switchArm s = .next t ∧ t.get Reg.PRF.STAT.RESULT = 1 ∧ t.isRaised (page .prf 0) 0 ∧ t.isRaised (page .prf 0) 3 ∧
        SwitchOver s t) ∧
    (w.arm ≤ s.tick → w.ready = true → s.pend ≠ 0 → exec .switchArm s = .next s)) ∧
  (∀ (w : WheelNo) (x : Switch) (s : State), s.clk.running = true → s.nextTick.power.sw = some x →
    s.nextTick.switchDue w = true → s.nextTick.wValid w = false → x.prof < 8 →
    ∃ t, exec (.wheelSwitch w) s = .next t ∧ t.tick = s.tick ∧
      t.get (Reg.PRF.WHEEL_PROF.PROF (w / 8)) / 16 ^ (w.val % 8) % 16 = x.prof ∧ hasBit t.pend w = false ∧ t.isRaised (page .prf 0) 2)

/-- R374: a flash command from a door is refused with BUSY in LOAD, during preparation and during another operation, with
BAD_ADDR at an address that is not aligned or lies beyond the density, each with FLASH_DONE, else it is ACTIVE; READ ends with
the flash's bytes in FL_BUF, PROGRAM with the bits that FL_BUF holds at 0 cleared, an erase with its sector or block at 0xFF,
each DONE. R363: in SHUTTERED a door burns KEY_HASH into the fuses once, and SIG_REQ for good; elsewhere a burn does nothing. -/
def Obligations.FlashAndFuses : Prop :=
  (∀ (i : Instr) (d : DoorNo) (op : Nat) (s : State), s.accepts d .prf 0 0xD0 →
    (i = .flashRead d ∧ op = 1) ∨ (i = .flashProgram d ∧ op = 2) ∨ (i = .flashErase4k d ∧ op = 3) ∨ (i = .flashErase64k d ∧ op = 4) →
    ∃ t, exec i s = .next t ∧
      (if s.devState = 5 ∨ s.get Reg.PRF.STAT.SW_STATE = 2 ∨ s.power.flOp ≠ none then
        t.get Reg.PRF.FL_STAT.RESULT = 2 ∧ t.isRaised (page .prf 0) 4 ∧
          OnlyFields [Reg.PRF.FL_STAT.RESULT, Reg.HEAD.PG_ERRCNT.COUNT (page .prf 0), rawBit (page .prf 0) 4] s t
       else if s.get Reg.PRF.FL_ADDR.ADDR % flashSpan op ≠ 0 ∨ s.flashSize ≤ s.get Reg.PRF.FL_ADDR.ADDR then
        t.get Reg.PRF.FL_STAT.RESULT = 3 ∧ t.isRaised (page .prf 0) 4 ∧
          OnlyFields [Reg.PRF.FL_STAT.RESULT, Reg.HEAD.PG_ERRCNT.COUNT (page .prf 0), rawBit (page .prf 0) 4] s t
       else t.get Reg.PRF.FL_STAT.ACTIVE = 1 ∧
          t = { s with regs := t.regs, power := { s.power with flOp := some (op, s.get Reg.PRF.FL_ADDR.ADDR) } } ∧
          FieldsKept [Reg.PRF.FL_STAT.ACTIVE] s t)) ∧
  (∀ (op a : Nat) (s : State), s.power.flOp = some (op, a) → 1 ≤ op → op ≤ 4 →
    ∃ t, exec (.flashDone false) s = .next t ∧ t.get Reg.PRF.FL_STAT.ACTIVE = 0 ∧ t.get Reg.PRF.FL_STAT.RESULT = 1 ∧
      t.isRaised (page .prf 0) 4 ∧ t.power = { s.power with flOp := none } ∧
      t = { s with regs := t.regs, power := t.power, flash := t.flash } ∧
      (op = 1 → t.flash = s.flash ∧
        ∀ k, k < 64 → t.flBuf k = leNat [s.flashByte (a + 4 * k), s.flashByte (a + 4 * k + 1), s.flashByte (a + 4 * k + 2),
          s.flashByte (a + 4 * k + 3)]) ∧
      FieldsKept ([Reg.PRF.FL_STAT.ACTIVE, Reg.PRF.FL_STAT.RESULT, rawBit (page .prf 0) 4] ++
        if op = 1 then (List.range 64).map (fun k => Reg.PRF.FL_BUF.DATA k) else []) s t ∧
      (op = 2 → ∀ x, t.flashByte x = if a ≤ x ∧ x < a + 256
        then s.flashByte x &&& BitVec.ofNat 8 (s.flBuf ((x - a) / 4) / 256 ^ ((x - a) % 4)) else s.flashByte x) ∧
      (3 ≤ op → ∀ x, t.flashByte x = if a ≤ x ∧ x < a + flashSpan op then 0xFF else s.flashByte x)) ∧
  (∀ (timedOut : Bool) (s : State), s.power.flOp = none → exec (.flashDone timedOut) s = .next s) ∧
  (∀ (i : Instr) (d : DoorNo) (s : State), s.accepts d .prf 0 0xB0 → i = .burnKey d ∨ i = .burnSigreq d →
    (s.devState ≠ 6 → exec i s = .next s) ∧
    (s.devState = 6 → i = .burnSigreq d → exec i s = .next { s with power := { s.power with sigReq := true } }) ∧
    (s.devState = 6 → i = .burnKey d → s.power.keyBurnt = true → exec i s = .next s) ∧
    (s.devState = 6 → i = .burnKey d → s.power.keyBurnt = false →
      exec i s = .next { s with power := { s.power with keyBurnt := true, keyHash :=
        [s.reg 0x3090, s.reg 0x3094, s.reg 0x3098, s.reg 0x309C, s.reg 0x30A0, s.reg 0x30A4, s.reg 0x30A8, s.reg 0x30AC] } }))

/-! ### The machine as a whole -/

/-- A step takes the command at the front of the queue and runs it on the state with the queue's rest; with nothing waiting the
block idles (DESIGN CHOICE, log entry 1). -/
def Obligations.StepRunsTheFrontCommand : Prop :=
  (∀ (c : Instr) (s : State), step { s with pending := c :: s.pending } = exec c s) ∧ ∀ s : State, s.pending = [] → step s = .next s

/-- R57: a door reads 64 bits of the tick counter, which moves in TICK_BOUNDARY, by exactly one and only while the tick runs, in
the cycles that SLOWCLK counts in its place, and starts from 0 at a cold start; no other command moves it. -/
def Obligations.TickCounterRule : Prop :=
  (∀ (obs : TickObs) (s : State), ∃ t, exec (.tickBoundary obs) s = .next t ∧
    t.tick = if s.clk.running then s.tick + 1 else s.tick) ∧
  (∀ (c : Instr) (s t : State), exec c s = .next t → t.tick ≠ s.tick →
    (∃ obs, c = .tickBoundary obs) ∨ (c = .slowclkCycle ∧ s.aonCounts = true ∧ s.bit Reg.PWR.SLOW_STAT.VALID = true) ∨
      (∃ p, c = .rstRelease p ∧ s.power.image = false ∧ t.tick = 0)) ∧
  (∀ (p : Fin 8) (s : State), s.power.rstN = false → s.power.mainOn = true → s.devState = 2 → s.power.image = false →
    ∃ t, exec (.rstRelease p) s = .next t ∧ t.tick = 0) ∧
  (∀ (d : DoorNo) (st : SubTick) (s : State), s.reads d 0x1060 →
    ∃ t, exec (.tickLoRead d st) s = .next t ∧
      t.snapOf d 0x1064 ++ (t.door d).readData = BitVec.ofNat 64 s.tick)

/-- From every state, a step leaves the queue of waiting commands what it was without its front, so that every waiting command
stays well formed; no step faults but at a breach of the supply order (R348), and none refuses. -/
def Obligations.StepsKeepTheQueueAndStopForSupplies : Prop :=
  ∀ s : State, (∀ t, step s = .next t → t.pending = s.pending.tail ∧ (s.queueWf → t.queueWf)) ∧
    (∀ f, step s = .fault f → f = .supplyOrder ∧ ∃ r, s.pending = .mainPowerUp :: r ∨ s.pending = .aonPowerLoss :: r) ∧
    ∀ r, step s ≠ .refused r

/-- What reset leaves, where the spec gives it: the tick counter at 0, the device in RESET, nothing waiting, no slot of any
TYPE, no carriage, every register at its reset value; among them K at P2, ID values and enabled references as the spec states
them. -/
def Obligations.ResetState : Prop :=
  State.reset.tick = 0 ∧ State.reset.devState = 2 ∧ State.reset.pending = [] ∧ State.reset.queueWf ∧
    (∀ h, (State.reset.slot h).typ = 0) ∧ (∀ a, State.reset.carriage a = Carriage.empty) ∧ (∀ a, State.reset.reg a = regReset a) ∧
    State.reset.level = 2 ∧ State.reset.kLimit = 64 ∧ (∀ d : DoorNo, State.reset.doorState d = 0) ∧
    (∀ u : AdcNo, ∀ k : Fin 12, State.reset.get (Reg.ADC.CAL.F16 u k) = 0x3FF0) ∧ State.reset.healthy = 2048 ∧
    (∀ d : DoorNo, State.reset.readScn d 0x44 = some 0x4000) ∧
    ∀ d : DoorNo, ∀ o ∈ [0x48, 0x4C, 0x50, 0x54, 0x58, 0x5C], State.reset.readPlc d o = some 0
end

