-- ==== Sys2Proof/Laws/Sparse.lean ====
section
/-! SUPPORT. Sparse tables: what a key reads as after a write, and the canonical form, which every write keeps. -/

namespace Sys2Proof.Machine

variable {α : Type}

@[simp] theorem Sparse.find_nil (k : Nat) : Sparse.find ([] : Sparse α) k = none := rfl

theorem Sparse.find_erase_self (m : Sparse α) (k : Nat) : (m.erase k).find k = none := by
  induction m with
  | nil => rfl
  | cons e m ih => obtain ⟨j, v⟩ := e; by_cases h : j = k <;> simp [Sparse.erase, Sparse.find, h, ih]

theorem Sparse.find_erase_ne (m : Sparse α) {k j : Nat} (h : j ≠ k) : (m.erase k).find j = m.find j := by
  induction m with
  | nil => rfl
  | cons e m ih =>
    obtain ⟨i, v⟩ := e
    by_cases hi : i = k
    · subst hi; simp [Sparse.erase, Sparse.find, ih, Ne.symm h]
    · simp [Sparse.erase, Sparse.find, hi, ih]

theorem Sparse.find_place_self (m : Sparse α) (k : Nat) (x : α) (h : m.find k = none) : (m.place k x).find k = some x := by
  induction m with
  | nil => simp [Sparse.place, Sparse.find]
  | cons e m ih =>
    obtain ⟨j, v⟩ := e
    by_cases hj : j = k
    · simp [Sparse.find, hj] at h
    · simp [Sparse.find, hj] at h
      by_cases hl : j < k <;> simp [Sparse.place, Sparse.find, hl, hj, ih h]

theorem Sparse.find_place_ne (m : Sparse α) {k j : Nat} (x : α) (h : j ≠ k) : (m.place k x).find j = m.find j := by
  induction m with
  | nil => simp [Sparse.place, Sparse.find, Ne.symm h]
  | cons e m ih =>
    obtain ⟨i, v⟩ := e
    by_cases hl : i < k
    · simp [Sparse.place, Sparse.find, hl, ih]
    · simp [Sparse.place, Sparse.find, hl, Ne.symm h]

/-- A listed value reads back, and no other key changes. -/
theorem Sparse.find_insert (m : Sparse α) (k j : Nat) (x : α) :
    (m.insert k x).find j = if j = k then some x else m.find j := by
  by_cases h : j = k
  · subst h; simp [Sparse.insert, Sparse.find_place_self _ _ _ (Sparse.find_erase_self m j)]
  · simp [Sparse.insert, h, Sparse.find_place_ne _ _ h, Sparse.find_erase_ne _ h]

/-- A read after a write: the key reads as the value, every other key as before. -/
@[simp] theorem Sparse.get_set [DecidableEq α] (dflt : Nat → α) (m : Sparse α) (k j : Nat) (x : α) :
    (m.set dflt k x).get dflt j = if j = k then x else m.get dflt j := by
  by_cases hx : x = dflt k
  · by_cases h : j = k
    · subst h; simp [Sparse.set, Sparse.get, hx, Sparse.find_erase_self]
    · simp [Sparse.set, Sparse.get, hx, h, Sparse.find_erase_ne _ h]
  · by_cases h : j = k <;> simp [Sparse.set, Sparse.get, hx, h, Sparse.find_insert]

/-! ### The canonical form -/

theorem Sparse.risesFrom_le {m : Sparse α} {a b : Nat} (h : a ≤ b) (hm : m.risesFrom b = true) : m.risesFrom a = true := by
  cases m with
  | nil => rfl
  | cons e m => simp only [Sparse.risesFrom, Bool.and_eq_true, decide_eq_true_eq] at *; exact ⟨by omega, hm.2⟩

theorem Sparse.risesFrom_erase {m : Sparse α} {b : Nat} (k : Nat) (hm : m.risesFrom b = true) : (m.erase k).risesFrom b = true := by
  induction m generalizing b with
  | nil => rfl
  | cons e m ih =>
    obtain ⟨j, v⟩ := e
    simp only [Sparse.risesFrom, Bool.and_eq_true, decide_eq_true_eq] at hm
    by_cases hj : j = k
    · simp only [Sparse.erase, hj, if_true]; exact Sparse.risesFrom_le (by omega) (ih hm.2)
    · simp [Sparse.erase, hj, Sparse.risesFrom, hm.1, ih hm.2]

theorem Sparse.risesFrom_place {m : Sparse α} {b k : Nat} (x : α) (hm : m.risesFrom b = true) (hk : m.find k = none)
    (hb : b ≤ k) : (m.place k x).risesFrom b = true := by
  induction m generalizing b with
  | nil => simp [Sparse.place, Sparse.risesFrom, hb]
  | cons e m ih =>
    obtain ⟨j, v⟩ := e
    simp only [Sparse.risesFrom, Bool.and_eq_true, decide_eq_true_eq] at hm
    have hj : j ≠ k := by rintro rfl; simp [Sparse.find] at hk
    simp only [Sparse.find, hj, if_false] at hk
    by_cases hl : j < k
    · simp [Sparse.place, hl, Sparse.risesFrom, hm.1, ih hm.2 hk hl]
    · simp only [Sparse.place, hl, if_false, Sparse.risesFrom, Bool.and_eq_true, decide_eq_true_eq]
      exact ⟨hb, by omega, hm.2⟩

theorem Sparse.mem_erase {m : Sparse α} {k : Nat} {e : Nat × α} (h : e ∈ m.erase k) : e ∈ m := by
  induction m with
  | nil => simp [Sparse.erase] at h
  | cons a m ih =>
    obtain ⟨j, v⟩ := a
    by_cases hj : j = k
    · simp only [Sparse.erase, hj, if_true] at h; exact List.mem_cons_of_mem _ (ih h)
    · simp only [Sparse.erase, hj, if_false, List.mem_cons] at h ⊢; exact h.imp_right ih

theorem Sparse.mem_place {m : Sparse α} {k : Nat} {x : α} {e : Nat × α} (h : e ∈ m.place k x) : e = (k, x) ∨ e ∈ m := by
  induction m with
  | nil => simpa [Sparse.place] using h
  | cons a m ih =>
    obtain ⟨j, v⟩ := a
    by_cases hl : j < k
    · simp only [Sparse.place, hl, if_true, List.mem_cons] at h ⊢
      rcases h with h | h
      · exact .inr (.inl h)
      · exact (ih h).imp_right .inr
    · simpa [Sparse.place, hl] using h

/-- Every write keeps the canonical form. -/
theorem Sparse.wf_set [DecidableEq α] {dflt : Nat → α} {m : Sparse α} (k : Nat) (x : α) (h : m.wf dflt = true) :
    (m.set dflt k x).wf dflt = true := by
  simp only [Sparse.wf, Bool.and_eq_true, List.all_eq_true, decide_eq_true_eq] at h ⊢
  by_cases hx : x = dflt k
  · simp only [Sparse.set, hx, if_true]
    exact ⟨Sparse.risesFrom_erase k h.1, fun e he => h.2 e (Sparse.mem_erase he)⟩
  · simp only [Sparse.set, hx, if_false, Sparse.insert]
    refine ⟨Sparse.risesFrom_place x (Sparse.risesFrom_erase k h.1) (Sparse.find_erase_self m k) (Nat.zero_le k), fun e he => ?_⟩
    rcases Sparse.mem_place he with rfl | he
    · exact hx
    · exact h.2 e (Sparse.mem_erase he)

theorem Sparse.find_of_rises {m : Sparse α} {b k : Nat} (hm : m.risesFrom b = true) (hk : k < b) : m.find k = none := by
  induction m generalizing b with
  | nil => rfl
  | cons e m ih =>
    obtain ⟨j, v⟩ := e
    simp only [Sparse.risesFrom, Bool.and_eq_true, decide_eq_true_eq] at hm
    have : j ≠ k := by omega
    simp [Sparse.find, this, ih hm.2 (by omega)]

/-- Tables in canonical form that read alike at every key are equal data. -/
theorem Sparse.ext_of_wf [DecidableEq α] {dflt : Nat → α} {m m' : Sparse α} (h : m.wf dflt = true) (h' : m'.wf dflt = true)
    (hg : ∀ k, m.get dflt k = m'.get dflt k) : m = m' := by
  simp only [Sparse.wf, Bool.and_eq_true, List.all_eq_true, decide_eq_true_eq] at h h'
  obtain ⟨hr, hd⟩ := h
  obtain ⟨hr', hd'⟩ := h'
  generalize hb : (0 : Nat) = b at hr hr'
  clear hb
  induction m generalizing m' b with
  | nil =>
    cases m' with
    | nil => rfl
    | cons e l =>
      obtain ⟨j, v⟩ := e
      have := hg j
      simp [Sparse.get, Sparse.find] at this
      exact absurd this.symm (hd' (j, v) (by simp))
  | cons e l ih =>
    obtain ⟨j, v⟩ := e
    cases m' with
    | nil =>
      have := hg j
      simp [Sparse.get, Sparse.find] at this
      exact absurd this (hd (j, v) (by simp))
    | cons e' l' =>
      obtain ⟨i, w⟩ := e'
      simp only [Sparse.risesFrom, Bool.and_eq_true, decide_eq_true_eq] at hr hr'
      have hl := Sparse.find_of_rises hr.2 (Nat.lt_succ_self j)
      have hl' := Sparse.find_of_rises hr'.2 (Nat.lt_succ_self i)
      have hij : j = i := by
        by_contra hne
        rcases Nat.lt_or_gt_of_ne hne with hlt | hgt
        · have := hg j
          have hn : Sparse.find l' j = none := Sparse.find_of_rises hr'.2 (by omega)
          simp [Sparse.get, Sparse.find, Ne.symm hne, hn] at this
          exact absurd this (hd (j, v) (by simp))
        · have := hg i
          have hn : Sparse.find l i = none := Sparse.find_of_rises hr.2 (by omega)
          simp [Sparse.get, Sparse.find, hne, hn] at this
          exact absurd this.symm (hd' (i, w) (by simp))
      subst hij
      have hv : v = w := by have := hg j; simpa [Sparse.get, Sparse.find] using this
      subst hv
      have : l = l' := by
        refine ih (m' := l') ?_ ?_ ?_ (j + 1) hr.2 hr'.2
        · intro k
          by_cases hk : k = j
          · subst hk; simp [Sparse.get, hl, hl']
          · have := hg k; simpa [Sparse.get, Sparse.find, Ne.symm hk] using this
        · intro e he; exact hd e (List.mem_cons_of_mem _ he)
        · intro e he; exact hd' e (List.mem_cons_of_mem _ he)
      rw [this]

end Sys2Proof.Machine
end

