-- ==== Sys2Proof/Laws/State.lean ====
section
/-! SUPPORT. What each named update of State leaves as it was and what it changes: one lemma for each field and each
accessor, so that no proof unfolds a record update. -/

namespace Sys2Proof.Machine

/-! ### Updates that are others written shorter -/

@[simp] theorem State.putBit_eq (s : State) (f : FieldRef) (v : Bool) : s.putBit f v = s.put f (if v then 1 else 0) := rfl
@[simp] theorem State.bump_eq (s : State) (f : FieldRef) (k : Nat) : s.bump f k = s.put f (min f.top (s.get f + k)) := rfl
@[simp] theorem State.put64_eq (s : State) (lo hi : FieldRef) (v : Nat) :
    s.put64 lo hi v = (s.put lo (v % 2 ^ 32)).put hi (v / 2 ^ 32 % 2 ^ 32) := rfl
@[simp] theorem State.err_eq (s : State) (p : Nat) : s.err p = s.bump (Reg.HEAD.PG_ERRCNT.COUNT p) := rfl
@[simp] theorem State.raiseIf_eq (s : State) (c : Bool) (p k : Nat) : s.raiseIf c p k = if c then s.raise p k else s := rfl
@[simp] theorem State.when_true (s : State) (f : State → State) : s.when true f = f s := rfl
@[simp] theorem State.when_false (s : State) (f : State → State) : s.when false f = s := rfl
@[simp] theorem State.forEach_nil {α : Type} (s : State) (f : State → α → State) : s.forEach [] f = s := rfl
@[simp] theorem State.forEach_cons {α : Type} (s : State) (x : α) (l : List α) (f : State → α → State) :
    s.forEach (x :: l) f = (f s x).forEach l f := rfl
@[simp] theorem State.onInp_eq (s : State) (n : Nat) (f : InpCh → InpCh) : s.onInp n f = s.setInp n (f (s.inpCh n)) := rfl
@[simp] theorem State.onTrk_eq (s : State) (n : Nat) (f : Tracker → Tracker) : s.onTrk n f = s.setTrk n (f (s.tracker n)) := rfl
@[simp] theorem State.onSlot_eq (s : State) (n : Nat) (f : Slot → Slot) : s.onSlot n f = s.setSlot n (f (s.slot n)) := rfl
@[simp] theorem State.onEp_eq (s : State) (n : Nat) (f : Ep → Ep) : s.onEp n f = s.setEp n (f (s.ep n)) := rfl
@[simp] theorem State.onLnk_eq (s : State) (n : Nat) (f : Lnk → Lnk) : s.onLnk n f = s.setLnk n (f (s.link n)) := rfl
@[simp] theorem State.onDrv_eq (s : State) (n : Nat) (f : Drv → Drv) : s.onDrv n f = s.setDrv n (f (s.drive n)) := rfl
@[simp] theorem State.onAdc_eq (s : State) (n : Nat) (f : Adc → Adc) : s.onAdc n f = s.setAdc n (f (s.unit n)) := rfl
@[simp] theorem State.onDoor_eq (s : State) (n : Nat) (f : Door → Door) : s.onDoor n f = s.setDoor n (f (s.door n)) := rfl
@[simp] theorem State.onTmr_eq (s : State) (n : Nat) (f : Tmr → Tmr) : s.onTmr n f = s.setTmr n (f (s.timer n)) := rfl
@[simp] theorem State.onDma_eq (s : State) (n : Nat) (f : Dma → Dma) : s.onDma n f = s.setDma n (f (s.channel n)) := rfl

/-! ### setReg -/

@[simp] theorem State.setReg_tick (s : State) (a : Nat) (v : Word) : (s.setReg a v).tick = s.tick := rfl
@[simp] theorem State.setReg_pending (s : State) (a : Nat) (v : Word) : (s.setReg a v).pending = s.pending := rfl
@[simp] theorem State.setReg_clk (s : State) (a : Nat) (v : Word) : (s.setReg a v).clk = s.clk := rfl
@[simp] theorem State.setReg_inp (s : State) (a : Nat) (v : Word) : (s.setReg a v).inp = s.inp := rfl
@[simp] theorem State.setReg_trk (s : State) (a : Nat) (v : Word) : (s.setReg a v).trk = s.trk := rfl
@[simp] theorem State.setReg_slots (s : State) (a : Nat) (v : Word) : (s.setReg a v).slots = s.slots := rfl
@[simp] theorem State.setReg_ept (s : State) (a : Nat) (v : Word) : (s.setReg a v).ept = s.ept := rfl
@[simp] theorem State.setReg_eps (s : State) (a : Nat) (v : Word) : (s.setReg a v).eps = s.eps := rfl
@[simp] theorem State.setReg_edges (s : State) (a : Nat) (v : Word) : (s.setReg a v).edges = s.edges := rfl
@[simp] theorem State.setReg_dueCarts (s : State) (a : Nat) (v : Word) : (s.setReg a v).dueCarts = s.dueCarts := rfl
@[simp] theorem State.setReg_dueActs (s : State) (a : Nat) (v : Word) : (s.setReg a v).dueActs = s.dueActs := rfl
@[simp] theorem State.setReg_fabric (s : State) (a : Nat) (v : Word) : (s.setReg a v).fabric = s.fabric := rfl
@[simp] theorem State.setReg_lnk (s : State) (a : Nat) (v : Word) : (s.setReg a v).lnk = s.lnk := rfl
@[simp] theorem State.setReg_drv (s : State) (a : Nat) (v : Word) : (s.setReg a v).drv = s.drv := rfl
@[simp] theorem State.setReg_adc (s : State) (a : Nat) (v : Word) : (s.setReg a v).adc = s.adc := rfl
@[simp] theorem State.setReg_carts (s : State) (a : Nat) (v : Word) : (s.setReg a v).carts = s.carts := rfl
@[simp] theorem State.setReg_recd (s : State) (a : Nat) (v : Word) : (s.setReg a v).recd = s.recd := rfl
@[simp] theorem State.setReg_store (s : State) (a : Nat) (v : Word) : (s.setReg a v).store = s.store := rfl
@[simp] theorem State.setReg_doors (s : State) (a : Nat) (v : Word) : (s.setReg a v).doors = s.doors := rfl
@[simp] theorem State.setReg_commits (s : State) (a : Nat) (v : Word) : (s.setReg a v).commits = s.commits := rfl
@[simp] theorem State.setReg_irq (s : State) (a : Nat) (v : Word) : (s.setReg a v).irq = s.irq := rfl
@[simp] theorem State.setReg_tmr (s : State) (a : Nat) (v : Word) : (s.setReg a v).tmr = s.tmr := rfl
@[simp] theorem State.setReg_evt (s : State) (a : Nat) (v : Word) : (s.setReg a v).evt = s.evt := rfl
@[simp] theorem State.setReg_dma (s : State) (a : Nat) (v : Word) : (s.setReg a v).dma = s.dma := rfl
@[simp] theorem State.setReg_power (s : State) (a : Nat) (v : Word) : (s.setReg a v).power = s.power := rfl
@[simp] theorem State.setReg_flash (s : State) (a : Nat) (v : Word) : (s.setReg a v).flash = s.flash := rfl
@[simp] theorem State.setReg_owner (s : State) (a : Nat) (v : Word) : (s.setReg a v).owner = s.owner := rfl
@[simp] theorem State.setReg_flt (s : State) (a : Nat) (v : Word) : (s.setReg a v).flt = s.flt := rfl
@[simp] theorem State.setReg_freeCtr (s : State) (a : Nat) (v : Word) : (s.setReg a v).freeCtr = s.freeCtr := rfl
@[simp] theorem State.setReg_inpCh (s : State) (a : Nat) (v : Word) (j : Nat) : (s.setReg a v).inpCh j = s.inpCh j := rfl
@[simp] theorem State.setReg_tracker (s : State) (a : Nat) (v : Word) (j : Nat) : (s.setReg a v).tracker j = s.tracker j := rfl
@[simp] theorem State.setReg_slot (s : State) (a : Nat) (v : Word) (j : Nat) : (s.setReg a v).slot j = s.slot j := rfl
@[simp] theorem State.setReg_eptByte (s : State) (a : Nat) (v : Word) (j : Nat) : (s.setReg a v).eptByte j = s.eptByte j := rfl
@[simp] theorem State.setReg_ep (s : State) (a : Nat) (v : Word) (j : Nat) : (s.setReg a v).ep j = s.ep j := rfl
@[simp] theorem State.setReg_link (s : State) (a : Nat) (v : Word) (j : Nat) : (s.setReg a v).link j = s.link j := rfl
@[simp] theorem State.setReg_drive (s : State) (a : Nat) (v : Word) (j : Nat) : (s.setReg a v).drive j = s.drive j := rfl
@[simp] theorem State.setReg_unit (s : State) (a : Nat) (v : Word) (j : Nat) : (s.setReg a v).unit j = s.unit j := rfl
@[simp] theorem State.setReg_door (s : State) (a : Nat) (v : Word) (j : Nat) : (s.setReg a v).door j = s.door j := rfl
@[simp] theorem State.setReg_timer (s : State) (a : Nat) (v : Word) (j : Nat) : (s.setReg a v).timer j = s.timer j := rfl
@[simp] theorem State.setReg_channel (s : State) (a : Nat) (v : Word) (j : Nat) : (s.setReg a v).channel j = s.channel j := rfl
@[simp] theorem State.setReg_src (s : State) (a : Nat) (v : Word) (j : Nat) : (s.setReg a v).src j = s.src j := rfl
@[simp] theorem State.setReg_grp (s : State) (a : Nat) (v : Word) (j : Nat) : (s.setReg a v).grp j = s.grp j := rfl
@[simp] theorem State.setReg_coach (s : State) (a : Nat) (v : Word) (j : Nat) : (s.setReg a v).coach j = s.coach j := rfl
@[simp] theorem State.setReg_carriage (s : State) (a : Nat) (v : Word) (j : Nat) : (s.setReg a v).carriage j = s.carriage j := rfl
@[simp] theorem State.setReg_line (s : State) (a : Nat) (v : Word) (j : Nat) : (s.setReg a v).line j = s.line j := rfl
@[simp] theorem State.setReg_flashByte (s : State) (a : Nat) (v : Word) (j : Nat) : (s.setReg a v).flashByte j = s.flashByte j := rfl

/-! ### put -/

@[simp] theorem State.put_tick (s : State) (f : FieldRef) (v : Nat) : (s.put f v).tick = s.tick := rfl
@[simp] theorem State.put_pending (s : State) (f : FieldRef) (v : Nat) : (s.put f v).pending = s.pending := rfl
@[simp] theorem State.put_clk (s : State) (f : FieldRef) (v : Nat) : (s.put f v).clk = s.clk := rfl
@[simp] theorem State.put_inp (s : State) (f : FieldRef) (v : Nat) : (s.put f v).inp = s.inp := rfl
@[simp] theorem State.put_trk (s : State) (f : FieldRef) (v : Nat) : (s.put f v).trk = s.trk := rfl
@[simp] theorem State.put_slots (s : State) (f : FieldRef) (v : Nat) : (s.put f v).slots = s.slots := rfl
@[simp] theorem State.put_ept (s : State) (f : FieldRef) (v : Nat) : (s.put f v).ept = s.ept := rfl
@[simp] theorem State.put_eps (s : State) (f : FieldRef) (v : Nat) : (s.put f v).eps = s.eps := rfl
@[simp] theorem State.put_edges (s : State) (f : FieldRef) (v : Nat) : (s.put f v).edges = s.edges := rfl
@[simp] theorem State.put_dueCarts (s : State) (f : FieldRef) (v : Nat) : (s.put f v).dueCarts = s.dueCarts := rfl
@[simp] theorem State.put_dueActs (s : State) (f : FieldRef) (v : Nat) : (s.put f v).dueActs = s.dueActs := rfl
@[simp] theorem State.put_fabric (s : State) (f : FieldRef) (v : Nat) : (s.put f v).fabric = s.fabric := rfl
@[simp] theorem State.put_lnk (s : State) (f : FieldRef) (v : Nat) : (s.put f v).lnk = s.lnk := rfl
@[simp] theorem State.put_drv (s : State) (f : FieldRef) (v : Nat) : (s.put f v).drv = s.drv := rfl
@[simp] theorem State.put_adc (s : State) (f : FieldRef) (v : Nat) : (s.put f v).adc = s.adc := rfl
@[simp] theorem State.put_carts (s : State) (f : FieldRef) (v : Nat) : (s.put f v).carts = s.carts := rfl
@[simp] theorem State.put_recd (s : State) (f : FieldRef) (v : Nat) : (s.put f v).recd = s.recd := rfl
@[simp] theorem State.put_store (s : State) (f : FieldRef) (v : Nat) : (s.put f v).store = s.store := rfl
@[simp] theorem State.put_doors (s : State) (f : FieldRef) (v : Nat) : (s.put f v).doors = s.doors := rfl
@[simp] theorem State.put_commits (s : State) (f : FieldRef) (v : Nat) : (s.put f v).commits = s.commits := rfl
@[simp] theorem State.put_irq (s : State) (f : FieldRef) (v : Nat) : (s.put f v).irq = s.irq := rfl
@[simp] theorem State.put_tmr (s : State) (f : FieldRef) (v : Nat) : (s.put f v).tmr = s.tmr := rfl
@[simp] theorem State.put_evt (s : State) (f : FieldRef) (v : Nat) : (s.put f v).evt = s.evt := rfl
@[simp] theorem State.put_dma (s : State) (f : FieldRef) (v : Nat) : (s.put f v).dma = s.dma := rfl
@[simp] theorem State.put_power (s : State) (f : FieldRef) (v : Nat) : (s.put f v).power = s.power := rfl
@[simp] theorem State.put_flash (s : State) (f : FieldRef) (v : Nat) : (s.put f v).flash = s.flash := rfl
@[simp] theorem State.put_owner (s : State) (f : FieldRef) (v : Nat) : (s.put f v).owner = s.owner := rfl
@[simp] theorem State.put_flt (s : State) (f : FieldRef) (v : Nat) : (s.put f v).flt = s.flt := rfl
@[simp] theorem State.put_freeCtr (s : State) (f : FieldRef) (v : Nat) : (s.put f v).freeCtr = s.freeCtr := rfl
@[simp] theorem State.put_inpCh (s : State) (f : FieldRef) (v : Nat) (j : Nat) : (s.put f v).inpCh j = s.inpCh j := rfl
@[simp] theorem State.put_tracker (s : State) (f : FieldRef) (v : Nat) (j : Nat) : (s.put f v).tracker j = s.tracker j := rfl
@[simp] theorem State.put_slot (s : State) (f : FieldRef) (v : Nat) (j : Nat) : (s.put f v).slot j = s.slot j := rfl
@[simp] theorem State.put_eptByte (s : State) (f : FieldRef) (v : Nat) (j : Nat) : (s.put f v).eptByte j = s.eptByte j := rfl
@[simp] theorem State.put_ep (s : State) (f : FieldRef) (v : Nat) (j : Nat) : (s.put f v).ep j = s.ep j := rfl
@[simp] theorem State.put_link (s : State) (f : FieldRef) (v : Nat) (j : Nat) : (s.put f v).link j = s.link j := rfl
@[simp] theorem State.put_drive (s : State) (f : FieldRef) (v : Nat) (j : Nat) : (s.put f v).drive j = s.drive j := rfl
@[simp] theorem State.put_unit (s : State) (f : FieldRef) (v : Nat) (j : Nat) : (s.put f v).unit j = s.unit j := rfl
@[simp] theorem State.put_door (s : State) (f : FieldRef) (v : Nat) (j : Nat) : (s.put f v).door j = s.door j := rfl
@[simp] theorem State.put_timer (s : State) (f : FieldRef) (v : Nat) (j : Nat) : (s.put f v).timer j = s.timer j := rfl
@[simp] theorem State.put_channel (s : State) (f : FieldRef) (v : Nat) (j : Nat) : (s.put f v).channel j = s.channel j := rfl
@[simp] theorem State.put_src (s : State) (f : FieldRef) (v : Nat) (j : Nat) : (s.put f v).src j = s.src j := rfl
@[simp] theorem State.put_grp (s : State) (f : FieldRef) (v : Nat) (j : Nat) : (s.put f v).grp j = s.grp j := rfl
@[simp] theorem State.put_coach (s : State) (f : FieldRef) (v : Nat) (j : Nat) : (s.put f v).coach j = s.coach j := rfl
@[simp] theorem State.put_carriage (s : State) (f : FieldRef) (v : Nat) (j : Nat) : (s.put f v).carriage j = s.carriage j := rfl
@[simp] theorem State.put_line (s : State) (f : FieldRef) (v : Nat) (j : Nat) : (s.put f v).line j = s.line j := rfl
@[simp] theorem State.put_flashByte (s : State) (f : FieldRef) (v : Nat) (j : Nat) : (s.put f v).flashByte j = s.flashByte j := rfl

/-! ### raise -/

@[simp] theorem State.raise_tick (s : State) (p k : Nat) : (s.raise p k).tick = s.tick := rfl
@[simp] theorem State.raise_pending (s : State) (p k : Nat) : (s.raise p k).pending = s.pending := rfl
@[simp] theorem State.raise_clk (s : State) (p k : Nat) : (s.raise p k).clk = s.clk := rfl
@[simp] theorem State.raise_inp (s : State) (p k : Nat) : (s.raise p k).inp = s.inp := rfl
@[simp] theorem State.raise_trk (s : State) (p k : Nat) : (s.raise p k).trk = s.trk := rfl
@[simp] theorem State.raise_slots (s : State) (p k : Nat) : (s.raise p k).slots = s.slots := rfl
@[simp] theorem State.raise_ept (s : State) (p k : Nat) : (s.raise p k).ept = s.ept := rfl
@[simp] theorem State.raise_eps (s : State) (p k : Nat) : (s.raise p k).eps = s.eps := rfl
@[simp] theorem State.raise_edges (s : State) (p k : Nat) : (s.raise p k).edges = s.edges := rfl
@[simp] theorem State.raise_dueCarts (s : State) (p k : Nat) : (s.raise p k).dueCarts = s.dueCarts := rfl
@[simp] theorem State.raise_dueActs (s : State) (p k : Nat) : (s.raise p k).dueActs = s.dueActs := rfl
@[simp] theorem State.raise_fabric (s : State) (p k : Nat) : (s.raise p k).fabric = s.fabric := rfl
@[simp] theorem State.raise_lnk (s : State) (p k : Nat) : (s.raise p k).lnk = s.lnk := rfl
@[simp] theorem State.raise_drv (s : State) (p k : Nat) : (s.raise p k).drv = s.drv := rfl
@[simp] theorem State.raise_adc (s : State) (p k : Nat) : (s.raise p k).adc = s.adc := rfl
@[simp] theorem State.raise_carts (s : State) (p k : Nat) : (s.raise p k).carts = s.carts := rfl
@[simp] theorem State.raise_recd (s : State) (p k : Nat) : (s.raise p k).recd = s.recd := rfl
@[simp] theorem State.raise_store (s : State) (p k : Nat) : (s.raise p k).store = s.store := rfl
@[simp] theorem State.raise_doors (s : State) (p k : Nat) : (s.raise p k).doors = s.doors := rfl
@[simp] theorem State.raise_commits (s : State) (p k : Nat) : (s.raise p k).commits = s.commits := rfl
@[simp] theorem State.raise_irq (s : State) (p k : Nat) : (s.raise p k).irq = s.irq := rfl
@[simp] theorem State.raise_tmr (s : State) (p k : Nat) : (s.raise p k).tmr = s.tmr := rfl
@[simp] theorem State.raise_evt (s : State) (p k : Nat) : (s.raise p k).evt = s.evt := rfl
@[simp] theorem State.raise_dma (s : State) (p k : Nat) : (s.raise p k).dma = s.dma := rfl
@[simp] theorem State.raise_power (s : State) (p k : Nat) : (s.raise p k).power = s.power := rfl
@[simp] theorem State.raise_flash (s : State) (p k : Nat) : (s.raise p k).flash = s.flash := rfl
@[simp] theorem State.raise_owner (s : State) (p k : Nat) : (s.raise p k).owner = s.owner := rfl
@[simp] theorem State.raise_flt (s : State) (p k : Nat) : (s.raise p k).flt = s.flt := rfl
@[simp] theorem State.raise_freeCtr (s : State) (p k : Nat) : (s.raise p k).freeCtr = s.freeCtr := rfl
@[simp] theorem State.raise_inpCh (s : State) (p k : Nat) (j : Nat) : (s.raise p k).inpCh j = s.inpCh j := rfl
@[simp] theorem State.raise_tracker (s : State) (p k : Nat) (j : Nat) : (s.raise p k).tracker j = s.tracker j := rfl
@[simp] theorem State.raise_slot (s : State) (p k : Nat) (j : Nat) : (s.raise p k).slot j = s.slot j := rfl
@[simp] theorem State.raise_eptByte (s : State) (p k : Nat) (j : Nat) : (s.raise p k).eptByte j = s.eptByte j := rfl
@[simp] theorem State.raise_ep (s : State) (p k : Nat) (j : Nat) : (s.raise p k).ep j = s.ep j := rfl
@[simp] theorem State.raise_link (s : State) (p k : Nat) (j : Nat) : (s.raise p k).link j = s.link j := rfl
@[simp] theorem State.raise_drive (s : State) (p k : Nat) (j : Nat) : (s.raise p k).drive j = s.drive j := rfl
@[simp] theorem State.raise_unit (s : State) (p k : Nat) (j : Nat) : (s.raise p k).unit j = s.unit j := rfl
@[simp] theorem State.raise_door (s : State) (p k : Nat) (j : Nat) : (s.raise p k).door j = s.door j := rfl
@[simp] theorem State.raise_timer (s : State) (p k : Nat) (j : Nat) : (s.raise p k).timer j = s.timer j := rfl
@[simp] theorem State.raise_channel (s : State) (p k : Nat) (j : Nat) : (s.raise p k).channel j = s.channel j := rfl
@[simp] theorem State.raise_src (s : State) (p k : Nat) (j : Nat) : (s.raise p k).src j = s.src j := rfl
@[simp] theorem State.raise_grp (s : State) (p k : Nat) (j : Nat) : (s.raise p k).grp j = s.grp j := rfl
@[simp] theorem State.raise_coach (s : State) (p k : Nat) (j : Nat) : (s.raise p k).coach j = s.coach j := rfl
@[simp] theorem State.raise_carriage (s : State) (p k : Nat) (j : Nat) : (s.raise p k).carriage j = s.carriage j := rfl
@[simp] theorem State.raise_line (s : State) (p k : Nat) (j : Nat) : (s.raise p k).line j = s.line j := rfl
@[simp] theorem State.raise_flashByte (s : State) (p k : Nat) (j : Nat) : (s.raise p k).flashByte j = s.flashByte j := rfl

/-! ### setInp -/

@[simp] theorem State.setInp_tick (s : State) (n : Nat) (v : InpCh) : (s.setInp n v).tick = s.tick := rfl
@[simp] theorem State.setInp_pending (s : State) (n : Nat) (v : InpCh) : (s.setInp n v).pending = s.pending := rfl
@[simp] theorem State.setInp_regs (s : State) (n : Nat) (v : InpCh) : (s.setInp n v).regs = s.regs := rfl
@[simp] theorem State.setInp_clk (s : State) (n : Nat) (v : InpCh) : (s.setInp n v).clk = s.clk := rfl
@[simp] theorem State.setInp_trk (s : State) (n : Nat) (v : InpCh) : (s.setInp n v).trk = s.trk := rfl
@[simp] theorem State.setInp_slots (s : State) (n : Nat) (v : InpCh) : (s.setInp n v).slots = s.slots := rfl
@[simp] theorem State.setInp_ept (s : State) (n : Nat) (v : InpCh) : (s.setInp n v).ept = s.ept := rfl
@[simp] theorem State.setInp_eps (s : State) (n : Nat) (v : InpCh) : (s.setInp n v).eps = s.eps := rfl
@[simp] theorem State.setInp_edges (s : State) (n : Nat) (v : InpCh) : (s.setInp n v).edges = s.edges := rfl
@[simp] theorem State.setInp_dueCarts (s : State) (n : Nat) (v : InpCh) : (s.setInp n v).dueCarts = s.dueCarts := rfl
@[simp] theorem State.setInp_dueActs (s : State) (n : Nat) (v : InpCh) : (s.setInp n v).dueActs = s.dueActs := rfl
@[simp] theorem State.setInp_fabric (s : State) (n : Nat) (v : InpCh) : (s.setInp n v).fabric = s.fabric := rfl
@[simp] theorem State.setInp_lnk (s : State) (n : Nat) (v : InpCh) : (s.setInp n v).lnk = s.lnk := rfl
@[simp] theorem State.setInp_drv (s : State) (n : Nat) (v : InpCh) : (s.setInp n v).drv = s.drv := rfl
@[simp] theorem State.setInp_adc (s : State) (n : Nat) (v : InpCh) : (s.setInp n v).adc = s.adc := rfl
@[simp] theorem State.setInp_carts (s : State) (n : Nat) (v : InpCh) : (s.setInp n v).carts = s.carts := rfl
@[simp] theorem State.setInp_recd (s : State) (n : Nat) (v : InpCh) : (s.setInp n v).recd = s.recd := rfl
@[simp] theorem State.setInp_store (s : State) (n : Nat) (v : InpCh) : (s.setInp n v).store = s.store := rfl
@[simp] theorem State.setInp_doors (s : State) (n : Nat) (v : InpCh) : (s.setInp n v).doors = s.doors := rfl
@[simp] theorem State.setInp_commits (s : State) (n : Nat) (v : InpCh) : (s.setInp n v).commits = s.commits := rfl
@[simp] theorem State.setInp_irq (s : State) (n : Nat) (v : InpCh) : (s.setInp n v).irq = s.irq := rfl
@[simp] theorem State.setInp_tmr (s : State) (n : Nat) (v : InpCh) : (s.setInp n v).tmr = s.tmr := rfl
@[simp] theorem State.setInp_evt (s : State) (n : Nat) (v : InpCh) : (s.setInp n v).evt = s.evt := rfl
@[simp] theorem State.setInp_dma (s : State) (n : Nat) (v : InpCh) : (s.setInp n v).dma = s.dma := rfl
@[simp] theorem State.setInp_power (s : State) (n : Nat) (v : InpCh) : (s.setInp n v).power = s.power := rfl
@[simp] theorem State.setInp_flash (s : State) (n : Nat) (v : InpCh) : (s.setInp n v).flash = s.flash := rfl
@[simp] theorem State.setInp_owner (s : State) (n : Nat) (v : InpCh) : (s.setInp n v).owner = s.owner := rfl
@[simp] theorem State.setInp_flt (s : State) (n : Nat) (v : InpCh) : (s.setInp n v).flt = s.flt := rfl
@[simp] theorem State.setInp_freeCtr (s : State) (n : Nat) (v : InpCh) : (s.setInp n v).freeCtr = s.freeCtr := rfl
@[simp] theorem State.setInp_reg (s : State) (n : Nat) (v : InpCh) (j : Nat) : (s.setInp n v).reg j = s.reg j := rfl
@[simp] theorem State.setInp_get (s : State) (n : Nat) (v : InpCh) (j : FieldRef) : (s.setInp n v).get j = s.get j := rfl
@[simp] theorem State.setInp_bit (s : State) (n : Nat) (v : InpCh) (j : FieldRef) : (s.setInp n v).bit j = s.bit j := rfl
@[simp] theorem State.setInp_inpCh (s : State) (n : Nat) (v : InpCh) (j : Nat) : (s.setInp n v).inpCh j = if j = n then v else s.inpCh j := by
  simp only [State.inpCh, State.setInp]; exact Sparse.get_set _ _ _ _ _
@[simp] theorem State.setInp_tracker (s : State) (n : Nat) (v : InpCh) (j : Nat) : (s.setInp n v).tracker j = s.tracker j := rfl
@[simp] theorem State.setInp_slot (s : State) (n : Nat) (v : InpCh) (j : Nat) : (s.setInp n v).slot j = s.slot j := rfl
@[simp] theorem State.setInp_eptByte (s : State) (n : Nat) (v : InpCh) (j : Nat) : (s.setInp n v).eptByte j = s.eptByte j := rfl
@[simp] theorem State.setInp_ep (s : State) (n : Nat) (v : InpCh) (j : Nat) : (s.setInp n v).ep j = s.ep j := rfl
@[simp] theorem State.setInp_link (s : State) (n : Nat) (v : InpCh) (j : Nat) : (s.setInp n v).link j = s.link j := rfl
@[simp] theorem State.setInp_drive (s : State) (n : Nat) (v : InpCh) (j : Nat) : (s.setInp n v).drive j = s.drive j := rfl
@[simp] theorem State.setInp_unit (s : State) (n : Nat) (v : InpCh) (j : Nat) : (s.setInp n v).unit j = s.unit j := rfl
@[simp] theorem State.setInp_door (s : State) (n : Nat) (v : InpCh) (j : Nat) : (s.setInp n v).door j = s.door j := rfl
@[simp] theorem State.setInp_timer (s : State) (n : Nat) (v : InpCh) (j : Nat) : (s.setInp n v).timer j = s.timer j := rfl
@[simp] theorem State.setInp_channel (s : State) (n : Nat) (v : InpCh) (j : Nat) : (s.setInp n v).channel j = s.channel j := rfl
@[simp] theorem State.setInp_src (s : State) (n : Nat) (v : InpCh) (j : Nat) : (s.setInp n v).src j = s.src j := rfl
@[simp] theorem State.setInp_grp (s : State) (n : Nat) (v : InpCh) (j : Nat) : (s.setInp n v).grp j = s.grp j := rfl
@[simp] theorem State.setInp_coach (s : State) (n : Nat) (v : InpCh) (j : Nat) : (s.setInp n v).coach j = s.coach j := rfl
@[simp] theorem State.setInp_carriage (s : State) (n : Nat) (v : InpCh) (j : Nat) : (s.setInp n v).carriage j = s.carriage j := rfl
@[simp] theorem State.setInp_line (s : State) (n : Nat) (v : InpCh) (j : Nat) : (s.setInp n v).line j = s.line j := rfl
@[simp] theorem State.setInp_flashByte (s : State) (n : Nat) (v : InpCh) (j : Nat) : (s.setInp n v).flashByte j = s.flashByte j := rfl

/-! ### setTrk -/

@[simp] theorem State.setTrk_tick (s : State) (n : Nat) (v : Tracker) : (s.setTrk n v).tick = s.tick := rfl
@[simp] theorem State.setTrk_pending (s : State) (n : Nat) (v : Tracker) : (s.setTrk n v).pending = s.pending := rfl
@[simp] theorem State.setTrk_regs (s : State) (n : Nat) (v : Tracker) : (s.setTrk n v).regs = s.regs := rfl
@[simp] theorem State.setTrk_clk (s : State) (n : Nat) (v : Tracker) : (s.setTrk n v).clk = s.clk := rfl
@[simp] theorem State.setTrk_inp (s : State) (n : Nat) (v : Tracker) : (s.setTrk n v).inp = s.inp := rfl
@[simp] theorem State.setTrk_slots (s : State) (n : Nat) (v : Tracker) : (s.setTrk n v).slots = s.slots := rfl
@[simp] theorem State.setTrk_ept (s : State) (n : Nat) (v : Tracker) : (s.setTrk n v).ept = s.ept := rfl
@[simp] theorem State.setTrk_eps (s : State) (n : Nat) (v : Tracker) : (s.setTrk n v).eps = s.eps := rfl
@[simp] theorem State.setTrk_edges (s : State) (n : Nat) (v : Tracker) : (s.setTrk n v).edges = s.edges := rfl
@[simp] theorem State.setTrk_dueCarts (s : State) (n : Nat) (v : Tracker) : (s.setTrk n v).dueCarts = s.dueCarts := rfl
@[simp] theorem State.setTrk_dueActs (s : State) (n : Nat) (v : Tracker) : (s.setTrk n v).dueActs = s.dueActs := rfl
@[simp] theorem State.setTrk_fabric (s : State) (n : Nat) (v : Tracker) : (s.setTrk n v).fabric = s.fabric := rfl
@[simp] theorem State.setTrk_lnk (s : State) (n : Nat) (v : Tracker) : (s.setTrk n v).lnk = s.lnk := rfl
@[simp] theorem State.setTrk_drv (s : State) (n : Nat) (v : Tracker) : (s.setTrk n v).drv = s.drv := rfl
@[simp] theorem State.setTrk_adc (s : State) (n : Nat) (v : Tracker) : (s.setTrk n v).adc = s.adc := rfl
@[simp] theorem State.setTrk_carts (s : State) (n : Nat) (v : Tracker) : (s.setTrk n v).carts = s.carts := rfl
@[simp] theorem State.setTrk_recd (s : State) (n : Nat) (v : Tracker) : (s.setTrk n v).recd = s.recd := rfl
@[simp] theorem State.setTrk_store (s : State) (n : Nat) (v : Tracker) : (s.setTrk n v).store = s.store := rfl
@[simp] theorem State.setTrk_doors (s : State) (n : Nat) (v : Tracker) : (s.setTrk n v).doors = s.doors := rfl
@[simp] theorem State.setTrk_commits (s : State) (n : Nat) (v : Tracker) : (s.setTrk n v).commits = s.commits := rfl
@[simp] theorem State.setTrk_irq (s : State) (n : Nat) (v : Tracker) : (s.setTrk n v).irq = s.irq := rfl
@[simp] theorem State.setTrk_tmr (s : State) (n : Nat) (v : Tracker) : (s.setTrk n v).tmr = s.tmr := rfl
@[simp] theorem State.setTrk_evt (s : State) (n : Nat) (v : Tracker) : (s.setTrk n v).evt = s.evt := rfl
@[simp] theorem State.setTrk_dma (s : State) (n : Nat) (v : Tracker) : (s.setTrk n v).dma = s.dma := rfl
@[simp] theorem State.setTrk_power (s : State) (n : Nat) (v : Tracker) : (s.setTrk n v).power = s.power := rfl
@[simp] theorem State.setTrk_flash (s : State) (n : Nat) (v : Tracker) : (s.setTrk n v).flash = s.flash := rfl
@[simp] theorem State.setTrk_owner (s : State) (n : Nat) (v : Tracker) : (s.setTrk n v).owner = s.owner := rfl
@[simp] theorem State.setTrk_flt (s : State) (n : Nat) (v : Tracker) : (s.setTrk n v).flt = s.flt := rfl
@[simp] theorem State.setTrk_freeCtr (s : State) (n : Nat) (v : Tracker) : (s.setTrk n v).freeCtr = s.freeCtr := rfl
@[simp] theorem State.setTrk_reg (s : State) (n : Nat) (v : Tracker) (j : Nat) : (s.setTrk n v).reg j = s.reg j := rfl
@[simp] theorem State.setTrk_get (s : State) (n : Nat) (v : Tracker) (j : FieldRef) : (s.setTrk n v).get j = s.get j := rfl
@[simp] theorem State.setTrk_bit (s : State) (n : Nat) (v : Tracker) (j : FieldRef) : (s.setTrk n v).bit j = s.bit j := rfl
@[simp] theorem State.setTrk_inpCh (s : State) (n : Nat) (v : Tracker) (j : Nat) : (s.setTrk n v).inpCh j = s.inpCh j := rfl
@[simp] theorem State.setTrk_tracker (s : State) (n : Nat) (v : Tracker) (j : Nat) : (s.setTrk n v).tracker j = if j = n then v else s.tracker j := by
  simp only [State.tracker, State.setTrk]; exact Sparse.get_set _ _ _ _ _
@[simp] theorem State.setTrk_slot (s : State) (n : Nat) (v : Tracker) (j : Nat) : (s.setTrk n v).slot j = s.slot j := rfl
@[simp] theorem State.setTrk_eptByte (s : State) (n : Nat) (v : Tracker) (j : Nat) : (s.setTrk n v).eptByte j = s.eptByte j := rfl
@[simp] theorem State.setTrk_ep (s : State) (n : Nat) (v : Tracker) (j : Nat) : (s.setTrk n v).ep j = s.ep j := rfl
@[simp] theorem State.setTrk_link (s : State) (n : Nat) (v : Tracker) (j : Nat) : (s.setTrk n v).link j = s.link j := rfl
@[simp] theorem State.setTrk_drive (s : State) (n : Nat) (v : Tracker) (j : Nat) : (s.setTrk n v).drive j = s.drive j := rfl
@[simp] theorem State.setTrk_unit (s : State) (n : Nat) (v : Tracker) (j : Nat) : (s.setTrk n v).unit j = s.unit j := rfl
@[simp] theorem State.setTrk_door (s : State) (n : Nat) (v : Tracker) (j : Nat) : (s.setTrk n v).door j = s.door j := rfl
@[simp] theorem State.setTrk_timer (s : State) (n : Nat) (v : Tracker) (j : Nat) : (s.setTrk n v).timer j = s.timer j := rfl
@[simp] theorem State.setTrk_channel (s : State) (n : Nat) (v : Tracker) (j : Nat) : (s.setTrk n v).channel j = s.channel j := rfl
@[simp] theorem State.setTrk_src (s : State) (n : Nat) (v : Tracker) (j : Nat) : (s.setTrk n v).src j = s.src j := rfl
@[simp] theorem State.setTrk_grp (s : State) (n : Nat) (v : Tracker) (j : Nat) : (s.setTrk n v).grp j = s.grp j := rfl
@[simp] theorem State.setTrk_coach (s : State) (n : Nat) (v : Tracker) (j : Nat) : (s.setTrk n v).coach j = s.coach j := rfl
@[simp] theorem State.setTrk_carriage (s : State) (n : Nat) (v : Tracker) (j : Nat) : (s.setTrk n v).carriage j = s.carriage j := rfl
@[simp] theorem State.setTrk_line (s : State) (n : Nat) (v : Tracker) (j : Nat) : (s.setTrk n v).line j = s.line j := rfl
@[simp] theorem State.setTrk_flashByte (s : State) (n : Nat) (v : Tracker) (j : Nat) : (s.setTrk n v).flashByte j = s.flashByte j := rfl

/-! ### setSlot -/

@[simp] theorem State.setSlot_tick (s : State) (n : Nat) (v : Slot) : (s.setSlot n v).tick = s.tick := rfl
@[simp] theorem State.setSlot_pending (s : State) (n : Nat) (v : Slot) : (s.setSlot n v).pending = s.pending := rfl
@[simp] theorem State.setSlot_regs (s : State) (n : Nat) (v : Slot) : (s.setSlot n v).regs = s.regs := rfl
@[simp] theorem State.setSlot_clk (s : State) (n : Nat) (v : Slot) : (s.setSlot n v).clk = s.clk := rfl
@[simp] theorem State.setSlot_inp (s : State) (n : Nat) (v : Slot) : (s.setSlot n v).inp = s.inp := rfl
@[simp] theorem State.setSlot_trk (s : State) (n : Nat) (v : Slot) : (s.setSlot n v).trk = s.trk := rfl
@[simp] theorem State.setSlot_ept (s : State) (n : Nat) (v : Slot) : (s.setSlot n v).ept = s.ept := rfl
@[simp] theorem State.setSlot_eps (s : State) (n : Nat) (v : Slot) : (s.setSlot n v).eps = s.eps := rfl
@[simp] theorem State.setSlot_edges (s : State) (n : Nat) (v : Slot) : (s.setSlot n v).edges = s.edges := rfl
@[simp] theorem State.setSlot_dueCarts (s : State) (n : Nat) (v : Slot) : (s.setSlot n v).dueCarts = s.dueCarts := rfl
@[simp] theorem State.setSlot_dueActs (s : State) (n : Nat) (v : Slot) : (s.setSlot n v).dueActs = s.dueActs := rfl
@[simp] theorem State.setSlot_fabric (s : State) (n : Nat) (v : Slot) : (s.setSlot n v).fabric = s.fabric := rfl
@[simp] theorem State.setSlot_lnk (s : State) (n : Nat) (v : Slot) : (s.setSlot n v).lnk = s.lnk := rfl
@[simp] theorem State.setSlot_drv (s : State) (n : Nat) (v : Slot) : (s.setSlot n v).drv = s.drv := rfl
@[simp] theorem State.setSlot_adc (s : State) (n : Nat) (v : Slot) : (s.setSlot n v).adc = s.adc := rfl
@[simp] theorem State.setSlot_carts (s : State) (n : Nat) (v : Slot) : (s.setSlot n v).carts = s.carts := rfl
@[simp] theorem State.setSlot_recd (s : State) (n : Nat) (v : Slot) : (s.setSlot n v).recd = s.recd := rfl
@[simp] theorem State.setSlot_store (s : State) (n : Nat) (v : Slot) : (s.setSlot n v).store = s.store := rfl
@[simp] theorem State.setSlot_doors (s : State) (n : Nat) (v : Slot) : (s.setSlot n v).doors = s.doors := rfl
@[simp] theorem State.setSlot_commits (s : State) (n : Nat) (v : Slot) : (s.setSlot n v).commits = s.commits := rfl
@[simp] theorem State.setSlot_irq (s : State) (n : Nat) (v : Slot) : (s.setSlot n v).irq = s.irq := rfl
@[simp] theorem State.setSlot_tmr (s : State) (n : Nat) (v : Slot) : (s.setSlot n v).tmr = s.tmr := rfl
@[simp] theorem State.setSlot_evt (s : State) (n : Nat) (v : Slot) : (s.setSlot n v).evt = s.evt := rfl
@[simp] theorem State.setSlot_dma (s : State) (n : Nat) (v : Slot) : (s.setSlot n v).dma = s.dma := rfl
@[simp] theorem State.setSlot_power (s : State) (n : Nat) (v : Slot) : (s.setSlot n v).power = s.power := rfl
@[simp] theorem State.setSlot_flash (s : State) (n : Nat) (v : Slot) : (s.setSlot n v).flash = s.flash := rfl
@[simp] theorem State.setSlot_owner (s : State) (n : Nat) (v : Slot) : (s.setSlot n v).owner = s.owner := rfl
@[simp] theorem State.setSlot_flt (s : State) (n : Nat) (v : Slot) : (s.setSlot n v).flt = s.flt := rfl
@[simp] theorem State.setSlot_freeCtr (s : State) (n : Nat) (v : Slot) : (s.setSlot n v).freeCtr = s.freeCtr := rfl
@[simp] theorem State.setSlot_reg (s : State) (n : Nat) (v : Slot) (j : Nat) : (s.setSlot n v).reg j = s.reg j := rfl
@[simp] theorem State.setSlot_get (s : State) (n : Nat) (v : Slot) (j : FieldRef) : (s.setSlot n v).get j = s.get j := rfl
@[simp] theorem State.setSlot_bit (s : State) (n : Nat) (v : Slot) (j : FieldRef) : (s.setSlot n v).bit j = s.bit j := rfl
@[simp] theorem State.setSlot_inpCh (s : State) (n : Nat) (v : Slot) (j : Nat) : (s.setSlot n v).inpCh j = s.inpCh j := rfl
@[simp] theorem State.setSlot_tracker (s : State) (n : Nat) (v : Slot) (j : Nat) : (s.setSlot n v).tracker j = s.tracker j := rfl
@[simp] theorem State.setSlot_slot (s : State) (n : Nat) (v : Slot) (j : Nat) : (s.setSlot n v).slot j = if j = n then v else s.slot j := by
  simp only [State.slot, State.setSlot]; exact Sparse.get_set _ _ _ _ _
@[simp] theorem State.setSlot_eptByte (s : State) (n : Nat) (v : Slot) (j : Nat) : (s.setSlot n v).eptByte j = s.eptByte j := rfl
@[simp] theorem State.setSlot_ep (s : State) (n : Nat) (v : Slot) (j : Nat) : (s.setSlot n v).ep j = s.ep j := rfl
@[simp] theorem State.setSlot_link (s : State) (n : Nat) (v : Slot) (j : Nat) : (s.setSlot n v).link j = s.link j := rfl
@[simp] theorem State.setSlot_drive (s : State) (n : Nat) (v : Slot) (j : Nat) : (s.setSlot n v).drive j = s.drive j := rfl
@[simp] theorem State.setSlot_unit (s : State) (n : Nat) (v : Slot) (j : Nat) : (s.setSlot n v).unit j = s.unit j := rfl
@[simp] theorem State.setSlot_door (s : State) (n : Nat) (v : Slot) (j : Nat) : (s.setSlot n v).door j = s.door j := rfl
@[simp] theorem State.setSlot_timer (s : State) (n : Nat) (v : Slot) (j : Nat) : (s.setSlot n v).timer j = s.timer j := rfl
@[simp] theorem State.setSlot_channel (s : State) (n : Nat) (v : Slot) (j : Nat) : (s.setSlot n v).channel j = s.channel j := rfl
@[simp] theorem State.setSlot_src (s : State) (n : Nat) (v : Slot) (j : Nat) : (s.setSlot n v).src j = s.src j := rfl
@[simp] theorem State.setSlot_grp (s : State) (n : Nat) (v : Slot) (j : Nat) : (s.setSlot n v).grp j = s.grp j := rfl
@[simp] theorem State.setSlot_coach (s : State) (n : Nat) (v : Slot) (j : Nat) : (s.setSlot n v).coach j = s.coach j := rfl
@[simp] theorem State.setSlot_carriage (s : State) (n : Nat) (v : Slot) (j : Nat) : (s.setSlot n v).carriage j = s.carriage j := rfl
@[simp] theorem State.setSlot_line (s : State) (n : Nat) (v : Slot) (j : Nat) : (s.setSlot n v).line j = s.line j := rfl
@[simp] theorem State.setSlot_flashByte (s : State) (n : Nat) (v : Slot) (j : Nat) : (s.setSlot n v).flashByte j = s.flashByte j := rfl

/-! ### setEpt -/

@[simp] theorem State.setEpt_tick (s : State) (n : Nat) (v : Word) : (s.setEpt n v).tick = s.tick := rfl
@[simp] theorem State.setEpt_pending (s : State) (n : Nat) (v : Word) : (s.setEpt n v).pending = s.pending := rfl
@[simp] theorem State.setEpt_regs (s : State) (n : Nat) (v : Word) : (s.setEpt n v).regs = s.regs := rfl
@[simp] theorem State.setEpt_clk (s : State) (n : Nat) (v : Word) : (s.setEpt n v).clk = s.clk := rfl
@[simp] theorem State.setEpt_inp (s : State) (n : Nat) (v : Word) : (s.setEpt n v).inp = s.inp := rfl
@[simp] theorem State.setEpt_trk (s : State) (n : Nat) (v : Word) : (s.setEpt n v).trk = s.trk := rfl
@[simp] theorem State.setEpt_slots (s : State) (n : Nat) (v : Word) : (s.setEpt n v).slots = s.slots := rfl
@[simp] theorem State.setEpt_eps (s : State) (n : Nat) (v : Word) : (s.setEpt n v).eps = s.eps := rfl
@[simp] theorem State.setEpt_edges (s : State) (n : Nat) (v : Word) : (s.setEpt n v).edges = s.edges := rfl
@[simp] theorem State.setEpt_dueCarts (s : State) (n : Nat) (v : Word) : (s.setEpt n v).dueCarts = s.dueCarts := rfl
@[simp] theorem State.setEpt_dueActs (s : State) (n : Nat) (v : Word) : (s.setEpt n v).dueActs = s.dueActs := rfl
@[simp] theorem State.setEpt_fabric (s : State) (n : Nat) (v : Word) : (s.setEpt n v).fabric = s.fabric := rfl
@[simp] theorem State.setEpt_lnk (s : State) (n : Nat) (v : Word) : (s.setEpt n v).lnk = s.lnk := rfl
@[simp] theorem State.setEpt_drv (s : State) (n : Nat) (v : Word) : (s.setEpt n v).drv = s.drv := rfl
@[simp] theorem State.setEpt_adc (s : State) (n : Nat) (v : Word) : (s.setEpt n v).adc = s.adc := rfl
@[simp] theorem State.setEpt_carts (s : State) (n : Nat) (v : Word) : (s.setEpt n v).carts = s.carts := rfl
@[simp] theorem State.setEpt_recd (s : State) (n : Nat) (v : Word) : (s.setEpt n v).recd = s.recd := rfl
@[simp] theorem State.setEpt_store (s : State) (n : Nat) (v : Word) : (s.setEpt n v).store = s.store := rfl
@[simp] theorem State.setEpt_doors (s : State) (n : Nat) (v : Word) : (s.setEpt n v).doors = s.doors := rfl
@[simp] theorem State.setEpt_commits (s : State) (n : Nat) (v : Word) : (s.setEpt n v).commits = s.commits := rfl
@[simp] theorem State.setEpt_irq (s : State) (n : Nat) (v : Word) : (s.setEpt n v).irq = s.irq := rfl
@[simp] theorem State.setEpt_tmr (s : State) (n : Nat) (v : Word) : (s.setEpt n v).tmr = s.tmr := rfl
@[simp] theorem State.setEpt_evt (s : State) (n : Nat) (v : Word) : (s.setEpt n v).evt = s.evt := rfl
@[simp] theorem State.setEpt_dma (s : State) (n : Nat) (v : Word) : (s.setEpt n v).dma = s.dma := rfl
@[simp] theorem State.setEpt_power (s : State) (n : Nat) (v : Word) : (s.setEpt n v).power = s.power := rfl
@[simp] theorem State.setEpt_flash (s : State) (n : Nat) (v : Word) : (s.setEpt n v).flash = s.flash := rfl
@[simp] theorem State.setEpt_owner (s : State) (n : Nat) (v : Word) : (s.setEpt n v).owner = s.owner := rfl
@[simp] theorem State.setEpt_flt (s : State) (n : Nat) (v : Word) : (s.setEpt n v).flt = s.flt := rfl
@[simp] theorem State.setEpt_freeCtr (s : State) (n : Nat) (v : Word) : (s.setEpt n v).freeCtr = s.freeCtr := rfl
@[simp] theorem State.setEpt_reg (s : State) (n : Nat) (v : Word) (j : Nat) : (s.setEpt n v).reg j = s.reg j := rfl
@[simp] theorem State.setEpt_get (s : State) (n : Nat) (v : Word) (j : FieldRef) : (s.setEpt n v).get j = s.get j := rfl
@[simp] theorem State.setEpt_bit (s : State) (n : Nat) (v : Word) (j : FieldRef) : (s.setEpt n v).bit j = s.bit j := rfl
@[simp] theorem State.setEpt_inpCh (s : State) (n : Nat) (v : Word) (j : Nat) : (s.setEpt n v).inpCh j = s.inpCh j := rfl
@[simp] theorem State.setEpt_tracker (s : State) (n : Nat) (v : Word) (j : Nat) : (s.setEpt n v).tracker j = s.tracker j := rfl
@[simp] theorem State.setEpt_slot (s : State) (n : Nat) (v : Word) (j : Nat) : (s.setEpt n v).slot j = s.slot j := rfl
@[simp] theorem State.setEpt_eptByte (s : State) (n : Nat) (v : Word) (j : Nat) : (s.setEpt n v).eptByte j = if j = n then v else s.eptByte j := by
  simp only [State.eptByte, State.setEpt]; exact Sparse.get_set _ _ _ _ _
@[simp] theorem State.setEpt_ep (s : State) (n : Nat) (v : Word) (j : Nat) : (s.setEpt n v).ep j = s.ep j := rfl
@[simp] theorem State.setEpt_link (s : State) (n : Nat) (v : Word) (j : Nat) : (s.setEpt n v).link j = s.link j := rfl
@[simp] theorem State.setEpt_drive (s : State) (n : Nat) (v : Word) (j : Nat) : (s.setEpt n v).drive j = s.drive j := rfl
@[simp] theorem State.setEpt_unit (s : State) (n : Nat) (v : Word) (j : Nat) : (s.setEpt n v).unit j = s.unit j := rfl
@[simp] theorem State.setEpt_door (s : State) (n : Nat) (v : Word) (j : Nat) : (s.setEpt n v).door j = s.door j := rfl
@[simp] theorem State.setEpt_timer (s : State) (n : Nat) (v : Word) (j : Nat) : (s.setEpt n v).timer j = s.timer j := rfl
@[simp] theorem State.setEpt_channel (s : State) (n : Nat) (v : Word) (j : Nat) : (s.setEpt n v).channel j = s.channel j := rfl
@[simp] theorem State.setEpt_src (s : State) (n : Nat) (v : Word) (j : Nat) : (s.setEpt n v).src j = s.src j := rfl
@[simp] theorem State.setEpt_grp (s : State) (n : Nat) (v : Word) (j : Nat) : (s.setEpt n v).grp j = s.grp j := rfl
@[simp] theorem State.setEpt_coach (s : State) (n : Nat) (v : Word) (j : Nat) : (s.setEpt n v).coach j = s.coach j := rfl
@[simp] theorem State.setEpt_carriage (s : State) (n : Nat) (v : Word) (j : Nat) : (s.setEpt n v).carriage j = s.carriage j := rfl
@[simp] theorem State.setEpt_line (s : State) (n : Nat) (v : Word) (j : Nat) : (s.setEpt n v).line j = s.line j := rfl
@[simp] theorem State.setEpt_flashByte (s : State) (n : Nat) (v : Word) (j : Nat) : (s.setEpt n v).flashByte j = s.flashByte j := rfl

/-! ### setEp -/

@[simp] theorem State.setEp_tick (s : State) (n : Nat) (v : Ep) : (s.setEp n v).tick = s.tick := rfl
@[simp] theorem State.setEp_pending (s : State) (n : Nat) (v : Ep) : (s.setEp n v).pending = s.pending := rfl
@[simp] theorem State.setEp_regs (s : State) (n : Nat) (v : Ep) : (s.setEp n v).regs = s.regs := rfl
@[simp] theorem State.setEp_clk (s : State) (n : Nat) (v : Ep) : (s.setEp n v).clk = s.clk := rfl
@[simp] theorem State.setEp_inp (s : State) (n : Nat) (v : Ep) : (s.setEp n v).inp = s.inp := rfl
@[simp] theorem State.setEp_trk (s : State) (n : Nat) (v : Ep) : (s.setEp n v).trk = s.trk := rfl
@[simp] theorem State.setEp_slots (s : State) (n : Nat) (v : Ep) : (s.setEp n v).slots = s.slots := rfl
@[simp] theorem State.setEp_ept (s : State) (n : Nat) (v : Ep) : (s.setEp n v).ept = s.ept := rfl
@[simp] theorem State.setEp_edges (s : State) (n : Nat) (v : Ep) : (s.setEp n v).edges = s.edges := rfl
@[simp] theorem State.setEp_dueCarts (s : State) (n : Nat) (v : Ep) : (s.setEp n v).dueCarts = s.dueCarts := rfl
@[simp] theorem State.setEp_dueActs (s : State) (n : Nat) (v : Ep) : (s.setEp n v).dueActs = s.dueActs := rfl
@[simp] theorem State.setEp_fabric (s : State) (n : Nat) (v : Ep) : (s.setEp n v).fabric = s.fabric := rfl
@[simp] theorem State.setEp_lnk (s : State) (n : Nat) (v : Ep) : (s.setEp n v).lnk = s.lnk := rfl
@[simp] theorem State.setEp_drv (s : State) (n : Nat) (v : Ep) : (s.setEp n v).drv = s.drv := rfl
@[simp] theorem State.setEp_adc (s : State) (n : Nat) (v : Ep) : (s.setEp n v).adc = s.adc := rfl
@[simp] theorem State.setEp_carts (s : State) (n : Nat) (v : Ep) : (s.setEp n v).carts = s.carts := rfl
@[simp] theorem State.setEp_recd (s : State) (n : Nat) (v : Ep) : (s.setEp n v).recd = s.recd := rfl
@[simp] theorem State.setEp_store (s : State) (n : Nat) (v : Ep) : (s.setEp n v).store = s.store := rfl
@[simp] theorem State.setEp_doors (s : State) (n : Nat) (v : Ep) : (s.setEp n v).doors = s.doors := rfl
@[simp] theorem State.setEp_commits (s : State) (n : Nat) (v : Ep) : (s.setEp n v).commits = s.commits := rfl
@[simp] theorem State.setEp_irq (s : State) (n : Nat) (v : Ep) : (s.setEp n v).irq = s.irq := rfl
@[simp] theorem State.setEp_tmr (s : State) (n : Nat) (v : Ep) : (s.setEp n v).tmr = s.tmr := rfl
@[simp] theorem State.setEp_evt (s : State) (n : Nat) (v : Ep) : (s.setEp n v).evt = s.evt := rfl
@[simp] theorem State.setEp_dma (s : State) (n : Nat) (v : Ep) : (s.setEp n v).dma = s.dma := rfl
@[simp] theorem State.setEp_power (s : State) (n : Nat) (v : Ep) : (s.setEp n v).power = s.power := rfl
@[simp] theorem State.setEp_flash (s : State) (n : Nat) (v : Ep) : (s.setEp n v).flash = s.flash := rfl
@[simp] theorem State.setEp_owner (s : State) (n : Nat) (v : Ep) : (s.setEp n v).owner = s.owner := rfl
@[simp] theorem State.setEp_flt (s : State) (n : Nat) (v : Ep) : (s.setEp n v).flt = s.flt := rfl
@[simp] theorem State.setEp_freeCtr (s : State) (n : Nat) (v : Ep) : (s.setEp n v).freeCtr = s.freeCtr := rfl
@[simp] theorem State.setEp_reg (s : State) (n : Nat) (v : Ep) (j : Nat) : (s.setEp n v).reg j = s.reg j := rfl
@[simp] theorem State.setEp_get (s : State) (n : Nat) (v : Ep) (j : FieldRef) : (s.setEp n v).get j = s.get j := rfl
@[simp] theorem State.setEp_bit (s : State) (n : Nat) (v : Ep) (j : FieldRef) : (s.setEp n v).bit j = s.bit j := rfl
@[simp] theorem State.setEp_inpCh (s : State) (n : Nat) (v : Ep) (j : Nat) : (s.setEp n v).inpCh j = s.inpCh j := rfl
@[simp] theorem State.setEp_tracker (s : State) (n : Nat) (v : Ep) (j : Nat) : (s.setEp n v).tracker j = s.tracker j := rfl
@[simp] theorem State.setEp_slot (s : State) (n : Nat) (v : Ep) (j : Nat) : (s.setEp n v).slot j = s.slot j := rfl
@[simp] theorem State.setEp_eptByte (s : State) (n : Nat) (v : Ep) (j : Nat) : (s.setEp n v).eptByte j = s.eptByte j := rfl
@[simp] theorem State.setEp_ep (s : State) (n : Nat) (v : Ep) (j : Nat) : (s.setEp n v).ep j = if j = n then v else s.ep j := by
  simp only [State.ep, State.setEp]; exact Sparse.get_set _ _ _ _ _
@[simp] theorem State.setEp_link (s : State) (n : Nat) (v : Ep) (j : Nat) : (s.setEp n v).link j = s.link j := rfl
@[simp] theorem State.setEp_drive (s : State) (n : Nat) (v : Ep) (j : Nat) : (s.setEp n v).drive j = s.drive j := rfl
@[simp] theorem State.setEp_unit (s : State) (n : Nat) (v : Ep) (j : Nat) : (s.setEp n v).unit j = s.unit j := rfl
@[simp] theorem State.setEp_door (s : State) (n : Nat) (v : Ep) (j : Nat) : (s.setEp n v).door j = s.door j := rfl
@[simp] theorem State.setEp_timer (s : State) (n : Nat) (v : Ep) (j : Nat) : (s.setEp n v).timer j = s.timer j := rfl
@[simp] theorem State.setEp_channel (s : State) (n : Nat) (v : Ep) (j : Nat) : (s.setEp n v).channel j = s.channel j := rfl
@[simp] theorem State.setEp_src (s : State) (n : Nat) (v : Ep) (j : Nat) : (s.setEp n v).src j = s.src j := rfl
@[simp] theorem State.setEp_grp (s : State) (n : Nat) (v : Ep) (j : Nat) : (s.setEp n v).grp j = s.grp j := rfl
@[simp] theorem State.setEp_coach (s : State) (n : Nat) (v : Ep) (j : Nat) : (s.setEp n v).coach j = s.coach j := rfl
@[simp] theorem State.setEp_carriage (s : State) (n : Nat) (v : Ep) (j : Nat) : (s.setEp n v).carriage j = s.carriage j := rfl
@[simp] theorem State.setEp_line (s : State) (n : Nat) (v : Ep) (j : Nat) : (s.setEp n v).line j = s.line j := rfl
@[simp] theorem State.setEp_flashByte (s : State) (n : Nat) (v : Ep) (j : Nat) : (s.setEp n v).flashByte j = s.flashByte j := rfl

/-! ### setLnk -/

@[simp] theorem State.setLnk_tick (s : State) (n : Nat) (v : Lnk) : (s.setLnk n v).tick = s.tick := rfl
@[simp] theorem State.setLnk_pending (s : State) (n : Nat) (v : Lnk) : (s.setLnk n v).pending = s.pending := rfl
@[simp] theorem State.setLnk_regs (s : State) (n : Nat) (v : Lnk) : (s.setLnk n v).regs = s.regs := rfl
@[simp] theorem State.setLnk_clk (s : State) (n : Nat) (v : Lnk) : (s.setLnk n v).clk = s.clk := rfl
@[simp] theorem State.setLnk_inp (s : State) (n : Nat) (v : Lnk) : (s.setLnk n v).inp = s.inp := rfl
@[simp] theorem State.setLnk_trk (s : State) (n : Nat) (v : Lnk) : (s.setLnk n v).trk = s.trk := rfl
@[simp] theorem State.setLnk_slots (s : State) (n : Nat) (v : Lnk) : (s.setLnk n v).slots = s.slots := rfl
@[simp] theorem State.setLnk_ept (s : State) (n : Nat) (v : Lnk) : (s.setLnk n v).ept = s.ept := rfl
@[simp] theorem State.setLnk_eps (s : State) (n : Nat) (v : Lnk) : (s.setLnk n v).eps = s.eps := rfl
@[simp] theorem State.setLnk_edges (s : State) (n : Nat) (v : Lnk) : (s.setLnk n v).edges = s.edges := rfl
@[simp] theorem State.setLnk_dueCarts (s : State) (n : Nat) (v : Lnk) : (s.setLnk n v).dueCarts = s.dueCarts := rfl
@[simp] theorem State.setLnk_dueActs (s : State) (n : Nat) (v : Lnk) : (s.setLnk n v).dueActs = s.dueActs := rfl
@[simp] theorem State.setLnk_fabric (s : State) (n : Nat) (v : Lnk) : (s.setLnk n v).fabric = s.fabric := rfl
@[simp] theorem State.setLnk_drv (s : State) (n : Nat) (v : Lnk) : (s.setLnk n v).drv = s.drv := rfl
@[simp] theorem State.setLnk_adc (s : State) (n : Nat) (v : Lnk) : (s.setLnk n v).adc = s.adc := rfl
@[simp] theorem State.setLnk_carts (s : State) (n : Nat) (v : Lnk) : (s.setLnk n v).carts = s.carts := rfl
@[simp] theorem State.setLnk_recd (s : State) (n : Nat) (v : Lnk) : (s.setLnk n v).recd = s.recd := rfl
@[simp] theorem State.setLnk_store (s : State) (n : Nat) (v : Lnk) : (s.setLnk n v).store = s.store := rfl
@[simp] theorem State.setLnk_doors (s : State) (n : Nat) (v : Lnk) : (s.setLnk n v).doors = s.doors := rfl
@[simp] theorem State.setLnk_commits (s : State) (n : Nat) (v : Lnk) : (s.setLnk n v).commits = s.commits := rfl
@[simp] theorem State.setLnk_irq (s : State) (n : Nat) (v : Lnk) : (s.setLnk n v).irq = s.irq := rfl
@[simp] theorem State.setLnk_tmr (s : State) (n : Nat) (v : Lnk) : (s.setLnk n v).tmr = s.tmr := rfl
@[simp] theorem State.setLnk_evt (s : State) (n : Nat) (v : Lnk) : (s.setLnk n v).evt = s.evt := rfl
@[simp] theorem State.setLnk_dma (s : State) (n : Nat) (v : Lnk) : (s.setLnk n v).dma = s.dma := rfl
@[simp] theorem State.setLnk_power (s : State) (n : Nat) (v : Lnk) : (s.setLnk n v).power = s.power := rfl
@[simp] theorem State.setLnk_flash (s : State) (n : Nat) (v : Lnk) : (s.setLnk n v).flash = s.flash := rfl
@[simp] theorem State.setLnk_owner (s : State) (n : Nat) (v : Lnk) : (s.setLnk n v).owner = s.owner := rfl
@[simp] theorem State.setLnk_flt (s : State) (n : Nat) (v : Lnk) : (s.setLnk n v).flt = s.flt := rfl
@[simp] theorem State.setLnk_freeCtr (s : State) (n : Nat) (v : Lnk) : (s.setLnk n v).freeCtr = s.freeCtr := rfl
@[simp] theorem State.setLnk_reg (s : State) (n : Nat) (v : Lnk) (j : Nat) : (s.setLnk n v).reg j = s.reg j := rfl
@[simp] theorem State.setLnk_get (s : State) (n : Nat) (v : Lnk) (j : FieldRef) : (s.setLnk n v).get j = s.get j := rfl
@[simp] theorem State.setLnk_bit (s : State) (n : Nat) (v : Lnk) (j : FieldRef) : (s.setLnk n v).bit j = s.bit j := rfl
@[simp] theorem State.setLnk_inpCh (s : State) (n : Nat) (v : Lnk) (j : Nat) : (s.setLnk n v).inpCh j = s.inpCh j := rfl
@[simp] theorem State.setLnk_tracker (s : State) (n : Nat) (v : Lnk) (j : Nat) : (s.setLnk n v).tracker j = s.tracker j := rfl
@[simp] theorem State.setLnk_slot (s : State) (n : Nat) (v : Lnk) (j : Nat) : (s.setLnk n v).slot j = s.slot j := rfl
@[simp] theorem State.setLnk_eptByte (s : State) (n : Nat) (v : Lnk) (j : Nat) : (s.setLnk n v).eptByte j = s.eptByte j := rfl
@[simp] theorem State.setLnk_ep (s : State) (n : Nat) (v : Lnk) (j : Nat) : (s.setLnk n v).ep j = s.ep j := rfl
@[simp] theorem State.setLnk_link (s : State) (n : Nat) (v : Lnk) (j : Nat) : (s.setLnk n v).link j = if j = n then v else s.link j := by
  simp only [State.link, State.setLnk]; exact Sparse.get_set _ _ _ _ _
@[simp] theorem State.setLnk_drive (s : State) (n : Nat) (v : Lnk) (j : Nat) : (s.setLnk n v).drive j = s.drive j := rfl
@[simp] theorem State.setLnk_unit (s : State) (n : Nat) (v : Lnk) (j : Nat) : (s.setLnk n v).unit j = s.unit j := rfl
@[simp] theorem State.setLnk_door (s : State) (n : Nat) (v : Lnk) (j : Nat) : (s.setLnk n v).door j = s.door j := rfl
@[simp] theorem State.setLnk_timer (s : State) (n : Nat) (v : Lnk) (j : Nat) : (s.setLnk n v).timer j = s.timer j := rfl
@[simp] theorem State.setLnk_channel (s : State) (n : Nat) (v : Lnk) (j : Nat) : (s.setLnk n v).channel j = s.channel j := rfl
@[simp] theorem State.setLnk_src (s : State) (n : Nat) (v : Lnk) (j : Nat) : (s.setLnk n v).src j = s.src j := rfl
@[simp] theorem State.setLnk_grp (s : State) (n : Nat) (v : Lnk) (j : Nat) : (s.setLnk n v).grp j = s.grp j := rfl
@[simp] theorem State.setLnk_coach (s : State) (n : Nat) (v : Lnk) (j : Nat) : (s.setLnk n v).coach j = s.coach j := rfl
@[simp] theorem State.setLnk_carriage (s : State) (n : Nat) (v : Lnk) (j : Nat) : (s.setLnk n v).carriage j = s.carriage j := rfl
@[simp] theorem State.setLnk_line (s : State) (n : Nat) (v : Lnk) (j : Nat) : (s.setLnk n v).line j = s.line j := rfl
@[simp] theorem State.setLnk_flashByte (s : State) (n : Nat) (v : Lnk) (j : Nat) : (s.setLnk n v).flashByte j = s.flashByte j := rfl

/-! ### setDrv -/

@[simp] theorem State.setDrv_tick (s : State) (n : Nat) (v : Drv) : (s.setDrv n v).tick = s.tick := rfl
@[simp] theorem State.setDrv_pending (s : State) (n : Nat) (v : Drv) : (s.setDrv n v).pending = s.pending := rfl
@[simp] theorem State.setDrv_regs (s : State) (n : Nat) (v : Drv) : (s.setDrv n v).regs = s.regs := rfl
@[simp] theorem State.setDrv_clk (s : State) (n : Nat) (v : Drv) : (s.setDrv n v).clk = s.clk := rfl
@[simp] theorem State.setDrv_inp (s : State) (n : Nat) (v : Drv) : (s.setDrv n v).inp = s.inp := rfl
@[simp] theorem State.setDrv_trk (s : State) (n : Nat) (v : Drv) : (s.setDrv n v).trk = s.trk := rfl
@[simp] theorem State.setDrv_slots (s : State) (n : Nat) (v : Drv) : (s.setDrv n v).slots = s.slots := rfl
@[simp] theorem State.setDrv_ept (s : State) (n : Nat) (v : Drv) : (s.setDrv n v).ept = s.ept := rfl
@[simp] theorem State.setDrv_eps (s : State) (n : Nat) (v : Drv) : (s.setDrv n v).eps = s.eps := rfl
@[simp] theorem State.setDrv_edges (s : State) (n : Nat) (v : Drv) : (s.setDrv n v).edges = s.edges := rfl
@[simp] theorem State.setDrv_dueCarts (s : State) (n : Nat) (v : Drv) : (s.setDrv n v).dueCarts = s.dueCarts := rfl
@[simp] theorem State.setDrv_dueActs (s : State) (n : Nat) (v : Drv) : (s.setDrv n v).dueActs = s.dueActs := rfl
@[simp] theorem State.setDrv_fabric (s : State) (n : Nat) (v : Drv) : (s.setDrv n v).fabric = s.fabric := rfl
@[simp] theorem State.setDrv_lnk (s : State) (n : Nat) (v : Drv) : (s.setDrv n v).lnk = s.lnk := rfl
@[simp] theorem State.setDrv_adc (s : State) (n : Nat) (v : Drv) : (s.setDrv n v).adc = s.adc := rfl
@[simp] theorem State.setDrv_carts (s : State) (n : Nat) (v : Drv) : (s.setDrv n v).carts = s.carts := rfl
@[simp] theorem State.setDrv_recd (s : State) (n : Nat) (v : Drv) : (s.setDrv n v).recd = s.recd := rfl
@[simp] theorem State.setDrv_store (s : State) (n : Nat) (v : Drv) : (s.setDrv n v).store = s.store := rfl
@[simp] theorem State.setDrv_doors (s : State) (n : Nat) (v : Drv) : (s.setDrv n v).doors = s.doors := rfl
@[simp] theorem State.setDrv_commits (s : State) (n : Nat) (v : Drv) : (s.setDrv n v).commits = s.commits := rfl
@[simp] theorem State.setDrv_irq (s : State) (n : Nat) (v : Drv) : (s.setDrv n v).irq = s.irq := rfl
@[simp] theorem State.setDrv_tmr (s : State) (n : Nat) (v : Drv) : (s.setDrv n v).tmr = s.tmr := rfl
@[simp] theorem State.setDrv_evt (s : State) (n : Nat) (v : Drv) : (s.setDrv n v).evt = s.evt := rfl
@[simp] theorem State.setDrv_dma (s : State) (n : Nat) (v : Drv) : (s.setDrv n v).dma = s.dma := rfl
@[simp] theorem State.setDrv_power (s : State) (n : Nat) (v : Drv) : (s.setDrv n v).power = s.power := rfl
@[simp] theorem State.setDrv_flash (s : State) (n : Nat) (v : Drv) : (s.setDrv n v).flash = s.flash := rfl
@[simp] theorem State.setDrv_owner (s : State) (n : Nat) (v : Drv) : (s.setDrv n v).owner = s.owner := rfl
@[simp] theorem State.setDrv_flt (s : State) (n : Nat) (v : Drv) : (s.setDrv n v).flt = s.flt := rfl
@[simp] theorem State.setDrv_freeCtr (s : State) (n : Nat) (v : Drv) : (s.setDrv n v).freeCtr = s.freeCtr := rfl
@[simp] theorem State.setDrv_reg (s : State) (n : Nat) (v : Drv) (j : Nat) : (s.setDrv n v).reg j = s.reg j := rfl
@[simp] theorem State.setDrv_get (s : State) (n : Nat) (v : Drv) (j : FieldRef) : (s.setDrv n v).get j = s.get j := rfl
@[simp] theorem State.setDrv_bit (s : State) (n : Nat) (v : Drv) (j : FieldRef) : (s.setDrv n v).bit j = s.bit j := rfl
@[simp] theorem State.setDrv_inpCh (s : State) (n : Nat) (v : Drv) (j : Nat) : (s.setDrv n v).inpCh j = s.inpCh j := rfl
@[simp] theorem State.setDrv_tracker (s : State) (n : Nat) (v : Drv) (j : Nat) : (s.setDrv n v).tracker j = s.tracker j := rfl
@[simp] theorem State.setDrv_slot (s : State) (n : Nat) (v : Drv) (j : Nat) : (s.setDrv n v).slot j = s.slot j := rfl
@[simp] theorem State.setDrv_eptByte (s : State) (n : Nat) (v : Drv) (j : Nat) : (s.setDrv n v).eptByte j = s.eptByte j := rfl
@[simp] theorem State.setDrv_ep (s : State) (n : Nat) (v : Drv) (j : Nat) : (s.setDrv n v).ep j = s.ep j := rfl
@[simp] theorem State.setDrv_link (s : State) (n : Nat) (v : Drv) (j : Nat) : (s.setDrv n v).link j = s.link j := rfl
@[simp] theorem State.setDrv_drive (s : State) (n : Nat) (v : Drv) (j : Nat) : (s.setDrv n v).drive j = if j = n then v else s.drive j := by
  simp only [State.drive, State.setDrv]; exact Sparse.get_set _ _ _ _ _
@[simp] theorem State.setDrv_unit (s : State) (n : Nat) (v : Drv) (j : Nat) : (s.setDrv n v).unit j = s.unit j := rfl
@[simp] theorem State.setDrv_door (s : State) (n : Nat) (v : Drv) (j : Nat) : (s.setDrv n v).door j = s.door j := rfl
@[simp] theorem State.setDrv_timer (s : State) (n : Nat) (v : Drv) (j : Nat) : (s.setDrv n v).timer j = s.timer j := rfl
@[simp] theorem State.setDrv_channel (s : State) (n : Nat) (v : Drv) (j : Nat) : (s.setDrv n v).channel j = s.channel j := rfl
@[simp] theorem State.setDrv_src (s : State) (n : Nat) (v : Drv) (j : Nat) : (s.setDrv n v).src j = s.src j := rfl
@[simp] theorem State.setDrv_grp (s : State) (n : Nat) (v : Drv) (j : Nat) : (s.setDrv n v).grp j = s.grp j := rfl
@[simp] theorem State.setDrv_coach (s : State) (n : Nat) (v : Drv) (j : Nat) : (s.setDrv n v).coach j = s.coach j := rfl
@[simp] theorem State.setDrv_carriage (s : State) (n : Nat) (v : Drv) (j : Nat) : (s.setDrv n v).carriage j = s.carriage j := rfl
@[simp] theorem State.setDrv_line (s : State) (n : Nat) (v : Drv) (j : Nat) : (s.setDrv n v).line j = s.line j := rfl
@[simp] theorem State.setDrv_flashByte (s : State) (n : Nat) (v : Drv) (j : Nat) : (s.setDrv n v).flashByte j = s.flashByte j := rfl

/-! ### setAdc -/

@[simp] theorem State.setAdc_tick (s : State) (n : Nat) (v : Adc) : (s.setAdc n v).tick = s.tick := rfl
@[simp] theorem State.setAdc_pending (s : State) (n : Nat) (v : Adc) : (s.setAdc n v).pending = s.pending := rfl
@[simp] theorem State.setAdc_regs (s : State) (n : Nat) (v : Adc) : (s.setAdc n v).regs = s.regs := rfl
@[simp] theorem State.setAdc_clk (s : State) (n : Nat) (v : Adc) : (s.setAdc n v).clk = s.clk := rfl
@[simp] theorem State.setAdc_inp (s : State) (n : Nat) (v : Adc) : (s.setAdc n v).inp = s.inp := rfl
@[simp] theorem State.setAdc_trk (s : State) (n : Nat) (v : Adc) : (s.setAdc n v).trk = s.trk := rfl
@[simp] theorem State.setAdc_slots (s : State) (n : Nat) (v : Adc) : (s.setAdc n v).slots = s.slots := rfl
@[simp] theorem State.setAdc_ept (s : State) (n : Nat) (v : Adc) : (s.setAdc n v).ept = s.ept := rfl
@[simp] theorem State.setAdc_eps (s : State) (n : Nat) (v : Adc) : (s.setAdc n v).eps = s.eps := rfl
@[simp] theorem State.setAdc_edges (s : State) (n : Nat) (v : Adc) : (s.setAdc n v).edges = s.edges := rfl
@[simp] theorem State.setAdc_dueCarts (s : State) (n : Nat) (v : Adc) : (s.setAdc n v).dueCarts = s.dueCarts := rfl
@[simp] theorem State.setAdc_dueActs (s : State) (n : Nat) (v : Adc) : (s.setAdc n v).dueActs = s.dueActs := rfl
@[simp] theorem State.setAdc_fabric (s : State) (n : Nat) (v : Adc) : (s.setAdc n v).fabric = s.fabric := rfl
@[simp] theorem State.setAdc_lnk (s : State) (n : Nat) (v : Adc) : (s.setAdc n v).lnk = s.lnk := rfl
@[simp] theorem State.setAdc_drv (s : State) (n : Nat) (v : Adc) : (s.setAdc n v).drv = s.drv := rfl
@[simp] theorem State.setAdc_carts (s : State) (n : Nat) (v : Adc) : (s.setAdc n v).carts = s.carts := rfl
@[simp] theorem State.setAdc_recd (s : State) (n : Nat) (v : Adc) : (s.setAdc n v).recd = s.recd := rfl
@[simp] theorem State.setAdc_store (s : State) (n : Nat) (v : Adc) : (s.setAdc n v).store = s.store := rfl
@[simp] theorem State.setAdc_doors (s : State) (n : Nat) (v : Adc) : (s.setAdc n v).doors = s.doors := rfl
@[simp] theorem State.setAdc_commits (s : State) (n : Nat) (v : Adc) : (s.setAdc n v).commits = s.commits := rfl
@[simp] theorem State.setAdc_irq (s : State) (n : Nat) (v : Adc) : (s.setAdc n v).irq = s.irq := rfl
@[simp] theorem State.setAdc_tmr (s : State) (n : Nat) (v : Adc) : (s.setAdc n v).tmr = s.tmr := rfl
@[simp] theorem State.setAdc_evt (s : State) (n : Nat) (v : Adc) : (s.setAdc n v).evt = s.evt := rfl
@[simp] theorem State.setAdc_dma (s : State) (n : Nat) (v : Adc) : (s.setAdc n v).dma = s.dma := rfl
@[simp] theorem State.setAdc_power (s : State) (n : Nat) (v : Adc) : (s.setAdc n v).power = s.power := rfl
@[simp] theorem State.setAdc_flash (s : State) (n : Nat) (v : Adc) : (s.setAdc n v).flash = s.flash := rfl
@[simp] theorem State.setAdc_owner (s : State) (n : Nat) (v : Adc) : (s.setAdc n v).owner = s.owner := rfl
@[simp] theorem State.setAdc_flt (s : State) (n : Nat) (v : Adc) : (s.setAdc n v).flt = s.flt := rfl
@[simp] theorem State.setAdc_freeCtr (s : State) (n : Nat) (v : Adc) : (s.setAdc n v).freeCtr = s.freeCtr := rfl
@[simp] theorem State.setAdc_reg (s : State) (n : Nat) (v : Adc) (j : Nat) : (s.setAdc n v).reg j = s.reg j := rfl
@[simp] theorem State.setAdc_get (s : State) (n : Nat) (v : Adc) (j : FieldRef) : (s.setAdc n v).get j = s.get j := rfl
@[simp] theorem State.setAdc_bit (s : State) (n : Nat) (v : Adc) (j : FieldRef) : (s.setAdc n v).bit j = s.bit j := rfl
@[simp] theorem State.setAdc_inpCh (s : State) (n : Nat) (v : Adc) (j : Nat) : (s.setAdc n v).inpCh j = s.inpCh j := rfl
@[simp] theorem State.setAdc_tracker (s : State) (n : Nat) (v : Adc) (j : Nat) : (s.setAdc n v).tracker j = s.tracker j := rfl
@[simp] theorem State.setAdc_slot (s : State) (n : Nat) (v : Adc) (j : Nat) : (s.setAdc n v).slot j = s.slot j := rfl
@[simp] theorem State.setAdc_eptByte (s : State) (n : Nat) (v : Adc) (j : Nat) : (s.setAdc n v).eptByte j = s.eptByte j := rfl
@[simp] theorem State.setAdc_ep (s : State) (n : Nat) (v : Adc) (j : Nat) : (s.setAdc n v).ep j = s.ep j := rfl
@[simp] theorem State.setAdc_link (s : State) (n : Nat) (v : Adc) (j : Nat) : (s.setAdc n v).link j = s.link j := rfl
@[simp] theorem State.setAdc_drive (s : State) (n : Nat) (v : Adc) (j : Nat) : (s.setAdc n v).drive j = s.drive j := rfl
@[simp] theorem State.setAdc_unit (s : State) (n : Nat) (v : Adc) (j : Nat) : (s.setAdc n v).unit j = if j = n then v else s.unit j := by
  simp only [State.unit, State.setAdc]; exact Sparse.get_set _ _ _ _ _
@[simp] theorem State.setAdc_door (s : State) (n : Nat) (v : Adc) (j : Nat) : (s.setAdc n v).door j = s.door j := rfl
@[simp] theorem State.setAdc_timer (s : State) (n : Nat) (v : Adc) (j : Nat) : (s.setAdc n v).timer j = s.timer j := rfl
@[simp] theorem State.setAdc_channel (s : State) (n : Nat) (v : Adc) (j : Nat) : (s.setAdc n v).channel j = s.channel j := rfl
@[simp] theorem State.setAdc_src (s : State) (n : Nat) (v : Adc) (j : Nat) : (s.setAdc n v).src j = s.src j := rfl
@[simp] theorem State.setAdc_grp (s : State) (n : Nat) (v : Adc) (j : Nat) : (s.setAdc n v).grp j = s.grp j := rfl
@[simp] theorem State.setAdc_coach (s : State) (n : Nat) (v : Adc) (j : Nat) : (s.setAdc n v).coach j = s.coach j := rfl
@[simp] theorem State.setAdc_carriage (s : State) (n : Nat) (v : Adc) (j : Nat) : (s.setAdc n v).carriage j = s.carriage j := rfl
@[simp] theorem State.setAdc_line (s : State) (n : Nat) (v : Adc) (j : Nat) : (s.setAdc n v).line j = s.line j := rfl
@[simp] theorem State.setAdc_flashByte (s : State) (n : Nat) (v : Adc) (j : Nat) : (s.setAdc n v).flashByte j = s.flashByte j := rfl

/-! ### setDoor -/

@[simp] theorem State.setDoor_tick (s : State) (n : Nat) (v : Door) : (s.setDoor n v).tick = s.tick := rfl
@[simp] theorem State.setDoor_pending (s : State) (n : Nat) (v : Door) : (s.setDoor n v).pending = s.pending := rfl
@[simp] theorem State.setDoor_regs (s : State) (n : Nat) (v : Door) : (s.setDoor n v).regs = s.regs := rfl
@[simp] theorem State.setDoor_clk (s : State) (n : Nat) (v : Door) : (s.setDoor n v).clk = s.clk := rfl
@[simp] theorem State.setDoor_inp (s : State) (n : Nat) (v : Door) : (s.setDoor n v).inp = s.inp := rfl
@[simp] theorem State.setDoor_trk (s : State) (n : Nat) (v : Door) : (s.setDoor n v).trk = s.trk := rfl
@[simp] theorem State.setDoor_slots (s : State) (n : Nat) (v : Door) : (s.setDoor n v).slots = s.slots := rfl
@[simp] theorem State.setDoor_ept (s : State) (n : Nat) (v : Door) : (s.setDoor n v).ept = s.ept := rfl
@[simp] theorem State.setDoor_eps (s : State) (n : Nat) (v : Door) : (s.setDoor n v).eps = s.eps := rfl
@[simp] theorem State.setDoor_edges (s : State) (n : Nat) (v : Door) : (s.setDoor n v).edges = s.edges := rfl
@[simp] theorem State.setDoor_dueCarts (s : State) (n : Nat) (v : Door) : (s.setDoor n v).dueCarts = s.dueCarts := rfl
@[simp] theorem State.setDoor_dueActs (s : State) (n : Nat) (v : Door) : (s.setDoor n v).dueActs = s.dueActs := rfl
@[simp] theorem State.setDoor_fabric (s : State) (n : Nat) (v : Door) : (s.setDoor n v).fabric = s.fabric := rfl
@[simp] theorem State.setDoor_lnk (s : State) (n : Nat) (v : Door) : (s.setDoor n v).lnk = s.lnk := rfl
@[simp] theorem State.setDoor_drv (s : State) (n : Nat) (v : Door) : (s.setDoor n v).drv = s.drv := rfl
@[simp] theorem State.setDoor_adc (s : State) (n : Nat) (v : Door) : (s.setDoor n v).adc = s.adc := rfl
@[simp] theorem State.setDoor_carts (s : State) (n : Nat) (v : Door) : (s.setDoor n v).carts = s.carts := rfl
@[simp] theorem State.setDoor_recd (s : State) (n : Nat) (v : Door) : (s.setDoor n v).recd = s.recd := rfl
@[simp] theorem State.setDoor_store (s : State) (n : Nat) (v : Door) : (s.setDoor n v).store = s.store := rfl
@[simp] theorem State.setDoor_commits (s : State) (n : Nat) (v : Door) : (s.setDoor n v).commits = s.commits := rfl
@[simp] theorem State.setDoor_irq (s : State) (n : Nat) (v : Door) : (s.setDoor n v).irq = s.irq := rfl
@[simp] theorem State.setDoor_tmr (s : State) (n : Nat) (v : Door) : (s.setDoor n v).tmr = s.tmr := rfl
@[simp] theorem State.setDoor_evt (s : State) (n : Nat) (v : Door) : (s.setDoor n v).evt = s.evt := rfl
@[simp] theorem State.setDoor_dma (s : State) (n : Nat) (v : Door) : (s.setDoor n v).dma = s.dma := rfl
@[simp] theorem State.setDoor_power (s : State) (n : Nat) (v : Door) : (s.setDoor n v).power = s.power := rfl
@[simp] theorem State.setDoor_flash (s : State) (n : Nat) (v : Door) : (s.setDoor n v).flash = s.flash := rfl
@[simp] theorem State.setDoor_owner (s : State) (n : Nat) (v : Door) : (s.setDoor n v).owner = s.owner := rfl
@[simp] theorem State.setDoor_flt (s : State) (n : Nat) (v : Door) : (s.setDoor n v).flt = s.flt := rfl
@[simp] theorem State.setDoor_freeCtr (s : State) (n : Nat) (v : Door) : (s.setDoor n v).freeCtr = s.freeCtr := rfl
@[simp] theorem State.setDoor_reg (s : State) (n : Nat) (v : Door) (j : Nat) : (s.setDoor n v).reg j = s.reg j := rfl
@[simp] theorem State.setDoor_get (s : State) (n : Nat) (v : Door) (j : FieldRef) : (s.setDoor n v).get j = s.get j := rfl
@[simp] theorem State.setDoor_bit (s : State) (n : Nat) (v : Door) (j : FieldRef) : (s.setDoor n v).bit j = s.bit j := rfl
@[simp] theorem State.setDoor_inpCh (s : State) (n : Nat) (v : Door) (j : Nat) : (s.setDoor n v).inpCh j = s.inpCh j := rfl
@[simp] theorem State.setDoor_tracker (s : State) (n : Nat) (v : Door) (j : Nat) : (s.setDoor n v).tracker j = s.tracker j := rfl
@[simp] theorem State.setDoor_slot (s : State) (n : Nat) (v : Door) (j : Nat) : (s.setDoor n v).slot j = s.slot j := rfl
@[simp] theorem State.setDoor_eptByte (s : State) (n : Nat) (v : Door) (j : Nat) : (s.setDoor n v).eptByte j = s.eptByte j := rfl
@[simp] theorem State.setDoor_ep (s : State) (n : Nat) (v : Door) (j : Nat) : (s.setDoor n v).ep j = s.ep j := rfl
@[simp] theorem State.setDoor_link (s : State) (n : Nat) (v : Door) (j : Nat) : (s.setDoor n v).link j = s.link j := rfl
@[simp] theorem State.setDoor_drive (s : State) (n : Nat) (v : Door) (j : Nat) : (s.setDoor n v).drive j = s.drive j := rfl
@[simp] theorem State.setDoor_unit (s : State) (n : Nat) (v : Door) (j : Nat) : (s.setDoor n v).unit j = s.unit j := rfl
@[simp] theorem State.setDoor_door (s : State) (n : Nat) (v : Door) (j : Nat) : (s.setDoor n v).door j = if j = n then v else s.door j := by
  simp only [State.door, State.setDoor]; exact Sparse.get_set _ _ _ _ _
@[simp] theorem State.setDoor_timer (s : State) (n : Nat) (v : Door) (j : Nat) : (s.setDoor n v).timer j = s.timer j := rfl
@[simp] theorem State.setDoor_channel (s : State) (n : Nat) (v : Door) (j : Nat) : (s.setDoor n v).channel j = s.channel j := rfl
@[simp] theorem State.setDoor_src (s : State) (n : Nat) (v : Door) (j : Nat) : (s.setDoor n v).src j = s.src j := rfl
@[simp] theorem State.setDoor_grp (s : State) (n : Nat) (v : Door) (j : Nat) : (s.setDoor n v).grp j = s.grp j := rfl
@[simp] theorem State.setDoor_coach (s : State) (n : Nat) (v : Door) (j : Nat) : (s.setDoor n v).coach j = s.coach j := rfl
@[simp] theorem State.setDoor_carriage (s : State) (n : Nat) (v : Door) (j : Nat) : (s.setDoor n v).carriage j = s.carriage j := rfl
@[simp] theorem State.setDoor_line (s : State) (n : Nat) (v : Door) (j : Nat) : (s.setDoor n v).line j = s.line j := rfl
@[simp] theorem State.setDoor_flashByte (s : State) (n : Nat) (v : Door) (j : Nat) : (s.setDoor n v).flashByte j = s.flashByte j := rfl

/-! ### setTmr -/

@[simp] theorem State.setTmr_tick (s : State) (n : Nat) (v : Tmr) : (s.setTmr n v).tick = s.tick := rfl
@[simp] theorem State.setTmr_pending (s : State) (n : Nat) (v : Tmr) : (s.setTmr n v).pending = s.pending := rfl
@[simp] theorem State.setTmr_regs (s : State) (n : Nat) (v : Tmr) : (s.setTmr n v).regs = s.regs := rfl
@[simp] theorem State.setTmr_clk (s : State) (n : Nat) (v : Tmr) : (s.setTmr n v).clk = s.clk := rfl
@[simp] theorem State.setTmr_inp (s : State) (n : Nat) (v : Tmr) : (s.setTmr n v).inp = s.inp := rfl
@[simp] theorem State.setTmr_trk (s : State) (n : Nat) (v : Tmr) : (s.setTmr n v).trk = s.trk := rfl
@[simp] theorem State.setTmr_slots (s : State) (n : Nat) (v : Tmr) : (s.setTmr n v).slots = s.slots := rfl
@[simp] theorem State.setTmr_ept (s : State) (n : Nat) (v : Tmr) : (s.setTmr n v).ept = s.ept := rfl
@[simp] theorem State.setTmr_eps (s : State) (n : Nat) (v : Tmr) : (s.setTmr n v).eps = s.eps := rfl
@[simp] theorem State.setTmr_edges (s : State) (n : Nat) (v : Tmr) : (s.setTmr n v).edges = s.edges := rfl
@[simp] theorem State.setTmr_dueCarts (s : State) (n : Nat) (v : Tmr) : (s.setTmr n v).dueCarts = s.dueCarts := rfl
@[simp] theorem State.setTmr_dueActs (s : State) (n : Nat) (v : Tmr) : (s.setTmr n v).dueActs = s.dueActs := rfl
@[simp] theorem State.setTmr_fabric (s : State) (n : Nat) (v : Tmr) : (s.setTmr n v).fabric = s.fabric := rfl
@[simp] theorem State.setTmr_lnk (s : State) (n : Nat) (v : Tmr) : (s.setTmr n v).lnk = s.lnk := rfl
@[simp] theorem State.setTmr_drv (s : State) (n : Nat) (v : Tmr) : (s.setTmr n v).drv = s.drv := rfl
@[simp] theorem State.setTmr_adc (s : State) (n : Nat) (v : Tmr) : (s.setTmr n v).adc = s.adc := rfl
@[simp] theorem State.setTmr_carts (s : State) (n : Nat) (v : Tmr) : (s.setTmr n v).carts = s.carts := rfl
@[simp] theorem State.setTmr_recd (s : State) (n : Nat) (v : Tmr) : (s.setTmr n v).recd = s.recd := rfl
@[simp] theorem State.setTmr_store (s : State) (n : Nat) (v : Tmr) : (s.setTmr n v).store = s.store := rfl
@[simp] theorem State.setTmr_doors (s : State) (n : Nat) (v : Tmr) : (s.setTmr n v).doors = s.doors := rfl
@[simp] theorem State.setTmr_commits (s : State) (n : Nat) (v : Tmr) : (s.setTmr n v).commits = s.commits := rfl
@[simp] theorem State.setTmr_irq (s : State) (n : Nat) (v : Tmr) : (s.setTmr n v).irq = s.irq := rfl
@[simp] theorem State.setTmr_evt (s : State) (n : Nat) (v : Tmr) : (s.setTmr n v).evt = s.evt := rfl
@[simp] theorem State.setTmr_dma (s : State) (n : Nat) (v : Tmr) : (s.setTmr n v).dma = s.dma := rfl
@[simp] theorem State.setTmr_power (s : State) (n : Nat) (v : Tmr) : (s.setTmr n v).power = s.power := rfl
@[simp] theorem State.setTmr_flash (s : State) (n : Nat) (v : Tmr) : (s.setTmr n v).flash = s.flash := rfl
@[simp] theorem State.setTmr_owner (s : State) (n : Nat) (v : Tmr) : (s.setTmr n v).owner = s.owner := rfl
@[simp] theorem State.setTmr_flt (s : State) (n : Nat) (v : Tmr) : (s.setTmr n v).flt = s.flt := rfl
@[simp] theorem State.setTmr_freeCtr (s : State) (n : Nat) (v : Tmr) : (s.setTmr n v).freeCtr = s.freeCtr := rfl
@[simp] theorem State.setTmr_reg (s : State) (n : Nat) (v : Tmr) (j : Nat) : (s.setTmr n v).reg j = s.reg j := rfl
@[simp] theorem State.setTmr_get (s : State) (n : Nat) (v : Tmr) (j : FieldRef) : (s.setTmr n v).get j = s.get j := rfl
@[simp] theorem State.setTmr_bit (s : State) (n : Nat) (v : Tmr) (j : FieldRef) : (s.setTmr n v).bit j = s.bit j := rfl
@[simp] theorem State.setTmr_inpCh (s : State) (n : Nat) (v : Tmr) (j : Nat) : (s.setTmr n v).inpCh j = s.inpCh j := rfl
@[simp] theorem State.setTmr_tracker (s : State) (n : Nat) (v : Tmr) (j : Nat) : (s.setTmr n v).tracker j = s.tracker j := rfl
@[simp] theorem State.setTmr_slot (s : State) (n : Nat) (v : Tmr) (j : Nat) : (s.setTmr n v).slot j = s.slot j := rfl
@[simp] theorem State.setTmr_eptByte (s : State) (n : Nat) (v : Tmr) (j : Nat) : (s.setTmr n v).eptByte j = s.eptByte j := rfl
@[simp] theorem State.setTmr_ep (s : State) (n : Nat) (v : Tmr) (j : Nat) : (s.setTmr n v).ep j = s.ep j := rfl
@[simp] theorem State.setTmr_link (s : State) (n : Nat) (v : Tmr) (j : Nat) : (s.setTmr n v).link j = s.link j := rfl
@[simp] theorem State.setTmr_drive (s : State) (n : Nat) (v : Tmr) (j : Nat) : (s.setTmr n v).drive j = s.drive j := rfl
@[simp] theorem State.setTmr_unit (s : State) (n : Nat) (v : Tmr) (j : Nat) : (s.setTmr n v).unit j = s.unit j := rfl
@[simp] theorem State.setTmr_door (s : State) (n : Nat) (v : Tmr) (j : Nat) : (s.setTmr n v).door j = s.door j := rfl
@[simp] theorem State.setTmr_timer (s : State) (n : Nat) (v : Tmr) (j : Nat) : (s.setTmr n v).timer j = if j = n then v else s.timer j := by
  simp only [State.timer, State.setTmr]; exact Sparse.get_set _ _ _ _ _
@[simp] theorem State.setTmr_channel (s : State) (n : Nat) (v : Tmr) (j : Nat) : (s.setTmr n v).channel j = s.channel j := rfl
@[simp] theorem State.setTmr_src (s : State) (n : Nat) (v : Tmr) (j : Nat) : (s.setTmr n v).src j = s.src j := rfl
@[simp] theorem State.setTmr_grp (s : State) (n : Nat) (v : Tmr) (j : Nat) : (s.setTmr n v).grp j = s.grp j := rfl
@[simp] theorem State.setTmr_coach (s : State) (n : Nat) (v : Tmr) (j : Nat) : (s.setTmr n v).coach j = s.coach j := rfl
@[simp] theorem State.setTmr_carriage (s : State) (n : Nat) (v : Tmr) (j : Nat) : (s.setTmr n v).carriage j = s.carriage j := rfl
@[simp] theorem State.setTmr_line (s : State) (n : Nat) (v : Tmr) (j : Nat) : (s.setTmr n v).line j = s.line j := rfl
@[simp] theorem State.setTmr_flashByte (s : State) (n : Nat) (v : Tmr) (j : Nat) : (s.setTmr n v).flashByte j = s.flashByte j := rfl

/-! ### setDma -/

@[simp] theorem State.setDma_tick (s : State) (n : Nat) (v : Dma) : (s.setDma n v).tick = s.tick := rfl
@[simp] theorem State.setDma_pending (s : State) (n : Nat) (v : Dma) : (s.setDma n v).pending = s.pending := rfl
@[simp] theorem State.setDma_regs (s : State) (n : Nat) (v : Dma) : (s.setDma n v).regs = s.regs := rfl
@[simp] theorem State.setDma_clk (s : State) (n : Nat) (v : Dma) : (s.setDma n v).clk = s.clk := rfl
@[simp] theorem State.setDma_inp (s : State) (n : Nat) (v : Dma) : (s.setDma n v).inp = s.inp := rfl
@[simp] theorem State.setDma_trk (s : State) (n : Nat) (v : Dma) : (s.setDma n v).trk = s.trk := rfl
@[simp] theorem State.setDma_slots (s : State) (n : Nat) (v : Dma) : (s.setDma n v).slots = s.slots := rfl
@[simp] theorem State.setDma_ept (s : State) (n : Nat) (v : Dma) : (s.setDma n v).ept = s.ept := rfl
@[simp] theorem State.setDma_eps (s : State) (n : Nat) (v : Dma) : (s.setDma n v).eps = s.eps := rfl
@[simp] theorem State.setDma_edges (s : State) (n : Nat) (v : Dma) : (s.setDma n v).edges = s.edges := rfl
@[simp] theorem State.setDma_dueCarts (s : State) (n : Nat) (v : Dma) : (s.setDma n v).dueCarts = s.dueCarts := rfl
@[simp] theorem State.setDma_dueActs (s : State) (n : Nat) (v : Dma) : (s.setDma n v).dueActs = s.dueActs := rfl
@[simp] theorem State.setDma_fabric (s : State) (n : Nat) (v : Dma) : (s.setDma n v).fabric = s.fabric := rfl
@[simp] theorem State.setDma_lnk (s : State) (n : Nat) (v : Dma) : (s.setDma n v).lnk = s.lnk := rfl
@[simp] theorem State.setDma_drv (s : State) (n : Nat) (v : Dma) : (s.setDma n v).drv = s.drv := rfl
@[simp] theorem State.setDma_adc (s : State) (n : Nat) (v : Dma) : (s.setDma n v).adc = s.adc := rfl
@[simp] theorem State.setDma_carts (s : State) (n : Nat) (v : Dma) : (s.setDma n v).carts = s.carts := rfl
@[simp] theorem State.setDma_recd (s : State) (n : Nat) (v : Dma) : (s.setDma n v).recd = s.recd := rfl
@[simp] theorem State.setDma_store (s : State) (n : Nat) (v : Dma) : (s.setDma n v).store = s.store := rfl
@[simp] theorem State.setDma_doors (s : State) (n : Nat) (v : Dma) : (s.setDma n v).doors = s.doors := rfl
@[simp] theorem State.setDma_commits (s : State) (n : Nat) (v : Dma) : (s.setDma n v).commits = s.commits := rfl
@[simp] theorem State.setDma_irq (s : State) (n : Nat) (v : Dma) : (s.setDma n v).irq = s.irq := rfl
@[simp] theorem State.setDma_tmr (s : State) (n : Nat) (v : Dma) : (s.setDma n v).tmr = s.tmr := rfl
@[simp] theorem State.setDma_evt (s : State) (n : Nat) (v : Dma) : (s.setDma n v).evt = s.evt := rfl
@[simp] theorem State.setDma_power (s : State) (n : Nat) (v : Dma) : (s.setDma n v).power = s.power := rfl
@[simp] theorem State.setDma_flash (s : State) (n : Nat) (v : Dma) : (s.setDma n v).flash = s.flash := rfl
@[simp] theorem State.setDma_owner (s : State) (n : Nat) (v : Dma) : (s.setDma n v).owner = s.owner := rfl
@[simp] theorem State.setDma_flt (s : State) (n : Nat) (v : Dma) : (s.setDma n v).flt = s.flt := rfl
@[simp] theorem State.setDma_freeCtr (s : State) (n : Nat) (v : Dma) : (s.setDma n v).freeCtr = s.freeCtr := rfl
@[simp] theorem State.setDma_reg (s : State) (n : Nat) (v : Dma) (j : Nat) : (s.setDma n v).reg j = s.reg j := rfl
@[simp] theorem State.setDma_get (s : State) (n : Nat) (v : Dma) (j : FieldRef) : (s.setDma n v).get j = s.get j := rfl
@[simp] theorem State.setDma_bit (s : State) (n : Nat) (v : Dma) (j : FieldRef) : (s.setDma n v).bit j = s.bit j := rfl
@[simp] theorem State.setDma_inpCh (s : State) (n : Nat) (v : Dma) (j : Nat) : (s.setDma n v).inpCh j = s.inpCh j := rfl
@[simp] theorem State.setDma_tracker (s : State) (n : Nat) (v : Dma) (j : Nat) : (s.setDma n v).tracker j = s.tracker j := rfl
@[simp] theorem State.setDma_slot (s : State) (n : Nat) (v : Dma) (j : Nat) : (s.setDma n v).slot j = s.slot j := rfl
@[simp] theorem State.setDma_eptByte (s : State) (n : Nat) (v : Dma) (j : Nat) : (s.setDma n v).eptByte j = s.eptByte j := rfl
@[simp] theorem State.setDma_ep (s : State) (n : Nat) (v : Dma) (j : Nat) : (s.setDma n v).ep j = s.ep j := rfl
@[simp] theorem State.setDma_link (s : State) (n : Nat) (v : Dma) (j : Nat) : (s.setDma n v).link j = s.link j := rfl
@[simp] theorem State.setDma_drive (s : State) (n : Nat) (v : Dma) (j : Nat) : (s.setDma n v).drive j = s.drive j := rfl
@[simp] theorem State.setDma_unit (s : State) (n : Nat) (v : Dma) (j : Nat) : (s.setDma n v).unit j = s.unit j := rfl
@[simp] theorem State.setDma_door (s : State) (n : Nat) (v : Dma) (j : Nat) : (s.setDma n v).door j = s.door j := rfl
@[simp] theorem State.setDma_timer (s : State) (n : Nat) (v : Dma) (j : Nat) : (s.setDma n v).timer j = s.timer j := rfl
@[simp] theorem State.setDma_channel (s : State) (n : Nat) (v : Dma) (j : Nat) : (s.setDma n v).channel j = if j = n then v else s.channel j := by
  simp only [State.channel, State.setDma]; exact Sparse.get_set _ _ _ _ _
@[simp] theorem State.setDma_src (s : State) (n : Nat) (v : Dma) (j : Nat) : (s.setDma n v).src j = s.src j := rfl
@[simp] theorem State.setDma_grp (s : State) (n : Nat) (v : Dma) (j : Nat) : (s.setDma n v).grp j = s.grp j := rfl
@[simp] theorem State.setDma_coach (s : State) (n : Nat) (v : Dma) (j : Nat) : (s.setDma n v).coach j = s.coach j := rfl
@[simp] theorem State.setDma_carriage (s : State) (n : Nat) (v : Dma) (j : Nat) : (s.setDma n v).carriage j = s.carriage j := rfl
@[simp] theorem State.setDma_line (s : State) (n : Nat) (v : Dma) (j : Nat) : (s.setDma n v).line j = s.line j := rfl
@[simp] theorem State.setDma_flashByte (s : State) (n : Nat) (v : Dma) (j : Nat) : (s.setDma n v).flashByte j = s.flashByte j := rfl

/-! ### setSrc -/

@[simp] theorem State.setSrc_tick (s : State) (n : Nat) (v : Src) : (s.setSrc n v).tick = s.tick := rfl
@[simp] theorem State.setSrc_pending (s : State) (n : Nat) (v : Src) : (s.setSrc n v).pending = s.pending := rfl
@[simp] theorem State.setSrc_regs (s : State) (n : Nat) (v : Src) : (s.setSrc n v).regs = s.regs := rfl
@[simp] theorem State.setSrc_clk (s : State) (n : Nat) (v : Src) : (s.setSrc n v).clk = s.clk := rfl
@[simp] theorem State.setSrc_inp (s : State) (n : Nat) (v : Src) : (s.setSrc n v).inp = s.inp := rfl
@[simp] theorem State.setSrc_trk (s : State) (n : Nat) (v : Src) : (s.setSrc n v).trk = s.trk := rfl
@[simp] theorem State.setSrc_slots (s : State) (n : Nat) (v : Src) : (s.setSrc n v).slots = s.slots := rfl
@[simp] theorem State.setSrc_ept (s : State) (n : Nat) (v : Src) : (s.setSrc n v).ept = s.ept := rfl
@[simp] theorem State.setSrc_eps (s : State) (n : Nat) (v : Src) : (s.setSrc n v).eps = s.eps := rfl
@[simp] theorem State.setSrc_edges (s : State) (n : Nat) (v : Src) : (s.setSrc n v).edges = s.edges := rfl
@[simp] theorem State.setSrc_dueCarts (s : State) (n : Nat) (v : Src) : (s.setSrc n v).dueCarts = s.dueCarts := rfl
@[simp] theorem State.setSrc_dueActs (s : State) (n : Nat) (v : Src) : (s.setSrc n v).dueActs = s.dueActs := rfl
@[simp] theorem State.setSrc_fabric (s : State) (n : Nat) (v : Src) : (s.setSrc n v).fabric = s.fabric := rfl
@[simp] theorem State.setSrc_lnk (s : State) (n : Nat) (v : Src) : (s.setSrc n v).lnk = s.lnk := rfl
@[simp] theorem State.setSrc_drv (s : State) (n : Nat) (v : Src) : (s.setSrc n v).drv = s.drv := rfl
@[simp] theorem State.setSrc_adc (s : State) (n : Nat) (v : Src) : (s.setSrc n v).adc = s.adc := rfl
@[simp] theorem State.setSrc_carts (s : State) (n : Nat) (v : Src) : (s.setSrc n v).carts = s.carts := rfl
@[simp] theorem State.setSrc_recd (s : State) (n : Nat) (v : Src) : (s.setSrc n v).recd = s.recd := rfl
@[simp] theorem State.setSrc_store (s : State) (n : Nat) (v : Src) : (s.setSrc n v).store = s.store := rfl
@[simp] theorem State.setSrc_doors (s : State) (n : Nat) (v : Src) : (s.setSrc n v).doors = s.doors := rfl
@[simp] theorem State.setSrc_commits (s : State) (n : Nat) (v : Src) : (s.setSrc n v).commits = s.commits := rfl
@[simp] theorem State.setSrc_tmr (s : State) (n : Nat) (v : Src) : (s.setSrc n v).tmr = s.tmr := rfl
@[simp] theorem State.setSrc_evt (s : State) (n : Nat) (v : Src) : (s.setSrc n v).evt = s.evt := rfl
@[simp] theorem State.setSrc_dma (s : State) (n : Nat) (v : Src) : (s.setSrc n v).dma = s.dma := rfl
@[simp] theorem State.setSrc_power (s : State) (n : Nat) (v : Src) : (s.setSrc n v).power = s.power := rfl
@[simp] theorem State.setSrc_flash (s : State) (n : Nat) (v : Src) : (s.setSrc n v).flash = s.flash := rfl
@[simp] theorem State.setSrc_owner (s : State) (n : Nat) (v : Src) : (s.setSrc n v).owner = s.owner := rfl
@[simp] theorem State.setSrc_flt (s : State) (n : Nat) (v : Src) : (s.setSrc n v).flt = s.flt := rfl
@[simp] theorem State.setSrc_freeCtr (s : State) (n : Nat) (v : Src) : (s.setSrc n v).freeCtr = s.freeCtr := rfl
@[simp] theorem State.setSrc_reg (s : State) (n : Nat) (v : Src) (j : Nat) : (s.setSrc n v).reg j = s.reg j := rfl
@[simp] theorem State.setSrc_get (s : State) (n : Nat) (v : Src) (j : FieldRef) : (s.setSrc n v).get j = s.get j := rfl
@[simp] theorem State.setSrc_bit (s : State) (n : Nat) (v : Src) (j : FieldRef) : (s.setSrc n v).bit j = s.bit j := rfl
@[simp] theorem State.setSrc_inpCh (s : State) (n : Nat) (v : Src) (j : Nat) : (s.setSrc n v).inpCh j = s.inpCh j := rfl
@[simp] theorem State.setSrc_tracker (s : State) (n : Nat) (v : Src) (j : Nat) : (s.setSrc n v).tracker j = s.tracker j := rfl
@[simp] theorem State.setSrc_slot (s : State) (n : Nat) (v : Src) (j : Nat) : (s.setSrc n v).slot j = s.slot j := rfl
@[simp] theorem State.setSrc_eptByte (s : State) (n : Nat) (v : Src) (j : Nat) : (s.setSrc n v).eptByte j = s.eptByte j := rfl
@[simp] theorem State.setSrc_ep (s : State) (n : Nat) (v : Src) (j : Nat) : (s.setSrc n v).ep j = s.ep j := rfl
@[simp] theorem State.setSrc_link (s : State) (n : Nat) (v : Src) (j : Nat) : (s.setSrc n v).link j = s.link j := rfl
@[simp] theorem State.setSrc_drive (s : State) (n : Nat) (v : Src) (j : Nat) : (s.setSrc n v).drive j = s.drive j := rfl
@[simp] theorem State.setSrc_unit (s : State) (n : Nat) (v : Src) (j : Nat) : (s.setSrc n v).unit j = s.unit j := rfl
@[simp] theorem State.setSrc_door (s : State) (n : Nat) (v : Src) (j : Nat) : (s.setSrc n v).door j = s.door j := rfl
@[simp] theorem State.setSrc_timer (s : State) (n : Nat) (v : Src) (j : Nat) : (s.setSrc n v).timer j = s.timer j := rfl
@[simp] theorem State.setSrc_channel (s : State) (n : Nat) (v : Src) (j : Nat) : (s.setSrc n v).channel j = s.channel j := rfl
@[simp] theorem State.setSrc_src (s : State) (n : Nat) (v : Src) (j : Nat) : (s.setSrc n v).src j = if j = n then v else s.src j := by
  simp only [State.src, State.setSrc]; exact Sparse.get_set _ _ _ _ _
@[simp] theorem State.setSrc_grp (s : State) (n : Nat) (v : Src) (j : Nat) : (s.setSrc n v).grp j = s.grp j := rfl
@[simp] theorem State.setSrc_coach (s : State) (n : Nat) (v : Src) (j : Nat) : (s.setSrc n v).coach j = s.coach j := rfl
@[simp] theorem State.setSrc_carriage (s : State) (n : Nat) (v : Src) (j : Nat) : (s.setSrc n v).carriage j = s.carriage j := rfl
@[simp] theorem State.setSrc_line (s : State) (n : Nat) (v : Src) (j : Nat) : (s.setSrc n v).line j = s.line j := rfl
@[simp] theorem State.setSrc_flashByte (s : State) (n : Nat) (v : Src) (j : Nat) : (s.setSrc n v).flashByte j = s.flashByte j := rfl

/-! ### setGrp -/

@[simp] theorem State.setGrp_tick (s : State) (n : Nat) (v : Grp) : (s.setGrp n v).tick = s.tick := rfl
@[simp] theorem State.setGrp_pending (s : State) (n : Nat) (v : Grp) : (s.setGrp n v).pending = s.pending := rfl
@[simp] theorem State.setGrp_regs (s : State) (n : Nat) (v : Grp) : (s.setGrp n v).regs = s.regs := rfl
@[simp] theorem State.setGrp_clk (s : State) (n : Nat) (v : Grp) : (s.setGrp n v).clk = s.clk := rfl
@[simp] theorem State.setGrp_inp (s : State) (n : Nat) (v : Grp) : (s.setGrp n v).inp = s.inp := rfl
@[simp] theorem State.setGrp_trk (s : State) (n : Nat) (v : Grp) : (s.setGrp n v).trk = s.trk := rfl
@[simp] theorem State.setGrp_slots (s : State) (n : Nat) (v : Grp) : (s.setGrp n v).slots = s.slots := rfl
@[simp] theorem State.setGrp_ept (s : State) (n : Nat) (v : Grp) : (s.setGrp n v).ept = s.ept := rfl
@[simp] theorem State.setGrp_eps (s : State) (n : Nat) (v : Grp) : (s.setGrp n v).eps = s.eps := rfl
@[simp] theorem State.setGrp_edges (s : State) (n : Nat) (v : Grp) : (s.setGrp n v).edges = s.edges := rfl
@[simp] theorem State.setGrp_dueCarts (s : State) (n : Nat) (v : Grp) : (s.setGrp n v).dueCarts = s.dueCarts := rfl
@[simp] theorem State.setGrp_dueActs (s : State) (n : Nat) (v : Grp) : (s.setGrp n v).dueActs = s.dueActs := rfl
@[simp] theorem State.setGrp_fabric (s : State) (n : Nat) (v : Grp) : (s.setGrp n v).fabric = s.fabric := rfl
@[simp] theorem State.setGrp_lnk (s : State) (n : Nat) (v : Grp) : (s.setGrp n v).lnk = s.lnk := rfl
@[simp] theorem State.setGrp_drv (s : State) (n : Nat) (v : Grp) : (s.setGrp n v).drv = s.drv := rfl
@[simp] theorem State.setGrp_adc (s : State) (n : Nat) (v : Grp) : (s.setGrp n v).adc = s.adc := rfl
@[simp] theorem State.setGrp_carts (s : State) (n : Nat) (v : Grp) : (s.setGrp n v).carts = s.carts := rfl
@[simp] theorem State.setGrp_recd (s : State) (n : Nat) (v : Grp) : (s.setGrp n v).recd = s.recd := rfl
@[simp] theorem State.setGrp_store (s : State) (n : Nat) (v : Grp) : (s.setGrp n v).store = s.store := rfl
@[simp] theorem State.setGrp_doors (s : State) (n : Nat) (v : Grp) : (s.setGrp n v).doors = s.doors := rfl
@[simp] theorem State.setGrp_commits (s : State) (n : Nat) (v : Grp) : (s.setGrp n v).commits = s.commits := rfl
@[simp] theorem State.setGrp_tmr (s : State) (n : Nat) (v : Grp) : (s.setGrp n v).tmr = s.tmr := rfl
@[simp] theorem State.setGrp_evt (s : State) (n : Nat) (v : Grp) : (s.setGrp n v).evt = s.evt := rfl
@[simp] theorem State.setGrp_dma (s : State) (n : Nat) (v : Grp) : (s.setGrp n v).dma = s.dma := rfl
@[simp] theorem State.setGrp_power (s : State) (n : Nat) (v : Grp) : (s.setGrp n v).power = s.power := rfl
@[simp] theorem State.setGrp_flash (s : State) (n : Nat) (v : Grp) : (s.setGrp n v).flash = s.flash := rfl
@[simp] theorem State.setGrp_owner (s : State) (n : Nat) (v : Grp) : (s.setGrp n v).owner = s.owner := rfl
@[simp] theorem State.setGrp_flt (s : State) (n : Nat) (v : Grp) : (s.setGrp n v).flt = s.flt := rfl
@[simp] theorem State.setGrp_freeCtr (s : State) (n : Nat) (v : Grp) : (s.setGrp n v).freeCtr = s.freeCtr := rfl
@[simp] theorem State.setGrp_reg (s : State) (n : Nat) (v : Grp) (j : Nat) : (s.setGrp n v).reg j = s.reg j := rfl
@[simp] theorem State.setGrp_get (s : State) (n : Nat) (v : Grp) (j : FieldRef) : (s.setGrp n v).get j = s.get j := rfl
@[simp] theorem State.setGrp_bit (s : State) (n : Nat) (v : Grp) (j : FieldRef) : (s.setGrp n v).bit j = s.bit j := rfl
@[simp] theorem State.setGrp_inpCh (s : State) (n : Nat) (v : Grp) (j : Nat) : (s.setGrp n v).inpCh j = s.inpCh j := rfl
@[simp] theorem State.setGrp_tracker (s : State) (n : Nat) (v : Grp) (j : Nat) : (s.setGrp n v).tracker j = s.tracker j := rfl
@[simp] theorem State.setGrp_slot (s : State) (n : Nat) (v : Grp) (j : Nat) : (s.setGrp n v).slot j = s.slot j := rfl
@[simp] theorem State.setGrp_eptByte (s : State) (n : Nat) (v : Grp) (j : Nat) : (s.setGrp n v).eptByte j = s.eptByte j := rfl
@[simp] theorem State.setGrp_ep (s : State) (n : Nat) (v : Grp) (j : Nat) : (s.setGrp n v).ep j = s.ep j := rfl
@[simp] theorem State.setGrp_link (s : State) (n : Nat) (v : Grp) (j : Nat) : (s.setGrp n v).link j = s.link j := rfl
@[simp] theorem State.setGrp_drive (s : State) (n : Nat) (v : Grp) (j : Nat) : (s.setGrp n v).drive j = s.drive j := rfl
@[simp] theorem State.setGrp_unit (s : State) (n : Nat) (v : Grp) (j : Nat) : (s.setGrp n v).unit j = s.unit j := rfl
@[simp] theorem State.setGrp_door (s : State) (n : Nat) (v : Grp) (j : Nat) : (s.setGrp n v).door j = s.door j := rfl
@[simp] theorem State.setGrp_timer (s : State) (n : Nat) (v : Grp) (j : Nat) : (s.setGrp n v).timer j = s.timer j := rfl
@[simp] theorem State.setGrp_channel (s : State) (n : Nat) (v : Grp) (j : Nat) : (s.setGrp n v).channel j = s.channel j := rfl
@[simp] theorem State.setGrp_src (s : State) (n : Nat) (v : Grp) (j : Nat) : (s.setGrp n v).src j = s.src j := rfl
@[simp] theorem State.setGrp_grp (s : State) (n : Nat) (v : Grp) (j : Nat) : (s.setGrp n v).grp j = if j = n then v else s.grp j := by
  simp only [State.grp, State.setGrp]; exact Sparse.get_set _ _ _ _ _
@[simp] theorem State.setGrp_coach (s : State) (n : Nat) (v : Grp) (j : Nat) : (s.setGrp n v).coach j = s.coach j := rfl
@[simp] theorem State.setGrp_carriage (s : State) (n : Nat) (v : Grp) (j : Nat) : (s.setGrp n v).carriage j = s.carriage j := rfl
@[simp] theorem State.setGrp_line (s : State) (n : Nat) (v : Grp) (j : Nat) : (s.setGrp n v).line j = s.line j := rfl
@[simp] theorem State.setGrp_flashByte (s : State) (n : Nat) (v : Grp) (j : Nat) : (s.setGrp n v).flashByte j = s.flashByte j := rfl

/-! ### setCoach -/

@[simp] theorem State.setCoach_tick (s : State) (n : Nat) (v : Coach) : (s.setCoach n v).tick = s.tick := rfl
@[simp] theorem State.setCoach_pending (s : State) (n : Nat) (v : Coach) : (s.setCoach n v).pending = s.pending := rfl
@[simp] theorem State.setCoach_regs (s : State) (n : Nat) (v : Coach) : (s.setCoach n v).regs = s.regs := rfl
@[simp] theorem State.setCoach_clk (s : State) (n : Nat) (v : Coach) : (s.setCoach n v).clk = s.clk := rfl
@[simp] theorem State.setCoach_inp (s : State) (n : Nat) (v : Coach) : (s.setCoach n v).inp = s.inp := rfl
@[simp] theorem State.setCoach_trk (s : State) (n : Nat) (v : Coach) : (s.setCoach n v).trk = s.trk := rfl
@[simp] theorem State.setCoach_slots (s : State) (n : Nat) (v : Coach) : (s.setCoach n v).slots = s.slots := rfl
@[simp] theorem State.setCoach_ept (s : State) (n : Nat) (v : Coach) : (s.setCoach n v).ept = s.ept := rfl
@[simp] theorem State.setCoach_eps (s : State) (n : Nat) (v : Coach) : (s.setCoach n v).eps = s.eps := rfl
@[simp] theorem State.setCoach_edges (s : State) (n : Nat) (v : Coach) : (s.setCoach n v).edges = s.edges := rfl
@[simp] theorem State.setCoach_dueCarts (s : State) (n : Nat) (v : Coach) : (s.setCoach n v).dueCarts = s.dueCarts := rfl
@[simp] theorem State.setCoach_dueActs (s : State) (n : Nat) (v : Coach) : (s.setCoach n v).dueActs = s.dueActs := rfl
@[simp] theorem State.setCoach_lnk (s : State) (n : Nat) (v : Coach) : (s.setCoach n v).lnk = s.lnk := rfl
@[simp] theorem State.setCoach_drv (s : State) (n : Nat) (v : Coach) : (s.setCoach n v).drv = s.drv := rfl
@[simp] theorem State.setCoach_adc (s : State) (n : Nat) (v : Coach) : (s.setCoach n v).adc = s.adc := rfl
@[simp] theorem State.setCoach_carts (s : State) (n : Nat) (v : Coach) : (s.setCoach n v).carts = s.carts := rfl
@[simp] theorem State.setCoach_recd (s : State) (n : Nat) (v : Coach) : (s.setCoach n v).recd = s.recd := rfl
@[simp] theorem State.setCoach_store (s : State) (n : Nat) (v : Coach) : (s.setCoach n v).store = s.store := rfl
@[simp] theorem State.setCoach_doors (s : State) (n : Nat) (v : Coach) : (s.setCoach n v).doors = s.doors := rfl
@[simp] theorem State.setCoach_commits (s : State) (n : Nat) (v : Coach) : (s.setCoach n v).commits = s.commits := rfl
@[simp] theorem State.setCoach_irq (s : State) (n : Nat) (v : Coach) : (s.setCoach n v).irq = s.irq := rfl
@[simp] theorem State.setCoach_tmr (s : State) (n : Nat) (v : Coach) : (s.setCoach n v).tmr = s.tmr := rfl
@[simp] theorem State.setCoach_evt (s : State) (n : Nat) (v : Coach) : (s.setCoach n v).evt = s.evt := rfl
@[simp] theorem State.setCoach_dma (s : State) (n : Nat) (v : Coach) : (s.setCoach n v).dma = s.dma := rfl
@[simp] theorem State.setCoach_power (s : State) (n : Nat) (v : Coach) : (s.setCoach n v).power = s.power := rfl
@[simp] theorem State.setCoach_flash (s : State) (n : Nat) (v : Coach) : (s.setCoach n v).flash = s.flash := rfl
@[simp] theorem State.setCoach_owner (s : State) (n : Nat) (v : Coach) : (s.setCoach n v).owner = s.owner := rfl
@[simp] theorem State.setCoach_flt (s : State) (n : Nat) (v : Coach) : (s.setCoach n v).flt = s.flt := rfl
@[simp] theorem State.setCoach_freeCtr (s : State) (n : Nat) (v : Coach) : (s.setCoach n v).freeCtr = s.freeCtr := rfl
@[simp] theorem State.setCoach_reg (s : State) (n : Nat) (v : Coach) (j : Nat) : (s.setCoach n v).reg j = s.reg j := rfl
@[simp] theorem State.setCoach_get (s : State) (n : Nat) (v : Coach) (j : FieldRef) : (s.setCoach n v).get j = s.get j := rfl
@[simp] theorem State.setCoach_bit (s : State) (n : Nat) (v : Coach) (j : FieldRef) : (s.setCoach n v).bit j = s.bit j := rfl
@[simp] theorem State.setCoach_inpCh (s : State) (n : Nat) (v : Coach) (j : Nat) : (s.setCoach n v).inpCh j = s.inpCh j := rfl
@[simp] theorem State.setCoach_tracker (s : State) (n : Nat) (v : Coach) (j : Nat) : (s.setCoach n v).tracker j = s.tracker j := rfl
@[simp] theorem State.setCoach_slot (s : State) (n : Nat) (v : Coach) (j : Nat) : (s.setCoach n v).slot j = s.slot j := rfl
@[simp] theorem State.setCoach_eptByte (s : State) (n : Nat) (v : Coach) (j : Nat) : (s.setCoach n v).eptByte j = s.eptByte j := rfl
@[simp] theorem State.setCoach_ep (s : State) (n : Nat) (v : Coach) (j : Nat) : (s.setCoach n v).ep j = s.ep j := rfl
@[simp] theorem State.setCoach_link (s : State) (n : Nat) (v : Coach) (j : Nat) : (s.setCoach n v).link j = s.link j := rfl
@[simp] theorem State.setCoach_drive (s : State) (n : Nat) (v : Coach) (j : Nat) : (s.setCoach n v).drive j = s.drive j := rfl
@[simp] theorem State.setCoach_unit (s : State) (n : Nat) (v : Coach) (j : Nat) : (s.setCoach n v).unit j = s.unit j := rfl
@[simp] theorem State.setCoach_door (s : State) (n : Nat) (v : Coach) (j : Nat) : (s.setCoach n v).door j = s.door j := rfl
@[simp] theorem State.setCoach_timer (s : State) (n : Nat) (v : Coach) (j : Nat) : (s.setCoach n v).timer j = s.timer j := rfl
@[simp] theorem State.setCoach_channel (s : State) (n : Nat) (v : Coach) (j : Nat) : (s.setCoach n v).channel j = s.channel j := rfl
@[simp] theorem State.setCoach_src (s : State) (n : Nat) (v : Coach) (j : Nat) : (s.setCoach n v).src j = s.src j := rfl
@[simp] theorem State.setCoach_grp (s : State) (n : Nat) (v : Coach) (j : Nat) : (s.setCoach n v).grp j = s.grp j := rfl
@[simp] theorem State.setCoach_coach (s : State) (n : Nat) (v : Coach) (j : Nat) : (s.setCoach n v).coach j = if j = n then v else s.coach j := by
  simp only [State.coach, State.setCoach]; exact Sparse.get_set _ _ _ _ _
@[simp] theorem State.setCoach_carriage (s : State) (n : Nat) (v : Coach) (j : Nat) : (s.setCoach n v).carriage j = s.carriage j := rfl
@[simp] theorem State.setCoach_line (s : State) (n : Nat) (v : Coach) (j : Nat) : (s.setCoach n v).line j = s.line j := rfl
@[simp] theorem State.setCoach_flashByte (s : State) (n : Nat) (v : Coach) (j : Nat) : (s.setCoach n v).flashByte j = s.flashByte j := rfl

/-! ### setCarriage -/

@[simp] theorem State.setCarriage_tick (s : State) (n : Nat) (v : Carriage) : (s.setCarriage n v).tick = s.tick := rfl
@[simp] theorem State.setCarriage_pending (s : State) (n : Nat) (v : Carriage) : (s.setCarriage n v).pending = s.pending := rfl
@[simp] theorem State.setCarriage_regs (s : State) (n : Nat) (v : Carriage) : (s.setCarriage n v).regs = s.regs := rfl
@[simp] theorem State.setCarriage_clk (s : State) (n : Nat) (v : Carriage) : (s.setCarriage n v).clk = s.clk := rfl
@[simp] theorem State.setCarriage_inp (s : State) (n : Nat) (v : Carriage) : (s.setCarriage n v).inp = s.inp := rfl
@[simp] theorem State.setCarriage_trk (s : State) (n : Nat) (v : Carriage) : (s.setCarriage n v).trk = s.trk := rfl
@[simp] theorem State.setCarriage_slots (s : State) (n : Nat) (v : Carriage) : (s.setCarriage n v).slots = s.slots := rfl
@[simp] theorem State.setCarriage_ept (s : State) (n : Nat) (v : Carriage) : (s.setCarriage n v).ept = s.ept := rfl
@[simp] theorem State.setCarriage_eps (s : State) (n : Nat) (v : Carriage) : (s.setCarriage n v).eps = s.eps := rfl
@[simp] theorem State.setCarriage_edges (s : State) (n : Nat) (v : Carriage) : (s.setCarriage n v).edges = s.edges := rfl
@[simp] theorem State.setCarriage_dueCarts (s : State) (n : Nat) (v : Carriage) : (s.setCarriage n v).dueCarts = s.dueCarts := rfl
@[simp] theorem State.setCarriage_dueActs (s : State) (n : Nat) (v : Carriage) : (s.setCarriage n v).dueActs = s.dueActs := rfl
@[simp] theorem State.setCarriage_lnk (s : State) (n : Nat) (v : Carriage) : (s.setCarriage n v).lnk = s.lnk := rfl
@[simp] theorem State.setCarriage_drv (s : State) (n : Nat) (v : Carriage) : (s.setCarriage n v).drv = s.drv := rfl
@[simp] theorem State.setCarriage_adc (s : State) (n : Nat) (v : Carriage) : (s.setCarriage n v).adc = s.adc := rfl
@[simp] theorem State.setCarriage_carts (s : State) (n : Nat) (v : Carriage) : (s.setCarriage n v).carts = s.carts := rfl
@[simp] theorem State.setCarriage_recd (s : State) (n : Nat) (v : Carriage) : (s.setCarriage n v).recd = s.recd := rfl
@[simp] theorem State.setCarriage_store (s : State) (n : Nat) (v : Carriage) : (s.setCarriage n v).store = s.store := rfl
@[simp] theorem State.setCarriage_doors (s : State) (n : Nat) (v : Carriage) : (s.setCarriage n v).doors = s.doors := rfl
@[simp] theorem State.setCarriage_commits (s : State) (n : Nat) (v : Carriage) : (s.setCarriage n v).commits = s.commits := rfl
@[simp] theorem State.setCarriage_irq (s : State) (n : Nat) (v : Carriage) : (s.setCarriage n v).irq = s.irq := rfl
@[simp] theorem State.setCarriage_tmr (s : State) (n : Nat) (v : Carriage) : (s.setCarriage n v).tmr = s.tmr := rfl
@[simp] theorem State.setCarriage_evt (s : State) (n : Nat) (v : Carriage) : (s.setCarriage n v).evt = s.evt := rfl
@[simp] theorem State.setCarriage_dma (s : State) (n : Nat) (v : Carriage) : (s.setCarriage n v).dma = s.dma := rfl
@[simp] theorem State.setCarriage_power (s : State) (n : Nat) (v : Carriage) : (s.setCarriage n v).power = s.power := rfl
@[simp] theorem State.setCarriage_flash (s : State) (n : Nat) (v : Carriage) : (s.setCarriage n v).flash = s.flash := rfl
@[simp] theorem State.setCarriage_owner (s : State) (n : Nat) (v : Carriage) : (s.setCarriage n v).owner = s.owner := rfl
@[simp] theorem State.setCarriage_flt (s : State) (n : Nat) (v : Carriage) : (s.setCarriage n v).flt = s.flt := rfl
@[simp] theorem State.setCarriage_freeCtr (s : State) (n : Nat) (v : Carriage) : (s.setCarriage n v).freeCtr = s.freeCtr := rfl
@[simp] theorem State.setCarriage_reg (s : State) (n : Nat) (v : Carriage) (j : Nat) : (s.setCarriage n v).reg j = s.reg j := rfl
@[simp] theorem State.setCarriage_get (s : State) (n : Nat) (v : Carriage) (j : FieldRef) : (s.setCarriage n v).get j = s.get j := rfl
@[simp] theorem State.setCarriage_bit (s : State) (n : Nat) (v : Carriage) (j : FieldRef) : (s.setCarriage n v).bit j = s.bit j := rfl
@[simp] theorem State.setCarriage_inpCh (s : State) (n : Nat) (v : Carriage) (j : Nat) : (s.setCarriage n v).inpCh j = s.inpCh j := rfl
@[simp] theorem State.setCarriage_tracker (s : State) (n : Nat) (v : Carriage) (j : Nat) : (s.setCarriage n v).tracker j = s.tracker j := rfl
@[simp] theorem State.setCarriage_slot (s : State) (n : Nat) (v : Carriage) (j : Nat) : (s.setCarriage n v).slot j = s.slot j := rfl
@[simp] theorem State.setCarriage_eptByte (s : State) (n : Nat) (v : Carriage) (j : Nat) : (s.setCarriage n v).eptByte j = s.eptByte j := rfl
@[simp] theorem State.setCarriage_ep (s : State) (n : Nat) (v : Carriage) (j : Nat) : (s.setCarriage n v).ep j = s.ep j := rfl
@[simp] theorem State.setCarriage_link (s : State) (n : Nat) (v : Carriage) (j : Nat) : (s.setCarriage n v).link j = s.link j := rfl
@[simp] theorem State.setCarriage_drive (s : State) (n : Nat) (v : Carriage) (j : Nat) : (s.setCarriage n v).drive j = s.drive j := rfl
@[simp] theorem State.setCarriage_unit (s : State) (n : Nat) (v : Carriage) (j : Nat) : (s.setCarriage n v).unit j = s.unit j := rfl
@[simp] theorem State.setCarriage_door (s : State) (n : Nat) (v : Carriage) (j : Nat) : (s.setCarriage n v).door j = s.door j := rfl
@[simp] theorem State.setCarriage_timer (s : State) (n : Nat) (v : Carriage) (j : Nat) : (s.setCarriage n v).timer j = s.timer j := rfl
@[simp] theorem State.setCarriage_channel (s : State) (n : Nat) (v : Carriage) (j : Nat) : (s.setCarriage n v).channel j = s.channel j := rfl
@[simp] theorem State.setCarriage_src (s : State) (n : Nat) (v : Carriage) (j : Nat) : (s.setCarriage n v).src j = s.src j := rfl
@[simp] theorem State.setCarriage_grp (s : State) (n : Nat) (v : Carriage) (j : Nat) : (s.setCarriage n v).grp j = s.grp j := rfl
@[simp] theorem State.setCarriage_coach (s : State) (n : Nat) (v : Carriage) (j : Nat) : (s.setCarriage n v).coach j = s.coach j := rfl
@[simp] theorem State.setCarriage_carriage (s : State) (n : Nat) (v : Carriage) (j : Nat) : (s.setCarriage n v).carriage j = if j = n then v else s.carriage j := by
  simp only [State.carriage, State.setCarriage]; exact Sparse.get_set _ _ _ _ _
@[simp] theorem State.setCarriage_line (s : State) (n : Nat) (v : Carriage) (j : Nat) : (s.setCarriage n v).line j = s.line j := rfl
@[simp] theorem State.setCarriage_flashByte (s : State) (n : Nat) (v : Carriage) (j : Nat) : (s.setCarriage n v).flashByte j = s.flashByte j := rfl

/-! ### setLine -/

@[simp] theorem State.setLine_tick (s : State) (n : Nat) (v : EvLine) : (s.setLine n v).tick = s.tick := rfl
@[simp] theorem State.setLine_pending (s : State) (n : Nat) (v : EvLine) : (s.setLine n v).pending = s.pending := rfl
@[simp] theorem State.setLine_regs (s : State) (n : Nat) (v : EvLine) : (s.setLine n v).regs = s.regs := rfl
@[simp] theorem State.setLine_clk (s : State) (n : Nat) (v : EvLine) : (s.setLine n v).clk = s.clk := rfl
@[simp] theorem State.setLine_inp (s : State) (n : Nat) (v : EvLine) : (s.setLine n v).inp = s.inp := rfl
@[simp] theorem State.setLine_trk (s : State) (n : Nat) (v : EvLine) : (s.setLine n v).trk = s.trk := rfl
@[simp] theorem State.setLine_slots (s : State) (n : Nat) (v : EvLine) : (s.setLine n v).slots = s.slots := rfl
@[simp] theorem State.setLine_ept (s : State) (n : Nat) (v : EvLine) : (s.setLine n v).ept = s.ept := rfl
@[simp] theorem State.setLine_eps (s : State) (n : Nat) (v : EvLine) : (s.setLine n v).eps = s.eps := rfl
@[simp] theorem State.setLine_edges (s : State) (n : Nat) (v : EvLine) : (s.setLine n v).edges = s.edges := rfl
@[simp] theorem State.setLine_dueCarts (s : State) (n : Nat) (v : EvLine) : (s.setLine n v).dueCarts = s.dueCarts := rfl
@[simp] theorem State.setLine_dueActs (s : State) (n : Nat) (v : EvLine) : (s.setLine n v).dueActs = s.dueActs := rfl
@[simp] theorem State.setLine_fabric (s : State) (n : Nat) (v : EvLine) : (s.setLine n v).fabric = s.fabric := rfl
@[simp] theorem State.setLine_lnk (s : State) (n : Nat) (v : EvLine) : (s.setLine n v).lnk = s.lnk := rfl
@[simp] theorem State.setLine_drv (s : State) (n : Nat) (v : EvLine) : (s.setLine n v).drv = s.drv := rfl
@[simp] theorem State.setLine_adc (s : State) (n : Nat) (v : EvLine) : (s.setLine n v).adc = s.adc := rfl
@[simp] theorem State.setLine_carts (s : State) (n : Nat) (v : EvLine) : (s.setLine n v).carts = s.carts := rfl
@[simp] theorem State.setLine_recd (s : State) (n : Nat) (v : EvLine) : (s.setLine n v).recd = s.recd := rfl
@[simp] theorem State.setLine_store (s : State) (n : Nat) (v : EvLine) : (s.setLine n v).store = s.store := rfl
@[simp] theorem State.setLine_doors (s : State) (n : Nat) (v : EvLine) : (s.setLine n v).doors = s.doors := rfl
@[simp] theorem State.setLine_commits (s : State) (n : Nat) (v : EvLine) : (s.setLine n v).commits = s.commits := rfl
@[simp] theorem State.setLine_irq (s : State) (n : Nat) (v : EvLine) : (s.setLine n v).irq = s.irq := rfl
@[simp] theorem State.setLine_tmr (s : State) (n : Nat) (v : EvLine) : (s.setLine n v).tmr = s.tmr := rfl
@[simp] theorem State.setLine_dma (s : State) (n : Nat) (v : EvLine) : (s.setLine n v).dma = s.dma := rfl
@[simp] theorem State.setLine_power (s : State) (n : Nat) (v : EvLine) : (s.setLine n v).power = s.power := rfl
@[simp] theorem State.setLine_flash (s : State) (n : Nat) (v : EvLine) : (s.setLine n v).flash = s.flash := rfl
@[simp] theorem State.setLine_owner (s : State) (n : Nat) (v : EvLine) : (s.setLine n v).owner = s.owner := rfl
@[simp] theorem State.setLine_flt (s : State) (n : Nat) (v : EvLine) : (s.setLine n v).flt = s.flt := rfl
@[simp] theorem State.setLine_freeCtr (s : State) (n : Nat) (v : EvLine) : (s.setLine n v).freeCtr = s.freeCtr := rfl
@[simp] theorem State.setLine_reg (s : State) (n : Nat) (v : EvLine) (j : Nat) : (s.setLine n v).reg j = s.reg j := rfl
@[simp] theorem State.setLine_get (s : State) (n : Nat) (v : EvLine) (j : FieldRef) : (s.setLine n v).get j = s.get j := rfl
@[simp] theorem State.setLine_bit (s : State) (n : Nat) (v : EvLine) (j : FieldRef) : (s.setLine n v).bit j = s.bit j := rfl
@[simp] theorem State.setLine_inpCh (s : State) (n : Nat) (v : EvLine) (j : Nat) : (s.setLine n v).inpCh j = s.inpCh j := rfl
@[simp] theorem State.setLine_tracker (s : State) (n : Nat) (v : EvLine) (j : Nat) : (s.setLine n v).tracker j = s.tracker j := rfl
@[simp] theorem State.setLine_slot (s : State) (n : Nat) (v : EvLine) (j : Nat) : (s.setLine n v).slot j = s.slot j := rfl
@[simp] theorem State.setLine_eptByte (s : State) (n : Nat) (v : EvLine) (j : Nat) : (s.setLine n v).eptByte j = s.eptByte j := rfl
@[simp] theorem State.setLine_ep (s : State) (n : Nat) (v : EvLine) (j : Nat) : (s.setLine n v).ep j = s.ep j := rfl
@[simp] theorem State.setLine_link (s : State) (n : Nat) (v : EvLine) (j : Nat) : (s.setLine n v).link j = s.link j := rfl
@[simp] theorem State.setLine_drive (s : State) (n : Nat) (v : EvLine) (j : Nat) : (s.setLine n v).drive j = s.drive j := rfl
@[simp] theorem State.setLine_unit (s : State) (n : Nat) (v : EvLine) (j : Nat) : (s.setLine n v).unit j = s.unit j := rfl
@[simp] theorem State.setLine_door (s : State) (n : Nat) (v : EvLine) (j : Nat) : (s.setLine n v).door j = s.door j := rfl
@[simp] theorem State.setLine_timer (s : State) (n : Nat) (v : EvLine) (j : Nat) : (s.setLine n v).timer j = s.timer j := rfl
@[simp] theorem State.setLine_channel (s : State) (n : Nat) (v : EvLine) (j : Nat) : (s.setLine n v).channel j = s.channel j := rfl
@[simp] theorem State.setLine_src (s : State) (n : Nat) (v : EvLine) (j : Nat) : (s.setLine n v).src j = s.src j := rfl
@[simp] theorem State.setLine_grp (s : State) (n : Nat) (v : EvLine) (j : Nat) : (s.setLine n v).grp j = s.grp j := rfl
@[simp] theorem State.setLine_coach (s : State) (n : Nat) (v : EvLine) (j : Nat) : (s.setLine n v).coach j = s.coach j := rfl
@[simp] theorem State.setLine_carriage (s : State) (n : Nat) (v : EvLine) (j : Nat) : (s.setLine n v).carriage j = s.carriage j := rfl
@[simp] theorem State.setLine_line (s : State) (n : Nat) (v : EvLine) (j : Nat) : (s.setLine n v).line j = if j = n then v else s.line j := by
  simp only [State.line, State.setLine]; exact Sparse.get_set _ _ _ _ _
@[simp] theorem State.setLine_flashByte (s : State) (n : Nat) (v : EvLine) (j : Nat) : (s.setLine n v).flashByte j = s.flashByte j := rfl

/-! ### setFlash -/

@[simp] theorem State.setFlash_tick (s : State) (n : Nat) (v : Byte) : (s.setFlash n v).tick = s.tick := rfl
@[simp] theorem State.setFlash_pending (s : State) (n : Nat) (v : Byte) : (s.setFlash n v).pending = s.pending := rfl
@[simp] theorem State.setFlash_regs (s : State) (n : Nat) (v : Byte) : (s.setFlash n v).regs = s.regs := rfl
@[simp] theorem State.setFlash_clk (s : State) (n : Nat) (v : Byte) : (s.setFlash n v).clk = s.clk := rfl
@[simp] theorem State.setFlash_inp (s : State) (n : Nat) (v : Byte) : (s.setFlash n v).inp = s.inp := rfl
@[simp] theorem State.setFlash_trk (s : State) (n : Nat) (v : Byte) : (s.setFlash n v).trk = s.trk := rfl
@[simp] theorem State.setFlash_slots (s : State) (n : Nat) (v : Byte) : (s.setFlash n v).slots = s.slots := rfl
@[simp] theorem State.setFlash_ept (s : State) (n : Nat) (v : Byte) : (s.setFlash n v).ept = s.ept := rfl
@[simp] theorem State.setFlash_eps (s : State) (n : Nat) (v : Byte) : (s.setFlash n v).eps = s.eps := rfl
@[simp] theorem State.setFlash_edges (s : State) (n : Nat) (v : Byte) : (s.setFlash n v).edges = s.edges := rfl
@[simp] theorem State.setFlash_dueCarts (s : State) (n : Nat) (v : Byte) : (s.setFlash n v).dueCarts = s.dueCarts := rfl
@[simp] theorem State.setFlash_dueActs (s : State) (n : Nat) (v : Byte) : (s.setFlash n v).dueActs = s.dueActs := rfl
@[simp] theorem State.setFlash_fabric (s : State) (n : Nat) (v : Byte) : (s.setFlash n v).fabric = s.fabric := rfl
@[simp] theorem State.setFlash_lnk (s : State) (n : Nat) (v : Byte) : (s.setFlash n v).lnk = s.lnk := rfl
@[simp] theorem State.setFlash_drv (s : State) (n : Nat) (v : Byte) : (s.setFlash n v).drv = s.drv := rfl
@[simp] theorem State.setFlash_adc (s : State) (n : Nat) (v : Byte) : (s.setFlash n v).adc = s.adc := rfl
@[simp] theorem State.setFlash_carts (s : State) (n : Nat) (v : Byte) : (s.setFlash n v).carts = s.carts := rfl
@[simp] theorem State.setFlash_recd (s : State) (n : Nat) (v : Byte) : (s.setFlash n v).recd = s.recd := rfl
@[simp] theorem State.setFlash_store (s : State) (n : Nat) (v : Byte) : (s.setFlash n v).store = s.store := rfl
@[simp] theorem State.setFlash_doors (s : State) (n : Nat) (v : Byte) : (s.setFlash n v).doors = s.doors := rfl
@[simp] theorem State.setFlash_commits (s : State) (n : Nat) (v : Byte) : (s.setFlash n v).commits = s.commits := rfl
@[simp] theorem State.setFlash_irq (s : State) (n : Nat) (v : Byte) : (s.setFlash n v).irq = s.irq := rfl
@[simp] theorem State.setFlash_tmr (s : State) (n : Nat) (v : Byte) : (s.setFlash n v).tmr = s.tmr := rfl
@[simp] theorem State.setFlash_evt (s : State) (n : Nat) (v : Byte) : (s.setFlash n v).evt = s.evt := rfl
@[simp] theorem State.setFlash_dma (s : State) (n : Nat) (v : Byte) : (s.setFlash n v).dma = s.dma := rfl
@[simp] theorem State.setFlash_power (s : State) (n : Nat) (v : Byte) : (s.setFlash n v).power = s.power := rfl
@[simp] theorem State.setFlash_owner (s : State) (n : Nat) (v : Byte) : (s.setFlash n v).owner = s.owner := rfl
@[simp] theorem State.setFlash_flt (s : State) (n : Nat) (v : Byte) : (s.setFlash n v).flt = s.flt := rfl
@[simp] theorem State.setFlash_freeCtr (s : State) (n : Nat) (v : Byte) : (s.setFlash n v).freeCtr = s.freeCtr := rfl
@[simp] theorem State.setFlash_reg (s : State) (n : Nat) (v : Byte) (j : Nat) : (s.setFlash n v).reg j = s.reg j := rfl
@[simp] theorem State.setFlash_get (s : State) (n : Nat) (v : Byte) (j : FieldRef) : (s.setFlash n v).get j = s.get j := rfl
@[simp] theorem State.setFlash_bit (s : State) (n : Nat) (v : Byte) (j : FieldRef) : (s.setFlash n v).bit j = s.bit j := rfl
@[simp] theorem State.setFlash_inpCh (s : State) (n : Nat) (v : Byte) (j : Nat) : (s.setFlash n v).inpCh j = s.inpCh j := rfl
@[simp] theorem State.setFlash_tracker (s : State) (n : Nat) (v : Byte) (j : Nat) : (s.setFlash n v).tracker j = s.tracker j := rfl
@[simp] theorem State.setFlash_slot (s : State) (n : Nat) (v : Byte) (j : Nat) : (s.setFlash n v).slot j = s.slot j := rfl
@[simp] theorem State.setFlash_eptByte (s : State) (n : Nat) (v : Byte) (j : Nat) : (s.setFlash n v).eptByte j = s.eptByte j := rfl
@[simp] theorem State.setFlash_ep (s : State) (n : Nat) (v : Byte) (j : Nat) : (s.setFlash n v).ep j = s.ep j := rfl
@[simp] theorem State.setFlash_link (s : State) (n : Nat) (v : Byte) (j : Nat) : (s.setFlash n v).link j = s.link j := rfl
@[simp] theorem State.setFlash_drive (s : State) (n : Nat) (v : Byte) (j : Nat) : (s.setFlash n v).drive j = s.drive j := rfl
@[simp] theorem State.setFlash_unit (s : State) (n : Nat) (v : Byte) (j : Nat) : (s.setFlash n v).unit j = s.unit j := rfl
@[simp] theorem State.setFlash_door (s : State) (n : Nat) (v : Byte) (j : Nat) : (s.setFlash n v).door j = s.door j := rfl
@[simp] theorem State.setFlash_timer (s : State) (n : Nat) (v : Byte) (j : Nat) : (s.setFlash n v).timer j = s.timer j := rfl
@[simp] theorem State.setFlash_channel (s : State) (n : Nat) (v : Byte) (j : Nat) : (s.setFlash n v).channel j = s.channel j := rfl
@[simp] theorem State.setFlash_src (s : State) (n : Nat) (v : Byte) (j : Nat) : (s.setFlash n v).src j = s.src j := rfl
@[simp] theorem State.setFlash_grp (s : State) (n : Nat) (v : Byte) (j : Nat) : (s.setFlash n v).grp j = s.grp j := rfl
@[simp] theorem State.setFlash_coach (s : State) (n : Nat) (v : Byte) (j : Nat) : (s.setFlash n v).coach j = s.coach j := rfl
@[simp] theorem State.setFlash_carriage (s : State) (n : Nat) (v : Byte) (j : Nat) : (s.setFlash n v).carriage j = s.carriage j := rfl
@[simp] theorem State.setFlash_line (s : State) (n : Nat) (v : Byte) (j : Nat) : (s.setFlash n v).line j = s.line j := rfl
@[simp] theorem State.setFlash_flashByte (s : State) (n : Nat) (v : Byte) (j : Nat) : (s.setFlash n v).flashByte j = if j = n then v else s.flashByte j := by
  simp only [State.flashByte, State.setFlash]; exact Sparse.get_set _ _ _ _ _

end Sys2Proof.Machine
end

