-- ==== Sys2Proof/Laws/Registers.lean ====
section
/-! SUPPORT. Bit fields, and what registers and their fields read as after a write. -/

namespace Sys2Proof

/-! ### Bits of a word -/

theorem Word.bits_lt (w : Word) (hi lo : Nat) : Word.bits w hi lo < 2 ^ (hi + 1 - lo) :=
  Nat.mod_lt _ (Nat.two_pow_pos _)

/-- A bit of a field is the bit of the word. -/
theorem Word.testBit_bits (w : Word) (hi lo i : Nat) :
    (Word.bits w hi lo).testBit i = (decide (i < hi + 1 - lo) && w.toNat.testBit (lo + i)) := by
  simp [Word.bits, Nat.testBit_mod_two_pow, Nat.testBit_div_two_pow, Nat.add_comm]

theorem field_split (x lo n : Nat) :
    x = x / 2 ^ (lo + n) * 2 ^ (lo + n) + x / 2 ^ lo % 2 ^ n * 2 ^ lo + x % 2 ^ lo := by
  have h1 := Nat.div_add_mod x (2 ^ lo)
  have h2 := Nat.div_add_mod (x / 2 ^ lo) (2 ^ n)
  rw [Nat.div_div_eq_div_mul, ← pow_add] at h2
  calc x = 2 ^ lo * (x / 2 ^ lo) + x % 2 ^ lo := h1.symm
    _ = 2 ^ lo * (2 ^ n * (x / 2 ^ (lo + n)) + x / 2 ^ lo % 2 ^ n) + x % 2 ^ lo := by rw [h2]
    _ = _ := by rw [pow_add]; ring

/-- What a word holds once a field is replaced. -/
theorem Word.withBits_toNat (w : Word) {hi lo : Nat} (v : Nat) (h : lo ≤ hi) (h32 : hi < 32) :
    (Word.withBits w hi lo v).toNat =
      w.toNat / 2 ^ (hi + 1) * 2 ^ (hi + 1) + v % 2 ^ (hi + 1 - lo) * 2 ^ lo + w.toNat % 2 ^ lo := by
  have hs := field_split w.toNat lo (hi + 1 - lo)
  have he : lo + (hi + 1 - lo) = hi + 1 := by omega
  rw [he] at hs
  have hv : v % 2 ^ (hi + 1 - lo) < 2 ^ (hi + 1 - lo) := Nat.mod_lt _ (Nat.two_pow_pos _)
  have hl : w.toNat % 2 ^ lo < 2 ^ lo := Nat.mod_lt _ (Nat.two_pow_pos _)
  have hsum : v % 2 ^ (hi + 1 - lo) * 2 ^ lo + w.toNat % 2 ^ lo < 2 ^ (hi + 1) := by
    have : (v % 2 ^ (hi + 1 - lo) + 1) * 2 ^ lo ≤ 2 ^ (hi + 1 - lo) * 2 ^ lo := Nat.mul_le_mul_right _ hv
    rw [← pow_add, show hi + 1 - lo + lo = hi + 1 by omega] at this
    nlinarith
  have hq : w.toNat / 2 ^ (hi + 1) < 2 ^ (32 - (hi + 1)) := by
    apply Nat.div_lt_of_lt_mul
    rw [← pow_add, show hi + 1 + (32 - (hi + 1)) = 32 by omega]
    exact w.isLt
  have htop : w.toNat / 2 ^ (hi + 1) * 2 ^ (hi + 1) + 2 ^ (hi + 1) ≤ 2 ^ 32 := by
    have : (w.toNat / 2 ^ (hi + 1) + 1) * 2 ^ (hi + 1) ≤ 2 ^ (32 - (hi + 1)) * 2 ^ (hi + 1) := Nat.mul_le_mul_right _ hq
    rw [← pow_add, show 32 - (hi + 1) + (hi + 1) = 32 by omega] at this
    nlinarith
  simp only [Word.withBits, BitVec.toNat_ofNat, Word.bits]
  rw [Nat.mod_eq_of_lt (by omega)]
  omega

/-- The field replaced reads as the value, taken modulo its width. -/
@[simp] theorem Word.bits_withBits_same (w : Word) {hi lo : Nat} (v : Nat) (h : lo ≤ hi) (h32 : hi < 32) :
    Word.bits (Word.withBits w hi lo v) hi lo = v % 2 ^ (hi + 1 - lo) := by
  have hl : w.toNat % 2 ^ lo < 2 ^ lo := Nat.mod_lt _ (Nat.two_pow_pos _)
  rw [Word.bits, Word.withBits_toNat w v h h32]
  have : w.toNat / 2 ^ (hi + 1) * 2 ^ (hi + 1) + v % 2 ^ (hi + 1 - lo) * 2 ^ lo + w.toNat % 2 ^ lo =
      w.toNat % 2 ^ lo + (w.toNat / 2 ^ (hi + 1) * 2 ^ (hi + 1 - lo) + v % 2 ^ (hi + 1 - lo)) * 2 ^ lo := by
    rw [Nat.add_mul, Nat.mul_assoc, ← pow_add, show hi + 1 - lo + lo = hi + 1 by omega]; ring
  rw [this, Nat.add_mul_div_right _ _ (Nat.two_pow_pos _), Nat.div_eq_of_lt hl, Nat.zero_add, Nat.mul_comm,
    Nat.mul_add_mod, Nat.mod_mod]

/-- A field above or below the one replaced reads as before. -/
@[simp] theorem Word.bits_withBits_apart (w : Word) {hi lo hi' lo' : Nat} (v : Nat) (h : lo ≤ hi) (h32 : hi < 32)
    (ha : hi' < lo ∨ hi < lo') : Word.bits (Word.withBits w hi lo v) hi' lo' = Word.bits w hi' lo' := by
  have key : ∀ j, (j < lo ∨ hi < j) → (Word.withBits w hi lo v).toNat.testBit j = w.toNat.testBit j := by
    intro j hj
    rw [Word.withBits_toNat w v h h32]
    have hl : w.toNat % 2 ^ lo < 2 ^ lo := Nat.mod_lt _ (Nat.two_pow_pos _)
    have hv : v % 2 ^ (hi + 1 - lo) < 2 ^ (hi + 1 - lo) := Nat.mod_lt _ (Nat.two_pow_pos _)
    have hin : v % 2 ^ (hi + 1 - lo) * 2 ^ lo + w.toNat % 2 ^ lo < 2 ^ (hi + 1) := by
      have : (v % 2 ^ (hi + 1 - lo) + 1) * 2 ^ lo ≤ 2 ^ (hi + 1 - lo) * 2 ^ lo := Nat.mul_le_mul_right _ hv
      rw [← pow_add, show hi + 1 - lo + lo = hi + 1 by omega] at this
      nlinarith
    rw [Nat.add_assoc, Nat.mul_comm (w.toNat / 2 ^ (hi + 1)), Nat.testBit_two_pow_mul_add _ hin]
    rcases hj with hj | hj
    · rw [if_pos (by omega), Nat.mul_comm, Nat.testBit_two_pow_mul_add _ hl, if_pos hj, Nat.testBit_mod_two_pow]
      simp [hj]
    · rw [if_neg (by omega), Nat.testBit_div_two_pow]
      congr 1; omega
  apply Nat.eq_of_testBit_eq
  intro i
  rw [Word.testBit_bits, Word.testBit_bits]
  by_cases hi2 : i < hi' + 1 - lo'
  · rw [key (lo' + i) (by omega)]
  · simp [hi2]

end Sys2Proof

namespace Sys2Proof.Machine

/-! ### The register file -/

theorem State.setReg_regs (s : State) (a : Nat) (v : Word) : (s.setReg a v).regs = s.regs.set regReset a v := rfl
theorem State.put_regs (s : State) (f : FieldRef) (v : Nat) :
    (s.put f v).regs = s.regs.set regReset f.addr (Word.withBits (s.reg f.addr) f.hi f.lo v) := rfl
theorem State.raise_regs (s : State) (p k : Nat) :
    (s.raise p k).regs = s.regs.set regReset (p + 0x10) (s.reg (p + 0x10) ||| BitVec.ofNat 32 (2 ^ k)) := rfl

/-! ### Registers -/

@[simp] theorem State.setReg_reg (s : State) (a : Nat) (v : Word) (b : Nat) :
    (s.setReg a v).reg b = if b = a then v else s.reg b := Sparse.get_set _ _ _ _ _

@[simp] theorem State.put_reg (s : State) (f : FieldRef) (v : Nat) (b : Nat) :
    (s.put f v).reg b = if b = f.addr then Word.withBits (s.reg f.addr) f.hi f.lo v else s.reg b := by
  simp [State.put]

@[simp] theorem State.raise_reg (s : State) (p k b : Nat) :
    (s.raise p k).reg b = if b = p + 0x10 then s.reg (p + 0x10) ||| BitVec.ofNat 32 (2 ^ k) else s.reg b := by
  simp [State.raise]

/-- Two fields share no bit. -/
abbrev FieldRef.apart (f g : FieldRef) : Prop := f.addr ≠ g.addr ∨ f.hi < g.lo ∨ g.hi < f.lo

/-- A field lies within a dword. -/
abbrev FieldRef.ok (f : FieldRef) : Prop := f.lo ≤ f.hi ∧ f.hi < 32

theorem State.get_put_self (s : State) {f : FieldRef} (v : Nat) (h : f.ok) : (s.put f v).get f = v % 2 ^ (f.hi + 1 - f.lo) := by
  simp [State.get, Word.bits_withBits_same _ _ h.1 h.2]

theorem State.get_put_apart (s : State) {f g : FieldRef} (v : Nat) (h : f.ok) (ha : f.apart g) : (s.put f v).get g = s.get g := by
  unfold State.get
  rw [State.put_reg]
  by_cases he : g.addr = f.addr
  · rw [if_pos he, Word.bits_withBits_apart _ _ h.1 h.2 (by rcases ha with h | h | h; exacts [absurd he.symm h, .inr h, .inl h]), he]
  · rw [if_neg he]

theorem State.get_setReg_ne (s : State) {a : Nat} {g : FieldRef} (v : Word) (h : g.addr ≠ a) : (s.setReg a v).get g = s.get g := by
  simp [State.get, h]

theorem State.get_raise_ne (s : State) {p k : Nat} {g : FieldRef} (h : g.addr ≠ p + 0x10) : (s.raise p k).get g = s.get g := by
  simp [State.get, h]

/-- A raised source is pending. -/
theorem State.raise_sets (s : State) (p : Nat) {k : Nat} (h : k < 32) : ((s.raise p k).reg (p + 0x10)).getLsbD k = true := by
  rw [State.raise_reg, if_pos rfl, BitVec.getLsbD_or, BitVec.getLsbD_ofNat]; simp [h]

end Sys2Proof.Machine
end

