-- ==== Sys2Proof/Laws/Frames.lean ====
section
/-! SUPPORT. Frames: what the shared operations leave as it was, composed step by step. -/

namespace Sys2Proof.Machine

/-! ### Registers -/

theorem FieldsKept.refl (fs : List FieldRef) (s : State) : FieldsKept fs s s := fun _ _ _ _ => rfl

theorem FieldsKept.of_regs {fs : List FieldRef} {s t : State} (h : t.regs = s.regs) : FieldsKept fs s t := by
  intro a i _ _; simp only [State.reg, h]

theorem FieldsKept.trans {fs : List FieldRef} {s t u : State} (h : FieldsKept fs s t) (k : FieldsKept fs t u) :
    FieldsKept fs s u := fun a i hi hf => (k a i hi hf).trans (h a i hi hf)

theorem FieldsKept.mono {fs gs : List FieldRef} {s t : State} (h : FieldsKept fs s t) (hs : ∀ f ∈ fs, f ∈ gs) :
    FieldsKept gs s t := fun a i hi hf => h a i hi (fun f hm ha => hf f (hs f hm) ha)

/-- A bit outside a replaced field is as before. -/
theorem getLsbD_withBits (w : Word) {hi lo i : Nat} (v : Nat) (h : lo ≤ hi) (h32 : hi < 32) (ha : i < lo ∨ hi < i) :
    (Word.withBits w hi lo v).getLsbD i = w.getLsbD i := by
  have e := Word.bits_withBits_apart w v h h32 (hi' := i) (lo' := i) (by omega)
  have one : ∀ x : Word, (Word.bits x i i).testBit 0 = x.getLsbD i := by
    intro x
    rw [Word.testBit_bits]; simp [BitVec.getLsbD]
  rw [← one, ← one, e]

theorem FieldsKept.put {fs : List FieldRef} {f : FieldRef} (s : State) (v : Nat) (hf : f ∈ fs) (ok : f.ok) :
    FieldsKept fs s (s.put f v) := by
  intro a i hi hn
  rw [State.put_reg]
  by_cases he : a = f.addr
  · subst he
    rw [if_pos rfl, getLsbD_withBits _ _ ok.1 ok.2 (hn f hf rfl)]
  · rw [if_neg he]

theorem FieldsKept.raise {fs : List FieldRef} (s : State) (p k : Nat) (hf : rawBit p k ∈ fs) : FieldsKept fs s (s.raise p k) := by
  intro a i hi hn
  rw [State.raise_reg]
  by_cases he : a = p + 0x10
  · subst he
    have hne : i ≠ k := by rcases hn _ hf rfl with h | h <;> simp only [rawBit] at h <;> omega
    rw [if_pos rfl, BitVec.getLsbD_or, BitVec.getLsbD_ofNat, Nat.testBit_two_pow]
    simp [Ne.symm hne]
  · rw [if_neg he]

theorem FieldsKept.then_put {fs : List FieldRef} {s t : State} (h : FieldsKept fs s t) {f : FieldRef} (v : Nat) (hf : f ∈ fs)
    (ok : f.ok) : FieldsKept fs s (t.put f v) := h.trans (FieldsKept.put t v hf ok)

theorem FieldsKept.then_raise {fs : List FieldRef} {s t : State} (h : FieldsKept fs s t) (p k : Nat) (hf : rawBit p k ∈ fs) :
    FieldsKept fs s (t.raise p k) := h.trans (FieldsKept.raise t p k hf)

/-- A field apart from all those listed reads as before. -/
theorem FieldsKept.get {fs : List FieldRef} {s t : State} (h : FieldsKept fs s t) {g : FieldRef} (ok : g.ok)
    (ha : ∀ f ∈ fs, f.apart g) : t.get g = s.get g := by
  apply Nat.eq_of_testBit_eq
  intro i
  simp only [State.get, Word.testBit_bits]
  by_cases hi : i < g.hi + 1 - g.lo
  · have hk := h g.addr (g.lo + i) (by have := ok.2; omega) (by
      intro f hf he
      rcases ha f hf with h | h | h
      · exact absurd he h
      · right; omega
      · left; omega)
    simp only [BitVec.getLsbD] at hk
    rw [hk]
  · simp [hi]

/-- A register none of whose fields is listed reads as before. -/
theorem FieldsKept.reg {fs : List FieldRef} {s t : State} (h : FieldsKept fs s t) {a : Nat} (ha : ∀ f ∈ fs, f.addr ≠ a) :
    t.reg a = s.reg a := by
  apply BitVec.eq_of_getLsbD_eq
  intro i hi
  exact h a i hi (fun f hf he => absurd he (ha f hf))

/-! ### Whole states -/

theorem OnlyFields.refl (fs : List FieldRef) (s : State) : OnlyFields fs s s := ⟨rfl, FieldsKept.refl fs s⟩

theorem OnlyFields.trans {fs : List FieldRef} {s t u : State} (h : OnlyFields fs s t) (k : OnlyFields fs t u) :
    OnlyFields fs s u := ⟨by rw [k.1, h.1], h.2.trans k.2⟩

theorem OnlyFields.mono {fs gs : List FieldRef} {s t : State} (h : OnlyFields fs s t) (hs : ∀ f ∈ fs, f ∈ gs) :
    OnlyFields gs s t := ⟨h.1, h.2.mono hs⟩

theorem OnlyFields.put {fs : List FieldRef} {f : FieldRef} (s : State) (v : Nat) (hf : f ∈ fs) (ok : f.ok) :
    OnlyFields fs s (s.put f v) := ⟨rfl, FieldsKept.put s v hf ok⟩

theorem OnlyFields.raise {fs : List FieldRef} (s : State) (p k : Nat) (hf : rawBit p k ∈ fs) :
    OnlyFields fs s (s.raise p k) := ⟨rfl, FieldsKept.raise s p k hf⟩

/-- What a put after other fields' changes keeps. -/
theorem OnlyFields.then_put {fs : List FieldRef} {s t : State} (h : OnlyFields fs s t) {f : FieldRef} (v : Nat) (hf : f ∈ fs)
    (ok : f.ok) : OnlyFields fs s (t.put f v) := h.trans (OnlyFields.put t v hf ok)

/-- What a raise after other fields' changes keeps. -/
theorem OnlyFields.then_raise {fs : List FieldRef} {s t : State} (h : OnlyFields fs s t) (p k : Nat) (hf : rawBit p k ∈ fs) :
    OnlyFields fs s (t.raise p k) := h.trans (OnlyFields.raise t p k hf)

theorem State.isRaised_raise (s : State) (p : Nat) {k : Nat} (h : k < 32) : (s.raise p k).isRaised p k := by
  have hs := State.raise_sets s p h
  unfold State.isRaised State.get rawBit
  have : (Word.bits ((s.raise p k).reg (p + 0x10)) k k).testBit 0 = true := by
    rw [Word.testBit_bits]; simpa [BitVec.getLsbD] using hs
  have lt := Word.bits_lt ((s.raise p k).reg (p + 0x10)) k k
  simp only [Nat.testBit_zero, decide_eq_true_eq] at this
  have : k + 1 - k = 1 := by omega
  rw [this] at lt
  dsimp only at *
  omega

/-- A pending source stays pending when another is raised. -/
theorem State.isRaised_raise_of {s : State} {p k : Nat} (h : s.isRaised p k) (hk : k < 32) (q j : Nat) :
    (s.raise q j).isRaised p k := by
  by_cases he : p = q ∧ k = j
  · obtain ⟨rfl, rfl⟩ := he; exact State.isRaised_raise s p hk
  · have hf : FieldsKept [rawBit q j] s (s.raise q j) := FieldsKept.raise s q j (by simp)
    have := hf.get (g := rawBit p k) ⟨Nat.le_refl _, hk⟩ (by
      intro f hm
      simp only [List.mem_singleton] at hm
      subst hm
      simp only [FieldRef.apart, rawBit]
      by_cases hp : p = q
      · right; have : k ≠ j := fun h' => he ⟨hp, h'⟩
        omega
      · left; omega)
    rw [State.isRaised, this]; exact h

/-! ### Doors -/

theorem OnlyDoor.setDoor (d : Nat) (s : State) (x : Door) : OnlyDoor d s (s.setDoor d x) :=
  ⟨rfl, fun e he => by simp [State.door, State.setDoor, he]⟩

theorem Captured.captures {d : Nat} {v : Word} {l : List (Nat × Word)} (s : State) (hl : (l.map (fun e => e.1)).Nodup) :
    Captured d v l s (s.captures d v l) := by
  have hfold : ∀ (l : List (Nat × Word)) (m : Sparse Word) (a : Nat),
      (l.map (fun e => e.1)).Nodup →
      (∀ e ∈ l, (l.foldl (fun (m : Sparse Word) e => m.set (fun _ => 0) e.1 e.2) m).get (fun _ => 0) e.1 = e.2) ∧
      (a ∉ l.map (fun e => e.1) →
        (l.foldl (fun (m : Sparse Word) e => m.set (fun _ => 0) e.1 e.2) m).get (fun _ => 0) a = m.get (fun _ => 0) a) := by
    intro l
    induction l with
    | nil => intro m a _; simp
    | cons x l ih =>
      intro m a hn
      rw [List.map_cons, List.nodup_cons] at hn
      refine ⟨?_, ?_⟩
      · intro e he
        rcases List.mem_cons.1 he with rfl | he
        · rw [List.foldl_cons, (ih _ e.1 hn.2).2 hn.1]; simp
        · exact (ih _ a hn.2).1 e he
      · intro ha
        rw [List.map_cons, List.mem_cons, not_or] at ha
        rw [List.foldl_cons, (ih _ a hn.2).2 ha.2]
        simp [ha.1]
  refine ⟨OnlyDoor.setDoor _ _ _, ?_, ?_, ?_⟩
  · simp [State.captures, State.onDoor, Door.capture]
  · intro e he
    have := (hfold l (s.door d).snap e.1 hl).1 e he
    simpa [State.snapOf, State.captures, State.onDoor, Door.capture] using this
  · intro a ha
    have := (hfold l (s.door d).snap a hl).2 ha
    simpa [State.snapOf, State.captures, State.onDoor, Door.capture] using this

end Sys2Proof.Machine
end

