-- ==== Sys2Proof/Laws/Access.lean ====
section
/-! SUPPORT. Pages and offsets: which register an offset in BAR0 names, and what a served write or read comes to. -/

namespace Sys2Proof.Machine

theorem blocks_apart : ∀ b ∈ allBlocks, ∀ c ∈ allBlocks, b = c ∨ b.base + b.pages * 0x1000 ≤ c.base ∨
    c.base + c.pages * 0x1000 ≤ b.base := by decide

theorem mem_allBlocks (b : Block) : b ∈ allBlocks := by cases b <;> decide

/-- An offset within a page of a block names that page. -/
theorem pageOf_page (b : Block) {n off : Nat} (hn : n < b.pages) (ho : off < 0x1000) :
    pageOf (page b n + off) = some (b, n) := by
  unfold pageOf
  have hb : b.base ≤ page b n + off ∧ page b n + off < b.base + b.pages * 0x1000 := by
    simp only [page]; constructor <;> omega
  cases hf : allBlocks.find? (fun c => decide (c.base ≤ page b n + off ∧ page b n + off < c.base + c.pages * 0x1000)) with
  | none =>
    have := List.find?_eq_none.1 hf b (mem_allBlocks b)
    simp only [decide_eq_true_eq] at this
    exact absurd hb this
  | some c =>
    have hc := List.find?_some hf
    simp only [decide_eq_true_eq] at hc
    have he : b = c := by
      rcases blocks_apart b (mem_allBlocks b) c (mem_allBlocks c) with h | h | h
      · exact h
      · omega
      · omega
    subst he
    simp only [Option.map_some, Option.some.injEq, Prod.mk.injEq, true_and, page]
    omega

theorem base_aligned (b : Block) : b.base % 0x1000 = 0 := by cases b <;> rfl

/-- The offset within the page. -/
theorem page_mod (b : Block) (n : Nat) {off : Nat} (ho : off < 0x1000) : (page b n + off) % 0x1000 = off := by
  have := base_aligned b
  simp only [page]; omega

theorem pageBase_page (b : Block) (n : Nat) {off : Nat} (ho : off < 0x1000) : pageBase (page b n + off) = page b n := by
  have := base_aligned b
  simp only [page, pageBase]; omega

/-- The row of the register map at an offset of a page depends on the offset alone. -/
theorem regRow_page (b : Block) {n off : Nat} (hn : n < b.pages) (ho : off < 0x1000) :
    regRow (page b n + off) = (headRows ++ rowsOf b).find? (fun r => r.hits off) := by
  simp only [regRow, pageOf_page b hn ho, page_mod b n ho]

theorem fieldsAt_page (b : Block) {n off : Nat} (hn : n < b.pages) (ho : off < 0x1000) :
    fieldsAt (page b n + off) = match (headRows ++ rowsOf b).find? (fun r => r.hits off) with
      | some r => r.fields
      | none => [] := by
  unfold fieldsAt; rw [regRow_page b hn ho]; first | done | rfl

theorem deafShutter_page (b : Block) {n off : Nat} (hn : n < b.pages) (ho : off < 0x1000) :
    deafShutter (page b n + off) = (off == 0x1C && !b.hasShutter) := by
  simp only [deafShutter, pageOf_page b hn ho, page_mod b n ho]

theorem page_below (b : Block) {n off : Nat} (hn : n < b.pages) (ho : off < 0x1000) : page b n + off < 0xF00000 := by
  cases b <;> simp only [Block.pages, page, Block.base] at * <;> omega

/-- A served write that the door may make acts as Writes.lean says. -/
theorem State.busWrite_accepts {s : State} {d : Nat} {b : Block} {n off : Nat} (h : s.accepts d b n off) (hn : n < b.pages)
    (ho : off < 0x1000) (hw : writable (page b n + off) = true) (v : Word) :
    s.busWrite d (page b n + off) v = s.write d (page b n + off) v := by
  obtain ⟨h1, h2, h3, h4⟩ := h
  have hb := page_below b hn ho
  have hm : ¬ (0xF00000 ≤ page b n + off ∧ page b n + off < 0xF04000) := by omega
  unfold State.busWrite
  rw [if_neg (by simp [h1, h2]), if_neg hm, pageOf_page b hn ho]
  dsimp only
  rw [page_mod b n ho, if_neg (by rw [h3, hw]; decide), if_pos h4]

/-- What a write of a register does that is neither in the head nor a selector: its staged fields go to the door's stage, the
rest is the block's. -/
theorem State.write_block {s : State} {d : Nat} {b : Block} {n off : Nat} (hn : n < b.pages) (ho : off < 0x1000)
    (hr : (regRow (page b n + off)).isSome = true) (h40 : 0x40 ≤ off) (hsel : (selOffsets b).contains off = false) (v : Word) :
    s.write d (page b n + off) v =
      (if d < 4 then s.stageReg d (page b n + off) v else s).blockWrite d b n off v := by
  have h40' : ¬ off < 0x40 := by omega
  have hr' : (regRow (page b n + off)).isNone = false := by
    cases h : regRow (page b n + off) <;> simp_all
  simp only [State.write, pageOf_page b hn ho, page_mod b n ho, h40', if_false, hsel, hr', Bool.false_eq_true]

/-- A read of a register that is served. -/
theorem State.doorRead_reads {s : State} {d addr : Nat} (h : s.reads d addr) (st : Nat) :
    s.doorRead d addr st = s.busRead d addr st := by
  simp [State.doorRead, State.served, h.1, h.2]

/-- A write that touches no RWC bit is not staged (R287). -/
theorem State.stageReg_none (s : State) (d a : Nat) (v : Word) (h : s.stageMask a v = 0) : s.stageReg d a v = s := by
  simp [State.stageReg, h]

/-- A register without RWC fields stages nothing. -/
theorem State.stageMask_none (s : State) (a : Nat) (v : Word) (h : (fieldsAt a).all (fun f => f.acc != .rwc) = true) : s.stageMask a v = 0 := by
  unfold State.stageMask
  split
  · rfl
  · have : ∀ (l : List RegField) (m : Nat), l.all (fun f => f.acc != .rwc) = true →
      l.foldl (fun m f => if f.acc == .rwc && s.legal a f (Word.bits v f.hi f.lo) then m + (2 ^ (f.hi + 1 - f.lo) - 1) * 2 ^ f.lo else m) m = m := by
      intro l
      induction l with
      | nil => intro m _; rfl
      | cons x l ih =>
        intro m hm
        simp only [List.all_cons, Bool.and_eq_true, bne_iff_ne, ne_eq] at hm
        rw [List.foldl_cons, ih _ hm.2]
        simp [hm.1]
    rw [this _ _ h]; rfl

end Sys2Proof.Machine
end

