-- ==== Sys2Proof/Laws/Ops.lean ====
section
/-! SUPPORT. What each operation that many meanings share can do: one lemma or two for each. -/

namespace Sys2Proof.Machine

/-! ### Outcomes -/

/-- A meaning that leaves the tick and the queue as they are answers just what it computes. -/
theorem run_eq {s u : State} (ht : u.tick = s.tick) (hp : u.pending = s.pending) : run s u = .next u := by
  unfold run; rw [← ht, ← hp]

theorem Captured.run_eq {d : Nat} {v : Word} {l : List (Nat × Word)} {s u : State} (h : Captured d v l s u) : run s u = .next u :=
  Sys2Proof.Machine.run_eq (by rw [h.1.1]) (by rw [h.1.1])

theorem OnlyFields.run_eq {fs : List FieldRef} {s u : State} (h : OnlyFields fs s u) : run s u = .next u :=
  Sys2Proof.Machine.run_eq (by rw [h.1]) (by rw [h.1])

/-! ### Fields of a number -/

/-- A number with one of its fields replaced, as several registers of small fields are written. -/
theorem digit_same {x lo n v : Nat} (hx : x < 2 ^ 32) (hn : 0 < n) (h : lo + n ≤ 32) (hv : v < 2 ^ n) :
    (x - x / 2 ^ lo % 2 ^ n * 2 ^ lo + v * 2 ^ lo) % 2 ^ 32 / 2 ^ lo % 2 ^ n = v := by
  have h1 := Word.bits_withBits_same (BitVec.ofNat 32 x) (hi := lo + n - 1) (lo := lo) v (by omega) (by omega)
  have e : lo + n - 1 + 1 - lo = n := by omega
  simp only [Word.bits, Word.withBits, e, BitVec.toNat_ofNat, Nat.mod_eq_of_lt hx, Nat.mod_eq_of_lt hv] at h1
  exact h1

theorem digit_apart {x lo n v lo' m : Nat} (hx : x < 2 ^ 32) (hn : 0 < n) (h : lo + n ≤ 32) (hv : v < 2 ^ n) (hm : 0 < m)
    (ha : lo' + m ≤ lo ∨ lo + n ≤ lo') :
    (x - x / 2 ^ lo % 2 ^ n * 2 ^ lo + v * 2 ^ lo) % 2 ^ 32 / 2 ^ lo' % 2 ^ m = x / 2 ^ lo' % 2 ^ m := by
  have h1 := Word.bits_withBits_apart (BitVec.ofNat 32 x) (hi := lo + n - 1) (lo := lo) (hi' := lo' + m - 1) (lo' := lo') v
    (by omega) (by omega) (by omega)
  have e : lo + n - 1 + 1 - lo = n := by omega
  have e' : lo' + m - 1 + 1 - lo' = m := by omega
  simp only [Word.bits, Word.withBits, e, e', BitVec.toNat_ofNat, Nat.mod_eq_of_lt hx, Nat.mod_eq_of_lt hv] at h1
  exact h1

/-! ### References -/

theorem refState_digit (s : State) (d : Nat) : s.refState d = s.get Reg.CLK.REF_STAT.STATES / 2 ^ (4 * d) % 2 ^ 4 := by
  simp only [State.refState, show (16 : Nat) = 2 ^ 4 by rfl, ← pow_mul]

theorem get_states_lt (s : State) : s.get Reg.CLK.REF_STAT.STATES < 2 ^ 16 := by
  exact Word.bits_lt _ _ _

/-- A reference changes state; the others keep theirs. -/
theorem State.setRef_refState (s : State) {d v : Nat} (e : Nat) (hd : d < 4) (he : e < 4) (hv : v < 16) :
    (s.setRef d v).refState e = if e = d then v else s.refState e := by
  unfold State.setRef
  by_cases h : s.refState d = v
  · rw [if_pos h]; split <;> simp_all
  · rw [if_neg h]
    have hx := get_states_lt s
    have hx' : s.get Reg.CLK.REF_STAT.STATES < 2 ^ 32 := by omega
    have hg : ∀ w : Nat, (((s.put Reg.CLK.REF_STAT.STATES w).raise (page .clk 0) 0)).get Reg.CLK.REF_STAT.STATES = w % 2 ^ 16 := by
      intro w
      rw [State.get_raise_ne _ (by decide), State.get_put_self _ _ (by decide : FieldRef.ok Reg.CLK.REF_STAT.STATES)]
      rfl
    dsimp only
    rw [refState_digit _ e, hg]
    have hdd := refState_digit s d
    have h16 : 16 ^ d = 2 ^ (4 * d) := by rw [show (16 : Nat) = 2 ^ 4 by rfl, ← pow_mul]
    rw [h16, hdd]
    have hlt : (s.get Reg.CLK.REF_STAT.STATES - s.get Reg.CLK.REF_STAT.STATES / 2 ^ (4 * d) % 2 ^ 4 * 2 ^ (4 * d) +
        v * 2 ^ (4 * d)) % 2 ^ 16 / 2 ^ (4 * e) % 2 ^ 4 =
        (s.get Reg.CLK.REF_STAT.STATES - s.get Reg.CLK.REF_STAT.STATES / 2 ^ (4 * d) % 2 ^ 4 * 2 ^ (4 * d) +
        v * 2 ^ (4 * d)) % 2 ^ 32 / 2 ^ (4 * e) % 2 ^ 4 := by
      apply Nat.eq_of_testBit_eq
      intro i
      simp only [Nat.testBit_mod_two_pow, Nat.testBit_div_two_pow]
      by_cases hi : i < 4
      · have h1 : i + 4 * e < 16 := by omega
        have h2 : i + 4 * e < 32 := by omega
        simp [hi, h1, h2, Nat.add_comm]
      · simp [hi]
    rw [hlt]
    by_cases hed : e = d
    · subst hed
      rw [if_pos rfl]
      exact digit_same hx' (by omega) (by omega) (by omega)
    · rw [if_neg hed, digit_apart hx' (by omega) (by omega) (by omega) (by omega) (by omega), ← refState_digit]

theorem State.setRef_frame {fs : List FieldRef} (s : State) (d v : Nat) (h1 : Reg.CLK.REF_STAT.STATES ∈ fs)
    (h2 : rawBit (page .clk 0) 0 ∈ fs) : OnlyFields fs s (s.setRef d v) := by
  unfold State.setRef
  split
  · exact OnlyFields.refl fs s
  · exact (OnlyFields.put s _ h1 (by decide)).then_raise _ _ h2

theorem State.setRef_raises (s : State) {d v : Nat} (h : s.refState d ≠ v) : (s.setRef d v).isRaised (page .clk 0) 0 := by
  unfold State.setRef
  rw [if_neg h]
  exact State.isRaised_raise _ _ (by decide)

theorem State.setRef_keeps_raised {s : State} {p k : Nat} (h : s.isRaised p k) (hk : k < 32)
    (hne : (rawBit p k).addr ≠ Reg.CLK.REF_STAT.STATES.addr) (d v : Nat) : (s.setRef d v).isRaised p k := by
  unfold State.setRef
  split
  · exact h
  · refine State.isRaised_raise_of ?_ hk _ _
    have := State.get_put_apart s (f := Reg.CLK.REF_STAT.STATES) (g := rawBit p k)
      (s.get Reg.CLK.REF_STAT.STATES - s.refState d * 16 ^ d + v * 16 ^ d) (by decide) (Or.inl (Ne.symm hne))
    rw [State.isRaised, this]; exact h

/-! ### PLLs -/

/-- The fields that a PLL's taking of a door writes. -/
def pllFields : List FieldRef :=
  [Reg.CLK.PLL_STAT.A_STATE, Reg.CLK.PLL_STAT.A_DOOR, Reg.CLK.PLL_STAT.B_STATE, Reg.CLK.PLL_STAT.B_DOOR]

theorem State.assignPll_frame (s : State) (p : Nat) : OnlyFields pllFields s (s.assignPll p) := by
  unfold State.assignPll
  split
  · exact OnlyFields.refl _ _
  · split
    · unfold State.setPll State.setPllDoor
      split <;> exact (OnlyFields.put s _ (by simp [pllFields]) (by decide)).then_put _ (by simp [pllFields]) (by decide)
    · exact OnlyFields.refl _ _

/-- R46: PLLs that look for a door write nothing but their own state and door. -/
theorem State.assignPlls_frame (s : State) : OnlyFields pllFields s s.assignPlls :=
  (s.assignPll_frame 0).trans ((s.assignPll 0).assignPll_frame 1)

theorem State.assignPlls_refState (s : State) (d : Nat) : s.assignPlls.refState d = s.refState d := by
  simp only [State.refState]
  rw [s.assignPlls_frame.2.get (g := Reg.CLK.REF_STAT.STATES) (by decide) (by decide)]

theorem State.assignPlls_isRaised (s : State) {p k : Nat} (hk : k < 32) (hp : p + 0x10 ≠ 0x1048) :
    s.assignPlls.isRaised p k ↔ s.isRaised p k := by
  unfold State.isRaised
  rw [s.assignPlls_frame.2.get (g := rawBit p k) ⟨Nat.le_refl _, hk⟩]
  intro f hf
  left
  simp only [pllFields, List.mem_cons, List.not_mem_nil, or_false] at hf
  rcases hf with rfl | rfl | rfl | rfl <;> exact Ne.symm hp

end Sys2Proof.Machine
end

