-- ==== Sys2Proof/Laws/PerInstr.lean ====
section
/-! SUPPORT. What holds of every command as syntax, one lemma per command: a well-formed command acts on a function
that the device has. -/

namespace Sys2Proof

/-- The function page a command names, where it names one (R286). -/
def Instr.function : Instr → Option (FnKind × Nat)
  | .pinEdgeAccept ch _ _ _ _ => some (.inp, ch)
  | .comparePulseEnd ch _ => some (.inp, ch)
  | .pwdTimeout ch => some (.inp, ch)
  | .serialWordStart ch _ => some (.inp, ch)
  | .serialWordEnd ch _ _ => some (.inp, ch)
  | .serialTimeout ch _ => some (.inp, ch)
  | .strokeRecord ch => some (.inp, ch)
  | .latchPosRead _ ch => some (.inp, ch)
  | .trackerStall w => some (.whl, w)
  | .resync w => some (.whl, w)
  | .autoResync w => some (.whl, w)
  | .corrLearn w => some (.whl, w)
  | .corrSwapCmd w => some (.whl, w)
  | .corrClear w => some (.whl, w)
  | .corrAbort w => some (.whl, w)
  | .learnDone w => some (.whl, w)
  | .angleRead _ w _ => some (.whl, w)
  | .bringup l => some (.lnk, l)
  | .linkStop l => some (.lnk, l)
  | .mgmtTx l => some (.lnk, l)
  | .sreqPromote l => some (.lnk, l)
  | .upFrameReceive l _ _ _ => some (.lnk, l)
  | .cableBreak l _ => some (.lnk, l)
  | .heal l => some (.lnk, l)
  | .comparatorTransition ch _ _ => some (.drv, ch)
  | .regPeriodStart ch => some (.drv, ch)
  | .blankEnd ch => some (.drv, ch)
  | .driveEventStart ch => some (.drv, ch)
  | .driveEventEnd ch => some (.drv, ch)
  | .dutyCut ch => some (.drv, ch)
  | .dutyBinRoll ch => some (.drv, ch)
  | .cmpClr ch => some (.drv, ch)
  | .dipWindowEnd ch => some (.drv, ch)
  | .lastEndRead _ ch => some (.drv, ch)
  | .adcDataLatch u _ => some (.adc, u)
  | .adcRestart u => some (.adc, u)
  | .calZero u => some (.adc, u)
  | .calFull u => some (.adc, u)
  | .calDone u => some (.adc, u)
  | .adcDataRead _ u => some (.adc, u)
  | .timerLoad t => some (.tmr, t)
  | .captureRead _ t => some (.tmr, t)
  | .dmaStart _ c => some (.dma, c)
  | .dmaBurstDone c _ _ _ => some (.dma, c)
  | .dmaBusError c _ _ => some (.dma, c)
  | .dmaAbort _ c => some (.dma, c)
  | .wheelSwitch w => some (.whl, w)
  | .lockstep f n => some (f, n)
  | .gateReadback ch => some (.drv, ch)
  | .refMon u => some (.adc, u)
  | .noFrames l => some (.lnk, l)
  | .hostShutter f n => some (f, n)
  | .shutterRelease f n _ => some (f, n)
  | .bringupEnd l _ => some (.lnk, l)
  | _ => none

namespace Laws.Wf

/-- A well-formed command acts on a function that exists. -/
def Statement (i : Instr) : Prop := i.wf = true → ∀ p, i.function = some p → p.2 < p.1.number

theorem of_none {i : Instr} (h : i.function = none) : Statement i := fun _ _ hp => by rw [h] at hp; cases hp

theorem of_bound {i : Instr} {f : FnKind} {n : Nat} (h : i.function = some (f, n)) (hn : n < f.number) : Statement i :=
  fun _ p hp => by rw [h] at hp; cases hp; exact hn

theorem tickBoundary (obs : TickObs) : Statement (.tickBoundary obs) := of_none rfl
theorem refQualifyDone (d : DoorNo) (ppm : Nat) (dev : Nat) : Statement (.refQualifyDone d ppm dev) := of_none rfl
theorem xchkRetry (d : DoorNo) : Statement (.xchkRetry d) := of_none rfl
theorem spreadCheckDone (d : DoorNo) (dev : Nat) : Statement (.spreadCheckDone d dev) := of_none rfl
theorem xchkWindow (ppm0 : Int) (ppm1 : Int) (ppm2 : Int) (ppm3 : Int) :
    Statement (.xchkWindow ppm0 ppm1 ppm2 ppm3) := of_none rfl
theorem refMissingEdge (d : DoorNo) : Statement (.refMissingEdge d) := of_none rfl
theorem pllLocked (p : Pll) : Statement (.pllLocked p) := of_none rfl
theorem pllFault (p : Pll) : Statement (.pllFault p) := of_none rfl
theorem selReq (d : DoorNo) : Statement (.selReq d) := of_none rfl
theorem tickLoRead (d : DoorNo) (st : SubTick) : Statement (.tickLoRead d st) := of_none rfl
theorem htSet : Statement (.htSet) := of_none rfl
theorem htStep : Statement (.htStep) := of_none rfl
theorem htSlew : Statement (.htSlew) := of_none rfl
theorem slewDone : Statement (.slewDone) := of_none rfl
theorem slowclkCycle : Statement (.slowclkCycle) := of_none rfl
theorem slowclkLost (d : DoorNo) : Statement (.slowclkLost d) := of_none rfl
theorem dvfsTargetWrite (d : DoorNo) (level : Fin 4) : Statement (.dvfsTargetWrite d level) := of_none rfl
theorem dvfsSettleExpiry : Statement (.dvfsSettleExpiry) := of_none rfl
theorem vcoreTimeout : Statement (.vcoreTimeout) := of_none rfl
theorem dvfsStepDown : Statement (.dvfsStepDown) := of_none rfl
theorem supplyFault : Statement (.supplyFault) := of_none rfl
theorem sscCfgWrite (d : DoorNo) (v : Word) : Statement (.sscCfgWrite d v) := of_none rfl
theorem pinEdgeAccept (ch : ChNo) (a : Option PinMove) (b : Option PinMove) (z : Option PinMove) (st : SubTick) :
    Statement (.pinEdgeAccept ch a b z st) := of_bound rfl ch.isLt
theorem comparePulseEnd (ch : ChNo) (out : Bool) : Statement (.comparePulseEnd ch out) := of_bound rfl ch.isLt
theorem pwdTimeout (ch : ChNo) : Statement (.pwdTimeout ch) := of_bound rfl ch.isLt
theorem serialWordStart (ch : ChNo) (aHigh : Bool) : Statement (.serialWordStart ch aHigh) := of_bound rfl ch.isLt
theorem serialWordEnd (ch : ChNo) (w : SerialRead) (st : SubTick) : Statement (.serialWordEnd ch w st) := of_bound rfl ch.isLt
theorem serialTimeout (ch : ChNo) (raw : BitVec 41) : Statement (.serialTimeout ch raw) := of_bound rfl ch.isLt
theorem strokeRecord (ch : ChNo) : Statement (.strokeRecord ch) := of_bound rfl ch.isLt
theorem latchPosRead (d : DoorNo) (ch : ChNo) : Statement (.latchPosRead d ch) := of_bound rfl ch.isLt
theorem trackerStall (w : WheelNo) : Statement (.trackerStall w) := of_bound rfl w.isLt
theorem resync (w : WheelNo) : Statement (.resync w) := of_bound rfl w.isLt
theorem autoResync (w : WheelNo) : Statement (.autoResync w) := of_bound rfl w.isLt
theorem corrLearn (w : WheelNo) : Statement (.corrLearn w) := of_bound rfl w.isLt
theorem corrSwapCmd (w : WheelNo) : Statement (.corrSwapCmd w) := of_bound rfl w.isLt
theorem corrClear (w : WheelNo) : Statement (.corrClear w) := of_bound rfl w.isLt
theorem corrAbort (w : WheelNo) : Statement (.corrAbort w) := of_bound rfl w.isLt
theorem learnDone (w : WheelNo) : Statement (.learnDone w) := of_bound rfl w.isLt
theorem angleRead (d : DoorNo) (w : WheelNo) (st : SubTick) : Statement (.angleRead d w st) := of_bound rfl w.isLt
theorem stageWrite (d : DoorNo) (sp : Space) (off : BitVec 24) (v : StageDword) :
    Statement (.stageWrite d sp off v) := of_none rfl
theorem stageDiscard (d : DoorNo) (off : BitVec 24) : Statement (.stageDiscard d off) := of_none rfl
theorem commitIssue (d : DoorNo) (off : BitVec 24) (v : Word) : Statement (.commitIssue d off v) := of_none rfl
theorem commitApply : Statement (.commitApply) := of_none rfl
theorem pgCommitRead (d : DoorNo) (off : BitVec 24) : Statement (.pgCommitRead d off) := of_none rfl
theorem resultRead (d : DoorNo) (h : Handle) : Statement (.resultRead d h) := of_none rfl
theorem placementPromote (c : CoachNo) : Statement (.placementPromote c) := of_none rfl
theorem mapSwitch (ecc : List EccFinding) : Statement (.mapSwitch ecc) := of_none rfl
theorem twinRecreate : Statement (.twinRecreate) := of_none rfl
theorem compact (d : DoorNo) (level : Fin 3) : Statement (.compact d level) := of_none rfl
theorem compactDone : Statement (.compactDone) := of_none rfl
theorem evac (d : DoorNo) (c : CoachNo) : Statement (.evac d c) := of_none rfl
theorem evacDone : Statement (.evacDone) := of_none rfl
theorem test (d : DoorNo) (c : CoachNo) : Statement (.test d c) := of_none rfl
theorem testDone (passed : Bool) : Statement (.testDone passed) := of_none rfl
theorem restore (d : DoorNo) (c : CoachNo) : Statement (.restore d c) := of_none rfl
theorem peekRead (d : DoorNo) (ecc : Option Bool) : Statement (.peekRead d ecc) := of_none rfl
theorem handleLocRead (d : DoorNo) : Statement (.handleLocRead d) := of_none rfl
theorem bringup (l : LinkNo) : Statement (.bringup l) := of_bound rfl l.isLt
theorem linkStop (l : LinkNo) : Statement (.linkStop l) := of_bound rfl l.isLt
theorem mgmtTx (l : LinkNo) : Statement (.mgmtTx l) := of_bound rfl l.isLt
theorem sreqPromote (l : LinkNo) : Statement (.sreqPromote l) := of_bound rfl l.isLt
theorem upFrameReceive (l : LinkNo) (endB : Bool) (age : Fin 256) (f : UpFrame) :
    Statement (.upFrameReceive l endB age f) := of_bound rfl l.isLt
theorem cableBreak (l : LinkNo) (b : BreakFinding) : Statement (.cableBreak l b) := of_bound rfl l.isLt
theorem heal (l : LinkNo) : Statement (.heal l) := of_bound rfl l.isLt
theorem comparatorTransition (ch : DrvNo) (sense : Nat) (st : SubTick) :
    Statement (.comparatorTransition ch sense st) := of_bound rfl ch.isLt
theorem regPeriodStart (ch : DrvNo) : Statement (.regPeriodStart ch) := of_bound rfl ch.isLt
theorem blankEnd (ch : DrvNo) : Statement (.blankEnd ch) := of_bound rfl ch.isLt
theorem driveEventStart (ch : DrvNo) : Statement (.driveEventStart ch) := of_bound rfl ch.isLt
theorem driveEventEnd (ch : DrvNo) : Statement (.driveEventEnd ch) := of_bound rfl ch.isLt
theorem dutyCut (ch : DrvNo) : Statement (.dutyCut ch) := of_bound rfl ch.isLt
theorem dutyBinRoll (ch : DrvNo) : Statement (.dutyBinRoll ch) := of_bound rfl ch.isLt
theorem cmpClr (ch : DrvNo) : Statement (.cmpClr ch) := of_bound rfl ch.isLt
theorem dipWindowEnd (ch : DrvNo) : Statement (.dipWindowEnd ch) := of_bound rfl ch.isLt
theorem lastEndRead (d : DoorNo) (ch : DrvNo) : Statement (.lastEndRead d ch) := of_bound rfl ch.isLt
theorem adcDataLatch (u : AdcNo) (raw : BitVec 10) : Statement (.adcDataLatch u raw) := of_bound rfl u.isLt
theorem adcRestart (u : AdcNo) : Statement (.adcRestart u) := of_bound rfl u.isLt
theorem calZero (u : AdcNo) : Statement (.calZero u) := of_bound rfl u.isLt
theorem calFull (u : AdcNo) : Statement (.calFull u) := of_bound rfl u.isLt
theorem calDone (u : AdcNo) : Statement (.calDone u) := of_bound rfl u.isLt
theorem adcDataRead (d : DoorNo) (u : AdcNo) : Statement (.adcDataRead d u) := of_bound rfl u.isLt
theorem epochTickMarker : Statement (.epochTickMarker) := of_none rfl
theorem overflowWindow (cls : Fin 8) (beyond : Nat) (first : Nat) (last : Nat) :
    Statement (.overflowWindow cls beyond first last) := of_none rfl
theorem provCartFlush : Statement (.provCartFlush) := of_none rfl
theorem registerWrite (d : DoorNo) (off : BitVec 24) (v : Quad) (form : WriteForm) :
    Statement (.registerWrite d off v form) := of_none rfl
theorem doorLinkUp (d : DoorNo) (cfg : LinkUp) : Statement (.doorLinkUp d cfg) := of_none rfl
theorem doorPerst (d : DoorNo) : Statement (.doorPerst d) := of_none rfl
theorem doorFlr (d : DoorNo) : Statement (.doorFlr d) := of_none rfl
theorem doorHotReset (d : DoorNo) : Statement (.doorHotReset d) := of_none rfl
theorem doorLinkLoss (d : DoorNo) : Statement (.doorLinkLoss d) := of_none rfl
theorem heartbeat (d : DoorNo) (p : DoorNo) : Statement (.heartbeat d p) := of_none rfl
theorem hbWarn (d : DoorNo) : Statement (.hbWarn d) := of_none rfl
theorem heartbeatTimeout (d : DoorNo) : Statement (.heartbeatTimeout d) := of_none rfl
theorem cplTimeout (d : DoorNo) : Statement (.cplTimeout d) := of_none rfl
theorem doorShut (d : DoorNo) (p : DoorNo) : Statement (.doorShut d p) := of_none rfl
theorem doorRelease (d : DoorNo) (p : DoorNo) : Statement (.doorRelease d p) := of_none rfl
theorem doorShutterEffect (d : DoorNo) : Statement (.doorShutterEffect d) := of_none rfl
theorem doorD3hot (d : DoorNo) : Statement (.doorD3hot d) := of_none rfl
theorem doorD0Return (d : DoorNo) : Statement (.doorD0Return d) := of_none rfl
theorem irqGroupRelease (g : Fin 64) : Statement (.irqGroupRelease g) := of_none rfl
theorem irqCoalesceRelease (g : Fin 64) : Statement (.irqCoalesceRelease g) := of_none rfl
theorem irqDeliver (src : SrcNo) (d : DoorNo) : Statement (.irqDeliver src d) := of_none rfl
theorem irqClaim (d : DoorNo) (v : BitVec 10) : Statement (.irqClaim d v) := of_none rfl
theorem irqEoi (d : DoorNo) (src : SrcNo) : Statement (.irqEoi d src) := of_none rfl
theorem irqExit (src : SrcNo) : Statement (.irqExit src) := of_none rfl
theorem ringEnable (d : DoorNo) (size : Fin 16) : Statement (.ringEnable d size) := of_none rfl
theorem srcCfgWrite (d : DoorNo) (v : Word) : Statement (.srcCfgWrite d v) := of_none rfl
theorem grpCfgWrite (d : DoorNo) (time : Bool) (v : Word) : Statement (.grpCfgWrite d time v) := of_none rfl
theorem srcStatRead (d : DoorNo) : Statement (.srcStatRead d) := of_none rfl
theorem timerLoad (t : TmrNo) : Statement (.timerLoad t) := of_bound rfl t.isLt
theorem captureRead (d : DoorNo) (t : TmrNo) : Statement (.captureRead d t) := of_bound rfl t.isLt
theorem dmaStart (d : DoorNo) (c : DmaNo) : Statement (.dmaStart d c) := of_bound rfl c.isLt
theorem dmaBurstDone (c : DmaNo) (len : Fin 257) (src : List Byte) (dst : List Byte) :
    Statement (.dmaBurstDone c len src dst) := of_bound rfl c.isLt
theorem dmaBusError (c : DmaNo) (side : BusSide) (kind : BusKind) : Statement (.dmaBusError c side kind) := of_bound rfl c.isLt
theorem dmaAbort (d : DoorNo) (c : DmaNo) : Statement (.dmaAbort d c) := of_bound rfl c.isLt
theorem aonPowerUp : Statement (.aonPowerUp) := of_none rfl
theorem mainPowerUp : Statement (.mainPowerUp) := of_none rfl
theorem rstAssert : Statement (.rstAssert) := of_none rfl
theorem rstRelease (prof : Fin 8) : Statement (.rstRelease prof) := of_none rfl
theorem preambleRead (density : Option (Fin 64)) : Statement (.preambleRead density) := of_none rfl
theorem selftestDone (r : BistResult) : Statement (.selftestDone r) := of_none rfl
theorem loadComplete : Statement (.loadComplete) := of_none rfl
theorem run : Statement (.run) := of_none rfl
theorem stop : Statement (.stop) := of_none rfl
theorem stopComplete : Statement (.stopComplete) := of_none rfl
theorem load : Statement (.load) := of_none rfl
theorem switch : Statement (.switch) := of_none rfl
theorem switchPrepared : Statement (.switchPrepared) := of_none rfl
theorem switchArm : Statement (.switchArm) := of_none rfl
theorem wheelSwitch (w : WheelNo) : Statement (.wheelSwitch w) := of_bound rfl w.isLt
theorem standby : Statement (.standby) := of_none rfl
theorem drainEnd : Statement (.drainEnd) := of_none rfl
theorem deviceResetCmd : Statement (.deviceResetCmd) := of_none rfl
theorem wakeTimer : Statement (.wakeTimer) := of_none rfl
theorem wakeIn : Statement (.wakeIn) := of_none rfl
theorem wakePerst (d : DoorNo) : Statement (.wakePerst d) := of_none rfl
theorem flashRead (d : DoorNo) : Statement (.flashRead d) := of_none rfl
theorem flashProgram (d : DoorNo) : Statement (.flashProgram d) := of_none rfl
theorem flashErase4k (d : DoorNo) : Statement (.flashErase4k d) := of_none rfl
theorem flashErase64k (d : DoorNo) : Statement (.flashErase64k d) := of_none rfl
theorem flashDone (timedOut : Bool) : Statement (.flashDone timedOut) := of_none rfl
theorem burnKey (d : DoorNo) : Statement (.burnKey d) := of_none rfl
theorem burnSigreq (d : DoorNo) : Statement (.burnSigreq d) := of_none rfl
theorem faultReport (r : FaultReport) : Statement (.faultReport r) := of_none rfl
theorem lockstep (f : FnKind) (n : Fin 64) : Statement (.lockstep f n) := fun h _ hp => by cases hp; exact of_decide_eq_true h
theorem gateReadback (ch : DrvNo) : Statement (.gateReadback ch) := of_bound rfl ch.isLt
theorem refMon (u : AdcNo) : Statement (.refMon u) := of_bound rfl u.isLt
theorem noFrames (l : LinkNo) : Statement (.noFrames l) := of_bound rfl l.isLt
theorem doorPath (d : DoorNo) : Statement (.doorPath d) := of_none rfl
theorem fmPair : Statement (.fmPair) := of_none rfl
theorem hostShutter (f : FnKind) (n : Fin 64) :
    Statement (.hostShutter f n) := fun h _ hp => by cases hp; exact of_decide_eq_true h
theorem shutterRelease (f : FnKind) (n : Fin 64) (sound : Bool) :
    Statement (.shutterRelease f n sound) := fun h _ hp => by cases hp; exact of_decide_eq_true h
theorem domainMonitorTrip (dom : Fin 16) (cause : DomCause) : Statement (.domainMonitorTrip dom cause) := of_none rfl
theorem deviceHostShutter : Statement (.deviceHostShutter) := of_none rfl
theorem coreAliveTimeout : Statement (.coreAliveTimeout) := of_none rfl
theorem ledgerRelease (k : Fin 6) (w : WheelNo) : Statement (.ledgerRelease k w) := of_none rfl
theorem logInfoRead (d : DoorNo) : Statement (.logInfoRead d) := of_none rfl
theorem failoverComplete : Statement (.failoverComplete) := of_none rfl
theorem bringupEnd (l : LinkNo) (f : BringupFinding) : Statement (.bringupEnd l f) := of_bound rfl l.isLt
theorem slowclkReturn (d : DoorNo) : Statement (.slowclkReturn d) := of_none rfl
theorem mainPowerLoss : Statement (.mainPowerLoss) := of_none rfl
theorem aonPowerLoss : Statement (.aonPowerLoss) := of_none rfl
theorem driveRetirement : Statement (.driveRetirement) := of_none rfl
theorem driveRetirementEnd : Statement (.driveRetirementEnd) := of_none rfl
theorem volumeScrub : Statement (.volumeScrub) := of_none rfl
theorem volumeScrubEnd : Statement (.volumeScrubEnd) := of_none rfl

end Laws.Wf

end Sys2Proof
end

