-- ==== Sys2Proof/Machine/Pins.lean ====
section
/-! DEFINITION. What the device shows at its pins and to configuration requests in each device state (R354, R372, R373, Table 14-10). -/

namespace Sys2Proof.Machine

/-- What the device does at a pin. -/
inductive Pad where
  /-- Nothing drives the pin, and nothing pulls it. -/
  | undriven
  /-- Not driven, with the internal pull-down. -/
  | pullDown
  /-- Not driven, with the internal pull-up. -/
  | pullUp
  /-- Driven to a level. -/
  | driven (high : Bool)
deriving DecidableEq, Repr

/-- "Main off": OFF, STANDBY and a main domain without power (R372). -/
def State.mainOff (s : State) : Bool := decide (s.devState ≤ 1) || !s.power.mainOn

/-- A pin of the main domain: undriven while it is off, `reset` in RESET, `on` from QUALIFY on. -/
def State.mainPad (s : State) (reset on : Pad) : Pad :=
  if s.mainOff then .undriven else if s.devState = 2 then reset else on

/-- The level of a local output from QUALIFY on: that of the I/O ring while it holds, the safe level until READY, LOC.G at SAFE once an
endpoint byte is loaded, and then the resolved level; a gate is the drive stage's. -/
def State.outputHigh (s : State) (a : Nat) : Bool :=
  if s.flt.ioSafe ∨ s.devState < 7 then s.safePin a
  else if epIsDrive a then s.bit (Reg.DRV.STAT.GATE (epChan a))
  else (s.ep a).level

/-- A GATE_n, LOC.Q or LOC.G output. -/
def State.outputPad (s : State) (a : Nat) : Pad := s.mainPad .pullDown (.driven (s.outputHigh a))

/-- Pin B of an input channel at an instant of the current tick: an input until the profile sets a serial mode, then the clock of R91. -/
def State.bPad (s : State) (ch t : Nat) : Pad :=
  s.mainPad .undriven (if (s.inpCh ch).mode == 4 || (s.inpCh ch).mode == 5 then .driven (s.serClock ch t) else .undriven)

/-- VID[2:0]: the code of P2 in RESET, then what the sequencer drives; none while undriven. -/
def State.vidPins (s : State) : Option Nat :=
  if s.mainOff then none else if s.devState = 2 then some 2 else some (s.get Reg.PWR.VCORE_STAT.VID_OUT)

/-- QSPI_CS_N of a flash that is not selected. -/
def State.qspiCsPad (s : State) : Pad := s.mainPad .pullUp (.driven true)

/-- REFOUT0 and REFOUT1 run from QUALIFY on where they are enabled (R75). -/
def State.refoutOn (s : State) (k : Nat) : Bool :=
  !s.mainOff && decide (3 ≤ s.devState) && s.bit (if k = 0 then Reg.CLK.SSC_CFG.EN0 else Reg.CLK.SSC_CFG.EN1)

/-- STG0_PERST_N and STG1_PERST_N until the recorder starts the drives in LOAD; none from LOAD on, which a chapter that the spec does not
hold decides. -/
def State.storagePad (s : State) : Option Pad :=
  if s.mainOff then some .undriven else if s.devState ≤ 4 then some (.driven false) else none

/-- WAKE# of a door sinks (R321, R320); released otherwise. -/
def State.wakeSinks (s : State) (d : Nat) : Bool := s.devState != 2 && (s.door d).wake

/-- What a configuration request of a door is answered: Configuration Request Retry Status (none) until the device leaves QUALIFY
(R354). -/
def State.configAnswer (s : State) : Option PcieFunction := if s.devState ≤ 3 then none else some s.pcieFunction

end Sys2Proof.Machine
end

