-- ==== Sys2Proof/Tests/Slice0.lean ====
section
/-! SUPPORT. The model's own tests: small states built by helpers, sanity values of the spec, ill-formed commands
that the check refuses, and for every statement with hypotheses a witness that meets each clause's hypotheses
together. -/

open Sys2Proof Sys2Proof.Machine



namespace Sys2Proof.Tests

set_option Elab.async false
set_option linter.unusedVariables false

/-- A device with the tick running in a state of GLB DEV_STATE, doors 0 and 1 UP, every door and page in compartment 0. -/
def live (n : Nat) : State :=
  { State.reset with
    tick := 1000, clk := { Clk.reset with running := true }, power := { Power.reset with rstN := true }
    regs := [(0x44, BitVec.ofNat 32 n), (0x48, 5), (0x150048, 1), (0x151048, 1)] }

/-- The same with fields given values. -/
def puts (s : State) (l : List (FieldRef × Nat)) : State := l.foldl (fun s e => s.put e.1 e.2) s
/-- Field values over a live device. -/
def dev (n : Nat) (l : List (FieldRef × Nat)) : State := puts (live n) l
/-- The same after a load: provenance carts are written. -/
def loaded (s : State) : State := { s with recd := { s.recd with loadTick := some 5 } }
/-- The same with its power and profile state. -/
def powered (n : Nat) (p : Power) (l : List (FieldRef × Nat)) : State := { dev n l with power := p }
/-- The same with doors. -/
def withDoors (s : State) (l : Sparse Door) : State := { s with doors := l }
/-- The same with a fabric. -/
def withFabric (s : State) (f : Fabric) : State := { s with fabric := f }
/-- The same with a clock in another condition. -/
def withClk (s : State) (f : Clk → Clk) : State := { s with clk := f s.clk }

/-- Power with RST_N released. -/
def up : Power := { Power.reset with rstN := true }
/-- An E slot of tracker 3 at LOC.Q3 with PROT 1. -/
def eSlot : Slot := { Slot.reset with w := [0x02000419, 1, 2, 500, 100, 1000, 0x20083] }
/-- A tooth-mode channel. -/
def tooth (c : InpCh) : State :=
  { dev 8 [(Reg.INP.CFG.MODE 2, 1), (Reg.INP.COUNT_MOD.MOD 2, 60), (Reg.INP.COUNT_NOW.COUNT 2, 59), (Reg.INP.FILT.N_A 2, 7)] with
    inp := [(2, { c with mode := 1 })] }
/-- A BiSS word in progress. -/
def word : SerWord := ⟨127000, 127000, some 128128, none, 0, 0, true, 12, false, false, 30, -16⟩
/-- A serial channel whose PERIOD divides the current boundary. -/
def serial (c : InpCh) : State :=
  { dev 8 [(Reg.INP.CFG.MODE 2, 4), (Reg.INP.SER_TIMING.PERIOD 2, 500), (Reg.INP.SER_CFG.BITS 2, 12),
      (Reg.INP.COUNT_MOD.MOD 2, 100)] with inp := [(2, { c with mode := 4 })] }
/-- A tracker in a state, with a prediction. -/
def track (n st : Nat) (l : List (FieldRef × Nat)) : State :=
  { dev n ([(Reg.WHL.CFG.POS_M1 3, 59), (Reg.WHL.STAT.STATE 3, st), (Reg.WHL.STALL.STALL_TO 3, 100)] ++ l) with
    trk := [(3, { Tracker.reset with pred := some ⟨3, 127000, 500, false, true, 5, [], false⟩, stallFrom := 890 })] }
/-- A correction shadow in a state. -/
def corr (st : Nat) (l : List (FieldRef × Nat)) (sum : Sparse Int) : State :=
  { dev 8 ([(Reg.WHL.CORR_STAT.STATE 3, st), (Reg.WHL.CORR_STAT.REVS_DONE 3, 4), (Reg.WHL.CORR_CTL.LEARN_REVS 3, 4)] ++ l) with
    trk := [(3, { Tracker.reset with learnSum := sum })] }
/-- A commit of one dword of the recorder's page. -/
def recCommit (v : Word) : Commit := ⟨1, page .recorder 0, 1001, true, [⟨false, page .recorder 0 + 0x40, v, 0xFFFFFFFF⟩], true, [], []⟩
/-- A commit of one word of slot 500. -/
def slotCommit (k : Nat) (v m : Word) : Commit := ⟨1, page .scn 0, 1001, true, [⟨true, 500 * 32 + k * 4, v, m⟩], true, [], []⟩
/-- A live slot with its twins. -/
def twins (l : List Commit) : State :=
  { live 8 with commits := l, slots := [(500, eSlot)]
                fabric := { Fabric.reset with carr := [(300, ⟨1, 500, 3, false⟩), (69900, ⟨2, 500, 3, false⟩)] } }
/-- Sources in HELD, SENT and CLAIMED. -/
def srcs : Sparse Src :=
  [(66, { Src.reset with cfg := 0xBC000000, held := 0x3C500407, state := 1, out := 3, due := 2, assert := 900 }),
   (67, { Src.reset with cfg := 0xBC100003, held := 0xBC100003, state := 2, out := 1, due := 2, assert := 903, msgVec := [3, 7, 7, 7] }),
   (68, { Src.reset with cfg := 0x90000000, state := 3, claimer := 1, assert := 900 }),
   (69, { Src.reset with cfg := 0x91000000, held := 0x91000000, state := 3, assert := 900, exitAt := some 1000 })]
/-- Door 1 in a state, with its record and the sources. -/
def door1 (st : Nat) (x : Door) (l : List (FieldRef × Nat)) : State :=
  { dev 7 ([(Reg.DOR.DOOR_STAT.STATE 1, st), (Reg.GLB.DOOR_STATE.STATE, 1 + 4 * st), (Reg.DOR.HB_PERIOD.PERIOD 1, 100),
      (Reg.GLB.COMP_CFG.ADMIN 0, 15)] ++ l) with doors := [(1, x)], irq := ⟨srcs, [], [], []⟩ }
/-- A door that has selected source 67 and group 1. -/
def selects : Door := { Door.reset with sel := [(0xF0040, 67), (0xF0054, 1)] }
/-- A copy between the hosts of doors 0 and 1 on channel 31. -/
def dma (st : Nat) (x : Dma) (l : List (FieldRef × Nat)) : State :=
  { dev 7 ([(Reg.DMA.STATUS.STATE 31, st), (Reg.DMA.SRC_LO.ADDR 31, 0x1000), (Reg.DMA.DST_LO.ADDR 31, 0x2000),
      (Reg.DMA.COUNT.BYTES 31, 16), (Reg.DMA.CFG.SRC_SPACE 31, 4), (Reg.DMA.CFG.DST_SPACE 31, 5), (Reg.DMA.CFG.SRC_INC 31, 1),
      (Reg.DMA.CFG.DST_INC 31, 1)] ++ l) with dma := [(31, x)] }
/-- Its working copy with 8 of 16 bytes done, RETRY 1. -/
def copy8 : Dma := ⟨0x1000, 0x2000, 16, 0x45C10000, 0, 0, 8, 0, 990, false⟩
/-- A conversion in hand on unit 3. -/
def adc (c : Option Conv) (k : Option Calib) (l : List (FieldRef × Nat)) : State :=
  { dev 8 ([(Reg.ADC.CAL.Z16 3 9, 672), (Reg.ADC.CAL.F16 3 9, 16032), (Reg.ADC.SEQ.DRQ 3 4, 1), (Reg.ADC.SEQ.WIN_EN 3 4, 1)] ++ l) with
    adc := [(3, { Adc.reset with conv := c, cal := k })] }
/-- A drive event of channel 5 from sub-tick 20 of the current tick. -/
def event : DEvent := ⟨1000 * 128 + 20, true, 100, 10⟩
/-- Its pass, requested up to sub-tick 90. -/
def dpass : DPass :=
  ⟨500, ⟨1000 * 128 + 20, 1000 * 128 + 20, some (1000 * 128 + 90), false, none, 0, 1, 3, 1, 0, 0, none, 0, false, true⟩, 1,
    some (1000 * 128 + 20), 0, 1000, false⟩
/-- Drive channel 5. -/
def drive5 (x : Drv) (l : List (FieldRef × Nat)) : State :=
  { dev 8 ([(Reg.DRV.DUTY.W_MS 5, 100), (Reg.DRV.DUTY.DUTY_PM 5, 1000)] ++ l) with drv := [(5, x)] }
/-- The event in progress, with its next period start and end of blanking. -/
def running (period : Nat) (blank : Option Nat) (l : List (FieldRef × Nat)) : State :=
  drive5 { Drv.reset with event := some event, periodAt := period, blankTo := blank, passes := [dpass] } l
/-- A link command of the sample queue. -/
def lcmd (e : Nat) : LCmd := ⟨e, 0x3005, 0, 5, 500, 900, false⟩
/-- Link 3 in a state. -/
def link3 (st : Nat) (l : List (FieldRef × Nat)) : State :=
  { dev 7 ([(Reg.LNK.STAT.STATE 3, st), (Reg.LNK.CFG.L 3, 100), (Reg.LNK.CFG.MINLEAD 3, 2), (Reg.LNK.MGMT_TX_A.OPCODE 3, 65),
      (Reg.LNK.REC_CFG.STAT_EN 3, 0)] ++ l) with
    lnk := [(3, { Lnk.reset with sample := [lcmd 3, lcmd 5], nodes := [(3, ⟨some 5, none, some 255, 0, 1⟩)] })] }
/-- Link 3 in a step of bring-up, with two nodes present. -/
def stepping (st : Nat) : State :=
  { link3 st [(Reg.LNK.PRESENT_LO.MASK 3, 40)] with lnk := [(3, Lnk.reset)] }
/-- The answers of two nodes in RING. -/
def answers : List NodeFinding := [⟨5, some 900, 100, some 900, 200⟩, ⟨3, some 1000, 100, some 700, 200⟩]
/-- An UP frame that carries a cell. -/
def upFrame (c : List Byte) : List Symbol := frameSymbols commaUp (0 :: c)
/-- Carriages of a slot. -/
def fab : Fabric := { Fabric.reset with carr := [(300, ⟨1, 500, 3, false⟩), (69900, ⟨2, 500, 3, false⟩)] }
/-- Every coach shuttered. -/
def noCoach : Sparse Coach := (List.range 2048).map (fun c => (c, { Coach.reset with state := 4 }))
/-- One coach. -/
def coach7 (st cause : Nat) (tested : Bool) (wait : Option Nat) : Fabric :=
  { Fabric.reset with coach := [(7, { Coach.reset with state := st, cause := cause, tested := tested, waitFrom := wait })] }
/-- The placement engine in a state with an argument. -/
def plc (st arg : Nat) (l : List (FieldRef × Nat)) (f : Fabric) : State :=
  withFabric (dev 7 ([(Reg.PLC.STAT.STATE, st), (Reg.PLC.STAT.ARG, arg)] ++ l)) f
/-- The ledger's queue. -/
def queued (l : List Held) (f : List (FieldRef × Nat)) : State := { dev 7 f with flt := { Flt.reset with queue := l } }
/-- A page held shuttered for a cause. -/
def shut (b : Block) (n cause : Nat) : State :=
  { dev 7 [(Reg.HEAD.PG_SHUTTER.SHUT (page b n), 1)] with flt := { Flt.reset with pageCause := [(page b n, cause)] } }
/-- A number as k bytes, low byte first. -/
def bytes (n k : Nat) : List Byte := (List.range k).map (fun i => BitVec.ofNat 8 (n / 256 ^ i))
/-- A profile image with PRE alone: Table 14-4, Table 14-5 and the CRC of R362. -/
def image : List Byte :=
  let b := ([(0x5036584A, 4), (1, 2), (64, 2), (84, 4), (77, 4), (3, 4), (3, 2), (0, 2), (2, 1), (0, 1), (0x1234, 2), (1, 4), (0, 32),
    (1, 2), (0xFF, 1), (0, 1), (12, 4), (0x030201, 4), (0x00640010, 4), (1, 4)] : List (Nat × Nat)).flatMap (fun e => bytes e.1 e.2)
  b ++ bytes (crc32c b) 4
/-- A device with that image as copy A of profile 0. -/
def flashed (n : Nat) (p : Power) (l : List (FieldRef × Nat)) : State :=
  { powered n p ([(Reg.PRF.FL_INFO.VALID, 1), (Reg.PRF.FL_INFO.DENSITY, 26)] ++ l) with
    flash := ((image.zipIdx.filter (fun e => e.1 != 0xFF)).map (fun e => (e.2, e.1))) }
/-- The copy taken there. -/
def taken : ProfImage := (((flashed 5 up []).chooseCopy 0).getD (0, ⟨0, 0, 0, 0, 0, []⟩)).2
/-- A switch to a profile. -/
def switch (prof arm : Nat) (ready : Bool) : Switch := ⟨prof, 900, arm, ready, []⟩
/-- A device in a switch. -/
def switching (w : Switch) (l : List (FieldRef × Nat)) : State := powered 8 { up with sw := some w } ([(Reg.PRF.STAT.SW_STATE, 2)] ++ l)
/-- A flash operation about to be asked, or in progress. -/
def flashing (op : Option (Nat × Nat)) (at_ : Nat) : State :=
  powered 7 { up with flOp := op } [(Reg.PRF.FL_ADDR.ADDR, at_), (Reg.PRF.FL_INFO.VALID, 1), (Reg.PRF.FL_INFO.DENSITY, 27)]
/-- References qualified and PLL A locked. -/
def locked (n : Nat) (l : List (FieldRef × Nat)) : State :=
  dev n ([(Reg.CLK.REF_STAT.STATES, 0x0022), (Reg.CLK.PLL_STAT.A_STATE, 2)] ++ l)
/-! ### Well-formedness: an ill-formed command for each check, refused -/

/-- A tick's observations with nothing in them. -/
def quietObs : TickObs := ⟨true, [], [], [], []⟩
/-- The same with parity errors of given functions. -/
def parityAt (l : List (FnKind × Fin 64)) : TickObs := { quietObs with parity := l }

theorem test_wf_parity_of_absent_function : Instr.wf (.tickBoundary (parityAt [(.adc, 8)])) = false := by decide
theorem test_wf_parity_of_last_function : Instr.wf (.tickBoundary (parityAt [(.adc, 7), (.dma, 31)])) = true := by decide
theorem test_wf_empty_unit : Instr.wf (.tickBoundary { quietObs with store := [.unit 0 false 0 0 0] }) = false := by decide
theorem test_wf_short_frame : Instr.wf (.upFrameReceive 0 false 0 (.received [.violation])) = false := by decide
theorem test_wf_whole_frame : Instr.wf (.upFrameReceive 0 false 0 (.received (List.replicate 25 (.data 0)))) = true := by decide
theorem test_wf_node_found_twice : Instr.wf (.bringupEnd 0 (.enumerate 2 [(5, false), (5, true)])) = false := by decide
theorem test_wf_node_answers_twice :
    Instr.wf (.bringupEnd 0 (.measure [⟨5, none, 0, none, 0⟩, ⟨5, some 1, 0, none, 0⟩])) = false := by decide
theorem test_wf_bist_of_absent_function : Instr.wf (.selftestDone ⟨[], [], false, [(.lnk, 16)]⟩) = false := by decide
theorem test_wf_burst_without_its_bytes : Instr.wf (.dmaBurstDone 0 4 [1, 2, 3] []) = false := by decide
theorem test_wf_burst : Instr.wf (.dmaBurstDone 0 2 [1, 2] []) = true := by decide
theorem test_wf_empty_overflow : Instr.wf (.overflowWindow 0 0 5 6) = false := by decide
theorem test_wf_overflow_backwards : Instr.wf (.overflowWindow 0 1 6 5) = false := by decide
theorem test_wf_lockstep_absent : Instr.wf (.lockstep .whl 48) = false := by decide
theorem test_wf_shutter_absent : Instr.wf (.hostShutter .tmr 32) = false := by decide
theorem test_wf_release_absent : Instr.wf (.shutterRelease .inp 48 true) = false := by decide
theorem test_wf_cause_absent : causeWf 0x08 = false ∧ causeWf 0x31 = false ∧ causeWf 0x44 = false ∧ causeWf 0x43 = true := by decide
theorem test_wf_standstill_reference : Instr.wf (.xchkWindow (-1000000) 0 0 0) = false := by decide

/-! ### The table gives no row any bits -/

theorem test_no_word_spells_a_command : decodeTableWord 32 0xFFFFFFFF = none := rfl
theorem test_with_fetch_word_changes_nothing : State.reset.withFetchWord 32 5 = State.reset := rfl

/-! ### Numbers printed in the spec -/

/-- R362. -/
theorem test_crc32c_check_value : crc32c [0x31, 0x32, 0x33, 0x34, 0x35, 0x36, 0x37, 0x38, 0x39] = 0xE3069283 := by decide +kernel
/-- R209 with the CRC-16's well-known check string. -/
theorem test_crc16_check_value : crc16 [0x31, 0x32, 0x33, 0x34, 0x35, 0x36, 0x37, 0x38, 0x39] = 0x29B1 := by decide +kernel
/-- SHA-256 of "abc", the example of FIPS 180-4 (R363 names the algorithm). -/
theorem test_sha256_abc : sha256 [0x61, 0x62, 0x63] =
    0xBA7816BF8F01CFEA414140DE5DAE2223B00361A396177A9CB410FF61F20015AD := by decide +kernel
/-- Chapter 9, the worked example: the gain of Z16 672 and F16 16 032. -/
theorem test_gain_of_the_example : gainOf 672 16032 = 17459 := by decide
/-- Table 9-3: raw codes and their calibrated codes. -/
theorem test_calibrated_codes : [880, 890, 895].map (fun r => calCode r 672 17459) = [893, 904, 909] := by decide
/-- R264: with the reset pair, a calibrated code is the raw code. -/
theorem test_reset_calibration : gainOf 0 16368 = 16384 ∧ calCode 1023 0 16384 = 1023 ∧ calCode 517 0 16384 = 517 := by decide
/-- Chapter 8, the worked example: W_MS 100 and DUTY_PM 150 give a budget of 9 600 000 st. -/
theorem test_duty_budget :
    (dev 8 [(Reg.DRV.DUTY.W_MS 5, 100), (Reg.DRV.DUTY.DUTY_PM 5, 150)]).dutyBudget 5 = 9600000 := by decide +kernel
/-- Table 2-3: host time of the event at 64 st of tick 2 000 000 100 after the step. -/
theorem test_host_time_after_the_step :
    (withClk (dev 8 []) (fun c => { c with htOfs := 1759999999999997000 * 65536 })).hostNs 2000000100 64 = 1760000400000017100 := by
  decide +kernel
/-- Table 2-4: the exact offset −4.0393 ns at tick 2 000 000 200. -/
theorem test_host_time_in_the_slew :
    (withClk (dev 8 []) (fun c => { c with htOfs := 1760000000000000000 * 65536 - 101 * 2621 })).hostNs 2000000200 0 =
      1760000400000039995 := by decide +kernel
/-- Chapter 12: WHL 0 is page 0x10 and DRV 5 page 0x95 of the source numbering, and the highest page is 0x153. -/
theorem test_pages_of_sources : page .whl 0 = 0x10 * 0x1000 ∧ page .drv 5 = 0x95 * 0x1000 ∧ page .dor 3 = 0x153 * 0x1000 := by decide
/-- R93: the Gray code of 5 is 7. -/
theorem test_gray : grayOf 7 3 = 5 := by decide

/-! ### Single steps -/

/-- A state with a command in front of its queue. -/
def fronted (s : State) (i : Instr) : State := { s with pending := i :: s.pending }

theorem test_step_idles : Machine.step State.reset = .next State.reset := rfl
theorem test_reset_does_not_tick :
    (match Machine.step (fronted State.reset (.tickBoundary quietObs)) with | .next t => t.tick == 0 && t.pending.isEmpty | _ => false) = true := by
  decide +kernel
theorem test_tick_boundary_counts :
    (match Machine.step (fronted (live 8) (.tickBoundary quietObs)) with | .next t => t.tick == 1001 | _ => false) = true := by
  decide +kernel
/-- R349: AON_VDD comes first, and the core supplies after it. -/
theorem test_supply_order_stops :
    (match exec .mainPowerUp { State.reset with power := { Power.reset with aonOn := false, mainOn := false } } with
      | .fault f => f == Fault.supplyOrder | _ => false) = true := by decide +kernel

/-- Table 14-10: GATE_0, LOC.Q1 and LOC.G2 without a main domain, in RESET and in QUALIFY; VID in RESET. -/
theorem test_pins_by_state :
    ([epDrive 0, epQ 1, epG 2].map (fun a => ((powered 1 { up with mainOn := false } []).outputPad a, (live 2).outputPad a,
      (live 3).outputPad a))) = List.replicate 3 (Pad.undriven, Pad.pullDown, Pad.driven false) ∧ (live 2).vidPins = some 2 := by
  decide +kernel
/-- R354: configuration requests are retried until the device leaves QUALIFY; Table 11-1 gives the vendor. -/
theorem test_configuration_from_selftest :
    (live 3).configAnswer = none ∧ ((live 4).configAnswer.map (fun f => f.vendor)) = some 0x1EFC := by decide +kernel

/-- A step that goes on, from a queue that is well formed, and a step that stops for the order of the supplies. -/
theorem witness_StepsKeepTheQueueAndStopForSupplies :
    (∃ s t : State, Machine.step s = .next t ∧ s.queueWf) ∧ ∃ (s : State) (f : Fault), Machine.step s = .fault f :=
  ⟨⟨State.reset, State.reset, rfl, by simp [State.queueWf, State.reset]⟩,
    ⟨{ State.reset with power := { Power.reset with aonOn := false, mainOn := false }, pending := [.mainPowerUp] }, .supplyOrder, rfl⟩⟩

/-! ### Witnesses: states and operands that meet the hypotheses of each statement, clause by clause -/

theorem witness_ReferencesAreJudged :
    (∃ (d : DoorNo) (ppm dev : Nat) (s : State), s.clockOn = true ∧ s.trefEn d = true ∧ s.refState d ≠ 2 ∧ s.refState d ≠ 5) ∧
    (∃ (d : DoorNo) (s : State), s.clockOn = true ∧ s.refState d = 5) ∧
    (∃ (d : DoorNo) (dev : Nat) (s : State), s.clockOn = true ∧ s.trefEn d = true ∧ s.get Reg.CLK.REF_CFG.SSC_THR < dev ∧
      s.refState d ≠ 3 ∧ s.refState d ≠ 2) ∧
    (∃ (d : DoorNo) (s : State), s.clockOn = true ∧ s.refState d = 2 ∧ s.pllUses 0 d = false ∧ s.pllUses 1 d = false) ∧
    (∃ (p0 p1 p2 p3 : Int) (a b : DoorNo) (s : State), s.clockOn = true ∧ a ≠ b ∧ (∀ d : DoorNo, s.qualified d = true ↔ d = a
      ∨ d = b) ∧ s.chkTol < ([p0, p1, p2, p3].getD a 0 - [p0, p1, p2, p3].getD b 0).natAbs) ∧
    (∃ (p0 p1 p2 p3 : Int) (a b c : DoorNo) (s : State), s.clockOn = true ∧ a ≠ b ∧ a ≠ c ∧ b ≠ c ∧ (∀ d : DoorNo, s.qualified
      d = true ↔ d = a ∨ d = b ∨ d = c) ∧ s.pllUses 0 a = false ∧ s.pllUses 1 a = false ∧ s.chkTol < ([p0, p1, p2, p3].getD a
      0 - [p0, p1, p2, p3].getD b 0).natAbs ∧ s.chkTol < ([p0, p1, p2, p3].getD a 0 - [p0, p1, p2, p3].getD c 0).natAbs ∧
      ([p0, p1, p2, p3].getD b 0 - [p0, p1, p2, p3].getD c 0).natAbs ≤ s.chkTol) :=
  ⟨⟨0, 5000, 0, (dev 7 [(Reg.CLK.REF_STAT.STATES, 0x0021)]), by decide +kernel⟩,
    ⟨0, (dev 7 [(Reg.CLK.REF_STAT.STATES, 0x0025)]), by decide +kernel⟩,
    ⟨0, 4000, (dev 7 [(Reg.CLK.REF_STAT.STATES, 0x0021)]), by decide +kernel⟩,
    ⟨0, (dev 7 [(Reg.CLK.REF_STAT.STATES, 0x0222)]), by decide +kernel⟩,
    ⟨0, 9000, 0, 0, 0, 1, (dev 7 [(Reg.CLK.REF_STAT.STATES, 0x0022)]), by decide +kernel⟩,
    ⟨9000, 0, 0, 0, 0, 1, 2, (dev 7 [(Reg.CLK.REF_STAT.STATES, 0x0222)]), by decide +kernel⟩⟩

theorem witness_PllsAndClockOutputs :
    (∃ (p : Pll) (s : State), s.clockOn = true ∧ s.pllState (pllNum p) = 1 ∧ s.clk.running = false) ∧
    (∃ (p : Pll) (s : State), s.clockOn = true ∧ s.clk.running = true ∧ s.pllSel = pllNum p ∧ s.pllState (pllNum p) = 2 ∧
      s.pllState (1 - pllNum p) = 2 ∧ s.bit Reg.CLK.PLL_STAT.COAST = false ∧ s.clk.failover = false) ∧
    (∃ (s : State), s.clk.failover = true) ∧
    (∃ (d : DoorNo) (s : State), s.accepts d .clk 0 0x48 ∧ s.pllState (1 - s.pllSel) = 2) ∧
    (∃ (d : DoorNo) (v : Word) (s : State), s.accepts d .clk 0 0x98) :=
  ⟨⟨.a, (withClk (dev 3 [(Reg.CLK.PLL_STAT.A_STATE, 1)]) (fun _ => Clk.reset)), by decide +kernel⟩,
    ⟨.a, (dev 8 [(Reg.CLK.PLL_STAT.A_STATE, 2), (Reg.CLK.PLL_STAT.B_STATE, 2)]), by decide +kernel⟩,
    ⟨(withClk (live 7) (fun c => { c with failover := true })), by decide +kernel⟩,
    ⟨0, (dev 8 [(Reg.CLK.PLL_STAT.A_STATE, 2), (Reg.CLK.PLL_STAT.B_STATE, 2)]), by decide +kernel⟩,
    ⟨0, 0xA355, (live 7), by decide +kernel⟩⟩

theorem witness_HostTimeMoves :
    (∃ (s : State), s.clockOn = true) ∧
    (∃ (s : State), s.clockOn = true ∧ ofsFits (s.clk.htOfs + s.htDelta * 65536) = true) ∧
    (∃ (s : State), s.clockOn = true ∧ ofsFits (s.clk.htOfs + s.htDelta * 65536) = true ∧ s.htDelta.natAbs ≤ 2 ^ 31 - 1 ∧
      s.get Reg.CLK.HT_CMD.SLEW_RATE < s.htDelta.natAbs * 65536) ∧
    (∃ (w : Slew) (s : State), s.clk.slew = some w ∧ w.due = true) :=
  ⟨⟨(live 7), by decide +kernel⟩,
    ⟨(dev 7 [(Reg.CLK.HT_DELTA_LO.DELTA, 5)]), by decide +kernel⟩,
    ⟨(dev 7 [(Reg.CLK.HT_DELTA_LO.DELTA, 0x7FFFFFFF), (Reg.CLK.HT_CMD.SLEW_RATE, 100)]), by decide +kernel⟩,
    ⟨⟨10, true, 100, 5, true, some 999⟩, (withClk (live 7) (fun c =>
      { c with slew := some ⟨10, true, 100, 5, true, some 999⟩ })), by decide +kernel⟩⟩

theorem witness_HostTimeOutOfRangeIsRefused :
    (∃ (i : Instr) (s : State), s.clockOn = true ∧ ((i = .htSet ∧ ofsFits (s.htDelta * 65536) = false ∨ i = .htStep ∧ ofsFits
      (s.clk.htOfs + s.htDelta * 65536) = false ∨ i = .htSlew ∧ (ofsFits (s.clk.htOfs + s.htDelta * 65536) = false ∨ 2 ^ 31 -
      1 < s.htDelta.natAbs)))) ∧
    (∃ (i : Instr) (s : State), s.clockOn = true ∧ ((i = .htSet ∧ ofsFits (s.htDelta * 65536) = false ∨ i = .htStep ∧ ofsFits
      (s.clk.htOfs + s.htDelta * 65536) = false ∨ i = .htSlew ∧ (ofsFits (s.clk.htOfs + s.htDelta * 65536) = false ∨ 2 ^ 31 -
      1 < s.htDelta.natAbs)))) :=
  ⟨⟨.htStep, (withClk (dev 7 [(Reg.CLK.HT_DELTA_LO.DELTA, 1)]) (fun c => { c with htOfs := (2 ^ 63 - 1) * 65536 })),
      by decide +kernel⟩,
    ⟨.htSlew, (dev 7 [(Reg.CLK.HT_DELTA_LO.DELTA, 2 ^ 31)]), by decide +kernel⟩⟩

theorem witness_SlowClockCountsAndFollows :
    (∃ (s : State), s.aonCounts = true ∧ s.bit Reg.PWR.SLOW_STAT.VALID = true) ∧
    (∃ (i : Instr) (on : Bool) (d : DoorNo) (s : State), (i = .slowclkLost d ∧ on = false) ∨ (i = .slowclkReturn d ∧ on =
      true) ∧ s.power.aonOn = true ∧ s.get Reg.PWR.SLOW_CFG.SEL < 4) ∧
    (∃ (i : Instr) (on : Bool) (d : DoorNo) (s : State), (i = .slowclkLost d ∧ on = false) ∨ (i = .slowclkReturn d ∧ on =
      true) ∧ s.power.aonOn = true ∧ 4 ≤ s.get Reg.PWR.SLOW_CFG.SEL) ∧
    (∃ (i : Instr) (on : Bool) (d : DoorNo) (s : State), (i = .slowclkLost d ∧ on = false) ∨ (i = .slowclkReturn d ∧ on =
      true) ∧ s.power.aonOn = true ∧ (on = false ∧ s.get Reg.PWR.SLOW_STAT.VALID = 1 ∧ s.get Reg.PWR.SLOW_STAT.DOOR = d ∧
      s.clockOn = true)) ∧
    (∃ (i : Instr) (on : Bool) (d : DoorNo) (s : State), (i = .slowclkLost d ∧ on = false) ∨ (i = .slowclkReturn d ∧ on =
      true) ∧ s.power.aonOn = true ∧ (on = false ∧ s.aonCounts = true)) :=
  ⟨⟨(dev 1 [(Reg.PWR.SLOW_STAT.VALID, 1)]), by decide +kernel⟩,
    ⟨(.slowclkLost 0), false, 0, (dev 7 [(Reg.PWR.SLOW_CFG.SEL, 3)]), by decide +kernel⟩,
    ⟨(.slowclkReturn 1), true, 1, (dev 7 [(Reg.PWR.SLOW_CFG.SEL, 4)]), by decide +kernel⟩,
    ⟨(.slowclkLost 0), false, 0, (dev 7 [(Reg.PWR.SLOW_STAT.VALID, 1)]), by decide +kernel⟩,
    ⟨(.slowclkLost 0), false, 0, (dev 1 [(Reg.PWR.SLOW_STAT.VALID, 1)]), by decide +kernel⟩⟩

theorem witness_DvfsTargetWriteOutcome :
    (∃ (d : DoorNo) (l : Fin 4) (s : State), s.accepts d .pwr 0 0x40 ∧ l.val < 3 ∧ s.clk.dvfs.isSome = true) ∧
    (∃ (d : DoorNo) (l : Fin 4) (s : State), s.accepts d .pwr 0 0x40 ∧ l.val < 3 ∧ (s.clk.dvfs = none ∧ s.isQueued kDvfs =
      false ∧ l.val < s.level)) ∧
    (∃ (d : DoorNo) (l : Fin 4) (s : State), s.accepts d .pwr 0 0x40 ∧ l.val < 3 ∧ (s.clk.dvfs = none ∧ s.isQueued kDvfs =
      false ∧ s.level < l ∧ s.active kEvac = false ∧ s.compactAt (levelLimit l) = true)) ∧
    (∃ (d : DoorNo) (l : Fin 4) (s : State), s.accepts d .pwr 0 0x40 ∧ l.val < 3 ∧ (s.clk.dvfs = none ∧ s.isQueued kDvfs =
      false ∧ s.level < l ∧ s.active kEvac = false ∧ s.compactAt (levelLimit l) = false)) :=
  ⟨⟨0, 1, (withClk (live 7) (fun c => { c with dvfs := some ⟨1, 0, 4, none, true⟩ })), by decide +kernel⟩,
    ⟨0, 0, (live 7), by decide +kernel⟩,
    ⟨0, 2, (dev 7 [(Reg.PWR.DVFS_STAT.LEVEL, 1)]), by decide +kernel⟩,
    ⟨0, 2, (withFabric (dev 7 [(Reg.PWR.DVFS_STAT.LEVEL, 0)]) { Fabric.reset with carr := [(64, ⟨1, 500, 3, false⟩)] }),
      by decide +kernel⟩⟩

theorem witness_DvfsTransitionEnds :
    (∃ (x : Dvfs) (b : Nat) (s : State), s.clk.dvfs = some x ∧ x.okAt = some b ∧ x.up = true ∧ x.target < 4 ∧ b + s.get
      Reg.PWR.DVFS_TIMING.V_SETTLE ≤ s.tick ∧ s.mayDivide = true) ∧
    (∃ (x : Dvfs) (s : State), s.clk.dvfs = some x ∧ x.up = false ∧ x.target < 4 ∧ x.writeTick < s.tick ∧ s.mayDivide = true) ∧
    (∃ (x : Dvfs) (s : State), s.clk.dvfs = some x ∧ x.up = true ∧ x.okAt = none ∧ x.writeTick + s.get
      Reg.PWR.DVFS_TIMING.V_TIMEOUT ≤ s.tick) :=
  ⟨⟨⟨1, 2, 900, some 950, true⟩, 950, (withClk (dev 7 [(Reg.PWR.DVFS_TIMING.V_SETTLE, 50)]) (fun c =>
      { c with dvfs := some ⟨1, 2, 900, some 950, true⟩ })), by decide +kernel⟩,
    ⟨⟨2, 1, 999, none, false⟩, (withClk (live 7) (fun c => { c with dvfs := some ⟨2, 1, 999, none, false⟩ })),
      by decide +kernel⟩,
    ⟨⟨1, 2, 900, none, true⟩, (withClk (dev 7 [(Reg.PWR.DVFS_TIMING.V_TIMEOUT, 100)]) (fun c =>
      { c with dvfs := some ⟨1, 2, 900, none, true⟩ })), by decide +kernel⟩⟩

theorem witness_ReadsCaptureTogether :
    (∃ (d : DoorNo) (st : SubTick) (s : State), s.reads d 0x1060) ∧
    (∃ (d : DoorNo) (ch : ChNo) (s : State), s.reads d (page .inp ch + 0x104)) ∧
    (∃ (d : DoorNo) (ch : DrvNo) (s : State), s.reads d (page .drv ch + 0x6C)) ∧
    (∃ (d : DoorNo) (b : Block) (n : Nat) (off : BitVec 24) (s : State), n < b.pages ∧ off.toNat = page b n ∧ s.reads d (page
      b n + 0x20)) ∧
    (∃ (d : DoorNo) (h : Handle) (s : State), s.serves d = true ∧ s.mayReadBar2 d = true) ∧
    (∃ (d : DoorNo) (s : State), s.reads d 0x7107C) ∧
    (∃ (d : DoorNo) (w : WheelNo) (st : SubTick) (q : Pred) (s : State), s.reads d (page .whl w + 0x6C) ∧ (s.tracker w).pred =
      some q) ∧
    (∃ (d : DoorNo) (s : State), s.reads d 0xF0048 ∧ sourceExists (s.selOf d 0xF0040) = true) ∧
    (∃ (d : DoorNo) (e : LogEntry) (s : State), s.reads d 0x404C ∧ s.flt.log.find (s.selOf d 0x4048) = some e) :=
  ⟨⟨0, 77, (live 7), by decide +kernel⟩,
    ⟨1, 47, (live 7), by decide +kernel⟩,
    ⟨0, 63, (live 7), by decide +kernel⟩,
    ⟨0, .whl, 3, (BitVec.ofNat 24 (page .whl 3)), (live 7), by decide +kernel⟩,
    ⟨0, 131071, (live 7), by decide +kernel⟩,
    ⟨0, (live 7), by decide +kernel⟩,
    ⟨0, 3, 100, ⟨3, 127000, 500, false, true, 5, [], false⟩, (track 8 3 []), by decide +kernel⟩,
    ⟨0, (withDoors (live 7) [(0, { Door.reset with sel := [(0xF0040, 66)] })]), by decide +kernel⟩,
    ⟨0, ⟨2, 3, 4, 2, 33, 99⟩,
      { withDoors (live 7) [(0, { Door.reset with sel := [(0x4048, 5)] })] with flt := { Flt.reset with log := [(5, ⟨2, 3, 4, 2, 33, 99⟩)] } },
      by decide +kernel⟩⟩

theorem witness_PeeksClearingAndClosedReads :
    (∃ (d : DoorNo) (s : State) (c : Carriage) (x : Slot), s.reads d 0x7007C ∧ s.inService (coachOf (s.selOf d 0x70078)) =
      true ∧ c = s.carriageSeen (s.selOf d 0x70078) ∧ c.role ≠ 0 ∧ x = s.slot c.handle) ∧
    (∃ (d : DoorNo) (ecc : Option Bool) (s : State), s.reads d 0x7007C ∧ s.inService (coachOf (s.selOf d 0x70078)) = false) ∧
    (∃ (d : DoorNo) (u : AdcNo) (s : State), s.reads d (page .adc u + 0x58)) ∧
    (∃ (d : DoorNo) (k : TmrNo) (s : State), s.reads d (page .tmr k + 0x60)) ∧
    (∃ (i : Instr) (d : DoorNo) (addr : Nat) (s : State), s.serves d = true ∧ s.mayRead d addr = false ∧ ((i = .logInfoRead d
      ∧ addr = 0x404C ∨ (∃ st, i = .tickLoRead d st ∧ addr = 0x1060) ∨ (∃ u : AdcNo, i = .adcDataRead d u ∧ addr = page .adc u
      + 0x58) ∨ (∃ k : TmrNo, i = .captureRead d k ∧ addr = page .tmr k + 0x60) ∨ (∃ e, i = .peekRead d e ∧ addr = 0x7007C)))
      ∧ True) ∧
    (∃ (i : Instr) (d : DoorNo) (addr : Nat) (s : State), s.serves d = true ∧ s.mayRead d addr = false ∧ ((i = .logInfoRead d
      ∧ addr = 0x404C ∨ (∃ st, i = .tickLoRead d st ∧ addr = 0x1060) ∨ (∃ u : AdcNo, i = .adcDataRead d u ∧ addr = page .adc u
      + 0x58) ∨ (∃ k : TmrNo, i = .captureRead d k ∧ addr = page .tmr k + 0x60) ∨ (∃ e, i = .peekRead d e ∧ addr = 0x7007C)))
      ∧ True) :=
  ⟨⟨0, (withDoors (withFabric (live 7) fab) [(0, { Door.reset with sel := [(0x70078, 300)] })]), ⟨1, 500, 3, false⟩,
      Slot.reset, by decide +kernel⟩,
    ⟨0, none, (withFabric (live 7) { Fabric.reset with coach := [(0, { Coach.reset with state := 2 })] }), by decide +kernel⟩,
    ⟨0, 7, (live 7), by decide +kernel⟩,
    ⟨0, 31, (live 7), by decide +kernel⟩,
    ⟨(.logInfoRead 0), 0, 0x404C, (live 5), ⟨by decide +kernel, by decide +kernel, .inl ⟨rfl, rfl⟩, trivial⟩⟩,
    ⟨(.tickLoRead 0 3), 0, 0x1060, (live 4), ⟨by decide +kernel, by decide +kernel, .inr (.inl ⟨3, rfl, rfl⟩), trivial⟩⟩⟩

theorem witness_ToothEdgeCountsAndIsDelivered :
    (∃ (ch : ChNo) (held first : Nat) (st : SubTick) (s : State), (s.inpCh ch).oldFilts = [] ∧ first = (s.cycleNo (s.now + st)
      - held + 4 ^ s.get (Reg.INP.FILT.FCLK ch) - 1) / 4 ^ s.get (Reg.INP.FILT.FCLK ch) * 4 ^ s.get (Reg.INP.FILT.FCLK ch)) ∧
    (∃ (ch : ChNo) (st : SubTick) (held d : Nat) (s : State), s.filterAccepts ch 0 held (s.now + st) = some d ∧ s.scanning =
      true ∧ (s.inpCh ch).mode = 1 ∧ (s.inpCh ch).a = false ∧ s.get (Reg.INP.CFG.DIRSRC ch) = 0 ∧ s.get (Reg.INP.CFG.EDGE ch)
      = 0 ∧ s.wheelClass ch = true ∧ (s.inpCh ch).ownsQ = false ∧ (s.inpCh ch).admitted < 16) ∧
    (∃ (ch : ChNo) (st : SubTick) (held d : Nat) (s : State), s.filterAccepts ch 0 held (s.now + st) = some d ∧ s.scanning =
      true ∧ (s.inpCh ch).mode = 1 ∧ (s.inpCh ch).a = false ∧ s.get (Reg.INP.CFG.DIRSRC ch) = 0 ∧ s.get (Reg.INP.CFG.EDGE ch)
      = 0 ∧ s.wheelClass ch = true ∧ (s.inpCh ch).ownsQ = false ∧ (16 ≤ (s.inpCh ch).admitted ∧ (s.inpCh ch).overflowed =
      false ∧ s.provOn = true ∧ s.recd.pinPart.length < 5)) :=
  ⟨⟨2, 5, 72, 77, (tooth InpCh.reset), by decide +kernel⟩,
    ⟨2, 77, 7, 7, (tooth InpCh.reset), by decide +kernel⟩,
    ⟨2, 77, 7, 7, (loaded (tooth { InpCh.reset with admitted := 16 })), by decide +kernel⟩⟩

theorem witness_PulsesEndInTime :
    (∃ (ch : ChNo) (out : Bool) (f : Nat) (s : State), (s.inpCh ch).pulseOf (if out then 1 else 0) = some f ∧ f ≤ s.now + 127
      ∧ (s.ep (epQ (2 * ch + (if out then 1 else 0)))).level = true) ∧
    (∃ (ch : ChNo) (p : Pulse) (s : State), s.scanning = true ∧ (s.inpCh ch).mode = 3 ∧ (s.inpCh ch).pulse = some p ∧ p.lead +
      p.limit * 128 < st0 (s.tick + 1)) :=
  ⟨⟨47, true, 128127,
      { live 8 with inp := [(47, { InpCh.reset with pulse1 := some 128127 })], eps := [(epQ 95, { Ep.reset with level := true })] },
      by decide +kernel⟩,
    ⟨3, ⟨127000, 5, 8⟩, { live 8 with inp := [(3, { InpCh.reset with mode := 3, pulse := some ⟨127000, 5, 8⟩ })] },
      by decide +kernel⟩⟩

theorem witness_SerialWordStartsOrIsSkipped :
    (∃ (ch : ChNo) (s : State), s.scanning = true ∧ ((s.inpCh ch).mode = 4 ∨ (s.inpCh ch).mode = 5) ∧ s.tick % s.get
      (Reg.INP.SER_TIMING.PERIOD ch) = 0 ∧ (s.inpCh ch).word = none) ∧
    (∃ (ch : ChNo) (aHigh : Bool) (s : State), s.scanning = true ∧ ((s.inpCh ch).mode = 4 ∨ (s.inpCh ch).mode = 5) ∧ s.tick %
      s.get (Reg.INP.SER_TIMING.PERIOD ch) = 0 ∧ ((s.inpCh ch).word ≠ none ∨ aHigh = false) ∧ s.provOn = false) ∧
    (∃ (ch : ChNo) (aHigh : Bool) (s : State), s.scanning = true ∧ ((s.inpCh ch).mode = 4 ∨ (s.inpCh ch).mode = 5) ∧ s.tick %
      s.get (Reg.INP.SER_TIMING.PERIOD ch) = 0 ∧ ((s.inpCh ch).word ≠ none ∨ aHigh = false) ∧ s.provOn = true) ∧
    (∃ (ch : ChNo) (aHigh : Bool) (s : State), s.tick % s.get (Reg.INP.SER_TIMING.PERIOD ch) ≠ 0) :=
  ⟨⟨2, (serial InpCh.reset), by decide +kernel⟩,
    ⟨2, false, (serial InpCh.reset), by decide +kernel⟩,
    ⟨2, true, (loaded (serial { InpCh.reset with word := some word })), by decide +kernel⟩,
    ⟨2, true, { serial InpCh.reset with tick := 1001 }, by decide +kernel⟩⟩

theorem witness_SerialWordsEnd :
    (∃ (ch : ChNo) (raw : BitVec 41) (aHigh : Bool) (st : SubTick) (w : SerWord) (s : State), (s.inpCh ch).word = some w ∧
      w.biss = true ∧ w.bissDone (s.cycleNo (s.now + st) - w.cyc) = true ∧ crc6 (bitsOf (raw.toNat / 64) (w.bits + 2)) ≠ 63 -
      raw.toNat % 64 ∧ (s.inpCh ch).mode = s.get (Reg.INP.CFG.MODE ch) ∧ s.provOn = true) ∧
    (∃ (ch : ChNo) (raw : BitVec 41) (w : SerWord) (s : State), (s.inpCh ch).word = some w ∧ (w.biss = true ∧ raw = 0 ∧
      w.latch + w.timeout * 128 ≤ s.now + 127 ∨ w.biss = false ∧ ∃ l, s.ssiLast w = some l ∧ l + w.timeout * 128 ≤ s.now +
      127) ∧ (s.inpCh ch).mode = s.get (Reg.INP.CFG.MODE ch) ∧ s.provOn = false) ∧
    (∃ (ch : ChNo) (raw : BitVec 41) (aHigh : Bool) (st : SubTick) (w : SerWord) (s : State), (s.inpCh ch).word = some w ∧
      s.wordDone w aHigh (s.now + st) = false) ∧
    (∃ (ch : ChNo) (raw : BitVec 41) (st : SubTick) (w : SerWord) (l : Nat) (s : State), (s.inpCh ch).word = some w ∧ w.biss =
      false ∧ s.ssiLast w = some l ∧ l ≤ s.now + st ∧ s.now + st ≤ l + w.timeout * 128 ∧ w.parity = false ∧ w.gray = false ∧
      s.wheelClass ch = true ∧ (s.inpCh ch).ownsQ = false ∧ 0 < s.get (Reg.INP.COUNT_MOD.MOD ch) ∧ (s.inpCh ch).admitted < 16
      ∧ (s.inpCh ch).mode = s.get (Reg.INP.CFG.MODE ch)) :=
  ⟨⟨2, 0x12345FFF0, true, 127, { word with bits := 1, cyc := 791 }, (withClk (loaded (serial
      { InpCh.reset with word := some { word with bits := 1, cyc := 791 } })) (fun c => { c with cyc := 1000 })),
      by decide +kernel⟩,
    ⟨2, 0, { word with timeout := 5 }, (serial { InpCh.reset with word := some { word with timeout := 5 } }),
      by decide +kernel⟩,
    ⟨2, 0x123, false, 8, { word with biss := false }, (serial { InpCh.reset with word := some { word with biss := false } }),
      by decide +kernel⟩,
    ⟨2, 0x123, 8, { word with biss := false, lastBit := some 127900 }, 127900,
      { serial { InpCh.reset with mode := 5, word := some { word with biss := false, lastBit := some 127900 } } with tick := 1000 },
      by decide +kernel⟩⟩

theorem witness_StrokeIsRecorded :
    ∃ (ch : ChNo) (s : State), s.clk.running = true ∧ s.nextTick.scanning = true ∧ s.nextTick.shut (page .inp ch) = false ∧
      (s.nextTick.wheelClass ch = false ∧ s.nextTick.get (Reg.INP.STROKE_REC.PERIOD ch) ≠ 0 ∧ (s.tick + 1) % s.nextTick.get
      (Reg.INP.STROKE_REC.PERIOD ch) = 0 ∧ (s.nextTick.inpCh ch).fresh = true) :=
  ⟨2,
    { dev 8 [(Reg.INP.STROKE_REC.PERIOD 2, 7), (Reg.INP.CFG.CLASS 2, 1)] with inp := [(2, { InpCh.reset with fresh := true })] },
    by decide +kernel⟩

theorem witness_TrackerStopsAndSeeks :
    (∃ (w : WheelNo) (s : State), s.scanning = true ∧ s.wState w ≠ 0 ∧ s.shut (page .whl w) = false ∧ (s.tracker w).stallFrom
      + s.get (Reg.WHL.STALL.STALL_TO w) ≤ s.tick) ∧
    (∃ (w : WheelNo) (s : State), s.scanning = true ∧ s.wState w ≠ 0 ∧ s.willShut (page .whl w) = false) ∧
    (∃ (w : WheelNo) (s : State), s.clk.running = true ∧ s.scanning = true ∧ s.nextTick.wState w = 5 ∧ s.nextTick.bit
      (Reg.WHL.CFG.AUTO_RESYNC w) = true ∧ s.nextTick.willShut (page .whl w) = false) :=
  ⟨⟨3, (track 8 3 []), by decide +kernel⟩,
    ⟨3, (track 8 5 []), by decide +kernel⟩,
    ⟨3, (track 8 5 [(Reg.WHL.CFG.AUTO_RESYNC 3, 1)]), by decide +kernel⟩⟩

theorem witness_CorrectionTables :
    (∃ (w : WheelNo) (s : State), s.scanning = true ∧ s.corrState w = 0 ∧ s.active kSwitch = false) ∧
    (∃ (w : WheelNo) (s : State), s.scanning = true ∧ s.corrState w = 0 ∧ s.active kSwitch = true) ∧
    (∃ (w : WheelNo) (s : State), s.scanning = true ∧ s.corrState w = 0) ∧
    (∃ (i : Instr) (w : WheelNo) (s : State), (i = .corrLearn w ∨ i = .corrSwapCmd w ∨ i = .corrClear w) ∧ s.scanning = true ∧
      s.corrState w ≠ 0) ∧
    (∃ (w : WheelNo) (s : State), s.scanning = true ∧ (s.corrState w = 1 ∨ s.corrState w = 2)) ∧
    (∃ (w : WheelNo) (s : State), s.scanning = true ∧ s.corrState w = 1 ∧ s.get (Reg.WHL.CORR_CTL.LEARN_REVS w) ≤ s.get
      (Reg.WHL.CORR_STAT.REVS_DONE w)) :=
  ⟨⟨3, (corr 0 [] []), by decide +kernel⟩,
    ⟨3, (corr 0 [(Reg.FLT.LEDGER.ACTIVE, 8)] []), by decide +kernel⟩,
    ⟨3, (corr 0 [] []), by decide +kernel⟩,
    ⟨(.corrSwapCmd 3), 3, (corr 2 [] []), by decide +kernel⟩,
    ⟨3, (corr 2 [] []), by decide +kernel⟩,
    ⟨3, (corr 1 [] [(1, 401), (5, -2050)]), by decide +kernel⟩⟩

theorem witness_StagesHoldAndDiscard :
    (∃ (d : DoorNo) (off : BitVec 24) (h k : Nat) (v : Word) (s : State), s.serves d = true ∧ s.doorState d ≠ 2 ∧ 7 ≤
      s.devState ∧ off.toNat = h * 32 + k * 4 ∧ h < 131072 ∧ k < 7 ∧ s.handleOwner h = s.comp d ∧ s.slotStageMask h k v ≠ 0 ∧
      ((s.door d).stagedSlots.contains h = true ∨ (s.door d).stagedSlots.length < 4096)) ∧
    (∃ (d : DoorNo) (b : Block) (n : Nat) (a : BitVec 24) (s : State), n < b.pages ∧ pageBase a.toNat = page b n ∧ s.accepts d
      b n 0x08 ∧ b ≠ .scn) ∧
    (∃ (d : DoorNo) (b : Block) (n : Nat) (a : BitVec 24) (s : State), n < b.pages ∧ pageBase a.toNat = page b n ∧ s.accepts d
      b n 0x08 ∧ b = .scn) :=
  ⟨⟨0, (BitVec.ofNat 24 (131071 * 32 + 24)), 131071, 6, 0x12345678, (live 8), by decide +kernel⟩,
    ⟨1, .inp, 3, (BitVec.ofNat 24 (page .inp 3 + 8)), (live 7), by decide +kernel⟩,
    ⟨1, .scn, 0, (BitVec.ofNat 24 (page .scn 0 + 8)), (live 7), by decide +kernel⟩⟩

theorem witness_CommittedRegisterWriteIsStaged :
    ∃ (d : DoorNo) (b : Block) (n off : Nat) (a : BitVec 24) (v : Word) (s : State), n < b.pages ∧ off < 0x1000 ∧ off % 4 = 0
      ∧ a.toNat = page b n + off ∧ (selOffsets b).contains off = false ∧ hasAcc (page b n + off) [.rwc] = true ∧ hasAcc (page
      b n + off) [.rw, .w1c, .wac, .wo] = false ∧ deafShutter (page b n + off) = false ∧ s.accepts d b n off ∧ s.stageMask
      (page b n + off) v ≠ 0 :=
  ⟨1, .inp, 3, 0x40, (BitVec.ofNat 24 (page .inp 3 + 0x40)), 5, (live 8), by decide +kernel⟩

theorem witness_CommitIssueFreezesStage :
    (∃ (d : DoorNo) (b : Block) (n : Nat) (a : BitVec 24) (v : Word) (s : State), b ≠ .scn ∧ b.hasCommit = true ∧ n < b.pages
      ∧ pageBase a.toNat = page b n ∧ s.accepts d b n 0x20 ∧ ((s.door d).upper.toNat * 2 ^ 32 + v.toNat ≠ immediate ∧ s.tick +
      2 ≤ (s.door d).upper.toNat * 2 ^ 32 + v.toNat ∧ s.pendingOf d < 16 ∧ s.contentBad (some (s.comp d)) (page b n)
      (s.stageEntries d (page b n)) = false)) ∧
    (∃ (d : DoorNo) (b : Block) (n : Nat) (a : BitVec 24) (v : Word) (s : State), b ≠ .scn ∧ b.hasCommit = true ∧ n < b.pages
      ∧ pageBase a.toNat = page b n ∧ s.accepts d b n 0x20 ∧ (s.door d).upper.toNat * 2 ^ 32 + v.toNat = immediate) ∧
    (∃ (d : DoorNo) (b : Block) (n : Nat) (a : BitVec 24) (v : Word) (s : State), b ≠ .scn ∧ b.hasCommit = true ∧ n < b.pages
      ∧ pageBase a.toNat = page b n ∧ s.accepts d b n 0x20 ∧ ((s.door d).upper.toNat * 2 ^ 32 + v.toNat < s.tick + 2 ∧ (s.door
      d).upper.toNat * 2 ^ 32 + v.toNat ≠ immediate)) :=
  ⟨⟨1, .inp, 3, (BitVec.ofNat 24 (page .inp 3 + 0x20)), 1002, (live 7), by decide +kernel⟩,
    ⟨1, .inp, 3, (BitVec.ofNat 24 (page .inp 3 + 0x20)), 0xFFFFFFFF, (withDoors (live 7) [(1,
      { Door.reset with upper := 0xFFFFFFFF })]), by decide +kernel⟩,
    ⟨1, .inp, 3, (BitVec.ofNat 24 (page .inp 3 + 0x20)), 1001, (live 7), by decide +kernel⟩⟩

theorem witness_CommitTakesEffectWhole :
    ∃ (c : Commit) (s : State), s.clk.running = true ∧ s.nextTick.nextCommit = some c ∧ c.page = page .recorder 0 ∧ c.void =
      [] ∧ c.placed = true ∧ c.reserved = [] ∧ c.latest = true ∧ (∀ e ∈ c.entries, e.bar2 = false ∧ pageBase e.off = page
      .recorder 0 ∧ e.off % 0x1000 ≠ 0x1C) ∧ (c.entries.map (fun e => e.off)).Nodup ∧ (∀ x ∈ s.nextTick.commits, x.page = page
      .recorder 0 → x.eff ≤ s.tick + 1 → x = c) ∧ s.nextTick.contentBad (some (s.nextTick.comp c.door)) c.page c.entries =
      false :=
  ⟨(recCommit 0x00123456), { live 8 with commits := [recCommit 0x00123456] }, by decide +kernel⟩

theorem witness_SlotEditReplacesItsWord :
    (∃ (c : Commit) (h k : Nat) (v m : Word) (s : State), s.clk.running = true ∧ s.nextTick.nextCommit = some c ∧ c.page =
      page .scn 0 ∧ c.void = [] ∧ c.placed = true ∧ c.reserved = [] ∧ h < 131072 ∧ k < 7 ∧ c.entries = [⟨true, h * 32 + k * 4,
      v, m⟩] ∧ (s.nextTick.slot h).w.length = 7 ∧ (s.nextTick.slot h).typ ≠ 0 ∧ ((s.nextTick.slot h).setWord k (overlaid
      ((s.nextTick.slot h).word k) v m)).typ = (s.nextTick.slot h).typ ∧ ((s.nextTick.slot h).setWord k (overlaid
      ((s.nextTick.slot h).word k) v m)).prot = (s.nextTick.slot h).prot ∧ ((s.nextTick.slot h).setWord k (overlaid
      ((s.nextTick.slot h).word k) v m)).wheel = (s.nextTick.slot h).wheel ∧ s.nextTick.contentBad (some (s.nextTick.comp
      c.door)) c.page c.entries = false ∧ s.nextTick.queueFull (s.nextTick.commits.takeWhile (fun x => x != c)) c.entries =
      false ∧ (∀ x ∈ s.nextTick.commits, x.page = page .recorder 0 → s.tick + 1 < x.eff)) ∧
    (∃ (c : Commit) (h k : Nat) (v m : Word) (s : State), s.clk.running = true ∧ s.nextTick.nextCommit = some c ∧ c.page =
      page .scn 0 ∧ c.void = [] ∧ c.placed = true ∧ c.reserved = [] ∧ h < 131072 ∧ k < 7 ∧ c.entries = [⟨true, h * 32 + k * 4,
      v, m⟩] ∧ (s.nextTick.slot h).w.length = 7 ∧ (s.nextTick.slot h).typ ≠ 0 ∧ ((s.nextTick.slot h).setWord k (overlaid
      ((s.nextTick.slot h).word k) v m)).typ = (s.nextTick.slot h).typ ∧ ((s.nextTick.slot h).setWord k (overlaid
      ((s.nextTick.slot h).word k) v m)).prot = (s.nextTick.slot h).prot ∧ ((s.nextTick.slot h).setWord k (overlaid
      ((s.nextTick.slot h).word k) v m)).wheel = (s.nextTick.slot h).wheel ∧ s.nextTick.contentBad (some (s.nextTick.comp
      c.door)) c.page c.entries = false ∧ s.nextTick.queueFull (s.nextTick.commits.takeWhile (fun x => x != c)) c.entries =
      false ∧ (∀ x ∈ s.nextTick.commits, x.page = page .recorder 0 → s.tick + 1 < x.eff)) :=
  ⟨⟨(slotCommit 1 50 0xFFF), 500, 1, 50, 0xFFF, (twins [slotCommit 1 50 0xFFF]), by decide +kernel⟩,
    ⟨(slotCommit 0 0x800 0x800), 500, 0, 0x800, 0x800, (twins [slotCommit 0 0x800 0x800]), by decide +kernel⟩⟩

theorem witness_DoorComesUpFresh :
    (∃ (d : DoorNo) (cfg : LinkUp) (s : State), s.doorState d = 0 ∧ s.clockOn = true ∧ (s.door d).heldFault = true) ∧
    (∃ (d : DoorNo) (cfg : LinkUp) (s : State), s.doorState d = 0 ∧ s.clockOn = true ∧ (s.door d).heldFault = false ∧ (s.door
      d).restored = false) ∧
    (∃ (d : DoorNo) (cfg : LinkUp) (s : State), s.doorState d = 0 ∧ s.clockOn = true ∧ (s.door d).heldFault = false ∧ (s.door
      d).restored = true) :=
  ⟨⟨1, ⟨3, 4, true, false, true⟩, (door1 0 { Door.reset with heldFault := true } []), by decide +kernel⟩,
    ⟨1, ⟨3, 4, true, false, true⟩, (door1 0 Door.reset []), by decide +kernel⟩,
    ⟨1, ⟨3, 4, true, false, true⟩, (door1 0 { Door.reset with restored := true } []), by decide +kernel⟩⟩

theorem witness_DoorGoesDown :
    ∃ (i : Instr) (d : DoorNo) (s : State), (i = .doorPerst d ∨ i = .doorFlr d ∨ i = .doorHotReset d ∨ i = .doorLinkLoss d) ∧
      s.doorState d ≠ 0 ∧ ((s.src 68).state = 3 ∧ (s.src 68).claimer = d) :=
  ⟨(.doorFlr 1), 1, (door1 2 Door.reset []), by decide +kernel⟩

theorem witness_DoorShutters :
    (∃ (d p : DoorNo) (s : State), s.accepts d .dor p 0x4C ∧ s.doorState p = 1) ∧
    (∃ (d : DoorNo) (s : State), s.doorState d = 1) ∧
    (∃ (d : DoorNo) (w : Nat) (s : State), s.doorState d = 1 ∧ s.hbPeriod d ≠ 0 ∧ (s.door d).hbAt = some w ∧ w + s.hbPeriod d
      ≤ s.tick) ∧
    (∃ (d p : DoorNo) (s : State), s.accepts d .dor p 0x4C ∧ s.doorState p = 2 ∧ (s.door p).byFm = false) ∧
    (∃ (d : DoorNo) (c : Nat) (l : List Nat) (s : State), s.doorState d = 1 ∧ (s.door d).causes = c :: l ∧ 5 ∉ (s.door
      d).causes ∧ c < 8) ∧
    (∃ (d : DoorNo) (r : Nat) (s : State), s.doorState d = 2 ∧ (s.door d).relAt = some r ∧ (s.door d).causes = []) :=
  ⟨⟨0, 1, (door1 1 Door.reset []), by decide +kernel⟩,
    ⟨1, (door1 1 Door.reset []), by decide +kernel⟩,
    ⟨1, 900, (door1 1 { Door.reset with hbAt := some 900 } []), by decide +kernel⟩,
    ⟨0, 1, (door1 2 Door.reset []), by decide +kernel⟩,
    ⟨1, 2, [4], (door1 1 { Door.reset with causes := [2, 4] } []), by decide +kernel⟩,
    ⟨1, 5, (door1 2 { Door.reset with relAt := some 5 } []), by decide +kernel⟩⟩

theorem witness_HeartbeatAndSleep :
    (∃ (d : DoorNo) (s : State), s.accepts d .dor d 0x50) ∧
    (∃ (d : DoorNo) (w : Nat) (s : State), s.doorState d = 1 ∧ s.hbPeriod d ≠ 0 ∧ (s.door d).hbAt = some w ∧ s.tick = w +
      s.hbPeriod d / 2) ∧
    (∃ (d : DoorNo) (s : State), s.doorState d ≠ 0 ∧ ((s.src 66).state = 1 ∧ hasBit (s.src 66).targets d = true)) :=
  ⟨⟨1, (door1 1 Door.reset []), by decide +kernel⟩,
    ⟨1, 950, (door1 1 { Door.reset with hbAt := some 950 } []), by decide +kernel⟩,
    ⟨1, (door1 1 Door.reset []), by decide +kernel⟩⟩

theorem witness_RegisterWriteObeysAccessCodes :
    (∃ (d : DoorNo) (b : Block) (n off : Nat) (u v : Word) (s : State), v = (if off = 0x14 then u &&& BitVec.ofNat 32 (2 ^
      b.nsrc - 1) else u) ∧ (off = 0x10 ∨ off = 0x14 ∨ off = 0x2C ∨ (0x40 ≤ off ∧ b ∈ [Block.glb, .flt, .inp, .scn, .lnk,
      .drv, .adc, .recorder, .mem, .stg, .tmr, .evt])) ∧ n < b.pages ∧ off < 0x1000 ∧ off % 4 = 0 ∧ (selOffsets b).contains
      off = false ∧ s.accepts d b n off ∧ writable (page b n + off) = true ∧ hasAcc (page b n + off) [.rwc] = false) ∧
    (∃ (d : DoorNo) (b : Block) (n off : Nat) (u v : Word) (s : State), v = (if off = 0x14 then u &&& BitVec.ofNat 32 (2 ^
      b.nsrc - 1) else u) ∧ (off = 0x10 ∨ off = 0x14 ∨ off = 0x2C ∨ (0x40 ≤ off ∧ b ∈ [Block.glb, .flt, .inp, .scn, .lnk,
      .drv, .adc, .recorder, .mem, .stg, .tmr, .evt])) ∧ n < b.pages ∧ off < 0x1000 ∧ off % 4 = 0 ∧ (selOffsets b).contains
      off = false ∧ s.accepts d b n off ∧ writable (page b n + off) = true ∧ hasAcc (page b n + off) [.rwc] = false) :=
  ⟨⟨0, .tmr, 31, 0x70, 0xFFFFFFFF, 0xFFFFFFFF, (live 7), by decide +kernel⟩,
    ⟨0, .clk, 0, 0x14, 0x12345678, (0x12345678 &&& BitVec.ofNat 32 (2 ^ Block.nsrc .clk - 1)), (live 7), by decide +kernel⟩⟩

theorem witness_DroppedWritesTouchOnlyTheWriter :
    (∃ (d : DoorNo) (b : Block) (n off : Nat) (v : Word) (s : State), n < b.pages ∧ off < 0x1000 ∧ off % 4 = 0 ∧ s.serves d =
      true ∧ s.doorState d = 1 ∧ s.pageOpen b off = true ∧ writable (page b n + off) = true ∧ s.hasRight d b n off = false) ∧
    (∃ (d : DoorNo) (off : BitVec 24) (v : Quad) (form : WriteForm) (s : State), s.serves d = true ∧ s.doorState d = 1 ∧ (form
      = .other ∨ (form = .w32 ∧ off.toNat % 4 ≠ 0) ∨ (form = .w64 ∧ off.toNat % 8 ≠ 0))) :=
  ⟨⟨0, .drv, 3, 0x40, 5, { live 7 with owner := [(page .drv 3, 2)] }, by decide +kernel⟩,
    ⟨0, 77, 5, .w32, (live 7), by decide +kernel⟩⟩

theorem witness_InterruptSettingsWritten :
    (∃ (d : DoorNo) (size : Fin 16) (s : State), s.accepts d .irqd d 0x48 ∧ s.get (Reg.IRQD.RING_CFG.EN d) = 0 ∧ size.val ≤ 8) ∧
    (∃ (d : DoorNo) (v : Word) (k : Nat) (s : State), s.accepts d .irq 0 0x44 ∧ s.selOf d 0xF0040 = k ∧ sourceExists k = true
      ∧ slotSource k = false ∧ Word.bits v 9 0 < 0x3FC ∧ Word.bits v 31 31 = 1) ∧
    (∃ (d : DoorNo) (v : Word) (k : Nat) (s : State), s.accepts d .irq 0 0x44 ∧ s.selOf d 0xF0040 = k ∧ sourceExists k = true
      ∧ slotSource k = false ∧ Word.bits v 9 0 < 0x3FC ∧ (Word.bits v 31 31 = 0 ∧ (s.src k).en = true ∧ (s.src k).state = 2)) ∧
    (∃ (d : DoorNo) (v : Word) (g : Nat) (s : State), s.accepts d .irq 0 0x58 ∧ s.selOf d 0xF0054 = g ∧ Word.bits v 7 0 ≠ 0) ∧
    (∃ (d : DoorNo) (v : Word) (g : Nat) (s : State), s.accepts d .irq 0 0x5C ∧ s.selOf d 0xF0054 = g ∧ Word.bits v 31 16 ≠ 0) :=
  ⟨⟨1, 8, (door1 1 Door.reset []), by decide +kernel⟩,
    ⟨1, 0x80000000, 67, (door1 1 selects []), by decide +kernel⟩,
    ⟨1, 3, 67, (door1 1 selects []), by decide +kernel⟩,
    ⟨1, 0x203, 1, (door1 1 selects []), by decide +kernel⟩,
    ⟨1, 0x50203, 1, (door1 1 selects []), by decide +kernel⟩⟩

theorem witness_ReleaseAndDelivery :
    (∃ (g : Fin 64) (s : State), s.clk.running = true ∧ (s.grp g).coalesce = false ∧ s.heldOf g ≠ [] ∧ (s.grp g).release ≤
      s.tick) ∧
    (∃ (g : Fin 64) (s : State), s.clk.running = true ∧ (s.grp g).coalesce = true ∧ (s.grp g).thr ≤ (s.grp g).events) ∧
    (∃ (k : SrcNo) (d : DoorNo) (s : State), s.clk.running = true ∧ hasBit (s.src k).due d = true ∧ hasBit (s.src k).out d =
      false ∧ ((s.src k).state = 1 ∨ (s.src k).state = 2) ∧ s.irqOpen d = true ∧ s.irqMasked k d = false) :=
  ⟨⟨1, (door1 1 Door.reset []), by decide +kernel⟩,
    ⟨1, { live 7 with irq := ⟨srcs, [(1, { Grp.reset with cfg := 0x103, events := 3 })], [], []⟩ }, by decide +kernel⟩,
    ⟨67, 1, (door1 1 { Door.reset with msixEn := true, msix := [(15, 0)] } []), by decide +kernel⟩⟩

theorem witness_ClaimAndExit :
    (∃ (d : DoorNo) (v : BitVec 10) (k : Nat) (s : State), s.accepts d .irqd d 0x54 ∧ v.toNat < 0x3FC ∧ s.get
      (Reg.IRQD.RING_CFG.EN d) = 1 ∧ s.ringFull d = false ∧ s.claimPick d v.toNat = some k ∧ s.claimResult k d v.toNat =
      v.toNat ∧ (s.door d).ringJunk = false ∧ k < 2 ^ 14) ∧
    (∃ (d : DoorNo) (k : SrcNo) (s : State), s.accepts d .irqd d 0x58 ∧ (s.src k).state = 3 ∧ (s.src k).claimer = d) ∧
    (∃ (d : DoorNo) (k : SrcNo) (s : State), s.accepts d .irqd d 0x58 ∧ ((s.src k).state ≠ 3 ∨ (s.src k).claimer ≠ d)) ∧
    (∃ (k : SrcNo) (b : Nat) (s : State), s.clk.running = true ∧ (s.src k).exitAt = some b ∧ b ≤ s.tick ∧ (s.src k).repend =
      false ∧ (s.src k).carry = 0 ∧ ((s.src k).sense ≠ 0 ∨ s.irqLine k = false)) ∧
    (∃ (k : SrcNo) (b : Nat) (s : State), s.clk.running = true ∧ (s.src k).exitAt = some b ∧ b ≤ s.tick ∧ (s.src k).en = true
      ∧ (s.src k).carry = 0 ∧ ((s.src k).repend = true ∨ ((s.src k).sense = 0 ∧ slotSource k = false ∧ s.irqLine k = true))) :=
  ⟨⟨0, 3, 67, (withDoors (door1 1 Door.reset [(Reg.IRQD.RING_CFG.EN 0, 1)]) [(0, { Door.reset with msix := [(15, 0)] })]),
      by decide +kernel⟩,
    ⟨1, 68, (door1 1 Door.reset []), by decide +kernel⟩,
    ⟨1, 69, (door1 1 Door.reset []), by decide +kernel⟩,
    ⟨69, 1000, (door1 1 Door.reset []), by decide +kernel⟩,
    ⟨69, 1000, (let s := door1 1 Door.reset []; s.setSrc 69 { s.src 69 with repend := true }), by decide +kernel⟩⟩

theorem witness_DmaChannels :
    (∃ (d : DoorNo) (c : DmaNo) (s : State), s.accepts d .dma c 0x64 ∧ (s.channel c).dead = false ∧ (s.get
      (Reg.DMA.STATUS.STATE c) = 0 ∧ (s.dmaCopy c).bad (s.doorsOf (s.pageComp (page .dma c))) = false)) ∧
    (∃ (d : DoorNo) (c : DmaNo) (s : State), s.accepts d .dma c 0x64 ∧ (s.channel c).dead = false ∧ (s.get
      (Reg.DMA.STATUS.STATE c) = 0 ∧ (s.dmaCopy c).bad (s.doorsOf (s.pageComp (page .dma c))) = true)) ∧
    (∃ (d : DoorNo) (c : DmaNo) (s : State), s.accepts d .dma c 0x64 ∧ (s.channel c).dead = false ∧ s.get
      (Reg.DMA.STATUS.STATE c) ≠ 0) ∧
    (∃ (d : DoorNo) (c : DmaNo) (s : State), s.accepts d .dma c 0x64 ∧ (s.channel c).dead = true) ∧
    (∃ (c : DmaNo) (len : Fin 257) (src dst : List Byte) (s : State), s.get (Reg.DMA.STATUS.STATE c) = 1 ∧ (s.channel
      c).retryAt ≤ s.tick ∧ (s.channel c).op = 0 ∧ 4 ≤ (s.channel c).srcSpace ∧ (s.channel c).srcSpace < 8 ∧ 4 ≤ (s.channel
      c).dstSpace ∧ (s.channel c).dstSpace < 8 ∧ (s.channel c).srcInc = true ∧ (s.channel c).dstInc = true ∧ 0 < len.val ∧
      src.length = len ∧ (s.channel c).done + len ≤ (s.channel c).count ∧ (s.channel c).count < 2 ^ 24 ∧ ((s.channel c).src +
      (s.channel c).done) % 256 + len ≤ 256 ∧ ((s.channel c).dst + (s.channel c).done) % 256 + len ≤ 256 ∧ s.doorUp
      ((s.channel c).srcSpace - 4) = true ∧ s.doorUp ((s.channel c).dstSpace - 4) = true ∧ (s.channel c).done + len =
      (s.channel c).count) ∧
    (∃ (c : DmaNo) (len : Fin 257) (src dst : List Byte) (s : State), s.get (Reg.DMA.STATUS.STATE c) = 1 ∧ (s.channel
      c).retryAt ≤ s.tick ∧ (s.channel c).op = 0 ∧ 4 ≤ (s.channel c).srcSpace ∧ (s.channel c).srcSpace < 8 ∧ 4 ≤ (s.channel
      c).dstSpace ∧ (s.channel c).dstSpace < 8 ∧ (s.channel c).srcInc = true ∧ (s.channel c).dstInc = true ∧ 0 < len.val ∧
      src.length = len ∧ (s.channel c).done + len ≤ (s.channel c).count ∧ (s.channel c).count < 2 ^ 24 ∧ ((s.channel c).src +
      (s.channel c).done) % 256 + len ≤ 256 ∧ ((s.channel c).dst + (s.channel c).done) % 256 + len ≤ 256 ∧ s.doorUp
      ((s.channel c).srcSpace - 4) = true ∧ s.doorUp ((s.channel c).dstSpace - 4) = true ∧ (s.channel c).done + len <
      (s.channel c).count) ∧
    (∃ (c : DmaNo) (side : BusSide) (kind : BusKind) (s : State), s.get (Reg.DMA.STATUS.STATE c) = 1 ∧ (s.channel c).retryAt ≤
      s.tick ∧ (s.channel c).tries + 1 ≤ (s.channel c).retry) ∧
    (∃ (c : DmaNo) (side : BusSide) (kind : BusKind) (s : State), s.get (Reg.DMA.STATUS.STATE c) = 1 ∧ (s.channel c).retryAt ≤
      s.tick ∧ ((s.channel c).retry < (s.channel c).tries + 1 ∧ (s.channel c).wbEn = false ∧ (s.channel c).count < 2 ^ 24)) ∧
    (∃ (d : DoorNo) (c : DmaNo) (s : State), s.accepts d .dma c 0x64 ∧ s.get (Reg.DMA.STATUS.STATE c) = 1 ∧ (s.channel
      c).retryAt ≤ s.tick) :=
  ⟨⟨0, 31, (dma 0 copy8 []), by decide +kernel⟩,
    ⟨0, 31, (dma 0 copy8 [(Reg.DMA.CFG.DST_SPACE 31, 0)]), by decide +kernel⟩,
    ⟨0, 31, (dma 1 copy8 []), by decide +kernel⟩,
    ⟨0, 31, (dma 0 { copy8 with dead := true } []), by decide +kernel⟩,
    ⟨31, 8, [1, 2, 3, 4, 5, 6, 7, 8], [], (dma 1 copy8 []), by decide +kernel⟩,
    ⟨31, 4, [1, 2, 3, 4], [], (dma 1 copy8 []), by decide +kernel⟩,
    ⟨31, .source, .ca, (dma 1 copy8 []), by decide +kernel⟩,
    ⟨31, .destination, .ur, (dma 1 { copy8 with tries := 1 } []), by decide +kernel⟩,
    ⟨0, 31, (dma 1 copy8 []), by decide +kernel⟩⟩

theorem witness_ConversionEntersData :
    ∃ (u : AdcNo) (raw : BitVec 10) (c : Conv) (s : State), (s.unit u).conv = some c ∧ c.entry < 16 ∧ c.input < 12 ∧ (c.cal =
      false ∧ s.get (Reg.ADC.SEQ.DRQ u c.entry) = 1 ∧ s.get (Reg.ADC.SEQ.WIN_EN u c.entry) = 1) :=
  ⟨3, 700, ⟨999, 4, 9, false, false⟩, (adc (some ⟨999, 4, 9, false, false⟩) none []), by decide +kernel⟩

theorem witness_CalibrationAndLoads :
    (∃ (i : Instr) (u : AdcNo) (full : Bool) (s : State), i = (if full then .calFull u else .calZero u) ∧ s.shut (page .adc u)
      = false ∧ (s.unit u).cal = none) ∧
    (∃ (i : Instr) (u : AdcNo) (full : Bool) (s : State), i = (if full then .calFull u else .calZero u) ∧ s.shut (page .adc u)
      = false ∧ (s.unit u).cal ≠ none) ∧
    (∃ (u : AdcNo) (c : Calib) (s : State), (s.unit u).cal = some c ∧ 16 ≤ c.made ∧ c.last < s.tick ∧ c.full = false ∧ c.input
      < 12 ∧ c.sum < 2 ^ 14) ∧
    (∃ (k : TmrNo) (s : State), s.scanning = true) :=
  ⟨⟨(.calZero 3), 3, false, (adc none none []), by decide +kernel⟩,
    ⟨(.calFull 3), 3, true, (adc none (some ⟨true, 9, 16, 9000, 998⟩) []), by decide +kernel⟩,
    ⟨3, ⟨false, 9, 16, 9000, 998⟩, (adc none (some ⟨false, 9, 16, 9000, 998⟩) []), by decide +kernel⟩,
    ⟨31, (live 8), by decide +kernel⟩⟩

theorem witness_RecorderWritesItsOwnCarts :
    (∃ (s : State), s.tick % 2 ^ 48 = 0) ∧
    (∃ (s : State), s.recd.pinPart ≠ [] ∧ s.recd.pinAt / 128 + 32 ≤ s.tick ∧ s.recd.cmpPart = [] ∧ s.recd.adcPart = []) ∧
    (∃ (s : State), s.store.seen ≤ s.carts.length) ∧
    (∃ (cls : Fin 8) (addr : BitVec 48) (session : Word) (size : Nat) (s t : State), 0 < size ∧ (∀ c, s.store.held.head? =
      some c → c.part = 0) ∧ t = s.storeEvent (.unit cls false addr session size)) :=
  ⟨⟨{ live 8 with tick := 2 ^ 48 }, by decide +kernel⟩,
    ⟨{ live 8 with recd := { Rec.reset with pinPart := [1, 2, 3], pinAt := 968 * 128 } }, by decide +kernel⟩,
    ⟨(live 8), by decide +kernel⟩,
    ⟨1, 4096, 7, 3, (live 8), ((live 8).storeEvent (.unit 1 false 4096 7 3)), by decide +kernel⟩⟩

theorem witness_DriveEventBeginsAndEnds :
    (∃ (n : DrvNo) (x : Nat) (e : DEvent) (s : State), s.driveNext n = some (x, .start) ∧ (s.drive n).event = some e ∧
      (s.drive n).held = none ∧ s.get (Reg.DRV.STAT.COMP n) = 0 ∧ s.get (Reg.DRV.STAT.GATE n) = 0 ∧ (s.drive n).dip = none) ∧
    (∃ (i : Instr) (n : DrvNo) (x : Nat) (e : DEvent) (s : State), ((i = .driveEventEnd n ∧ s.driveNext n = some (x, .finish))
      ∨ (i = .dutyCut n ∧ s.driveNext n = some (x, .cut))) ∧ (s.drive n).event = some e ∧ i = .driveEventEnd n) ∧
    (∃ (i : Instr) (n : DrvNo) (x : Nat) (e : DEvent) (s : State), ((i = .driveEventEnd n ∧ s.driveNext n = some (x, .finish))
      ∨ (i = .dutyCut n ∧ s.driveNext n = some (x, .cut))) ∧ (s.drive n).event = some e ∧ i = .dutyCut n) :=
  ⟨⟨5, (1000 * 128 + 20), { event with begun := false }, (drive5
      { Drv.reset with event := some { event with begun := false } } []), by decide +kernel⟩,
    ⟨(.driveEventEnd 5), 5, (1000 * 128 + 90), event, (running 300 none []), by decide +kernel⟩,
    ⟨(.dutyCut 5), 5, (1000 * 128), { event with sAct := 990 * 128 }, (drive5
      { Drv.reset with event := some { event with sAct := 990 * 128 }, periodAt := 300, passes := [{ dpass with pass := { dpass.pass with te := some (2000 * 128) }, sAct := some (990 * 128) }] }
      [(Reg.DRV.DUTY.DUTY_PM 5, 1), (Reg.DRV.DUTY.W_MS 5, 1)]), by decide +kernel⟩⟩

theorem witness_RegulationAndTrip :
    (∃ (n : DrvNo) (x : Nat) (e : DEvent) (s : State), s.driveNext n = some (x, .period) ∧ (s.drive n).event = some e ∧ (s.get
      (Reg.DRV.STAT.COMP n) = 0 ∧ s.get (Reg.DRV.STAT.GATE n) = 0)) ∧
    (∃ (n : DrvNo) (x : Nat) (e : DEvent) (s : State), s.driveNext n = some (x, .period) ∧ (s.drive n).event = some e ∧ (s.get
      (Reg.DRV.STAT.COMP n) = 1 ∧ s.get (Reg.DRV.STAT.LATCH n) = 1)) ∧
    (∃ (n : DrvNo) (x : Nat) (s : State), s.driveNext n = some (x, .blankEnd) ∧ s.get (Reg.DRV.STAT.COMP n) = 0) ∧
    (∃ (n : DrvNo) (x c : Nat) (e : DEvent) (s : State), s.driveNext n = some (x, .blankEnd) ∧ s.get (Reg.DRV.STAT.COMP n) = 1
      ∧ (s.drive n).blankTo = some c ∧ (s.drive n).event = some e ∧ e.begun = true ∧ s.get (Reg.DRV.STAT.OC_CNT n) < 2) ∧
    (∃ (n : DrvNo) (sense : Nat) (st : SubTick) (s : State), (s.driveNext n).all (fun x => decide (s.now + st ≤ x.1)) = true ∧
      (s.drive n).held = none ∧ sense ≤ 3840 * s.get (Reg.DRV.REF.REF n) - s.get (Reg.DRV.REF.SLOPE n) * s.rampAt n (s.now +
      st) ∧ (3840 * s.get (Reg.DRV.REF.REF n) - s.get (Reg.DRV.REF.SLOPE n) * s.rampAt n (s.now + st) ≤ sense + hysteresis
      (s.get (Reg.DRV.CFG.HYST n)) ∨ s.get (Reg.DRV.STAT.COMP n) = 0)) ∧
    (∃ (n : DrvNo) (sense : Nat) (st : SubTick) (s : State), (s.driveNext n).all (fun x => decide (s.now + st ≤ x.1)) = true ∧
      (s.drive n).held = none ∧ s.get (Reg.DRV.STAT.COMP n) = 1 ∧ sense + hysteresis (s.get (Reg.DRV.CFG.HYST n)) < 3840 *
      s.get (Reg.DRV.REF.REF n) - s.get (Reg.DRV.REF.SLOPE n) * s.rampAt n (s.now + st)) ∧
    (∃ (n : DrvNo) (sense : Nat) (st : SubTick) (s : State), (s.driveNext n).all (fun x => decide (s.now + st ≤ x.1)) = true ∧
      (s.drive n).held = none ∧ 3840 * s.get (Reg.DRV.REF.REF n) - s.get (Reg.DRV.REF.SLOPE n) * s.rampAt n (s.now + st) <
      sense ∧ (s.drive n).blankTo = none ∧ s.get (Reg.DRV.STAT.COMP n) = 0 ∧ s.get (Reg.DRV.STAT.LATCH n) = 0) :=
  ⟨⟨5, (1000 * 128 + 30), event, (running 30 none []), by decide +kernel⟩,
    ⟨5, (1000 * 128 + 30), event, (running 30 none [(Reg.DRV.STAT.COMP 5, 1), (Reg.DRV.STAT.LATCH 5, 1)]), by decide +kernel⟩,
    ⟨5, (1000 * 128 + 30), (running 300 (some 30) []), by decide +kernel⟩,
    ⟨5, (1000 * 128 + 30), 30, event, (running 300 (some 30) [(Reg.DRV.STAT.COMP 5, 1), (Reg.DRV.STAT.OC_CNT 5, 1)]),
      by decide +kernel⟩,
    ⟨5, 0, 25, (running 300 none []), by decide +kernel⟩,
    ⟨5, 0, 25, (running 300 none [(Reg.DRV.STAT.COMP 5, 1), (Reg.DRV.REF.REF 5, 500)]), by decide +kernel⟩,
    ⟨5, 4000000, 25, (running 300 none []), by decide +kernel⟩⟩

theorem witness_DutyBinsAndDipWindow :
    (∃ (n : DrvNo) (s : State), s.tick % s.binTicks n = 0) ∧
    (∃ (n : DrvNo) (x : Dip) (s : State), (s.drive n).dip = some x ∧ x.ev / 128 + s.get (Reg.DRV.DIP_WIN.WIN n) < s.tick) :=
  ⟨⟨5, { live 8 with tick := 5000 }, by decide +kernel⟩,
    ⟨5, ⟨900 * 128, some 910, false, true, 5, 6, 7, 8⟩, (drive5
      { Drv.reset with dip := some ⟨900 * 128, some 910, false, true, 5, 6, 7, 8⟩ } [(Reg.DRV.DIP_WIN.WIN 5, 99)]),
      by decide +kernel⟩⟩

theorem witness_LinkBringup :
    (∃ (l : LinkNo) (s : State), s.scanning = true ∧ s.lnkState l ≠ 1) ∧
    (∃ (l : LinkNo) (s : State), s.scanning = true ∧ s.lnkState l ≠ 0) ∧
    (∃ (l : LinkNo) (s : State), s.scanning = true ∧ 64 ≤ s.get (Reg.LNK.MGMT_TX_A.OPCODE l)) ∧
    (∃ (l : LinkNo) (c : LCmd) (r : List LCmd) (s : State), (s.link l).sample = c :: r ∧ c.promoted = false ∧ c.since + 64 ≤
      s.tick + 1 ∧ c ∉ r) ∧
    (∃ (l : LinkNo) (f : BringupFinding) (s : State), (s.link l).script ≠ []) ∧
    (∃ (l : LinkNo) (ring anyTail : Bool) (s : State), s.lnkState l = 1 ∧ (s.link l).script = [] ∧ (ring = true ∨ anyTail =
      true)) ∧
    (∃ (l : LinkNo) (ring anyTail : Bool) (s : State), s.lnkState l = 1 ∧ (s.link l).script = [] ∧ (ring = false ∧ anyTail =
      false)) ∧
    (∃ (l : LinkNo) (count : Nat) (nodes : List (Fin 64 × Bool)) (s : State), s.lnkState l = 2 ∧ (s.link l).script = [] ∧
      (BringupFinding.enumerate count nodes).wf = true ∧ count = nodes.length) ∧
    (∃ (l : LinkNo) (count : Nat) (nodes : List (Fin 64 × Bool)) (s : State), s.lnkState l = 2 ∧ (s.link l).script = [] ∧
      (BringupFinding.enumerate count nodes).wf = true ∧ count ≠ nodes.length) ∧
    (∃ (l : LinkNo) (answers : List NodeFinding) (s : State), s.lnkState l = 3 ∧ (s.link l).script = [] ∧
      (BringupFinding.measure answers).wf = true ∧ ((∀ k ∈ s.presentNodes l, s.echoed l k answers = true) ∧ (∀ x ∈ answers,
      x.node.val ∈ s.presentNodes l → (∀ r, x.rttP = some r → portDelay r x.holdP ≤ 7680) ∧ (∀ r, x.rttQ = some r → portDelay
      r x.holdQ ≤ 7680)))) ∧
    (∃ (l : LinkNo) (answers : List NodeFinding) (s : State), s.lnkState l = 3 ∧ (s.link l).script = [] ∧
      (BringupFinding.measure answers).wf = true ∧ (∃ k ∈ s.presentNodes l, s.echoed l k answers = false)) ∧
    (∃ (l : LinkNo) (loop : Nat) (s : State), s.lnkState l = 4 ∧ (s.link l).script = [] ∧ s.devState ≠ 8 ∧ loop < 2 ^ 16 ∧
      s.topDelay l ≤ 7680) :=
  ⟨⟨3, (link3 0 []), by decide +kernel⟩,
    ⟨3, (link3 6 []), by decide +kernel⟩,
    ⟨3, (link3 6 []), by decide +kernel⟩,
    ⟨3, (lcmd 3), [lcmd 5], (link3 6 []), by decide +kernel⟩,
    ⟨3, (.train true true), { live 7 with lnk := [(3, { Lnk.reset with script := enumScript 1000 })] }, by decide +kernel⟩,
    ⟨3, true, false, (stepping 1), by decide +kernel⟩,
    ⟨3, false, false, (stepping 1), by decide +kernel⟩,
    ⟨3, 2, [(5, true), (40, false)], (stepping 2), by decide +kernel⟩,
    ⟨3, 3, [(5, true), (40, false)], (stepping 2), by decide +kernel⟩,
    ⟨3, answers, (stepping 3), ⟨by decide +kernel, by decide +kernel, by decide +kernel, by decide +kernel, by simp [answers,
      portDelay]⟩⟩,
    ⟨3, [], (stepping 3), ⟨by decide +kernel, by decide +kernel, by decide +kernel, 3, by decide +kernel⟩⟩,
    ⟨3, 500, { stepping 4 with lnk := [(3, { Lnk.reset with nodes := [(3, ⟨some 5, none, some 255, 0, 1⟩)] })] },
      by decide +kernel⟩⟩

theorem witness_LinkEvents :
    (∃ (l : LinkNo) (beyond : BitVec 64) (sign : BreakSign) (s : State), (s.lnkState l = 5 ∨ s.lnkState l = 6)) ∧
    (∃ (l : LinkNo) (beyond : BitVec 64) (sign : BreakSign) (s : State), 1 ≤ s.lnkState l ∧ s.lnkState l ≤ 4 ∧ (s.link
      l).brokeOnce = false) ∧
    (∃ (l : LinkNo) (beyond : BitVec 64) (sign : BreakSign) (s : State), 1 ≤ s.lnkState l ∧ s.lnkState l ≤ 4 ∧ (s.link
      l).brokeOnce = true) ∧
    (∃ (l : LinkNo) (s : State), (s.lnkState l = 5 ∨ s.lnkState l = 6) ∧ s.get (Reg.LNK.STAT.RING l) = 1) ∧
    (∃ (l : LinkNo) (b : BreakDue) (s t : State), (s.link l).breakDue = some b ∧ (s.lnkState l = 5 ∨ s.lnkState l = 6) ∧ s.get
      (Reg.LNK.STAT.RING l) = 0 ∧ t = s.breakNow l) ∧
    (∃ (l : LinkNo) (s t : State), (s.link l).healDue = true ∧ (s.lnkState l = 5 ∨ s.lnkState l = 6) ∧ s.get
      (Reg.LNK.STAT.RING l) = 1 ∧ t = s.healNow l) ∧
    (∃ (t8 : Byte) (c : List Byte), c.length = 20) ∧
    (∃ (l : LinkNo) (endB : Bool) (age : Fin 256) (f : UpFrame) (s : State), s.lnkState l ≠ 0) ∧
    (∃ (l : LinkNo) (w : UpWait) (invalid : Bool) (r : FieldRef) (s t : State), s.lnkState l ≠ 0 ∧ ((invalid = false ∧ w.frame
      = .missing ∧ r = (if w.endB then Reg.LNK.ERR_B.MISS l else Reg.LNK.ERR_A.MISS l)) ∨ (invalid = true ∧ (∃ m, w.frame =
      .received m ∧ cellOf m = none) ∧ r = (if w.endB then Reg.LNK.ERR_B.CRC l else Reg.LNK.ERR_A.CRC l))) ∧ t = s.upWork l w
      ∧ invalid = false) ∧
    (∃ (l : LinkNo) (w : UpWait) (invalid : Bool) (r : FieldRef) (s t : State), s.lnkState l ≠ 0 ∧ ((invalid = false ∧ w.frame
      = .missing ∧ r = (if w.endB then Reg.LNK.ERR_B.MISS l else Reg.LNK.ERR_A.MISS l)) ∨ (invalid = true ∧ (∃ m, w.frame =
      .received m ∧ cellOf m = none) ∧ r = (if w.endB then Reg.LNK.ERR_B.CRC l else Reg.LNK.ERR_A.CRC l))) ∧ t = s.upWork l w
      ∧ invalid = true) ∧
    (∃ (l : LinkNo) (endB : Bool) (tick : Nat) (node : Fin 64) (q st faults : Byte) (c : List Byte) (m : List Symbol) (s t :
      State), s.lnkState l = 5 ∧ s.get (Reg.LNK.REC_CFG.STAT_EN l) = 0 ∧ ((((s.link l).nodes.get (fun _ => LNode.reset)
      node).seq = none ∨ ((s.link l).nodes.get (fun _ => LNode.reset) node).seq = some ((q.toNat + 255) % 256))) ∧ cellOf m =
      some (BitVec.ofNat 8 (64 + node) :: q :: st :: faults :: c) ∧ t = s.upWork l ⟨endB, tick, .received m⟩ ∧ (faults ≠ 0 ∨
      st = 4)) :=
  ⟨⟨3, 0xF000000F, .missed, (link3 6 []), by decide +kernel⟩,
    ⟨3, 0, (.upFrame 5), (link3 3 []), by decide +kernel⟩,
    ⟨3, 0, .missed, { link3 3 [] with lnk := [(3, { Lnk.reset with brokeOnce := true })] }, by decide +kernel⟩,
    ⟨3, (link3 5 [(Reg.LNK.STAT.RING 3, 1)]), by decide +kernel⟩,
    ⟨3, ⟨15, 990, 1000⟩, { link3 6 [] with lnk := [(3, { Lnk.reset with breakDue := some ⟨15, 990, 1000⟩ })] },
      ({ link3 6 [] with lnk := [(3, { Lnk.reset with breakDue := some ⟨15, 990, 1000⟩ })] }.breakNow 3), by decide +kernel⟩,
    ⟨3, { link3 6 [(Reg.LNK.STAT.RING 3, 1)] with lnk := [(3, { Lnk.reset with healDue := true })] },
      ({ link3 6 [(Reg.LNK.STAT.RING 3, 1)] with lnk := [(3, { Lnk.reset with healDue := true })] }.healNow 3),
      by decide +kernel⟩,
    ⟨7, (List.replicate 20 5), by decide +kernel⟩,
    ⟨3, true, 5, .missing, (link3 6 []), by decide +kernel⟩,
    ⟨3, ⟨true, 995, .missing⟩, false, (Reg.LNK.ERR_B.MISS 3), (link3 6 [(Reg.LNK.ERR_B.MISS 3, 65535)]), ((link3 6
      [(Reg.LNK.ERR_B.MISS 3, 65535)]).upWork 3 ⟨true, 995, .missing⟩), ⟨by decide +kernel, .inl ⟨rfl, rfl, rfl⟩, rfl, rfl⟩⟩,
    ⟨3, ⟨false, 995, .received []⟩, true, (Reg.LNK.ERR_A.CRC 3), (link3 1 []), ((link3 1 []).upWork 3 ⟨false, 995, .received
      []⟩), ⟨by decide +kernel, .inr ⟨rfl, ⟨[], rfl, by decide +kernel⟩, rfl⟩, rfl, rfl⟩⟩,
    ⟨3, false, 995, 3, 0, 4, 0, (List.replicate 16 0), (upFrame ([67, 0, 4, 0] ++ List.replicate 16 0)), (link3 5 []), ((link3
      5 []).upWork 3 ⟨false, 995, .received (upFrame ([67, 0, 4, 0] ++ List.replicate 16 0))⟩), by decide +kernel⟩⟩

theorem witness_PlacementCommands :
    (∃ (d : DoorNo) (l : Fin 3) (s : State), s.accepts d .plc 0 0x40 ∧ s.get Reg.PLC.STAT.STATE = 0 ∧ (s.compactAt (levelLimit
      l) = true ∧ levelLimit l < s.kLimit ∧ s.fitsAll (levelLimit l) = true)) ∧
    (∃ (d : DoorNo) (l : Fin 3) (s : State), s.accepts d .plc 0 0x40 ∧ s.get Reg.PLC.STAT.STATE = 0 ∧ (levelLimit l < s.kLimit
      ∧ s.fitsAll (levelLimit l) = false)) ∧
    (∃ (d : DoorNo) (c : CoachNo) (s : State), s.accepts d .plc 0 0x40 ∧ s.get Reg.PLC.STAT.STATE = 0 ∧ (s.coach c).state = 0
      ∧ (s.active kDvfs = false ∧ ∀ e ∈ s.fabric.carr, coachOf e.1 ≠ c)) ∧
    (∃ (d : DoorNo) (c : CoachNo) (s : State), s.accepts d .plc 0 0x40 ∧ s.get Reg.PLC.STAT.STATE = 0 ∧ (s.coach c).state = 0
      ∧ s.active kDvfs = true) ∧
    (∃ (d : DoorNo) (c : CoachNo) (s : State), s.accepts d .plc 0 0x40 ∧ s.get Reg.PLC.STAT.STATE = 0 ∧ ((s.coach c).state = 4
      ∧ (s.coach c).cause = 3)) ∧
    (∃ (d : DoorNo) (c : CoachNo) (s : State), s.accepts d .plc 0 0x40 ∧ s.get Reg.PLC.STAT.STATE = 0 ∧ ((s.coach c).state = 2
      ∧ (s.coach c).tested = true)) ∧
    (∃ (d : DoorNo) (c : CoachNo) (s : State), s.accepts d .plc 0 0x40 ∧ s.get Reg.PLC.STAT.STATE = 0 ∧ ((s.coach c).state = 2
      ∧ (s.coach c).tested = false)) ∧
    (∃ (s : State), s.get Reg.PLC.STAT.STATE = 2 ∧ s.compactAt (levelLimit (s.get Reg.PLC.STAT.ARG)) = true) ∧
    (∃ (c : Nat) (s : State), s.get Reg.PLC.STAT.STATE = 3 ∧ s.get Reg.PLC.STAT.ARG = c ∧ (∀ e ∈ s.fabric.carr, coachOf e.1 ≠
      c)) ∧
    (∃ (passed : Bool) (c : Nat) (s : State), s.get Reg.PLC.STAT.STATE = 4 ∧ s.get Reg.PLC.STAT.ARG = c) ∧
    (∃ (c : CoachNo) (s : State), (s.coach c).promoted = true) ∧
    (∃ (c : CoachNo) (w : Nat) (s : State), (s.coach c).waitFrom = some w ∧ w + 4096 ≤ s.tick ∧ (s.coach c).promoted = false) :=
  ⟨⟨0, 1, (plc 0 0 [(Reg.PWR.DVFS_STAT.LEVEL, 0)] fab), by decide +kernel⟩,
    ⟨0, 2, (plc 0 0 [(Reg.PWR.DVFS_STAT.LEVEL, 0)] { fab with coach := noCoach }), by decide +kernel⟩,
    ⟨0, 7, (plc 0 0 [] fab), by decide +kernel⟩,
    ⟨0, 7, (plc 0 0 [(Reg.FLT.LEDGER.ACTIVE, 2)] fab), by decide +kernel⟩,
    ⟨0, 7, (plc 0 0 [] (coach7 4 3 false none)), by decide +kernel⟩,
    ⟨0, 7, (plc 0 0 [] (coach7 2 0 true none)), by decide +kernel⟩,
    ⟨0, 7, (plc 0 0 [] (coach7 2 0 false none)), by decide +kernel⟩,
    ⟨(plc 2 1 [] fab), by decide +kernel⟩,
    ⟨7, (plc 3 7 [] fab), by decide +kernel⟩,
    ⟨false, 7, (plc 4 7 [] (coach7 3 0 false none)), by decide +kernel⟩,
    ⟨7, (plc 0 0 [] { Fabric.reset with coach := [(7, { Coach.reset with promoted := true })] }), by decide +kernel⟩,
    ⟨7, 5, { plc 0 0 [] (coach7 0 0 false (some 5)) with tick := 4101 }, by decide +kernel⟩⟩

theorem witness_MovesAndTwins :
    (∃ (a b : Nat) (twin : Bool) (c : Carriage) (s : State), s.clk.running = true ∧ s.fabric.moves ≠ [] ∧
      s.nextTick.fabric.moves = [⟨a, b, twin, 0, 0⟩] ∧ a ≠ b ∧ s.nextTick.carriage a = c ∧ s.nextTick.fabric.recreate = (if
      twin then [c.handle] else []) ∧ twin = false) ∧
    (∃ (a b : Nat) (twin : Bool) (c : Carriage) (s : State), s.clk.running = true ∧ s.fabric.moves ≠ [] ∧
      s.nextTick.fabric.moves = [⟨a, b, twin, 0, 0⟩] ∧ a ≠ b ∧ s.nextTick.carriage a = c ∧ s.nextTick.fabric.recreate = (if
      twin then [c.handle] else []) ∧ twin = true) ∧
    (∃ (s : State), s.clk.running = true ∧ s.fabric.moves ≠ [] ∧ (∀ m ∈ s.nextTick.fabric.moves, m.reads ≠ 0 ∨ m.writes ≠ 0)) ∧
    (∃ (h a : Nat) (c : Carriage) (s : State), s.fabric.recreate = [h] ∧ s.fabric.moves = [] ∧ s.carriageWith h (fun r => r ==
      1) = some (a, c) ∧ (s.placeOne 0 h c.wheel true (s.domainsOf h)).isSome = true) ∧
    (∃ (h a : Nat) (c : Carriage) (s : State), s.fabric.recreate = [h] ∧ s.fabric.moves = [] ∧ s.carriageWith h (fun r => r ==
      1) = some (a, c) ∧ s.placeOne 0 h c.wheel true (s.domainsOf h) = none) :=
  ⟨⟨300, 90000, false, ⟨1, 500, 3, false⟩, (plc 1 0 []
      { Fabric.reset with carr := [(300, ⟨1, 500, 3, false⟩), (90000, ⟨0, 500, 3, true⟩)], moves := [⟨300, 90000, false, 0, 0⟩] }),
      by decide +kernel⟩,
    ⟨300, 90000, true, ⟨3, 500, 3, false⟩, (plc 0 0 []
      { Fabric.reset with carr := [(300, ⟨3, 500, 3, false⟩), (90000, ⟨0, 500, 3, true⟩)], moves := [⟨300, 90000, true, 0, 0⟩], recreate := [500] }),
      by decide +kernel⟩,
    ⟨(plc 0 0 []
      { Fabric.reset with carr := [(300, ⟨3, 500, 3, false⟩), (90000, ⟨0, 500, 3, true⟩)], moves := [⟨300, 90000, true, 2, 2⟩], recreate := [500] }),
      by decide +kernel⟩,
    ⟨500, 300, ⟨1, 500, 3, false⟩, (plc 0 0 [] { Fabric.reset with carr := [(300, ⟨1, 500, 3, false⟩)], recreate := [500] }),
      by decide +kernel⟩,
    ⟨500, 300, ⟨1, 500, 3, false⟩, (plc 0 0 []
      { Fabric.reset with carr := [(300, ⟨1, 500, 3, false⟩)], recreate := [500], coach := noCoach }), by decide +kernel⟩⟩

theorem witness_FaultsAreLoggedThenShuttered :
    (∃ (i : Instr) (f : FnKind) (n : Fin 64) (cause : Nat) (r : FaultReport) (s : State), s.clockOn = true ∧ fnExists f n =
      true ∧ (fnCauses f).contains cause = true ∧ ((i = .lockstep f n ∧ cause = 2) ∨ (i = .gateReadback n ∧ f = .drv ∧ cause =
      3) ∨ (∃ u : AdcNo, i = .refMon u ∧ f = .adc ∧ n.val = u.val ∧ cause = 4) ∨ (∃ l : LinkNo, i = .noFrames l ∧ f = .lnk ∧
      n.val = l.val ∧ cause = 5 ∧ (s.lnkState l = 5 ∨ s.lnkState l = 6)) ∨ (i = .faultReport r ∧ r.cause.toNat = cause ∧
      r.block.toNat = (fnBlock f).code ∧ r.inst.toNat = n)) ∧ True) ∧
    (∃ (i : Instr) (f : FnKind) (n : Fin 64) (cause : Nat) (r : FaultReport) (s : State), s.clockOn = true ∧ fnExists f n =
      true ∧ (fnCauses f).contains cause = true ∧ ((i = .lockstep f n ∧ cause = 2) ∨ (i = .gateReadback n ∧ f = .drv ∧ cause =
      3) ∨ (∃ u : AdcNo, i = .refMon u ∧ f = .adc ∧ n.val = u.val ∧ cause = 4) ∨ (∃ l : LinkNo, i = .noFrames l ∧ f = .lnk ∧
      n.val = l.val ∧ cause = 5 ∧ (s.lnkState l = 5 ∨ s.lnkState l = 6)) ∨ (i = .faultReport r ∧ r.cause.toNat = cause ∧
      r.block.toNat = (fnBlock f).code ∧ r.inst.toNat = n)) ∧ True) ∧
    (∃ (d : DoorNo) (s : State), s.clockOn = true ∧ s.doorState d < 3) :=
  ⟨⟨(.lockstep .whl 3), .whl, 3, 2, ⟨0, 0, 0, 0⟩, (live 7), ⟨by decide +kernel, by decide +kernel, by decide +kernel, .inl
      ⟨rfl, rfl⟩, trivial⟩⟩,
    ⟨(.faultReport ⟨7, 0x11, 47, 0⟩), .inp, 47, 7, ⟨7, 0x11, 47, 0⟩, (live 7), ⟨by decide +kernel, by decide +kernel,
      by decide +kernel, .inr (.inr (.inr (.inr ⟨rfl, by decide +kernel⟩))), trivial⟩⟩,
    ⟨1, (live 7), by decide +kernel⟩⟩

theorem witness_HostShuttersAreNoFaults :
    (∃ (f : FnKind) (n : Fin 64) (s : State), s.scanning = true ∧ fnExists f n = true ∧ (fnBlock f).hasShutter = true ∧ s.shut
      (fnPage f n) = false ∧ f = .drv) ∧
    (∃ (f : FnKind) (n : Fin 64) (s : State), ((fnBlock f).hasShutter = false ∨ s.shut (fnPage f n) = true) ∧ (fnBlock
      f).hasShutter = false) ∧
    (∃ (f : FnKind) (n : Fin 64) (s : State), ((fnBlock f).hasShutter = false ∨ s.shut (fnPage f n) = true) ∧ s.shut (fnPage f
      n) = true) ∧
    (∃ (s : State), s.devState = 7 ∧ (∀ l, l < 16 → s.lnkState l ≠ 6)) :=
  ⟨⟨.drv, 63, (live 7), by decide +kernel⟩,
    ⟨.tmr, 31, (live 7), by decide +kernel⟩,
    ⟨.whl, 3, (shut .whl 3 0), by decide +kernel⟩,
    ⟨(live 7), by decide +kernel⟩⟩

theorem witness_PairsRetireAndShuttersAreReleased :
    (∃ (s : State), s.clockOn = true ∧ s.flt.pairs = 2) ∧
    (∃ (s : State), s.flt.pairs = 0) ∧
    (∃ (f : FnKind) (n : Fin 64) (sound : Bool) (s : State), (fnBlock f).hasShutter = false) ∧
    (∃ (f : FnKind) (n : Fin 64) (sound : Bool) (s : State), s.scanning = true ∧ fnExists f n = true ∧ (fnBlock f).hasShutter
      = true ∧ (s.shut (fnPage f n) = true ∧ s.pageCause (fnPage f n) = 7)) ∧
    (∃ (f : FnKind) (n : Fin 64) (sound : Bool) (s : State), s.scanning = true ∧ fnExists f n = true ∧ (fnBlock f).hasShutter
      = true ∧ s.shut (fnPage f n) = false) ∧
    (∃ (f : FnKind) (n : Fin 64) (sound : Bool) (s : State), s.scanning = true ∧ fnExists f n = true ∧ (fnBlock f).hasShutter
      = true ∧ (s.shut (fnPage f n) = true ∧ s.pageCause (fnPage f n) ≠ 7 ∧ sound = true ∧ f = .drv)) ∧
    (∃ (f : FnKind) (n : Fin 64) (sound : Bool) (s : State), s.scanning = true ∧ fnExists f n = true ∧ (fnBlock f).hasShutter
      = true ∧ (s.shut (fnPage f n) = true ∧ s.pageCause (fnPage f n) ≠ 7 ∧ sound = false)) :=
  ⟨⟨(live 7), by decide +kernel⟩,
    ⟨{ live 7 with flt := { Flt.reset with pairs := 0 } }, by decide +kernel⟩,
    ⟨.dma, 2, true, (live 7), by decide +kernel⟩,
    ⟨.adc, 2, true, (shut .adc 2 7), by decide +kernel⟩,
    ⟨.lnk, 2, true, (live 8), by decide +kernel⟩,
    ⟨.drv, 3, true, (shut .drv 3 0), by decide +kernel⟩,
    ⟨.inp, 3, false, (shut .inp 3 1), by decide +kernel⟩⟩

theorem witness_DomainMonitorShuttersItsDomain :
    (∃ (dom : Fin 16) (m : DomCause) (code : Nat) (s : State), code =
      (match m with | .supply => 1 | .clock => 2 | .bcast => 3) ∧ hasBit (s.get Reg.SCN.DOMAIN_SHUT.MASK) dom = false ∧ (∀ e ∈
      s.fabric.carr, domainOf (coachOf e.1) ≠ dom) ∧ ((∀ x ∈ s.fabric.moves, domainOf (coachOf x.src) ≠ dom ∧ domainOf
      (coachOf x.dst) ≠ dom)) ∧ s.get Reg.PLC.STAT.STATE ≠ 3 ∧ dom.val < 8) ∧
    (∃ (dom : Fin 16) (m : DomCause) (code : Nat) (s : State), code =
      (match m with | .supply => 1 | .clock => 2 | .bcast => 3) ∧ hasBit (s.get Reg.SCN.DOMAIN_SHUT.MASK) dom = false ∧ (∀ e ∈
      s.fabric.carr, domainOf (coachOf e.1) ≠ dom) ∧ ((∀ x ∈ s.fabric.moves, domainOf (coachOf x.src) ≠ dom ∧ domainOf
      (coachOf x.dst) ≠ dom)) ∧ s.get Reg.PLC.STAT.STATE ≠ 3 ∧ 8 ≤ dom.val) :=
  ⟨⟨1, .bcast, 3, (withFabric (live 7) fab), by decide +kernel⟩,
    ⟨15, .supply, 1, (live 7), by decide +kernel⟩⟩

theorem witness_DeviceIsFenced :
    (∃ (i : Instr) (fc n : Nat) (s u : State), (i = .deviceHostShutter ∧ fc = 0x26 ∧ n = s.tick + 1 ∧ u = s) ∨ (i =
      .supplyFault ∧ s.get Reg.FLT.DEV_FAULT.SUPPLY_LOW = 1 ∧ s.clk.dvfs = none ∧ fc = 0x23 ∧ n = s.tick ∧ u = s) ∨ (i =
      .fmPair ∧ s.flt.pairs = 1 ∧ fc = 0x25 ∧ n = s.tick + 1 ∧ u = { s with flt := { s.flt with pairs := 0 } }) ∧ (s.devState
      = 7 ∧ ∀ l, l < 16 → s.lnkState l ≠ 6)) ∧
    (∃ (i : Instr) (fc n : Nat) (s u : State), (i = .deviceHostShutter ∧ fc = 0x26 ∧ n = s.tick + 1 ∧ u = s) ∨ (i =
      .supplyFault ∧ s.get Reg.FLT.DEV_FAULT.SUPPLY_LOW = 1 ∧ s.clk.dvfs = none ∧ fc = 0x23 ∧ n = s.tick ∧ u = s) ∨ (i =
      .fmPair ∧ s.flt.pairs = 1 ∧ fc = 0x25 ∧ n = s.tick + 1 ∧ u = { s with flt := { s.flt with pairs := 0 } }) ∧ (s.devState
      = 5 ∧ s.power.waking = true ∧ ∀ l, l < 16 → s.lnkState l ≠ 6)) ∧
    (∃ (i : Instr) (fc n : Nat) (s u : State), (i = .deviceHostShutter ∧ fc = 0x26 ∧ n = s.tick + 1 ∧ u = s) ∨ (i =
      .supplyFault ∧ s.get Reg.FLT.DEV_FAULT.SUPPLY_LOW = 1 ∧ s.clk.dvfs = none ∧ fc = 0x23 ∧ n = s.tick ∧ u = s) ∨ (i =
      .fmPair ∧ s.flt.pairs = 1 ∧ fc = 0x25 ∧ n = s.tick + 1 ∧ u = { s with flt := { s.flt with pairs := 0 } }) ∧ (s.devState
      = 6 ∧ i = .fmPair)) :=
  ⟨⟨.deviceHostShutter, 0x26, 1001, (live 7), (live 7), by decide +kernel⟩,
    ⟨.supplyFault, 0x23, 1000, (powered 5 { up with waking := true, image := true } [(Reg.FLT.DEV_FAULT.SUPPLY_LOW, 1)]),
      (powered 5 { up with waking := true, image := true } [(Reg.FLT.DEV_FAULT.SUPPLY_LOW, 1)]), by decide +kernel⟩,
    ⟨.fmPair, 0x25, 1001, { live 6 with flt := { Flt.reset with pairs := 1 } },
      { live 6 with flt := { Flt.reset with pairs := 0 } }, by decide +kernel⟩⟩

theorem witness_LedgerSerialisesRecorderWork :
    (∃ (i : Instr) (k : Nat) (s : State), (i = .driveRetirement ∧ k = kRetire) ∨ (i = .volumeScrub ∧ k = kScrub) ∧ s.clockOn =
      true ∧ s.active k = false ∧ s.isQueued k = false ∧ s.active (kRival k) = false) ∧
    (∃ (i : Instr) (k : Nat) (s : State), (i = .driveRetirement ∧ k = kRetire) ∨ (i = .volumeScrub ∧ k = kScrub) ∧ s.clockOn =
      true ∧ s.active k = false ∧ s.isQueued k = false ∧ s.active (kRival k) = true) ∧
    (∃ (i : Instr) (k : Nat) (s : State), (i = .driveRetirementEnd ∧ k = kRetire) ∨ (i = .volumeScrubEnd ∧ k = kScrub)) ∧
    (∃ (k : Fin 6) (w : WheelNo) (h : Held) (s : State), (k.val = kRetire ∨ k.val = kScrub) ∧ s.flt.queue.find? (fun x =>
      x.kind == k.val) = some h ∧ s.active (kRival k) = true) ∧
    (∃ (k : Fin 6) (w : WheelNo) (h : Held) (s : State), (k.val = kRetire ∨ k.val = kScrub) ∧ s.flt.queue.find? (fun x =>
      x.kind == k.val) = some h ∧ s.active (kRival k) = false) :=
  ⟨⟨.driveRetirement, 4, (live 7), by decide +kernel⟩,
    ⟨.volumeScrub, 5, (dev 7 [(Reg.FLT.LEDGER.ACTIVE, 0x1F)]), by decide +kernel⟩,
    ⟨.volumeScrubEnd, 5, (live 7), by decide +kernel⟩,
    ⟨4, 0, ⟨4, 0, 0⟩, (queued [⟨1, 2, 3⟩, ⟨4, 0, 0⟩] [(Reg.FLT.LEDGER.ACTIVE, 0x20)]), by decide +kernel⟩,
    ⟨4, 0, ⟨4, 0, 0⟩, (queued [⟨1, 2, 3⟩, ⟨4, 0, 0⟩] []), by decide +kernel⟩⟩

theorem witness_SuppliesComeAndGo :
    (∃ (s : State), s.power.aonOn = false) ∧
    (∃ (s : State), s.power.mainOn = false ∧ (s.power.aonOn = false ∨ s.power.rstN = true)) ∧
    (∃ (s : State), s.power.mainOn = false ∧ (s.power.aonOn = true ∧ s.power.rstN = false ∧ s.power.image = false)) ∧
    (∃ (s : State), s.power.mainOn = false ∧ (s.power.aonOn = true ∧ s.power.rstN = false ∧ s.power.image = true)) ∧
    (∃ (s : State), s.power.mainOn = true ∧ s.devState = 1) ∧
    (∃ (s : State), s.power.mainOn = true ∧ 3 ≤ s.devState) ∧
    (∃ (s : State), s.power.mainOn = false) :=
  ⟨⟨(powered 0 { Power.reset with aonOn := false, mainOn := false } []), by decide +kernel⟩,
    ⟨(powered 1 { up with mainOn := false } []), by decide +kernel⟩,
    ⟨(powered 0 { Power.reset with mainOn := false } []), by decide +kernel⟩,
    ⟨(powered 1 { Power.reset with mainOn := false, image := true } []), by decide +kernel⟩,
    ⟨(live 1), by decide +kernel⟩,
    ⟨(live 8), by decide +kernel⟩,
    ⟨(powered 1 { up with mainOn := false } []), by decide +kernel⟩⟩

theorem witness_ResetReleaseAndWake :
    (∃ (i : Instr) (s : State), (i = .rstAssert ∧ ¬(s.devState = 1 ∧ s.power.image = true) ∨ i = .deviceResetCmd ∧ s.clockOn =
      true) ∧ s.power.rstN = true ∧ s.power.mainOn = true) ∧
    (∃ (i : Instr) (s : State), (i = .rstAssert ∧ ¬(s.devState = 1 ∧ s.power.image = true) ∨ i = .deviceResetCmd ∧ s.clockOn =
      true) ∧ s.power.rstN = true ∧ s.power.mainOn = true) ∧
    (∃ (prof : Fin 8) (s : State), s.power.rstN = false ∧ s.power.mainOn = true ∧ s.devState = 2 ∧ s.power.image = false) ∧
    (∃ (prof : Fin 8) (s : State), s.power.rstN = false ∧ s.power.mainOn = true ∧ s.devState = 2 ∧ (s.power.image = true ∧
      s.get Reg.PWR.SLOW_STAT.SLOW_LOST = 1)) ∧
    (∃ (s : State), s.devState = 1 ∧ s.power.draining = none ∧ s.bit Reg.PWR.SLOW_STAT.VALID = true ∧ Word.bits (s.reg 0x30C0)
      7 0 = 0 ∧ (s.bit Reg.PRF.WAKE_CFG.TIMER_EN = true ∧ s.get64 Reg.PRF.WAKE_AT_LO.TICK Reg.PRF.WAKE_AT_HI.TICK ≤ s.tick ∧
      s.bit Reg.PRF.WAKE_CFG.IN_EN = true ∧ hasBit (s.get Reg.PRF.WAKE_CFG.PERST_EN) 2 = true ∧ hasBit (s.get
      Reg.PRF.WAKE_CFG.PERST_EN) 1 = false)) ∧
    (∃ (s : State), s.devState = 1 ∧ s.power.draining = none ∧ s.bit Reg.PWR.SLOW_STAT.VALID = true ∧ Word.bits (s.reg 0x30C0)
      7 0 = 0 ∧ (s.bit Reg.PRF.WAKE_CFG.TIMER_EN = false ∧ s.bit Reg.PRF.WAKE_CFG.IN_EN = false)) :=
  ⟨⟨.rstAssert, (live 8), by decide +kernel⟩,
    ⟨.deviceResetCmd, (live 7), by decide +kernel⟩,
    ⟨5, State.reset, by decide +kernel⟩,
    ⟨5, (powered 2 { Power.reset with image := true, waking := true } [(Reg.PWR.SLOW_STAT.SLOW_LOST, 1)]), by decide +kernel⟩,
    ⟨(dev 1 [(Reg.PWR.SLOW_STAT.VALID, 1), (Reg.PRF.WAKE_CFG.TIMER_EN, 1), (Reg.PRF.WAKE_CFG.IN_EN, 1),
      (Reg.PRF.WAKE_CFG.PERST_EN, 5)]), by decide +kernel⟩,
    ⟨(dev 1 [(Reg.PWR.SLOW_STAT.VALID, 1)]), by decide +kernel⟩⟩

theorem witness_QualifyAndSelfTest :
    (∃ (density : Option (Fin 64)) (s : State), s.devState = 3 ∧ s.clk.running = true ∧ s.power.waking = false ∧ (∀ n, density
      = some n → n.val < 26 ∨ 29 < n.val) ∧ True) ∧
    (∃ (n : Fin 64) (s u : State), s.devState = 3 ∧ s.clk.running = true ∧ s.power.waking = false ∧ 26 ≤ n.val ∧ n.val ≤ 29 ∧
      s.power.loadProf < 8 ∧ u = (s.put Reg.PRF.FL_INFO.VALID 1).put Reg.PRF.FL_INFO.DENSITY n ∧ ((u.chooseCopy
      s.power.loadProf).bind (fun c => c.2.pre)) = none) ∧
    (∃ (n : Fin 64) (s u : State), s.devState = 3 ∧ s.clk.running = true ∧ s.power.waking = false ∧ 26 ≤ n.val ∧ n.val ≤ 29 ∧
      s.power.loadProf < 8 ∧ u = (s.put Reg.PRF.FL_INFO.VALID 1).put Reg.PRF.FL_INFO.DENSITY n ∧ ((u.chooseCopy
      s.power.loadProf).bind (fun c => c.2.pre)) = some (0x030201, 0x00640010, 1)) ∧
    (∃ (r : BistResult) (s : State), s.devState = 4 ∧ s.power.bistSkip = true) ∧
    (∃ (r : BistResult) (s : State), s.devState = 4 ∧ s.power.bistSkip = false ∧ s.power.waking = false ∧ r.essential = true ∧
      r.domains = [] ∧ r.functions = [] ∧ s.flt.shutPend = [] ∧ (∀ c ∈ r.coaches, (s.coach c).state ≠ 5)) :=
  ⟨⟨(some 25), (live 3), ⟨by decide +kernel, by decide +kernel, by decide +kernel, fun n h => by cases h; decide, trivial⟩⟩,
    ⟨26, (live 3), (((live 3).put Reg.PRF.FL_INFO.VALID 1).put Reg.PRF.FL_INFO.DENSITY 26), by decide +kernel⟩,
    ⟨26, (flashed 3 up []), (((flashed 3 up []).put Reg.PRF.FL_INFO.VALID 1).put Reg.PRF.FL_INFO.DENSITY 26),
      by decide +kernel⟩,
    ⟨⟨[], [], false, []⟩, (powered 4 { up with bistSkip := true } []), by decide +kernel⟩,
    ⟨⟨[3, 7], [], true, []⟩, (live 4), by decide +kernel⟩⟩

theorem witness_LoadEndsInReadyOrShuttered :
    (∃ (s : State), s.devState = 5 ∧ s.power.loadProf < 8 ∧ s.power.loadCopy = none ∧ (s.chooseCopy s.power.loadProf = none ∨
      s.power.ddrOk = false) ∧ s.chooseCopy s.power.loadProf = none) ∧
    (∃ (s : State), s.devState = 5 ∧ s.power.loadProf < 8 ∧ s.power.loadCopy = none ∧ (s.chooseCopy s.power.loadProf = none ∨
      s.power.ddrOk = false) ∧ s.chooseCopy s.power.loadProf ≠ none) ∧
    (∃ (c : Nat) (m : ProfImage) (s u : State), s.devState = 5 ∧ s.power.loadProf < 8 ∧ s.power.loadCopy = none ∧ s.chooseCopy
      s.power.loadProf = some (c, m) ∧ (s.showCopies s.power.loadProf).loadSteps m = (u, none) ∧ u.devState = 5 ∧ u.clk.dvfs ≠
      none) ∧
    (∃ (c : Nat) (m : ProfImage) (s u : State), s.devState = 5 ∧ s.power.loadProf < 8 ∧ s.power.loadCopy = some c ∧ s.clk.dvfs
      = none ∧ s.copyOf s.power.loadProf c = some m ∧ c < 2 ∧ s.level ≠ m.level) ∧
    (∃ (c : Nat) (m : ProfImage) (s u : State), s.devState = 5 ∧ s.power.loadProf < 8 ∧ s.power.loadCopy = some c ∧ s.clk.dvfs
      = none ∧ s.copyOf s.power.loadProf c = some m ∧ c < 2 ∧ (s.loadPost m = (u, none) ∧ u.devState = 5)) :=
  ⟨⟨(powered 5 { up with loadProf := 3, loadCmd := true } []), by decide +kernel⟩,
    ⟨(flashed 5 { up with loadCmd := true, ddrOk := false } []), by decide +kernel⟩,
    ⟨0, taken, (flashed 5 up [(Reg.PWR.DVFS_STAT.LEVEL, 1)]), (((flashed 5 up [(Reg.PWR.DVFS_STAT.LEVEL, 1)]).showCopies
      0).loadSteps taken).1, by decide +kernel⟩,
    ⟨0, taken, (flashed 5 { up with loadCmd := true, loadCopy := some 0 } [(Reg.PWR.DVFS_STAT.LEVEL, 3 - taken.level)]),
      State.reset, by decide +kernel⟩,
    ⟨0, taken, (flashed 5 { up with loadCmd := true, loadCopy := some 0 } [(Reg.PWR.DVFS_STAT.LEVEL, taken.level)]), ((flashed
      5 { up with loadCmd := true, loadCopy := some 0 } [(Reg.PWR.DVFS_STAT.LEVEL, taken.level)]).loadPost taken).1,
      by decide +kernel⟩⟩

theorem witness_RunAndStop :
    (∃ (s : State), s.devState = 7 ∧ s.power.draining = none ∧ (s.lnkState 3 = 5 ∧ s.shut (page .lnk 3) = false)) ∧
    (∃ (s : State), s.devState = 8 ∧ s.power.draining = none) ∧
    (∃ (s : State), s.devState = 8 ∧ s.get Reg.PRF.STAT.STOPPING = 1 ∧ s.quiet = true) ∧
    (∃ (s : State), s.devState = 8 ∧ s.get Reg.PRF.STAT.STOPPING = 1 ∧ s.quiet = false) :=
  ⟨⟨(dev 7 [(Reg.LNK.STAT.STATE 3, 5)]), by decide +kernel⟩,
    ⟨(live 8), by decide +kernel⟩,
    ⟨(dev 8 [(Reg.PRF.STAT.STOPPING, 1)]), by decide +kernel⟩,
    ⟨{ drive5 { Drv.reset with event := some event } [(Reg.PRF.STAT.STOPPING, 1)] with edges := [] }, by decide +kernel⟩⟩

theorem witness_CommandsAreRefused :
    (∃ (i : Instr) (r : Nat) (s : State), s.clockOn = true ∧ ((s.power.draining = none ∧ r = 2 ∧ ((i = .run ∧ s.devState ≠ 7)
      ∨ (i = .stop ∧ s.devState ≠ 8) ∨ (i = .switch ∧ s.devState ≠ 7 ∧ s.devState ≠ 8) ∨ ((i = .load ∨ i = .standby) ∧
      s.devState ≠ 7 ∧ s.devState ≠ 6))) ∨ (s.power.draining = none ∧ r = 5 ∧ (i = .load ∨ i = .standby) ∧ (s.devState = 7 ∨
      s.devState = 6) ∧ s.timebaseOk = false) ∨ (s.power.draining = none ∧ r = 3 ∧ s.get Reg.PRF.STAT.SW_STATE ≠ 0 ∧ ((i =
      .switch ∧ (s.devState = 7 ∨ s.devState = 8)) ∨ (i = .standby ∧ (s.devState = 7 ∨ s.devState = 6) ∧ s.timebaseOk =
      true))) ∨ (s.power.draining ≠ none ∧ r = 3 ∧ (i = .run ∨ i = .stop ∨ i = .load ∨ i = .switch ∨ i = .standby)))) ∧
    (∃ (i : Instr) (r : Nat) (s : State), s.clockOn = true ∧ ((s.power.draining = none ∧ r = 2 ∧ ((i = .run ∧ s.devState ≠ 7)
      ∨ (i = .stop ∧ s.devState ≠ 8) ∨ (i = .switch ∧ s.devState ≠ 7 ∧ s.devState ≠ 8) ∨ ((i = .load ∨ i = .standby) ∧
      s.devState ≠ 7 ∧ s.devState ≠ 6))) ∨ (s.power.draining = none ∧ r = 5 ∧ (i = .load ∨ i = .standby) ∧ (s.devState = 7 ∨
      s.devState = 6) ∧ s.timebaseOk = false) ∨ (s.power.draining = none ∧ r = 3 ∧ s.get Reg.PRF.STAT.SW_STATE ≠ 0 ∧ ((i =
      .switch ∧ (s.devState = 7 ∨ s.devState = 8)) ∨ (i = .standby ∧ (s.devState = 7 ∨ s.devState = 6) ∧ s.timebaseOk =
      true))) ∨ (s.power.draining ≠ none ∧ r = 3 ∧ (i = .run ∨ i = .stop ∨ i = .load ∨ i = .switch ∨ i = .standby)))) ∧
    (∃ (i : Instr) (r : Nat) (s : State), s.clockOn = true ∧ ((s.power.draining = none ∧ r = 2 ∧ ((i = .run ∧ s.devState ≠ 7)
      ∨ (i = .stop ∧ s.devState ≠ 8) ∨ (i = .switch ∧ s.devState ≠ 7 ∧ s.devState ≠ 8) ∨ ((i = .load ∨ i = .standby) ∧
      s.devState ≠ 7 ∧ s.devState ≠ 6))) ∨ (s.power.draining = none ∧ r = 5 ∧ (i = .load ∨ i = .standby) ∧ (s.devState = 7 ∨
      s.devState = 6) ∧ s.timebaseOk = false) ∨ (s.power.draining = none ∧ r = 3 ∧ s.get Reg.PRF.STAT.SW_STATE ≠ 0 ∧ ((i =
      .switch ∧ (s.devState = 7 ∨ s.devState = 8)) ∨ (i = .standby ∧ (s.devState = 7 ∨ s.devState = 6) ∧ s.timebaseOk =
      true))) ∨ (s.power.draining ≠ none ∧ r = 3 ∧ (i = .run ∨ i = .stop ∨ i = .load ∨ i = .switch ∨ i = .standby)))) ∧
    (∃ (i : Instr) (r : Nat) (s : State), s.clockOn = true ∧ ((s.power.draining = none ∧ r = 2 ∧ ((i = .run ∧ s.devState ≠ 7)
      ∨ (i = .stop ∧ s.devState ≠ 8) ∨ (i = .switch ∧ s.devState ≠ 7 ∧ s.devState ≠ 8) ∨ ((i = .load ∨ i = .standby) ∧
      s.devState ≠ 7 ∧ s.devState ≠ 6))) ∨ (s.power.draining = none ∧ r = 5 ∧ (i = .load ∨ i = .standby) ∧ (s.devState = 7 ∨
      s.devState = 6) ∧ s.timebaseOk = false) ∨ (s.power.draining = none ∧ r = 3 ∧ s.get Reg.PRF.STAT.SW_STATE ≠ 0 ∧ ((i =
      .switch ∧ (s.devState = 7 ∨ s.devState = 8)) ∨ (i = .standby ∧ (s.devState = 7 ∨ s.devState = 6) ∧ s.timebaseOk =
      true))) ∨ (s.power.draining ≠ none ∧ r = 3 ∧ (i = .run ∨ i = .stop ∨ i = .load ∨ i = .switch ∨ i = .standby)))) :=
  ⟨⟨.load, 2, (live 8), by decide +kernel⟩,
    ⟨.standby, 5, (live 7), by decide +kernel⟩,
    ⟨.switch, 3, (dev 7 [(Reg.PRF.STAT.SW_STATE, 3)]), by decide +kernel⟩,
    ⟨.run, 3, (powered 7 { up with draining := some 4 } []), by decide +kernel⟩⟩

theorem witness_LoadAndStandbyEntry :
    (∃ (s : State), (s.devState = 7 ∨ s.devState = 6) ∧ s.power.draining = none ∧ s.timebaseOk = true ∧ (s.get
      Reg.PRF.STAT.SW_STATE = 0 ∧ s.power.flOp = none)) ∧
    (∃ (n : Nat) (s : State), s.power.draining = some n) ∧
    (∃ (s : State), s.power.draining = none) :=
  ⟨⟨(locked 7 []), by decide +kernel⟩,
    ⟨900, (powered 7 { up with draining := some 900 } []), by decide +kernel⟩,
    ⟨(live 7), by decide +kernel⟩⟩

theorem witness_ProfileSwitch :
    (∃ (s : State), (s.devState = 7 ∨ s.devState = 8) ∧ s.power.draining = none ∧ s.get Reg.PRF.STAT.SW_STATE = 0 ∧ s.active
      kLearn = false) ∧
    (∃ (s : State), (s.devState = 7 ∨ s.devState = 8) ∧ s.power.draining = none ∧ s.get Reg.PRF.STAT.SW_STATE = 0 ∧ s.active
      kLearn = true) ∧
    (∃ (w : Switch) (s : State), s.power.sw = some w ∧ w.ready = false ∧ w.prof < 8 ∧ (s.chooseCopy w.prof = none ∧ w.content
      = [])) ∧
    (∃ (w : Switch) (s : State), s.power.sw = some w ∧ w.ready = false ∧ w.prof < 8 ∧ (s.chooseCopy w.prof = some (0, taken) ∧
      (s.showCopies w.prof).switchContents taken ((s.showCopies w.prof).switchWheels taken) = some [] ∧ ((s.showCopies
      w.prof).reserveSwitch []).isSome = true)) ∧
    (∃ (w : Switch) (s : State), s.power.sw = some w ∧ s.tick < w.arm) ∧
    (∃ (w : Switch) (s : State), s.power.sw = some w ∧ (w.arm ≤ s.tick ∧ w.ready = false ∧ w.content = [])) ∧
    (∃ (w : Switch) (s : State), s.power.sw = some w ∧ (w.arm ≤ s.tick ∧ w.ready = true ∧ s.pend = 0 ∧ w.content = [])) ∧
    (∃ (w : Switch) (s : State), s.power.sw = some w ∧ (w.arm ≤ s.tick ∧ w.ready = true ∧ s.pend ≠ 0)) ∧
    (∃ (w : WheelNo) (x : Switch) (s : State), s.clk.running = true ∧ s.nextTick.power.sw = some x ∧ s.nextTick.switchDue w =
      true ∧ s.nextTick.wValid w = false ∧ x.prof < 8) :=
  ⟨⟨(live 8), by decide +kernel⟩,
    ⟨(dev 7 [(Reg.FLT.LEDGER.ACTIVE, 4)]), by decide +kernel⟩,
    ⟨(switch 3 1100 false), (switching (switch 3 1100 false) []), by decide +kernel⟩,
    ⟨(switch 0 1100 false), (flashed 8 { up with sw := some (switch 0 1100 false) } []), by decide +kernel⟩,
    ⟨(switch 3 1100 false), (switching (switch 3 1100 false) []), by decide +kernel⟩,
    ⟨(switch 3 1000 false), (switching (switch 3 1000 false) []), by decide +kernel⟩,
    ⟨(switch 3 1000 true), (switching (switch 3 1000 true) []), by decide +kernel⟩,
    ⟨(switch 3 1000 true), (switching (switch 3 1000 true) [(Reg.PRF.SW_PEND_LO.MASK, 8)]), by decide +kernel⟩,
    ⟨3, (switch 5 900 true), (switching (switch 5 900 true) [(Reg.PRF.SW_PEND_LO.MASK, 8)]), by decide +kernel⟩⟩

theorem witness_FlashAndFuses :
    (∃ (i : Instr) (d : DoorNo) (op : Nat) (s : State), s.accepts d .prf 0 0xD0 ∧ (i = .flashRead d ∧ op = 1) ∨ (i =
      .flashProgram d ∧ op = 2) ∨ (i = .flashErase4k d ∧ op = 3) ∨ (i = .flashErase64k d ∧ op = 4) ∧ (s.get
      Reg.PRF.FL_ADDR.ADDR % flashSpan op = 0 ∧ s.get Reg.PRF.FL_ADDR.ADDR < s.flashSize)) ∧
    (∃ (i : Instr) (d : DoorNo) (op : Nat) (s : State), s.accepts d .prf 0 0xD0 ∧ (i = .flashRead d ∧ op = 1) ∨ (i =
      .flashProgram d ∧ op = 2) ∨ (i = .flashErase4k d ∧ op = 3) ∨ (i = .flashErase64k d ∧ op = 4) ∧ s.get
      Reg.PRF.FL_ADDR.ADDR % flashSpan op ≠ 0) ∧
    (∃ (i : Instr) (d : DoorNo) (op : Nat) (s : State), s.accepts d .prf 0 0xD0 ∧ (i = .flashRead d ∧ op = 1) ∨ (i =
      .flashProgram d ∧ op = 2) ∨ (i = .flashErase4k d ∧ op = 3) ∨ (i = .flashErase64k d ∧ op = 4) ∧ s.power.flOp ≠ none) ∧
    (∃ (op a : Nat) (s : State), s.power.flOp = some (op, a) ∧ 1 ≤ op ∧ op ≤ 4 ∧ op = 1) ∧
    (∃ (op a : Nat) (s : State), s.power.flOp = some (op, a) ∧ 1 ≤ op ∧ op ≤ 4 ∧ op = 2) ∧
    (∃ (op a : Nat) (s : State), s.power.flOp = some (op, a) ∧ 1 ≤ op ∧ op ≤ 4 ∧ 3 ≤ op) ∧
    (∃ (timedOut : Bool) (s : State), s.power.flOp = none) ∧
    (∃ (i : Instr) (d : DoorNo) (s : State), s.accepts d .prf 0 0xB0 ∧ (i = .burnKey d ∨ i = .burnSigreq d) ∧ s.devState ≠ 6) ∧
    (∃ (i : Instr) (d : DoorNo) (s : State), s.accepts d .prf 0 0xB0 ∧ (i = .burnKey d ∨ i = .burnSigreq d) ∧ (s.devState = 6
      ∧ i = .burnKey d ∧ s.power.keyBurnt = false)) ∧
    (∃ (i : Instr) (d : DoorNo) (s : State), s.accepts d .prf 0 0xB0 ∧ (i = .burnKey d ∨ i = .burnSigreq d) ∧ (s.devState = 6
      ∧ i = .burnKey d ∧ s.power.keyBurnt = true)) ∧
    (∃ (i : Instr) (d : DoorNo) (s : State), s.accepts d .prf 0 0xB0 ∧ (i = .burnKey d ∨ i = .burnSigreq d) ∧ (s.devState = 6
      ∧ i = .burnSigreq d)) :=
  ⟨⟨(.flashErase4k 1), 1, 3, (flashing none 0x1000), by decide +kernel⟩,
    ⟨(.flashErase64k 1), 1, 4, (flashing none 0x1000), by decide +kernel⟩,
    ⟨(.flashRead 1), 1, 1, (flashing (some (2, 0)) 0x1000), by decide +kernel⟩,
    ⟨1, 0x1000, (flashing (some (1, 0x1000)) 0), by decide +kernel⟩,
    ⟨2, 0x1000, (flashing (some (2, 0x1000)) 0), by decide +kernel⟩,
    ⟨4, 0x10000, (flashing (some (4, 0x10000)) 0), by decide +kernel⟩,
    ⟨true, (live 7), by decide +kernel⟩,
    ⟨(.burnKey 0), 0, (live 7), by decide +kernel⟩,
    ⟨(.burnKey 0), 0, (live 6), by decide +kernel⟩,
    ⟨(.burnKey 0), 0, (powered 6 { up with keyBurnt := true } []), by decide +kernel⟩,
    ⟨(.burnSigreq 0), 0, (live 6), by decide +kernel⟩⟩

theorem witness_StepRunsTheFrontCommand :
    ∃ (s : State), s.pending = [] :=
  ⟨State.reset, by decide +kernel⟩

theorem witness_TickCounterRule :
    (∃ (p : Fin 8) (s : State), s.power.rstN = false ∧ s.power.mainOn = true ∧ s.devState = 2 ∧ s.power.image = false) ∧
    (∃ (d : DoorNo) (st : SubTick) (s : State), s.reads d 0x1060) :=
  ⟨⟨5, State.reset, by decide +kernel⟩,
    ⟨0, 5, (live 7), by decide +kernel⟩⟩

end Sys2Proof.Tests
end

section
/-! PROOFS. The tick counter, host-time commands out of range, and SLOWCLK (chapter 2: R57, R62, R65, R67, R69). -/

namespace Sys2Proof

/-- The commands that may set the tick counter (R57, R67). -/
def Instr.movesTick : Instr → Bool
  | .tickBoundary _ | .slowclkCycle | .rstRelease _ => true
  | _ => false

end Sys2Proof

namespace Sys2Proof.Machine

/-! ### Frames that these rules share -/

/-- Fields apart from those listed read as before. -/
theorem OnlyFields.get {fs : List FieldRef} {s t : State} (h : OnlyFields fs s t) {g : FieldRef} (ok : g.ok)
    (ha : ∀ f ∈ fs, f.apart g) : t.get g = s.get g := h.2.get ok ha

theorem OnlyFields.tick_eq {fs : List FieldRef} {s t : State} (h : OnlyFields fs s t) : t.tick = s.tick := by rw [h.1]

theorem OnlyFields.pending_eq {fs : List FieldRef} {s t : State} (h : OnlyFields fs s t) : t.pending = s.pending := by
  rw [h.1]

/-- A source stays pending when a register other than its PG_IRQ_RAW is written. -/
theorem State.isRaised_put_of {s : State} {p k : Nat} (h : s.isRaised p k) {f : FieldRef} (v : Nat) (ok : f.ok)
    (ha : f.addr ≠ p + 0x10) : (s.put f v).isRaised p k :=
  (s.get_put_apart v ok (.inl ha)).trans h

theorem OnlyFields.raiseIf {fs : List FieldRef} (s : State) (c : Bool) (p k : Nat) (hf : rawBit p k ∈ fs) :
    OnlyFields fs s (s.raiseIf c p k) := by
  cases c with
  | false => exact OnlyFields.refl fs s
  | true => exact OnlyFields.raise s p k hf

/-- The device state stays where none of its bits is listed; so does what it decides. -/
theorem OnlyFields.devState_eq {fs : List FieldRef} {s t : State} (h : OnlyFields fs s t)
    (ha : ∀ f ∈ fs, f.apart Reg.GLB.DEV_STATE.STATE) : t.devState = s.devState := h.get (by decide) ha

theorem OnlyFields.clockOn_eq {fs : List FieldRef} {s t : State} (h : OnlyFields fs s t)
    (ha : ∀ f ∈ fs, f.apart Reg.GLB.DEV_STATE.STATE) : t.clockOn = s.clockOn := by
  rw [State.clockOn, State.clockOn, h.devState_eq ha]

theorem OnlyFields.aonCounts_eq {fs : List FieldRef} {s t : State} (h : OnlyFields fs s t)
    (ha : ∀ f ∈ fs, f.apart Reg.GLB.DEV_STATE.STATE) : t.aonCounts = s.aonCounts := by
  rw [State.aonCounts, State.aonCounts, h.devState_eq ha, h.1]

/-! ### Which commands step the tick counter (R57) -/

theorem run_tick {s u t : State} (h : run s u = .next t) : t.tick = s.tick := by
  cases h; rfl

/-- A meaning that leaves the queue as it is, and the counter where the command sets it, answers just what it computes. -/
theorem runAt_eq {s u : State} {n : Nat} (ht : u.tick = n) (hp : u.pending = s.pending) : runAt s u n = .next u := by
  unfold runAt; rw [← ht, ← hp]

theorem execMainPowerUp_runs (s : State) :
    (∃ u, execMainPowerUp s = run s u) ∨ execMainPowerUp s = .fault .supplyOrder := by
  unfold execMainPowerUp
  split
  · exact .inl ⟨_, rfl⟩
  · split
    · exact .inr rfl
    · exact .inl ⟨_, rfl⟩

theorem execAonPowerLoss_runs (s : State) :
    (∃ u, execAonPowerLoss s = run s u) ∨ execAonPowerLoss s = .fault .supplyOrder := by
  unfold execAonPowerLoss
  split
  · exact .inr rfl
  · exact .inl ⟨_, rfl⟩

/-- R57: every other command answers by `run`, which steps no counter, or stops at a breach of the supply order (R348). -/
theorem exec_runs (c : Instr) (s : State) (h : c.movesTick = false) :
    (∃ u, exec c s = run s u) ∨ exec c s = .fault .supplyOrder := by
  cases c with
  | tickBoundary | slowclkCycle | rstRelease => cases h
  | mainPowerUp => exact execMainPowerUp_runs s
  | aonPowerLoss => exact execAonPowerLoss_runs s
  | _ => exact .inl ⟨_, rfl⟩

theorem exec_tick_of_not_movesTick {c : Instr} {s t : State} (h : c.movesTick = false) (he : exec c s = .next t) :
    t.tick = s.tick := by
  rcases exec_runs c s h with ⟨u, hu⟩ | hf
  · exact run_tick (hu.symm.trans he)
  · cases hf.symm.trans he

/-- R67: SLOWCLK moves the counter only where the always-on domain counts a SLOWCLK that toggles. -/
theorem execSlowclkCycle_tick {s t : State} (he : execSlowclkCycle s = .next t) (hne : t.tick ≠ s.tick) :
    s.aonCounts = true ∧ s.bit Reg.PWR.SLOW_STAT.VALID = true := by
  unfold execSlowclkCycle at he
  split at he
  next h => simpa using h
  next => exact absurd (run_tick he) hne

/-- A release of RST_N moves the counter only where no image is valid, and then to 0. -/
theorem execRstRelease_tick {p : Fin 8} {s t : State} (he : execRstRelease p s = .next t) (hne : t.tick ≠ s.tick) :
    s.power.image = false ∧ t.tick = 0 := by
  unfold execRstRelease at he
  split at he
  · exact absurd (run_tick he) hne
  · split at he
    · exact absurd (run_tick he) hne
    · cases he
      cases hi : s.power.image with
      | false => simp
      | true => simp [hi] at hne

/-- A cold start (R57): the counter starts from 0. -/
theorem execRstRelease_cold (p : Fin 8) {s : State} (hr : s.power.rstN = false) (hm : s.power.mainOn = true)
    (hd : s.devState = 2) (hi : s.power.image = false) : execRstRelease p s = runAt s (s.releaseReset p) 0 := by
  simp [execRstRelease, hr, hm, hd, hi]

/-! ### The counter as a door reads it (R58) -/

/-- What a served read of TICK_LO captures. -/
theorem State.tickRead_captured (s : State) (d : DoorNo) (st : SubTick) :
    Captured d (BitVec.ofNat 32 s.tick)
      ([(0x1064, BitVec.ofNat 32 (s.tick / 2 ^ 32)), (0x1068, BitVec.ofNat 32 st)] ++
        lowHigh 0x107C 0x1080 (unsigned 64 (s.hostNs s.tick st))) s (s.tickRead d st) :=
  Captured.captures s (show [0x1064, 0x1068, 0x107C, 0x1080].Nodup by decide)

theorem State.busRead_tickLo (s : State) (d : DoorNo) (st : SubTick) : s.busRead d 0x1060 st = s.tickRead d st := by
  have hp : pageOf 0x1060 = some (.clk, 0) := pageOf_page .clk (n := 0) (off := 0x60) (by decide) (by decide)
  simp [State.busRead, hp]

/-- The two halves of a 64-bit number. -/
theorem ofNat_high_append_low (n : Nat) :
    BitVec.ofNat 32 (n / 2 ^ 32) ++ BitVec.ofNat 32 n = BitVec.ofNat 64 n := by
  apply BitVec.eq_of_toNat_eq
  have hlow : (BitVec.ofNat 32 n).toNat < 2 ^ 32 := (BitVec.ofNat 32 n).isLt
  rw [BitVec.toNat_append, ← Nat.shiftLeft_add_eq_or_of_lt hlow]
  simp only [BitVec.toNat_ofNat, Nat.shiftLeft_eq]
  omega

/-- Settles O58: each command but three answers by `run`, which keeps the counter; the three are followed one by one. That the
counter is a number that never wraps, of which a door reads 64 bits, is log entry 28. -/
theorem tickCounterRule : Obligations.TickCounterRule := by
  refine ⟨fun obs s => ⟨_, rfl, rfl⟩, fun c s t he hne => ?_,
    fun p s hr hm hd hi => ⟨_, execRstRelease_cold p hr hm hd hi, rfl⟩, fun d st s hr => ?_⟩
  · cases hc : c.movesTick with
    | false => exact absurd (exec_tick_of_not_movesTick hc he) hne
    | true =>
      cases c with
      | tickBoundary obs => exact .inl ⟨obs, rfl⟩
      | slowclkCycle => exact .inr (.inl ⟨rfl, execSlowclkCycle_tick he hne⟩)
      | rstRelease p => exact .inr (.inr ⟨p, rfl, execRstRelease_tick he hne⟩)
      | _ => cases hc
  · have hcap := s.tickRead_captured d st
    have hexec : exec (.tickLoRead d st) s = run s (s.tickRead d st) := by
      rw [← s.busRead_tickLo, ← State.doorRead_reads hr]; rfl
    refine ⟨_, hexec.trans hcap.run_eq, ?_⟩
    obtain ⟨-, hdoor, hsnap, -⟩ := hcap
    rw [hsnap (0x1064, BitVec.ofNat 32 (s.tick / 2 ^ 32)) (by simp), hdoor]
    exact ofNat_high_append_low s.tick

/-! ### Host-time commands out of range (R62) -/

/-- A host-time command is refused: REFUSED and HT_REFUSED, CMD back at 0, and nothing else. -/
def HtRefused (s t : State) : Prop :=
  t.get Reg.CLK.HT_STAT.REFUSED = 1 ∧ t.isRaised (page .clk 0) 5 ∧ t.get Reg.CLK.HT_CMD.CMD = 0 ∧
    OnlyFields [Reg.CLK.HT_STAT.REFUSED, Reg.CLK.HT_CMD.CMD, rawBit (page .clk 0) 5] s t

theorem State.htRow_bad {s : State} {cmd : Nat} (hon : s.clockOn = true) (h0 : cmd ≠ 0) (hb : s.htBad cmd = true) :
    s.htRow cmd = ((s.put Reg.CLK.HT_STAT.REFUSED 1).raise (page .clk 0) 5).put Reg.CLK.HT_CMD.CMD 0 := by
  simp only [State.htRow, hon, State.when_true, State.htCommand, if_neg h0, hb, if_true]

theorem State.htRow_refused {s : State} {cmd : Nat} (hon : s.clockOn = true) (h0 : cmd ≠ 0) (hb : s.htBad cmd = true) :
    HtRefused s (s.htRow cmd) := by
  rw [State.htRow_bad hon h0 hb]
  refine ⟨?_, ?_, ?_, ?_⟩
  · rw [State.get_put_apart _ _ (by decide) (by decide), State.get_raise_ne _ (by decide),
      State.get_put_self _ _ (by decide)]
    rfl
  · exact State.isRaised_put_of (State.isRaised_raise _ _ (by decide)) _ (by decide) (by decide)
  · exact State.get_put_self _ 0 (by decide)
  · exact ((OnlyFields.put s 1 (by simp) (by decide)).then_raise _ _ (by simp)).then_put _ (by simp) (by decide)

theorem run_htRow_refused {s : State} {cmd : Nat} (hon : s.clockOn = true) (h0 : cmd ≠ 0) (hb : s.htBad cmd = true) :
    ∃ t, run s (s.htRow cmd) = .next t ∧ HtRefused s t := by
  obtain ⟨hset, hraised, hcmd, hframe⟩ := State.htRow_refused hon h0 hb
  exact ⟨_, hframe.run_eq, hset, hraised, hcmd, hframe⟩

/-- Settles O4: each of the three commands is one that `htBad` refuses. -/
theorem hostTimeOutOfRangeIsRefused : Obligations.HostTimeOutOfRangeIsRefused := by
  rintro i s hon (⟨rfl, hb⟩ | ⟨rfl, hb⟩ | ⟨rfl, hb⟩)
  · exact run_htRow_refused (cmd := 1) hon (by decide) (by simp [State.htBad, State.htGoal, hb])
  · exact run_htRow_refused (cmd := 2) hon (by decide) (by simp [State.htBad, State.htGoal, hb])
  · exact run_htRow_refused (cmd := 3) hon (by decide) (by
      rcases hb with hb | hb
      · simp [State.htBad, State.htGoal, hb]
      · simp only [State.htBad, hb, decide_true, Bool.and_self, Bool.or_true])

/-! ### The wake timer, checked in every SLOWCLK cycle (R371) -/

theorem State.wakeEvent_frame {f : FieldRef} (s : State) (v : Nat) (ok : f.ok) : OnlyFields [f] s (s.wakeEvent f v) := by
  unfold State.wakeEvent
  split
  · exact OnlyFields.put s _ (by simp) ok
  · split
    · exact OnlyFields.put s _ (by simp) ok
    · exact OnlyFields.refl _ s

theorem State.wakeTimer_frame (s : State) : OnlyFields [Reg.PRF.WAKE_CAUSE.TIMER] s s.wakeTimer := by
  unfold State.wakeTimer
  dsimp only
  split
  · exact s.wakeEvent_frame 1 (by decide)
  · exact OnlyFields.refl _ s

theorem State.wakeTimer_off {s : State} (h : s.bit Reg.PRF.WAKE_CFG.TIMER_EN = false) : s.wakeTimer = s := by
  simp only [State.wakeTimer, h, Bool.false_eq_true, false_and, if_false]

/-! ### SLOWCLK cycles (R67) -/

/-- The state with the counter at n and the make-up fraction at m. -/
def State.counted (s : State) (n m : Nat) : State := { s with tick := n, clk := { s.clk with makeup := m } }

@[simp] theorem State.counted_tick (s : State) (n m : Nat) : (s.counted n m).tick = n := rfl
@[simp] theorem State.counted_pending (s : State) (n m : Nat) : (s.counted n m).pending = s.pending := rfl
@[simp] theorem State.counted_regs (s : State) (n m : Nat) : (s.counted n m).regs = s.regs := rfl
@[simp] theorem State.counted_bit (s : State) (n m : Nat) (f : FieldRef) : (s.counted n m).bit f = s.bit f := rfl

/-- Where fields alone change after the counting, the state differs in the counter, the fraction and registers. -/
theorem OnlyFields.eq_of_counted {fs : List FieldRef} {s t : State} {n m : Nat} (h : OnlyFields fs (s.counted n m) t) :
    t = { s with tick := t.tick, regs := t.regs, clk := { s.clk with makeup := m } } := by
  rw [h.tick_eq]; exact h.1

/-- The state after the counting of one SLOWCLK cycle, before the wake timer is checked. -/
def State.slowCounted (s : State) : State :=
  s.counted (s.tick + (s.clk.makeup + 78125) / 512) ((s.clk.makeup + 78125) % 512)

/-- A counted cycle answers the counted state, with the wake timer's mark. -/
theorem execSlowclkCycle_counts {s : State} (ha : s.aonCounts = true) (hv : s.bit Reg.PWR.SLOW_STAT.VALID = true) :
    execSlowclkCycle s = .next s.slowCounted.wakeTimer := by
  have hframe := s.slowCounted.wakeTimer_frame
  have hrun : execSlowclkCycle s = runAt s s.slowCounted.wakeTimer s.slowCounted.tick := by
    unfold execSlowclkCycle; rw [ha, hv]; rfl
  rw [hrun, runAt_eq hframe.tick_eq (hframe.pending_eq.trans (s.counted_pending _ _))]

/-! ### The selection of SLOWCLK (R65) and its loss (R69) -/

theorem State.slowFollow_frame (s : State) :
    OnlyFields [Reg.PWR.SLOW_STAT.VALID, Reg.PWR.SLOW_STAT.DOOR] s s.slowFollow := by
  unfold State.slowFollow
  split
  · exact (OnlyFields.put s _ (by simp) (by decide)).then_put _ (by simp) (by decide)
  · exact OnlyFields.put s _ (by simp) (by decide)

theorem State.slowFollow_some {s : State} {d : Nat} (h : s.slowDoor = some d) (hd : d < 4) :
    s.slowFollow.get Reg.PWR.SLOW_STAT.DOOR = d ∧
      s.slowFollow.get Reg.PWR.SLOW_STAT.VALID = if s.slowRuns d then 1 else 0 := by
  simp only [State.slowFollow, h, State.putBit_eq]
  constructor
  · rw [State.get_put_self _ _ (by decide)]
    exact Nat.mod_eq_of_lt hd
  · rw [State.get_put_apart _ _ (by decide) (by decide), State.get_put_self _ _ (by decide)]
    cases s.slowRuns d <;> rfl

theorem State.slowFollow_none {s : State} (h : s.slowDoor = none) : s.slowFollow.get Reg.PWR.SLOW_STAT.VALID = 0 := by
  simp only [State.slowFollow, h]
  exact State.get_put_self _ 0 (by decide)

theorem State.slowMissed_frame (s : State) : OnlyFields [Reg.PWR.SLOW_STAT.SLOW_LOST] s s.slowMissed := by
  unfold State.slowMissed
  split
  · exact OnlyFields.put s _ (by simp) (by decide)
  · exact OnlyFields.refl _ s

theorem State.slowMissed_sets {s : State} (ha : s.aonCounts = true) (hv : s.get Reg.PWR.SLOW_STAT.VALID = 0) :
    s.slowMissed.get Reg.PWR.SLOW_STAT.SLOW_LOST = 1 := by
  have hb : s.bit Reg.PWR.SLOW_STAT.VALID = false := by rw [State.bit, hv]; rfl
  rw [State.slowMissed, if_pos (by simp only [ha, hb]; decide), State.get_put_self _ _ (by decide)]
  rfl

/-- A door of the order of PRIO is a door. -/
theorem State.lt_of_mem_prio {s : State} {d : Nat} (h : d ∈ s.prio) : d < 4 := by
  obtain ⟨k, -, rfl⟩ := List.mem_map.1 h
  exact Nat.mod_lt _ (by decide)

/-- Door d's SLOWCLK toggles or not, before SLOW_STAT follows. -/
def State.withSlow (s : State) (d : Nat) (on : Bool) : State :=
  { s with clk := { s.clk with slowOk := s.clk.slowOk.set d on } }

/-- The loss that SLOW_LOST reports: the SLOWCLK in use stops while the clocks run. -/
def State.slowLoses (s : State) (d : Nat) (on : Bool) : Bool :=
  (s.bit Reg.PWR.SLOW_STAT.VALID && s.get Reg.PWR.SLOW_STAT.DOOR == d) && !on && (s.withSlow d on).slowFollow.clockOn

/-- After a change of a door's SLOWCLK: SLOW_STAT follows and a loss is raised, before the flag of R69. -/
def State.slowSwitched (s : State) (d : Nat) (on : Bool) : State :=
  (s.withSlow d on).slowFollow.raiseIf (s.slowLoses d on) (page .pwr 0) 3

theorem State.slowChange_eq {s : State} (h : s.power.aonOn = true) (d : Nat) (on : Bool) :
    s.slowChange d on = (s.slowSwitched d on).slowMissed := by
  unfold State.slowChange
  rw [h]
  rfl

/-- What a change of a door's SLOWCLK writes. -/
def slowFields : List FieldRef :=
  [Reg.PWR.SLOW_STAT.VALID, Reg.PWR.SLOW_STAT.DOOR, Reg.PWR.SLOW_STAT.SLOW_LOST, rawBit (page .pwr 0) 3]

theorem State.slowSwitched_raise_frame (s : State) (d : Nat) (on : Bool) :
    OnlyFields [rawBit (page .pwr 0) 3] (s.withSlow d on).slowFollow (s.slowSwitched d on) :=
  OnlyFields.raiseIf _ _ _ _ (by simp)

theorem State.slowSwitched_frame (s : State) (d : Nat) (on : Bool) :
    OnlyFields slowFields (s.withSlow d on) (s.slowSwitched d on) :=
  ((s.withSlow d on).slowFollow_frame.mono (by simp [slowFields])).trans
    ((s.slowSwitched_raise_frame d on).mono (by simp [slowFields]))

theorem State.slowChange_frame {s : State} (h : s.power.aonOn = true) (d : Nat) (on : Bool) :
    OnlyFields slowFields (s.withSlow d on) (s.slowChange d on) := by
  rw [State.slowChange_eq h]
  exact (s.slowSwitched_frame d on).trans ((State.slowMissed_frame _).mono (by simp [slowFields]))

/-- SLOW_STAT's selection after a change is what `slowFollow` shows. -/
theorem State.slowChange_get {s : State} (h : s.power.aonOn = true) (d : Nat) (on : Bool) {g : FieldRef} (ok : g.ok)
    (hr : (rawBit (page .pwr 0) 3).apart g) (hl : Reg.PWR.SLOW_STAT.SLOW_LOST.apart g) :
    (s.slowChange d on).get g = (s.withSlow d on).slowFollow.get g := by
  rw [State.slowChange_eq h, (State.slowMissed_frame _).get ok (by simpa using hl),
    (s.slowSwitched_raise_frame d on).get ok (by simpa using hr)]

theorem State.slowChange_slowRuns {s : State} (h : s.power.aonOn = true) (d : Nat) (on : Bool) (e : Nat) :
    (s.slowChange d on).slowRuns e = (s.withSlow d on).slowRuns e := by
  rw [(State.slowChange_frame h d on).1]
  rfl

/-- The selection after a change names door e: SLOW_STAT shows e, and whether it toggles. -/
theorem State.slowChange_selects {s : State} (h : s.power.aonOn = true) {d e : Nat} {on : Bool}
    (hs : (s.withSlow d on).slowDoor = some e) (he : e < 4) :
    (s.slowChange d on).get Reg.PWR.SLOW_STAT.DOOR = e ∧
      (s.slowChange d on).get Reg.PWR.SLOW_STAT.VALID = if (s.slowChange d on).slowRuns e then 1 else 0 := by
  rw [State.slowChange_get h d on (by decide) (by decide) (by decide),
    State.slowChange_get h d on (by decide) (by decide) (by decide), State.slowChange_slowRuns h]
  exact State.slowFollow_some hs he

theorem State.slowChange_selects_none {s : State} (h : s.power.aonOn = true) {d : Nat} {on : Bool}
    (hs : (s.withSlow d on).slowDoor = none) : (s.slowChange d on).get Reg.PWR.SLOW_STAT.VALID = 0 := by
  rw [State.slowChange_get h d on (by decide) (by decide) (by decide)]
  exact State.slowFollow_none hs

/-- A fixed selection (R65). -/
theorem State.slowDoor_fixed {s : State} (h : s.get Reg.PWR.SLOW_CFG.SEL < 4) :
    s.slowDoor = some (s.get Reg.PWR.SLOW_CFG.SEL) := if_pos h

/-- AUTO (R65). -/
theorem State.slowDoor_auto {s : State} (h : 4 ≤ s.get Reg.PWR.SLOW_CFG.SEL) :
    s.slowDoor = s.prio.find? (fun k => s.slowRuns k) := if_neg (Nat.not_lt.2 h)

/-- AUTO after a change follows the doors that toggle then. -/
theorem State.withSlow_slowDoor_auto {s : State} (h : s.power.aonOn = true) (d : Nat) (on : Bool)
    (hsel : 4 ≤ s.get Reg.PWR.SLOW_CFG.SEL) :
    (s.withSlow d on).slowDoor = s.prio.find? (fun k => (s.slowChange d on).slowRuns k) := by
  rw [funext (State.slowChange_slowRuns h d on)]
  exact State.slowDoor_auto hsel

/-- R69: the SLOWCLK in use stops while the clocks run. -/
theorem State.slowChange_raises {s : State} (h : s.power.aonOn = true) {d : Nat}
    (hv : s.get Reg.PWR.SLOW_STAT.VALID = 1) (hd : s.get Reg.PWR.SLOW_STAT.DOOR = d) (hon : s.clockOn = true) :
    (s.slowChange d false).isRaised (page .pwr 0) 3 := by
  have hclock : (s.withSlow d false).slowFollow.clockOn = true :=
    ((s.withSlow d false).slowFollow_frame.clockOn_eq (by decide)).trans hon
  have hloses : s.slowLoses d false = true := by simp only [State.slowLoses, State.bit, hv, hd, hclock, beq_self_eq_true]; rfl
  have hraised : (s.slowSwitched d false).isRaised (page .pwr 0) 3 := by
    rw [State.slowSwitched, hloses]
    exact State.isRaised_raise _ _ (by decide)
  rw [State.slowChange_eq h, State.isRaised, (State.slowMissed_frame _).get (by decide) (by decide)]
  exact hraised

/-- R69: none toggles while the always-on domain counts. -/
theorem State.slowChange_sets_lost {s : State} (h : s.power.aonOn = true) {d : Nat} {on : Bool} (ha : s.aonCounts = true)
    (hv : (s.slowChange d on).get Reg.PWR.SLOW_STAT.VALID = 0) :
    (s.slowChange d on).get Reg.PWR.SLOW_STAT.SLOW_LOST = 1 := by
  have hcounts : (s.slowSwitched d on).aonCounts = true :=
    ((s.slowSwitched_frame d on).aonCounts_eq (by decide)).trans ha
  rw [State.slowChange_eq h] at hv ⊢
  rw [(State.slowMissed_frame _).get (by decide) (by decide)] at hv
  exact State.slowMissed_sets hcounts hv

/-- Both rows answer by the change of their door's SLOWCLK. -/
theorem exec_slow_row {i : Instr} {on : Bool} {d : DoorNo} {s : State}
    (hi : (i = .slowclkLost d ∧ on = false) ∨ (i = .slowclkReturn d ∧ on = true)) (h : s.power.aonOn = true) :
    exec i s = .next (s.slowChange d on) := by
  have hrun : run s (s.slowChange d on) = .next (s.slowChange d on) :=
    run_eq (State.slowChange_frame h d on).tick_eq (State.slowChange_frame h d on).pending_eq
  rcases hi with ⟨rfl, rfl⟩ | ⟨rfl, rfl⟩
  · exact hrun
  · exact hrun

/-- Settles O5: a counted cycle differs from the counted state by the wake timer's mark alone; a change of a door's SLOWCLK is
followed through `slowFollow`, the raise and `slowMissed`, each of which writes its own fields. The flag of a device in standby
(log entry 26) and the order of PRIO there (log entry 24) are the model's choice. -/
theorem slowClockCountsAndFollows : Obligations.SlowClockCountsAndFollows := by
  refine ⟨fun s ha hv => ?_, fun i on d s hi h => ?_⟩
  · have hframe := s.slowCounted.wakeTimer_frame
    have hregs : s.slowCounted.regs = s.regs := s.counted_regs _ _
    refine ⟨s.slowCounted.wakeTimer, execSlowclkCycle_counts ha hv, hframe.tick_eq.trans (s.counted_tick _ _),
      hframe.eq_of_counted, fun hoff => ?_, (FieldsKept.of_regs hregs).trans hframe.2⟩
    have hoff' : s.slowCounted.bit Reg.PRF.WAKE_CFG.TIMER_EN = false := (s.counted_bit _ _ _).trans hoff
    rw [State.wakeTimer_off hoff', hregs]
  · obtain ⟨hstate, hfields⟩ := State.slowChange_frame h d on
    refine ⟨s.slowChange d on, exec_slow_row hi h, hstate, fun hsel => ?_, fun hsel => ⟨fun e he => ?_, fun he => ?_⟩,
      ?_, ?_, hfields⟩
    · exact State.slowChange_selects h (State.slowDoor_fixed (s := s.withSlow d on) hsel) hsel
    · have hdoor := (State.withSlow_slowDoor_auto h d on hsel).trans he
      obtain ⟨hshown, hvalid⟩ := State.slowChange_selects h hdoor (State.lt_of_mem_prio (List.mem_of_find?_eq_some he))
      exact ⟨hshown, hvalid.trans (if_pos (List.find?_some he))⟩
    · exact State.slowChange_selects_none h ((State.withSlow_slowDoor_auto h d on hsel).trans he)
    · rintro rfl hv hd hon
      exact State.slowChange_raises h hv hd hon
    · exact fun _ ha hv => State.slowChange_sets_lost h ha hv

end Sys2Proof.Machine
end

section
/-! PROOFS. Serial word starts and the records of stroke-class channels (chapter 3: R95, R102), with what one cart
changes (R272, R274, R422). -/

section
open Sys2Proof Sys2Proof.Machine

/-! ### Frames of an input channel -/

theorem InpFrame.setInp (ch : Nat) (fs : List FieldRef) (s : State) (v : InpCh) : InpFrame ch fs s (s.setInp ch v) :=
  ⟨rfl, fun k hk => (s.setInp_inpCh ch v k).trans (if_neg hk), FieldsKept.of_regs (s.setInp_regs ch v)⟩

theorem InpFrame.of_fields {fs : List FieldRef} {s t : State} (h : OnlyFields fs s t) (ch : Nat) : InpFrame ch fs s t := by
  have hinp : t.inp = s.inp := by rw [h.1]
  refine ⟨?_, fun k _ => by rw [State.inpCh, State.inpCh, hinp], h.2⟩
  rw [hinp]
  exact h.1

theorem InpFrame.trans {ch : Nat} {fs : List FieldRef} {s t u : State} (h : InpFrame ch fs s t) (k : InpFrame ch fs t u) :
    InpFrame ch fs s u := by
  obtain ⟨hst, hothers, hkept⟩ := h
  obtain ⟨htu, hothers', hkept'⟩ := k
  exact ⟨by rw [htu, hst], fun n hn => (hothers' n hn).trans (hothers n hn), hkept.trans hkept'⟩

theorem InpFrame.carts_eq {ch : Nat} {fs : List FieldRef} {s t : State} (h : InpFrame ch fs s t) : t.carts = s.carts := by
  rw [h.1]

theorem InpFrame.recd_eq {ch : Nat} {fs : List FieldRef} {s t : State} (h : InpFrame ch fs s t) : t.recd = s.recd := by
  rw [h.1]

theorem InpFrame.run_eq {ch : Nat} {fs : List FieldRef} {s t : State} (h : InpFrame ch fs s t) : run s t = .next t :=
  Sys2Proof.Machine.run_eq (by rw [h.1]) (by rw [h.1])

end

namespace Sys2Proof.Machine

/-! ### One cart (R272, R274) -/

/-- Nothing of the state differs but carts and record counters. -/
def OnlyCarts (s t : State) : Prop := t = { s with carts := t.carts, recd := { s.recd with seq := t.recd.seq } }

theorem OnlyCarts.refl (s : State) : OnlyCarts s s := rfl

theorem OnlyCarts.regs_eq {s t : State} (h : OnlyCarts s t) : t.regs = s.regs := by rw [h]

theorem OnlyCarts.inp_eq {s t : State} (h : OnlyCarts s t) : t.inp = s.inp := by rw [h]

theorem OnlyCarts.inpCh_eq {s t : State} (h : OnlyCarts s t) (k : Nat) : t.inpCh k = s.inpCh k := by
  rw [State.inpCh, State.inpCh, h.inp_eq]

theorem OnlyCarts.get_eq {s t : State} (h : OnlyCarts s t) (f : FieldRef) : t.get f = s.get f := by
  rw [State.get, State.get, State.reg, State.reg, h.regs_eq]

theorem OnlyCarts.isRaised_iff {s t : State} (h : OnlyCarts s t) (p k : Nat) : t.isRaised p k ↔ s.isRaised p k := by
  rw [State.isRaised, State.isRaised, h.get_eq]

/-- The types of cart whose records have no number (R274): PAD, UNIT, LOSS and OVERFLOW. -/
def unnumbered (typ : Nat) : Bool := typ == 0x00 || typ == 0x01 || typ == 0x12 || typ == 0x13

theorem State.cart_recd_unnumbered (s : State) {typ : Nat} (cls at_ wheel : Nat) (body : List Quad)
    (hn : unnumbered typ = true) : (s.cart typ cls at_ wheel body).recd = s.recd := if_pos hn

theorem State.cart_recd_numbered (s : State) {typ : Nat} (cls at_ wheel : Nat) (body : List Quad)
    (hn : unnumbered typ = false) : (s.cart typ cls at_ wheel body).recd =
      { s.recd with seq := s.recd.seq.set (fun _ => 0) cls ((s.seqOf cls + 1) % 2 ^ 32) } :=
  if_neg (Bool.eq_false_iff.1 hn)

theorem State.cart_onlyCarts (s : State) (typ cls at_ wheel : Nat) (body : List Quad) :
    OnlyCarts s (s.cart typ cls at_ wheel body) := by
  have hrecd : (s.cart typ cls at_ wheel body).recd =
      { s.recd with seq := (s.cart typ cls at_ wheel body).recd.seq } := by
    cases hn : unnumbered typ with
    | true => rw [s.cart_recd_unnumbered cls at_ wheel body hn]
    | false => rw [s.cart_recd_numbered cls at_ wheel body hn]
  rw [OnlyCarts, ← hrecd]
  rfl

/-- The cart of a numbered type takes its class's number, which advances. -/
theorem State.cart_oneCart (s : State) {typ : Nat} (cls at_ wheel : Nat) (body : List Quad) (hn : unnumbered typ = false) :
    OneCart typ cls at_ s (s.cart typ cls at_ wheel body) := by
  have hseq : ∀ k, (s.cart typ cls at_ wheel body).seqOf k = if k = cls then (s.seqOf cls + 1) % 2 ^ 32 else s.seqOf k := by
    intro k
    rw [State.seqOf, s.cart_recd_numbered cls at_ wheel body hn]
    exact Sparse.get_set _ _ _ _ _
  exact ⟨_, rfl, rfl, rfl, rfl, rfl, rfl, (hseq cls).trans (if_pos rfl), fun k hk => (hseq k).trans (if_neg hk)⟩

/-- A cart counts as one of any state with the same carts and record counters. -/
theorem OneCart.of_same {typ cls at_ : Nat} {s u t : State} (h : OneCart typ cls at_ u t) (hc : u.carts = s.carts)
    (hr : u.recd = s.recd) : OneCart typ cls at_ s t := by
  simpa only [OneCart, State.seqOf, hc, hr] using h

/-! ### Provenance of serial words (R422) -/

theorem State.provSerial_off {s : State} (h : s.provOn = false) (ch outcome bits t : Nat) :
    s.provSerial ch outcome bits t = s := by
  rw [State.provSerial, h]; rfl

theorem State.provSerial_on {s : State} (h : s.provOn = true) (ch outcome bits t : Nat) :
    OneCart 0x22 s.provCls t s (s.provSerial ch outcome bits t) := by
  rw [State.provSerial, h]
  exact s.cart_oneCart _ _ _ _ rfl

theorem State.provSerial_onlyCarts (s : State) (ch outcome bits t : Nat) : OnlyCarts s (s.provSerial ch outcome bits t) := by
  unfold State.provSerial
  split
  · exact OnlyCarts.refl s
  · exact s.cart_onlyCarts _ _ _ _ _

/-- Provenance stands where neither the device state nor the recorder changes. -/
theorem provOn_eq_of {s t : State} (hd : t.devState = s.devState) (hr : t.recd = s.recd) : t.provOn = s.provOn := by
  rw [State.provOn, State.provOn, hd, hr]

/-! ### Serial word starts (R95) -/

/-- A serial channel stands at a boundary that its PERIOD divides. -/
def State.wordDue (s : State) (ch : Nat) : Prop :=
  s.scanning = true ∧ ((s.inpCh ch).mode = 4 ∨ (s.inpCh ch).mode = 5) ∧
    s.tick % s.get (Reg.INP.SER_TIMING.PERIOD ch) = 0

/-- The word that starts now, with the settings in force (R95, R98). -/
def State.newWord (s : State) (ch : Nat) : SerWord where
  latch := s.now
  cyc := s.clk.cyc
  limit := none
  lastBit := none
  div := s.get (Reg.INP.SER_CFG.DIV ch)
  dly := s.get (Reg.INP.SER_CFG.SAMPLE_DLY ch)
  biss := (s.inpCh ch).mode == 4
  bits := s.get (Reg.INP.SER_CFG.BITS ch)
  gray := s.bit (Reg.INP.CFG.SER_GRAY ch)
  parity := s.bit (Reg.INP.CFG.SER_PARITY ch)
  timeout := s.get (Reg.INP.SER_TIMING.TIMEOUT ch)
  comp := Machine.signed 16 (s.get (Reg.INP.SER_LAT_COMP.COMP ch))

/-- The state after a start, with its word in progress. -/
def State.wordBegun (s : State) (ch : Nat) : State :=
  (s.setInp ch { s.inpCh ch with word := some (s.newWord ch) }).put (Reg.INP.CH_STAT.WORD_BUSY ch) 1

/-- The state after a skipped start, before its provenance. -/
def State.wordSkipped (s : State) (ch : Nat) : State :=
  (((s.put (Reg.INP.CH_STAT.SER_SKIP ch) 1).bump (Reg.INP.SKIP_CNT.COUNT ch)).raise (page .inp ch) 11).setInp ch
    { s.inpCh ch with noPeriod := true }

theorem State.wordStart_not_due {s : State} {ch : Nat} (h : s.tick % s.get (Reg.INP.SER_TIMING.PERIOD ch) ≠ 0) (aHigh : Bool) :
    s.wordStart ch aHigh = s := if_pos (.inr (.inr h))

/-- None of the conditions that make SERIAL_WORD_START no event holds where a start is due. -/
theorem State.wordDue.is_event {s : State} {ch : Nat} (h : s.wordDue ch) :
    ¬ ((!s.scanning) = true ∨ (!((s.inpCh ch).mode == 4 || (s.inpCh ch).mode == 5)) = true ∨
      s.tick % s.get (Reg.INP.SER_TIMING.PERIOD ch) ≠ 0) := by
  obtain ⟨hscan, hmode, htick⟩ := h
  rintro (hoff | hother | hnot)
  · simp [hscan] at hoff
  · rcases hmode with hmode | hmode <;> simp [hmode] at hother
  · exact hnot htick

theorem State.wordStart_begins {s : State} {ch : Nat} (h : s.wordDue ch) (hw : (s.inpCh ch).word = none) :
    s.wordStart ch true = s.wordBegun ch := by
  have hfree : ¬ ((s.inpCh ch).word.isSome = true ∨ (!true) = true) := by simp [hw]
  unfold State.wordStart
  dsimp only
  rw [if_neg h.is_event, if_neg hfree]
  rfl

theorem State.wordStart_skips {s : State} {ch : Nat} {aHigh : Bool} (h : s.wordDue ch)
    (hw : (s.inpCh ch).word ≠ none ∨ aHigh = false) :
    s.wordStart ch aHigh = (s.wordSkipped ch).provSerial ch 6 0 s.now := by
  have hbusy : (s.inpCh ch).word.isSome = true ∨ (!aHigh) = true := by
    simpa [Option.isSome_iff_ne_none] using hw
  unfold State.wordStart
  dsimp only
  rw [if_neg h.is_event, if_pos hbusy, State.wordSkipped, State.onInp_eq, State.raise_inpCh, State.bump_eq, State.put_inpCh,
    State.put_inpCh]
  simp only [State.now, State.raise_tick, State.put_tick]

theorem State.wordBegun_inpCh (s : State) (ch : Nat) :
    (s.wordBegun ch).inpCh ch = { s.inpCh ch with word := some (s.newWord ch) } := by
  rw [State.wordBegun, State.put_inpCh, State.setInp_inpCh, if_pos rfl]

theorem State.wordBegun_busy (s : State) (ch : Nat) : (s.wordBegun ch).get (Reg.INP.CH_STAT.WORD_BUSY ch) = 1 :=
  State.get_put_self _ 1 (by simp [FieldRef.ok])

theorem State.wordBegun_frame (s : State) (ch : Nat) : InpFrame ch [Reg.INP.CH_STAT.WORD_BUSY ch] s (s.wordBegun ch) :=
  (InpFrame.setInp ch _ s _).trans (.of_fields (OnlyFields.put _ 1 (by simp) (by simp [FieldRef.ok])) ch)

/-- What a skipped start writes. -/
def skipFields (ch : Nat) : List FieldRef :=
  [Reg.INP.CH_STAT.SER_SKIP ch, Reg.INP.SKIP_CNT.COUNT ch, rawBit (page .inp ch) 11]

theorem State.wordSkipped_inpCh (s : State) (ch : Nat) :
    (s.wordSkipped ch).inpCh ch = { s.inpCh ch with noPeriod := true } := by
  rw [State.wordSkipped, State.setInp_inpCh, if_pos rfl]

theorem State.wordSkipped_frame (s : State) (ch : Nat) : InpFrame ch (skipFields ch) s (s.wordSkipped ch) := by
  have hflagged := OnlyFields.put (fs := skipFields ch) (f := Reg.INP.CH_STAT.SER_SKIP ch) s 1 (by simp [skipFields])
    (by simp [FieldRef.ok])
  have hcounted := hflagged.then_put (f := Reg.INP.SKIP_CNT.COUNT ch)
    (min (Reg.INP.SKIP_CNT.COUNT ch).top ((s.put (Reg.INP.CH_STAT.SER_SKIP ch) 1).get (Reg.INP.SKIP_CNT.COUNT ch) + 1))
    (by simp [skipFields]) (by simp [FieldRef.ok])
  exact (InpFrame.of_fields (hcounted.then_raise (page .inp ch) 11 (by simp [skipFields])) ch).trans (.setInp ch _ _ _)

theorem State.wordSkipped_flag (s : State) (ch : Nat) : (s.wordSkipped ch).get (Reg.INP.CH_STAT.SER_SKIP ch) = 1 := by
  rw [State.wordSkipped, State.setInp_get, State.get_raise_ne _ (by simp [Block.base]; omega), State.bump_eq,
    State.get_put_apart _ _ (by simp [FieldRef.ok]) (by simp [FieldRef.apart])]
  exact State.get_put_self s 1 (by simp [FieldRef.ok])

theorem State.wordSkipped_raises (s : State) (ch : Nat) : (s.wordSkipped ch).isRaised (page .inp ch) 11 := by
  rw [State.wordSkipped, State.isRaised, State.setInp_get]
  exact State.isRaised_raise _ _ (by decide)

theorem State.wordSkipped_counts (s : State) (ch : Nat) :
    (s.wordSkipped ch).get (Reg.INP.SKIP_CNT.COUNT ch) =
      min (Reg.INP.SKIP_CNT.COUNT ch).top (s.get (Reg.INP.SKIP_CNT.COUNT ch) + 1) := by
  have hcount : (s.put (Reg.INP.CH_STAT.SER_SKIP ch) 1).get (Reg.INP.SKIP_CNT.COUNT ch) = s.get (Reg.INP.SKIP_CNT.COUNT ch) :=
    s.get_put_apart 1 (by simp [FieldRef.ok]) (by simp [FieldRef.apart])
  rw [State.wordSkipped, State.setInp_get, State.get_raise_ne _ (by simp [Block.base]; omega), State.bump_eq, hcount,
    State.get_put_self _ _ (by simp [FieldRef.ok])]
  exact Nat.mod_eq_of_lt (Nat.lt_of_le_of_lt (Nat.min_le_left _ _) (by simp [FieldRef.top]))

/-- A field outside the input channels' pages reads as before a skipped start. -/
theorem State.wordSkipped_get {s : State} {ch : Nat} (hch : ch < 48) {g : FieldRef} (ok : g.ok)
    (hg : g.addr < page .inp 0 ∨ page .inp 48 ≤ g.addr) : (s.wordSkipped ch).get g = s.get g := by
  obtain ⟨-, -, hkept⟩ := s.wordSkipped_frame ch
  refine hkept.get ok fun f hf => .inl ?_
  simp only [skipFields, List.mem_cons, List.not_mem_nil, or_false] at hf
  simp only [page, Block.base] at hg
  rcases hf with rfl | rfl | rfl
  · simp only [Reg.INP.CH_STAT.SER_SKIP]; omega
  · simp only [Reg.INP.SKIP_CNT.COUNT]; omega
  · simp only [rawBit, page, Block.base]; omega

theorem State.wordSkipped_provOn {s : State} {ch : Nat} (hch : ch < 48) : (s.wordSkipped ch).provOn = s.provOn :=
  provOn_eq_of (State.wordSkipped_get hch (by decide) (by decide)) (s.wordSkipped_frame ch).recd_eq

theorem State.wordSkipped_provCls {s : State} {ch : Nat} (hch : ch < 48) : (s.wordSkipped ch).provCls = s.provCls :=
  State.wordSkipped_get hch (by decide) (by decide)

/-- The state after a skipped start (R96, R422). -/
def State.wordPassedOver (s : State) (ch : Nat) : State := (s.wordSkipped ch).provSerial ch 6 0 s.now

theorem State.wordPassedOver_onlyCarts (s : State) (ch : Nat) : OnlyCarts (s.wordSkipped ch) (s.wordPassedOver ch) :=
  State.provSerial_onlyCarts _ _ _ _ _

theorem State.wordPassedOver_off {s : State} {ch : Nat} (hch : ch < 48) (hoff : s.provOn = false) :
    (s.wordPassedOver ch).carts = s.carts := by
  rw [State.wordPassedOver, State.provSerial_off ((State.wordSkipped_provOn hch).trans hoff), (s.wordSkipped_frame ch).carts_eq]

theorem State.wordPassedOver_on {s : State} {ch : Nat} (hch : ch < 48) (hon : s.provOn = true) :
    OneCart 0x22 s.provCls s.now s (s.wordPassedOver ch) := by
  have hcart := State.provSerial_on ((State.wordSkipped_provOn hch).trans hon) ch 6 0 s.now
  rw [State.wordSkipped_provCls hch] at hcart
  exact hcart.of_same (s.wordSkipped_frame ch).carts_eq (s.wordSkipped_frame ch).recd_eq

theorem State.wordPassedOver_state (s : State) (ch : Nat) :
    s.wordPassedOver ch =
      { s with regs := (s.wordPassedOver ch).regs, inp := (s.wordPassedOver ch).inp, carts := (s.wordPassedOver ch).carts,
               recd := { s.recd with seq := (s.wordPassedOver ch).recd.seq } } := by
  have hcarts := s.wordPassedOver_onlyCarts ch
  obtain ⟨hstate, -, -⟩ := s.wordSkipped_frame ch
  rw [hcarts.regs_eq, hcarts.inp_eq]
  generalize s.wordPassedOver ch = u at hcarts ⊢
  rw [hcarts, hstate]

theorem State.wordPassedOver_kept (s : State) (ch : Nat) : FieldsKept (skipFields ch) s (s.wordPassedOver ch) := by
  obtain ⟨-, -, hkept⟩ := s.wordSkipped_frame ch
  exact hkept.trans (FieldsKept.of_regs (s.wordPassedOver_onlyCarts ch).regs_eq)

/-- Settles O12: a start that is due begins its word with the settings in force (R98), or is skipped with its flags and its
count, the next delivery without a period (R96), and its cart (R422); nothing is due where PERIOD does not divide the boundary. -/
theorem serialWordStartsOrIsSkipped : Obligations.SerialWordStartsOrIsSkipped := by
  refine ⟨fun ch s hscan hmode htick hw => ?_, fun ch aHigh s hscan hmode htick hw => ?_, fun ch aHigh s htick => ?_⟩
  · have hstart : s.wordStart ch true = s.wordBegun ch := State.wordStart_begins ⟨hscan, hmode, htick⟩ hw
    exact ⟨s.wordBegun ch, (congrArg (run s) hstart).trans (s.wordBegun_frame ch).run_eq, s.wordBegun_inpCh ch,
      s.wordBegun_busy ch, s.wordBegun_frame ch⟩
  · have hstart : s.wordStart ch aHigh = s.wordPassedOver ch := State.wordStart_skips ⟨hscan, hmode, htick⟩ hw
    have hstate := s.wordPassedOver_state ch
    have hcarts := s.wordPassedOver_onlyCarts ch
    obtain ⟨-, hothers, -⟩ := s.wordSkipped_frame ch
    refine ⟨s.wordPassedOver ch, (congrArg (run s) hstart).trans (run_eq (by rw [hstate]) (by rw [hstate])), ?_, ?_, ?_, ?_, ?_,
      State.wordPassedOver_off ch.isLt, State.wordPassedOver_on ch.isLt, hstate, s.wordPassedOver_kept ch⟩
    · exact (hcarts.inpCh_eq ch).trans (s.wordSkipped_inpCh ch)
    · exact (hcarts.get_eq _).trans (s.wordSkipped_flag ch)
    · exact (hcarts.isRaised_iff _ _).2 (s.wordSkipped_raises ch)
    · exact (hcarts.get_eq _).trans (s.wordSkipped_counts ch)
    · exact fun k hk => (hcarts.inpCh_eq k).trans (hothers k hk)
  · exact (congrArg (run s) (State.wordStart_not_due htick aHigh)).trans (run_eq rfl rfl)

/-! ### Records of stroke-class channels (R102) -/

/-- What belongs to the Apply phase of the tick about to begin works on that tick's opened state. -/
theorem State.early_running {s : State} (h : s.clk.running = true) (f : State → State) :
    s.early f = { f s.nextTick with tick := s.tick } := by
  rw [State.early, h]; rfl

/-- A stroke-class channel stands, with a pair not yet recorded, at a boundary that STROKE_REC divides. -/
def State.strokeDue (s : State) (ch : Nat) : Prop :=
  s.wheelClass ch = false ∧ s.get (Reg.INP.STROKE_REC.PERIOD ch) ≠ 0 ∧
    s.tick % s.get (Reg.INP.STROKE_REC.PERIOD ch) = 0 ∧ (s.inpCh ch).fresh = true

/-- The body of a STROKE cart (R102). -/
def State.strokeBody (s : State) (ch : Nat) : List Quad :=
  [quad [(58, 6, ch), (57, 1, if (s.inpCh ch).latchDir then 1 else 0), (56, 1, s.get (Reg.INP.CH_STAT.LIM_LO ch)),
    (55, 1, s.get (Reg.INP.CH_STAT.LIM_HI ch)), (0, 32, s.get (Reg.INP.LATCH_POS.POS ch))]]

/-- The channel's pair counts as recorded. -/
def State.strokeTaken (s : State) (ch : Nat) : State := s.setInp ch { s.inpCh ch with fresh := false }

/-- The state after a record, with its cart. -/
def State.strokeRecorded (s : State) (ch : Nat) : State :=
  (s.strokeTaken ch).cart 0x05 s.strokeCls (s.inpCh ch).latchTs 63 (s.strokeBody ch)

theorem State.strokeRecord_due {s : State} {ch : Nat} (hscan : s.scanning = true) (hshut : s.shut (page .inp ch) = false)
    (h : s.strokeDue ch) : s.strokeRecord ch = s.strokeRecorded ch := by
  obtain ⟨hclass, hper, htick, hfresh⟩ := h
  refine if_neg ?_
  rintro (hoff | hwheel | hzero | hnot | hold | hclosed)
  · simp [hscan] at hoff
  · simp [hclass] at hwheel
  · exact hper hzero
  · exact hnot htick
  · simp [hfresh] at hold
  · exact absurd hclosed (Bool.eq_false_iff.1 hshut)

theorem State.strokeRecord_not_due {s : State} {ch : Nat} (h : ¬ s.strokeDue ch) : s.strokeRecord ch = s := by
  refine if_pos ?_
  by_contra hnone
  simp only [not_or, Bool.not_eq_true, Bool.not_eq_false', ne_eq, not_not] at hnone
  obtain ⟨-, hclass, hper, htick, hfresh, -⟩ := hnone
  exact h ⟨hclass, hper, htick, hfresh⟩

theorem State.strokeRecorded_onlyCarts (s : State) (ch : Nat) : OnlyCarts (s.strokeTaken ch) (s.strokeRecorded ch) :=
  State.cart_onlyCarts _ _ _ _ _ _

theorem State.strokeRecorded_oneCart (s : State) (ch : Nat) :
    OneCart 0x05 s.strokeCls (s.inpCh ch).latchTs s (s.strokeRecorded ch) :=
  ((s.strokeTaken ch).cart_oneCart _ _ _ _ rfl).of_same (s.setInp_carts ch _) (s.setInp_recd ch _)

theorem State.strokeRecorded_inpCh (s : State) (ch k : Nat) :
    (s.strokeRecorded ch).inpCh k = if k = ch then { s.inpCh ch with fresh := false } else s.inpCh k :=
  ((s.strokeRecorded_onlyCarts ch).inpCh_eq k).trans (s.setInp_inpCh ch _ k)

theorem State.strokeRecorded_state (s : State) (ch : Nat) :
    s.strokeRecorded ch =
      { s with inp := (s.strokeRecorded ch).inp, carts := (s.strokeRecorded ch).carts,
               recd := { s.recd with seq := (s.strokeRecorded ch).recd.seq } } := by
  have hcarts := s.strokeRecorded_onlyCarts ch
  rw [hcarts.inp_eq]
  exact hcarts

/-- STROKE_RECORD works in the tick about to begin; the counter and the queue stay. -/
theorem exec_strokeRecord {s : State} (h : s.clk.running = true) (ch : ChNo) :
    exec (.strokeRecord ch) s = .next { s.nextTick.strokeRecord ch with tick := s.tick, pending := s.pending } :=
  (congrArg (run s) (State.early_running h fun s => s.strokeRecord ch)).trans rfl

/-- Settles O14: the record is made, or not, in the state that the next boundary opens. That the boundary is that of the tick
about to begin is the model's choice (log entry 13). -/
theorem strokeIsRecorded : Obligations.StrokeIsRecorded := by
  intro ch s hrun hscan hshut
  refine ⟨_, exec_strokeRecord hrun ch, rfl, ?_⟩
  split
  next hdue =>
    rw [State.strokeRecord_due hscan hshut hdue]
    refine ⟨s.nextTick.strokeRecorded_oneCart ch, ?_, fun k hk => ?_, ?_⟩
    · exact (s.nextTick.strokeRecorded_inpCh ch ch).trans (if_pos rfl)
    · exact (s.nextTick.strokeRecorded_inpCh ch k).trans (if_neg hk)
    · exact congrArg (fun t : State => { t with tick := s.tick, pending := s.pending }) (s.nextTick.strokeRecorded_state ch)
  next hnot => rw [State.strokeRecord_not_due hnot]

end Sys2Proof.Machine
end

section
/-! PROOFS. Claims, EOI and exits of the interrupt controller (chapter 12: R307, R308, R314 to R317). -/

namespace Sys2Proof.Machine

/-! ### Masks of doors, and what a table lists -/

theorem hasBit_setBit_false (w k : Nat) : hasBit (setBit w k false) k = false := by
  unfold setBit
  by_cases h : hasBit w k = true
  · have hle : 2 ^ k ≤ w := by
      by_contra hlt
      simp [hasBit, Nat.div_eq_of_lt (Nat.not_le.1 hlt)] at h
    have hdiv : (w - 2 ^ k) / 2 ^ k = w / 2 ^ k - 1 := by
      simpa using Nat.sub_mul_div w (2 ^ k) 1
    rw [if_neg (by simp [h]), if_neg (by simp), hasBit, hdiv]
    simp only [hasBit, beq_iff_eq] at h
    simp only [beq_eq_false_iff_ne]
    omega
  · simp [h]

theorem Sparse.ne_of_mem_erase {α : Type} {m : Sparse α} {k : Nat} {e : Nat × α} (h : e ∈ m.erase k) : e.1 ≠ k := by
  induction m with
  | nil => simp [Sparse.erase] at h
  | cons a m ih =>
    obtain ⟨j, v⟩ := a
    by_cases hj : j = k
    · simp only [Sparse.erase, hj, if_true] at h
      exact ih h
    · simp only [Sparse.erase, hj, if_false, List.mem_cons] at h
      rcases h with rfl | h
      · exact hj
      · exact ih h

/-- After a write of a key the table lists nothing else at it. -/
theorem Sparse.eq_of_mem_set {α : Type} [DecidableEq α] {dflt : Nat → α} {m : Sparse α} {k : Nat} {x : α} {e : Nat × α}
    (h : e ∈ m.set dflt k x) (hk : e.1 = k) : e.2 = x := by
  unfold Sparse.set at h
  split at h
  · exact absurd hk (Sparse.ne_of_mem_erase h)
  · rcases Sparse.mem_place h with rfl | h
    · rfl
    · exact absurd hk (Sparse.ne_of_mem_erase h)

/-! ### A served write of CLAIM or EOI -/

theorem irqd_claim_eoi_row : ∀ off ∈ [0x54, 0x58], ∀ d : DoorNo, writable (page .irqd d + off) = true ∧
    (fieldsAt (page .irqd d + off)).all (fun f => f.acc != .rwc) = true ∧
    (regRow (page .irqd d + off)).isSome = true := by decide +kernel

theorem State.busWrite_irqd {s : State} {d : DoorNo} {off : Nat} (h : s.accepts d .irqd d off) (ho : off ∈ [0x54, 0x58])
    (v : Word) : s.busWrite d (page .irqd d + off) v = s.blockWrite d .irqd d off v := by
  obtain ⟨hw, hacc, hrow⟩ := irqd_claim_eoi_row off ho d
  have hoff : off < 0x1000 ∧ 0x40 ≤ off := by
    simp only [List.mem_cons, List.not_mem_nil, or_false] at ho
    omega
  rw [State.busWrite_accepts h d.isLt hoff.1 hw, State.write_block d.isLt hoff.1 hrow hoff.2 rfl,
    State.stageReg_none _ _ _ _ (State.stageMask_none s _ v hacc), ite_self]

theorem exec_irqClaim {d : DoorNo} {s : State} (h : s.accepts d .irqd d 0x54) (v : BitVec 10) :
    exec (.irqClaim d v) s = run s (s.claim d v.toNat) := by
  have hv : Word.bits (v.setWidth 32) 9 0 = v.toNat := by
    have := v.isLt
    simp only [Word.bits, BitVec.toNat_setWidth]
    omega
  calc exec (.irqClaim d v) s = run s (s.blockWrite d .irqd d 0x54 (v.setWidth 32)) :=
        congrArg (run s) (State.busWrite_irqd h (by simp) _)
    _ = run s (s.claim d (Word.bits (v.setWidth 32) 9 0)) := rfl
    _ = run s (s.claim d v.toNat) := by rw [hv]

theorem exec_irqEoi {d : DoorNo} {s : State} (h : s.accepts d .irqd d 0x58) (k : SrcNo) :
    exec (.irqEoi d k) s = run s (s.eoi d k) := by
  have hk : Word.bits (BitVec.ofNat 32 k) 13 0 = k := by
    have := k.isLt
    simp only [Word.bits, BitVec.toNat_ofNat]
    omega
  calc exec (.irqEoi d k) s = run s (s.blockWrite d .irqd d 0x58 (BitVec.ofNat 32 k)) :=
        congrArg (run s) (State.busWrite_irqd h (by simp) _)
    _ = run s (s.eoi d (Word.bits (BitVec.ofNat 32 k) 13 0)) := rfl
    _ = run s (s.eoi d k) := by rw [hk]

/-! ### A claim that is served (R314 to R316) -/

/-- The registers that a claim whose result is its vector writes. -/
def claimFields (d : Nat) : List FieldRef :=
  [Reg.IRQD.RING_PROD.PROD d, Reg.IRQD.LAST_CLAIM.SOURCE d, Reg.IRQD.LAST_CLAIM.RESULT d, Reg.IRQD.CLAIM_CNT.COUNT d]

/-- Where door d's next ring entry goes (R315). -/
def State.ringSlot (s : State) (d : Nat) : Nat :=
  s.get (Reg.IRQD.RING_BASE_HI.ADDR d) * 2 ^ 32 + s.get (Reg.IRQD.RING_BASE_LO.ADDR d) * 4096 +
    16 * (s.get (Reg.IRQD.RING_PROD.PROD d) % s.ringSize d)

/-- Door d after it has sent one write to host memory. -/
def Door.posting (x : Door) (w : HostWrite) : Door := { x with hostWrites := x.hostWrites ++ [w] }

/-- PROD and LAST_CLAIM after a claim (R314, R315). -/
def State.claimShown (s : State) (d source result : Nat) : State :=
  ((s.put (Reg.IRQD.RING_PROD.PROD d) ((s.get (Reg.IRQD.RING_PROD.PROD d) + 1) % 65536)).put
    (Reg.IRQD.LAST_CLAIM.SOURCE d) source).put (Reg.IRQD.LAST_CLAIM.RESULT d) result

/-- The registers of the page after a claim that is not lost. -/
def State.claimCounted (s : State) (d source result : Nat) : State :=
  (s.claimShown d source result).bump (Reg.IRQD.CLAIM_CNT.COUNT d)

/-- R315: four dwords are posted where the ring's content is defined. -/
theorem State.ringPost_posts {s : State} {d result : Nat} (hjunk : (s.door d).ringJunk = false) (hlost : result ≠ 0x3FF)
    (prio source count : Nat) (lo hi : Word) :
    ∃ w : HostWrite, w.data.length = 16 ∧ w.addr = s.ringSlot d ∧
      s.ringPost d result prio source count lo hi = (s.setDoor d ((s.door d).posting w)).claimCounted d source result := by
  unfold State.ringPost
  simp only [hjunk, if_neg hlost]
  exact ⟨_, by simp [wordBytes], rfl, rfl⟩

theorem State.claimCounted_frame (s : State) (d source result : Nat) :
    OnlyFields (claimFields d) s (s.claimCounted d source result) := by
  have hprod := OnlyFields.put (fs := claimFields d) (f := Reg.IRQD.RING_PROD.PROD d) s
    ((s.get (Reg.IRQD.RING_PROD.PROD d) + 1) % 65536) (by simp [claimFields]) (by simp [FieldRef.ok])
  have hsource := hprod.then_put (f := Reg.IRQD.LAST_CLAIM.SOURCE d) source (by simp [claimFields]) (by simp [FieldRef.ok])
  have hshown : OnlyFields (claimFields d) s (s.claimShown d source result) :=
    hsource.then_put (f := Reg.IRQD.LAST_CLAIM.RESULT d) result (by simp [claimFields]) (by simp [FieldRef.ok])
  exact hshown.then_put (f := Reg.IRQD.CLAIM_CNT.COUNT d) _ (by simp [claimFields]) (by simp [FieldRef.ok])

theorem State.claimCounted_get (s : State) {d : Nat} (source result : Nat) {g : FieldRef}
    (h : (Reg.IRQD.CLAIM_CNT.COUNT d).apart g) :
    (s.claimCounted d source result).get g = (s.claimShown d source result).get g :=
  State.get_put_apart _ _ (by simp [FieldRef.ok]) h

theorem State.claimCounted_prod (s : State) (d source result : Nat) :
    (s.claimCounted d source result).get (Reg.IRQD.RING_PROD.PROD d) =
      (s.get (Reg.IRQD.RING_PROD.PROD d) + 1) % 65536 := by
  rw [State.claimCounted_get _ _ _ (by simp [FieldRef.apart]), State.claimShown,
    State.get_put_apart _ _ (by simp [FieldRef.ok]) (by simp [FieldRef.apart]),
    State.get_put_apart _ _ (by simp [FieldRef.ok]) (by simp [FieldRef.apart]), State.get_put_self _ _ (by simp [FieldRef.ok])]
  exact Nat.mod_mod _ _

theorem State.claimCounted_source (s : State) (d : Nat) {source : Nat} (result : Nat) (h : source < 2 ^ 14) :
    (s.claimCounted d source result).get (Reg.IRQD.LAST_CLAIM.SOURCE d) = source := by
  rw [State.claimCounted_get _ _ _ (by simp [FieldRef.apart]), State.claimShown,
    State.get_put_apart _ _ (by simp [FieldRef.ok]) (by simp [FieldRef.apart]), State.get_put_self _ _ (by simp [FieldRef.ok])]
  exact Nat.mod_eq_of_lt h

theorem State.claimCounted_result (s : State) (d source : Nat) {result : Nat} (h : result < 2 ^ 10) :
    (s.claimCounted d source result).get (Reg.IRQD.LAST_CLAIM.RESULT d) = result := by
  rw [State.claimCounted_get _ _ _ (by simp [FieldRef.apart]), State.claimShown, State.get_put_self _ _ (by simp [FieldRef.ok])]
  exact Nat.mod_eq_of_lt h

/-- A counter's bump saturates at its greatest value (R38). -/
theorem State.get_bump_self (s : State) {f : FieldRef} (h : f.ok) : (s.bump f).get f = min f.top (s.get f + 1) := by
  rw [State.bump_eq, State.get_put_self _ _ h]
  have : f.top < 2 ^ (f.hi + 1 - f.lo) := Nat.sub_lt (Nat.two_pow_pos _) Nat.one_pos
  exact Nat.mod_eq_of_lt (Nat.lt_of_le_of_lt (Nat.min_le_left _ _) this)

theorem State.claimCounted_count (s : State) (d source result : Nat) :
    (s.claimCounted d source result).get (Reg.IRQD.CLAIM_CNT.COUNT d) =
      min (2 ^ 32 - 1) (s.get (Reg.IRQD.CLAIM_CNT.COUNT d) + 1) := by
  have hshown : (s.claimShown d source result).get (Reg.IRQD.CLAIM_CNT.COUNT d) = s.get (Reg.IRQD.CLAIM_CNT.COUNT d) := by
    rw [State.claimShown, State.get_put_apart _ _ (by simp [FieldRef.ok]) (by simp [FieldRef.apart]),
      State.get_put_apart _ _ (by simp [FieldRef.ok]) (by simp [FieldRef.apart]),
      State.get_put_apart _ _ (by simp [FieldRef.ok]) (by simp [FieldRef.apart])]
  rw [State.claimCounted, State.get_bump_self _ (by simp [FieldRef.ok]), hshown]
  rfl

/-- A source claimed by door d (row 4 of R307). -/
def Src.claimedBy (x : Src) (d : Nat) : Src :=
  { x with out := markDoor x.out d false, withdrawn := 0, state := 3, claimer := d, due := 0, repend := false,
           claimedSince := markDoor x.claimedSince d false ||| markDoor x.out d false }

theorem State.claimEffect_vector (s : State) (k d : Nat) {result : Nat} (h : result < 0x3FC) :
    s.claimEffect k d result = s.setSrc k ((s.src k).claimedBy d) := by
  unfold State.claimEffect
  simp only [if_neg (show result ≠ 0x3FD by omega), if_pos h]
  rfl

theorem OnlyFields.src_eq {fs : List FieldRef} {s t : State} (h : OnlyFields fs s t) (k : Nat) : t.src k = s.src k := by
  have hirq : t.irq = s.irq := by rw [h.1]
  rw [State.src, State.src, hirq]

theorem OnlyFields.door_eq {fs : List FieldRef} {s t : State} (h : OnlyFields fs s t) (d : Nat) : t.door d = s.door d := by
  have hdoors : t.doors = s.doors := by rw [h.1]
  rw [State.door, State.door, hdoors]

/-- The state after the ring entry and the registers of a claim. -/
def State.claimPosted (s : State) (d v k : Nat) (w : HostWrite) : State :=
  (s.setDoor d ((s.door d).posting w)).claimCounted d k v

theorem State.claimPosted_frame (s : State) (d v k : Nat) (w : HostWrite) :
    OnlyFields (claimFields d) (s.setDoor d ((s.door d).posting w)) (s.claimPosted d v k w) :=
  State.claimCounted_frame _ _ _ _

/-- The state after a claim that takes source k, with ring entry w. -/
def State.claimTaken (s : State) (d v k : Nat) (w : HostWrite) : State :=
  (s.claimPosted d v k w).setSrc k ((s.src k).claimedBy d)

theorem State.claim_takes {s : State} {d v k : Nat} (hv : v < 0x3FC) (hen : s.get (Reg.IRQD.RING_CFG.EN d) = 1)
    (hfull : s.ringFull d = false) (hpick : s.claimPick d v = some k) (hres : s.claimResult k d v = v)
    (hjunk : (s.door d).ringJunk = false) :
    ∃ w : HostWrite, w.data.length = 16 ∧ w.addr = s.ringSlot d ∧ s.claim d v = s.claimTaken d v k w := by
  have hne : v ≠ 0x3FF := by omega
  obtain ⟨w, hlen, haddr, hpost⟩ := State.ringPost_posts (result := v) hjunk hne (s.src k).prio k (s.src k).count
    (BitVec.ofNat 32 (s.src k).assert) (BitVec.ofNat 32 ((s.src k).assert / 2 ^ 32))
  refine ⟨w, hlen, haddr, ?_⟩
  have hsrc : ((s.setDoor d ((s.door d).posting w)).claimCounted d k v).src k = s.src k := rfl
  unfold State.claim
  rw [if_neg (by omega), if_neg (by omega), hfull, hpick]
  simp only [hres, if_pos hv, hpost, State.claimEffect_vector _ _ _ hv, hsrc]
  rfl

theorem State.claimTaken_eq (s : State) (d v k : Nat) (w : HostWrite) :
    s.claimTaken d v k w = (s.claimPosted d v k w).setSrc k ((s.src k).claimedBy d) := rfl

theorem State.claimTaken_get (s : State) (d v k : Nat) (w : HostWrite) (f : FieldRef) :
    (s.claimTaken d v k w).get f = (s.claimPosted d v k w).get f := State.setSrc_get _ _ _ _

theorem State.claimTaken_src (s : State) (d v k : Nat) (w : HostWrite) (j : Nat) :
    (s.claimTaken d v k w).src j = if j = k then (s.src k).claimedBy d else s.src j := by
  rw [State.claimTaken_eq, State.setSrc_src, (s.claimPosted_frame d v k w).src_eq, State.setDoor_src]

theorem State.claimTaken_door (s : State) (d v k : Nat) (w : HostWrite) (e : Nat) :
    (s.claimTaken d v k w).door e = if e = d then (s.door d).posting w else s.door e := by
  rw [State.claimTaken_eq, State.setSrc_door, (s.claimPosted_frame d v k w).door_eq, State.setDoor_door]

theorem State.claimTaken_state (s : State) (d v k : Nat) (w : HostWrite) :
    s.claimTaken d v k w =
      { s with regs := (s.claimTaken d v k w).regs, doors := (s.claimTaken d v k w).doors,
               irq := { s.irq with srcs := (s.claimTaken d v k w).irq.srcs } } := by
  obtain ⟨hposted, -⟩ := s.claimPosted_frame d v k w
  rw [State.claimTaken_eq]
  generalize s.claimPosted d v k w = t at hposted ⊢
  rw [hposted]
  rfl

theorem State.claimTaken_kept (s : State) (d v k : Nat) (w : HostWrite) :
    FieldsKept (claimFields d) s (s.claimTaken d v k w) := by
  obtain ⟨-, hkept⟩ := s.claimPosted_frame d v k w
  exact ((FieldsKept.of_regs (State.setDoor_regs s d _)).trans hkept).trans (FieldsKept.of_regs (State.setSrc_regs _ k _))

/-! ### EOI (R317) -/

/-- A source whose exit is set for a boundary, or stays set for an earlier one. -/
def Src.exiting (x : Src) (b : Nat) : Src := { x with exitAt := some (x.exitAt.getD b) }

theorem State.eoi_claimer {s : State} {d k : Nat} (hst : (s.src k).state = 3) (hcl : (s.src k).claimer = d) :
    s.eoi d k = s.setSrc k ((s.src k).exiting (s.tick + 1)) := if_pos ⟨hst, hcl⟩

/-- An EOI rejected: EOI_ERR is set and raised. -/
def State.eoiFlagged (s : State) (d : Nat) : State := (s.put (Reg.IRQD.DOOR_IRQ_STAT.EOI_ERR d) 1).raise (page .irqd d) 1

/-- An EOI rejected: the counts with it. -/
def State.eoiRejected (s : State) (d : Nat) : State :=
  ((s.eoiFlagged d).bump (Reg.IRQD.EOI_ERR_CNT.COUNT d)).err (page .irqd d)

theorem State.eoi_other {s : State} {d k : Nat} (h : (s.src k).state ≠ 3 ∨ (s.src k).claimer ≠ d) :
    s.eoi d k = s.eoiRejected d := if_neg (by tauto)

/-- The fields that a rejected EOI writes. -/
def eoiFields (d : Nat) : List FieldRef :=
  [Reg.IRQD.DOOR_IRQ_STAT.EOI_ERR d, Reg.IRQD.EOI_ERR_CNT.COUNT d, Reg.HEAD.PG_ERRCNT.COUNT (page .irqd d),
    rawBit (page .irqd d) 1]

theorem State.eoiRejected_frame (s : State) (d : Nat) : OnlyFields (eoiFields d) s (s.eoiRejected d) := by
  have hflagged : OnlyFields (eoiFields d) s (s.eoiFlagged d) :=
    (OnlyFields.put s 1 (by simp [eoiFields]) (by simp [FieldRef.ok])).then_raise _ _ (by simp [eoiFields])
  have hcounted : OnlyFields (eoiFields d) s ((s.eoiFlagged d).bump (Reg.IRQD.EOI_ERR_CNT.COUNT d)) :=
    hflagged.then_put _ (by simp [eoiFields]) (by simp [FieldRef.ok])
  exact hcounted.then_put (f := Reg.HEAD.PG_ERRCNT.COUNT (page .irqd d)) _ (by simp [eoiFields]) (by simp [FieldRef.ok])

/-- The counts of a rejected EOI change no other field. -/
theorem State.eoiRejected_get (s : State) {d : Nat} {g : FieldRef} (hc : (Reg.IRQD.EOI_ERR_CNT.COUNT d).apart g)
    (he : (Reg.HEAD.PG_ERRCNT.COUNT (page .irqd d)).apart g) : (s.eoiRejected d).get g = (s.eoiFlagged d).get g := by
  rw [State.eoiRejected, State.err_eq, State.bump_eq, State.get_put_apart _ _ (by simp [FieldRef.ok]) he, State.bump_eq,
    State.get_put_apart _ _ (by simp [FieldRef.ok]) hc]

theorem State.eoiRejected_flag (s : State) (d : Nat) : (s.eoiRejected d).get (Reg.IRQD.DOOR_IRQ_STAT.EOI_ERR d) = 1 := by
  rw [State.eoiRejected_get _ (by simp [FieldRef.apart]) (by simp [FieldRef.apart, Block.base]; omega), State.eoiFlagged,
    State.get_raise_ne _ (by simp [Block.base]; omega), State.get_put_self _ _ (by simp [FieldRef.ok])]
  rfl

theorem State.eoiRejected_raises (s : State) (d : Nat) : (s.eoiRejected d).isRaised (page .irqd d) 1 := by
  rw [State.isRaised, State.eoiRejected_get _ (by simp [FieldRef.apart, rawBit, Block.base]; omega)
    (by simp [FieldRef.apart, rawBit])]
  exact State.isRaised_raise _ _ (by decide)

theorem State.eoiRejected_count (s : State) (d : Nat) :
    (s.eoiRejected d).get (Reg.IRQD.EOI_ERR_CNT.COUNT d) =
      min (2 ^ 32 - 1) (s.get (Reg.IRQD.EOI_ERR_CNT.COUNT d) + 1) := by
  have hflagged : (s.eoiFlagged d).get (Reg.IRQD.EOI_ERR_CNT.COUNT d) = s.get (Reg.IRQD.EOI_ERR_CNT.COUNT d) := by
    rw [State.eoiFlagged, State.get_raise_ne _ (by simp [Block.base]; omega),
      State.get_put_apart _ _ (by simp [FieldRef.ok]) (by simp [FieldRef.apart])]
  rw [State.eoiRejected, State.err_eq, State.bump_eq,
    State.get_put_apart _ _ (by simp [FieldRef.ok]) (by simp [FieldRef.apart, Block.base]; omega),
    State.get_bump_self _ (by simp [FieldRef.ok]), hflagged]
  rfl

/-! ### What the controller's work at a boundary may change -/

/-- Nothing of the state differs but the doors and the sources and groups of the interrupt controller. -/
def OnlyIrq (s t : State) : Prop :=
  t = { s with doors := t.doors, irq := { s.irq with srcs := t.irq.srcs, grps := t.irq.grps } }

theorem OnlyIrq.refl (s : State) : OnlyIrq s s := rfl

theorem OnlyIrq.trans {s t u : State} (h : OnlyIrq s t) (k : OnlyIrq t u) : OnlyIrq s u := by
  unfold OnlyIrq at *
  rw [k, h]

theorem OnlyIrq.tick_eq {s t : State} (h : OnlyIrq s t) : t.tick = s.tick := by rw [h]

theorem OnlyIrq.pending_eq {s t : State} (h : OnlyIrq s t) : t.pending = s.pending := by rw [h]

theorem OnlyIrq.run_eq {s t : State} (h : OnlyIrq s t) : run s t = .next t :=
  Sys2Proof.Machine.run_eq h.tick_eq h.pending_eq

theorem OnlyIrq.setSrc (s : State) (k : Nat) (x : Src) : OnlyIrq s (s.setSrc k x) := rfl

theorem OnlyIrq.setGrp (s : State) (g : Nat) (x : Grp) : OnlyIrq s (s.setGrp g x) := rfl

theorem OnlyIrq.markDue (s : State) (k mask : Nat) : OnlyIrq s (s.markDue k mask) := rfl

theorem OnlyIrq.forEach {α : Type} {f : State → α → State} (hf : ∀ s x, OnlyIrq s (f s x)) (l : List α) (s : State) :
    OnlyIrq s (s.forEach l f) := by
  induction l generalizing s with
  | nil => exact OnlyIrq.refl s
  | cons x l ih => exact (hf s x).trans (ih (f s x))

/-! ### WAKE# of the doors touches no source -/

theorem State.wakeCheck_doors (s : State) (d : Nat) : s.wakeCheck d = { s with doors := (s.wakeCheck d).doors } := by
  unfold State.wakeCheck
  dsimp only
  split <;> rfl

theorem State.wakeChecks_doors (s : State) : s.wakeChecks = { s with doors := s.wakeChecks.doors } := by
  simp only [State.wakeChecks, State.forEach_cons, State.forEach_nil]
  rw [State.wakeCheck_doors _ 3, State.wakeCheck_doors _ 2, State.wakeCheck_doors _ 1, State.wakeCheck_doors _ 0]

theorem State.wakeChecks_irq (s : State) : s.wakeChecks.irq = s.irq := by rw [s.wakeChecks_doors]

theorem State.wakeChecks_src (s : State) (k : Nat) : s.wakeChecks.src k = s.src k := by
  rw [State.src, s.wakeChecks_irq]; rfl

theorem State.wakeChecks_grp (s : State) (g : Nat) : s.wakeChecks.grp g = s.grp g := by
  rw [State.grp, s.wakeChecks_irq]; rfl

theorem OnlyIrq.wakeChecks (s : State) : OnlyIrq s s.wakeChecks := by
  unfold OnlyIrq
  rw [s.wakeChecks_irq]
  exact s.wakeChecks_doors

/-! ### Release of a group (R307 row 3, R308, R309) -/

/-- A HELD source of a group becomes SENT and due to its targets (row 3). -/
def State.sendHeld (s : State) (k : Nat) : State :=
  (s.setSrc k { s.src k with state := 2 }).markDue k (s.src k).targets

theorem State.releaseHeld_eq (s : State) (g : Nat) : s.releaseHeld g = (s.forEach (s.heldOf g) State.sendHeld).wakeChecks := rfl

theorem State.markDue_src_ne (s : State) {j k : Nat} (mask : Nat) (h : j ≠ k) : (s.markDue k mask).src j = s.src j := by
  simp [State.markDue, h]

theorem State.sendHeld_src_ne (s : State) {j k : Nat} (h : j ≠ k) : (s.sendHeld k).src j = s.src j := by
  rw [State.sendHeld, State.markDue_src_ne _ _ h, State.setSrc_src, if_neg h]

theorem State.forEach_sendHeld_src {k : Nat} {l : List Nat} (h : k ∉ l) (s : State) :
    (s.forEach l State.sendHeld).src k = s.src k := by
  induction l generalizing s with
  | nil => rfl
  | cons j l ih =>
    obtain ⟨hj, hl⟩ := not_or.1 (List.mem_cons.not.1 h)
    rw [State.forEach_cons, ih hl, State.sendHeld_src_ne _ hj]

theorem State.forEach_sendHeld_grps (l : List Nat) (s : State) : (s.forEach l State.sendHeld).irq.grps = s.irq.grps := by
  induction l generalizing s with
  | nil => rfl
  | cons j l ih => exact ih (s.sendHeld j)

theorem State.releaseHeld_src {s : State} {g k : Nat} (h : k ∉ s.heldOf g) : (s.releaseHeld g).src k = s.src k := by
  rw [State.releaseHeld_eq, State.wakeChecks_src, State.forEach_sendHeld_src h]

theorem State.releaseHeld_grp (s : State) (g j : Nat) : (s.releaseHeld g).grp j = s.grp j := by
  rw [State.releaseHeld_eq, State.wakeChecks_grp, State.grp, State.forEach_sendHeld_grps]
  rfl

theorem OnlyIrq.releaseHeld (s : State) (g : Nat) : OnlyIrq s (s.releaseHeld g) :=
  (OnlyIrq.forEach (fun s k => (OnlyIrq.setSrc s k _).trans (OnlyIrq.markDue _ k _)) _ s).trans (OnlyIrq.wakeChecks _)

/-- R308: a HOLDOFF group is released, and its next release set, or nothing happens. -/
theorem State.holdoffRelease_cases (s : State) (g : Nat) : s.holdoffRelease g = s ∨
    (s.grp g).coalesce = false ∧
      s.holdoffRelease g = (s.releaseHeld g).setGrp g { s.grp g with release := s.tick + (s.grp g).holdoff } := by
  cases hmode : (s.grp g).coalesce with
  | true => exact .inl (if_pos (by simp [hmode]))
  | false => exact (ite_eq_or_eq _ _ _).imp_right fun hrel => ⟨rfl, hrel⟩

/-- R309: a COALESCE group is released, and its count and time start afresh, or nothing happens. -/
theorem State.coalesceRelease_cases (s : State) (g : Nat) : s.coalesceRelease g = s ∨
    (s.grp g).coalesce = true ∧
      s.coalesceRelease g = (s.releaseHeld g).setGrp g { s.grp g with events := 0, first := none } := by
  cases hmode : (s.grp g).coalesce with
  | false => exact .inl (if_pos (by simp [hmode]))
  | true => exact (ite_eq_or_eq _ _ _).imp_right fun hrel => ⟨rfl, hrel⟩

/-- The releases that a group may have at a boundary, by its mode. -/
def State.groupRelease (s : State) (g : Nat) : State := (s.holdoffRelease g).coalesceRelease g

/-- A group is released once at most, by the rule of its mode; its settings stay. -/
theorem State.groupRelease_cases (s : State) (g : Nat) : s.groupRelease g = s ∨
    ∃ y : Grp, y.cfg = (s.grp g).cfg ∧ y.time = (s.grp g).time ∧ s.groupRelease g = (s.releaseHeld g).setGrp g y := by
  unfold State.groupRelease
  rcases s.holdoffRelease_cases g with hid | ⟨hmode, hrel⟩
  · rw [hid]
    rcases s.coalesceRelease_cases g with hid' | ⟨-, hrel'⟩
    · exact .inl hid'
    · exact .inr ⟨{ s.grp g with events := 0, first := none }, rfl, rfl, hrel'⟩
  · rcases (s.holdoffRelease g).coalesceRelease_cases g with hid' | ⟨hmode', -⟩
    · exact .inr ⟨{ s.grp g with release := s.tick + (s.grp g).holdoff }, rfl, rfl, hid'.trans hrel⟩
    · rw [hrel, State.setGrp_grp, if_pos rfl] at hmode'
      exact absurd (hmode.symm.trans hmode') (by decide)

theorem State.groupRelease_src {s : State} {g k : Nat} (h : k ∉ s.heldOf g) : (s.groupRelease g).src k = s.src k := by
  rcases s.groupRelease_cases g with hid | ⟨y, -, -, hrel⟩
  · rw [hid]
  · rw [hrel, State.setGrp_src, State.releaseHeld_src h]

theorem State.groupRelease_settings (s : State) (g : Nat) :
    ((s.groupRelease g).grp g).cfg = (s.grp g).cfg ∧ ((s.groupRelease g).grp g).time = (s.grp g).time := by
  rcases s.groupRelease_cases g with hid | ⟨y, hcfg, htime, hrel⟩
  · rw [hid]
    exact ⟨rfl, rfl⟩
  · rw [hrel, State.setGrp_grp, if_pos rfl]
    exact ⟨hcfg, htime⟩

theorem OnlyIrq.groupRelease (s : State) (g : Nat) : OnlyIrq s (s.groupRelease g) := by
  rcases s.groupRelease_cases g with hid | ⟨y, -, -, hrel⟩
  · rw [hid]
    exact OnlyIrq.refl s
  · rw [hrel]
    exact (OnlyIrq.releaseHeld s g).trans (OnlyIrq.setGrp _ _ _)

/-! ### Entry into HELD (R307 rows 1 and 7) -/

/-- A source as it enters HELD at a boundary. -/
def Src.heldAt (x : Src) (tick count : Nat) : Src :=
  { x with state := 1, held := x.cfg, assert := tick, count := min 255 count, claimer := 0, repend := false }

/-- GROUP as now set, which the next entry into HELD takes over. -/
def Src.cfgGroup (x : Src) : Nat := Word.bits x.cfg 15 10

/-- Two sources that differ in nothing but the doors they are due to. -/
def Src.SameButDue (x y : Src) : Prop := y = { x with due := y.due, dueAt := y.dueAt }

theorem State.groupEvent_srcs (s : State) (g : Nat) : (s.groupEvent g).irq.srcs = s.irq.srcs := by
  unfold State.groupEvent
  dsimp only
  split <;> rfl

theorem State.groupEvent_src (s : State) (g j : Nat) : (s.groupEvent g).src j = s.src j := by
  rw [State.src, State.src, s.groupEvent_srcs]

theorem State.groupEvent_grp_ne (s : State) {g j : Nat} (h : j ≠ g) : (s.groupEvent g).grp j = s.grp j := by
  unfold State.groupEvent
  dsimp only
  split
  · rw [State.setGrp_grp, if_neg h]
  · rfl

theorem State.groupEvent_holdoff {s : State} {g : Nat} (h : (s.grp g).coalesce = false) : s.groupEvent g = s := by
  simp [State.groupEvent, h]

theorem OnlyIrq.groupEvent (s : State) (g : Nat) : OnlyIrq s (s.groupEvent g) := by
  unfold State.groupEvent
  dsimp only
  split
  · exact OnlyIrq.setGrp _ _ _
  · exact OnlyIrq.refl s

/-- The source itself HELD and due to its sleeping targets, before its group and the doors hear of it. -/
def State.srcHeld (s : State) (k count : Nat) : State :=
  (s.setSrc k ((s.src k).heldAt s.tick count)).markDue k (((s.src k).heldAt s.tick count).targets &&& s.sleepers)

theorem State.srcHeld_grp (s : State) (k count j : Nat) : (s.srcHeld k count).grp j = s.grp j := rfl

theorem State.enterHeld_eq (s : State) (k count : Nat) :
    s.enterHeld k count = ((s.srcHeld k count).groupEvent (s.src k).cfgGroup).wakeChecks := rfl

theorem OnlyIrq.enterHeld (s : State) (k count : Nat) : OnlyIrq s (s.enterHeld k count) :=
  (((OnlyIrq.setSrc s k _).trans (OnlyIrq.markDue _ k _)).trans (OnlyIrq.groupEvent _ _)).trans (OnlyIrq.wakeChecks _)

theorem State.enterHeld_src_self (s : State) (k count : Nat) :
    ((s.src k).heldAt s.tick count).SameButDue ((s.enterHeld k count).src k) := by
  rw [State.enterHeld_eq, State.wakeChecks_src, State.groupEvent_src]
  simp [Src.SameButDue, State.srcHeld, State.markDue]

theorem State.enterHeld_src_ne (s : State) {j k : Nat} (count : Nat) (h : j ≠ k) : (s.enterHeld k count).src j = s.src j := by
  rw [State.enterHeld_eq, State.wakeChecks_src, State.groupEvent_src, State.srcHeld, State.markDue_src_ne _ _ h,
    State.setSrc_src, if_neg h]

/-- The groups after an entry into HELD are those of an event of the source's group. -/
theorem State.enterHeld_grp {s : State} {k g : Nat} (hg : (s.src k).cfgGroup = g) (count j : Nat) :
    (s.enterHeld k count).grp j = ((s.srcHeld k count).groupEvent g).grp j := by
  rw [State.enterHeld_eq, State.wakeChecks_grp, hg]

/-! ### Exits (R307 rows 7 and 8, R317) -/

/-- A source that has left CLAIMED. -/
def Src.exited (x : Src) : Src := { x with state := 0, exitAt := none, carry := 0, repend := false, claimer := 0 }

/-- The state in which an exit leaves the source, before what brings it back. -/
def State.srcLeft (s : State) (k : Nat) : State := s.setSrc k (s.src k).exited

/-- The line of a LEVEL source asks for it again (row 7). -/
def State.lineAsks (s : State) (k : Nat) : Bool := (s.src k).sense == 0 && !slotSource k && s.irqLine k

theorem State.not_mem_heldOf_srcLeft (s : State) (k g : Nat) : k ∉ (s.srcLeft k).heldOf g := by
  intro h
  obtain ⟨e, he, hk⟩ := List.mem_map.1 h
  obtain ⟨hlisted, hheld⟩ := List.mem_filter.1 he
  have hexited : e.2 = (s.src k).exited := Sparse.eq_of_mem_set hlisted hk
  rw [hexited] at hheld
  simp [Src.exited] at hheld

/-- R308: a HOLDOFF group is not released again before its HOLDOFF has passed from this boundary. -/
def State.holdoffFrom (s : State) (g : Nat) : State :=
  if (s.grp g).coalesce then s
  else s.setGrp g { s.grp g with release := max (s.grp g).release (s.tick + (s.grp g).holdoff) }

theorem OnlyIrq.holdoffFrom (s : State) (g : Nat) : OnlyIrq s (s.holdoffFrom g) := by
  unfold State.holdoffFrom
  split
  · exact OnlyIrq.refl s
  · exact OnlyIrq.setGrp _ _ _

theorem State.holdoffFrom_src (s : State) (g k : Nat) : (s.holdoffFrom g).src k = s.src k := by
  unfold State.holdoffFrom
  split <;> rfl

theorem State.holdoffFrom_grp_ne (s : State) {g j : Nat} (h : j ≠ g) : (s.holdoffFrom g).grp j = s.grp j := by
  unfold State.holdoffFrom
  split
  · rfl
  · rw [State.setGrp_grp, if_neg h]

theorem State.holdoffFrom_release {s : State} {g : Nat} (h : (s.grp g).coalesce = false) :
    ((s.holdoffFrom g).grp g).release = max (s.grp g).release (s.tick + (s.grp g).holdoff) := by
  rw [State.holdoffFrom, if_neg (by simp [h]), State.setGrp_grp, if_pos rfl]

/-- The state before the source comes back: it has left, and its group has had the release due at this boundary. -/
def State.srcReleased (s : State) (k : Nat) : State := (s.srcLeft k).groupRelease (s.src k).cfgGroup

/-- Row 7: the source is HELD again. -/
def State.srcReturned (s : State) (k : Nat) : State :=
  ((s.srcReleased k).enterHeld k (if (s.src k).repend then (s.src k).count else 1)).holdoffFrom
    (s.src k).cfgGroup

/-- An exit at its boundary, with the events of that boundary after it. -/
theorem State.srcExit_due {s : State} {k b : Nat} (hat : (s.src k).exitAt = some b) (hb : b ≤ s.tick) :
    s.srcExit k =
      if !(s.src k).en then s.srcLeft k
      else if s.lineAsks k || (s.src k).repend then
        if 0 < (s.src k).carry ∧ !s.lineAsks k then (s.srcReturned k).srcEvent k (s.src k).carry else s.srcReturned k
      else if 0 < (s.src k).carry then (s.srcLeft k).srcEvent k (s.src k).carry
      else s.srcLeft k := by
  unfold State.srcExit
  dsimp only
  rw [hat]
  exact if_neg (Nat.not_lt.2 hb)

/-- Row 8: nothing asks for the source. -/
theorem State.srcExit_idle {s : State} {k b : Nat} (hat : (s.src k).exitAt = some b) (hb : b ≤ s.tick)
    (hcarry : (s.src k).carry = 0) (hrep : (s.src k).repend = false) (hline : s.lineAsks k = false) :
    s.srcExit k = s.srcLeft k := by
  simp [State.srcExit_due hat hb, hcarry, hrep, hline]

/-- Row 7: an event while the source was CLAIMED, or its line, asks for it. -/
theorem State.srcExit_returns {s : State} {k b : Nat} (hat : (s.src k).exitAt = some b) (hb : b ≤ s.tick)
    (hcarry : (s.src k).carry = 0) (hen : (s.src k).en = true) (hasks : s.lineAsks k = true ∨ (s.src k).repend = true) :
    s.srcExit k = s.srcReturned k := by
  rw [State.srcExit_due hat hb, if_neg (by simp [hen]), if_pos (by simpa using hasks), if_neg (by simp [hcarry])]

theorem State.srcLeft_src_self (s : State) (k : Nat) : (s.srcLeft k).src k = (s.src k).exited := by
  rw [State.srcLeft, State.setSrc_src, if_pos rfl]

theorem State.srcLeft_src_ne (s : State) {j k : Nat} (h : j ≠ k) : (s.srcLeft k).src j = s.src j := by
  rw [State.srcLeft, State.setSrc_src, if_neg h]

/-- The release of its group leaves a source alone that has just left. -/
theorem State.srcReleased_src_self (s : State) (k : Nat) : (s.srcReleased k).src k = (s.src k).exited := by
  rw [State.srcReleased, State.groupRelease_src (s.not_mem_heldOf_srcLeft k _), State.srcLeft_src_self]

theorem State.srcReleased_settings (s : State) (k : Nat) :
    ((s.srcReleased k).grp (s.src k).cfgGroup).cfg = (s.grp (s.src k).cfgGroup).cfg ∧
      ((s.srcReleased k).grp (s.src k).cfgGroup).time = (s.grp (s.src k).cfgGroup).time :=
  (s.srcLeft k).groupRelease_settings _

theorem OnlyIrq.srcReleased (s : State) (k : Nat) : OnlyIrq s (s.srcReleased k) :=
  (OnlyIrq.setSrc s k _).trans (OnlyIrq.groupRelease _ _)

theorem OnlyIrq.srcReturned (s : State) (k : Nat) : OnlyIrq s (s.srcReturned k) :=
  ((OnlyIrq.srcReleased s k).trans (OnlyIrq.enterHeld _ k _)).trans (OnlyIrq.holdoffFrom _ _)

theorem State.srcReturned_src_self (s : State) (k : Nat) :
    ((s.src k).exited.heldAt s.tick (if (s.src k).repend then (s.src k).count else 1)).SameButDue
      ((s.srcReturned k).src k) := by
  have hheld := (s.srcReleased k).enterHeld_src_self k (if (s.src k).repend then (s.src k).count else 1)
  rw [s.srcReleased_src_self, (OnlyIrq.srcReleased s k).tick_eq] at hheld
  rw [State.srcReturned, State.holdoffFrom_src]
  exact hheld

theorem State.srcReturned_src_ne (s : State) {j k : Nat} (h : j ≠ k) : (s.srcReturned k).src j = (s.srcReleased k).src j := by
  rw [State.srcReturned, State.holdoffFrom_src, State.enterHeld_src_ne _ _ h]

/-- The group of the source is the one its settings name, before and after it leaves. -/
theorem State.srcReleased_group (s : State) (k : Nat) :
    ((s.srcReleased k).src k).cfgGroup = (s.src k).cfgGroup := by
  rw [s.srcReleased_src_self]; rfl

theorem State.srcReturned_grp_ne (s : State) {j k : Nat} (h : j ≠ (s.src k).cfgGroup) :
    (s.srcReturned k).grp j = (s.srcReleased k).grp j := by
  rw [State.srcReturned, State.holdoffFrom_grp_ne _ h, State.enterHeld_grp (s.srcReleased_group k),
    State.groupEvent_grp_ne _ h, State.srcHeld_grp]

theorem State.srcReturned_release {s : State} {k : Nat} (h : (s.grp (s.src k).cfgGroup).coalesce = false) :
    ((s.srcReturned k).grp (s.src k).cfgGroup).release =
      max ((s.srcReleased k).grp (s.src k).cfgGroup).release
        (s.tick + (s.grp (s.src k).cfgGroup).holdoff) := by
  obtain ⟨hcfg, htime⟩ := s.srcReleased_settings k
  have hmode : ((s.srcReleased k).grp (s.src k).cfgGroup).coalesce = false := by
    rw [Grp.coalesce, hcfg]; exact h
  have hheld : ∀ n, ((s.srcReleased k).enterHeld k n).grp (s.src k).cfgGroup =
      (s.srcReleased k).grp (s.src k).cfgGroup := by
    intro n
    rw [State.enterHeld_grp (s.srcReleased_group k), State.groupEvent_holdoff (s := (s.srcReleased k).srcHeld k n) hmode,
      State.srcHeld_grp]
  rw [State.srcReturned, State.holdoffFrom_release (by rw [hheld]; exact hmode), hheld, Grp.holdoff, htime,
    ((OnlyIrq.srcReleased s k).trans (OnlyIrq.enterHeld _ k _)).tick_eq]
  rfl

theorem exec_irqExit {s : State} (h : s.clk.running = true) (k : SrcNo) : exec (.irqExit k) s = run s (s.srcExit k) := by
  calc exec (.irqExit k) s = run s (s.when s.clk.running fun s => s.srcExit k) := rfl
    _ = run s (s.srcExit k) := by rw [h]; rfl

/-- Settles O30. A claim posts its entry through `ringPost` and takes the source; an EOI sets the boundary of the exit, or is
rejected; at that boundary the source leaves and stays IDLE (row 8) or comes back HELD after the release its group is due
(row 7). That the exit falls at the boundary after the EOI's tick is the model's reading of "next boundary" (log entry 14). -/
theorem claimAndExit : Obligations.ClaimAndExit := by
  refine ⟨fun d v k s hacc hv hen hfull hpick hres hjunk hk => ?_, fun d k s hacc hst hcl => ?_, fun d k s hacc h => ?_,
    fun k b s hrun hat hb hrep hcarry hline => ?_, fun k b s hrun hat hb hen hcarry hasks => ?_⟩
  · obtain ⟨w, hlen, haddr, hclaim⟩ := State.claim_takes hv hen hfull hpick hres hjunk
    have hsrc := s.claimTaken_src d v.toNat k w
    have hdoor := s.claimTaken_door d v.toNat k w
    have hget := s.claimTaken_get d v.toNat k w
    have hstate := s.claimTaken_state d v.toNat k w
    have hposted : (s.claimTaken d v.toNat k w).door d = (s.door d).posting w := (hdoor d).trans (if_pos rfl)
    have htaken : (s.claimTaken d v.toNat k w).src k = (s.src k).claimedBy d := (hsrc k).trans (if_pos rfl)
    refine ⟨s.claimTaken d v.toNat k w, ?_, ?_, ?_, ?_, ?_, fun j hj => (hsrc j).trans (if_neg hj),
      (hget _).trans (State.claimCounted_prod _ _ _ _), (hget _).trans (State.claimCounted_source _ _ _ hk),
      (hget _).trans (State.claimCounted_result _ _ _ v.isLt), (hget _).trans (State.claimCounted_count _ _ _ _), ?_,
      ⟨w, ?_, hlen, haddr⟩, fun e he => (hdoor e).trans (if_neg he), hstate, s.claimTaken_kept d v.toNat k w⟩
    · rw [exec_irqClaim hacc, hclaim]; exact run_eq (by rw [hstate]) (by rw [hstate])
    · rw [htaken]; rfl
    · rw [htaken]; rfl
    · rw [htaken]; rfl
    · rw [htaken]; exact hasBit_setBit_false _ _
    · rw [hposted]; rfl
    · rw [hposted]; rfl
  · refine ⟨s.setSrc k ((s.src k).exiting (s.tick + 1)), ?_, (s.setSrc_src k _ k).trans (if_pos rfl),
      fun j hj => (s.setSrc_src k _ j).trans (if_neg hj), rfl⟩
    rw [exec_irqEoi hacc, State.eoi_claimer hst hcl]
    exact run_eq rfl rfl
  · have hframe := s.eoiRejected_frame d
    refine ⟨s.eoiRejected d, ?_, s.eoiRejected_flag d, s.eoiRejected_raises d, s.eoiRejected_count d, hframe⟩
    rw [exec_irqEoi hacc, State.eoi_other h]
    exact hframe.run_eq
  · have hno : s.lineAsks k = false := by
      rcases hline with hsense | hlow
      · simp [State.lineAsks, hsense]
      · simp [State.lineAsks, hlow]
    refine ⟨s.srcLeft k, ?_, s.srcLeft_src_self k, fun j hj => s.srcLeft_src_ne hj, rfl⟩
    rw [exec_irqExit hrun, State.srcExit_idle hat hb hcarry hrep hno]
    exact (OnlyIrq.setSrc s k _).run_eq
  · have hback : s.lineAsks k = true ∨ (s.src k).repend = true := by
      rcases hasks with hrep | ⟨hsense, hslot, hhigh⟩
      · exact .inr hrep
      · exact .inl (by simp [State.lineAsks, hsense, hslot, hhigh])
    have hframe := OnlyIrq.srcReturned s k
    have hsrc := s.srcReturned_src_self k
    refine ⟨s.srcReturned k, ?_, ?_, ?_, ?_, ?_, ?_, ?_, ?_, State.srcReturned_release, fun j => s.srcReturned_src_ne,
      fun j => s.srcReturned_grp_ne, hframe⟩
    · rw [exec_irqExit hrun, State.srcExit_returns hat hb hcarry hen hback]
      exact hframe.run_eq
    all_goals rw [hsrc]; rfl

end Sys2Proof.Machine
end

section
/-! PROOFS. Shutters that a host sets (chapter 15: R382, R385; R254 for drive channels). -/

namespace Sys2Proof.Machine

/-! ### What leaves no trace of a fault -/

/-- Page p stays shuttered or open, the fault log and its count stand, and no fault marker is added. -/
structure NoFault (p : Nat) (s t : State) : Prop where
  shut : t.shut p = s.shut p
  log : t.flt.log = s.flt.log
  count : t.get Reg.FLT.LOG_COUNT.COUNT = s.get Reg.FLT.LOG_COUNT.COUNT
  carts : ∀ c ∈ t.carts, c.typ = 0x15 → c ∈ s.carts

theorem NoFault.refl (p : Nat) (s : State) : NoFault p s s := ⟨rfl, rfl, rfl, fun _ hc _ => hc⟩

theorem NoFault.trans {p : Nat} {s t u : State} (h : NoFault p s t) (k : NoFault p t u) : NoFault p s u :=
  ⟨k.shut.trans h.shut, k.log.trans h.log, k.count.trans h.count, fun c hc ht => h.carts c (k.carts c hc ht) ht⟩

theorem NoFault.of_same {p : Nat} {s t : State} (hregs : t.regs = s.regs) (hflt : t.flt = s.flt) (hcarts : t.carts = s.carts) :
    NoFault p s t := by
  refine ⟨?_, by rw [hflt], ?_, fun c hc _ => hcarts ▸ hc⟩
  · simp only [State.shut, State.bit, State.get, State.reg, hregs]
  · simp only [State.get, State.reg, hregs]

section
variable {p : Nat} (hp : 0x5000 ≤ p)
include hp

/-- A write elsewhere on page p than PG_SHUTTER, on a page above FLT's. -/
theorem NoFault.put (s : State) {f : FieldRef} (v off : Nat) (ok : f.ok := by simp [FieldRef.ok])
    (ha : f.addr = p + off := by simp; omega) (ho : off ≠ 0x1C := by decide) : NoFault p s (s.put f v) := by
  have hshut : f.addr ≠ (Reg.HEAD.PG_SHUTTER.SHUT p).addr := by simp [ha, ho]
  have hcount : f.addr ≠ Reg.FLT.LOG_COUNT.COUNT.addr := by simp only [ha, Reg.FLT.LOG_COUNT.COUNT]; omega
  exact ⟨congrArg (· == 1) (s.get_put_apart v ok (.inl hshut)), rfl, s.get_put_apart v ok (.inl hcount), fun _ hc _ => hc⟩

theorem NoFault.raise (s : State) (k : Nat) : NoFault p s (s.raise p k) := by
  have hcount : Reg.FLT.LOG_COUNT.COUNT.addr ≠ p + 0x10 := by simp only [Reg.FLT.LOG_COUNT.COUNT]; omega
  exact ⟨congrArg (· == 1) (s.get_raise_ne (by simp)), rfl, s.get_raise_ne hcount, fun _ hc _ => hc⟩

end

/-- A cart of another type is no fault marker. -/
theorem NoFault.cart (p : Nat) (s : State) {typ : Nat} (cls at_ wheel : Nat) (body : List Quad) (hn : unnumbered typ = false)
    (ht : typ ≠ 0x15) : NoFault p s (s.cart typ cls at_ wheel body) := by
  have hcarts := s.cart_onlyCarts typ cls at_ wheel body
  obtain ⟨c, hc, htyp, -⟩ := s.cart_oneCart cls at_ wheel body hn
  refine ⟨congrArg (· == 1) (hcarts.get_eq _), by rw [hcarts], hcarts.get_eq _, fun x hx hm => ?_⟩
  rw [hc] at hx
  rcases List.mem_cons.1 hx with rfl | hx
  · exact absurd (htyp.symm.trans hm) ht
  · exact hx

theorem NoFault.forEach {α : Type} {p : Nat} {f : State → α → State} (hf : ∀ s x, NoFault p s (f s x)) (l : List α)
    (s : State) : NoFault p s (s.forEach l f) := by
  induction l generalizing s with
  | nil => exact NoFault.refl p s
  | cons x l ih => exact (hf s x).trans (ih (f s x))

/-! ### What each kind of function does at its shutter -/

theorem le_fnPage (f : FnKind) (n : Nat) : 0x5000 ≤ fnPage f n := by
  cases f <;> simp only [fnPage, fnBlock, page, Block.base] <;> omega

theorem State.edge_noFault (p : Nat) (s : State) (a t : Nat) (level : Bool) : NoFault p s (s.edge a t level) := by
  unfold State.edge
  split
  · exact NoFault.refl p s
  · exact NoFault.of_same rfl rfl rfl

theorem State.driveQ_noFault (s : State) (ch o t : Nat) (level : Bool) : NoFault (page .inp ch) s (s.driveQ ch o t level) := by
  unfold State.driveQ
  extract_lets a
  split
  · exact NoFault.refl _ s
  · have hlevel : NoFault (page .inp ch) s (s.onEp a fun e => { e with level := level }) := .of_same rfl rfl rfl
    exact (hlevel.trans (State.edge_noFault _ _ a t level)).trans (NoFault.raise (le_fnPage .inp ch) _ 13)

theorem State.inpShut_noFault (s : State) (ch t : Nat) : NoFault (page .inp ch) s (s.inpShut ch t) := by
  unfold State.inpShut
  extract_lets s₁
  have howned : NoFault (page .inp ch) s s₁ := .of_same rfl rfl rfl
  exact (howned.trans (s₁.driveQ_noFault ch 0 t false)).trans (State.driveQ_noFault _ ch 1 t false)

theorem State.wEnter_noFault (s : State) (n nxt : Nat) : NoFault (page .whl n) s (s.wEnter n nxt) := by
  have hp : 0x5000 ≤ page .whl n := le_fnPage .whl n
  unfold State.wEnter
  extract_lets p was now sState sLost sStopped sAngle sPred
  have hState : NoFault p s sState :=
    (NoFault.put hp s nxt 0x64).trans (.raise hp _ 0)
  have hLost : NoFault p sState sLost := by
    simp only [sLost]
    split
    · exact ((NoFault.put hp sState _ 0x8c).trans
        (.put hp _ _ 0x2c (ha := rfl))).trans (.raise hp _ 1)
    · exact NoFault.refl p sState
  have hStopped : NoFault p sLost sStopped := by
    simp only [sStopped]
    split
    · exact (NoFault.put hp sLost 0 0x64).trans (.raise hp _ 2)
    · exact NoFault.refl p sLost
  have hAngle : NoFault p sStopped sAngle :=
    .put hp sStopped _ 0x64
  have hPred : NoFault p s sPred := (((hState.trans hLost).trans hStopped).trans hAngle).trans (.of_same rfl rfl rfl)
  split
  · exact hPred
  · exact hPred.trans (.put hp sPred 0 0x64)

/-- The tracker's marker is a wheel marker (R132), no fault marker. -/
theorem State.wShut_noFault (s : State) (n : Nat) : NoFault (page .whl n) s (s.wShut n) := by
  unfold State.wShut
  extract_lets before s₁
  have hp : 0x5000 ≤ page .whl n := le_fnPage .whl n
  have hcause : NoFault (page .whl n) s (s.put (Reg.WHL.STAT.LOSS_CAUSE n) 4) := .put hp s 4 0x64
  exact (hcause.trans (State.wEnter_noFault _ n 5)).trans (NoFault.cart _ s₁ _ _ _ _ rfl (by decide))

theorem State.linkEnter_noFault (s : State) (n nxt : Nat) : NoFault (page .lnk n) s (s.linkEnter n nxt) := by
  have hp : 0x5000 ≤ page .lnk n := le_fnPage .lnk n
  have hraise : ∀ (s : State) (c : Bool) (k : Nat), NoFault (page .lnk n) s (s.raiseIf c (page .lnk n) k) := by
    intro s c k
    cases c with
    | false => exact NoFault.refl _ s
    | true => exact NoFault.raise hp s k
  unfold State.linkEnter
  extract_lets was p sState sChanged sFailed l sRun c sDropped
  have hFailed : NoFault p s sFailed :=
    ((NoFault.put hp s nxt 0x48).trans (hraise sState _ 0)).trans
      (hraise sChanged _ 1)
  split
  · exact hFailed.trans (.of_same rfl rfl rfl)
  · have hDropped : NoFault p sFailed sDropped :=
      NoFault.forEach (f := fun s x => s.causeCmd x c) (fun s x => .of_same rfl rfl rfl) _ sFailed
    exact (hFailed.trans hDropped).trans (.of_same rfl rfl rfl)

theorem State.linkFollow_noFault (s : State) (n : Nat) : NoFault (page .lnk n) s (s.linkFollow n) := by
  unfold State.linkFollow
  extract_lets st runs
  split
  · exact s.linkEnter_noFault n 6
  · split
    · exact s.linkEnter_noFault n 5
    · exact NoFault.refl _ s

theorem State.urgentLost_noFault (p : Nat) (s : State) (r : Urgent) (cause : Nat) : NoFault p s (s.urgentLost r cause) := by
  unfold State.urgentLost
  split
  · exact NoFault.refl p s
  · exact NoFault.of_same rfl rfl rfl

theorem State.adcShut_noFault (s : State) (u : Nat) : NoFault (page .adc u) s (s.adcShut u) := by
  have hp : 0x5000 ≤ page .adc u := le_fnPage .adc u
  unfold State.adcShut
  extract_lets a sLost sIdle
  have hIdle : NoFault (page .adc u) s sIdle :=
    (NoFault.forEach (fun s r => State.urgentLost_noFault _ s r 5) a.urgent s).trans (.of_same rfl rfl rfl)
  split
  · exact (hIdle.trans (.put hp sIdle 4 0x64)).trans
      (.put hp _ 0 0x64)
  · exact hIdle

/-! ### Drive channels (R254) -/

/-- The cause a drive channel shows at a host's shutter: HOST, unless it shows another whose release is not under way. -/
def State.hostCause (s : State) (n : Nat) : Nat :=
  if s.get (Reg.DRV.STAT.SHUT_CAUSE n) = 0 ∨ (s.drive n).fenceNext = some false then 2
  else s.get (Reg.DRV.STAT.SHUT_CAUSE n)

/-- The channel shows that cause. -/
def State.hostCaused (s : State) (n : Nat) : State :=
  if s.get (Reg.DRV.STAT.SHUT_CAUSE n) = 0 ∨ (s.drive n).fenceNext = some false then s.put (Reg.DRV.STAT.SHUT_CAUSE n) 2 else s

/-- The channel's fence comes one boundary later. -/
def State.fencedNext (s : State) (n : Nat) : State := s.setDrv n { s.drive n with fenceNext := some true }

theorem State.hostCaused_frame (s : State) (n : Nat) : OnlyFields [Reg.DRV.STAT.SHUT_CAUSE n] s (s.hostCaused n) := by
  unfold State.hostCaused
  split
  · exact OnlyFields.put s 2 (by simp) (by simp [FieldRef.ok])
  · exact OnlyFields.refl _ s

theorem State.hostCaused_drive (s : State) (n k : Nat) : (s.hostCaused n).drive k = s.drive k := by
  rw [(s.hostCaused_frame n).1]; rfl

theorem State.hostCaused_cause (s : State) (n : Nat) :
    (s.hostCaused n).get (Reg.DRV.STAT.SHUT_CAUSE n) = s.hostCause n := by
  unfold State.hostCaused State.hostCause
  split
  · exact s.get_put_self 2 (by simp [FieldRef.ok])
  · rfl

theorem State.hostCaused_noFault (s : State) (n : Nat) : NoFault (page .drv n) s (s.hostCaused n) := by
  have hp : 0x5000 ≤ page .drv n := le_fnPage .drv n
  unfold State.hostCaused
  split
  · exact .put hp s 2 0x5c
  · exact NoFault.refl _ s

theorem State.shutEffect_drv (s : State) (n t : Nat) : s.shutEffect .drv n t false = (s.hostCaused n).fencedNext n := by
  simp only [State.shutEffect, Bool.or_eq_true, beq_iff_eq, Bool.false_eq_true, if_false]
  rfl

/-- R382: what a function does at a host's shutter is no fault. -/
theorem State.shutEffect_noFault {f : FnKind} (hf : (fnBlock f).hasShutter = true) (s : State) (n t : Nat) :
    NoFault (fnPage f n) s (s.shutEffect f n t false) := by
  cases f with
  | inp => exact s.inpShut_noFault n t
  | whl =>
    simp only [State.shutEffect]
    split
    · exact s.wShut_noFault n
    · exact NoFault.refl _ s
  | lnk => exact s.linkFollow_noFault n
  | drv =>
    rw [State.shutEffect_drv]
    exact (s.hostCaused_noFault n).trans (.of_same rfl rfl rfl)
  | adc => exact s.adcShut_noFault n
  | tmr | dma => cases hf

/-! ### A host's shutter of a function -/

/-- The state after a host's shutter of a page that was open. -/
def State.hostShuttered (s : State) (f : FnKind) (n : Nat) : State :=
  (s.put (Reg.HEAD.PG_SHUTTER.SHUT (fnPage f n)) 1).shutEffect f n s.now false

theorem State.hostShut_open {s : State} {f : FnKind} {n : Nat} (hf : (fnBlock f).hasShutter = true)
    (ho : s.shut (fnPage f n) = false) : s.hostShut f n = s.hostShuttered f n := by
  simp [State.hostShut, State.hostShuttered, hf, ho, State.now]

theorem State.hostShut_none {s : State} {f : FnKind} {n : Nat}
    (h : (fnBlock f).hasShutter = false ∨ s.shut (fnPage f n) = true) : s.hostShut f n = s := by
  have hno : (!(fnBlock f).hasShutter) = true ∨ s.shut (fnPage f n) = true := h.imp_left (by simp [·])
  exact if_pos hno

theorem exec_hostShutter (f : FnKind) (n : Fin 64) (s : State) :
    exec (.hostShutter f n) s = run s (s.when (s.scanning && fnExists f n) fun s => s.hostShut f n) := rfl

theorem exec_hostShutter_none {f : FnKind} {n : Fin 64} {s : State}
    (h : (fnBlock f).hasShutter = false ∨ s.shut (fnPage f n) = true) : exec (.hostShutter f n) s = .next s := by
  rw [exec_hostShutter]
  cases s.scanning && fnExists f n with
  | false => rfl
  | true => rw [State.when_true, State.hostShut_none h]; rfl

theorem State.hostShuttered_shut {s : State} {f : FnKind} (hf : (fnBlock f).hasShutter = true) (n : Nat) :
    (s.hostShuttered f n).shut (fnPage f n) = true := by
  rw [State.hostShuttered, (State.shutEffect_noFault hf _ n s.now).shut, State.shut, State.bit,
    State.get_put_self _ _ (by simp [FieldRef.ok])]
  rfl

/-- PG_SHUTTER of a function's page is no register of the fault log. -/
theorem State.hostShuttered_quiet {s : State} {f : FnKind} (hf : (fnBlock f).hasShutter = true) (n : Nat) :
    (s.hostShuttered f n).flt.log = s.flt.log ∧
      (s.hostShuttered f n).get Reg.FLT.LOG_COUNT.COUNT = s.get Reg.FLT.LOG_COUNT.COUNT ∧
      ∀ c ∈ (s.hostShuttered f n).carts, c.typ = 0x15 → c ∈ s.carts := by
  have heffect := State.shutEffect_noFault hf (s.put (Reg.HEAD.PG_SHUTTER.SHUT (fnPage f n)) 1) n s.now
  have hpage := le_fnPage f n
  exact ⟨heffect.log, heffect.count.trans (s.get_put_apart 1 (by simp [FieldRef.ok]) (.inl (by simp; omega))),
    heffect.carts⟩

theorem State.hostShuttered_drv (s : State) (n : Nat) :
    s.hostShuttered .drv n = ((s.put (Reg.HEAD.PG_SHUTTER.SHUT (page .drv n)) 1).hostCaused n).fencedNext n :=
  State.shutEffect_drv _ n _

/-- SHUT_CAUSE is no part of PG_SHUTTER. -/
theorem State.hostCause_put_shut (s : State) (n : Nat) :
    (s.put (Reg.HEAD.PG_SHUTTER.SHUT (page .drv n)) 1).hostCause n = s.hostCause n := by
  have hcause := s.get_put_apart (f := Reg.HEAD.PG_SHUTTER.SHUT (page .drv n)) (g := Reg.DRV.STAT.SHUT_CAUSE n) 1
    (by simp [FieldRef.ok]) (.inl (by simp; omega))
  rw [State.hostCause, State.hostCause, hcause, State.put_drive]

theorem State.hostShuttered_drv_cause (s : State) (n : Nat) :
    (s.hostShuttered .drv n).get (Reg.DRV.STAT.SHUT_CAUSE n) = s.hostCause n := by
  rw [State.hostShuttered_drv, State.fencedNext, State.setDrv_get, State.hostCaused_cause, State.hostCause_put_shut]

theorem State.hostShuttered_drive (s : State) (n k : Nat) :
    (s.hostShuttered .drv n).drive k = if k = n then { s.drive n with fenceNext := some true } else s.drive k := by
  rw [State.hostShuttered_drv, State.fencedNext, State.setDrv_drive, State.hostCaused_drive, State.hostCaused_drive,
    State.put_drive, State.put_drive]

theorem State.hostShuttered_drv_state (s : State) (n : Nat) :
    s.hostShuttered .drv n = { s with regs := (s.hostShuttered .drv n).regs, drv := (s.hostShuttered .drv n).drv } := by
  rw [State.hostShuttered_drv, State.fencedNext, ((s.put _ 1).hostCaused_frame n).1]
  rfl

theorem State.hostShuttered_drv_kept (s : State) (n : Nat) :
    FieldsKept [Reg.HEAD.PG_SHUTTER.SHUT (page .drv n), Reg.DRV.STAT.SHUT_CAUSE n] s (s.hostShuttered .drv n) := by
  rw [State.hostShuttered_drv]
  exact ((FieldsKept.put s 1 (by simp) (by simp [FieldRef.ok])).trans
    ((State.hostCaused_frame _ n).2.mono (by simp))).trans (.of_regs rfl)

/-! ### What neither steps the tick nor adds to the record -/

/-- The tick, the queue, the carts and the record counters stand. -/
structure SameRecord (s t : State) : Prop where
  tick : t.tick = s.tick
  pending : t.pending = s.pending
  carts : t.carts = s.carts
  recd : t.recd = s.recd

theorem SameRecord.refl (s : State) : SameRecord s s := ⟨rfl, rfl, rfl, rfl⟩

theorem SameRecord.trans {s t u : State} (h : SameRecord s t) (k : SameRecord t u) : SameRecord s u :=
  ⟨k.tick.trans h.tick, k.pending.trans h.pending, k.carts.trans h.carts, k.recd.trans h.recd⟩

theorem OnlyFields.sameRecord {fs : List FieldRef} {s t : State} (h : OnlyFields fs s t) : SameRecord s t :=
  ⟨h.tick_eq, h.pending_eq, by rw [h.1], by rw [h.1]⟩

theorem OnlyFields.flt_eq {fs : List FieldRef} {s t : State} (h : OnlyFields fs s t) : t.flt = s.flt := by rw [h.1]

/-! ### An entry of the fault log (R377, R394) -/

/-- The entry itself, with what every entry shows whatever its action. -/
def State.logEntered (s : State) (cause block inst action data : Nat) : State :=
  let c := s.get Reg.FLT.LOG_COUNT.COUNT
  let e : LogEntry := ⟨cause, block, inst % 256, action, s.tick, BitVec.ofNat 32 data⟩
  let s := { s with flt := { s.flt with log := s.flt.log.insert (c % 64) e } }
  ((s.put Reg.FLT.LOG_COUNT.COUNT ((c + 1) % 2 ^ 32)).err (page .flt 0)).raise (page .flt 0) 0

/-- The counter of the entry's action, and SHUT. -/
def State.actionCounted (s : State) (action : Nat) : State :=
  let s := if action = aShuttered then (s.bump Reg.FLT.SHUT_CNT.COUNT).raise (page .flt 0) 1 else s
  if action = aAbsorbed then s.bump Reg.FLT.ABSORB_CNT.COUNT else s

theorem State.logFault_eq (s : State) (cause block inst action data : Nat) :
    s.logFault cause block inst action data = (s.logEntered cause block inst action data).actionCounted action := rfl

theorem State.actionCounted_frame (s : State) (action : Nat) :
    OnlyFields [Reg.FLT.SHUT_CNT.COUNT, rawBit (page .flt 0) 1, Reg.FLT.ABSORB_CNT.COUNT] s (s.actionCounted action) := by
  unfold State.actionCounted
  extract_lets u
  have hu : OnlyFields [Reg.FLT.SHUT_CNT.COUNT, rawBit (page .flt 0) 1, Reg.FLT.ABSORB_CNT.COUNT] s u := by
    simp only [u]
    split
    · exact (OnlyFields.put s _ (by simp) (by decide)).then_raise _ _ (by simp)
    · exact OnlyFields.refl _ s
  split
  · exact hu.then_put _ (by simp) (by decide)
  · exact hu

theorem State.logEntered_kept (s : State) (cause block inst action data : Nat) :
    FieldsKept logFields s (s.logEntered cause block inst action data) := by
  unfold State.logEntered
  extract_lets c e flt u
  have hu : FieldsKept logFields s u := .of_regs rfl
  exact ((hu.then_put _ (by simp [logFields]) (by decide)).then_put _ (by simp [logFields]) (by decide)).then_raise _ _
    (by simp [logFields])

theorem State.logFault_kept (s : State) (cause block inst action data : Nat) :
    FieldsKept logFields s (s.logFault cause block inst action data) := by
  rw [State.logFault_eq]
  exact (s.logEntered_kept cause block inst action data).trans ((State.actionCounted_frame _ action).2.mono (by simp [logFields]))

theorem State.logFault_sameRecord (s : State) (cause block inst action data : Nat) :
    SameRecord s (s.logFault cause block inst action data) := by
  have hentered : SameRecord s (s.logEntered cause block inst action data) := ⟨rfl, rfl, rfl, rfl⟩
  rw [State.logFault_eq]
  exact hentered.trans (State.actionCounted_frame _ action).sameRecord

/-- R377: the entry is the newest of the ring, counted, and FAULT is raised. -/
theorem State.logFault_logged (s : State) (cause block : Nat) {inst : Nat} (action data : Nat) (h : inst < 256) :
    Logged cause block inst action data s (s.logFault cause block inst action data) := by
  have hframe := (s.logEntered cause block inst action data).actionCounted_frame action
  rw [State.logFault_eq]
  refine ⟨?_, ?_, ?_⟩
  · rw [hframe.flt_eq, State.logEntered, State.raise_flt, State.err_eq, State.bump_eq, State.put_flt, State.put_flt,
      Nat.mod_eq_of_lt h]
  · rw [hframe.get (by decide) (by decide), State.logEntered, State.get_raise_ne _ (by decide), State.err_eq, State.bump_eq,
      State.get_put_apart _ _ (by decide) (by decide), State.get_put_self _ _ (by decide)]
    exact Nat.mod_mod _ _
  · rw [State.isRaised, hframe.get (by decide) (by decide)]
    exact State.isRaised_raise _ _ (by decide)

/-- An entry counts as one between any states that agree in the fault manager, the tick, and what the log's registers show. -/
theorem Logged.of_same {cause block inst action data : Nat} {s u v t : State} (h : Logged cause block inst action data u v)
    (hflt : u.flt = s.flt) (htick : u.tick = s.tick) (hcount : u.get Reg.FLT.LOG_COUNT.COUNT = s.get Reg.FLT.LOG_COUNT.COUNT)
    (hflt' : t.flt = v.flt) (hget : ∀ g ∈ [Reg.FLT.LOG_COUNT.COUNT, rawBit (page .flt 0) 0], t.get g = v.get g) :
    Logged cause block inst action data s t := by
  obtain ⟨hlog, hnext, hraised⟩ := h
  refine ⟨?_, ?_, ?_⟩
  · rw [hflt', hlog, hflt, htick, hcount]
  · rw [hget _ (by simp), hnext, hcount]
  · exact (hget _ (by simp)).trans hraised

/-! ### Fault markers (R32, R277, R422) -/

theorem OnlyCarts.tick_eq {s t : State} (h : OnlyCarts s t) : t.tick = s.tick := by rw [h]

theorem OnlyCarts.pending_eq {s t : State} (h : OnlyCarts s t) : t.pending = s.pending := by rw [h]

theorem OnlyCarts.flt_eq {s t : State} (h : OnlyCarts s t) : t.flt = s.flt := by rw [h]

theorem OnlyCarts.trans {s t u : State} (h : OnlyCarts s t) (k : OnlyCarts t u) : OnlyCarts s u := by
  unfold OnlyCarts at h k ⊢
  rw [k, h]

theorem State.cart_provCls (s : State) (typ cls at_ wheel : Nat) (body : List Quad) :
    (s.cart typ cls at_ wheel body).provCls = s.provCls := (s.cart_onlyCarts typ cls at_ wheel body).get_eq _

theorem State.recordTwice_once {s : State} {cls : Nat} (h : s.provCls = cls) (typ at_ wheel : Nat) (body : List Quad) :
    s.recordTwice typ cls at_ wheel [body] = s.cart typ cls at_ wheel body :=
  if_pos ((s.cart_provCls typ cls at_ wheel body).trans h)

theorem State.recordTwice_twice {s : State} {cls : Nat} (h : s.provCls ≠ cls) (typ at_ wheel : Nat) (body : List Quad) :
    s.recordTwice typ cls at_ wheel [body] =
      (s.cart typ cls at_ wheel body).cart typ s.provCls at_ wheel body := by
  have hprov := s.cart_provCls typ cls at_ wheel body
  rw [← hprov] at h ⊢
  exact if_neg h

theorem State.recordTwice_onlyCarts (s : State) (typ cls at_ wheel : Nat) (body : List Quad) :
    OnlyCarts s (s.recordTwice typ cls at_ wheel [body]) := by
  by_cases h : s.provCls = cls
  · rw [State.recordTwice_once h]
    exact s.cart_onlyCarts _ _ _ _ _
  · rw [State.recordTwice_twice h]
    exact (s.cart_onlyCarts _ _ _ _ _).trans (State.cart_onlyCarts _ _ _ _ _ _)

theorem State.seqOf_cart (s : State) {typ : Nat} (cls at_ wheel : Nat) (body : List Quad) (hn : unnumbered typ = false) (k : Nat) :
    (s.cart typ cls at_ wheel body).seqOf k = if k = cls then (s.seqOf cls + 1) % 2 ^ 32 else s.seqOf k := by
  rw [State.seqOf, s.cart_recd_numbered cls at_ wheel body hn]
  exact Sparse.get_set _ _ _ _ _

/-- R422: the counters of both classes advance, that of one class once. -/
theorem State.seqOf_recordTwice (s : State) {typ : Nat} (cls at_ wheel : Nat) (body : List Quad) (hn : unnumbered typ = false)
    (k : Nat) : (s.recordTwice typ cls at_ wheel [body]).seqOf k =
      if k = cls ∨ k = s.provCls then (s.seqOf k + 1) % 2 ^ 32 else s.seqOf k := by
  by_cases h : s.provCls = cls
  · rw [State.recordTwice_once h, State.seqOf_cart _ _ _ _ _ hn]
    by_cases hk : k = cls <;> simp [hk, h]
  · rw [State.recordTwice_twice h, State.seqOf_cart _ _ _ _ _ hn, State.seqOf_cart _ _ _ _ _ hn,
      State.seqOf_cart _ _ _ _ _ hn, if_neg h]
    by_cases hk : k = s.provCls
    · simp [hk]
    · rw [if_neg hk]
      by_cases hc : k = cls
      · rw [if_pos hc, if_pos (.inl hc), hc]
      · simp [hk, hc]

/-- R422: a record of one cart that concerns no wheel, in its class and in PROV_CLS. -/
theorem State.recordTwice_marker (s : State) {typ : Nat} (cls at_ : Nat) (body : List Quad) (hn : unnumbered typ = false) :
    MarkerCart typ cls at_ s (s.recordTwice typ cls at_ 63 [body]) := by
  refine ⟨⟨typ, cls, at_ % 128, at_ / 128 % 2 ^ 48, 0, 0, 63, 0, s.seqOf cls, body⟩, ?_, rfl, rfl, rfl, rfl, rfl,
    s.seqOf_recordTwice cls at_ 63 body hn⟩
  by_cases h : s.provCls = cls
  · rw [State.recordTwice_once h, if_pos h]
    rfl
  · have hseq := (s.seqOf_cart cls at_ 63 body hn s.provCls).trans (if_neg h)
    rw [State.recordTwice_twice h, if_neg h, ← hseq]
    rfl

theorem State.faultMarker_onlyCarts (s : State) (cause block inst action : Nat) (lost : Option Nat) (data tick wheel : Nat) :
    OnlyCarts s (s.faultMarker cause block inst action lost data tick wheel) := s.recordTwice_onlyCarts _ _ _ _ _

theorem State.faultMarker_marker (s : State) (cause block inst action : Nat) (lost : Option Nat) (data tick : Nat) :
    MarkerCart 0x15 s.markerCls (st0 tick) s (s.faultMarker cause block inst action lost data tick 63) :=
  s.recordTwice_marker _ _ _ rfl

/-- A marker counts as one between any states that agree in carts, record counters and the classes. -/
theorem MarkerCart.of_same {typ cls at_ : Nat} {s u v t : State} (h : MarkerCart typ cls at_ u v) (hcarts : u.carts = s.carts)
    (hrecd : u.recd = s.recd) (hprov : u.provCls = s.provCls) (hcarts' : t.carts = v.carts) (hrecd' : t.recd = v.recd) :
    MarkerCart typ cls at_ s t := by
  simpa only [MarkerCart, State.seqOf, hcarts, hrecd, hprov, hcarts', hrecd'] using h

/-! ### The shutter of the device (R385, Table 14-1 row 2) -/

/-- What a change of the device state writes. -/
def devStateFields : List FieldRef := [Reg.GLB.DEV_STATE.STATE, rawBit (page .glb 0) 0, rawBit (page .prf 0) 5]

theorem State.wakeEnds_sameRecord (s : State) (v : Nat) : SameRecord s (s.wakeEnds v) := by
  unfold State.wakeEnds
  split
  · exact ⟨rfl, rfl, rfl, rfl⟩
  · exact SameRecord.refl s

theorem State.wakeEnds_flt (s : State) (v : Nat) : (s.wakeEnds v).flt = s.flt := by
  unfold State.wakeEnds
  split <;> rfl

theorem State.wakeEnds_kept (s : State) (v : Nat) : FieldsKept devStateFields s (s.wakeEnds v) := by
  unfold State.wakeEnds
  split
  · have hpower : FieldsKept devStateFields s
        { s with power := { s.power with waking := false, image := false, epochDue := true } } := .of_regs rfl
    exact hpower.then_raise _ _ (by simp [devStateFields])
  · exact FieldsKept.refl _ s

theorem State.setDevState_sameRecord (s : State) (v : Nat) : SameRecord s (s.setDevState v) := by
  unfold State.setDevState
  split
  · exact SameRecord.refl s
  · have hchange : SameRecord s ((s.put Reg.GLB.DEV_STATE.STATE v).raise (page .glb 0) 0) := ⟨rfl, rfl, rfl, rfl⟩
    exact hchange.trans (State.wakeEnds_sameRecord _ v)

theorem State.setDevState_flt (s : State) (v : Nat) : (s.setDevState v).flt = s.flt := by
  unfold State.setDevState
  split
  · rfl
  · rw [State.wakeEnds_flt, State.raise_flt, State.put_flt]

theorem State.setDevState_kept (s : State) (v : Nat) : FieldsKept devStateFields s (s.setDevState v) := by
  unfold State.setDevState
  split
  · exact FieldsKept.refl _ s
  · exact ((FieldsKept.put s v (by simp [devStateFields]) (by decide)).then_raise _ _ (by simp [devStateFields])).trans
      (State.wakeEnds_kept _ v)

theorem State.setDevState_devState (s : State) {v : Nat} (h : v < 16) : (s.setDevState v).devState = v := by
  unfold State.setDevState
  split
  next he => exact he
  next =>
    have hwake : ∀ u : State, (u.wakeEnds v).devState = u.devState := by
      intro u
      unfold State.wakeEnds
      split
      · exact State.get_raise_ne _ (by decide)
      · rfl
    rw [hwake, State.devState, State.get_raise_ne _ (by decide), State.get_put_self _ _ (by decide)]
    exact Nat.mod_eq_of_lt h

/-- Row 2 for a cause, before its log entry: SHUTTERED, LOAD_CAUSE, DEV_FAULT, DEV_SHUT raised. -/
def State.devFenced (s : State) (fc : Nat) : State :=
  ((((s.setDevState 6).put Reg.PRF.STAT.LOAD_CAUSE (devLoadCause fc)).put Reg.FLT.DEV_FAULT.CAUSE fc).put
    Reg.FLT.DEV_FAULT.DEV_SHUT 1).raise (page .flt 0) 2

/-- What it writes. -/
def devFencedFields : List FieldRef :=
  devStateFields ++ [Reg.PRF.STAT.LOAD_CAUSE, Reg.FLT.DEV_FAULT.CAUSE, Reg.FLT.DEV_FAULT.DEV_SHUT, rawBit (page .flt 0) 2]

theorem State.devFenced_frame (s : State) (fc : Nat) :
    OnlyFields [Reg.PRF.STAT.LOAD_CAUSE, Reg.FLT.DEV_FAULT.CAUSE, Reg.FLT.DEV_FAULT.DEV_SHUT, rawBit (page .flt 0) 2]
      (s.setDevState 6) (s.devFenced fc) :=
  (((OnlyFields.put _ _ (by simp) (by decide)).then_put _ (by simp) (by decide)).then_put _ (by simp) (by decide)).then_raise
    _ _ (by simp)

theorem State.devFenced_sameRecord (s : State) (fc : Nat) : SameRecord s (s.devFenced fc) :=
  (s.setDevState_sameRecord 6).trans (s.devFenced_frame fc).sameRecord

theorem State.devFenced_flt (s : State) (fc : Nat) : (s.devFenced fc).flt = s.flt :=
  (s.devFenced_frame fc).flt_eq.trans (s.setDevState_flt 6)

theorem State.devFenced_kept (s : State) (fc : Nat) : FieldsKept devFencedFields s (s.devFenced fc) :=
  ((s.setDevState_kept 6).mono fun _ hf => List.mem_append_left _ hf).trans
    ((s.devFenced_frame fc).2.mono fun _ hf => List.mem_append_right _ hf)

/-- The same with its log entry. -/
def State.devLogged (s : State) (fc : Nat) : State := (s.devFenced fc).logFault fc (devBlock fc) 0 aDevice 0

/-- The same with its marker, stamped with the boundary of an instant. -/
def State.devMarked (s : State) (fc t : Nat) : State :=
  (s.devLogged fc).faultMarker fc (devBlock fc) 0 aDevice none 0 (t / 128) 63

/-- The same with STOPPING over: what remains is that the links follow. -/
def State.devReported (s : State) (fc t : Nat) : State := (s.devMarked fc t).put Reg.PRF.STAT.STOPPING 0

theorem State.deviceCause_entry (s : State) (fc t : Nat) : s.deviceCause fc t true =
    ((((s.put Reg.FLT.DEV_FAULT.CAUSE fc).put Reg.FLT.DEV_FAULT.DEV_SHUT 1).raise (page .flt 0) 2).logFault fc (devBlock fc) 0
      aDevice 0).faultMarker fc (devBlock fc) 0 aDevice none 0 (t / 128) 63 := by
  unfold State.deviceCause
  rw [if_pos (.inl rfl)]

/-- A device that may be fenced and is not in RUN has no passes to end. -/
theorem State.deviceShut_idle {s : State} (hfrom : s.shutFrom = true) (h6 : s.devState ≠ 6) (h8 : s.devState ≠ 8) (fc t : Nat) :
    s.deviceShut fc t = (s.devReported fc t).linksFollow := by
  unfold State.deviceShut
  rw [if_neg h6, if_neg (by simp [hfrom])]
  simp only [if_neg h8, State.deviceCause_entry]
  rfl

/-- A link out of RUN stays as it is while the device is not in RUN (R214). -/
theorem State.linkFollow_idle {s : State} {n : Nat} (hdev : s.devState ≠ 8) (hlink : s.lnkState n ≠ 6) : s.linkFollow n = s := by
  simp [State.linkFollow, hdev, hlink]

theorem State.forEach_unchanged {α : Type} {s : State} {f : State → α → State} {l : List α} (h : ∀ x ∈ l, f s x = s) :
    s.forEach l f = s := by
  induction l with
  | nil => rfl
  | cons x l ih =>
    rw [State.forEach_cons, h x (by simp)]
    exact ih fun y hy => h y (List.mem_cons_of_mem x hy)

theorem State.linksFollow_idle {s : State} (hdev : s.devState ≠ 8) (hlinks : ∀ l, l < 16 → s.lnkState l ≠ 6) :
    s.linksFollow = s :=
  State.forEach_unchanged fun l hl => State.linkFollow_idle hdev (hlinks l (List.mem_range.1 hl))

/-- What a report for the device writes after the fence. -/
def devReportFields : List FieldRef := Reg.PRF.STAT.STOPPING :: logFields

theorem State.devLogged_kept (s : State) (fc : Nat) : FieldsKept logFields (s.devFenced fc) (s.devLogged fc) :=
  State.logFault_kept _ _ _ _ _ _

theorem State.devLogged_sameRecord (s : State) (fc : Nat) : SameRecord s (s.devLogged fc) :=
  (s.devFenced_sameRecord fc).trans (State.logFault_sameRecord _ _ _ _ _ _)

theorem State.devMarked_onlyCarts (s : State) (fc t : Nat) : OnlyCarts (s.devLogged fc) (s.devMarked fc t) :=
  State.faultMarker_onlyCarts _ _ _ _ _ _ _ _ _

theorem State.devReported_frame (s : State) (fc t : Nat) :
    OnlyFields [Reg.PRF.STAT.STOPPING] (s.devMarked fc t) (s.devReported fc t) := OnlyFields.put _ 0 (by simp) (by decide)

theorem State.devReported_since (s : State) (fc t : Nat) : FieldsKept devReportFields (s.devFenced fc) (s.devReported fc t) :=
  (((s.devLogged_kept fc).mono fun _ hf => List.mem_cons_of_mem _ hf).trans
    (.of_regs (s.devMarked_onlyCarts fc t).regs_eq)).trans
      ((s.devReported_frame fc t).2.mono (List.cons_subset_cons _ (List.nil_subset _)))

theorem State.devReported_kept (s : State) (fc t : Nat) :
    FieldsKept (devFencedFields ++ devReportFields) s (s.devReported fc t) :=
  ((s.devFenced_kept fc).mono fun _ hf => List.mem_append_left _ hf).trans
    ((s.devReported_since fc t).mono fun _ hf => List.mem_append_right _ hf)

theorem State.devReported_tick (s : State) (fc t : Nat) : (s.devReported fc t).tick = s.tick :=
  (s.devReported_frame fc t).tick_eq.trans ((s.devMarked_onlyCarts fc t).tick_eq.trans (s.devLogged_sameRecord fc).tick)

theorem State.devReported_pending (s : State) (fc t : Nat) : (s.devReported fc t).pending = s.pending :=
  (s.devReported_frame fc t).pending_eq.trans ((s.devMarked_onlyCarts fc t).pending_eq.trans (s.devLogged_sameRecord fc).pending)

theorem State.devReported_devState (s : State) (fc t : Nat) : (s.devReported fc t).devState = 6 :=
  ((s.devReported_since fc t).get (by decide) (by decide)).trans
    (((s.devFenced_frame fc).get (by decide) (by decide)).trans (s.setDevState_devState (by decide)))

theorem lnkState_apart : ∀ l < 16, ∀ f ∈ devFencedFields ++ devReportFields, f.apart (Reg.LNK.STAT.STATE l) := by decide

theorem State.devReported_lnkState (s : State) (fc t : Nat) {l : Nat} (h : l < 16) :
    (s.devReported fc t).lnkState l = s.lnkState l :=
  (s.devReported_kept fc t).get (by simp [FieldRef.ok]) (lnkState_apart l h)

theorem State.devReported_logged (s : State) (fc t : Nat) :
    Logged fc (devBlock fc) 0 aDevice 0 s (s.devReported fc t) := by
  have hlogged : Logged fc (devBlock fc) 0 aDevice 0 (s.devFenced fc) (s.devLogged fc) :=
    State.logFault_logged _ _ _ _ _ (by decide)
  have hmarked := s.devMarked_onlyCarts fc t
  have hframe := s.devReported_frame fc t
  refine hlogged.of_same (s.devFenced_flt fc) (s.devFenced_sameRecord fc).tick
    ((s.devFenced_kept fc).get (by decide) (by decide)) (hframe.flt_eq.trans hmarked.flt_eq) ?_
  · have hstop : ∀ g ∈ [Reg.FLT.LOG_COUNT.COUNT, rawBit (page .flt 0) 0], g.ok ∧ Reg.PRF.STAT.STOPPING.apart g := by decide
    intro g hg
    obtain ⟨hok, hapart⟩ := hstop g hg
    exact (hframe.get hok (by simpa using hapart)).trans (hmarked.get_eq g)

theorem State.devReported_marker (s : State) (fc t : Nat) :
    MarkerCart 0x15 s.markerCls (st0 (t / 128)) s (s.devReported fc t) := by
  have hmarker : MarkerCart 0x15 (s.devLogged fc).markerCls (st0 (t / 128)) (s.devLogged fc) (s.devMarked fc t) :=
    State.faultMarker_marker _ _ _ _ _ _ _ _
  have hkept : FieldsKept (devFencedFields ++ logFields) s (s.devLogged fc) :=
    ((s.devFenced_kept fc).mono fun _ hf => List.mem_append_left _ hf).trans
      ((s.devLogged_kept fc).mono fun _ hf => List.mem_append_right _ hf)
  have hcls : (s.devLogged fc).markerCls = s.markerCls := hkept.get (by decide) (by decide)
  have hprov : (s.devLogged fc).provCls = s.provCls := hkept.get (by decide) (by decide)
  have hrecord := s.devLogged_sameRecord fc
  have hframe := (s.devReported_frame fc t).sameRecord
  rw [hcls] at hmarker
  exact hmarker.of_same hrecord.carts hrecord.recd hprov hframe.carts hframe.recd

/-! ### A host's shutter of FLT (R382, R385) -/

/-- The state after a host's shutter of FLT in READY. -/
def State.fltShuttered (s : State) : State :=
  (s.put (Reg.HEAD.PG_SHUTTER.SHUT (page .flt 0)) 1).devReported 0x26 (st0 (s.tick + 1))

theorem State.hostShutDevice_ready {s : State} (h : s.devState = 7) (hlinks : ∀ l, l < 16 → s.lnkState l ≠ 6) :
    s.hostShutDevice (st0 (s.tick + 1)) = s.fltShuttered := by
  unfold State.hostShutDevice
  extract_lets was u
  have hdev : u.devState = 7 := (s.get_put_apart _ (by decide) (by decide)).trans h
  have hlink : ∀ l, u.lnkState l = s.lnkState l := fun l => s.get_put_apart _ (by decide) (.inl (by simp; omega))
  have hready : ¬ (was && u.devState == 6) = true := by simp [hdev]
  rw [if_neg hready, State.deviceShut_idle (by simp [State.shutFrom, hdev]) (by simp [hdev]) (by simp [hdev])]
  refine State.linksFollow_idle (by simp [State.devReported_devState]) fun l hl => ?_
  rw [State.devReported_lnkState _ _ _ hl, hlink l]
  exact hlinks l hl

theorem exec_deviceHostShutter_ready {s : State} (h : s.devState = 7) (hlinks : ∀ l, l < 16 → s.lnkState l ≠ 6) :
    exec .deviceHostShutter s = .next s.fltShuttered := by
  calc exec .deviceHostShutter s
      = run s (s.when s.shutFrom fun s => s.hostShutDevice (st0 (s.tick + 1))) := rfl
    _ = run s (s.hostShutDevice (st0 (s.tick + 1))) := by rw [show s.shutFrom = true by simp [State.shutFrom, h]]; rfl
    _ = run s s.fltShuttered := by rw [State.hostShutDevice_ready h hlinks]
    _ = .next s.fltShuttered := run_eq (State.devReported_tick _ _ _) (State.devReported_pending _ _ _)

theorem State.fltShuttered_shut (s : State) : s.fltShuttered.shut (page .flt 0) = true := by
  rw [State.shut, State.bit, State.fltShuttered, (State.devReported_kept _ _ _).get (by decide) (by decide),
    State.get_put_self _ _ (by decide)]
  rfl

theorem State.fltShuttered_logged (s : State) : Logged 0x26 0x05 0 aDevice 0 s s.fltShuttered :=
  (State.devReported_logged (s.put (Reg.HEAD.PG_SHUTTER.SHUT (page .flt 0)) 1) 0x26 (st0 (s.tick + 1))).of_same
    (s.put_flt _ 1) (s.put_tick _ 1) (s.get_put_apart 1 (by decide) (by decide)) rfl fun _ _ => rfl

theorem State.fltShuttered_marker (s : State) :
    MarkerCart 0x15 s.markerCls (st0 (s.tick + 1)) s s.fltShuttered := by
  have hmarker := State.devReported_marker (s.put (Reg.HEAD.PG_SHUTTER.SHUT (page .flt 0)) 1) 0x26 (st0 (s.tick + 1))
  have hcls : (s.put (Reg.HEAD.PG_SHUTTER.SHUT (page .flt 0)) 1).markerCls = s.markerCls :=
    s.get_put_apart _ (by decide) (by decide)
  have htick : st0 (s.tick + 1) / 128 = s.tick + 1 := Nat.mul_div_cancel _ (by decide)
  rw [hcls, htick] at hmarker
  exact hmarker.of_same (s.put_carts _ 1) (s.put_recd _ 1) (s.get_put_apart 1 (by decide) (by decide)) rfl rfl

/-- Settles O43. The shutter of a page sets SHUT, and what the function then does leaves the fault log and the fault markers as
they were (`shutEffect_noFault`, by the kind of function); a drive channel shows HOST and waits for its fence (R254, shown from
the commit tick by log entry 93). FLT's own shutter goes through the report of R385, with its marker at the next boundary, which is
the model's choice (log entry 14). -/
theorem hostShuttersAreNoFaults : Obligations.HostShuttersAreNoFaults := by
  refine ⟨fun f n s hscan hex hf ho => ?_, fun f n s h => exec_hostShutter_none h, fun s h hlinks => ?_⟩
  · have hexec : exec (.hostShutter f n) s = run s (s.hostShuttered f n) := by
      rw [exec_hostShutter, hscan, hex, ← State.hostShut_open hf ho]
      rfl
    obtain ⟨hlog, hcount, hcarts⟩ := State.hostShuttered_quiet (s := s) hf n
    refine ⟨_, hexec, State.hostShuttered_shut hf n, hlog, hcount, hcarts, ?_⟩
    rintro rfl
    have hdrive := s.hostShuttered_drive n
    refine ⟨s.hostShuttered_drv_cause n, (hdrive n).trans (if_pos rfl), fun k hk => (hdrive k).trans (if_neg hk), ?_,
      s.hostShuttered_drv_kept n⟩
    exact congrArg (fun t : State => { t with tick := s.tick, pending := s.pending }) (s.hostShuttered_drv_state n)
  · exact ⟨s.fltShuttered, exec_deviceHostShutter_ready h hlinks, s.fltShuttered_shut, s.fltShuttered_logged,
      s.fltShuttered_marker⟩

end Sys2Proof.Machine
end

section
/-! PROOFS. The step of the block: the queue, what stops it, and the state after reset (R18, R57, R348, R349). -/

namespace Sys2Proof.Machine

/-! ### What a command leaves of the queue -/

theorem run_pending {s u t : State} (h : run s u = .next t) : t.pending = s.pending := by
  cases h; rfl

theorem runAt_pending {s u t : State} {n : Nat} (h : runAt s u n = .next t) : t.pending = s.pending := by
  cases h; rfl

theorem execSlowclkCycle_pending {s t : State} (h : execSlowclkCycle s = .next t) : t.pending = s.pending := by
  unfold execSlowclkCycle at h
  split at h
  · exact runAt_pending h
  · exact run_pending h

theorem execRstRelease_pending {p : Fin 8} {s t : State} (h : execRstRelease p s = .next t) : t.pending = s.pending := by
  unfold execRstRelease at h
  split at h
  · exact run_pending h
  · split at h
    · exact run_pending h
    · exact runAt_pending h

/-- No command touches the queue. -/
theorem exec_pending {c : Instr} {s t : State} (h : exec c s = .next t) : t.pending = s.pending := by
  cases hc : c.movesTick with
  | false =>
    rcases exec_runs c s hc with ⟨u, hu⟩ | hf
    · exact run_pending (hu.symm.trans h)
    · cases hf.symm.trans h
  | true =>
    cases c with
    | tickBoundary obs => exact runAt_pending h
    | slowclkCycle => exact execSlowclkCycle_pending h
    | rstRelease p => exact execRstRelease_pending h
    | _ => cases hc

/-! ### What stops the block (R348) -/

/-- The commands that find a breach of the supply order. -/
def breachesSupply (c : Instr) : Prop := c = .mainPowerUp ∨ c = .aonPowerLoss

theorem execRstRelease_next (p : Fin 8) (s : State) : ∃ t, execRstRelease p s = .next t := by
  unfold execRstRelease
  split
  · exact ⟨_, rfl⟩
  · split
    · exact ⟨_, rfl⟩
    · exact ⟨_, rfl⟩

theorem execSlowclkCycle_next (s : State) : ∃ t, execSlowclkCycle s = .next t := by
  unfold execSlowclkCycle
  split
  · exact ⟨_, rfl⟩
  · exact ⟨_, rfl⟩

/-- Every command completes, but the two that may find a supply out of order. -/
theorem exec_completes (c : Instr) (s : State) :
    (∃ t, exec c s = .next t) ∨ breachesSupply c ∧ exec c s = .fault .supplyOrder := by
  cases c with
  | mainPowerUp => exact (execMainPowerUp_runs s).imp (fun ⟨_, hu⟩ => ⟨_, hu⟩) (⟨.inl rfl, ·⟩)
  | aonPowerLoss => exact (execAonPowerLoss_runs s).imp (fun ⟨_, hu⟩ => ⟨_, hu⟩) (⟨.inr rfl, ·⟩)
  | slowclkCycle => exact .inl (execSlowclkCycle_next s)
  | rstRelease p => exact .inl (execRstRelease_next p s)
  | _ => exact .inl ⟨_, rfl⟩

/-! ### The step -/

theorem step_nil {s : State} (h : s.pending = []) : step s = .next s := by
  unfold step; rw [h]

theorem step_cons {s : State} {c : Instr} {q : List Instr} (h : s.pending = c :: q) :
    step s = exec c { s with pending := q } := by
  unfold step; rw [h]

/-- Settles O57. That the idle block stays as it is is the model's choice (log entry 1). -/
theorem stepRunsTheFrontCommand : Obligations.StepRunsTheFrontCommand :=
  ⟨fun _ _ => rfl, fun _ => step_nil⟩

theorem State.queueWf_tail {s t : State} (h : s.queueWf) (ht : t.pending = s.pending.tail) : t.queueWf :=
  fun c hc => h c (List.mem_of_mem_tail (ht ▸ hc))

/-- Settles O59: a step on an empty queue answers the same state; on another it is `exec` of the front command, which leaves the
queue it is given and stops at a breach of R348 only. How commands come to wait is the model's choice (log entry 11). -/
theorem stepsKeepTheQueueAndStopForSupplies : Obligations.StepsKeepTheQueueAndStopForSupplies := by
  intro s
  cases hq : s.pending with
  | nil =>
    rw [step_nil hq]
    refine ⟨fun t ht => ?_, fun f hf => (nomatch hf), fun r hr => (nomatch hr)⟩
    cases ht
    exact ⟨hq, id⟩
  | cons c q =>
    rw [step_cons hq]
    refine ⟨fun t ht => ?_, fun f hf => ?_, fun r hr => ?_⟩
    · have hrest : t.pending = q := exec_pending ht
      exact ⟨hrest, fun hwf => State.queueWf_tail hwf (hrest.trans (congrArg List.tail hq).symm)⟩
    · rcases exec_completes c { s with pending := q } with ⟨t, ht⟩ | ⟨hc, hs⟩
      · cases ht.symm.trans hf
      · cases hs.symm.trans hf
        exact ⟨rfl, q, hc.imp (by rw [·]) (by rw [·])⟩
    · rcases exec_completes c { s with pending := q } with ⟨t, ht⟩ | ⟨-, hs⟩
      · cases ht.symm.trans hr
      · cases hs.symm.trans hr

/-! ### The state after reset -/

/-- Settles O60: the tables of the state after reset list nothing, so every key reads as its default. That the part is the
JX6-2048-I is log entry 7, and that the counts read 0 until a self-test has ended log entry 34. -/
theorem resetState : Obligations.ResetState := by
  refine ⟨rfl, by decide, rfl, fun c hc => (nomatch hc), fun h => ?_, fun a => rfl, fun a => rfl, by decide, by decide,
    by decide, by decide, by decide, by decide, by decide⟩
  have hslot : State.reset.slot h = Slot.reset := rfl
  rw [hslot]
  decide

end Sys2Proof.Machine
end

section
/-! PROOFS. Chains of register writes: the frames and the fields that later sections follow through them. -/

namespace Sys2Proof.Machine

/-! ### One more write inside a frame -/

theorem OnlyFields.andPut {fs : List FieldRef} {s t : State} {f : FieldRef} {v : Nat} (h : OnlyFields fs s t)
    (hf : f ∈ fs := by simp) (ok : f.ok := by simp [FieldRef.ok]) : OnlyFields fs s (t.put f v) := h.then_put v hf ok

theorem OnlyFields.andBump {fs : List FieldRef} {s t : State} {f : FieldRef} {n : Nat} (h : OnlyFields fs s t)
    (hf : f ∈ fs := by simp) (ok : f.ok := by simp [FieldRef.ok]) : OnlyFields fs s (t.bump f n) := h.then_put _ hf ok

theorem OnlyFields.andErr {fs : List FieldRef} {s t : State} {p : Nat} (h : OnlyFields fs s t)
    (hf : Reg.HEAD.PG_ERRCNT.COUNT p ∈ fs := by simp) : OnlyFields fs s (t.err p) :=
  h.then_put _ hf (by simp [FieldRef.ok])

theorem OnlyFields.andRaise {fs : List FieldRef} {s t : State} {p k : Nat} (h : OnlyFields fs s t)
    (hf : rawBit p k ∈ fs := by simp) : OnlyFields fs s (t.raise p k) := h.then_raise p k hf

theorem FieldsKept.andPut {fs : List FieldRef} {s t : State} {f : FieldRef} {v : Nat} (h : FieldsKept fs s t)
    (hf : f ∈ fs := by simp) (ok : f.ok := by simp [FieldRef.ok]) : FieldsKept fs s (t.put f v) := h.then_put v hf ok

theorem FieldsKept.andSame {fs : List FieldRef} {s t u : State} (h : FieldsKept fs s t) (hr : u.regs = t.regs) :
    FieldsKept fs s u := h.trans (FieldsKept.of_regs hr)

/-! ### A field after a write -/

theorem State.get_put_of_lt (s : State) {f : FieldRef} {v : Nat} (h : f.ok) (hv : v < 2 ^ (f.hi + 1 - f.lo)) :
    (s.put f v).get f = v :=
  (s.get_put_self v h).trans (Nat.mod_eq_of_lt hv)

theorem State.get_bump_apart (s : State) {f g : FieldRef} (n : Nat) (h : f.ok) (ha : f.apart g) :
    (s.bump f n).get g = s.get g := s.get_put_apart _ h ha

theorem State.get_err_apart (s : State) {p : Nat} {g : FieldRef} (ha : (Reg.HEAD.PG_ERRCNT.COUNT p).apart g) :
    (s.err p).get g = s.get g := s.get_put_apart _ (by simp [FieldRef.ok]) ha

/-- A raised source keeps every other field, of its own register too. -/
theorem State.get_raise_apart (s : State) {p k : Nat} {g : FieldRef} (ok : g.ok) (ha : (rawBit p k).apart g) :
    (s.raise p k).get g = s.get g :=
  (FieldsKept.raise (fs := [rawBit p k]) s p k (by simp)).get ok (by simpa using ha)

theorem State.get_lt (s : State) (f : FieldRef) : s.get f < 2 ^ (f.hi + 1 - f.lo) := Word.bits_lt _ _ _

theorem State.get_of_regs {s t : State} (h : t.regs = s.regs) (f : FieldRef) : t.get f = s.get f := by
  rw [State.get, State.get, State.reg, State.reg, h]

theorem State.bit_iff {s : State} {f : FieldRef} : s.bit f = true ↔ s.get f = 1 := by simp [State.bit]

/-- A field that another write left alone is as pending, or not, as before. -/
theorem State.isRaised_put_iff (s : State) {p k : Nat} {f : FieldRef} (v : Nat) (ok : f.ok) (ha : f.apart (rawBit p k)) :
    (s.put f v).isRaised p k ↔ s.isRaised p k := by
  rw [State.isRaised, State.get_put_apart _ _ ok ha, State.isRaised]

end Sys2Proof.Machine
end

section
/-! PROOFS. Host time: SET, STEP, SLEW and the end of a slew (chapter 2: R60, R61, R63). -/

section
open Sys2Proof Sys2Proof.Machine

/-! ### The frame of a host-time command -/

theorem HtFrame.refl (s : State) : HtFrame s s := ⟨rfl, FieldsKept.refl _ s⟩

theorem HtFrame.trans {s t u : State} (h : HtFrame s t) (k : HtFrame t u) : HtFrame s u := by
  obtain ⟨hst, hkept⟩ := h
  obtain ⟨htu, hkept'⟩ := k
  exact ⟨by rw [htu, hst], hkept.trans hkept'⟩

theorem HtFrame.andPut {s t : State} {f : FieldRef} {v : Nat} (h : HtFrame s t)
    (hf : f ∈ [Reg.CLK.HT_CMD.CMD, Reg.CLK.HT_STAT.HT_VALID, Reg.CLK.HT_STAT.SLEW_ACTIVE, rawBit (page .clk 0) 4] := by simp)
    (ok : f.ok := by decide) : HtFrame s (t.put f v) := h.trans ⟨rfl, FieldsKept.put t v hf ok⟩

theorem HtFrame.andRaise {s t : State} (h : HtFrame s t) : HtFrame s (t.raise (page .clk 0) 4) :=
  h.trans ⟨rfl, FieldsKept.raise t _ _ (by simp)⟩

theorem HtFrame.run_eq {s t : State} (h : HtFrame s t) : run s t = .next t :=
  Sys2Proof.Machine.run_eq (by rw [h.1]) (by rw [h.1])

end

namespace Sys2Proof.Machine

/-! ### Offset and slew -/

/-- The state with another offset and slew. -/
def State.withOfs (s : State) (o : Int) (w : Option Slew) : State := { s with clk := { s.clk with htOfs := o, slew := w } }

@[simp] theorem State.withOfs_get (s : State) (o : Int) (w : Option Slew) (f : FieldRef) : (s.withOfs o w).get f = s.get f := rfl

theorem HtFrame.withOfs {s t : State} (h : HtFrame s t) (o : Int) (w : Option Slew) : HtFrame s (t.withOfs o w) :=
  h.trans ⟨rfl, FieldsKept.of_regs rfl⟩

/-- Offset, slew and SLEW_ACTIVE together. -/
def State.htSlewed (s : State) (o : Int) (w : Option Slew) : State :=
  (s.withOfs o w).put Reg.CLK.HT_STAT.SLEW_ACTIVE (if w.isSome then 1 else 0)

theorem State.htSlewed_active (s : State) (o : Int) (w : Option Slew) :
    (s.htSlewed o w).get Reg.CLK.HT_STAT.SLEW_ACTIVE = if w.isSome then 1 else 0 :=
  State.get_put_of_lt _ (by decide) (by split <;> decide)

theorem State.htSlewed_get (s : State) (o : Int) (w : Option Slew) {g : FieldRef}
    (ha : Reg.CLK.HT_STAT.SLEW_ACTIVE.apart g) : (s.htSlewed o w).get g = s.get g :=
  State.get_put_apart _ _ (by decide) ha

theorem HtFrame.htSlewed {s t : State} (h : HtFrame s t) (o : Int) (w : Option Slew) : HtFrame s (t.htSlewed o w) :=
  (HtFrame.withOfs h o w).andPut

/-! ### The marker (R60, R277) -/

theorem State.timeStep_onlyCarts (s : State) (cmd : Nat) (done : Bool) (ab : Option Int) (rate : Nat) (old delta : Int) :
    OnlyCarts s (s.timeStep cmd done ab rate old delta) := s.cart_onlyCarts _ _ _ _ _

theorem State.timeStep_get (s : State) (cmd : Nat) (done : Bool) (ab : Option Int) (rate : Nat) (old delta : Int)
    (f : FieldRef) : (s.timeStep cmd done ab rate old delta).get f = s.get f :=
  (s.timeStep_onlyCarts cmd done ab rate old delta).get_eq f

theorem State.timeStep_oneCart {s u : State} (cmd : Nat) (done : Bool) (ab : Option Int) (rate : Nat) (old delta : Int)
    (hc : u.carts = s.carts) (hr : u.recd = s.recd) (hcls : u.markerCls = s.markerCls) (ht : u.tick = s.tick) :
    OneCart 0x10 s.markerCls s.now s (u.timeStep cmd done ab rate old delta) := by
  have hcart : OneCart 0x10 u.markerCls (st0 u.tick) s (u.timeStep cmd done ab rate old delta) :=
    (u.cart_oneCart _ _ _ _ (show unnumbered 0x10 = false from rfl)).of_same hc hr
  rw [hcls, ht] at hcart
  exact hcart

/-- Carts and record counters decide whether one cart came. -/
theorem OneCart.andSame {typ cls at_ : Nat} {s t u : State} (h : OneCart typ cls at_ s t) (hc : u.carts = t.carts)
    (hr : u.recd = t.recd) : OneCart typ cls at_ s u := by
  simpa only [OneCart, State.seqOf, hc, hr] using h

theorem HtFrame.andTimeStep {s t : State} (h : HtFrame s t) (cmd : Nat) (done : Bool) (ab : Option Int) (rate : Nat)
    (old delta : Int) : HtFrame s (t.timeStep cmd done ab rate old delta) := by
  have hcarts := t.timeStep_onlyCarts cmd done ab rate old delta
  refine h.trans ⟨?_, FieldsKept.of_regs hcarts.regs_eq⟩
  generalize t.timeStep cmd done ab rate old delta = u at hcarts ⊢
  rw [hcarts]

/-! ### SET and STEP (R60, R63) -/

/-- A committed HT_DELTA is a number of 64 bits. -/
theorem signed_range (v : Nat) : -(2 ^ 63) ≤ Machine.signed 64 v ∧ Machine.signed 64 v < 2 ^ 63 := by
  unfold Machine.signed
  split <;> omega

/-- So SET is never out of range. -/
theorem State.htDelta_fits (s : State) : ofsFits (s.htDelta * 65536) = true := by
  obtain ⟨hlow, hhigh⟩ := signed_range (s.get64 Reg.CLK.HT_DELTA_LO.DELTA Reg.CLK.HT_DELTA_HI.DELTA)
  have hdiv : s.htDelta * 65536 / 65536 = s.htDelta := Int.mul_ediv_cancel _ (by decide)
  rw [ofsFits, hdiv]
  simp only [Bool.and_eq_true, decide_eq_true_eq]
  exact ⟨hlow, hhigh⟩

/-- HT_VALID as a command leaves it: SET makes it 1. -/
def State.htValidated (s : State) (cmd : Nat) : State := if cmd = 1 then s.put Reg.CLK.HT_STAT.HT_VALID 1 else s

/-- The state after a SET or STEP. -/
def State.htMoved (s : State) (cmd : Nat) : State :=
  (((((s.htSlewed (s.htGoal cmd) none).htValidated cmd).timeStep cmd false (s.clk.slew.map Slew.rest) 0 s.clk.htOfs
    s.htDelta).raise (page .clk 0) 4).put Reg.CLK.HT_CMD.CMD 0)

theorem State.htRow_moves {s : State} {cmd : Nat} (hon : s.clockOn = true) (h0 : cmd ≠ 0) (h3 : cmd ≠ 3)
    (hgood : s.htBad cmd = false) : s.htRow cmd = s.htMoved cmd := by
  have hdelta : (s.htSlewed (s.htGoal cmd) none).htDelta = s.htDelta := by
    simp (disch := decide) only [State.htDelta, State.get64, State.htSlewed_get]
  have hdelta' : ((s.htSlewed (s.htGoal cmd) none).htValidated cmd).htDelta = s.htDelta := by
    rw [← hdelta]
    unfold State.htValidated
    split
    · simp (disch := decide) only [State.htDelta, State.get64, State.get_put_apart]
    · rfl
  rw [State.htRow, hon, State.when_true, State.htCommand, if_neg h0, hgood, if_neg (by decide), State.htMoved, ← hdelta']
  dsimp only
  rw [if_neg h3]
  rfl

theorem State.htValidated_get (s : State) (cmd : Nat) {g : FieldRef} (ha : Reg.CLK.HT_STAT.HT_VALID.apart g) :
    (s.htValidated cmd).get g = s.get g := by
  unfold State.htValidated
  split
  · exact State.get_put_apart _ _ (by decide) ha
  · rfl

theorem State.htValidated_valid (s : State) (cmd : Nat) :
    (s.htValidated cmd).get Reg.CLK.HT_STAT.HT_VALID = if cmd = 1 then 1 else s.get Reg.CLK.HT_STAT.HT_VALID := by
  unfold State.htValidated
  split
  · exact State.get_put_of_lt _ (by decide) (by decide)
  · rfl

/-- HT_VALID is beside the parts that a cart, a slew and a class depend on. -/
theorem State.htValidated_eq (s : State) (cmd : Nat) : s.htValidated cmd = { s with regs := (s.htValidated cmd).regs } := by
  unfold State.htValidated
  split <;> rfl

theorem HtFrame.htMoved (s : State) (cmd : Nat) : HtFrame s (s.htMoved cmd) := by
  have hvalid : HtFrame s ((s.htSlewed (s.htGoal cmd) none).htValidated cmd) := by
    unfold State.htValidated
    split
    · exact (HtFrame.htSlewed (.refl s) _ _).andPut
    · exact HtFrame.htSlewed (.refl s) _ _
  exact (HtFrame.andTimeStep hvalid _ _ _ _ _ _).andRaise.andPut

/-- The facts of a SET or STEP that its statement lists, but for HT_VALID. -/
theorem State.htMoved_facts (s : State) (cmd : Nat) :
    (s.htMoved cmd).clk.htOfs = s.htGoal cmd ∧ (s.htMoved cmd).clk.slew = none ∧
      (s.htMoved cmd).get Reg.CLK.HT_STAT.SLEW_ACTIVE = 0 ∧ (s.htMoved cmd).get Reg.CLK.HT_CMD.CMD = 0 ∧
      (s.htMoved cmd).isRaised (page .clk 0) 4 ∧ OneCart 0x10 s.markerCls s.now s (s.htMoved cmd) := by
  have hclk : ((s.htSlewed (s.htGoal cmd) none).htValidated cmd).clk = (s.htSlewed (s.htGoal cmd) none).clk := by
    rw [State.htValidated_eq]
  refine ⟨congrArg Clk.htOfs hclk, congrArg Clk.slew hclk, ?_, State.get_put_of_lt _ (by decide) (by decide),
    State.isRaised_put_of (State.isRaised_raise _ _ (by decide)) _ (by decide) (by decide), ?_⟩
  · simp (disch := decide) only [State.htMoved, State.get_put_apart, State.get_raise_ne, State.timeStep_get,
      State.htValidated_get, State.htSlewed_active]
    rfl
  · refine OneCart.andSame (t := ((s.htSlewed (s.htGoal cmd) none).htValidated cmd).timeStep cmd false _ 0 s.clk.htOfs _)
      (State.timeStep_oneCart _ _ _ _ _ _ ?_ ?_ ?_ ?_) rfl rfl
    · rw [State.htValidated_eq]; rfl
    · rw [State.htValidated_eq]; rfl
    · simp (disch := decide) only [State.markerCls, State.htValidated_get, State.htSlewed_get]
    · rw [State.htValidated_eq]; rfl

theorem State.htMoved_valid (s : State) (cmd : Nat) :
    (s.htMoved cmd).get Reg.CLK.HT_STAT.HT_VALID = if cmd = 1 then 1 else s.get Reg.CLK.HT_STAT.HT_VALID := by
  simp (disch := decide) only [State.htMoved, State.get_put_apart, State.get_raise_ne, State.timeStep_get,
    State.htValidated_valid, State.htSlewed_get]

/-! ### SLEW (R61) -/

/-- The slew that a command begins, before its first adjustment. -/
def State.newSlew (s : State) : Slew :=
  ⟨s.htDelta.natAbs * 65536, decide (s.htDelta < 0), s.get Reg.CLK.HT_CMD.SLEW_RATE, s.htDelta, false, none⟩

/-- The state after the marker of a SLEW, before its first adjustment. -/
def State.slewBegun (s : State) : State :=
  ((s.htSlewed s.clk.htOfs none).htSlewed s.clk.htOfs (some s.newSlew)).timeStep 3 false (s.clk.slew.map Slew.rest)
    (s.get Reg.CLK.HT_CMD.SLEW_RATE) s.clk.htOfs s.htDelta

/-- The slew after its first adjustment. -/
def State.slewFirst (s : State) : Slew :=
  { s.newSlew with left := s.newSlew.left - s.newSlew.rate, last := some s.tick }

/-- The state after a SLEW with more than one adjustment to make. -/
def State.slewed (s : State) : State :=
  (s.slewBegun.withOfs (s.clk.htOfs + (if s.htDelta < 0 then -(s.get Reg.CLK.HT_CMD.SLEW_RATE : Int) else
    s.get Reg.CLK.HT_CMD.SLEW_RATE)) (some s.slewFirst)).put Reg.CLK.HT_CMD.CMD 0

theorem State.htSlewed_htDelta (s : State) (o : Int) (w : Option Slew) : (s.htSlewed o w).htDelta = s.htDelta := by
  simp (disch := decide) only [State.htDelta, State.get64, State.htSlewed_get]

theorem State.slewStep_adjusts {s : State} {w : Slew} (h : s.clk.slew = some w) (hlast : w.last = none)
    (hmore : w.rate < w.left) :
    s.slewStep = s.withOfs (s.clk.htOfs + (if w.negative then -(w.rate : Int) else w.rate))
      (some { w with left := w.left - w.rate, last := some s.tick }) := by
  have hnow : ¬ w.last = some s.tick := by simp [hlast]
  unfold State.slewStep
  rw [h]
  dsimp only
  rw [if_neg hnow, if_neg (Nat.not_le.2 hmore)]
  rfl

theorem State.htRow_slews {s : State} (hon : s.clockOn = true) (hgood : s.htBad 3 = false)
    (hmore : s.get Reg.CLK.HT_CMD.SLEW_RATE < s.htDelta.natAbs * 65536) : s.htRow 3 = s.slewed := by
  have hbegun : s.htCommand 3 = s.slewBegun.slewStep := by
    have hrate : (s.setSlew none).get Reg.CLK.HT_CMD.SLEW_RATE = s.get Reg.CLK.HT_CMD.SLEW_RATE :=
      State.htSlewed_get _ _ _ (by decide)
    have hdelta : (s.setSlew none).htDelta = s.htDelta := s.htSlewed_htDelta _ _
    rw [State.htCommand, if_neg (by decide), hgood, if_neg (by decide)]
    dsimp only
    rw [if_pos rfl, hrate, hdelta]
    have hdelta' : ∀ w, ((s.setSlew none).setSlew (some w)).htDelta = s.htDelta :=
      fun w => (State.htSlewed_htDelta _ _ _).trans hdelta
    rw [hdelta']
    rfl
  have hstep : s.slewBegun.slewStep = _ := State.slewStep_adjusts (s := s.slewBegun) (w := s.newSlew) rfl rfl hmore
  rw [State.htRow, hon, State.when_true, hbegun, hstep]
  simp only [State.newSlew, decide_eq_true_eq]
  rfl

theorem HtFrame.slewed (s : State) : HtFrame s s.slewed :=
  (HtFrame.withOfs (HtFrame.andTimeStep (HtFrame.htSlewed (HtFrame.htSlewed (.refl s) _ _) _ _) _ _ _ _ _ _) _ _).andPut

/-! ### The end of a slew (R61) -/

/-- The state after the last adjustment of slew w. -/
def State.slewEnded (s : State) (w : Slew) : State :=
  ((s.htSlewed (s.clk.htOfs + w.rest) none).timeStep 3 true none w.rate s.clk.htOfs w.delta).raise (page .clk 0) 4

theorem State.slewDone_ends {s : State} {w : Slew} (h : s.clk.slew = some w) (hdue : w.due = true) :
    s.slewDone = s.slewEnded w := by
  unfold State.slewDone
  rw [h]
  dsimp only
  rw [hdue]
  rfl

/-- Settles O3: a command in range, and a last adjustment that is due, are chains of a new offset and slew, a marker, and
writes of the fields of the frame; HT_DELTA is a number of 64 bits, so that SET is always in range. -/
theorem hostTimeMoves : Obligations.HostTimeMoves := by
  refine ⟨fun s hon => ?_, fun s hon hfits => ?_, fun s hon hfits hnear hmore => ?_, fun w s hw hdue => ?_⟩
  · have hgood : s.htBad 1 = false := by simp [State.htBad, State.htGoal, s.htDelta_fits]
    obtain ⟨hofs, hslew, hactive, hcmd, hraised, hcart⟩ := s.htMoved_facts 1
    exact ⟨s.htMoved 1, (congrArg (run s) (State.htRow_moves hon (by decide) (by decide) hgood)).trans
      (HtFrame.htMoved s 1).run_eq, hofs.trans (if_pos rfl), hslew, s.htMoved_valid 1, hactive, hcmd, hraised, hcart, HtFrame.htMoved s 1⟩
  · have hgood : s.htBad 2 = false := by simp [State.htBad, State.htGoal, hfits]
    obtain ⟨hofs, hslew, hactive, hcmd, hraised, hcart⟩ := s.htMoved_facts 2
    exact ⟨s.htMoved 2, (congrArg (run s) (State.htRow_moves hon (by decide) (by decide) hgood)).trans
      (HtFrame.htMoved s 2).run_eq, hofs.trans (if_neg (by decide)), hslew, s.htMoved_valid 2, hactive, hcmd, hraised, hcart, HtFrame.htMoved s 2⟩
  · have hgood : s.htBad 3 = false := by
      have : ¬ 2 ^ 31 - 1 < s.htDelta.natAbs := Nat.not_lt.2 hnear
      simp only [State.htBad, State.htGoal, if_neg (show (3 : Nat) ≠ 1 by decide), hfits, decide_eq_false this]
      rfl
    refine ⟨s.slewed, s.slewFirst, (congrArg (run s) (State.htRow_slews hon hgood hmore)).trans (HtFrame.slewed s).run_eq,
      rfl, rfl, by simp only [State.slewFirst, State.newSlew], rfl, rfl, ?_, State.get_put_of_lt _ (by decide) (by decide), ?_, HtFrame.slewed s⟩
    · simp (disch := decide) only [State.slewed, State.slewBegun, State.get_put_apart, State.withOfs_get,
        State.timeStep_get, State.htSlewed_active]
      rfl
    · refine OneCart.andSame (t := s.slewBegun) (State.timeStep_oneCart _ _ _ _ _ _ rfl rfl ?_ rfl) rfl rfl
      simp (disch := decide) only [State.markerCls, State.htSlewed_get]
  · have hframe : HtFrame s (s.slewEnded w) := (HtFrame.andTimeStep (HtFrame.htSlewed (.refl s) _ _) _ _ _ _ _ _).andRaise
    refine ⟨s.slewEnded w, (congrArg (run s) (State.slewDone_ends hw hdue)).trans hframe.run_eq, rfl, rfl, ?_,
      State.isRaised_raise _ _ (by decide), ?_, hframe⟩
    · simp (disch := decide) only [State.slewEnded, State.get_raise_ne, State.timeStep_get, State.htSlewed_active]
      rfl
    · refine OneCart.andSame (t := (s.htSlewed (s.clk.htOfs + w.rest) none).timeStep 3 true none w.rate s.clk.htOfs w.delta)
        (State.timeStep_oneCart _ _ _ _ _ _ rfl rfl ?_ rfl) rfl rfl
      simp (disch := decide) only [State.markerCls, State.htSlewed_get]

end Sys2Proof.Machine
end

section
/-! PROOFS. Door references: how they are judged and cross-checked (chapter 2: R39 to R43). -/

namespace Sys2Proof.Machine

/-! ### The fault log beside the registers -/

theorem State.logFault_state (s : State) (cause block inst action data : Nat) :
    s.logFault cause block inst action data =
      { s with regs := (s.logFault cause block inst action data).regs,
               flt := (s.logFault cause block inst action data).flt } := by
  have hframe := (s.logEntered cause block inst action data).actionCounted_frame action
  have hentered : s.logEntered cause block inst action data =
      { s with regs := (s.logEntered cause block inst action data).regs,
               flt := (s.logEntered cause block inst action data).flt } := rfl
  rw [State.logFault_eq, hframe.flt_eq]
  generalize (s.logEntered cause block inst action data).actionCounted action = t at hframe ⊢
  rw [hframe.1, hentered]

theorem State.logFault_get (s : State) (cause block inst action data : Nat) {g : FieldRef} (ok : g.ok)
    (ha : ∀ f ∈ logFields, f.apart g) : (s.logFault cause block inst action data).get g = s.get g :=
  (s.logFault_kept cause block inst action data).get ok ha

/-! ### One reference changes state -/

/-- The fields that a change of a reference writes. -/
def refFields : List FieldRef := [Reg.CLK.REF_STAT.STATES, rawBit (page .clk 0) 0]

theorem State.setRef_only (s : State) (d v : Nat) : OnlyFields refFields s (s.setRef d v) :=
  s.setRef_frame d v (by simp [refFields]) (by simp [refFields])

theorem State.setRef_self (s : State) (d : DoorNo) {v : Nat} (hv : v < 16) : (s.setRef d v).refState d = v :=
  (s.setRef_refState d d.isLt d.isLt hv).trans (if_pos rfl)

theorem State.setRef_others (s : State) {d : DoorNo} {v : Nat} (hv : v < 16) (e : DoorNo) (he : e ≠ d) :
    (s.setRef d v).refState e = s.refState e :=
  (s.setRef_refState e d.isLt e.isLt hv).trans (if_neg fun h => he (Fin.ext h))

theorem State.refState_of_get {s t : State} (h : t.get Reg.CLK.REF_STAT.STATES = s.get Reg.CLK.REF_STAT.STATES) (d : Nat) :
    t.refState d = s.refState d := by rw [State.refState, State.refState, h]

theorem State.raise_refState (s : State) (k d : Nat) : (s.raise (page .clk 0) k).refState d = s.refState d :=
  State.refState_of_get (s.get_raise_ne (by decide)) d

theorem State.logFault_refState (s : State) (cause block inst action data d : Nat) :
    (s.logFault cause block inst action data).refState d = s.refState d :=
  State.refState_of_get (s.logFault_get _ _ _ _ _ (by decide) (by decide)) d

/-! ### A reference that fails where no PLL uses it (R42) -/

/-- The state after a reference in no use has failed, with its entry in the log. -/
def State.refFailed (s : State) (d v : Nat) : State := (s.setRef d v).logFault 0x20 0x02 0 aAbsorbed 0

theorem State.setRef_pllUses (s : State) (d v p e : Nat) : (s.setRef d v).pllUses p e = s.pllUses p e := by
  have hget : ∀ g : FieldRef, g.ok → (∀ f ∈ refFields, f.apart g) → (s.setRef d v).get g = s.get g :=
    fun g ok ha => (s.setRef_only d v).get ok ha
  simp (disch := decide) only [State.pllUses, State.pllState, State.pllDoor, hget]

theorem State.refFail_unused {s : State} {d : Nat} (v : Nat) (h0 : s.pllUses 0 d = false) (h1 : s.pllUses 1 d = false) :
    s.refFail d v = s.refFailed d v := by
  have hnone : (List.range 2).find? (fun p => (s.setRef d v).pllUses p d) = none := by
    rw [show List.range 2 = [0, 1] from rfl]
    simp [State.setRef_pllUses, h0, h1]
  unfold State.refFail State.refLost
  rw [hnone]
  rfl

theorem State.refFailed_self (s : State) (d : DoorNo) {v : Nat} (hv : v < 16) : (s.refFailed d v).refState d = v :=
  (State.logFault_refState _ _ _ _ _ _ _).trans (s.setRef_self d hv)

theorem State.refFailed_others (s : State) {d : DoorNo} {v : Nat} (hv : v < 16) (e : DoorNo) (he : e ≠ d) :
    (s.refFailed d v).refState e = s.refState e :=
  (State.logFault_refState _ _ _ _ _ _ _).trans (s.setRef_others hv e he)

theorem State.refFailed_logged (s : State) (d v : Nat) : Logged 0x20 0x02 0 aAbsorbed 0 s (s.refFailed d v) := by
  have hset := s.setRef_only d v
  exact (State.logFault_logged _ _ _ _ _ (by decide)).of_same hset.flt_eq hset.tick_eq (hset.get (by decide) (by decide))
    rfl (fun _ _ => rfl)

theorem State.refFailed_raises {s : State} {d v : Nat} (h : s.refState d ≠ v) :
    (s.refFailed d v).isRaised (page .clk 0) 0 :=
  (State.logFault_get _ _ _ _ _ _ (by decide) (by decide)).trans (State.setRef_raises s h)

theorem State.refFailed_state (s : State) (d v : Nat) :
    s.refFailed d v = { s with regs := (s.refFailed d v).regs, flt := (s.refFailed d v).flt } := by
  have hlog : s.refFailed d v = { s.setRef d v with regs := (s.refFailed d v).regs, flt := (s.refFailed d v).flt } :=
    State.logFault_state _ _ _ _ _ _
  have hset := (s.setRef_only d v).1
  generalize s.refFailed d v = t at hlog ⊢
  rw [hset] at hlog
  exact hlog

theorem State.refFailed_kept (s : State) (d v : Nat) :
    FieldsKept (Reg.CLK.REF_STAT.STATES :: rawBit (page .clk 0) 0 :: logFields) s (s.refFailed d v) :=
  ((s.setRef_only d v).2.mono (by simp [refFields])).trans ((State.logFault_kept _ _ _ _ _ _).mono (by simp +contextual))

theorem State.refFailed_run (s : State) (d v : Nat) : run s (s.refFailed d v) = .next (s.refFailed d v) :=
  run_eq (by rw [s.refFailed_state]) (by rw [s.refFailed_state])

/-! ### A count ends (R39 to R41) -/

/-- Another door's reference is QUALIFIED. -/
def State.otherQualified (s : State) (d : DoorNo) : Prop := ∃ o : DoorNo, o ≠ d ∧ s.refState o = 2

theorem State.otherQualified_iff (s : State) (d : DoorNo) :
    (List.range 4).any (fun o => o != d.val && s.qualified o) = true ↔ s.otherQualified d := by
  simp only [List.any_eq_true, List.mem_range, Bool.and_eq_true, bne_iff_ne, State.qualified, beq_iff_eq,
    State.otherQualified]
  constructor
  · rintro ⟨o, ho, hne, h2⟩
    exact ⟨⟨o, ho⟩, fun h => hne (congrArg Fin.val h), h2⟩
  · rintro ⟨o, hne, h2⟩
    exact ⟨o, o.isLt, fun h => hne (Fin.ext h), h2⟩

section
variable {s : State} {d : DoorNo} {ppm dev : Nat} (hon : s.clockOn = true) (hen : s.trefEn d = true)
  (h2 : s.refState d ≠ 2) (h5 : s.refState d ≠ 5)
include hon hen h2 h5

/-- None of the conditions that make the end of a count no event. -/
theorem State.counts : ¬ ((!s.clockOn) = true ∨ (!s.trefEn d) = true ∨ s.qualified d = true ∨ s.refState d = 5) := by
  simp [hon, hen, h5, State.qualified, h2]

theorem State.qualify_fails (hx : s.otherQualified d ∧ s.chkTol < ppm) : s.qualify d ppm dev = s.setRef d 5 := by
  unfold State.qualify
  rw [if_neg (State.counts hon hen h2 h5), if_pos]
  rw [Bool.and_eq_true, State.otherQualified_iff, decide_eq_true_eq]
  exact hx

theorem State.qualify_passes (hx : ¬ (s.otherQualified d ∧ s.chkTol < ppm)) : s.qualify d ppm dev =
    if s.get Reg.CLK.REF_CFG.SSC_THR < dev then (s.setRef d 3).raise (page .clk 0) 3 else (s.setRef d 2).assignPlls := by
  unfold State.qualify
  rw [if_neg (State.counts hon hen h2 h5), if_neg]
  rw [Bool.and_eq_true, State.otherQualified_iff, decide_eq_true_eq]
  exact hx

end

/-- What the end of a count may write. -/
def qualifyFields : List FieldRef :=
  [Reg.CLK.REF_STAT.STATES, rawBit (page .clk 0) 0, rawBit (page .clk 0) 3, Reg.CLK.PLL_STAT.A_STATE,
    Reg.CLK.PLL_STAT.A_DOOR, Reg.CLK.PLL_STAT.B_STATE, Reg.CLK.PLL_STAT.B_DOOR]

theorem State.setRef_spread (s : State) (d : Nat) :
    OnlyFields [Reg.CLK.REF_STAT.STATES, rawBit (page .clk 0) 0, rawBit (page .clk 0) 3] s
      ((s.setRef d 3).raise (page .clk 0) 3) := ((s.setRef_only d 3).mono (by simp [refFields])).andRaise

theorem State.setRef_assigned (s : State) (d v : Nat) : OnlyFields qualifyFields s (s.setRef d v).assignPlls :=
  ((s.setRef_only d v).mono (by simp [refFields, qualifyFields])).trans
    ((State.assignPlls_frame _).mono (by simp [pllFields, qualifyFields]))

/-! ### The cross-check (R43) -/

/-- The doors whose references are QUALIFIED. -/
def State.qualifiedDoors (s : State) : List Nat := (List.range 4).filter (fun d => s.qualified d)

theorem State.qualifiedDoors_eq {s : State} {p : Nat → Bool} (h : ∀ d : DoorNo, s.qualified d = p d) :
    s.qualifiedDoors = (List.range 4).filter p :=
  List.filter_congr fun d hd => h ⟨d, List.mem_range.1 hd⟩

theorem length_two_doors : ∀ a b : DoorNo, a ≠ b →
    ((List.range 4).filter (fun d => d == a.val || d == b.val)).length = 2 := by decide

theorem length_three_doors : ∀ a b c : DoorNo, a ≠ b → a ≠ c → b ≠ c →
    ((List.range 4).filter (fun d => d == a.val || d == b.val || d == c.val)).length = 3 := by decide

theorem filter_three_doors : ∀ a b c : DoorNo,
    ((List.range 4).filter (fun d => d == a.val || d == b.val || d == c.val)).filter (fun d => d == a.val) = [a.val] := by decide

theorem State.strangers_eq (s : State) (ppm : Nat → Int) : s.strangers ppm = s.qualifiedDoors.filter (fun d =>
    s.qualifiedDoors.all (fun o => o == d || decide (s.chkTol < (ppm d - ppm o).natAbs))) := rfl

/-- A QUALIFIED reference that differs from every other one is among those that the check finds. -/
theorem State.mem_strangers_iff {s : State} {ppm : Nat → Int} {d : Nat} : d ∈ s.strangers ppm ↔
    d ∈ s.qualifiedDoors ∧ ∀ o ∈ s.qualifiedDoors, o = d ∨ s.chkTol < (ppm d - ppm o).natAbs := by
  simp [State.strangers_eq]

theorem qualifiedDoors_two {s : State} {a b : DoorNo} (h : ∀ d : DoorNo, s.qualified d = true ↔ d = a ∨ d = b) :
    s.qualifiedDoors = (List.range 4).filter (fun d => d == a.val || d == b.val) :=
  State.qualifiedDoors_eq fun d => by
    rw [Bool.eq_iff_iff, h]
    simp [Fin.ext_iff]

theorem qualifiedDoors_three {s : State} {a b c : DoorNo}
    (h : ∀ d : DoorNo, s.qualified d = true ↔ d = a ∨ d = b ∨ d = c) :
    s.qualifiedDoors = (List.range 4).filter (fun d => d == a.val || d == b.val || d == c.val) :=
  State.qualifiedDoors_eq fun d => by
    rw [Bool.eq_iff_iff, h]
    simp [Fin.ext_iff, or_assoc]

theorem State.crossCheck_two {s : State} {ppm : Nat → Int} {a b : DoorNo} (hab : a ≠ b)
    (h : ∀ d : DoorNo, s.qualified d = true ↔ d = a ∨ d = b) (hdiff : s.chkTol < (ppm a - ppm b).natAbs) :
    s.crossCheck ppm = (s.put Reg.CLK.REF_STAT.XCHK_DISAGREE 1).raise (page .clk 0) 0 := by
  have hdoors := qualifiedDoors_two h
  have hmem : a.val ∈ s.strangers ppm := by
    simp only [State.mem_strangers_iff, hdoors, List.mem_filter, List.mem_range, Bool.or_eq_true, beq_iff_eq]
    refine ⟨⟨a.isLt, by simp⟩, fun o ho => ho.2.imp_right ?_⟩
    rintro rfl
    exact hdiff
  have hlen : ((List.range 4).filter (fun d => s.qualified d)).length = 2 :=
    (congrArg List.length hdoors).trans (length_two_doors a b hab)
  unfold State.crossCheck
  rw [hlen]
  cases hs : s.strangers ppm with
  | nil => rw [hs] at hmem; cases hmem
  | cons x l => rfl

theorem State.crossCheck_three {s : State} {ppm : Nat → Int} {a b c : DoorNo} (hab : a ≠ b) (hac : a ≠ c) (hbc : b ≠ c)
    (h : ∀ d : DoorNo, s.qualified d = true ↔ d = a ∨ d = b ∨ d = c)
    (hdb : s.chkTol < (ppm a - ppm b).natAbs) (hdc : s.chkTol < (ppm a - ppm c).natAbs)
    (hagree : (ppm b - ppm c).natAbs ≤ s.chkTol) : s.crossCheck ppm = s.refFail a 5 := by
  have hdoors := qualifiedDoors_three h
  have hmem : ∀ d, d ∈ s.qualifiedDoors ↔ d = a.val ∨ d = b.val ∨ d = c.val := by
    intro d
    simp only [hdoors, List.mem_filter, List.mem_range, Bool.or_eq_true, beq_iff_eq]
    omega
  have honly : s.strangers ppm = [a.val] := by
    rw [← filter_three_doors a b c, ← hdoors, State.strangers_eq]
    refine List.filter_congr fun d hd => ?_
    rw [Bool.eq_iff_iff, List.all_eq_true, beq_iff_eq]
    simp only [hmem, Bool.or_eq_true, beq_iff_eq, decide_eq_true_eq]
    have hne : b.val ≠ c.val := fun he => hbc (Fin.ext he)
    constructor
    · intro hall
      rcases (hmem d).1 hd with rfl | rfl | rfl
      · rfl
      · have := (hall c (.inr (.inr rfl))).resolve_left hne.symm
        omega
      · have := (hall b (.inr (.inl rfl))).resolve_left hne
        omega
    · rintro rfl o (rfl | rfl | rfl)
      · exact .inl rfl
      · exact .inr hdb
      · exact .inr hdc
  have hlen : ((List.range 4).filter (fun d => s.qualified d)).length = 3 :=
    (congrArg List.length hdoors).trans (length_three_doors a b c hab hac hbc)
  unfold State.crossCheck
  rw [hlen, honly]
  rfl

/-- Settles O1: each row is a change of one reference, with what follows it. What the references measure is an operand (log
entry 23). -/
theorem referencesAreJudged : Obligations.ReferencesAreJudged := by
  refine ⟨fun d ppm dev s hon hen h2 h5 => ?_, fun d s hon h5 => ?_, fun d dev s hon hen hdev h3 h2 => ?_,
    fun d s hon h2 hA hB => ?_, fun p0 p1 p2 p3 a b s hon hab hq hdiff => ?_,
    fun p0 p1 p2 p3 a b c s hon hab hac hbc hq hA hB hdb hdc hagree => ?_⟩
  · by_cases hx : s.otherQualified d ∧ s.chkTol < ppm
    · have hrun := State.qualify_fails (dev := dev) hon hen h2 h5 hx
      have hframe := (s.setRef_only d 5).mono (gs := qualifyFields) (by simp [refFields, qualifyFields])
      exact ⟨s.setRef d 5, (congrArg (run s) hrun).trans hframe.run_eq, (s.setRef_self d (by decide)).trans (if_pos hx).symm,
        fun h3 => absurd ((s.setRef_self d (by decide)).symm.trans h3) (by decide), fun _ => State.setRef_raises s h5,
        s.setRef_others (by decide), hframe⟩
    · have hrun := State.qualify_passes (dev := dev) hon hen h2 h5 hx
      by_cases hs : s.get Reg.CLK.REF_CFG.SSC_THR < dev
      · rw [if_pos hs] at hrun
        have hframe := (s.setRef_spread d).mono (gs := qualifyFields) (by simp [qualifyFields])
        refine ⟨_, (congrArg (run s) hrun).trans hframe.run_eq, ?_, fun _ => State.isRaised_raise _ _ (by decide),
          fun hne => ?_, fun e he => ?_, hframe⟩
        · rw [State.raise_refState, s.setRef_self d (by decide)]
          exact ((if_neg hx).trans (if_pos hs)).symm
        · rw [State.raise_refState, s.setRef_self d (by decide)] at hne
          exact State.isRaised_raise_of (State.setRef_raises s hne.symm) (by decide) _ _
        · rw [State.raise_refState, s.setRef_others (by decide) e he]
      · rw [if_neg hs] at hrun
        have hframe := s.setRef_assigned d 2
        refine ⟨_, (congrArg (run s) hrun).trans hframe.run_eq, ?_, fun h3 => ?_, fun _ => ?_, fun e he => ?_, hframe⟩
        · rw [State.assignPlls_refState, s.setRef_self d (by decide)]
          exact ((if_neg hx).trans (if_neg hs)).symm
        · rw [State.assignPlls_refState, s.setRef_self d (by decide)] at h3
          exact absurd h3 (by decide)
        · exact (State.assignPlls_isRaised _ (by decide) (by decide)).2 (State.setRef_raises s h2)
        · rw [State.assignPlls_refState, s.setRef_others (by decide) e he]
  · have hwhen : (s.when (s.clockOn && s.refState d == 5) fun s => s.setRef d 1) = s.setRef d 1 := by
      rw [hon, h5]; rfl
    exact ⟨s.setRef d 1, (congrArg (run s) hwhen).trans (s.setRef_only d 1).run_eq, s.setRef_self d (by decide),
      State.setRef_raises s (by rw [h5]; decide), s.setRef_others (by decide), s.setRef_only d 1⟩
  · have hwhen : (s.when (s.clockOn && s.trefEn d && decide (s.get Reg.CLK.REF_CFG.SSC_THR < dev) && s.refState d != 3)
        fun s => if s.qualified d then (s.raise (page .clk 0) 3).refFail d 3 else (s.setRef d 3).raise (page .clk 0) 3) =
        (s.setRef d 3).raise (page .clk 0) 3 := by
      have hq : s.qualified d = false := by simp [State.qualified, h2]
      rw [hon, hen, decide_eq_true hdev, bne_iff_ne.2 h3]
      exact if_neg (Bool.eq_false_iff.1 hq)
    refine ⟨_, (congrArg (run s) hwhen).trans (s.setRef_spread d).run_eq, (State.raise_refState _ _ _).trans
      (s.setRef_self d (by decide)), State.isRaised_raise_of (State.setRef_raises s h3) (by decide) _ _,
      State.isRaised_raise _ _ (by decide), fun e he => (State.raise_refState _ _ _).trans (s.setRef_others (by decide) e he),
      s.setRef_spread d⟩
  · have hwhen : (s.when s.clockOn fun s => s.missingEdge d) = s.refFailed d 4 := by
      rw [hon, State.when_true, State.missingEdge, if_pos (by simp [State.qualified, h2]), State.refFail_unused _ hA hB]
    exact ⟨_, (congrArg (run s) hwhen).trans (s.refFailed_run d 4), s.refFailed_self d (by decide),
      State.refFailed_raises (by rw [h2]; decide), s.refFailed_others (by decide), s.refFailed_logged d 4,
      s.refFailed_state d 4, s.refFailed_kept d 4⟩
  · have hwhen : (s.when s.clockOn fun s => s.crossCheck fun d => [p0, p1, p2, p3].getD d 0) =
        (s.put Reg.CLK.REF_STAT.XCHK_DISAGREE 1).raise (page .clk 0) 0 := by
      rw [hon, State.when_true, State.crossCheck_two hab hq hdiff]
    have hframe : OnlyFields [Reg.CLK.REF_STAT.XCHK_DISAGREE, rawBit (page .clk 0) 0] s
        ((s.put Reg.CLK.REF_STAT.XCHK_DISAGREE 1).raise (page .clk 0) 0) := (OnlyFields.refl _ s).andPut.andRaise
    exact ⟨_, (congrArg (run s) hwhen).trans hframe.run_eq,
      (State.get_raise_ne _ (by decide)).trans (State.get_put_of_lt _ (by decide) (by decide)),
      State.isRaised_raise _ _ (by decide), hframe⟩
  · have hwhen : (s.when s.clockOn fun s => s.crossCheck fun d => [p0, p1, p2, p3].getD d 0) = s.refFailed a 5 := by
      rw [hon, State.when_true, State.crossCheck_three hab hac hbc hq hdb hdc hagree, State.refFail_unused _ hA hB]
    exact ⟨_, (congrArg (run s) hwhen).trans (s.refFailed_run a 5), s.refFailed_self a (by decide),
      s.refFailed_others (by decide), s.refFailed_logged a 5, s.refFailed_state a 5, s.refFailed_kept a 5⟩

end Sys2Proof.Machine
end

section
/-! PROOFS. Served writes of registers that nothing stages; PLLs and the clock outputs (chapter 2: R45 to R50, R75). -/

namespace Sys2Proof.Machine

/-! ### A served write of a register without committed fields (R287, R289) -/

/-- The row of a page's registers at an offset. -/
def rowAt (b : Block) (off : Nat) : Option RegRow := (headRows ++ rowsOf b).find? (fun r => r.hits off)

/-- A register below the head that takes writes at once: some field can be written, none is committed, and it is no selector. -/
def isDirect (b : Block) (off : Nat) : Bool :=
  match rowAt b off with
  | some r => r.fields.any (fun f => [Acc.rw, .rwc, .w1c, .wac, .wo].contains f.acc) && r.fields.all (fun f => f.acc != .rwc) &&
      decide (0x40 ≤ off) && decide (off < 0x1000) && !(selOffsets b).contains off
  | none => false

/-- The row of such a register. -/
structure DirectRow (b : Block) (off : Nat) (r : RegRow) : Prop where
  found : rowAt b off = some r
  written : r.fields.any (fun f => [Acc.rw, .rwc, .w1c, .wac, .wo].contains f.acc) = true
  uncommitted : r.fields.all (fun f => f.acc != .rwc) = true
  belowHead : 0x40 ≤ off
  inPage : off < 0x1000
  noSelector : (selOffsets b).contains off = false

theorem isDirect_row {b : Block} {off : Nat} (h : isDirect b off = true) : ∃ r, DirectRow b off r := by
  unfold isDirect at h
  cases hr : rowAt b off with
  | none => rw [hr] at h; cases h
  | some r =>
    rw [hr] at h
    simp only [Bool.and_eq_true, decide_eq_true_eq, Bool.not_eq_true'] at h
    obtain ⟨⟨⟨⟨hany, hall⟩, h40⟩, hlt⟩, hsel⟩ := h
    exact ⟨r, hr, hany, hall, h40, hlt, hsel⟩

theorem State.busWrite_direct {s : State} {d : Nat} {b : Block} {n off : Nat} (h : s.accepts d b n off) (hn : n < b.pages)
    (hd : isDirect b off = true) (v : Word) : s.busWrite d (page b n + off) v = s.blockWrite d b n off v := by
  obtain ⟨r, hr, hany, hall, h40, hlt, hsel⟩ := isDirect_row hd
  have hrow : regRow (page b n + off) = some r := (regRow_page b hn hlt).trans hr
  have hfields : fieldsAt (page b n + off) = r.fields := by
    unfold fieldsAt
    rw [hrow]
  have hdeaf : deafShutter (page b n + off) = false := by
    rw [deafShutter_page b hn hlt, Bool.and_eq_false_iff, beq_eq_false_iff_ne]
    exact .inl (by omega)
  have hw : writable (page b n + off) = true := by
    simp only [writable, hasAcc, hfields, hany, hdeaf, Bool.not_false, Bool.and_self]
  rw [State.busWrite_accepts h hn hlt hw, State.write_block hn hlt (by rw [hrow]; rfl) h40 hsel,
    State.stageReg_none _ _ _ _ (State.stageMask_none s _ v (by rw [hfields]; exact hall)), ite_self]

/-! ### The PLLs (R45, R46) -/

theorem pllNum_cases (p : Pll) : pllNum p = 0 ∨ pllNum p = 1 := by cases p <;> simp [pllNum]

/-- The state field of a PLL, by its number. -/
def pllStateField (p : Nat) : FieldRef := if p = 0 then Reg.CLK.PLL_STAT.A_STATE else Reg.CLK.PLL_STAT.B_STATE

theorem State.setPll_put (s : State) (p v : Nat) : s.setPll p v = s.put (pllStateField p) v := by
  unfold State.setPll pllStateField
  split <;> rfl

theorem State.pllState_get (s : State) (p : Nat) : s.pllState p = s.get (pllStateField p) := by
  unfold State.pllState pllStateField
  split <;> rfl

theorem pllStateField_ok (p : Nat) : (pllStateField p).ok := by
  unfold pllStateField
  split <;> decide

theorem pllStateField_apart {p : Nat} (h : p = 0 ∨ p = 1) : (pllStateField p).apart (pllStateField (1 - p)) := by
  rcases h with rfl | rfl <;> decide

theorem pllStateField_num (p : Pll) :
    pllStateField (pllNum p) = if p = .a then Reg.CLK.PLL_STAT.A_STATE else Reg.CLK.PLL_STAT.B_STATE := by
  cases p <;> rfl

theorem State.setPll_pllState (s : State) (p : Nat) {v : Nat} (hv : v < 4) : (s.setPll p v).pllState p = v := by
  rw [State.setPll_put, State.pllState_get, State.get_put_of_lt _ (pllStateField_ok p)]
  unfold pllStateField
  split <;> exact hv

theorem State.setPll_pllState_other (s : State) {p : Nat} (hp : p = 0 ∨ p = 1) (v : Nat) :
    (s.setPll p v).pllState (1 - p) = s.pllState (1 - p) := by
  rw [State.setPll_put, State.pllState_get, State.get_put_apart _ _ (pllStateField_ok p) (pllStateField_apart hp),
    State.pllState_get]

theorem State.setPll_get (s : State) (p v : Nat) {g : FieldRef} (ha : Reg.CLK.PLL_STAT.A_STATE.apart g)
    (hb : Reg.CLK.PLL_STAT.B_STATE.apart g) : (s.setPll p v).get g = s.get g := by
  unfold State.setPll
  split
  · exact State.get_put_apart _ _ (by decide) ha
  · exact State.get_put_apart _ _ (by decide) hb

/-- A PLL that has its door keeps it. -/
theorem State.assignPll_locked {s : State} {p : Nat} (h : s.pllState p = 2) : s.assignPll p = s := if_pos (.inr (.inl h))

/-- What looks for a door for one PLL leaves the other as it is. -/
theorem State.assignPll_other (s : State) {p : Nat} (hp : p = 0 ∨ p = 1) :
    (s.assignPll p).pllState (1 - p) = s.pllState (1 - p) := by
  unfold State.assignPll
  split
  · rfl
  · split
    · rw [State.setPll_pllState_other _ hp]
      unfold State.setPllDoor
      split
      · simp (disch := decide) only [State.pllState, State.get_put_apart]
      · simp (disch := decide) only [State.pllState, State.get_put_apart]
    · rfl

theorem State.assignPlls_locked {s : State} {p : Nat} (hp : p = 0 ∨ p = 1) (h : s.pllState p = 2) :
    s.assignPlls.pllState p = 2 := by
  unfold State.assignPlls
  rcases hp with rfl | rfl
  · rw [State.assignPll_locked h]
    exact (s.assignPll_other (.inr rfl)).trans h
  · have hkept := (s.assignPll_other (.inl rfl)).trans h
    rw [State.assignPll_locked hkept]
    exact hkept

theorem State.assignPlls_get (s : State) {g : FieldRef} (ok : g.ok) (ha : ∀ f ∈ pllFields, f.apart g) :
    s.assignPlls.get g = s.get g := s.assignPlls_frame.get ok ha

/-! ### The tick starts (R45, R53) -/

/-- The filters of a channel forget the values that were in force before the count of cycles began. -/
def InpCh.forgetFilts (c : InpCh) : InpCh := { c with oldFilts := [] }

/-- The same for every channel that is listed. -/
def State.forgetFilts (s : State) : State := s.forEach (s.inp.map (fun e => e.1)) (fun s ch => s.onInp ch InpCh.forgetFilts)

theorem State.forEach_forgetFilts (l : List Nat) (s : State) (k : Nat) :
    (s.forEach l (fun s ch => s.onInp ch InpCh.forgetFilts)).inpCh k =
      if k ∈ l then (s.inpCh k).forgetFilts else s.inpCh k := by
  induction l generalizing s with
  | nil => rfl
  | cons ch l ih =>
    rw [State.forEach_cons, ih, State.onInp_eq, State.setInp_inpCh]
    by_cases hk : k = ch
    · subst hk
      simp [InpCh.forgetFilts]
    · simp [hk]

theorem State.forEach_forgetFilts_state (l : List Nat) (s : State) :
    s.forEach l (fun s ch => s.onInp ch InpCh.forgetFilts) =
      { s with inp := (s.forEach l (fun s ch => s.onInp ch InpCh.forgetFilts)).inp } := by
  induction l generalizing s with
  | nil => rfl
  | cons ch l ih =>
    rw [State.forEach_cons, ih]
    rfl

theorem Sparse.find_none_of_not_mem {α : Type} {m : Sparse α} {k : Nat} (h : k ∉ m.map (fun e => e.1)) : m.find k = none := by
  induction m with
  | nil => rfl
  | cons e m ih =>
    obtain ⟨j, v⟩ := e
    simp only [List.map_cons, List.mem_cons, not_or] at h
    simp [Sparse.find, Ne.symm h.1, ih h.2]

theorem State.forgetFilts_inpCh (s : State) (k : Nat) : s.forgetFilts.inpCh k = (s.inpCh k).forgetFilts := by
  rw [State.forgetFilts, State.forEach_forgetFilts]
  split
  · rfl
  next h =>
    have hreset : s.inpCh k = InpCh.reset := by rw [State.inpCh, Sparse.get, Sparse.find_none_of_not_mem h]
    rw [hreset]
    rfl

/-- The state after the first lock of a PLL. -/
def State.tickStarted (s : State) (p : Nat) : State :=
  let u := ((s.setPll p 2).put Reg.CLK.PLL_STAT.SEL p).forgetFilts
  { u with clk := { u.clk with running := true, acc := 0, cyc := 0, cycles := (2 ^ 32 + u.stepSize - 1) / u.stepSize } }

theorem State.lock_first {s : State} {p : Nat} (h1 : s.pllState p = 1) (hrun : s.clk.running = false) :
    s.lock p = s.tickStarted p := by
  have hstopped : (!(s.setPll p 2).clk.running) = true := by
    rw [State.setPll_put, State.put_clk, hrun]; rfl
  unfold State.lock
  rw [if_neg (by simp [h1])]
  dsimp only
  rw [if_pos hstopped]
  rfl

theorem State.tickStarted_regs (s : State) (p : Nat) :
    (s.tickStarted p).regs = ((s.setPll p 2).put Reg.CLK.PLL_STAT.SEL p).regs := by
  show ((s.setPll p 2).put Reg.CLK.PLL_STAT.SEL p).forgetFilts.regs = _
  rw [State.forgetFilts, State.forEach_forgetFilts_state]

theorem State.tickStarted_inpCh (s : State) (p k : Nat) : (s.tickStarted p).inpCh k = (s.inpCh k).forgetFilts := by
  have hset : ((s.setPll p 2).put Reg.CLK.PLL_STAT.SEL p).inpCh k = s.inpCh k := by rw [State.setPll_put]; rfl
  rw [← hset]
  exact State.forgetFilts_inpCh _ k

theorem State.tickStarted_state (s : State) (p : Nat) : s.tickStarted p =
    { s with regs := (s.tickStarted p).regs, inp := (s.tickStarted p).inp,
             clk := { s.clk with running := true, acc := 0, cyc := 0, cycles := (s.tickStarted p).clk.cycles } } := by
  unfold State.tickStarted State.forgetFilts
  rw [State.forEach_forgetFilts_state, State.setPll_put]
  rfl

/-! ### Failover (R48, R50) -/

theorem State.get64_put64 (s : State) {lo hi : FieldRef} (v : Nat) (hlo : lo.lo = 0 ∧ lo.hi = 31) (hhi : hi.lo = 0 ∧ hi.hi = 31)
    (ha : hi.apart lo) : (s.put64 lo hi v).get64 lo hi = v % 2 ^ 64 := by
  obtain ⟨hl0, hl31⟩ := hlo
  obtain ⟨hh0, hh31⟩ := hhi
  have oklo : lo.ok := ⟨by omega, by omega⟩
  have okhi : hi.ok := ⟨by omega, by omega⟩
  rw [State.put64_eq, State.get64, State.get_put_self _ _ okhi, State.get_put_apart _ _ okhi ha, State.get_put_self _ _ oklo,
    hl0, hl31, hh0, hh31]
  omega

/-- What a failover writes. -/
def failoverFields : List FieldRef :=
  [Reg.CLK.PLL_STAT.SEL, Reg.CLK.FAILOVER_CNT.COUNT, Reg.CLK.LAST_FAILOVER_TICK_LO.TICK, Reg.CLK.LAST_FAILOVER_TICK_HI.TICK,
    rawBit (page .clk 0) 1]

/-- The state in which a switch of PLLs is under way, with no register changed. -/
def State.switching (s : State) : State := { s with clk := { s.clk with failover := true } }

theorem OnlyFields.switching {fs : List FieldRef} {s t : State} (h : OnlyFields fs s t) :
    OnlyFields fs s.switching t.switching := by
  refine ⟨?_, h.2⟩
  unfold State.switching
  rw [h.1]

/-- SEL, the count and the tick of a switch of PLLs. -/
def State.failoverShown (s : State) : State :=
  ((s.put Reg.CLK.PLL_STAT.SEL (1 - s.pllSel)).bump Reg.CLK.FAILOVER_CNT.COUNT).put64 Reg.CLK.LAST_FAILOVER_TICK_LO.TICK
    Reg.CLK.LAST_FAILOVER_TICK_HI.TICK s.tick

theorem State.failover_eq (s : State) : s.failover = s.failoverShown.switching.raise (page .clk 0) 1 := rfl

theorem State.failoverShown_frame (s : State) : OnlyFields failoverFields s s.failoverShown :=
  (((OnlyFields.refl _ s).andPut (by simp [failoverFields])).andBump (by simp [failoverFields])).andPut
    (by simp [failoverFields]) |>.andPut (by simp [failoverFields])

theorem State.failover_frame (s : State) : OnlyFields failoverFields s.switching s.failover :=
  s.failoverShown_frame.switching.andRaise (by simp [failoverFields])

/-- Every field but the interrupt bits of the page reads after a switch as in what it shows. -/
theorem State.failover_get (s : State) {g : FieldRef} (h : g.addr ≠ page .clk 0 + 0x10) :
    s.failover.get g = s.failoverShown.get g := by
  rw [State.failover_eq, State.get_raise_ne _ h]
  rfl

theorem State.failover_sel {s : State} (h : s.pllSel ≤ 1) : s.failover.pllSel = 1 - s.pllSel := by
  have hlt : 1 - s.pllSel < 2 ^ (Reg.CLK.PLL_STAT.SEL.hi + 1 - Reg.CLK.PLL_STAT.SEL.lo) := by
    show 1 - s.pllSel < 2
    omega
  rw [State.pllSel, s.failover_get (by decide), State.failoverShown, State.put64_eq, State.get_put_apart _ _ (by decide) (by decide),
    State.get_put_apart _ _ (by decide) (by decide), State.get_bump_apart _ _ (by decide) (by decide),
    State.get_put_of_lt _ (by decide) hlt]

theorem State.failover_count (s : State) :
    s.failover.get Reg.CLK.FAILOVER_CNT.COUNT = min (2 ^ 32 - 1) (s.get Reg.CLK.FAILOVER_CNT.COUNT + 1) := by
  rw [s.failover_get (by decide), State.failoverShown, State.put64_eq, State.get_put_apart _ _ (by decide) (by decide),
    State.get_put_apart _ _ (by decide) (by decide), State.get_bump_self _ (by decide),
    State.get_put_apart _ _ (by decide) (by decide)]
  rfl

theorem State.failover_at (s : State) :
    s.failover.get64 Reg.CLK.LAST_FAILOVER_TICK_LO.TICK Reg.CLK.LAST_FAILOVER_TICK_HI.TICK = s.tick % 2 ^ 64 := by
  have hshown := State.get64_put64 ((s.put Reg.CLK.PLL_STAT.SEL (1 - s.pllSel)).bump Reg.CLK.FAILOVER_CNT.COUNT)
    (lo := Reg.CLK.LAST_FAILOVER_TICK_LO.TICK) (hi := Reg.CLK.LAST_FAILOVER_TICK_HI.TICK) s.tick (by decide) (by decide) (by decide)
  rw [State.get64, s.failover_get (by decide), s.failover_get (by decide)]
  exact hshown

theorem State.failover_pllState (s : State) (p : Nat) : s.failover.pllState p = s.pllState p := by
  rw [State.pllState_get, State.pllState_get, s.failover_frame.get (pllStateField_ok p)]
  · rfl
  · unfold pllStateField
    split <;> decide

/-- R48, R384: the selected PLL has faulted while the other stands; the fault is logged and the other is selected. -/
def State.pllFailedOver (s : State) (p : Nat) : State := ((s.setPll p 3).logFault 0x21 0x02 0 aAbsorbed 0).failover

theorem State.pllLost_covered {s : State} {p : Nat} (hrun : s.clk.running = true) (hsel : s.pllSel = p)
    (hother : s.pllState (1 - p) = 2) (hcoast : s.bit Reg.CLK.PLL_STAT.COAST = false) (hover : s.clk.failover = false) :
    s.pllLost p 0x21 = (s.pllFailedOver p).assignPlls := by
  have hin : (s.setPll p 3).clk.running ∧ (s.setPll p 3).pllSel = p ∧ !(s.setPll p 3).bit Reg.CLK.PLL_STAT.COAST := by
    rw [State.pllSel, State.bit, State.setPll_get _ _ _ (by decide) (by decide), State.setPll_get _ _ _ (by decide) (by decide),
      State.setPll_put]
    exact ⟨hrun, hsel, congrArg not hcoast⟩
  have hcov : (decide (s.pllState (1 - p) = 2) && !s.clk.failover) = true := by rw [hover, decide_eq_true hother]; rfl
  unfold State.pllLost
  dsimp only
  rw [if_pos hin, if_pos hcov]
  rfl

theorem State.setPll_frame (s : State) (p v : Nat) : OnlyFields pllFields s (s.setPll p v) := by
  rw [State.setPll_put]
  refine OnlyFields.put s v ?_ (pllStateField_ok p)
  unfold pllStateField
  split <;> simp [pllFields]

/-- The entry of the log stands through the switch and the search for a door (R377). -/
theorem State.pllFailedOver_logged (s : State) (p : Nat) : Logged 0x21 0x02 0 aAbsorbed 0 s (s.pllFailedOver p).assignPlls := by
  have hset := s.setPll_frame p 3
  refine (State.logFault_logged _ _ _ _ _ (by decide)).of_same hset.flt_eq hset.tick_eq (hset.get (by decide) (by decide)) ?_ ?_
  · rw [(State.assignPlls_frame _).flt_eq]
    exact (State.failover_frame _).flt_eq
  · intro g hg
    simp only [List.mem_cons, List.not_mem_nil, or_false] at hg
    rcases hg with rfl | rfl
    · rw [State.assignPlls_get _ (by decide) (by decide)]
      exact (State.failover_frame _).get (by decide) (by decide)
    · rw [State.assignPlls_get _ (by decide) (by decide)]
      exact (State.failover_frame _).get (by decide) (by decide)

theorem State.pllFailedOver_state (s : State) (p : Nat) : (s.pllFailedOver p).assignPlls =
    { s with regs := (s.pllFailedOver p).assignPlls.regs, flt := (s.pllFailedOver p).assignPlls.flt,
             clk := { s.clk with failover := true } } := by
  have hassign := (s.pllFailedOver p).assignPlls_frame.1
  have hover := ((s.setPll p 3).logFault 0x21 0x02 0 aAbsorbed 0).failover_frame.1
  have hlog := (s.setPll p 3).logFault_state 0x21 0x02 0 aAbsorbed 0
  have hset := (s.setPll_frame p 3).1
  generalize (s.pllFailedOver p).assignPlls = t at hassign ⊢
  rw [hassign, State.pllFailedOver, hover, hlog, hset]
  rfl

/-! ### The clock outputs (R75) -/

/-- One output's fields as a write leaves them. -/
def State.sscOne (s : State) (v : Word) (en depth freq : FieldRef) : State :=
  let u := if s.bit en = true ∨ 10 < Word.bits v depth.hi depth.lo then s else s.put depth (Word.bits v depth.hi depth.lo)
  let w := if s.bit en = true then u else u.put freq (Word.bits v freq.hi freq.lo)
  w.put en (Word.bits v en.hi en.lo)

theorem State.sscWrite_eq (s : State) (v : Word) : s.sscWrite v =
    (s.sscOne v Reg.CLK.SSC_CFG.EN0 Reg.CLK.SSC_CFG.DEPTH0 Reg.CLK.SSC_CFG.FREQ0).sscOne v Reg.CLK.SSC_CFG.EN1
      Reg.CLK.SSC_CFG.DEPTH1 Reg.CLK.SSC_CFG.FREQ1 := rfl

section
variable {s : State} {v : Word} {en depth freq : FieldRef} (oken : en.ok) (okdepth : depth.ok) (okfreq : freq.ok)
include oken okdepth okfreq

theorem State.sscOne_frame : OnlyFields [en, depth, freq] s (s.sscOne v en depth freq) := by
  have hu : OnlyFields [en, depth, freq] s
      (if s.bit en = true ∨ 10 < Word.bits v depth.hi depth.lo then s else s.put depth (Word.bits v depth.hi depth.lo)) := by
    split
    · exact OnlyFields.refl _ s
    · exact OnlyFields.put s _ (by simp) okdepth
  unfold State.sscOne
  dsimp only
  refine OnlyFields.then_put ?_ _ (by simp) oken
  split
  · exact hu
  · exact hu.then_put _ (by simp) okfreq

omit okdepth okfreq in
theorem State.sscOne_en : (s.sscOne v en depth freq).get en = Word.bits v en.hi en.lo := by
  unfold State.sscOne
  exact State.get_put_of_lt _ oken (Word.bits_lt _ _ _)

theorem State.sscOne_depth (hd : en.apart depth) (hf : freq.apart depth) : (s.sscOne v en depth freq).get depth =
    if s.bit en = true ∨ 10 < Word.bits v depth.hi depth.lo then s.get depth else Word.bits v depth.hi depth.lo := by
  have hu : (if s.bit en = true ∨ 10 < Word.bits v depth.hi depth.lo then s
      else s.put depth (Word.bits v depth.hi depth.lo)).get depth =
      if s.bit en = true ∨ 10 < Word.bits v depth.hi depth.lo then s.get depth else Word.bits v depth.hi depth.lo := by
    split
    · rfl
    · exact State.get_put_of_lt _ okdepth (Word.bits_lt _ _ _)
  unfold State.sscOne
  dsimp only
  rw [State.get_put_apart _ _ oken hd, ← hu]
  split
  · rfl
  · exact State.get_put_apart _ _ okfreq hf

omit okdepth in
theorem State.sscOne_freq (hf : en.apart freq) : (s.sscOne v en depth freq).get freq =
    if s.bit en = true then s.get freq else Word.bits v freq.hi freq.lo := by
  unfold State.sscOne
  dsimp only
  rw [State.get_put_apart _ _ oken hf]
  split
  next hen => rw [if_pos (.inl hen)]
  next => exact State.get_put_of_lt _ okfreq (Word.bits_lt _ _ _)

end

/-- The outputs do not touch each other's fields. -/
theorem State.sscOne0_get (s : State) (v : Word) {g : FieldRef} (ok : g.ok)
    (ha : ∀ f ∈ [Reg.CLK.SSC_CFG.EN0, Reg.CLK.SSC_CFG.DEPTH0, Reg.CLK.SSC_CFG.FREQ0], f.apart g) :
    (s.sscOne v Reg.CLK.SSC_CFG.EN0 Reg.CLK.SSC_CFG.DEPTH0 Reg.CLK.SSC_CFG.FREQ0).get g = s.get g :=
  (State.sscOne_frame (by decide) (by decide) (by decide)).get ok ha

theorem State.sscOne1_get (s : State) (v : Word) {g : FieldRef} (ok : g.ok)
    (ha : ∀ f ∈ [Reg.CLK.SSC_CFG.EN1, Reg.CLK.SSC_CFG.DEPTH1, Reg.CLK.SSC_CFG.FREQ1], f.apart g) :
    (s.sscOne v Reg.CLK.SSC_CFG.EN1 Reg.CLK.SSC_CFG.DEPTH1 Reg.CLK.SSC_CFG.FREQ1).get g = s.get g :=
  (State.sscOne_frame (by decide) (by decide) (by decide)).get ok ha

theorem State.sscWrite_frame (s : State) (v : Word) :
    OnlyFields [Reg.CLK.SSC_CFG.EN0, Reg.CLK.SSC_CFG.EN1, Reg.CLK.SSC_CFG.DEPTH0, Reg.CLK.SSC_CFG.FREQ0,
      Reg.CLK.SSC_CFG.DEPTH1, Reg.CLK.SSC_CFG.FREQ1] s (s.sscWrite v) := by
  rw [State.sscWrite_eq]
  exact ((State.sscOne_frame (by decide) (by decide) (by decide)).mono (by simp)).trans
    ((State.sscOne_frame (by decide) (by decide) (by decide)).mono (by simp))

theorem State.pllSel_le (s : State) : s.pllSel ≤ 1 := Nat.le_of_lt_succ (s.get_lt Reg.CLK.PLL_STAT.SEL)

/-- Settles O2: the first lock and the failover are followed through what each writes; SEL_REQ and SSC_CFG are served writes of
registers that nothing stages. That A starts from 0 at every start of the tick (log entry 44) and that the switch tick is the
tick of the failing event (log entry 21) are the model's choice. -/
theorem pllsAndClockOutputs : Obligations.PllsAndClockOutputs := by
  refine ⟨fun p s hon h1 hrun => ?_, fun p s hon hrun hsel h2 hother hcoast hover => ?_, fun s hover => ?_,
    fun d s hacc hother => ?_, fun d v s hacc => ?_⟩
  · have hlock : (s.when s.clockOn fun s => s.lock (pllNum p)) = s.tickStarted (pllNum p) := by
      rw [hon, State.when_true, State.lock_first h1 hrun]
    have hstate := s.tickStarted_state (pllNum p)
    have hget := fun g => State.get_of_regs (s.tickStarted_regs (pllNum p)) g
    refine ⟨s.tickStarted (pllNum p), (congrArg (run s) hlock).trans (run_eq (by rw [hstate]) (by rw [hstate])), ?_, ?_, rfl,
      hstate, s.tickStarted_inpCh _, ?_⟩
    · rw [State.pllState_get, hget, State.get_put_apart _ _ (by decide), ← State.pllState_get,
        State.setPll_pllState _ _ (by decide)]
      unfold pllStateField
      split <;> decide
    · rw [State.pllSel, hget]
      exact State.get_put_of_lt _ (by decide) (by rcases pllNum_cases p with h | h <;> rw [h] <;> decide)
    · rw [← pllStateField_num]
      refine FieldsKept.andSame ?_ (s.tickStarted_regs (pllNum p))
      rw [State.setPll_put]
      exact (FieldsKept.put s 2 (by simp) (pllStateField_ok _)).andPut
  · have hwhen : (s.when (s.clockOn && s.pllState (pllNum p) == 2) fun s => s.pllLost (pllNum p) 0x21) =
        (s.pllFailedOver (pllNum p)).assignPlls := by
      rw [hon, h2]
      exact State.pllLost_covered hrun hsel hother hcoast hover
    have hstate := s.pllFailedOver_state (pllNum p)
    have hlogget : ∀ {g : FieldRef}, g.ok → (∀ f ∈ pllFields ++ logFields, f.apart g) →
        ((s.setPll (pllNum p) 3).logFault 0x21 0x02 0 aAbsorbed 0).get g = s.get g := fun ok ha =>
      (State.logFault_get _ _ _ _ _ _ ok fun f hf => ha f (List.mem_append_right _ hf)).trans
        ((s.setPll_frame _ 3).get ok fun f hf => ha f (List.mem_append_left _ hf))
    have hselkept : ((s.setPll (pllNum p) 3).logFault 0x21 0x02 0 aAbsorbed 0).pllSel = pllNum p :=
      (hlogget (g := Reg.CLK.PLL_STAT.SEL) (by decide) (by decide)).trans hsel
    have hlocked : (s.pllFailedOver (pllNum p)).pllState (1 - pllNum p) = 2 := by
      rw [State.pllFailedOver, State.failover_pllState, State.pllState_get, State.logFault_get _ _ _ _ _ _ (pllStateField_ok _),
        ← State.pllState_get, State.setPll_pllState_other _ (pllNum_cases p), hother]
      unfold pllStateField
      split <;> decide
    have hotherNum : 1 - pllNum p = 0 ∨ 1 - pllNum p = 1 := by omega
    refine ⟨_, (congrArg (run s) hwhen).trans (run_eq (by rw [hstate]) (by rw [hstate])), ?_,
      State.assignPlls_locked hotherNum hlocked, ?_, ?_, ?_, s.pllFailedOver_logged _, hstate⟩
    · rw [State.pllSel, State.assignPlls_get _ (by decide) (by decide)]
      exact (State.failover_sel (State.pllSel_le _)).trans (congrArg (1 - ·) hselkept)
    · rw [State.assignPlls_get _ (by decide) (by decide), State.pllFailedOver, State.failover_count,
        hlogget (by decide) (by decide)]
    · rw [State.get64, State.assignPlls_get _ (by decide) (by decide), State.assignPlls_get _ (by decide) (by decide)]
      refine (State.failover_at _).trans (congrArg (· % 2 ^ 64) ?_)
      exact (State.logFault_sameRecord _ _ _ _ _ _).tick.trans (s.setPll_frame _ 3).tick_eq
    · exact (State.assignPlls_isRaised _ (by decide) (by decide)).2 (State.isRaised_raise _ _ (by decide))
  · have hwhen : (s.when s.clk.failover fun s => { s with clk := { s.clk with failover := false, moved := some s.tick } }) =
        { s with clk := { s.clk with failover := false, moved := some s.tick } } := by
      rw [hover]; rfl
    exact (congrArg (run s) hwhen).trans rfl
  · have hwrite : s.busWrite d 0x1048 0x1000 = s.put Reg.CLK.PLL_STAT.SEL (1 - s.pllSel) :=
      (State.busWrite_direct hacc (by decide) (by decide) 0x1000).trans (if_pos hother)
    have hlt : 1 - s.pllSel < 2 ^ (Reg.CLK.PLL_STAT.SEL.hi + 1 - Reg.CLK.PLL_STAT.SEL.lo) := by
      show 1 - s.pllSel < 2
      omega
    have hframe : OnlyFields [Reg.CLK.PLL_STAT.SEL] s (s.put Reg.CLK.PLL_STAT.SEL (1 - s.pllSel)) := (OnlyFields.refl _ s).andPut
    exact ⟨_, (congrArg (run s) hwrite).trans hframe.run_eq, State.get_put_of_lt _ (by decide) hlt, hframe⟩
  · have hwrite : s.busWrite d 0x1098 v = s.sscWrite v := State.busWrite_direct hacc (by decide) (by decide) v
    have hbit1 : (s.sscOne v Reg.CLK.SSC_CFG.EN0 Reg.CLK.SSC_CFG.DEPTH0 Reg.CLK.SSC_CFG.FREQ0).bit Reg.CLK.SSC_CFG.EN1 =
        s.bit Reg.CLK.SSC_CFG.EN1 := congrArg (· == 1) (s.sscOne0_get v (by decide) (by decide))
    refine ⟨s.sscWrite v, (congrArg (run s) hwrite).trans (s.sscWrite_frame v).run_eq, ?_, ?_, ?_, ?_, ?_, ?_,
      s.sscWrite_frame v⟩
    · rw [State.sscWrite_eq, State.sscOne1_get _ _ (by decide) (by decide)]
      exact State.sscOne_en (by decide)
    · exact State.sscOne_en (by decide)
    · rw [State.sscWrite_eq, State.sscOne1_get _ _ (by decide) (by decide)]
      exact State.sscOne_depth (by decide) (by decide) (by decide) (by decide) (by decide)
    · rw [State.sscWrite_eq, State.sscOne1_get _ _ (by decide) (by decide)]
      exact State.sscOne_freq (by decide) (by decide) (by decide)
    · rw [State.sscWrite_eq, State.sscOne_depth (by decide) (by decide) (by decide) (by decide) (by decide), hbit1,
        State.sscOne0_get _ _ (by decide) (by decide)]
      rfl
    · rw [State.sscWrite_eq, State.sscOne_freq (by decide) (by decide) (by decide), hbit1,
        State.sscOne0_get _ _ (by decide) (by decide)]
      rfl

end Sys2Proof.Machine
end

section
/-! PROOFS. The DVFS sequencer: what a write of DVFS_TARGET starts, and how a transition ends (chapter 2: R50, R71 to R73; R392). -/

namespace Sys2Proof.Machine

/-! ### The transition beside its register -/

/-- The state with a transition in progress, or none. -/
def State.withDvfs (s : State) (x : Option Dvfs) : State := { s with clk := { s.clk with dvfs := x } }

@[simp] theorem State.withDvfs_get (s : State) (x : Option Dvfs) (f : FieldRef) : (s.withDvfs x).get f = s.get f := rfl

theorem State.setDvfs_eq (s : State) (x : Option Dvfs) :
    s.setDvfs x = (s.withDvfs x).put Reg.PWR.DVFS_STAT.IN_PROGRESS (if x.isSome then 1 else 0) := rfl

theorem OnlyFields.andDvfs {fs : List FieldRef} {s t : State} {x : Option Dvfs} (h : OnlyFields fs (s.withDvfs x) (t.withDvfs x))
    (hf : Reg.PWR.DVFS_STAT.IN_PROGRESS ∈ fs := by simp) : OnlyFields fs (s.withDvfs x) (t.setDvfs x) :=
  h.then_put _ hf (by decide)

/-- What changes fields alone does so beside any transition. -/
theorem OnlyFields.withDvfs {fs : List FieldRef} {s t : State} (h : OnlyFields fs s t) (x : Option Dvfs) :
    OnlyFields fs (s.withDvfs x) (t.withDvfs x) := by
  refine ⟨?_, h.2⟩
  unfold State.withDvfs
  rw [h.1]

/-- A transition and fields are all that differs. -/
theorem OnlyFields.eq_of_withDvfs {fs : List FieldRef} {s t : State} {x : Option Dvfs} (h : OnlyFields fs (s.withDvfs x) t) :
    t = { s with regs := t.regs, clk := { s.clk with dvfs := x } } := h.1

theorem OnlyFields.withDvfs_run {fs : List FieldRef} {s t : State} {x : Option Dvfs} (h : OnlyFields fs (s.withDvfs x) t) :
    run s t = .next t :=
  Sys2Proof.Machine.run_eq (by rw [h.1]; rfl) (by rw [h.1]; rfl)

theorem State.setDvfs_get (s : State) (x : Option Dvfs) {g : FieldRef} (ha : Reg.PWR.DVFS_STAT.IN_PROGRESS.apart g) :
    (s.setDvfs x).get g = s.get g := by
  rw [State.setDvfs_eq, State.get_put_apart _ _ (by decide) ha, State.withDvfs_get]

theorem State.setDvfs_shown (s : State) (x : Option Dvfs) :
    (s.setDvfs x).get Reg.PWR.DVFS_STAT.IN_PROGRESS = if x.isSome then 1 else 0 :=
  State.get_put_of_lt _ (by decide) (by split <;> decide)

theorem State.vidOf_lt (s : State) (l : Nat) : s.vidOf l < 8 := by
  unfold State.vidOf
  split
  · exact s.get_lt _
  · split
    · exact s.get_lt _
    · exact s.get_lt _

theorem State.driveVid_vid (s : State) (l : Nat) : (s.driveVid l).get Reg.PWR.VCORE_STAT.VID_OUT = s.vidOf l :=
  State.get_put_of_lt _ (by decide) (s.vidOf_lt l)

theorem State.driveVid_get (s : State) (l : Nat) {g : FieldRef} (ha : Reg.PWR.VCORE_STAT.VID_OUT.apart g) :
    (s.driveVid l).get g = s.get g := s.get_put_apart _ (by decide) ha

/-- VID_MAP stands where fields change that are none of its own. -/
theorem State.vidOf_of_get {s t : State} (l : Nat) (h0 : t.get Reg.PWR.VID_MAP.P0_VID = s.get Reg.PWR.VID_MAP.P0_VID)
    (h1 : t.get Reg.PWR.VID_MAP.P1_VID = s.get Reg.PWR.VID_MAP.P1_VID)
    (h2 : t.get Reg.PWR.VID_MAP.P2_VID = s.get Reg.PWR.VID_MAP.P2_VID) : t.vidOf l = s.vidOf l := by
  rw [State.vidOf, State.vidOf, h0, h1, h2]

/-! ### The ledger's bits (R391) -/

theorem hasBit_testBit (w k : Nat) : hasBit w k = w.testBit k := by
  rw [hasBit, Nat.testBit_eq_decide_div_mod_eq, Bool.beq_eq_decide_eq]

theorem hasBit_setBit_self (w k : Nat) (v : Bool) : hasBit (setBit w k v) k = v := by
  cases v with
  | false => exact hasBit_setBit_false w k
  | true =>
    unfold setBit
    by_cases h : hasBit w k = true
    · rw [if_pos (by simp [h]), h]
    · rw [if_neg (by simp [h]), if_pos rfl]
      simp only [hasBit, beq_iff_eq] at h ⊢
      rw [Nat.add_div_right _ (Nat.two_pow_pos k)]
      omega

theorem State.active_setActive (s : State) {k : Nat} (v : Bool) (hk : k < 6) : (s.setActive k v).active k = v := by
  have hget : (s.setActive k v).get Reg.FLT.LEDGER.ACTIVE = setBit (s.get Reg.FLT.LEDGER.ACTIVE) k v % 2 ^ 6 :=
    State.get_put_self _ _ (by decide)
  rw [State.active, hget, hasBit_testBit, Nat.testBit_mod_two_pow, ← hasBit_testBit, hasBit_setBit_self, decide_eq_true hk,
    Bool.true_and]

theorem State.setActive_get (s : State) (k : Nat) (v : Bool) {g : FieldRef} (ha : Reg.FLT.LEDGER.ACTIVE.apart g) :
    (s.setActive k v).get g = s.get g := s.get_put_apart _ (by decide) ha

/-! ### A write of DVFS_TARGET (R71 to R73, R392) -/

theorem State.busWrite_dvfs {d : DoorNo} {l : Fin 4} {s : State} (h : s.accepts d .pwr 0 0x40) (hl : l.val < 3) :
    s.busWrite d 0x2040 (BitVec.ofNat 32 l) = s.dvfsWrite l d := by
  have hbits : Word.bits (BitVec.ofNat 32 l) 1 0 = l := by
    have := l.isLt
    simp only [Word.bits, BitVec.toNat_ofNat]
    omega
  refine (State.busWrite_direct h (by decide) (by decide) _).trans ?_
  show (if Word.bits (BitVec.ofNat 32 l) 1 0 ≤ 2 then s.dvfsWrite (Word.bits (BitVec.ofNat 32 l) 1 0) d else s) = _
  rw [hbits, if_pos (Nat.le_of_lt_succ hl)]

theorem State.dvfsWrite_busy {s : State} (h : s.clk.dvfs.isSome = true) (l door : Nat) :
    s.dvfsWrite l door = s.put Reg.PWR.DVFS_STAT.RESULT 2 := if_pos (.inl h)

/-- The level asked for stands in its register. -/
def State.dvfsTarget (s : State) (l : Nat) : State := s.put Reg.PWR.DVFS_TARGET.LEVEL l

theorem State.dvfsTarget_get (s : State) (l : Nat) {g : FieldRef} (ha : Reg.PWR.DVFS_TARGET.LEVEL.apart g) :
    (s.dvfsTarget l).get g = s.get g := s.get_put_apart _ (by decide) ha

theorem State.dvfsTarget_shown (s : State) {l : Nat} (h : l < 4) : (s.dvfsTarget l).get Reg.PWR.DVFS_TARGET.LEVEL = l :=
  State.get_put_of_lt _ (by decide) h

theorem State.dvfsTarget_level (s : State) (l : Nat) : (s.dvfsTarget l).level = s.level := s.dvfsTarget_get l (by decide)

theorem State.dvfsTarget_vidOf (s : State) (l k : Nat) : (s.dvfsTarget l).vidOf k = s.vidOf k :=
  State.vidOf_of_get k (s.dvfsTarget_get l (by decide)) (s.dvfsTarget_get l (by decide)) (s.dvfsTarget_get l (by decide))

section
variable {s : State} {l door : Nat} (hidle : s.clk.dvfs = none) (hq : s.isQueued kDvfs = false)
include hidle hq

theorem State.dvfsWrite_asks : s.dvfsWrite l door = (s.dvfsTarget l).dvfsAsk l door :=
  if_neg (by rw [hidle, hq]; simp)

/-- R72: a step up drives VID at once. -/
theorem State.dvfsWrite_up (hl : l < s.level) : s.dvfsWrite l door =
    ((s.dvfsTarget l).driveVid l).setDvfs (some ⟨l, s.level, s.tick, none, true⟩) := by
  rw [State.dvfsWrite_asks hidle hq, State.dvfsAsk, State.dvfsTarget_level, if_neg (Nat.ne_of_lt hl), if_pos hl]
  rfl

/-- R73: a step down is judged. -/
theorem State.dvfsWrite_down (hl : s.level < l) (hevac : s.active kEvac = false) : s.dvfsWrite l door =
    if s.compactAt (levelLimit l) = true then
      ((s.dvfsTarget l).setDvfs (some ⟨l, s.level, s.tick, none, false⟩)).setActive kDvfs true
    else ((s.dvfsTarget l).put Reg.PWR.DVFS_STAT.RESULT 1).raise (page .pwr 0) 1 := by
  have hact : (s.dvfsTarget l).active kEvac = false := by
    rw [State.active, s.dvfsTarget_get l (by decide)]
    exact hevac
  rw [State.dvfsWrite_asks hidle hq, State.dvfsAsk, State.dvfsTarget_level, if_neg (Nat.ne_of_gt hl),
    if_neg (Nat.not_lt.2 (Nat.le_of_lt hl)), State.stepDown, if_neg (by rw [hact]; decide), State.dvfsTarget_level]
  show (if (!s.compactAt (levelLimit l)) = true then _ else _) = _
  cases s.compactAt (levelLimit l) <;> rfl

end

/-- What a step up writes. -/
theorem State.dvfsUp_frame (s : State) (l : Nat) (x : Option Dvfs) :
    OnlyFields [Reg.PWR.DVFS_TARGET.LEVEL, Reg.PWR.DVFS_STAT.IN_PROGRESS, Reg.PWR.VCORE_STAT.VID_OUT] (s.withDvfs x)
      (((s.dvfsTarget l).driveVid l).setDvfs x) :=
  ((OnlyFields.refl _ s).andPut.andPut.withDvfs x).andDvfs

/-- What a step down writes. -/
theorem State.dvfsDown_frame (s : State) (l : Nat) (x : Option Dvfs) :
    OnlyFields [Reg.PWR.DVFS_TARGET.LEVEL, Reg.PWR.DVFS_STAT.IN_PROGRESS, Reg.FLT.LEDGER.ACTIVE] (s.withDvfs x)
      (((s.dvfsTarget l).setDvfs x).setActive kDvfs true) :=
  ((OnlyFields.refl _ s).andPut.withDvfs x).andDvfs.andPut

/-- Settles O6: a served write of DVFS_TARGET, by the transition in progress, the level, and what the ledger and the fabric
allow. -/
theorem dvfsTargetWriteOutcome : Obligations.DvfsTargetWriteOutcome := by
  intro d l s hacc hl
  have hwrite := State.busWrite_dvfs hacc hl
  by_cases hx : s.clk.dvfs.isSome = true
  · have hframe : OnlyFields [Reg.PWR.DVFS_STAT.RESULT] s (s.put Reg.PWR.DVFS_STAT.RESULT 2) := (OnlyFields.refl _ s).andPut
    have hne : s.clk.dvfs ≠ none := fun h => by rw [h] at hx; cases hx
    exact ⟨_, (congrArg (run s) (hwrite.trans (State.dvfsWrite_busy hx l d))).trans hframe.run_eq,
      fun _ => ⟨State.get_put_of_lt _ (by decide) (by decide), hframe⟩, fun h => absurd h hne, fun h => absurd h hne,
      fun h => absurd h hne⟩
  · by_cases hcase : s.clk.dvfs = none ∧ s.isQueued kDvfs = false ∧ (l.val < s.level ∨ s.level < l ∧ s.active kEvac = false)
    · obtain ⟨hidle, hq, hup | ⟨hdown, hevac⟩⟩ := hcase
      · have hframe := s.dvfsUp_frame l (some ⟨l, s.level, s.tick, none, true⟩)
        refine ⟨_, (congrArg (run s) (hwrite.trans (State.dvfsWrite_up hidle hq hup))).trans hframe.withDvfs_run,
          fun h => absurd h hx, fun _ _ _ => ⟨rfl, State.setDvfs_shown _ _, ?_, ?_, ?_, hframe.eq_of_withDvfs, hframe.2⟩,
          fun _ _ h => absurd h (Nat.lt_asymm hup), fun _ _ h => absurd h (Nat.lt_asymm hup)⟩
        · rw [State.setDvfs_get _ _ (by decide), State.driveVid_get _ _ (by decide), State.dvfsTarget_shown _ l.isLt]
        · rw [State.setDvfs_get _ _ (by decide), State.driveVid_vid, State.dvfsTarget_vidOf]
        · rw [State.level, State.setDvfs_get _ _ (by decide), State.driveVid_get _ _ (by decide)]
          exact s.dvfsTarget_level l
      · have hdone := State.dvfsWrite_down (door := d) hidle hq hdown hevac
        by_cases hc : s.compactAt (levelLimit l) = true
        · rw [if_pos hc] at hdone
          have hframe := s.dvfsDown_frame l (some ⟨l, s.level, s.tick, none, false⟩)
          refine ⟨_, (congrArg (run s) (hwrite.trans hdone)).trans hframe.withDvfs_run, fun h => absurd h hx,
            fun _ _ h => absurd h (Nat.lt_asymm hdown),
            fun _ _ _ _ _ => ⟨rfl, ?_, ?_, State.active_setActive _ true (by decide), ?_, hframe.eq_of_withDvfs, hframe.2⟩,
            fun _ _ _ _ h => absurd (hc.symm.trans h) (by decide)⟩
          · rw [State.setActive_get _ _ _ (by decide), State.setDvfs_shown]
            rfl
          · rw [State.setActive_get _ _ _ (by decide), State.setDvfs_get _ _ (by decide), State.dvfsTarget_shown _ l.isLt]
          · rw [State.level, State.setActive_get _ _ _ (by decide), State.setDvfs_get _ _ (by decide)]
            exact s.dvfsTarget_level l
        · rw [if_neg hc] at hdone
          have hframe : OnlyFields [Reg.PWR.DVFS_TARGET.LEVEL, Reg.PWR.DVFS_STAT.RESULT, rawBit (page .pwr 0) 1] s
              (((s.dvfsTarget l).put Reg.PWR.DVFS_STAT.RESULT 1).raise (page .pwr 0) 1) :=
            (OnlyFields.refl _ s).andPut.andPut.andRaise
          exact ⟨_, (congrArg (run s) (hwrite.trans hdone)).trans hframe.run_eq, fun h => absurd h hx,
            fun _ _ h => absurd h (Nat.lt_asymm hdown), fun _ _ _ _ h => absurd h hc,
            fun _ _ _ _ _ => ⟨(State.get_raise_ne _ (by decide)).trans (State.get_put_of_lt _ (by decide) (by decide)),
              State.isRaised_raise _ _ (by decide), hframe.get (by decide) (by decide), hframe⟩⟩
    · exact ⟨_, rfl, fun h => absurd h hx, fun h hq hl => absurd ⟨h, hq, .inl hl⟩ hcase,
        fun h hq hl he => absurd ⟨h, hq, .inr ⟨hl, he⟩⟩ hcase, fun h hq hl he => absurd ⟨h, hq, .inr ⟨hl, he⟩⟩ hcase⟩

/-! ### The end of a transition (R50, R72, R73) -/

/-- LEVEL, DVFS_LAST_TICK and the end of IN_PROGRESS at the boundary where the divider changes. -/
def State.divided (s : State) (level : Nat) : State :=
  ((s.put Reg.PWR.DVFS_STAT.LEVEL level).setDvfs none).put64 Reg.PWR.DVFS_LAST_TICK_LO.TICK Reg.PWR.DVFS_LAST_TICK_HI.TICK s.tick

/-- The result of a transition that is over. -/
def State.dvfsOver (s : State) : State := (s.put Reg.PWR.DVFS_STAT.RESULT 0).raise (page .pwr 0) 0

/-- A step up is over: nothing holds placement any more. -/
def State.steppedUp (s : State) (level : Nat) : State :=
  (((s.divided level).put Reg.PLC.STAT.HOLD_LVL 0).put Reg.PLC.STAT.HOLD_EN 0).dvfsOver

/-- A step down is over: VID follows, and the ledger is free. -/
def State.steppedDown (s : State) (level : Nat) : State := (((s.divided level).driveVid level).setActive kDvfs false).dvfsOver

theorem State.dvfsDone_up {s : State} {x : Dvfs} (h : x.up = true) : s.dvfsDone x = s.steppedUp x.target := by
  unfold State.dvfsDone
  dsimp only
  rw [if_pos h]
  rfl

theorem State.dvfsDone_down {s : State} {x : Dvfs} (h : x.up = false) : s.dvfsDone x = s.steppedDown x.target := by
  unfold State.dvfsDone
  dsimp only
  rw [if_neg (by simp [h])]
  rfl

/-- What the change of the divider writes. -/
def dividedFields : List FieldRef :=
  [Reg.PWR.DVFS_STAT.LEVEL, Reg.PWR.DVFS_STAT.IN_PROGRESS, Reg.PWR.DVFS_LAST_TICK_LO.TICK, Reg.PWR.DVFS_LAST_TICK_HI.TICK]

theorem State.divided_frame (s : State) (level : Nat) : OnlyFields dividedFields (s.withDvfs none) (s.divided level) :=
  ((((OnlyFields.refl dividedFields s).andPut (by simp [dividedFields])).withDvfs none).andDvfs (by simp [dividedFields])).andPut
    (by simp [dividedFields]) |>.andPut (by simp [dividedFields])

theorem State.divided_get (s : State) (level : Nat) {g : FieldRef} (ok : g.ok) (ha : ∀ f ∈ dividedFields, f.apart g) :
    (s.divided level).get g = s.get g := (s.divided_frame level).get ok ha

theorem State.divided_level (s : State) {level : Nat} (h : level < 4) : (s.divided level).level = level := by
  rw [State.level, State.divided, State.put64_eq, State.get_put_apart _ _ (by decide) (by decide),
    State.get_put_apart _ _ (by decide) (by decide), State.setDvfs_get _ _ (by decide), State.get_put_of_lt _ (by decide) h]

theorem State.divided_idle (s : State) (level : Nat) : (s.divided level).get Reg.PWR.DVFS_STAT.IN_PROGRESS = 0 := by
  rw [State.divided, State.put64_eq, State.get_put_apart _ _ (by decide) (by decide),
    State.get_put_apart _ _ (by decide) (by decide), State.setDvfs_shown]
  rfl

theorem State.divided_at (s : State) (level : Nat) :
    (s.divided level).get64 Reg.PWR.DVFS_LAST_TICK_LO.TICK Reg.PWR.DVFS_LAST_TICK_HI.TICK = s.tick % 2 ^ 64 :=
  State.get64_put64 _ _ (by decide) (by decide) (by decide)

theorem State.dvfsOver_get (s : State) {g : FieldRef} (ha : Reg.PWR.DVFS_STAT.RESULT.apart g)
    (hr : g.addr ≠ page .pwr 0 + 0x10) : s.dvfsOver.get g = s.get g := by
  rw [State.dvfsOver, State.get_raise_ne _ hr, State.get_put_apart _ _ (by decide) ha]

theorem State.dvfsOver_result (s : State) : s.dvfsOver.get Reg.PWR.DVFS_STAT.RESULT = 0 :=
  (State.get_raise_ne _ (by decide)).trans (State.get_put_of_lt _ (by decide) (by decide))

/-- The fields that either end leaves as the change of the divider put them. -/
theorem State.steppedUp_get (s : State) (level : Nat) {g : FieldRef} (ha : Reg.PWR.DVFS_STAT.RESULT.apart g)
    (hr : g.addr ≠ page .pwr 0 + 0x10) (he : Reg.PLC.STAT.HOLD_EN.apart g) (hl : Reg.PLC.STAT.HOLD_LVL.apart g) :
    (s.steppedUp level).get g = (s.divided level).get g := by
  rw [State.steppedUp, State.dvfsOver_get _ ha hr, State.get_put_apart _ _ (by decide) he, State.get_put_apart _ _ (by decide) hl]

theorem State.steppedDown_get (s : State) (level : Nat) {g : FieldRef} (ha : Reg.PWR.DVFS_STAT.RESULT.apart g)
    (hr : g.addr ≠ page .pwr 0 + 0x10) (hl : Reg.FLT.LEDGER.ACTIVE.apart g) :
    (s.steppedDown level).get g = ((s.divided level).driveVid level).get g := by
  rw [State.steppedDown, State.dvfsOver_get _ ha hr, State.setActive_get _ _ _ hl]

theorem State.steppedUp_frame (s : State) (level : Nat) :
    OnlyFields [Reg.PWR.DVFS_STAT.LEVEL, Reg.PWR.DVFS_STAT.IN_PROGRESS, Reg.PWR.DVFS_STAT.RESULT,
        Reg.PWR.DVFS_LAST_TICK_LO.TICK, Reg.PWR.DVFS_LAST_TICK_HI.TICK, Reg.PLC.STAT.HOLD_LVL, Reg.PLC.STAT.HOLD_EN,
        rawBit (page .pwr 0) 0] (s.withDvfs none) (s.steppedUp level) :=
  ((s.divided_frame level).mono (by simp [dividedFields])).andPut.andPut.andPut.andRaise

theorem State.steppedDown_frame (s : State) (level : Nat) :
    OnlyFields [Reg.PWR.DVFS_STAT.LEVEL, Reg.PWR.DVFS_STAT.IN_PROGRESS, Reg.PWR.DVFS_STAT.RESULT,
        Reg.PWR.DVFS_LAST_TICK_LO.TICK, Reg.PWR.DVFS_LAST_TICK_HI.TICK, Reg.PWR.VCORE_STAT.VID_OUT, Reg.FLT.LEDGER.ACTIVE,
        rawBit (page .pwr 0) 0] (s.withDvfs none) (s.steppedDown level) :=
  ((s.divided_frame level).mono (by simp [dividedFields])).andPut.andPut.andPut.andRaise

theorem State.dvfsSettle_over {s : State} {x : Dvfs} {b : Nat} (hx : s.clk.dvfs = some x) (hb : x.okAt = some b)
    (hup : x.up = true) (hwait : b + s.get Reg.PWR.DVFS_TIMING.V_SETTLE ≤ s.tick) (hdiv : s.mayDivide = true) :
    s.dvfsSettle = s.steppedUp x.target := by
  unfold State.dvfsSettle
  rw [hx]
  dsimp only
  rw [hb]
  dsimp only
  rw [if_pos ⟨hwait, hdiv⟩, State.dvfsDone_up hup]

theorem State.dvfsStepDown_over {s : State} {x : Dvfs} (hx : s.clk.dvfs = some x) (hup : x.up = false)
    (hwait : x.writeTick < s.tick) (hdiv : s.mayDivide = true) : s.dvfsStepDown = s.steppedDown x.target := by
  unfold State.dvfsStepDown
  rw [hx]
  dsimp only
  rw [if_pos ⟨by simp [hup], hwait, hdiv⟩, State.dvfsDone_down hup]

/-- The state after VCORE_OK has stayed away (R72). -/
def State.vcoreGivenUp (s : State) (source : Nat) : State :=
  (((s.driveVid source).setDvfs none).put Reg.PWR.DVFS_STAT.RESULT 3).raise (page .pwr 0) 2

theorem State.vcoreTimeout_over {s : State} {x : Dvfs} (hx : s.clk.dvfs = some x) (hup : x.up = true) (hok : x.okAt = none)
    (hwait : x.writeTick + s.get Reg.PWR.DVFS_TIMING.V_TIMEOUT ≤ s.tick) : s.vcoreTimeout = s.vcoreGivenUp x.source := by
  unfold State.vcoreTimeout
  rw [hx]
  dsimp only
  rw [if_pos ⟨hup, by simp [hok], hwait⟩]
  rfl

theorem State.vcoreGivenUp_frame (s : State) (source : Nat) :
    OnlyFields [Reg.PWR.VCORE_STAT.VID_OUT, Reg.PWR.DVFS_STAT.IN_PROGRESS, Reg.PWR.DVFS_STAT.RESULT, rawBit (page .pwr 0) 2]
      (s.withDvfs none) (s.vcoreGivenUp source) :=
  (((OnlyFields.refl _ s).andPut.withDvfs none).andDvfs).andPut.andRaise

theorem State.vcoreGivenUp_get (s : State) (source : Nat) {g : FieldRef} (ha : Reg.PWR.DVFS_STAT.RESULT.apart g)
    (hr : g.addr ≠ page .pwr 0 + 0x10) : (s.vcoreGivenUp source).get g = ((s.driveVid source).setDvfs none).get g := by
  rw [State.vcoreGivenUp, State.get_raise_ne _ hr, State.get_put_apart _ _ (by decide) ha]

/-- Settles O7: a step up, a step down and a step that gives up each end in a chain of writes; the lift of the hold on placement
is R195's. -/
theorem dvfsTransitionEnds : Obligations.DvfsTransitionEnds := by
  refine ⟨fun x b s hx hb hup hl hwait hdiv => ?_, fun x s hx hup hl hwait hdiv => ?_, fun x s hx hup hok hwait => ?_⟩
  · have hover := State.dvfsSettle_over hx hb hup hwait hdiv
    have hframe := s.steppedUp_frame x.target
    refine ⟨_, (congrArg (run s) hover).trans hframe.withDvfs_run, ?_, ?_, State.dvfsOver_result _, ?_, ?_,
      State.isRaised_raise _ _ (by decide), hframe.eq_of_withDvfs, hframe.2⟩
    · rw [State.level, State.steppedUp_get _ _ (by decide) (by decide) (by decide) (by decide)]
      exact s.divided_level hl
    · rw [State.steppedUp_get _ _ (by decide) (by decide) (by decide) (by decide)]
      exact s.divided_idle _
    · rw [State.get64, State.steppedUp_get _ _ (by decide) (by decide) (by decide) (by decide),
        State.steppedUp_get _ _ (by decide) (by decide) (by decide) (by decide)]
      exact s.divided_at _
    · rw [State.steppedUp, State.dvfsOver_get _ (by decide) (by decide), State.get_put_of_lt _ (by decide) (by decide)]
  · have hover := State.dvfsStepDown_over hx hup hwait hdiv
    have hframe := s.steppedDown_frame x.target
    refine ⟨_, (congrArg (run s) hover).trans hframe.withDvfs_run, ?_, ?_, State.dvfsOver_result _, ?_, ?_, ?_,
      State.isRaised_raise _ _ (by decide), hframe.eq_of_withDvfs, hframe.2⟩
    · rw [State.level, State.steppedDown_get _ _ (by decide) (by decide) (by decide), State.driveVid_get _ _ (by decide)]
      exact s.divided_level hl
    · rw [State.steppedDown_get _ _ (by decide) (by decide) (by decide), State.driveVid_get _ _ (by decide)]
      exact s.divided_idle _
    · rw [State.steppedDown_get _ _ (by decide) (by decide) (by decide), State.driveVid_vid]
      exact State.vidOf_of_get _ (s.divided_get _ (by decide) (by decide)) (s.divided_get _ (by decide) (by decide))
        (s.divided_get _ (by decide) (by decide))
    · rw [State.active, State.steppedDown, State.dvfsOver_get _ (by decide) (by decide)]
      exact State.active_setActive _ false (by decide)
    · rw [State.get64, State.steppedDown_get _ _ (by decide) (by decide) (by decide), State.driveVid_get _ _ (by decide),
        State.steppedDown_get _ _ (by decide) (by decide) (by decide), State.driveVid_get _ _ (by decide)]
      exact s.divided_at _
  · have hover := State.vcoreTimeout_over hx hup hok hwait
    have hframe := s.vcoreGivenUp_frame x.source
    refine ⟨_, (congrArg (run s) hover).trans hframe.withDvfs_run, ?_, hframe.get (by decide) (by decide), ?_, ?_,
      State.isRaised_raise _ _ (by decide), hframe.eq_of_withDvfs, hframe.2⟩
    · rw [State.vcoreGivenUp_get _ _ (by decide) (by decide), State.setDvfs_get _ _ (by decide), State.driveVid_vid]
    · rw [State.vcoreGivenUp_get _ _ (by decide) (by decide), State.setDvfs_shown]
      rfl
    · exact (State.get_raise_ne _ (by decide)).trans (State.get_put_of_lt _ (by decide) (by decide))

end Sys2Proof.Machine
end

section
/-! PROOFS. Reads of doors: which register a served read is of, and what it captures (R58, R104, R139, R161, R165, R199, R200, R257,
R266, R323, R333, R395). -/

namespace Sys2Proof.Machine

/-! ### What a read at an offset of a page does -/

theorem State.busRead_pgCommit (s : State) (d st : Nat) {b : Block} {n : Nat} (hn : n < b.pages) :
    s.busRead d (page b n + 0x20) st = s.commitRead d (page b n) := by
  delta State.busRead
  rw [pageOf_page b hn (by decide : (0x20 : Nat) < 0x1000)]
  dsimp only
  rw [page_mod b n (by decide : (0x20 : Nat) < 0x1000), if_pos rfl]

theorem State.busRead_latchPos (s : State) (d st : Nat) {n : Nat} (hn : n < 48) :
    s.busRead d (page .inp n + 0x104) st = s.latchRead d n := by
  delta State.busRead
  rw [pageOf_page .inp hn (by decide : (0x104 : Nat) < 0x1000)]
  dsimp only
  rw [page_mod .inp n (by decide : (0x104 : Nat) < 0x1000)]
  rfl

theorem State.busRead_lastEnd (s : State) (d st : Nat) {n : Nat} (hn : n < 64) :
    s.busRead d (page .drv n + 0x6C) st = s.lastEndRead d n := by
  delta State.busRead
  rw [pageOf_page .drv hn (by decide : (0x6C : Nat) < 0x1000)]
  dsimp only
  rw [page_mod .drv n (by decide : (0x6C : Nat) < 0x1000)]
  rfl

theorem State.busRead_angle (s : State) (d st : Nat) {n : Nat} (hn : n < 48) :
    s.busRead d (page .whl n + 0x6C) st = s.angleRead d n st := by
  delta State.busRead
  rw [pageOf_page .whl hn (by decide : (0x6C : Nat) < 0x1000)]
  dsimp only
  rw [page_mod .whl n (by decide : (0x6C : Nat) < 0x1000)]
  rfl

theorem State.busRead_handleLoc (s : State) (d st : Nat) : s.busRead d (page .plc 0 + 0x7C) st = s.handleLocRead d := by
  delta State.busRead
  rw [pageOf_page .plc (by decide : 0 < Block.plc.pages) (by decide : (0x7C : Nat) < 0x1000)]
  dsimp only
  rw [page_mod .plc 0 (by decide : (0x7C : Nat) < 0x1000)]
  rfl

theorem State.busRead_srcStat (s : State) (d st : Nat) : s.busRead d (page .irq 0 + 0x48) st = s.srcStatRead d := by
  delta State.busRead
  rw [pageOf_page .irq (by decide : 0 < Block.irq.pages) (by decide : (0x48 : Nat) < 0x1000)]
  dsimp only
  rw [page_mod .irq 0 (by decide : (0x48 : Nat) < 0x1000)]
  rfl

theorem State.busRead_logInfo (s : State) (d st : Nat) : s.busRead d (page .flt 0 + 0x4C) st = s.logRead d := by
  delta State.busRead
  rw [pageOf_page .flt (by decide : 0 < Block.flt.pages) (by decide : (0x4C : Nat) < 0x1000)]
  dsimp only
  rw [page_mod .flt 0 (by decide : (0x4C : Nat) < 0x1000)]
  rfl

theorem State.busRead_adcData (s : State) (d st : Nat) {n : Nat} (hn : n < 8) :
    s.busRead d (page .adc n + 0x58) st = s.adcDataRead d n := by
  delta State.busRead
  rw [pageOf_page .adc hn (by decide : (0x58 : Nat) < 0x1000)]
  dsimp only
  rw [page_mod .adc n (by decide : (0x58 : Nat) < 0x1000)]
  rfl

theorem State.busRead_capture (s : State) (d st : Nat) {n : Nat} (hn : n < 32) :
    s.busRead d (page .tmr n + 0x60) st = s.captureRead d n := by
  delta State.busRead
  rw [pageOf_page .tmr hn (by decide : (0x60 : Nat) < 0x1000)]
  dsimp only
  rw [page_mod .tmr n (by decide : (0x60 : Nat) < 0x1000)]
  rfl

/-! ### What is captured -/

/-- A served read answers with what its register captures. -/
theorem State.doorRead_runs {d : Nat} {v : Word} {l : List (Nat × Word)} {s u : State} {addr st : Nat} (hr : s.reads d addr)
    (hb : s.busRead d addr st = u) (h : Captured d v l s u) : run s (s.doorRead d addr st) = .next u := by
  rw [State.doorRead_reads hr, hb]; exact h.run_eq

theorem State.latchRead_captured (s : State) (d ch : Nat) :
    Captured d (s.reg (page .inp ch + 0x104))
      (lowHigh (page .inp ch + 0x108) (page .inp ch + 0x10C) ((s.inpCh ch).latchTs / 128) ++
        [(page .inp ch + 0x110, BitVec.ofNat 32 ((s.inpCh ch).latchTs % 128 + (if (s.inpCh ch).latchDir then 2 ^ 7 else 0) +
          (if (s.inpCh ch).latchNoPer then 2 ^ 8 else 0) + (if (s.inpCh ch).latchDirChg then 2 ^ 9 else 0)))]) s (s.latchRead d ch) :=
  Captured.captures s (by simp [lowHigh])

theorem State.lastEndRead_captured (s : State) (d ch : Nat) :
    Captured d (s.reg (page .drv ch + 0x6C))
      [(page .drv ch + 0x70, s.reg (page .drv ch + 0x70)), (page .drv ch + 0x74, s.reg (page .drv ch + 0x74))] s (s.lastEndRead d ch) :=
  Captured.captures s (by simp)

theorem State.commitRead_captured (s : State) (d p : Nat) :
    Captured d (BitVec.ofNat 32 ((s.door d).outcome.get (fun _ => ⟨0, 0⟩) p).tick)
      [(p + 0x24, BitVec.ofNat 32 (((s.door d).outcome.get (fun _ => ⟨0, 0⟩) p).tick / 2 ^ 32))] s (s.commitRead d p) :=
  Captured.captures s (by simp)

/-- W7 of a slot reads as its result (Table 5-1). -/
theorem State.readBar2_result (s : State) (h : Handle) :
    s.readBar2 (h * 32 + 28) =
      BitVec.ofNat 32 ((s.slotSeen h).flags % 256 * 2 ^ 24 + (s.slotSeen h).rev8 % 256 * 2 ^ 16 + (s.slotSeen h).passCnt % 65536) := by
  have hh := h.isLt
  have hw : bar2At (h * 32 + 28) = .slotWord h 7 := by
    unfold bar2At
    rw [if_pos (by omega), show ((h : Nat) * 32 + 28) / 32 = h by omega, show ((h : Nat) * 32 + 28) / 4 % 8 = 7 by omega]
  simp only [State.readBar2, hw]
  rfl

theorem State.resultRead_captured (s : State) (d : Nat) (h : Handle) :
    Captured d (BitVec.ofNat 32 ((s.slotSeen h).flags % 256 * 2 ^ 24 + (s.slotSeen h).rev8 % 256 * 2 ^ 16 +
        (s.slotSeen h).passCnt % 65536))
      [(page .dor d + 0x80, BitVec.ofNat 32 h), (page .dor d + 0x84, (s.slotSeen h).resRev),
        (page .dor d + 0x88, (s.slotSeen h).resStart), (page .dor d + 0x8C, (s.slotSeen h).resEnd)] s (s.resultRead d h) := by
  rw [← s.readBar2_result h]
  exact Captured.captures s (by simp)

theorem State.handleLocRead_captured (s : State) (d : Nat) :
    Captured d (s.handleLoc (s.selOf d 0x71078) (fun r => r == 1 || r == 3))
      [(0x71080, s.handleLoc (s.selOf d 0x71078) (fun r => r == 2))] s (s.handleLocRead d) :=
  Captured.captures s (by simp)

theorem State.angleRead_captured {s : State} {w : Nat} {q : Pred} (d st : Nat) (hq : (s.tracker w).pred = some q) :
    Captured d (BitVec.ofNat 32 (thetaOf (s.wRange w) q.rev (s.angleAt w q (s.now + st))))
      ([(page .whl w + 0x70, BitVec.ofNat 32 (s.tracker w).rev), (page .whl w + 0x78, BitVec.ofNat 32 (s.tracker w).b)] ++
        lowHigh (page .whl w + 0x7C) (page .whl w + 0x80) ((s.tracker w).lastTs / 128) ++
        [(page .whl w + 0x84, BitVec.ofNat 32 ((s.tracker w).lastTs % 128 * 2 ^ 10 + (s.tracker w).lastPos % 1024))]) s
      (s.angleRead d w st) := by
  unfold State.angleRead
  simp only [hq]
  exact Captured.captures s (by simp [lowHigh])

theorem State.srcStatRead_captured {s : State} {d : Nat} (he : sourceExists (s.selOf d 0xF0040) = true) :
    Captured d (s.srcStat (s.selOf d 0xF0040))
      [(0xF004C, BitVec.ofNat 32 (s.src (s.selOf d 0xF0040)).assert),
        (0xF0050, BitVec.ofNat 32 ((s.src (s.selOf d 0xF0040)).assert / 2 ^ 32))] s (s.srcStatRead d) := by
  have h : s.srcStatRead d = s.captures d (s.srcStat (s.selOf d 0xF0040))
      (lowHigh 0xF004C 0xF0050 (if sourceExists (s.selOf d 0xF0040) then (s.src (s.selOf d 0xF0040)).assert else 0)) := rfl
  rw [h, if_pos he]
  exact Captured.captures s (by simp)

/-- LOG_INFO of a selected entry (Table 15-6). -/
theorem State.readReg_logInfo {s : State} {d : Nat} {e : LogEntry} (he : s.flt.log.find (s.selOf d 0x4048) = some e) :
    s.readReg d 0x404C =
      BitVec.ofNat 32 (e.cause % 256 * 2 ^ 24 + e.block % 256 * 2 ^ 16 + e.num % 256 * 2 ^ 8 + e.action % 4 * 2 ^ 6 + 1) := by
  have hp : pageOf 0x404C = some (.flt, 0) := pageOf_page .flt (n := 0) (off := 0x4C) (by decide) (by decide)
  have hl : s.logSel d = some e := he
  simp [State.readReg, hp, snapOffsets, selOffsets, State.computed, State.readFlt, hl]

theorem State.logRead_captured {s : State} {d : Nat} {e : LogEntry} (he : s.flt.log.find (s.selOf d 0x4048) = some e) :
    Captured d (BitVec.ofNat 32 (e.cause % 256 * 2 ^ 24 + e.block % 256 * 2 ^ 16 + e.num % 256 * 2 ^ 8 + e.action % 4 * 2 ^ 6 + 1))
      [(0x4050, BitVec.ofNat 32 e.tick), (0x4054, BitVec.ofNat 32 (e.tick / 2 ^ 32)), (0x4058, e.data)] s (s.logRead d) := by
  have hl : s.logSel d = some e := he
  have h : s.logRead d = s.captures d (s.readReg d 0x404C) (lowHigh 0x4050 0x4054 e.tick ++ [(0x4058, e.data)]) := by
    unfold State.logRead
    rw [hl]; rfl
  rw [h, State.readReg_logInfo he]
  exact Captured.captures s (by simp)

/-- Settles O8: each register has its own capture, and a served read of a door makes no other. -/
theorem readsCaptureTogether : Obligations.ReadsCaptureTogether := by
  refine ⟨fun d st s hr => ?_, fun d ch s hr => ?_, fun d ch s hr => ?_, fun d b n off s hn ho hr => ?_, fun d h s hs hm => ?_,
    fun d s hr => ?_, fun d w st q s hr hq => ?_, fun d s hr he => ?_, fun d e s hr he => ?_⟩
  · have h := s.tickRead_captured d st
    exact ⟨_, State.doorRead_runs hr (s.busRead_tickLo d st) h, h⟩
  · have h := s.latchRead_captured d ch
    exact ⟨_, State.doorRead_runs hr (s.busRead_latchPos d 0 ch.isLt) h, h⟩
  · have h := s.lastEndRead_captured d ch
    exact ⟨_, State.doorRead_runs hr (s.busRead_lastEnd d 0 ch.isLt) h, h⟩
  · have h := s.commitRead_captured d (page b n)
    have hp : pageBase off.toNat = page b n := by rw [ho]; exact pageBase_page b n (off := 0) (by decide)
    have hexec : exec (.pgCommitRead d off) s = run s (s.doorRead d (page b n + 0x20) 0) := by rw [← hp]; rfl
    exact ⟨_, hexec.trans (State.doorRead_runs hr (s.busRead_pgCommit d 0 hn) h), h⟩
  · have h' := s.resultRead_captured d h
    have hexec : exec (.resultRead d h) s = run s (s.resultRead d h) := by
      show run s (s.served d (s.mayReadBar2 d) (fun s => s.resultRead d h)) = _
      simp [State.served, hs, hm]
    exact ⟨_, hexec.trans h'.run_eq, h'⟩
  · have h := s.handleLocRead_captured d
    exact ⟨_, State.doorRead_runs hr (s.busRead_handleLoc d 0) h, h⟩
  · have h := State.angleRead_captured (w := w) d st hq
    exact ⟨_, State.doorRead_runs hr (s.busRead_angle d st w.isLt) h, h⟩
  · have h := State.srcStatRead_captured he
    exact ⟨_, State.doorRead_runs hr (s.busRead_srcStat d 0) h, h⟩
  · have h := State.logRead_captured he
    exact ⟨_, State.doorRead_runs hr (s.busRead_logInfo d 0) h, h⟩

/-! ### Peeks, reads that clear, and reads that are not served (R199, R266, R333, R295) -/

/-- The match word of a live carriage without its check bits (Table 6-1). -/
theorem State.matchBits_live {s : State} {a : Nat} (rest : Nat) (h : (s.carriageSeen a).role ≠ 0) :
    s.matchBits a rest =
      (s.carriageSeen a).role * 2 ^ 70 + (s.carriageSeen a).wheel * 2 ^ 64 + (s.slot (s.carriageSeen a).handle).typeSeen * 2 ^ 62 +
        (if (s.slot (s.carriageSeen a).handle).arm then 2 ^ 61 else 0) +
        (if (s.slot (s.carriageSeen a).handle).revOk then 2 ^ 60 else 0) +
        (if (s.slot (s.carriageSeen a).handle).pass.isSome then 2 ^ 59 else 0) +
        (if epIsLink (s.slot (s.carriageSeen a).handle).endpoint then epPort (s.slot (s.carriageSeen a).handle).endpoint else 16) * 2 ^ 54 +
        (s.slot (s.carriageSeen a).handle).angA * 2 ^ 27 +
        (if (s.slot (s.carriageSeen a).handle).typeSeen = 1 then (s.slot (s.carriageSeen a).handle).dur
          else if (s.slot (s.carriageSeen a).handle).typeSeen = 2 then (s.slot (s.carriageSeen a).handle).angB else 0) := by
  unfold State.matchBits
  dsimp only
  rw [if_neg (fun hr => h hr.1)]

/-- What a peek shows of a match word, its check bits on top (R199). -/
def peekShown (m : Nat) : Nat := m + (Config.eccBits (BitVec.ofNat 72 m)).toNat * 2 ^ 72

/-- The words that a peek captures beside the one that it returns. -/
def peekWords (w : Nat) : List (Nat × Word) :=
  [(0x70080, BitVec.ofNat 32 (w / 2 ^ 32)), (0x70084, BitVec.ofNat 32 (w / 2 ^ 64))]

/-- A read waits at the update port of a coach (R186). -/
def State.coachPeeked (s : State) (c : Nat) : State := s.setCoach c { s.coach c with peeks := (s.coach c).peeks + 1 }

theorem State.peekRead_live {s : State} {d m : Nat} (hin : s.inService (coachOf (s.selOf d 0x70078)) = true)
    (hlive : (s.carriageSeen (s.selOf d 0x70078)).role ≠ 0) (hm : ∀ rest, s.matchBits (s.selOf d 0x70078) rest = m) :
    s.peekRead d none = (s.coachPeeked (coachOf (s.selOf d 0x70078))).captures d (BitVec.ofNat 32 (peekShown m)) (peekWords (peekShown m)) := by
  have hp : page .scn 0 + 0x78 = 0x70078 := rfl
  unfold State.peekRead
  dsimp only
  simp only [hp, hin, hlive, hm, Bool.not_true, Bool.false_eq_true, reduceCtorEq, or_self, if_false]
  rfl

theorem State.peekRead_outOfService {s : State} {d : Nat} (ecc : Option Bool)
    (hin : s.inService (coachOf (s.selOf d 0x70078)) = false) :
    s.peekRead d ecc = s.captures d 0 [(0x70080, 0), (0x70084, 0)] := by
  have hp : page .scn 0 + 0x78 = 0x70078 := rfl
  unfold State.peekRead
  dsimp only
  rw [hp, hin]
  rfl

theorem execPeekRead_reads {s : State} {d : DoorNo} (ecc : Option Bool) (hr : s.reads d 0x7007C) :
    exec (.peekRead d ecc) s = run s (s.peekRead d ecc) := by
  show run s (s.served d (s.mayRead d 0x7007C) (fun s => s.peekRead d ecc)) = _
  simp [State.served, hr.1, hr.2]

theorem State.coachPeeked_coach (s : State) (c k : Nat) :
    (s.coachPeeked c).coach k = if k = c then { s.coach k with peeks := (s.coach k).peeks + 1 } else s.coach k := by
  unfold State.coachPeeked
  rw [State.setCoach_coach]
  by_cases h : k = c
  · rw [if_pos h, if_pos h, h]
  · rw [if_neg h, if_neg h]

/-- A capture beside a field of a page that a read clears. -/
theorem Captured.put_regs {d : Nat} {v : Word} {l : List (Nat × Word)} {s u : State} (h : Captured d v l s u) (f : FieldRef) (x : Nat) :
    Captured d v l s { u.put f x with regs := s.regs } := by
  have hu : { u.put f x with regs := s.regs } = u := by
    have := h.1.1
    rw [this]; rfl
  rw [hu]; exact h

theorem FieldsKept.capture_put {d : Nat} {v : Word} {l : List (Nat × Word)} {s u : State} (h : Captured d v l s u) {f : FieldRef}
    (hf : f.ok) (x : Nat) : FieldsKept [f] s (u.put f x) := by
  have hu : FieldsKept [f] s u := by
    intro a i _ _
    rw [show u.reg a = s.reg a by rw [h.1.1]; rfl]
  exact hu.trans (OnlyFields.put u (fs := [f]) x (by simp) hf).2

theorem State.doorRead_closed {s : State} {d addr : Nat} (hs : s.serves d = true) (hm : s.mayRead d addr = false) (st : Nat) :
    s.doorRead d addr st = s.captures d 0 [] := by
  simp only [State.doorRead, State.served, hs, hm]
  rfl

theorem execPeekRead_closed {s : State} {d : DoorNo} (ecc : Option Bool) (hs : s.serves d = true) (hm : s.mayRead d 0x7007C = false) :
    exec (.peekRead d ecc) s = run s (s.captures d 0 []) := by
  show run s (s.served d (s.mayRead d 0x7007C) (fun s => s.peekRead d ecc)) = _
  simp only [State.served, hs, hm]
  rfl

/-- Settles O9. That the check bits are free is log entry 16. -/
theorem peeksClearingAndClosedReads : Obligations.PeeksClearingAndClosedReads := by
  refine ⟨fun d s c x hr hin hc hlive hx => ?_, fun d ecc s hr hin => ?_, fun d u s hr => ?_, fun d k s hr => ?_,
    fun i d addr s hs hm hi => ?_⟩
  · subst hc hx
    have hp := State.peekRead_live hin hlive (fun rest => State.matchBits_live rest hlive)
    refine ⟨_, _, (execPeekRead_reads none hr).trans ((congrArg (run s) hp).trans rfl), rfl,
      Captured.captures s (by simp), rfl, fun k => ?_⟩
    exact s.coachPeeked_coach _ k
  · have h : Captured d 0 [(0x70080, 0), (0x70084, 0)] s (s.peekRead d ecc) := by
      rw [State.peekRead_outOfService ecc hin]
      exact Captured.captures s (by simp)
    exact ⟨_, (execPeekRead_reads ecc hr).trans h.run_eq, h⟩
  · have h : Captured d (s.reg (page .adc u + 0x58)) (lowHigh (page .adc u + 0x5C) (page .adc u + 0x60) (s.unit u).dataTick) s _ :=
      Captured.captures s (by simp [lowHigh])
    have hf : (Reg.ADC.STAT.PENDING u).ok := by simp [FieldRef.ok]
    have hexec : exec (.adcDataRead d u) s = run s (s.adcDataRead d u) := by
      rw [← s.busRead_adcData d 0 u.isLt, ← State.doorRead_reads hr]; rfl
    exact ⟨_, hexec.trans rfl, h.put_regs _ 0, State.get_put_self _ _ hf, FieldsKept.capture_put h hf 0⟩
  · have h : Captured d (s.reg (page .tmr k + 0x60))
        (lowHigh (page .tmr k + 0x64) (page .tmr k + 0x68) ((s.timer k).capAt / 128) ++
          [(page .tmr k + 0x6C, BitVec.ofNat 32 ((s.timer k).capAt % 128))]) s _ :=
      Captured.captures s (by simp [lowHigh])
    have hf : (Reg.TMR.STAT.CAP_FULL k).ok := by simp [FieldRef.ok]
    have hexec : exec (.captureRead d k) s = run s (s.captureRead d k) := by
      rw [← s.busRead_capture d 0 k.isLt, ← State.doorRead_reads hr]; rfl
    exact ⟨_, hexec.trans rfl, h.put_regs _ 0, State.get_put_self _ _ hf, FieldsKept.capture_put h hf 0⟩
  · have h : Captured d 0 [] s (s.captures d 0 []) := Captured.captures s (by simp)
    refine ⟨_, ?_, h⟩
    rcases hi with ⟨rfl, rfl⟩ | ⟨st, rfl, rfl⟩ | ⟨u, rfl, rfl⟩ | ⟨k, rfl, rfl⟩ | ⟨e, rfl, rfl⟩
    · exact (congrArg (run s) (State.doorRead_closed hs hm 0)).trans h.run_eq
    · exact (congrArg (run s) (State.doorRead_closed hs hm st)).trans h.run_eq
    · exact (congrArg (run s) (State.doorRead_closed hs hm 0)).trans h.run_eq
    · exact (congrArg (run s) (State.doorRead_closed hs hm 0)).trans h.run_eq
    · exact (execPeekRead_closed e hs hm).trans h.run_eq

end Sys2Proof.Machine
end

section
/-! PROOFS. Writes of doors: what a field takes by its access code, what is staged, and what is dropped (R13, R15, R162 to R165, R283,
R287, R289, R290, R293). -/

namespace Sys2Proof.Machine

/-! ### The fields of a register (R13, R15) -/

/-- The fields of a register lie within the dword and share no bit. -/
def rowOk (r : RegRow) : Bool :=
  r.fields.all (fun f => decide (f.lo ≤ f.hi) && decide (f.hi < 32)) &&
    decide (r.fields.Pairwise (fun f g => f.hi < g.lo ∨ g.hi < f.lo))

theorem rows_ok : ∀ b ∈ allBlocks, ∀ r ∈ headRows ++ rowsOf b, rowOk r = true := by decide

/-- Fields that lie in the register and share no bit. -/
structure FieldsOk (l : List RegField) : Prop where
  inRegister : ∀ f ∈ l, f.lo ≤ f.hi ∧ f.hi < 32
  apart : l.Pairwise fun f g => f.hi < g.lo ∨ g.hi < f.lo

theorem fieldsAt_ok {b : Block} {n off : Nat} (hn : n < b.pages) (ho : off < 0x1000) : FieldsOk (fieldsAt (page b n + off)) := by
  unfold fieldsAt
  rw [regRow_page b hn ho]
  cases hr : (headRows ++ rowsOf b).find? (fun r => r.hits off) with
  | none => exact ⟨nofun, List.Pairwise.nil⟩
  | some r =>
    have hrow := rows_ok b (mem_allBlocks b) r (List.mem_of_find?_eq_some hr)
    simp only [rowOk, Bool.and_eq_true, List.all_eq_true, decide_eq_true_eq] at hrow
    obtain ⟨hin, hapart⟩ := hrow
    exact ⟨hin, hapart⟩

/-- A pass over fields that share no bit acts on each of them by itself. -/
theorem bits_foldl_fields {g : Word → RegField → Word} {φ : RegField → Nat → Nat}
    (hself : ∀ w (f : RegField), f.lo ≤ f.hi → f.hi < 32 → Word.bits (g w f) f.hi f.lo = φ f (Word.bits w f.hi f.lo))
    (hapart : ∀ w (f h : RegField), f.lo ≤ f.hi → f.hi < 32 → (h.hi < f.lo ∨ f.hi < h.lo) →
      Word.bits (g w f) h.hi h.lo = Word.bits w h.hi h.lo) {l : List RegField} (hok : ∀ f ∈ l, f.lo ≤ f.hi ∧ f.hi < 32)
    (hp : l.Pairwise (fun f h => f.hi < h.lo ∨ h.hi < f.lo)) {f : RegField} (hf : f ∈ l) (w : Word) :
    Word.bits (l.foldl g w) f.hi f.lo = φ f (Word.bits w f.hi f.lo) := by
  have hkeep : ∀ (l : List RegField) (f : RegField) (w : Word), (∀ x ∈ l, x.lo ≤ x.hi ∧ x.hi < 32) →
      (∀ x ∈ l, f.hi < x.lo ∨ x.hi < f.lo) → Word.bits (l.foldl g w) f.hi f.lo = Word.bits w f.hi f.lo := by
    intro l
    induction l with
    | nil => exact fun _ _ _ _ => rfl
    | cons x l ih =>
      intro f w hok ha
      rw [List.foldl_cons, ih f _ (fun y hy => hok y (List.mem_cons_of_mem _ hy)) (fun y hy => ha y (List.mem_cons_of_mem _ hy))]
      have hx := hok x List.mem_cons_self
      exact hapart w x f hx.1 hx.2 (ha x List.mem_cons_self)
  induction l generalizing w with
  | nil => cases hf
  | cons x l ih =>
    rw [List.pairwise_cons] at hp
    have hl : ∀ y ∈ l, y.lo ≤ y.hi ∧ y.hi < 32 := fun y hy => hok y (List.mem_cons_of_mem _ hy)
    rw [List.foldl_cons]
    rcases List.mem_cons.1 hf with rfl | hmem
    · have hx := hok f List.mem_cons_self
      rw [hkeep l f _ hl (fun y hy => hp.1 y hy), hself w f hx.1 hx.2]
    · have hx := hok x List.mem_cons_self
      rw [ih hl hp.2 hmem, hapart w x f hx.1 hx.2 ((hp.1 f hmem).symm)]

/-- What a plain write leaves in a field that read as `old`, of a value `x` (R13, R15). -/
def State.fieldWritten (s : State) (addr x : Nat) (f : RegField) (old : Nat) : Nat :=
  match f.acc with
  | .rw => if s.legal addr f x = true then x else old
  | .w1c => old - (old &&& x)
  | .wac => if x + 1 = 2 ^ (f.hi + 1 - f.lo) then 0 else old
  | _ => old

theorem State.merge_rw_bits (s : State) {b : Block} {n off : Nat} (hn : n < b.pages) (ho : off < 0x1000) {f : RegField}
    (hf : f ∈ fieldsAt (page b n + off)) (old v : Word) :
    Word.bits (s.merge (page b n + off) [.rw] old v) f.hi f.lo =
      if ([Acc.rw].contains f.acc && s.legal (page b n + off) f (Word.bits v f.hi f.lo)) = true then Word.bits v f.hi f.lo
      else Word.bits old f.hi f.lo := by
  obtain ⟨hok, hp⟩ := fieldsAt_ok hn ho
  refine bits_foldl_fields
    (φ := fun f x => if ([Acc.rw].contains f.acc && s.legal (page b n + off) f (Word.bits v f.hi f.lo)) = true then Word.bits v f.hi f.lo
      else x) (fun w f h1 h2 => ?_) (fun w f h h1 h2 ha => ?_) hok hp hf old
  · dsimp only
    split
    · rw [Word.bits_withBits_same _ _ h1 h2, Nat.mod_eq_of_lt (Word.bits_lt _ _ _)]
    · rfl
  · dsimp only
    split
    · exact Word.bits_withBits_apart _ _ h1 h2 ha
    · rfl

/-- A plain write acts on each field by its access code. -/
theorem State.plainWrite_bits (s : State) {b : Block} {n off : Nat} (hn : n < b.pages) (ho : off < 0x1000) {f : RegField}
    (hf : f ∈ fieldsAt (page b n + off)) (v : Word) :
    Word.bits ((s.plainWrite (page b n + off) v).reg (page b n + off)) f.hi f.lo =
      s.fieldWritten (page b n + off) (Word.bits v f.hi f.lo) f (Word.bits (s.reg (page b n + off)) f.hi f.lo) := by
  obtain ⟨hok, hp⟩ := fieldsAt_ok hn ho
  unfold State.plainWrite
  rw [State.setReg_reg, if_pos rfl]
  have hpass := bits_foldl_fields (l := fieldsAt (page b n + off))
    (g := fun w f =>
      match f.acc with
      | .w1c => Word.withBits w f.hi f.lo ((Word.bits w f.hi f.lo) - ((Word.bits w f.hi f.lo) &&& Word.bits v f.hi f.lo))
      | .wac => if Word.bits v f.hi f.lo + 1 = 2 ^ (f.hi + 1 - f.lo) then Word.withBits w f.hi f.lo 0 else w
      | _ => w)
    (φ := fun f x =>
      match f.acc with
      | .w1c => x - (x &&& Word.bits v f.hi f.lo)
      | .wac => if Word.bits v f.hi f.lo + 1 = 2 ^ (f.hi + 1 - f.lo) then 0 else x
      | _ => x) (fun w f h1 h2 => ?_) (fun w f h h1 h2 ha => ?_) hok hp hf
    (s.merge (page b n + off) [.rw] (s.reg (page b n + off)) v)
  · refine hpass.trans ?_
    rw [s.merge_rw_bits hn ho hf]
    unfold State.fieldWritten
    cases f.acc <;> rfl
  · split
    · rw [Word.bits_withBits_same _ _ h1 h2]
      exact Nat.mod_eq_of_lt (Nat.lt_of_le_of_lt (Nat.sub_le _ _) (Word.bits_lt _ _ _))
    · split
      · rw [Word.bits_withBits_same _ _ h1 h2, Nat.zero_mod]
      · rfl
    · rfl
  · split
    · exact Word.bits_withBits_apart _ _ h1 h2 ha
    · split
      · exact Word.bits_withBits_apart _ _ h1 h2 ha
      · rfl
    · rfl

theorem State.plainWrite_reg_ne (s : State) {addr a : Nat} (v : Word) (h : a ≠ addr) : (s.plainWrite addr v).reg a = s.reg a := by
  rw [State.plainWrite, State.setReg_reg, if_neg h]

/-- A plain write of a register none of whose fields it may change leaves its value. -/
theorem State.plainWrite_reg_of_none (s : State) {addr : Nat} (v : Word) (h : hasAcc addr [.rw, .w1c, .wac] = false) (a : Nat) :
    (s.plainWrite addr v).reg a = s.reg a := by
  have hnone : ∀ f ∈ fieldsAt addr, f.acc ≠ .rw ∧ f.acc ≠ .w1c ∧ f.acc ≠ .wac := by
    intro f hf
    have := (List.any_eq_false.1 h) f hf
    simpa using this
  have hfold : ∀ {g : Word → RegField → Word} (l : List RegField) (w : Word), (∀ f ∈ l, ∀ w, g w f = w) → l.foldl g w = w := by
    intro g l
    induction l with
    | nil => exact fun _ _ => rfl
    | cons x l ih =>
      intro w hg
      rw [List.foldl_cons, hg x List.mem_cons_self, ih w fun f hf => hg f (List.mem_cons_of_mem _ hf)]
  have hmerge : s.merge addr [.rw] (s.reg addr) v = s.reg addr :=
    hfold _ _ fun f hf w => by simp [(hnone f hf).1]
  rw [State.plainWrite, hmerge, State.setReg_reg]
  split
  · next ha =>
    rw [ha]
    refine hfold _ _ fun f hf w => ?_
    obtain ⟨-, h1, h2⟩ := hnone f hf
    split
    · next he => exact absurd he h1
    · next he => exact absurd he h2
    · rfl
  · rfl

/-! ### Served writes of a dword (R283) -/

theorem BitVec_toNat_addr {b : Block} {n off : Nat} (hn : n < b.pages) (ho : off < 0x1000) :
    (BitVec.ofNat 24 (page b n + off)).toNat = page b n + off := by
  have := page_below b hn ho
  rw [BitVec.toNat_ofNat]
  exact Nat.mod_eq_of_lt (by omega)

theorem page_dword (b : Block) (n : Nat) {off : Nat} (h : off % 4 = 0) : (page b n + off) % 4 = 0 := by
  have := base_aligned b
  simp only [page]; omega

theorem State.formWrite_w32 (s : State) (d : Nat) {a : Nat} (h : a % 4 = 0) (v : Word) :
    s.formWrite d a (v.setWidth 64) .w32 = s.busWrite d a v := by
  have hv : (v.setWidth 64).setWidth 32 = v := by
    apply BitVec.eq_of_toNat_eq
    simp only [BitVec.toNat_setWidth]
    have := v.isLt
    omega
  simp only [State.formWrite, if_pos h, hv]

theorem regRow_isSome_of_hasAcc {a : Nat} {l : List Acc} (h : hasAcc a l = true) : (regRow a).isSome = true := by
  cases hr : regRow a with
  | some r => rfl
  | none => simp [hasAcc, fieldsAt, hr] at h

theorem all_ne_rwc_of_hasAcc {a : Nat} (h : hasAcc a [.rwc] = false) : (fieldsAt a).all (fun f => f.acc != .rwc) = true := by
  refine List.all_eq_true.2 fun f hf => ?_
  have := (List.any_eq_false.1 h) f hf
  simpa using this

theorem State.stageReg_of_no_rwc (s : State) (d : Nat) {a : Nat} (v : Word) (h : hasAcc a [.rwc] = false) : s.stageReg d a v = s :=
  s.stageReg_none d a v (s.stageMask_none a v (all_ne_rwc_of_hasAcc h))

theorem State.write_head (s : State) (d : DoorNo) {b : Block} {n off : Nat} (hn : n < b.pages) (ho : off < 0x40)
    (hr : (regRow (page b n + off)).isSome = true) (v : Word) :
    s.write d (page b n + off) v = (s.stageReg d (page b n + off) v).headWrite d b n off v := by
  have hlt : off < 0x1000 := by omega
  have hr' : (regRow (page b n + off)).isNone = false := by
    cases h : regRow (page b n + off) <;> simp_all
  simp only [State.write, pageOf_page b hn hlt, page_mod b n hlt, hr', ho, if_true, Bool.false_eq_true, if_false, d.isLt]

/-- A write of a register of the head that has no committed field. -/
theorem State.busWrite_head {s : State} {d : DoorNo} {b : Block} {n off : Nat} (h : s.accepts d b n off) (hn : n < b.pages)
    (ho : off < 0x40) (hw : writable (page b n + off) = true) (hc : hasAcc (page b n + off) [.rwc] = false) (v : Word) :
    s.busWrite d (page b n + off) v = s.headWrite d b n off v := by
  have hr : (regRow (page b n + off)).isSome = true := by
    simp only [writable, Bool.and_eq_true] at hw
    exact regRow_isSome_of_hasAcc hw.1
  rw [State.busWrite_accepts h hn (by omega) hw, s.write_head d hn ho hr, s.stageReg_of_no_rwc d v hc]

/-- The register of the head at an offset. -/
theorem fieldsAt_head {b : Block} {n off : Nat} (hn : n < b.pages) (ho : off < 0x40) {r : RegRow}
    (hr : headRows.find? (fun r => r.hits off) = some r) : fieldsAt (page b n + off) = r.fields := by
  rw [fieldsAt_page b hn (by omega), List.find?_append, hr]
  rfl

theorem writable_head {b : Block} {n off : Nat} (hn : n < b.pages) (ho : off < 0x40) {r : RegRow}
    (hr : headRows.find? (fun r => r.hits off) = some r) (h1c : off ≠ 0x1C)
    (ha : r.fields.any (fun f => [Acc.rw, .rwc, .w1c, .wac, .wo].contains f.acc) = true) : writable (page b n + off) = true := by
  have hd : deafShutter (page b n + off) = false := by
    rw [deafShutter_page b hn (by omega)]
    simp [h1c]
  rw [writable, hasAcc, fieldsAt_head hn ho hr, ha, hd]
  rfl

/-! ### Registers without effects of their own (R13) -/

/-- Settles O26: the register is plain, and a plain write acts field by field. -/
theorem registerWriteObeysAccessCodes : Obligations.RegisterWriteObeysAccessCodes := by
  intro d b n off u v s hv hoff hn ho h4 hsel hacc hw hc
  have hbus : s.busWrite d (page b n + off) u = s.plainWrite (page b n + off) v := by
    rcases hoff with rfl | rfl | rfl | ⟨h40, hb⟩
    · rw [State.busWrite_head hacc hn (by decide) hw hc, hv]
      rfl
    · rw [State.busWrite_head hacc hn (by decide) hw hc, hv]
      rfl
    · rw [State.busWrite_head hacc hn (by decide) hw hc, hv]
      rfl
    · have hr : (regRow (page b n + off)).isSome = true := by
        simp only [writable, Bool.and_eq_true] at hw
        exact regRow_isSome_of_hasAcc hw.1
      have hne : off ≠ 0x14 := by omega
      rw [State.busWrite_accepts hacc hn ho hw, State.write_block hn ho hr h40 hsel, if_pos d.isLt, s.stageReg_of_no_rwc d u hc, hv,
        if_neg hne]
      simp only [List.mem_cons, List.not_mem_nil, or_false] at hb
      rcases hb with rfl | rfl | rfl | rfl | rfl | rfl | rfl | rfl | rfl | rfl | rfl | rfl <;> rfl
  have hexec : exec (.registerWrite d (BitVec.ofNat 24 (page b n + off)) (u.setWidth 64) .w32) s =
      run s (s.plainWrite (page b n + off) v) := by
    show run s (s.formWrite d (BitVec.ofNat 24 (page b n + off)).toNat (u.setWidth 64) .w32) = _
    rw [BitVec_toNat_addr hn ho, s.formWrite_w32 d (page_dword b n h4), hbus]
  exact ⟨_, hexec.trans (run_eq rfl rfl), fun f hf => s.plainWrite_bits hn ho hf v, fun a ha => s.plainWrite_reg_ne v ha, rfl⟩

/-! ### Registers with committed fields are staged (R287, R289) -/

/-- A register below the head whose write does more than set its fields. -/
def ownEffect (b : Block) (off : Nat) : Bool :=
  match b with
  | .clk => off == 0x40 || off == 0x48 || off == 0x98
  | .pwr => off == 0x40 || off == 0x58
  | .prf => (decide (0x90 ≤ off) && decide (off < 0xB0)) || off == 0xB0 || off == 0xD0
  | .whl => decide (0x400 ≤ off) && decide (off < 0x800)
  | .plc => off == 0x40
  | .irq => true
  | .irqd => off == 0x40 || off == 0x44 || off == 0x48 || off == 0x50 || off == 0x54 || off == 0x58
  | .dma => off == 0x64
  | .dor => off == 0x4C || off == 0x50
  | .glb | .flt | .inp | .scn | .lnk | .drv | .adc | .recorder | .mem | .stg | .tmr | .evt => false

theorem State.blockWrite_plain (s : State) (d : Nat) {b : Block} (n : Nat) {off : Nat} (h : ownEffect b off = false) (v : Word) :
    s.blockWrite d b n off v = s.plainWrite (page b n + off) v := by
  cases b <;> simp_all [ownEffect, State.blockWrite]

/-- Of the head PG_SHUTTER alone has a committed field. -/
theorem headRows_committed : ∀ r ∈ headRows, r.fields.any (fun f => [Acc.rwc].contains f.acc) = true → r.off = 0x1C ∧ r.stride = 0 := by
  decide

/-- No register with an effect of its own has a committed field. -/
theorem rowsOf_committed : ∀ b ∈ allBlocks, ∀ r ∈ rowsOf b, r.fields.any (fun f => [Acc.rwc].contains f.acc) = true →
    0x40 ≤ r.off ∧ ownEffect b r.off = false ∧ (r.count = 1 ∨ b ∈ [Block.inp, .lnk, .adc, .evt]) := by
  decide

theorem RegRow.hits_iff {r : RegRow} {off : Nat} (h : r.hits off = true) :
    off = r.off ∨ ∃ i < r.count, off = r.off + i * r.stride := by
  unfold RegRow.hits at h
  rw [Bool.and_eq_true, decide_eq_true_eq] at h
  obtain ⟨hle, hs⟩ := h
  split at hs
  · exact .inl (by simpa using hs)
  · next st hst =>
    rw [Bool.and_eq_true, beq_iff_eq, decide_eq_true_eq] at hs
    refine .inr ⟨_, hs.2, ?_⟩
    have := Nat.div_add_mod (off - r.off) (st + 1)
    rw [hst, Nat.succ_eq_add_one, Nat.mul_comm]
    omega

theorem committed_cases {b : Block} {n off : Nat} (hn : n < b.pages) (ho : off < 0x1000)
    (h : hasAcc (page b n + off) [.rwc] = true) : off = 0x1C ∨ 0x40 ≤ off ∧ ownEffect b off = false := by
  rw [hasAcc, fieldsAt_page b hn ho] at h
  cases hr : (headRows ++ rowsOf b).find? (fun r => r.hits off) with
  | none => rw [hr] at h; cases h
  | some r =>
    rw [hr] at h
    have hhit := RegRow.hits_iff (List.find?_some (p := fun r : RegRow => r.hits off) hr)
    rcases List.mem_append.1 (List.mem_of_find?_eq_some hr) with hmem | hmem
    · obtain ⟨hoff, hst⟩ := headRows_committed r hmem h
      left
      rcases hhit with he | ⟨i, -, he⟩
      · exact he.trans hoff
      · rw [he, hst, hoff, Nat.mul_zero]
    · obtain ⟨h40, hself, hall⟩ := rowsOf_committed b (mem_allBlocks b) r hmem h
      right
      rcases hhit with he | ⟨i, hi, he⟩
      · rw [he]; exact ⟨h40, hself⟩
      · rw [he]
        refine ⟨by omega, ?_⟩
        rcases hall with h1 | hb
        · have hi0 : i = 0 := by omega
          rw [hi0, Nat.zero_mul]; exact hself
        · simp only [List.mem_cons, List.not_mem_nil, or_false] at hb
          rcases hb with rfl | rfl | rfl | rfl <;> rfl

theorem stageJoin_get (m : Sparse (Word × Word)) (k j : Nat) (v mask : Word) :
    (stageJoin m k v mask).get (fun _ => (0, 0)) j =
      if j = k then (overlaid (m.get (fun _ => (0, 0)) k).1 v mask, (m.get (fun _ => (0, 0)) k).2 ||| mask)
      else m.get (fun _ => (0, 0)) j :=
  Sparse.get_set _ _ _ _ _

theorem State.stageReg_some (s : State) (d a : Nat) {v : Word} (h : s.stageMask a v ≠ 0) :
    s.stageReg d a v = s.setDoor d { s.door d with stage := stageJoin (s.door d).stage a v (s.stageMask a v) } :=
  if_neg h

/-- A door's staging of a dword changes that door's stage alone. -/
theorem State.stageReg_door (s : State) (d a : Nat) (v : Word) :
    OnlyDoor d s (s.stageReg d a v) ∧
      (s.stageReg d a v).door d = { s.door d with stage := ((s.stageReg d a v).door d).stage } := by
  by_cases h : s.stageMask a v = 0
  · rw [s.stageReg_none d a v h]
    exact ⟨⟨rfl, fun _ _ => rfl⟩, rfl⟩
  · rw [s.stageReg_some d a h]
    exact ⟨OnlyDoor.setDoor _ _ _, by rw [State.setDoor_door, if_pos rfl]⟩

theorem State.stageReg_stage (s : State) (d a : Nat) {v : Word} (h : s.stageMask a v ≠ 0) :
    ((s.stageReg d a v).door d).stage = stageJoin (s.door d).stage a v (s.stageMask a v) := by
  rw [s.stageReg_some d a h, State.setDoor_door, if_pos rfl]

/-- A served write of a register with committed fields and no others that act: it is staged, and no register changes. -/
theorem State.busWrite_committed {s : State} {d : DoorNo} {b : Block} {n off : Nat} (hacc : s.accepts d b n off) (hn : n < b.pages)
    (ho : off < 0x1000) (hsel : (selOffsets b).contains off = false) (hc : hasAcc (page b n + off) [.rwc] = true)
    (hother : hasAcc (page b n + off) [.rw, .w1c, .wac, .wo] = false) (hdeaf : deafShutter (page b n + off) = false) (v : Word) :
    ∃ regs, s.busWrite d (page b n + off) v = { s.stageReg d (page b n + off) v with regs := regs } ∧
      ∀ r, (s.busWrite d (page b n + off) v).reg r = s.reg r := by
  have hw : writable (page b n + off) = true := by
    rw [writable, hdeaf, Bool.not_false, Bool.and_true]
    refine List.any_eq_true.2 ?_
    obtain ⟨f, hf, hacc⟩ := List.any_eq_true.1 hc
    exact ⟨f, hf, by simpa using Or.inr (Or.inl (by simpa using hacc))⟩
  have hr := regRow_isSome_of_hasAcc hc
  have hplain : hasAcc (page b n + off) [.rw, .w1c, .wac] = false := by
    refine List.any_eq_false.2 fun f hf => ?_
    have := List.any_eq_false.1 hother f hf
    simp only [List.contains_cons, List.contains_nil, Bool.or_false, Bool.or_eq_true, not_or] at this ⊢
    exact ⟨this.1, this.2.1, this.2.2.1⟩
  have hkept : ∀ r, (s.stageReg d (page b n + off) v).reg r = s.reg r := by
    intro r
    rw [(s.stageReg_door d (page b n + off) v).1.1]
    rfl
  rw [State.busWrite_accepts hacc hn ho hw]
  rcases committed_cases hn ho hc with rfl | ⟨h40, heff⟩
  · rw [s.write_head d hn (by decide) hr]
    exact ⟨_, rfl, hkept⟩
  · rw [State.write_block hn ho hr h40 hsel, if_pos d.isLt, State.blockWrite_plain _ _ _ heff]
    exact ⟨_, rfl, fun r => (State.plainWrite_reg_of_none _ v hplain r).trans (hkept r)⟩

/-- Settles O18: what the write stages is a change of the door's stage, and below the head nothing else acts on the register. -/
theorem committedRegisterWriteIsStaged : Obligations.CommittedRegisterWriteIsStaged := by
  intro d b n off a v s hn ho h4 ha hsel hc hother hdeaf hacc
  obtain ⟨regs, hbus, hreg⟩ := State.busWrite_committed hacc hn ho hsel hc hother hdeaf v
  obtain ⟨honly, hdoor⟩ := s.stageReg_door d (page b n + off) v
  have hexec : exec (.stageWrite d .bar0 a ⟨v, 15⟩) s = run s (s.busWrite d (page b n + off) v) := by
    show run s (s.formWrite d a.toNat (v.setWidth 64) .w32) = _
    rw [ha, s.formWrite_w32 d (page_dword b n h4)]
  have hstate : s.busWrite d (page b n + off) v =
      { s with regs := regs, doors := (s.stageReg d (page b n + off) v).doors } := by
    rw [hbus, honly.1]
  have hdoors : ∀ e, (s.busWrite d (page b n + off) v).door e = (s.stageReg d (page b n + off) v).door e := by
    intro e
    rw [hbus]; rfl
  refine ⟨_, hexec.trans (run_eq (by rw [hstate]) (by rw [hstate])), by rw [hstate], hreg, fun e he => ?_, ?_, fun hm => ?_, fun hm => ?_,
    fun r hr => ?_⟩
  · rw [hdoors, honly.2 e he]
  · rw [hdoors]; exact hdoor
  · rw [hdoors, s.stageReg_stage d _ hm, stageJoin_get, if_pos rfl]
  · rw [hdoors, s.stageReg_none d _ _ hm]
  · rw [hdoors]
    by_cases hm : s.stageMask (page b n + off) v = 0
    · rw [s.stageReg_none d _ _ hm]
    · rw [s.stageReg_stage d _ hm, stageJoin_get, if_neg hr]

/-! ### Slot words and DISCARD (R162, R287) -/

theorem page_ne_scn {b : Block} {n : Nat} (hn : n < b.pages) (hb : b ≠ .scn) : page b n ≠ page .scn 0 := by
  intro he
  have h1 := pageOf_page b hn (off := 0) (by decide)
  rw [he, pageOf_page .scn (n := 0) (off := 0) (by decide) (by decide)] at h1
  simp only [Option.some.injEq, Prod.mk.injEq] at h1
  exact hb h1.1.symm

theorem State.bar2Write_slotWord {s : State} {d off h k : Nat} (hs : s.serves d = true) (hd : s.doorState d ≠ 2) (h7 : 7 ≤ s.devState)
    (hoff : off = h * 32 + k * 4) (hh : h < 131072) (hk : k < 7) (how : s.handleOwner h = s.comp d) (v : Word) :
    s.bar2Write d off v 15 = s.stageSlot d h k v := by
  have h1 : ¬ (!s.serves d ∨ s.doorState d = 2 ∨ s.devState < 7) := by simp [hs, hd]; omega
  have h2 : off < 0x400000 := by omega
  have h3 : ¬ (off % 4 ≠ 0 ∨ (15 : Fin 16) ≠ 15) := by simp; omega
  have hdiv : off / 32 = h := by omega
  have hword : off / 4 % 8 = k := by omega
  have hk7 : k ≠ 7 := by omega
  unfold State.bar2Write
  dsimp only
  rw [if_neg h1, if_pos h2, if_neg h3, hdiv, hword, if_neg hk7, if_pos how]

theorem State.stageSlot_staged {s : State} {d h : Nat} {k : Nat} {v : Word} (hm : s.slotStageMask h k v ≠ 0)
    (hroom : (s.door d).stagedSlots.contains h = true ∨ (s.door d).stagedSlots.length < 4096) :
    s.stageSlot d h k v = s.setDoor d
      { s.door d with slotStage := stageJoin (s.door d).slotStage (h * 8 + k) v (s.slotStageMask h k v) } := by
  have hroom' : ((s.door d).stagedSlots.contains h || decide ((s.door d).stagedSlots.length < 4096)) = true := by
    simpa using hroom
  unfold State.stageSlot
  dsimp only
  rw [if_neg hm, State.onDoor_eq, if_pos hroom']

/-- Settles O17: both write one door's stages only. -/
theorem stagesHoldAndDiscard : Obligations.StagesHoldAndDiscard := by
  refine ⟨fun d off h k v s hs hd h7 hoff hh hk how hm hroom => ?_, fun d b n a s hn ha hacc => ?_⟩
  · have hwrite : exec (.stageWrite d .bar2 off ⟨v, 15⟩) s = run s (s.setDoor d
        { s.door d with slotStage := stageJoin (s.door d).slotStage (h * 8 + k) v (s.slotStageMask h k v) }) := by
      rw [← State.stageSlot_staged hm hroom, ← State.bar2Write_slotWord hs hd h7 hoff hh hk how v]
      rfl
    refine ⟨_, hwrite.trans (run_eq rfl rfl), OnlyDoor.setDoor _ _ _, ?_, ?_, fun j hj => ?_⟩
    · rw [State.setDoor_door, if_pos rfl]
    · rw [State.setDoor_door, if_pos rfl]
      exact (stageJoin_get _ _ _ _ _).trans (if_pos rfl)
    · rw [State.setDoor_door, if_pos rfl]
      exact (stageJoin_get _ _ _ _ _).trans (if_neg hj)
  · have hfields : fieldsAt (page b n + 0x08) = [⟨0, 0, .wo, 0, .any⟩] := fieldsAt_head hn (by decide) (r := ⟨0x8, 0, 1, _⟩) (by decide)
    have hw : writable (page b n + 0x08) = true := writable_head hn (by decide) (r := ⟨0x8, 0, 1, [⟨0, 0, .wo, 0, .any⟩]⟩) (by decide)
      (by decide) (by decide)
    have hc : hasAcc (page b n + 0x08) [.rwc] = false := by rw [hasAcc, hfields]; decide
    have hexec : exec (.stageDiscard d a) s = run s (s.emptyStage d (page b n)) := by
      show run s (s.busWrite d (pageBase a.toNat + 0x08) 1) = _
      rw [ha, State.busWrite_head hacc hn (by decide) hw hc]
      rfl
    refine ⟨_, hexec.trans (run_eq rfl rfl), OnlyDoor.setDoor _ _ _, fun hb => ?_, fun hb => ?_⟩
    · rw [State.emptyStage, State.onDoor_eq, State.setDoor_door, if_pos rfl, if_neg (page_ne_scn hn hb)]
    · subst hb
      have h0 : n = 0 := Nat.lt_one_iff.1 hn
      rw [State.emptyStage, State.onDoor_eq, State.setDoor_door, if_pos rfl, h0, if_pos rfl]

/-! ### Writes that are dropped (R283, R293) -/

theorem State.comp_lt (s : State) (d : Nat) : s.comp d < 4 := Nat.mod_lt _ (by decide)

/-- What a violating write leaves on the page of its door, before the limit is looked at. -/
def State.violated (s : State) (d : Nat) (bar2 : Bool) (off : Nat) : State :=
  ((((s.bump (Reg.DOR.VIOL_CNT.COUNT d)).putBit (Reg.DOR.VIOL_ADDR.SPACE d) bar2).put (Reg.DOR.VIOL_ADDR.OFFSET d) off).raise
    (page .dor d) 0).err (page .dor d)

/-- The fields of the page of a door that a violating write changes. -/
def violFields (d : Nat) : List FieldRef :=
  [Reg.DOR.VIOL_CNT.COUNT d, Reg.DOR.VIOL_ADDR.SPACE d, Reg.DOR.VIOL_ADDR.OFFSET d, Reg.HEAD.PG_ERRCNT.COUNT (page .dor d),
    rawBit (page .dor d) 0]

theorem State.violated_frame (s : State) (d : Nat) (bar2 : Bool) (off : Nat) : OnlyFields (violFields d) s (s.violated d bar2 off) :=
  (((((OnlyFields.refl _ s).andBump (by simp [violFields])).andPut (by simp [violFields])).andPut (by simp [violFields])).andRaise
    (by simp [violFields])).andErr (by simp [violFields])

theorem State.violated_comp (s : State) (d : Nat) (bar2 : Bool) (off e : Nat) : (s.violated d bar2 off).comp e = s.comp e := by
  have : (s.violated d bar2 off).get Reg.GLB.DOOR_MAP.COMP = s.get Reg.GLB.DOOR_MAP.COMP :=
    (s.violated_frame d bar2 off).get (by decide) (by simp [violFields, FieldRef.apart, rawBit]; omega)
  simp only [State.comp, this]

theorem State.violated_limit (s : State) (d : Nat) (bar2 : Bool) (off : Nat) {c : Nat} (hc : c < 4) :
    (s.violated d bar2 off).get (Reg.GLB.COMP_CFG.VIOL_LIMIT c) = s.get (Reg.GLB.COMP_CFG.VIOL_LIMIT c) :=
  (s.violated_frame d bar2 off).get (by simp [FieldRef.ok]) (by simp [violFields, FieldRef.apart, rawBit]; omega)

theorem State.violated_doorState (s : State) (d : Nat) (bar2 : Bool) (off : Nat) : (s.violated d bar2 off).doorState d = s.doorState d :=
  (s.violated_frame d bar2 off).get (by simp [FieldRef.ok]) (by simp [violFields, FieldRef.apart, rawBit]; omega)

theorem State.violated_count (s : State) (d : Nat) (bar2 : Bool) (off : Nat) :
    (s.violated d bar2 off).get (Reg.DOR.VIOL_CNT.COUNT d) = min 255 (s.get (Reg.DOR.VIOL_CNT.COUNT d) + 1) := by
  rw [State.violated, State.get_err_apart _ (by simp [FieldRef.apart]; omega), State.get_raise_ne _ (by simp; omega), State.get_put_apart _ _ (by simp [FieldRef.ok])
    (by simp [FieldRef.apart]), State.putBit, State.get_put_apart _ _ (by simp [FieldRef.ok]) (by simp [FieldRef.apart]), State.get_bump_self _ (by simp [FieldRef.ok])]
  rfl

theorem State.violated_space (s : State) (d : Nat) (bar2 : Bool) (off : Nat) :
    (s.violated d bar2 off).get (Reg.DOR.VIOL_ADDR.SPACE d) = if bar2 then 1 else 0 := by
  rw [State.violated, State.get_err_apart _ (by simp [FieldRef.apart]; omega), State.get_raise_ne _ (by simp; omega), State.get_put_apart _ _ (by simp [FieldRef.ok])
    (by simp [FieldRef.apart]), State.putBit, State.get_put_of_lt _ (by simp [FieldRef.ok])]
  · cases bar2 <;> simp

theorem State.violated_offset (s : State) (d : Nat) (bar2 : Bool) {off : Nat} (ho : off < 2 ^ 24) :
    (s.violated d bar2 off).get (Reg.DOR.VIOL_ADDR.OFFSET d) = off := by
  rw [State.violated, State.get_err_apart _ (by simp [FieldRef.apart]; omega), State.get_raise_ne _ (by simp; omega), State.get_put_of_lt _ (by simp [FieldRef.ok])]
  exact ho

theorem State.violated_raised (s : State) (d : Nat) (bar2 : Bool) (off : Nat) : (s.violated d bar2 off).isRaised (page .dor d) 0 :=
  (State.isRaised_put_iff _ _ (by simp [FieldRef.ok]) (by simp [FieldRef.apart, rawBit])).2 (State.isRaised_raise _ _ (by decide))

/-- A violating write of an UP door: counted, shown and raised; at the limit of its compartment the door has a cause (R293). -/
theorem State.violation_up {s : State} {d : Nat} (bar2 : Bool) (off : Nat) (hup : s.doorState d = 1) :
    s.violation d bar2 off =
      if s.get (Reg.GLB.COMP_CFG.VIOL_LIMIT (s.comp d)) ≠ 0 ∧
          s.get (Reg.GLB.COMP_CFG.VIOL_LIMIT (s.comp d)) ≤ min 255 (s.get (Reg.DOR.VIOL_CNT.COUNT d) + 1) then
        (s.violated d bar2 off).setDoor d { s.door d with causes := insertNat 1 (s.door d).causes }
      else s.violated d bar2 off := by
  have hcause : (s.violated d bar2 off).doorCause d 1 =
      (s.violated d bar2 off).setDoor d { s.door d with causes := insertNat 1 (s.door d).causes } := by
    have hst : (s.violated d bar2 off).get (Reg.DOR.DOOR_STAT.STATE d) = 1 := (s.violated_doorState d bar2 off).trans hup
    rw [State.doorCause, hst, if_pos (.inl rfl), State.onDoor_eq, (s.violated_frame d bar2 off).door_eq]
  rw [← s.violated_limit d bar2 off (s.comp_lt d), ← s.violated_count d bar2 off, ← s.violated_comp d bar2 off d, ← hcause]
  rfl

theorem State.malformed_frame (s : State) (d : Nat) :
    OnlyFields [Reg.DOR.FORM_CNT.COUNT d, Reg.HEAD.PG_ERRCNT.COUNT (page .dor d)] s (s.malformed d) :=
  (OnlyFields.refl _ s).andBump.andErr

theorem formCnt_top (d : Nat) : (Reg.DOR.FORM_CNT.COUNT d).top = 2 ^ 32 - 1 := by simp [FieldRef.top]

theorem State.malformed_count (s : State) (d : Nat) :
    (s.malformed d).get (Reg.DOR.FORM_CNT.COUNT d) = min (2 ^ 32 - 1) (s.get (Reg.DOR.FORM_CNT.COUNT d) + 1) := by
  rw [State.malformed, State.get_err_apart _ (by simp [FieldRef.apart]; omega), State.get_bump_self _ (by simp [FieldRef.ok]),
    formCnt_top]

/-- A served write without the right to it is a violation. -/
theorem State.busWrite_noRight {s : State} {d : Nat} {b : Block} {n off : Nat} (hn : n < b.pages) (ho : off < 0x1000)
    (hs : s.serves d = true) (hd : s.doorState d ≠ 2) (hopen : s.pageOpen b off = true) (hw : writable (page b n + off) = true)
    (hr : s.hasRight d b n off = false) (v : Word) : s.busWrite d (page b n + off) v = s.violation d false (page b n + off) := by
  have hb := page_below b hn ho
  have hm : ¬ (0xF00000 ≤ page b n + off ∧ page b n + off < 0xF04000) := by omega
  unfold State.busWrite
  rw [if_neg (by simp [hs, hd]), if_neg hm, pageOf_page b hn ho]
  dsimp only
  rw [page_mod b n ho, if_neg (by rw [hopen, hw]; decide), hr, if_neg Bool.false_ne_true]

/-- A write of a form that R283 does not serve is malformed. -/
theorem State.formWrite_malformed {s : State} {d off : Nat} {form : WriteForm} (hs : s.serves d = true) (hd : s.doorState d = 1)
    (h : form = .other ∨ (form = .w32 ∧ off % 4 ≠ 0) ∨ (form = .w64 ∧ off % 8 ≠ 0)) (v : Quad) :
    s.formWrite d off v form = s.malformed d := by
  have hbad : (if s.serves d && s.doorState d == 1 then s.malformed d else s) = s.malformed d := by rw [hs, hd]; rfl
  rcases h with rfl | ⟨rfl, h⟩ | ⟨rfl, h⟩
  · exact hbad
  · exact (if_neg h).trans hbad
  · exact (if_neg h).trans hbad

/-- Settles O27: a write without the right is a violation, one of another form is malformed, and both stay on the writer's page.
The corner of VIOL_LIMIT, that the write which reaches it gives the cause, is log entry 67. -/
theorem droppedWritesTouchOnlyTheWriter : Obligations.DroppedWritesTouchOnlyTheWriter := by
  refine ⟨fun d b n off v s hn ho h4 hs hup hopen hw hright => ?_, fun d off v form s hs hup hform => ?_,
    fun d off v be s hs hup h7 hlt hbad => ?_⟩
  · have hexec : exec (.registerWrite d (BitVec.ofNat 24 (page b n + off)) (v.setWidth 64) .w32) s =
        run s (s.violation d false (page b n + off)) := by
      show run s (s.formWrite d (BitVec.ofNat 24 (page b n + off)).toNat (v.setWidth 64) .w32) = _
      rw [BitVec_toNat_addr hn ho, s.formWrite_w32 d (page_dword b n h4),
        State.busWrite_noRight hn ho hs (by omega) hopen hw hright]
    have hframe := s.violated_frame d false (page b n + off)
    have haddr : page b n + off < 2 ^ 24 := Nat.lt_of_lt_of_le (page_below b hn ho) (by decide)
    have hviol := State.violation_up false (page b n + off) hup
    have hregs : (s.violation d false (page b n + off)).regs = (s.violated d false (page b n + off)).regs := by
      rw [hviol]; split <;> rfl
    have hget := State.get_of_regs hregs
    have hstate : s.violation d false (page b n + off) =
        { s with regs := (s.violation d false (page b n + off)).regs, doors := (s.violation d false (page b n + off)).doors } := by
      rw [hviol, hframe.1]
      split <;> rfl
    refine ⟨_, hexec.trans (run_eq (by rw [hstate]) (by rw [hstate])), (hget _).trans (s.violated_count d _ _),
      (hget _).trans (s.violated_space d _ _), (hget _).trans (s.violated_offset d _ haddr),
      (hget _).trans (s.violated_raised d _ _), hstate, fun e he => ?_, ?_, hframe.2.andSame hregs⟩
    · rw [hviol]
      split
      · rw [State.setDoor_door, if_neg he, hframe.door_eq]
      · rw [hframe.door_eq]
    · rw [hviol]
      split
      · rw [State.setDoor_door, if_pos rfl]
      · rw [hframe.door_eq]
  · have hexec : exec (.registerWrite d off v form) s = run s (s.malformed d) :=
      congrArg (run s) (State.formWrite_malformed hs hup hform v)
    exact ⟨_, hexec.trans (s.malformed_frame d).run_eq, s.malformed_count d, s.malformed_frame d⟩
  · have hwrite : s.bar2Write d off.toNat v be = s.malformed d := by
      have h1 : ¬ (!s.serves d ∨ s.doorState d = 2 ∨ s.devState < 7) := by simp [hs, hup]; omega
      unfold State.bar2Write
      dsimp only
      rw [if_neg h1, if_pos hlt, if_pos hbad]
    have hexec : exec (.stageWrite d .bar2 off ⟨v, be⟩) s = run s (s.malformed d) := congrArg (run s) hwrite
    exact ⟨_, hexec.trans (s.malformed_frame d).run_eq, s.malformed_count d, s.malformed_frame d⟩

/-! ### Commits (R163 to R165) -/

/-- A page's commits name it by its own entries, none of which is a slot's. -/
theorem stageEntries_no_slots (s : State) (d : Nat) {p : Nat} (hp : p ≠ page .scn 0) : slotsOf (s.stageEntries d p) = [] := by
  have hnone : ((s.stageEntries d p).filter (fun e => e.bar2 && decide (e.off < 0x400000))) = [] := by
    rw [State.stageEntries, if_neg hp, List.filter_eq_nil_iff]
    intro e he
    obtain ⟨x, -, rfl⟩ := List.mem_map.1 he
    simp
  rw [slotsOf, hnone]
  rfl

/-- The earlier commits of a door on a page are no longer the latest. -/
def State.outdated (s : State) (d p : Nat) : List Commit :=
  s.commits.map (fun c => if c.door = d ∧ c.page = p then { c with latest := false } else c)

theorem outdated_pending (s : State) (d p : Nat) : ((s.outdated d p).filter (fun c => c.door == d)).length = s.pendingOf d := by
  rw [State.outdated, List.filter_map, List.length_map, State.pendingOf]
  congr 2
  funext c
  simp only [Function.comp]
  split <;> rfl

theorem State.acceptCommit_page (s : State) (d eff : Nat) {p : Nat} (hp : p ≠ page .scn 0) :
    s.acceptCommit d p eff (s.stageEntries d p) =
      { s.emptyStage d p with commits := s.outdated d p ++ [⟨d, p, eff, true, s.stageEntries d p, true, [], []⟩] } := by
  have hres : s.reserveAll (s.overlay (s.stageEntries d p)) [] = some s := rfl
  unfold State.acceptCommit
  simp only [stageEntries_no_slots s d hp, hres, Option.getD_some, Option.isSome_some, List.flatMap_nil, List.filter_nil]
  rfl

theorem State.setOutcome_door (s : State) (d p code tick : Nat) : (s.setOutcome d p code tick).door d =
    { s.door d with outcome := (s.door d).outcome.set (fun _ => ⟨0, 0⟩) p ⟨code, tick % 2 ^ 64⟩ } := by
  rw [State.setOutcome, State.onDoor_eq, State.setDoor_door, if_pos rfl]

theorem State.setOutcome_shown (s : State) (d p code tick : Nat) :
    ((s.setOutcome d p code tick).door d).outcome.get (fun _ => ⟨0, 0⟩) p = ⟨code, tick % 2 ^ 64⟩ := by
  rw [State.setOutcome_door]
  exact (Sparse.get_set _ _ _ _ _).trans (if_pos rfl)

theorem State.setOutcome_door_ne (s : State) {d e : Nat} (p code tick : Nat) (h : e ≠ d) :
    (s.setOutcome d p code tick).door e = s.door e := by
  rw [State.setOutcome, State.onDoor_eq, State.setDoor_door, if_neg h]

theorem State.emptyStage_door_ne (s : State) {d e : Nat} (p : Nat) (h : e ≠ d) : (s.emptyStage d p).door e = s.door e := by
  rw [State.emptyStage, State.onDoor_eq, State.setDoor_door, if_neg h]

theorem State.emptyStage_stage (s : State) (d : Nat) {p : Nat} (hp : p ≠ page .scn 0) :
    ((s.emptyStage d p).door d).stage = (s.door d).stage.filter (fun e => pageBase e.1 != p) := by
  rw [State.emptyStage, State.onDoor_eq, State.setDoor_door, if_pos rfl, if_neg hp]

/-- A door's commit of a page without slots, accepted: it waits with its content, and the door's stage of the page is empty. -/
def State.issued (s : State) (d p eff : Nat) : State :=
  State.setOutcome { s.emptyStage d p with commits := s.outdated d p ++ [⟨d, p, eff, true, s.stageEntries d p, true, [], []⟩] } d p 1 eff

/-- A commit that its page's rules refuse: the outcome is shown, the stage stays. -/
def State.refused (s : State) (d p code eff : Nat) : State := { s.setOutcome d p code eff with commits := s.outdated d p }

theorem State.issue_accepted {s : State} {d p eff : Nat} {v : Word} (hp : p ≠ page .scn 0)
    (heff : if (s.door d).upper.toNat * 2 ^ 32 + v.toNat = immediate then eff = s.tick + 2
      else eff = (s.door d).upper.toNat * 2 ^ 32 + v.toNat ∧ s.tick + 2 ≤ eff) (hroom : s.pendingOf d < 16)
    (hok : s.contentBad (some (s.comp d)) p (s.stageEntries d p) = false) : s.issue d p v = s.issued d p eff := by
  have he : (if (s.door d).upper.toNat * 2 ^ 32 + v.toNat = immediate then s.tick + 2
      else (s.door d).upper.toNat * 2 ^ 32 + v.toNat) = eff := by
    split at heff
    · next h => rw [if_pos h, heff]
    · next h => rw [if_neg h, heff.1]
  have hlate : ¬ eff < s.tick + 2 := by
    split at heff
    · omega
    · omega
  unfold State.issue
  simp only [Nat.zero_div, Nat.add_zero, he, hlate, hp, false_and, if_false, Nat.not_le.2 hroom, hok, Bool.false_eq_true,
    s.acceptCommit_page d eff hp]
  rfl

theorem State.issue_late {s : State} {d p : Nat} {v : Word} (hp : p ≠ page .scn 0)
    (hlate : (s.door d).upper.toNat * 2 ^ 32 + v.toNat < s.tick + 2)
    (him : (s.door d).upper.toNat * 2 ^ 32 + v.toNat ≠ immediate) :
    s.issue d p v = s.refused d p 3 ((s.door d).upper.toNat * 2 ^ 32 + v.toNat) := by
  unfold State.issue
  simp only [Nat.zero_div, Nat.add_zero, if_neg him, hlate, hp, false_and, if_false, if_true]
  rfl

theorem State.busWrite_pgCommit {s : State} {d : DoorNo} {b : Block} {n : Nat} (h : s.accepts d b n 0x20) (hn : n < b.pages)
    (hc : b.hasCommit = true) (v : Word) : s.busWrite d (page b n + 0x20) v = s.issue d (page b n) v := by
  have hfields : fieldsAt (page b n + 0x20) = [⟨31, 0, .rw, 0, .any⟩] := fieldsAt_head hn (by decide) (r := ⟨0x20, 0, 1, _⟩) (by decide)
  have hw : writable (page b n + 0x20) = true := writable_head hn (by decide) (r := ⟨0x20, 0, 1, [⟨31, 0, .rw, 0, .any⟩]⟩) (by decide)
    (by decide) (by decide)
  have hrwc : hasAcc (page b n + 0x20) [.rwc] = false := by rw [hasAcc, hfields]; decide
  rw [State.busWrite_head h hn (by decide) hw hrwc]
  exact if_pos ⟨hc, d.isLt⟩

/-- Settles O19: the commit is issued by the write of PG_COMMIT, and its tick decides. -/
theorem commitIssueFreezesStage : Obligations.CommitIssueFreezesStage := by
  intro d b n a v s hb hc hn ha hacc
  have hp := page_ne_scn hn hb
  have hexec : exec (.commitIssue d a v) s = run s (s.issue d (page b n) v) := by
    show run s (s.busWrite d (pageBase a.toNat + 0x20) v) = _
    rw [ha, State.busWrite_pgCommit hacc hn hc]
  refine ⟨fun eff heff hroom hok => ?_, fun hlate him => ?_⟩
  · rw [State.issue_accepted hp heff hroom hok] at hexec
    refine ⟨_, hexec.trans (run_eq rfl rfl), ⟨_, rfl, List.length_map _⟩, ?_, State.setOutcome_shown _ _ _ _ _, ?_, fun e he => ?_, rfl⟩
    · show ((s.outdated d (page b n) ++ [_]).filter (fun c : Commit => c.door == d.val)).length = _
      rw [List.filter_append, List.length_append, outdated_pending]
      simp
    · rw [State.issued, State.setOutcome_door]
      exact s.emptyStage_stage d hp
    · exact (State.setOutcome_door_ne _ _ _ _ he).trans (s.emptyStage_door_ne _ he)
  · rw [State.issue_late hp hlate him] at hexec
    refine ⟨_, hexec.trans (run_eq rfl rfl), outdated_pending s d _, State.setOutcome_shown _ _ _ _ _, ?_, fun e he => ?_, rfl⟩
    · show ((s.setOutcome d (page b n) 3 _).door d).stage = _
      rw [State.setOutcome_door]
    · exact State.setOutcome_door_ne _ _ _ _ he

end Sys2Proof.Machine
end

section
/-! PROOFS. Doors: coming up and going down, shutters and their release, heartbeats and sleep (chapter 11: R281, R282, R294 to R296;
chapter 12: R319 to R321). -/

namespace Sys2Proof.Machine

/-! ### The state of a door, on its page and in GLB (R281) -/

/-- The fields that a change of a door's state writes. -/
def doorStateFields (d : Nat) : List FieldRef := [Reg.DOR.DOOR_STAT.STATE d, Reg.GLB.DOOR_STATE.STATE, rawBit (page .glb 0) 1]

theorem State.showDoor_eq {s : State} {d v : Nat} (h : s.doorState d ≠ v) :
    s.showDoor d v = ((s.put (Reg.DOR.DOOR_STAT.STATE d) v).put Reg.GLB.DOOR_STATE.STATE
      (s.get Reg.GLB.DOOR_STATE.STATE - s.get Reg.GLB.DOOR_STATE.STATE / 4 ^ d % 4 * 4 ^ d + v * 4 ^ d)).raise (page .glb 0) 1 :=
  if_neg h

theorem State.showDoor_frame (s : State) (d v : Nat) : OnlyFields (doorStateFields d) s (s.showDoor d v) := by
  unfold State.showDoor
  split
  · exact OnlyFields.refl _ _
  · exact (((OnlyFields.refl _ s).andPut (by simp [doorStateFields])).andPut (by simp [doorStateFields])).andRaise
      (by simp [doorStateFields])

theorem State.showDoor_state {s : State} {d v : Nat} (h : s.doorState d ≠ v) (hv : v < 4) : (s.showDoor d v).doorState d = v := by
  rw [State.showDoor_eq h, State.doorState, State.get_raise_ne _ (by simp; omega),
    State.get_put_apart _ _ (by simp [FieldRef.ok]) (by simp [FieldRef.apart]; omega), State.get_put_of_lt _ (by simp [FieldRef.ok])]
  simpa using hv

theorem State.showDoor_raised {s : State} {d v : Nat} (h : s.doorState d ≠ v) : (s.showDoor d v).isRaised (page .glb 0) 1 := by
  rw [State.showDoor_eq h]
  exact State.isRaised_raise _ _ (by decide)

/-- GLB DOOR_STATE shows two bits for each door. -/
theorem State.showDoor_shown {s : State} {d v : Nat} (h : s.doorState d ≠ v) (hd : d < 4) (hv : v < 4) :
    (s.showDoor d v).get Reg.GLB.DOOR_STATE.STATE / 4 ^ d % 4 = v := by
  have hlt : s.get Reg.GLB.DOOR_STATE.STATE < 2 ^ 32 := Nat.lt_of_lt_of_le (State.get_lt s _) (by decide)
  have hpow : 4 ^ d = 2 ^ (2 * d) := by rw [show (4 : Nat) = 2 ^ 2 by rfl, ← pow_mul]
  have hcut : ∀ x : Nat, x % 2 ^ 8 / 2 ^ (2 * d) % 2 ^ 2 = x % 2 ^ 32 / 2 ^ (2 * d) % 2 ^ 2 := by
    intro x
    apply Nat.eq_of_testBit_eq
    intro i
    simp only [Nat.testBit_mod_two_pow, Nat.testBit_div_two_pow]
    by_cases hi : i < 2
    · have h1 : i + 2 * d < 8 := by omega
      have h2 : i + 2 * d < 32 := by omega
      simp [hi, h1, h2]
    · simp [hi]
  generalize hx : s.get Reg.GLB.DOOR_STATE.STATE = x at hlt
  have hget : (s.showDoor d v).get Reg.GLB.DOOR_STATE.STATE =
      (x - x / 2 ^ (2 * d) % 2 ^ 2 * 2 ^ (2 * d) + v * 2 ^ (2 * d)) % 2 ^ 8 := by
    rw [State.showDoor_eq h, State.get_raise_ne _ (by decide), State.get_put_self _ _ (by decide), hpow, hx,
      show (2 : Nat) ^ 2 = 4 by rfl, show Reg.GLB.DOOR_STATE.STATE.hi + 1 - Reg.GLB.DOOR_STATE.STATE.lo = 8 by rfl]
  rw [hget, hpow]
  exact (hcut _).trans (digit_same hlt (by decide) (by omega) hv)

theorem State.showDoor_get (s : State) (d v : Nat) {g : FieldRef} (ok : g.ok) (ha : ∀ f ∈ doorStateFields d, f.apart g) :
    (s.showDoor d v).get g = s.get g := (s.showDoor_frame d v).get ok ha

/-! ### Heartbeats, causes and commands of the page (R294, R296) -/

theorem State.doorCause_up {s : State} {d : Nat} (k : Nat) (h : s.doorState d = 1) :
    s.doorCause d k = s.setDoor d { s.door d with causes := insertNat k (s.door d).causes } := if_pos (.inl h)

theorem State.lastBeat_up {s : State} {d : Nat} (hup : s.doorState d = 1) (hp : s.hbPeriod d ≠ 0) :
    s.lastBeat d = (s.door d).hbAt := if_pos ⟨hup, hp⟩

theorem State.busWrite_ctrl {s : State} {d p : DoorNo} (h : s.accepts d .dor p 0x4C) (v : Word) :
    s.busWrite d (page .dor p + 0x4C) v = s.ctrlWrite p v := State.busWrite_direct h p.isLt (by decide) v

/-- A SHUT of an UP door gives it the cause, and undoes a release of the tick. -/
theorem State.ctrlWrite_shut {s : State} {p : Nat} (hup : s.doorState p = 1) :
    s.ctrlWrite p 1 = (s.setDoor p { s.door p with relAt := none }).setDoor p
      { s.door p with causes := insertNat 4 (s.door p).causes, relAt := none } := by
  have hcause := State.doorCause_up (s := s.setDoor p { s.door p with relAt := none }) (d := p) 4 hup
  rw [State.setDoor_door, if_pos rfl] at hcause
  exact hcause

theorem State.ctrlWrite_release {s : State} {p : Nat} (hshut : s.doorState p = 2) (hfm : (s.door p).byFm = false) :
    s.ctrlWrite p 2 = s.setDoor p { s.door p with relAt := some (s.tick + 1) } := by
  have h : (if s.get (Reg.DOR.DOOR_STAT.STATE p) = 2 then
      (if (s.door p).byFm then s.door p else { s.door p with relAt := some (s.tick + 1) })
      else { s.door p with causes := (s.door p).causes.filter (fun k => k != 4) }) = { s.door p with relAt := some (s.tick + 1) } := by
    rw [if_pos (show s.get (Reg.DOR.DOOR_STAT.STATE p) = 2 from hshut), hfm]
    rfl
  exact congrArg (s.setDoor p) h

theorem OnlyDoor.trans {d : Nat} {s t u : State} (h : OnlyDoor d s t) (k : OnlyDoor d t u) : OnlyDoor d s u :=
  ⟨by rw [k.1, h.1], fun e he => (k.2 e he).trans (h.2 e he)⟩

/-! ### Sources of the interrupt controller, all at once -/

/-- The same change of every source listed, each by itself, made once or more. -/
theorem State.forEach_src {g : State → Nat → State} {f : Src → Src} {n : Nat} (htick : ∀ s k, (g s k).tick = s.tick)
    (hsrc : ∀ s k j, s.tick = n → (g s k).src j = if j = k then f (s.src k) else s.src j) (hidem : ∀ x, f (f x) = f x)
    (l : List Nat) {s : State} (hs : s.tick = n) (k : Nat) :
    (s.forEach l g).src k = if k ∈ l then f (s.src k) else s.src k := by
  induction l generalizing s with
  | nil => rfl
  | cons j l ih =>
    rw [State.forEach_cons, ih ((htick s j).trans hs), hsrc s j k hs]
    by_cases hkj : k = j
    · subst hkj
      by_cases hkl : k ∈ l
      · simp [hkl, hidem]
      · simp [hkl]
    · by_cases hkl : k ∈ l
      · simp [hkj, hkl]
      · simp [hkj, hkl]

theorem State.src_unlisted {s : State} {k : Nat} (h : k ∉ s.irq.srcs.map (fun e => e.1)) : s.src k = srcReset k := by
  rw [State.src, Sparse.get, Sparse.find_none_of_not_mem h]

/-! ### A door leaves UP (R294, R319) -/

/-- A source once door d has left: no message of it is outstanding there, and its claim by the door exits at a boundary. -/
def Src.leftBy (x : Src) (d b : Nat) : Src :=
  { x with out := markDoor x.out d false, claimedSince := markDoor x.claimedSince d false, withdrawn := markDoor x.withdrawn d false,
           exitAt := if x.state = 3 ∧ x.claimer = d then some (x.exitAt.getD b) else x.exitAt }

/-- The step of `irqLeave` at one source. -/
def State.leaveSrc (d : Nat) (s : State) (k : Nat) : State :=
  let x := s.src k
  let y : Src := { x with out := markDoor x.out d false, claimedSince := markDoor x.claimedSince d false,
                          withdrawn := markDoor x.withdrawn d false }
  s.setSrc k (if x.state = 3 ∧ x.claimer = d then { y with exitAt := some (x.exitAt.getD (s.tick + 1)) } else y)

theorem State.leaveSrc_eq (d : Nat) (s : State) (k : Nat) : State.leaveSrc d s k = s.setSrc k ((s.src k).leftBy d (s.tick + 1)) := by
  unfold State.leaveSrc Src.leftBy
  dsimp only
  split <;> rfl

theorem State.irqLeave_eq (s : State) (d : Nat) :
    s.irqLeave d = (s.forEach (s.irq.srcs.map (fun e => e.1)) (State.leaveSrc d)).setDoor d
      { (s.forEach (s.irq.srcs.map (fun e => e.1)) (State.leaveSrc d)).door d with sendq := [] } := rfl

theorem setBit_false_twice (w k : Nat) : setBit (setBit w k false) k false = setBit w k false := by
  have h := hasBit_setBit_false w k
  generalize setBit w k false = x at h ⊢
  rw [setBit, h]
  rfl

theorem Src.leftBy_twice (x : Src) (d b : Nat) : (x.leftBy d b).leftBy d b = x.leftBy d b := by
  unfold Src.leftBy markDoor
  simp only [setBit_false_twice]
  split <;> rfl

theorem Src.leftBy_reset (d b k : Nat) : (srcReset k).leftBy d b = srcReset k := by
  have h0 : markDoor 0 d false = 0 := by
    have hz : hasBit 0 d = false := by simp [hasBit]
    rw [markDoor, setBit, hz]
    rfl
  unfold Src.leftBy srcReset
  split <;> simp only [Src.reset, h0] <;> rfl

theorem State.forEach_leaveSrc_state (d : Nat) (l : List Nat) (s : State) :
    s.forEach l (State.leaveSrc d) = { s with irq := { s.irq with srcs := (s.forEach l (State.leaveSrc d)).irq.srcs } } := by
  induction l generalizing s with
  | nil => rfl
  | cons k l ih =>
    rw [State.forEach_cons, ih]
    rfl

theorem State.irqLeave_src (s : State) (d k : Nat) : (s.irqLeave d).src k = (s.src k).leftBy d (s.tick + 1) := by
  rw [State.irqLeave_eq, State.setDoor_src,
    State.forEach_src (f := fun x => x.leftBy d (s.tick + 1)) (n := s.tick) (fun t j => by rw [State.leaveSrc_eq]; rfl)
      (fun t j i ht => by rw [State.leaveSrc_eq, State.setSrc_src, ht]) (fun x => x.leftBy_twice d _) _ rfl]
  by_cases h : k ∈ s.irq.srcs.map (fun e => e.1)
  · rw [if_pos h]
  · rw [if_neg h, State.src_unlisted h, Src.leftBy_reset]

theorem State.irqLeave_state (s : State) (d : Nat) :
    s.irqLeave d = { s.setDoor d { s.door d with sendq := [] } with irq := { s.irq with srcs := (s.irqLeave d).irq.srcs } } := by
  rw [State.irqLeave_eq, State.forEach_leaveSrc_state]
  rfl

theorem State.irqLeave_door (s : State) (d e : Nat) :
    (s.irqLeave d).door e = if e = d then { s.door d with sendq := [] } else s.door e := by
  rw [State.irqLeave_state]
  exact State.setDoor_door _ _ _ _

/-! ### A door shutters and is released (R294 to R296) -/

/-- An UP door enters SHUTTERED at the boundary about to begin, its registers apart. -/
def State.doorClosed (s : State) (d : Nat) : State :=
  (s.irqLeave d).setDoor d { (s.irqLeave d).door d with
    stage := [], slotStage := [], eptStage := [], overflow := false, causes := [], byFm := false, relAt := none }

/-- The registers that a door's entry into SHUTTERED writes. -/
def doorShutFields (d : Nat) : List FieldRef :=
  [Reg.DOR.DOOR_STAT.STATE d, Reg.DOR.DOOR_STAT.CAUSE d, Reg.DOR.SHUT_TICK_LO.TICK d, Reg.DOR.SHUT_TICK_HI.TICK d,
    Reg.GLB.DOOR_STATE.STATE, rawBit (page .glb 0) 1, rawBit (page .dor d) 1]

/-- CAUSE and SHUT_TICK of a door that enters SHUTTERED. -/
def State.shutShown (s : State) (d c : Nat) : State :=
  (s.put (Reg.DOR.DOOR_STAT.CAUSE d) c).put64 (Reg.DOR.SHUT_TICK_LO.TICK d) (Reg.DOR.SHUT_TICK_HI.TICK d) (s.tick + 1)

theorem State.shutDoor_host {s : State} {d c : Nat} (hc : c ≠ 5) :
    s.shutDoor d c = (((s.doorClosed d).shutShown d c).showDoor d 2).raise (page .dor d) 1 := by
  have hfm : (c == 5) = false := by simpa using hc
  unfold State.shutDoor
  rw [hfm]
  exact if_neg hc

theorem State.shutShown_frame (s : State) (d c : Nat) : OnlyFields (doorShutFields d) s (s.shutShown d c) :=
  (((OnlyFields.refl _ s).andPut (by simp [doorShutFields])).andPut (by simp [doorShutFields])).andPut (by simp [doorShutFields])

theorem doorStateFields_sub_shut (d : Nat) : ∀ f ∈ doorStateFields d, f ∈ doorShutFields d := by
  intro f hf
  simp only [doorStateFields, doorShutFields, List.mem_cons, List.not_mem_nil, or_false] at hf ⊢
  tauto

theorem State.shutDoor_frame {s : State} {d c : Nat} (hc : c ≠ 5) :
    OnlyFields (doorShutFields d) (s.doorClosed d) (s.shutDoor d c) := by
  rw [State.shutDoor_host hc]
  exact (((s.doorClosed d).shutShown_frame d c).trans
    ((((s.doorClosed d).shutShown d c).showDoor_frame d 2).mono (doorStateFields_sub_shut d))).andRaise (by simp [doorShutFields])

theorem State.shutShown_doorState (s : State) (d c : Nat) : (s.shutShown d c).doorState d = s.doorState d := by
  have ok : (Reg.DOR.DOOR_STAT.STATE d).ok := by simp [FieldRef.ok]
  rw [State.shutShown, State.put64, State.doorState, State.get_put_apart _ _ (by simp [FieldRef.ok]) (by simp [FieldRef.apart]),
    State.get_put_apart _ _ (by simp [FieldRef.ok]) (by simp [FieldRef.apart]),
    State.get_put_apart _ _ (by simp [FieldRef.ok]) (by simp [FieldRef.apart]), State.doorState]

theorem State.doorClosed_doorState (s : State) (d : Nat) : (s.doorClosed d).doorState d = s.doorState d := by
  rw [State.doorClosed, s.irqLeave_state]
  rfl

theorem State.shutDoor_get {s : State} {d c : Nat} (hc : c ≠ 5) {g : FieldRef} (ok : g.ok)
    (ha : ∀ f ∈ rawBit (page .dor d) 1 :: doorStateFields d, f.apart g) :
    (s.shutDoor d c).get g = ((s.doorClosed d).shutShown d c).get g := by
  rw [State.shutDoor_host hc, State.get_raise_apart _ ok (ha _ (by simp)),
    State.showDoor_get _ _ _ ok fun f hf => ha f (List.mem_cons_of_mem _ hf)]

theorem State.doorBoundary_shuts {s : State} {d c : Nat} {l : List Nat} (hup : s.doorState d = 1) (hc : (s.door d).causes = c :: l)
    (h5 : 5 ∉ (s.door d).causes) : s.doorBoundary d = s.shutDoor d c := by
  have hrel : s.doorReleaseEffect d = s := if_neg (by rw [hup]; simp)
  have hcode : doorCode (s.door d).causes = c := by
    rw [doorCode, if_neg (by simpa using h5), hc]
    rfl
  rw [State.doorBoundary, hrel]
  unfold State.doorShutterEffect
  rw [hup]
  dsimp only
  rw [hcode, hc]
  rfl

theorem State.doorClosed_door (s : State) (d e : Nat) : (s.doorClosed d).door e =
    if e = d then { s.door d with stage := [], slotStage := [], eptStage := [], overflow := false, causes := [], byFm := false,
                                  relAt := none, sendq := [] } else s.door e := by
  rw [State.doorClosed, State.setDoor_door]
  split
  · rw [State.irqLeave_door, if_pos rfl]
  · next h => rw [State.irqLeave_door, if_neg h]

theorem State.doorClosed_state (s : State) (d : Nat) : s.doorClosed d =
    { s with doors := (s.doorClosed d).doors, irq := { s.irq with srcs := (s.doorClosed d).irq.srcs } } := by
  rw [State.doorClosed, s.irqLeave_state]
  rfl

/-- The registers that a door's release writes. -/
def doorReleaseFields (d : Nat) : List FieldRef :=
  [Reg.DOR.DOOR_STAT.STATE d, Reg.DOR.DOOR_STAT.HB_ARMED d, Reg.DOR.VIOL_CNT.COUNT d, Reg.GLB.DOOR_STATE.STATE,
    rawBit (page .glb 0) 1, rawBit (page .dor d) 2]

/-- What R282 sets on the page of a door that enters UP. -/
def State.upCleared (s : State) (d : Nat) : State := (s.put (Reg.DOR.VIOL_CNT.COUNT d) 0).put (Reg.DOR.DOOR_STAT.HB_ARMED d) 0

/-- The door's release at its boundary: UP with the state of R282. -/
def State.doorReleased (s : State) (d : Nat) : State :=
  ((((s.setDoor d { s.door d with relAt := none }).setDoor d (Door.fresh { s.door d with relAt := none })).upCleared d).showDoor d 1).raise
    (page .dor d) 2

theorem State.doorReleaseEffect_due {s : State} {d r : Nat} (hshut : s.doorState d = 2) (hrel : (s.door d).relAt = some r) :
    s.doorReleaseEffect d = s.doorReleased d := by
  have h : s.doorReleaseEffect d = (((s.onDoor d (fun x => { x with relAt := none })).doorFresh d).showDoor d 1).raise (page .dor d) 2 :=
    if_pos ⟨hshut, by rw [hrel]; rfl⟩
  rw [h, State.doorFresh, State.onDoor_eq, State.onDoor_eq, State.setDoor_door, if_pos rfl]
  rfl

theorem State.upCleared_doorState (s : State) (d : Nat) : (s.upCleared d).doorState d = s.doorState d := by
  rw [State.upCleared, State.doorState, State.get_put_apart _ _ (by simp [FieldRef.ok]) (by simp [FieldRef.apart]),
    State.get_put_apart _ _ (by simp [FieldRef.ok]) (by simp [FieldRef.apart]), State.doorState]

theorem State.doorReleased_frame (s : State) (d : Nat) : OnlyFields (doorReleaseFields d)
    ((s.setDoor d { s.door d with relAt := none }).setDoor d (Door.fresh { s.door d with relAt := none })) (s.doorReleased d) := by
  refine OnlyFields.andRaise ?_ (by simp [doorReleaseFields])
  refine (((OnlyFields.refl _ _).andPut (by simp [doorReleaseFields])).andPut (by simp [doorReleaseFields])).trans
    ((State.showDoor_frame _ d 1).mono fun f hf => ?_)
  simp only [doorStateFields, doorReleaseFields, List.mem_cons, List.not_mem_nil, or_false] at hf ⊢
  tauto

theorem State.doorReleased_get (s : State) {d : Nat} {g : FieldRef} (ok : g.ok)
    (ha : ∀ f ∈ rawBit (page .dor d) 2 :: doorStateFields d, f.apart g) :
    (s.doorReleased d).get g =
      (((s.setDoor d { s.door d with relAt := none }).setDoor d (Door.fresh { s.door d with relAt := none })).upCleared d).get g := by
  rw [State.doorReleased, State.get_raise_apart _ ok (ha _ (by simp)),
    State.showDoor_get _ _ _ ok fun f hf => ha f (List.mem_cons_of_mem _ hf)]

theorem State.doorReleased_door (s : State) (d e : Nat) : (s.doorReleased d).door e =
    if e = d then { s.door d with relAt := none, stage := [], slotStage := [], eptStage := [], overflow := false, upper := 0,
                                  outcome := [], snap := [], sel := [], hbAt := none } else s.door e := by
  rw [(s.doorReleased_frame d).door_eq, State.setDoor_door]
  split
  · rfl
  · next h => rw [State.setDoor_door, if_neg h]

theorem State.doorShutterEffect_none {s : State} {d : Nat} (hup : s.doorState d = 1) (hc : (s.door d).causes = []) :
    s.doorShutterEffect d = s := by
  unfold State.doorShutterEffect
  rw [hup]
  dsimp only
  rw [hc]
  rfl

/-- Settles O24. That an effect at the boundary about to begin shows the number of that tick (SHUT_TICK) is log entry 14. -/
theorem doorShutters : Obligations.DoorShutters := by
  refine ⟨fun d p s hacc hup => ?_, fun d s hup => ?_, fun d w s hup hp hw hle => ?_, fun d p s hacc hshut hfm => ?_,
    fun d c l s hup hc h5 hc8 => ?_, fun d r s hshut hrel hc => ?_⟩
  · have h := (State.busWrite_ctrl hacc 1).trans (State.ctrlWrite_shut hup)
    refine ⟨_, (congrArg (run s) h).trans (run_eq rfl rfl), (OnlyDoor.setDoor _ _ _).trans (OnlyDoor.setDoor _ _ _), ?_⟩
    rw [State.setDoor_door, if_pos rfl]
  · refine ⟨_, (congrArg (run s) (State.doorCause_up 3 hup)).trans (run_eq rfl rfl), OnlyDoor.setDoor _ _ _, ?_⟩
    rw [State.setDoor_door, if_pos rfl]
  · have h : s.hbTimeout d = s.doorCause d 2 := by
      rw [State.hbTimeout, State.lastBeat_up hup hp, hw]
      exact if_pos hle
    refine ⟨_, (congrArg (run s) (h.trans (State.doorCause_up 2 hup))).trans (run_eq rfl rfl), OnlyDoor.setDoor _ _ _, ?_⟩
    rw [State.setDoor_door, if_pos rfl]
  · have h := (State.busWrite_ctrl hacc 2).trans (State.ctrlWrite_release hshut hfm)
    refine ⟨_, (congrArg (run s) h).trans (run_eq rfl rfl), OnlyDoor.setDoor _ _ _, ?_⟩
    rw [State.setDoor_door, if_pos rfl]
  · have hne : c ≠ 5 := fun he => h5 (by rw [hc, he]; exact List.mem_cons_self)
    have hframe := State.shutDoor_frame (s := s) (d := d) hne
    have hstate : s.shutDoor d c =
        { s with regs := (s.shutDoor d c).regs, doors := (s.shutDoor d c).doors,
                 irq := { s.irq with srcs := (s.shutDoor d c).irq.srcs } } := by
      rw [hframe.1, s.doorClosed_state d]
    have hne2 : ((s.doorClosed d).shutShown d c).doorState d ≠ 2 := by
      rw [State.shutShown_doorState, State.doorClosed_doorState, hup]
      decide
    have hkeeps : ∀ {g : FieldRef}, g.ok → (rawBit (page .dor d) 1).apart g →
        (s.shutDoor d c).get g = (((s.doorClosed d).shutShown d c).showDoor d 2).get g := by
      intro g ok ha
      rw [State.shutDoor_host hne, State.get_raise_apart _ ok ha]
    have htick : (s.doorClosed d).tick = s.tick := by rw [s.doorClosed_state d]
    refine ⟨_, (congrArg (run s) (State.doorBoundary_shuts hup hc h5)).trans (run_eq (by rw [hstate]) (by rw [hstate])), ?_, ?_, ?_, ?_,
      ?_, ?_, ?_, hstate, fun e he => ?_, ?_⟩
    · exact (hkeeps (by simp [FieldRef.ok]) (by simp [FieldRef.apart, rawBit]; omega)).trans (State.showDoor_state hne2 (by decide))
    · rw [hkeeps (by decide) (by simp [FieldRef.apart, rawBit]; omega)]
      exact State.showDoor_shown hne2 d.isLt (by decide)
    · rw [State.shutDoor_get hne (by simp [FieldRef.ok]) (by simp [doorStateFields, FieldRef.apart, rawBit]; omega), State.shutShown,
        State.put64, State.get_put_apart _ _ (by simp [FieldRef.ok]) (by simp [FieldRef.apart]),
        State.get_put_apart _ _ (by simp [FieldRef.ok]) (by simp [FieldRef.apart]), State.get_put_of_lt _ (by simp [FieldRef.ok])]
      simpa using hc8
    · rw [State.get64, State.shutDoor_get hne (by simp [FieldRef.ok]) (by simp [doorStateFields, FieldRef.apart, rawBit]; omega),
        State.shutDoor_get hne (by simp [FieldRef.ok]) (by simp [doorStateFields, FieldRef.apart, rawBit]; omega), ← htick]
      exact State.get64_put64 _ (lo := Reg.DOR.SHUT_TICK_LO.TICK d) (hi := Reg.DOR.SHUT_TICK_HI.TICK d) _ ⟨rfl, rfl⟩ ⟨rfl, rfl⟩
        (by simp [FieldRef.apart])
    · exact (hkeeps (by simp [FieldRef.ok, rawBit]) (by simp [FieldRef.apart, rawBit])).trans (State.showDoor_raised hne2)
    · rw [State.shutDoor_host hne]
      exact State.isRaised_raise _ _ (by decide)
    · rw [hframe.door_eq, State.doorClosed_door, if_pos rfl]
    · rw [hframe.door_eq, State.doorClosed_door, if_neg he]
    · exact (FieldsKept.of_regs (by rw [s.doorClosed_state d])).trans hframe.2
  · have hframe := s.doorReleased_frame d
    have hne : (((s.setDoor d { s.door d with relAt := none }).setDoor d (Door.fresh { s.door d with relAt := none })).upCleared d).doorState
        d ≠ 1 := by
      rw [State.upCleared_doorState]
      show s.doorState d ≠ 1
      omega
    have hkeeps : ∀ {g : FieldRef}, g.ok → (rawBit (page .dor d) 2).apart g → (s.doorReleased d).get g =
        ((((s.setDoor d { s.door d with relAt := none }).setDoor d (Door.fresh { s.door d with relAt := none })).upCleared d).showDoor
          d 1).get g := fun ok ha => State.get_raise_apart _ ok ha
    have hup : (s.doorReleased d).doorState d = 1 :=
      (hkeeps (by simp [FieldRef.ok]) (by simp [FieldRef.apart, rawBit])).trans (State.showDoor_state hne (by decide))
    have hbound : s.doorBoundary d = s.doorReleased d := by
      rw [State.doorBoundary, State.doorReleaseEffect_due hshut hrel, State.doorShutterEffect_none hup]
      rw [State.doorReleased_door, if_pos rfl]
      exact hc
    refine ⟨_, (congrArg (run s) hbound).trans (run_eq hframe.tick_eq hframe.pending_eq), hup, ?_, ?_, State.isRaised_raise _ _ (by decide),
      ?_, ?_, ?_, fun e he => ?_, ?_⟩
    · rw [hkeeps (by decide) (by simp [FieldRef.apart, rawBit]; omega)]
      exact State.showDoor_shown hne d.isLt (by decide)
    · exact (hkeeps (by simp [FieldRef.ok, rawBit]) (by simp [FieldRef.apart, rawBit])).trans (State.showDoor_raised hne)
    · rw [State.doorReleased_get _ (by simp [FieldRef.ok]) (by simp [doorStateFields, FieldRef.apart, rawBit]; omega), State.upCleared,
        State.get_put_apart _ _ (by simp [FieldRef.ok]) (by simp [FieldRef.apart]), State.get_put_self _ _ (by simp [FieldRef.ok]),
        Nat.zero_mod]
    · rw [State.doorReleased_door, if_pos rfl]
    · rw [hframe.1]; rfl
    · rw [State.doorReleased_door, if_neg he]
    · exact (FieldsKept.of_regs rfl).trans (hframe.2.mono fun f hf => hf)

/-! ### A door goes DOWN (R281, R319) -/

/-- The registers that a door's way DOWN writes. -/
def doorDownFields (d : Nat) : List FieldRef :=
  [Reg.DOR.LINK_STAT.WIDTH d, Reg.DOR.LINK_STAT.SPEED d, Reg.DOR.DOOR_STAT.HB_ARMED d, Reg.DOR.DOWN_CNT.COUNT d,
    Reg.DOR.DOOR_STAT.STATE d, Reg.GLB.DOOR_STATE.STATE, rawBit (page .glb 0) 1, rawBit (page .dor d) 2]

/-- LINK_STAT of a door that is DOWN, and RELEASED of one that was SHUTTERED. -/
def State.linkGone (s : State) (d : Nat) : State :=
  ((s.put (Reg.DOR.LINK_STAT.WIDTH d) 0).put (Reg.DOR.LINK_STAT.SPEED d) 0).raiseIf (s.doorState d == 2) (page .dor d) 2

/-- A door that leaves its state for DOWN, the registers that show it apart. -/
def Door.downed (x : Door) : Door :=
  { x with heldFault := x.heldFault || x.causes.contains 5, causes := [], byFm := false, relAt := none, hbAt := none,
           sleeping := false, wake := false, msixEn := false }

/-- The door and the interrupt controller once the door has left. -/
def State.doorGone (s : State) (d : Nat) : State :=
  ((s.linkGone d).irqLeave d).setDoor d (((s.linkGone d).irqLeave d).door d).downed

/-- The heartbeat disarmed and the way DOWN counted. -/
def State.downCounted (s : State) (d : Nat) : State := (s.put (Reg.DOR.DOOR_STAT.HB_ARMED d) 0).bump (Reg.DOR.DOWN_CNT.COUNT d)

theorem State.linkShown_doorState (s : State) (d x y : Nat) :
    ((s.put (Reg.DOR.LINK_STAT.WIDTH d) x).put (Reg.DOR.LINK_STAT.SPEED d) y).doorState d = s.doorState d := by
  rw [State.doorState, State.get_put_apart _ _ (by simp [FieldRef.ok]) (by simp [FieldRef.apart]),
    State.get_put_apart _ _ (by simp [FieldRef.ok]) (by simp [FieldRef.apart]), State.doorState]

theorem State.doorDown_eq {s : State} {d : Nat} (h : s.doorState d ≠ 0) :
    s.doorDown d = ((s.doorGone d).downCounted d).showDoor d 0 := by
  unfold State.doorDown
  dsimp only
  rw [State.linkShown_doorState, if_neg h]
  rfl

theorem State.linkGone_frame (s : State) (d : Nat) : OnlyFields (doorDownFields d) s (s.linkGone d) :=
  (((OnlyFields.refl _ s).andPut (by simp [doorDownFields])).andPut (by simp [doorDownFields])).trans
    (OnlyFields.raiseIf _ _ _ _ (by simp [doorDownFields]))

theorem State.doorGone_door (s : State) (d e : Nat) :
    (s.doorGone d).door e = if e = d then { (s.door d).downed with sendq := [] } else s.door e := by
  rw [State.doorGone, State.setDoor_door, State.irqLeave_door, if_pos rfl, (s.linkGone_frame d).door_eq]
  by_cases h : e = d
  · rw [if_pos h, if_pos h]
    rfl
  · rw [if_neg h, if_neg h, State.irqLeave_door, if_neg h, (s.linkGone_frame d).door_eq]

theorem State.doorGone_src (s : State) (d k : Nat) : (s.doorGone d).src k = (s.src k).leftBy d (s.tick + 1) := by
  rw [State.doorGone, State.setDoor_src, State.irqLeave_src, (s.linkGone_frame d).src_eq, (s.linkGone_frame d).tick_eq]

theorem State.doorGone_state (s : State) (d : Nat) : s.doorGone d =
    { s with regs := (s.doorGone d).regs, doors := (s.doorGone d).doors, irq := { s.irq with srcs := (s.doorGone d).irq.srcs } } := by
  rw [State.doorGone, State.irqLeave_state, (s.linkGone_frame d).1]
  rfl

theorem State.doorGone_regs (s : State) (d : Nat) : (s.doorGone d).regs = (s.linkGone d).regs := by
  rw [State.doorGone, State.irqLeave_state]
  rfl

theorem State.doorDown_tail (s : State) (d : Nat) : OnlyFields (doorDownFields d) s ((s.downCounted d).showDoor d 0) := by
  refine (((OnlyFields.refl _ s).andPut (by simp [doorDownFields])).andBump (by simp [doorDownFields])).trans
    ((State.showDoor_frame _ d 0).mono fun f hf => ?_)
  simp only [doorStateFields, doorDownFields, List.mem_cons, List.not_mem_nil, or_false] at hf ⊢
  tauto

theorem State.downCounted_doorState (s : State) (d : Nat) : (s.downCounted d).doorState d = s.doorState d := by
  rw [State.downCounted, State.doorState, State.get_bump_apart _ _ (by simp [FieldRef.ok]) (by simp [FieldRef.apart]),
    State.get_put_apart _ _ (by simp [FieldRef.ok]) (by simp [FieldRef.apart]), State.doorState]

theorem State.linkGone_get (s : State) (d : Nat) {g : FieldRef} (ok : g.ok) (hw : (Reg.DOR.LINK_STAT.WIDTH d).apart g)
    (hs : (Reg.DOR.LINK_STAT.SPEED d).apart g) (hr : g.addr ≠ page .dor d + 0x10) : (s.linkGone d).get g = s.get g := by
  have h := (OnlyFields.raiseIf (fs := [rawBit (page .dor d) 2])
    ((s.put (Reg.DOR.LINK_STAT.WIDTH d) 0).put (Reg.DOR.LINK_STAT.SPEED d) 0) (s.doorState d == 2) (page .dor d) 2 (by simp)).get ok
    (by simp only [List.mem_singleton, forall_eq]; exact .inl (Ne.symm hr))
  rw [State.linkGone, h, State.get_put_apart _ _ (by simp [FieldRef.ok]) hs, State.get_put_apart _ _ (by simp [FieldRef.ok]) hw]

theorem State.doorGone_doorState (s : State) (d : Nat) : (s.doorGone d).doorState d = s.doorState d := by
  rw [State.doorState, State.get_of_regs (s.doorGone_regs d), s.linkGone_get d (by simp [FieldRef.ok]) (by simp [FieldRef.apart])
    (by simp [FieldRef.apart]) (by simp; omega), State.doorState]

theorem downCnt_top (d : Nat) : (Reg.DOR.DOWN_CNT.COUNT d).top = 2 ^ 32 - 1 := by simp [FieldRef.top]

/-- The four ways DOWN are one. -/
theorem exec_doorDown {i : Instr} {d : DoorNo} (s : State)
    (h : i = .doorPerst d ∨ i = .doorFlr d ∨ i = .doorHotReset d ∨ i = .doorLinkLoss d) : exec i s = run s (s.doorDown d) := by
  rcases h with rfl | rfl | rfl | rfl <;> rfl

/-- Settles O23. That the four ways DOWN act alike, and when each comes, is an operand of the command (log entry 68). -/
theorem doorGoesDown : Obligations.DoorGoesDown := by
  intro i d s hi hne
  have hdown := State.doorDown_eq hne
  have hframe := (s.doorGone d).doorDown_tail d
  rw [← hdown] at hframe
  have hst : ((s.doorGone d).downCounted d).doorState d ≠ 0 := by
    rw [State.downCounted_doorState, State.doorGone_doorState]
    exact hne
  have hstate : s.doorDown d =
      { s with regs := (s.doorDown d).regs, doors := (s.doorDown d).doors,
               irq := { s.irq with srcs := (s.doorDown d).irq.srcs } } := by
    rw [hframe.1, s.doorGone_state d]
  have hcounted : ∀ {g : FieldRef}, g.ok → (∀ f ∈ doorStateFields d, f.apart g) →
      (s.doorDown d).get g = ((s.doorGone d).downCounted d).get g := by
    intro g ok ha
    rw [hdown, State.showDoor_get _ _ _ ok ha]
  have hlink : ∀ {g : FieldRef}, g.ok → (∀ f ∈ doorStateFields d, f.apart g) → (Reg.DOR.DOOR_STAT.HB_ARMED d).apart g →
      (Reg.DOR.DOWN_CNT.COUNT d).apart g → (s.doorDown d).get g = (s.linkGone d).get g := by
    intro g ok ha hhb hdc
    rw [hcounted ok ha, State.downCounted, State.get_bump_apart _ _ (by simp [FieldRef.ok]) hdc,
      State.get_put_apart _ _ (by simp [FieldRef.ok]) hhb, State.get_of_regs (s.doorGone_regs d)]
  have hshown : ∀ {g : FieldRef}, g.ok → g.addr ≠ page .dor d + 0x10 →
      (s.linkGone d).get g = ((s.put (Reg.DOR.LINK_STAT.WIDTH d) 0).put (Reg.DOR.LINK_STAT.SPEED d) 0).get g := fun ok hr =>
    (OnlyFields.raiseIf (fs := [rawBit (page .dor d) 2]) _ (s.doorState d == 2) (page .dor d) 2 (by simp)).get ok
      (by simp only [List.mem_singleton, forall_eq]; exact .inl (Ne.symm hr))
  refine ⟨_, (exec_doorDown s hi).trans (run_eq (by rw [hstate]) (by rw [hstate])), ?_, ?_, ?_, ?_, fun h2 => ?_, ?_, ?_, ?_, ?_,
    fun k => ?_, hstate, fun e he => ?_, ?_⟩
  · rw [hdown]
    exact State.showDoor_state hst (by decide)
  · rw [hdown]
    exact State.showDoor_shown hst d.isLt (by decide)
  · rw [hdown]
    exact State.showDoor_raised hst
  · rw [hcounted (by simp [FieldRef.ok]) (by simp [doorStateFields, FieldRef.apart, rawBit]; omega), State.downCounted,
      State.get_bump_self _ (by simp [FieldRef.ok]), downCnt_top,
      State.get_put_apart _ _ (by simp [FieldRef.ok]) (by simp [FieldRef.apart]), State.get_of_regs (s.doorGone_regs d),
      s.linkGone_get d (by simp [FieldRef.ok]) (by simp [FieldRef.apart]) (by simp [FieldRef.apart]) (by simp; omega)]
  · have hraised : (s.linkGone d).isRaised (page .dor d) 2 := by
      rw [State.linkGone, h2]
      exact State.isRaised_raise _ _ (by decide)
    exact (hlink (by simp [FieldRef.ok, rawBit]) (by simp [doorStateFields, FieldRef.apart, rawBit]; omega)
      (by simp [FieldRef.apart, rawBit]) (by simp [FieldRef.apart, rawBit]; omega)).trans hraised
  · rw [hlink (by simp [FieldRef.ok]) (by simp [doorStateFields, FieldRef.apart, rawBit]; omega) (by simp [FieldRef.apart])
      (by simp [FieldRef.apart]), hshown (by simp [FieldRef.ok]) (by simp; omega),
      State.get_put_apart _ _ (by simp [FieldRef.ok]) (by simp [FieldRef.apart]), State.get_put_self _ _ (by simp [FieldRef.ok]),
      Nat.zero_mod]
  · rw [hlink (by simp [FieldRef.ok]) (by simp [doorStateFields, FieldRef.apart, rawBit]; omega) (by simp [FieldRef.apart])
      (by simp [FieldRef.apart]), hshown (by simp [FieldRef.ok]) (by simp; omega), State.get_put_self _ _ (by simp [FieldRef.ok]),
      Nat.zero_mod]
  · rw [hcounted (by simp [FieldRef.ok]) (by simp [doorStateFields, FieldRef.apart, rawBit]), State.downCounted,
      State.get_bump_apart _ _ (by simp [FieldRef.ok]) (by simp [FieldRef.apart]), State.get_put_self _ _ (by simp [FieldRef.ok]),
      Nat.zero_mod]
  · rw [hframe.door_eq, State.doorGone_door, if_pos rfl]
    rfl
  · rw [hframe.src_eq, State.doorGone_src]
    exact ⟨rfl, rfl, hasBit_setBit_false _ _, fun h3 hc => if_pos ⟨h3, hc⟩, fun h3 => if_neg fun h => h3 h.1⟩
  · rw [hframe.door_eq, State.doorGone_door, if_neg he]
  · exact ((s.linkGone_frame d).2.andSame (s.doorGone_regs d)).trans hframe.2

/-! ### Heartbeats and sleep (R294, R320) -/

/-- A source DUE at once to a door, besides those that it is due to. -/
def Src.dueNow (x : Src) (d n : Nat) : Src :=
  { x with
    due := x.due ||| 2 ^ d,
    dueAt := (List.range 4).map (fun e => if hasBit (2 ^ d) e && !hasBit x.due e then n else x.dueAt.getD e 0) }

/-- A source once door d sleeps: a HELD one that has the door as a target is DUE to it. -/
def Src.sleptBy (x : Src) (d n : Nat) : Src := if x.state = 1 ∧ hasBit x.targets d = true then x.dueNow d n else x

/-- The step of `irqSleep` at one source. -/
def State.sleepStep (d : Nat) (s : State) (k : Nat) : State :=
  let x := s.src k
  if x.state = 1 ∧ hasBit x.targets d then s.markDue k (2 ^ d) else s

theorem State.sleepStep_src (d : Nat) (s : State) (k j : Nat) :
    (State.sleepStep d s k).src j = if j = k then (s.src k).sleptBy d s.tick else s.src j := by
  unfold State.sleepStep Src.sleptBy
  dsimp only
  by_cases h : (s.src k).state = 1 ∧ hasBit (s.src k).targets d = true
  · rw [if_pos h, if_pos h]
    exact State.setSrc_src _ _ _ _
  · rw [if_neg h, if_neg h]
    by_cases hj : j = k
    · rw [if_pos hj, hj]
    · rw [if_neg hj]

theorem State.sleepStep_state (d : Nat) (s : State) (k : Nat) :
    State.sleepStep d s k = { s with irq := { s.irq with srcs := (State.sleepStep d s k).irq.srcs } } := by
  unfold State.sleepStep
  dsimp only
  split <;> rfl

theorem hasBit_or_pow (w d : Nat) : hasBit (w ||| 2 ^ d) d = true := by
  rw [hasBit_testBit, Nat.testBit_or, Nat.testBit_two_pow_self, Bool.or_true]

theorem Src.dueNow_twice (x : Src) (d n : Nat) : (x.dueNow d n).dueNow d n = x.dueNow d n := by
  have hbit : ∀ e, (hasBit (2 ^ d) e && !hasBit (x.due ||| 2 ^ d) e) = false := by
    intro e
    rw [hasBit_testBit, hasBit_testBit, Nat.testBit_or]
    cases (2 ^ d).testBit e <;> simp
  have hor : x.due ||| 2 ^ d ||| 2 ^ d = x.due ||| 2 ^ d := by rw [Nat.or_assoc, Nat.or_self]
  unfold Src.dueNow
  simp only [hbit, hor]
  rfl

theorem Src.sleptBy_twice (x : Src) (d n : Nat) : (x.sleptBy d n).sleptBy d n = x.sleptBy d n := by
  by_cases h : x.state = 1 ∧ hasBit x.targets d = true
  · have hx : x.sleptBy d n = x.dueNow d n := if_pos h
    rw [hx]
    exact (if_pos h).trans (x.dueNow_twice d n)
  · have hx : x.sleptBy d n = x := if_neg h
    rw [hx, hx]

/-- The state once every source is judged for a door that goes to sleep. -/
def State.slept (s : State) (d : Nat) : State :=
  (s.setDoor d { s.door d with sleeping := true }).forEach (s.irq.srcs.map (fun e => e.1)) (State.sleepStep d)

theorem State.forEach_sleepStep_state (d : Nat) (l : List Nat) (s : State) :
    s.forEach l (State.sleepStep d) = { s with irq := { s.irq with srcs := (s.forEach l (State.sleepStep d)).irq.srcs } } := by
  induction l generalizing s with
  | nil => rfl
  | cons k l ih => rw [State.forEach_cons, ih, State.sleepStep_state]

theorem State.slept_state (s : State) (d : Nat) : s.slept d =
    { s.setDoor d { s.door d with sleeping := true } with irq := { s.irq with srcs := (s.slept d).irq.srcs } } :=
  State.forEach_sleepStep_state _ _ _

theorem State.slept_src (s : State) (d k : Nat) : (s.slept d).src k =
    if k ∈ s.irq.srcs.map (fun e => e.1) then (s.src k).sleptBy d s.tick else s.src k :=
  State.forEach_src (g := State.sleepStep d) (f := fun x => x.sleptBy d s.tick) (n := s.tick)
    (fun t j => by rw [State.sleepStep_state]) (fun t j i ht => by rw [State.sleepStep_src, ht]) (fun x => x.sleptBy_twice d _) _
    (s := s.setDoor d { s.door d with sleeping := true }) rfl k

theorem State.slept_door (s : State) (d e : Nat) :
    (s.slept d).door e = if e = d then { s.door d with sleeping := true } else s.door e := by
  rw [s.slept_state]
  exact State.setDoor_door _ _ _ _

/-- WAKE# of a door that sleeps. -/
theorem State.wakeCheck_sleeping {s : State} {d : Nat} (h : (s.door d).sleeping = true) : s.wakeCheck d =
    if s.dueTo d = [] then s else s.setDoor d { s.door d with pmeStat := true, wake := (s.door d).pmeEn } := by
  unfold State.wakeCheck
  dsimp only
  rw [h]
  cases s.dueTo d <;> rfl

theorem State.blockWrite_heartbeat (s : State) (d : Nat) (v : Word) : s.blockWrite d .dor d 0x50 v = s.beat d := by
  simp [State.blockWrite]

theorem State.beat_frame (s : State) (d : Nat) :
    OnlyFields [Reg.DOR.DOOR_STAT.HB_ARMED d] (s.setDoor d { s.door d with hbAt := some s.tick }) (s.beat d) :=
  (OnlyFields.refl _ _).andPut

theorem State.beat_state (s : State) (d : Nat) : s.beat d = { s with regs := (s.beat d).regs, doors := (s.beat d).doors } := by
  obtain ⟨h, -⟩ := s.beat_frame d
  generalize s.beat d = t at h ⊢
  rw [h]
  rfl

theorem State.beat_armed (s : State) (d : Nat) : (s.beat d).get (Reg.DOR.DOOR_STAT.HB_ARMED d) = 1 := by
  rw [State.beat, State.get_put_self _ _ (by simp [FieldRef.ok])]
  simp

/-- Settles O25: the timer is armed on the door's own page, and a door asleep is woken by what is due to it. -/
theorem heartbeatAndSleep : Obligations.HeartbeatAndSleep := by
  refine ⟨fun d s hacc => ?_, fun d w s hup hp hw ht => ?_, fun d s hne => ?_, fun d s => ?_⟩
  · have hwrite : s.busWrite d (page .dor d + 0x50) 0 = s.beat d := by
      rw [State.busWrite_direct hacc d.isLt (by decide), State.blockWrite_heartbeat]
    have hframe := State.beat_frame s d
    have hstate := State.beat_state s d
    refine ⟨s.beat d, (congrArg (run s) hwrite).trans (run_eq (by rw [hstate]) (by rw [hstate])), ?_, State.beat_armed s d, hstate,
      fun e he => ?_, (FieldsKept.of_regs rfl).trans hframe.2⟩
    · rw [hframe.door_eq, State.setDoor_door, if_pos rfl]
    · rw [hframe.door_eq, State.setDoor_door, if_neg he]
  · have hwarn : s.hbWarn d = s.raise (page .dor d) 3 := by
      rw [State.hbWarn, State.lastBeat_up hup hp, hw]
      exact if_pos (by simpa using ht)
    have hframe : OnlyFields [rawBit (page .dor d) 3] s (s.raise (page .dor d) 3) := (OnlyFields.refl _ s).andRaise
    exact ⟨_, (congrArg (run s) hwarn).trans hframe.run_eq, State.isRaised_raise _ _ (by decide), hframe⟩
  · have hwhen : (s.when (s.doorState d != 0) fun s => s.irqSleep d) = (s.slept d).wakeCheck d := by
      rw [show (s.doorState d != 0) = true by simpa using hne]
      rfl
    have hsleeping : ((s.slept d).door d).sleeping = true := by rw [State.slept_door, if_pos rfl]
    have hdoors := (s.slept d).wakeCheck_doors d
    have hsrc : ∀ k, ((s.slept d).wakeCheck d).src k = (s.slept d).src k := by
      intro k
      rw [hdoors]
      rfl
    have hdue : ((s.slept d).wakeCheck d).dueTo d = (s.slept d).dueTo d := by
      rw [hdoors]
      rfl
    have hstate : (s.slept d).wakeCheck d =
        { s with doors := ((s.slept d).wakeCheck d).doors, irq := { s.irq with srcs := ((s.slept d).wakeCheck d).irq.srcs } } := by
      rw [hdoors, s.slept_state d]
      rfl
    have hwake := State.wakeCheck_sleeping hsleeping
    refine ⟨_, (congrArg (run s) hwhen).trans (run_eq (by rw [hstate]) (by rw [hstate])), ?_, fun e he h1 htgt => ?_, fun k hk => ?_, ?_,
      fun hd => ?_, hstate, fun e he => ?_⟩
    · rw [hwake]
      split
      · exact hsleeping
      · rw [State.setDoor_door, if_pos rfl]
        exact hsleeping
    · have hmem : e.1 ∈ s.irq.srcs.map (fun e => e.1) := List.mem_map.2 ⟨e, he, rfl⟩
      rw [hsrc, State.slept_src, if_pos hmem, Src.sleptBy, if_pos ⟨h1, htgt⟩]
      exact hasBit_or_pow _ _
    · have hidle : (s.src k).sleptBy d s.tick = s.src k := if_neg (by
        rintro ⟨h1, h2⟩
        rcases hk with hk | hk
        · exact hk h1
        · rw [hk] at h2; cases h2)
      rw [hsrc, State.slept_src, hidle, ite_self]
    · rw [hwake]
      split
      · rw [State.slept_door, if_pos rfl]
      · rw [State.setDoor_door, if_pos rfl, State.slept_door, if_pos rfl]
    · rw [hdue] at hd
      rw [hwake, if_neg hd, State.setDoor_door, if_pos rfl, State.slept_door, if_pos rfl]
      exact ⟨rfl, rfl⟩
    · rw [hwake]
      split
      · rw [State.slept_door, if_neg he]
      · rw [State.setDoor_door, if_neg he, State.slept_door, if_neg he]
  · exact ⟨_, run_eq rfl rfl, OnlyDoor.setDoor _ _ _, (State.setDoor_door _ _ _ _).trans (if_pos rfl)⟩

/-! ### A link comes up (R281, R282) -/

/-- The registers that a link's coming up writes beside the door's IRQD page. -/
def linkUpFields (d : Nat) : List FieldRef :=
  [Reg.DOR.LINK_STAT.WIDTH d, Reg.DOR.LINK_STAT.SPEED d, Reg.DOR.VIOL_CNT.COUNT d, Reg.DOR.DOOR_STAT.HB_ARMED d,
    Reg.DOR.DOOR_STAT.STATE d, Reg.GLB.DOOR_STATE.STATE, rawBit (page .glb 0) 1]

/-- A door with what the configuration space holds once its link is up. -/
def Door.linked (x : Door) (cfg : LinkUp) : Door :=
  { x with msixEn := cfg.msixEn, fmask := cfg.fmask, pmeEn := cfg.pmeEn, pmeStat := false }

/-- A door whose link is up, renewed and fresh, the registers that R282 and Table 11-13 set apart. -/
def State.doorLinked (s : State) (d : Nat) (cfg : LinkUp) : State :=
  ((s.setDoor d ((s.door d).linked cfg)).doorRenew d).onDoor d Door.fresh

/-- LINK_STAT of the door. -/
def State.linkShown (s : State) (d : Nat) (cfg : LinkUp) : State :=
  (s.put (Reg.DOR.LINK_STAT.WIDTH d) cfg.width).put (Reg.DOR.LINK_STAT.SPEED d) cfg.speed

theorem State.doorLinkUp_held {s : State} {d : Nat} (cfg : LinkUp) (hst : s.doorState d = 0) (hon : s.clockOn = true)
    (hh : (s.door d).heldFault = true) : s.doorLinkUp d cfg =
      (s.setDoor d ((s.door d).linked cfg)).setDoor d { (s.door d).linked cfg with upCfg := some cfg } := by
  have hd : (s.setDoor d ((s.door d).linked cfg)).door d = (s.door d).linked cfg := by rw [State.setDoor_door, if_pos rfl]
  have h : (if ((s.setDoor d ((s.door d).linked cfg)).door d).heldFault then
      (s.setDoor d ((s.door d).linked cfg)).setDoor d { (s.setDoor d ((s.door d).linked cfg)).door d with upCfg := some cfg }
      else ((((s.setDoor d ((s.door d).linked cfg)).doorRenew d).doorFresh d).showLink d cfg).showDoor d 1) =
      (s.setDoor d ((s.door d).linked cfg)).setDoor d { (s.door d).linked cfg with upCfg := some cfg } := by
    rw [hd, if_pos (show ((s.door d).linked cfg).heldFault = true from hh)]
  rw [← h]
  exact if_neg (by simp [hst, hon])

theorem State.doorLinkUp_up {s : State} {d : Nat} (cfg : LinkUp) (hst : s.doorState d = 0) (hon : s.clockOn = true)
    (hh : (s.door d).heldFault = false) :
    s.doorLinkUp d cfg = ((((s.doorLinked d cfg).upCleared d).linkShown d cfg).showDoor d 1) := by
  have hd : ((s.setDoor d ((s.door d).linked cfg)).door d).heldFault = false := by rw [State.setDoor_door, if_pos rfl]; exact hh
  have h : (if ((s.setDoor d ((s.door d).linked cfg)).door d).heldFault then
      (s.setDoor d ((s.door d).linked cfg)).onDoor d (fun x => { x with upCfg := some cfg })
      else ((((s.setDoor d ((s.door d).linked cfg)).doorRenew d).doorFresh d).showLink d cfg).showDoor d 1) =
      ((((s.doorLinked d cfg).upCleared d).linkShown d cfg).showDoor d 1) := by
    rw [hd]
    rfl
  rw [← h]
  exact if_neg (by simp [hst, hon])

theorem State.linkUp_frame (s : State) (d : Nat) (cfg : LinkUp) :
    OnlyFields (linkUpFields d) s (((s.upCleared d).linkShown d cfg).showDoor d 1) := by
  refine (((((OnlyFields.refl _ s).andPut (by simp [linkUpFields])).andPut (by simp [linkUpFields])).andPut
    (by simp [linkUpFields])).andPut (by simp [linkUpFields])).trans ((State.showDoor_frame _ d 1).mono fun f hf => ?_)
  simp only [doorStateFields, linkUpFields, List.mem_cons, List.not_mem_nil, or_false] at hf ⊢
  tauto

/-! What the renewal of a door leaves (R319, R321) -/

theorem State.doorRenew_restored {s : State} {d : Nat} (h : (s.door d).restored = true) :
    s.doorRenew d = s.setDoor d { s.door d with restored := false } := if_pos h

theorem State.doorRenew_new {s : State} {d : Nat} (h : (s.door d).restored = false) : s.doorRenew d = s.irqdReset d := by
  rw [State.doorRenew, h]
  rfl

theorem Sparse.find_filter {α : Type} (p : Nat → Bool) (m : Sparse α) (k : Nat) :
    Sparse.find (m.filter (fun e => p e.1)) k = if p k then m.find k else none := by
  induction m with
  | nil => simp [Sparse.find]
  | cons e m ih =>
    obtain ⟨j, v⟩ := e
    by_cases hp : p j = true
    · rw [List.filter_cons_of_pos (p := fun e : Nat × α => p e.1) hp]
      by_cases hj : j = k
      · subst hj; simp [Sparse.find, hp]
      · simp only [Sparse.find, hj, if_false]; exact ih
    · rw [List.filter_cons_of_neg (p := fun e : Nat × α => p e.1) hp, ih]
      by_cases hj : j = k
      · subst hj; simp [hp]
      · simp [Sparse.find, hj]

/-- The registers of the door's IRQD page are at their reset values, the others as they were. -/
theorem State.irqdReset_reg (s : State) (d a : Nat) :
    (s.irqdReset d).reg a = if page .irqd d ≤ a ∧ a < page .irqd d + 0x1000 then regReset a else s.reg a := by
  have hregs : (s.irqdReset d).regs = s.regs.filter (fun e => !decide (page .irqd d ≤ e.1 ∧ e.1 < page .irqd d + 0x1000)) := rfl
  rw [State.reg, hregs, Sparse.get, Sparse.find_filter (fun k => !decide (page .irqd d ≤ k ∧ k < page .irqd d + 0x1000))]
  by_cases h : page .irqd d ≤ a ∧ a < page .irqd d + 0x1000
  · rw [if_pos h, if_neg (by rw [decide_eq_true h]; decide)]
  · rw [if_neg h, if_pos (by rw [decide_eq_false h]; decide)]
    rfl

theorem State.irqdReset_door (s : State) (d e : Nat) :
    (s.irqdReset d).door e = if e = d then { s.door d with msix := [], ringJunk := false } else s.door e :=
  State.setDoor_door _ _ _ _

theorem State.doorLinked_door (s : State) (d e : Nat) (cfg : LinkUp) : (s.doorLinked d cfg).door e =
    if e = d then
      { s.door d with
        stage := [], slotStage := [], eptStage := [], overflow := false, upper := 0, outcome := [], snap := [], sel := [],
        hbAt := none, msixEn := cfg.msixEn, fmask := cfg.fmask, pmeEn := cfg.pmeEn, pmeStat := false, restored := false,
        msix := if (s.door d).restored then (s.door d).msix else [],
        ringJunk := if (s.door d).restored then (s.door d).ringJunk else false }
    else s.door e := by
  have hres : ((s.setDoor d ((s.door d).linked cfg)).door d).restored = (s.door d).restored := by
    rw [State.setDoor_door, if_pos rfl]
    rfl
  rw [State.doorLinked]
  cases hr : (s.door d).restored with
  | true =>
    rw [State.doorRenew_restored (hres.trans hr)]
    by_cases h : e = d <;> simp [h, Door.linked, Door.fresh]
  | false =>
    rw [State.doorRenew_new (hres.trans hr)]
    by_cases h : e = d <;> simp [h, State.irqdReset_door, Door.linked, Door.fresh, hr]

theorem State.doorLinked_regs (s : State) (d : Nat) (cfg : LinkUp) :
    (s.doorLinked d cfg).regs = if (s.door d).restored then s.regs else (s.irqdReset d).regs := by
  have hres : ((s.setDoor d ((s.door d).linked cfg)).door d).restored = (s.door d).restored := by
    rw [State.setDoor_door, if_pos rfl]
    rfl
  rw [State.doorLinked]
  cases hr : (s.door d).restored with
  | true =>
    rw [State.doorRenew_restored (hres.trans hr)]
    rfl
  | false =>
    rw [State.doorRenew_new (hres.trans hr)]
    rfl

theorem State.doorLinked_state (s : State) (d : Nat) (cfg : LinkUp) :
    s.doorLinked d cfg = { s with regs := (s.doorLinked d cfg).regs, doors := (s.doorLinked d cfg).doors } := by
  unfold State.doorLinked State.doorRenew
  split <;> rfl

/-- Beside the IRQD page of the door every register is as it was. -/
theorem State.doorLinked_reg {s : State} {d a : Nat} (cfg : LinkUp) (h : ¬ (page .irqd d ≤ a ∧ a < page .irqd d + 0x1000)) :
    (s.doorLinked d cfg).reg a = s.reg a := by
  rw [State.reg, s.doorLinked_regs d cfg]
  split
  · rfl
  · have := s.irqdReset_reg d a
    rw [if_neg h] at this
    exact this

theorem State.doorLinked_get {s : State} {d : Nat} (cfg : LinkUp) {g : FieldRef}
    (h : ¬ (page .irqd d ≤ g.addr ∧ g.addr < page .irqd d + 0x1000)) : (s.doorLinked d cfg).get g = s.get g := by
  rw [State.get, State.doorLinked_reg cfg h, State.get]

theorem pageBase_irqd {d a : Nat} (h : page .irqd d ≤ a ∧ a < page .irqd d + 0x1000) : pageBase a = page .irqd d := by
  obtain ⟨h1, h2⟩ := h
  simp only [page, Block.base, pageBase] at h1 h2 ⊢
  omega

/-- No register that a link's coming up writes lies on an IRQD page. -/
theorem linkUpFields_apart {d a : Nat} (hd : d < 4) (h : page .irqd d ≤ a ∧ a < page .irqd d + 0x1000) :
    ∀ f ∈ linkUpFields d, f.addr ≠ a := by
  obtain ⟨h1, h2⟩ := h
  simp only [page, Block.base] at h1 h2
  simp only [linkUpFields, List.mem_cons, List.not_mem_nil, or_false, forall_eq_or_imp, forall_eq, rawBit, page, Block.base]
  refine ⟨?_, ?_, ?_, ?_, ?_, ?_, ?_⟩ <;> simp <;> omega

theorem State.linkShown_get (s : State) (d : Nat) (cfg : LinkUp) {g : FieldRef} (hw : (Reg.DOR.LINK_STAT.WIDTH d).apart g)
    (hs : (Reg.DOR.LINK_STAT.SPEED d).apart g) : (s.linkShown d cfg).get g = s.get g := by
  rw [State.linkShown, State.get_put_apart _ _ (by simp [FieldRef.ok]) hs, State.get_put_apart _ _ (by simp [FieldRef.ok]) hw]

/-- Settles O22. What comes in the configuration space with the link is an operand of the command (log entries 68, 69). -/
theorem doorComesUpFresh : Obligations.DoorComesUpFresh := by
  refine ⟨fun d cfg s hst hon hh => ?_, fun d cfg s hst hon hh => ?_⟩
  · refine ⟨_, (congrArg (run s) (State.doorLinkUp_held cfg hst hon hh)).trans (run_eq rfl rfl),
      (OnlyDoor.setDoor _ _ _).trans (OnlyDoor.setDoor _ _ _), ?_⟩
    rw [State.setDoor_door, if_pos rfl]
    rfl
  · have hup := State.doorLinkUp_up cfg hst hon hh
    have hframe := (s.doorLinked d cfg).linkUp_frame d cfg
    rw [← hup] at hframe
    have hdoorState : (((s.doorLinked d cfg).upCleared d).linkShown d cfg).doorState d = 0 := by
      rw [State.doorState, State.linkShown_get _ _ _ (by simp [FieldRef.apart]) (by simp [FieldRef.apart]), ← State.doorState,
        State.upCleared_doorState, State.doorState, State.doorLinked_get _ (by simp; omega), ← State.doorState, hst]
    have hne : (((s.doorLinked d cfg).upCleared d).linkShown d cfg).doorState d ≠ 1 := by omega
    have hstate : s.doorLinkUp d cfg =
        { s with regs := (s.doorLinkUp d cfg).regs, doors := (s.doorLinkUp d cfg).doors } := by
      obtain ⟨h, -⟩ := hframe
      generalize s.doorLinkUp d cfg = t at h ⊢
      rw [h, s.doorLinked_state d cfg]
    have hshown : ∀ {g : FieldRef}, g.ok → (∀ f ∈ doorStateFields d, f.apart g) →
        (s.doorLinkUp d cfg).get g = (((s.doorLinked d cfg).upCleared d).linkShown d cfg).get g := by
      intro g ok ha
      rw [hup, State.showDoor_get _ _ _ ok ha]
    have hdoor := (hframe.door_eq d).trans ((s.doorLinked_door d d cfg).trans (if_pos rfl))
    refine ⟨_, run_eq (by rw [hstate]) (by rw [hstate]), ?_, ?_, ?_, ?_, ?_, ?_, ?_, ?_, fun hr => ⟨?_, ?_, fun a h1 h2 => ?_⟩,
      fun hr => ⟨?_, ?_, fun a h1 h2 => ?_⟩, hstate, fun e he => ?_, ?_⟩
    · rw [hup]
      exact State.showDoor_state hne (by decide)
    · rw [hup]
      exact State.showDoor_shown hne d.isLt (by decide)
    · rw [hup]
      exact State.showDoor_raised hne
    · have hw : cfg.width.val < 2 ^ 4 := Nat.lt_trans cfg.width.isLt (by decide)
      rw [hshown (by simp [FieldRef.ok]) (by simp [doorStateFields, FieldRef.apart, rawBit]; omega), State.linkShown,
        State.get_put_apart _ _ (by simp [FieldRef.ok]) (by simp [FieldRef.apart]), State.get_put_of_lt _ (by simp [FieldRef.ok])]
      simpa using hw
    · have hw : cfg.speed.val < 2 ^ 4 := Nat.lt_trans cfg.speed.isLt (by decide)
      rw [hshown (by simp [FieldRef.ok]) (by simp [doorStateFields, FieldRef.apart, rawBit]; omega), State.linkShown,
        State.get_put_of_lt _ (by simp [FieldRef.ok])]
      simpa using hw
    · rw [hshown (by simp [FieldRef.ok]) (by simp [doorStateFields, FieldRef.apart, rawBit]; omega),
        State.linkShown_get _ _ _ (by simp [FieldRef.apart]) (by simp [FieldRef.apart]), State.upCleared,
        State.get_put_apart _ _ (by simp [FieldRef.ok]) (by simp [FieldRef.apart]), State.get_put_self _ _ (by simp [FieldRef.ok]),
        Nat.zero_mod]
    · rw [hshown (by simp [FieldRef.ok]) (by simp [doorStateFields, FieldRef.apart, rawBit]),
        State.linkShown_get _ _ _ (by simp [FieldRef.apart]) (by simp [FieldRef.apart]), State.upCleared,
        State.get_put_self _ _ (by simp [FieldRef.ok]), Nat.zero_mod]
    · rw [hdoor]
    · rw [hdoor, hr]
      rfl
    · rw [hdoor, hr]
      rfl
    · rw [hframe.2.reg (linkUpFields_apart d.isLt ⟨h1, h2⟩), State.reg, s.doorLinked_regs, hr]
      exact (s.irqdReset_reg d a).trans (if_pos ⟨h1, h2⟩)
    · rw [hdoor, hr]
      rfl
    · rw [hdoor, hr]
      rfl
    · rw [hframe.2.reg (linkUpFields_apart d.isLt ⟨h1, h2⟩), State.reg, s.doorLinked_regs, hr]
      rfl
    · rw [hframe.door_eq, State.doorLinked_door, if_neg he]
    · intro a i hi hp hf
      have hout : ¬ (page .irqd d ≤ a ∧ a < page .irqd d + 0x1000) := fun h => hp (pageBase_irqd h)
      rw [hframe.2 a i hi hf, State.doorLinked_reg cfg hout]

end Sys2Proof.Machine
end

section
/-! PROOFS. The interrupt controller: settings, release and delivery (chapter 12: R305 to R312, R316). -/

namespace Sys2Proof.Machine

/-! ### Release (R307 row 3, R308, R309) -/

/-- A source SENT: what its settings ask for is due. -/
structure Src.SentAs (x y : Src) : Prop where
  sent : y.state = 2
  cfg : y.cfg = x.cfg
  due : ∀ e, hasBit x.targets e = true → hasBit y.due e = true

theorem hasBit_or_right {w m e : Nat} (h : hasBit m e = true) : hasBit (w ||| m) e = true := by
  rw [hasBit_testBit] at h ⊢
  rw [Nat.testBit_or, h, Bool.or_true]

theorem State.sendHeld_src_self (s : State) (k : Nat) : (s.src k).SentAs ((s.sendHeld k).src k) := by
  have h : (s.sendHeld k).src k = { s.src k with
      state := 2, due := (s.src k).due ||| (s.src k).targets, dueAt := ((s.sendHeld k).src k).dueAt } := by
    simp [State.sendHeld, State.markDue]
  rw [h]
  exact ⟨rfl, rfl, fun e he => hasBit_or_right he⟩

theorem State.sendHeld_cfg (s : State) (j k : Nat) : ((s.sendHeld j).src k).cfg = (s.src k).cfg := by
  by_cases h : k = j
  · subst h
    obtain ⟨-, hcfg, -⟩ := s.sendHeld_src_self k
    exact hcfg
  · rw [State.sendHeld_src_ne _ h]

theorem State.forEach_sendHeld_sent {k : Nat} {l : List Nat} (h : k ∈ l) (s : State) :
    (s.src k).SentAs ((s.forEach l State.sendHeld).src k) := by
  induction l generalizing s with
  | nil => cases h
  | cons j l ih =>
    rw [State.forEach_cons]
    by_cases hl : k ∈ l
    · obtain ⟨hst, hcfg, hdue⟩ := ih hl (s.sendHeld j)
      have hsame := s.sendHeld_cfg j k
      refine ⟨hst, hcfg.trans hsame, fun e he => hdue e ?_⟩
      rw [Src.targets, hsame]
      exact he
    · have hj : k = j := (List.mem_cons.1 h).resolve_right hl
      subst hj
      rw [State.forEach_sendHeld_src hl]
      exact s.sendHeld_src_self k

theorem State.releaseHeld_sent {s : State} {g k : Nat} (h : k ∈ s.heldOf g) : (s.src k).SentAs ((s.releaseHeld g).src k) := by
  rw [State.releaseHeld_eq, State.wakeChecks_src]
  exact State.forEach_sendHeld_sent h s

/-- A group once released, with what its mode sets afresh. -/
def State.groupReleased (s : State) (g : Nat) (y : Grp) : State := (s.releaseHeld g).setGrp g y

theorem OnlyIrq.groupReleased (s : State) (g : Nat) (y : Grp) : OnlyIrq s (s.groupReleased g y) :=
  (OnlyIrq.releaseHeld s g).trans (OnlyIrq.setGrp _ _ _)

theorem State.groupReleased_grp (s : State) (g : Nat) (y : Grp) (j : Nat) :
    (s.groupReleased g y).grp j = if j = g then y else s.grp j := by
  rw [State.groupReleased, State.setGrp_grp, State.releaseHeld_grp]

theorem State.groupReleased_src (s : State) (g : Nat) (y : Grp) (k : Nat) :
    (s.groupReleased g y).src k = (s.releaseHeld g).src k := by
  rw [State.groupReleased, State.setGrp_src]

theorem State.holdoffRelease_due {s : State} {g : Nat} (hmode : (s.grp g).coalesce = false) (hheld : s.heldOf g ≠ [])
    (hb : (s.grp g).release ≤ s.tick) :
    s.holdoffRelease g = s.groupReleased g { s.grp g with release := s.tick + (s.grp g).holdoff } :=
  if_neg (by simp [hmode, hheld, hb])

theorem State.coalesceRelease_count {s : State} {g : Nat} (hmode : (s.grp g).coalesce = true) (hn : (s.grp g).thr ≤ (s.grp g).events) :
    s.coalesceRelease g = s.groupReleased g { s.grp g with events := 0, first := none } :=
  if_neg (by simp [hmode, hn])

/-! ### Delivery (R311, R312) -/

/-- The message of source k for door d (R312). -/
def State.messageOf (s : State) (k d : Nat) : HostWrite :=
  HostWrite.mk
    (((s.door d).msixWord (4 * (s.src k).vector + 1)).toNat * 2 ^ 32 + ((s.door d).msixWord (4 * (s.src k).vector)).toNat)
    (wordBytes ((s.door d).msixWord (4 * (s.src k).vector + 2))) (s.src k).prio ((s.src k).dueAt.getD d 0) k

/-- A source delivered to door d. -/
def Src.deliveredTo (x : Src) (d : Nat) : Src :=
  { x with due := markDoor x.due d false, out := markDoor x.out d true, msgVec := x.msgVec.set d x.vector,
           claimedSince := markDoor x.claimedSince d false, withdrawn := markDoor x.withdrawn d false }

theorem State.irqDeliver_delivers {s : State} {k d : Nat} (hdue : hasBit (s.src k).due d = true)
    (hout : hasBit (s.src k).out d = false) (hst : (s.src k).state = 1 ∨ (s.src k).state = 2) (hopen : s.irqOpen d = true)
    (hmask : s.irqMasked k d = false) :
    s.irqDeliver k d = (s.setSrc k ((s.src k).deliveredTo d)).setDoor d
      { s.door d with sendq := insertBy HostWrite.rank (s.messageOf k d) (s.door d).sendq } := by
  have hstate : ((s.src k).state == 1 || (s.src k).state == 2) = true := by simpa using hst
  exact if_neg (by simp [hdue, hout, hstate, hopen, hmask])

/-- Settles O29. A release at the boundary of the current tick (`s.tick`) is the model's reading of Table 12-4 (log entry 14). -/
theorem releaseAndDelivery : Obligations.ReleaseAndDelivery := by
  refine ⟨fun g s hrun hmode hheld hb => ?_, fun g s hrun hmode hn => ?_, fun k d s hrun hdue hout hst hopen hmask => ?_⟩
  · have hexec : exec (.irqGroupRelease g) s =
        run s (s.groupReleased g { s.grp g with release := s.tick + (s.grp g).holdoff }) := by
      rw [← State.holdoffRelease_due hmode hheld hb]
      show run s (s.when s.clk.running fun s => s.holdoffRelease g) = _
      rw [hrun]
      rfl
    refine ⟨_, hexec.trans (OnlyIrq.groupReleased s g _).run_eq, ?_, fun j hj => ?_, fun k hk => ?_, fun k hk => ?_,
      OnlyIrq.groupReleased s g _⟩
    · rw [State.groupReleased_grp, if_pos rfl]
    · rw [State.groupReleased_grp, if_neg hj]
    · rw [State.groupReleased_src, State.releaseHeld_src hk]
    · rw [State.groupReleased_src]
      obtain ⟨hsent, hcfg, hdue⟩ := State.releaseHeld_sent hk
      exact ⟨hsent, hcfg, hdue⟩
  · have hexec : exec (.irqCoalesceRelease g) s = run s (s.groupReleased g { s.grp g with events := 0, first := none }) := by
      rw [← State.coalesceRelease_count hmode hn]
      show run s (s.when s.clk.running fun s => s.coalesceRelease g) = _
      rw [hrun]
      rfl
    refine ⟨_, hexec.trans (OnlyIrq.groupReleased s g _).run_eq, ?_, fun j hj => ?_, fun k hk => ?_, fun k hk => ?_,
      OnlyIrq.groupReleased s g _⟩
    · rw [State.groupReleased_grp, if_pos rfl]
    · rw [State.groupReleased_grp, if_neg hj]
    · rw [State.groupReleased_src, State.releaseHeld_src hk]
    · rw [State.groupReleased_src]
      obtain ⟨hsent, hcfg, hdue⟩ := State.releaseHeld_sent hk
      exact ⟨hsent, hcfg, hdue⟩
  · have hexec : exec (.irqDeliver k d) s = run s ((s.setSrc k ((s.src k).deliveredTo d)).setDoor d
        { s.door d with sendq := insertBy HostWrite.rank (s.messageOf k d) (s.door d).sendq }) := by
      rw [← State.irqDeliver_delivers hdue hout hst hopen hmask]
      show run s (s.when s.clk.running fun s => s.irqDeliver k d) = _
      rw [hrun]
      rfl
    have hsrc : ∀ j, ((s.setSrc k ((s.src k).deliveredTo d)).setDoor d
        { s.door d with sendq := insertBy HostWrite.rank (s.messageOf k d) (s.door d).sendq }).src j =
        if j = k.val then (s.src k).deliveredTo d else s.src j := by
      intro j
      rw [State.setDoor_src, State.setSrc_src]
    refine ⟨_, hexec.trans (run_eq rfl rfl), ?_, ?_, ?_, fun j hj => ?_, ?_, fun e he => ?_, rfl⟩
    · rw [hsrc, if_pos rfl]
      exact hasBit_setBit_false _ _
    · rw [hsrc, if_pos rfl]
      exact hasBit_setBit_self _ _ true
    · rw [hsrc, if_pos rfl]
      rfl
    · rw [hsrc, if_neg hj]
    · rw [State.setDoor_door, if_pos rfl]
      rfl
    · rw [State.setDoor_door, if_neg he, State.setSrc_door]

/-! ### Settings (R305, R306, R310, R316) -/

/-- The claim ring of door d enabled afresh, with a size. -/
def State.ringStarted (s : State) (d size : Nat) : State :=
  (((s.put (Reg.IRQD.RING_CFG.SIZE d) size).putBit (Reg.IRQD.RING_CFG.EN d) true).put (Reg.IRQD.RING_PROD.PROD d) 0).put
    (Reg.IRQD.RING_CONS.CONS d) 0

/-- The content of the ring is defined again. -/
def State.ringCleared (s : State) (d : Nat) : State := s.setDoor d { s.door d with ringJunk := false }

theorem State.ringWrite_starts {s : State} {d size : Nat} (hoff : s.get (Reg.IRQD.RING_CFG.EN d) = 0) (hs : size ≤ 8) :
    s.ringWrite d true size =
      (s.ringStarted d size).ringCleared d := by
  have hwas : (s.get (Reg.IRQD.RING_CFG.EN d) == 1) = false := by rw [hoff]; rfl
  unfold State.ringWrite
  have hsize : ¬ (false = true ∨ 8 < size) := by simp; omega
  simp only [hwas, if_neg hsize]
  rfl

/-- The registers of the ring. -/
def ringFields (d : Nat) : List FieldRef :=
  [Reg.IRQD.RING_CFG.EN d, Reg.IRQD.RING_CFG.SIZE d, Reg.IRQD.RING_PROD.PROD d, Reg.IRQD.RING_CONS.CONS d]

theorem State.ringStarted_frame (s : State) (d size : Nat) : OnlyFields (ringFields d) s (s.ringStarted d size) :=
  ((((OnlyFields.refl _ s).andPut (by simp [ringFields])).andPut (by simp [ringFields])).andPut (by simp [ringFields])).andPut
    (by simp [ringFields])

theorem exec_ringEnable {d : DoorNo} {s : State} (h : s.accepts d .irqd d 0x48) (size : Fin 16) :
    exec (.ringEnable d size) s = run s (s.ringWrite d true size) := by
  have hbits : Word.bits (BitVec.ofNat 32 (16 + size)) 4 4 = 1 ∧ Word.bits (BitVec.ofNat 32 (16 + size)) 3 0 = size := by
    have := size.isLt
    simp only [Word.bits, BitVec.toNat_ofNat]
    omega
  have hwrite : s.blockWrite d .irqd d 0x48 (BitVec.ofNat 32 (16 + size)) = s.ringWrite d true size := by
    show s.ringWrite d (Word.bits (BitVec.ofNat 32 (16 + size)) 4 4 == 1) (Word.bits (BitVec.ofNat 32 (16 + size)) 3 0) = _
    rw [hbits.1, hbits.2]
    rfl
  rw [← hwrite, ← State.busWrite_direct h d.isLt (by decide)]
  rfl

theorem exec_srcCfgWrite {d : DoorNo} {s : State} (h : s.accepts d .irq 0 0x44) (v : Word) :
    exec (.srcCfgWrite d v) s = run s (s.srcWrite (s.selOf d 0xF0040) v) :=
  congrArg (run s) (State.busWrite_direct h (by decide) (by decide) v)

theorem exec_grpCfgWrite {d : DoorNo} {s : State} (h : s.accepts d .irq 0 0x58) (v : Word) :
    exec (.grpCfgWrite d false v) s = run s (s.grpWrite (s.selOf d 0xF0054) false v) :=
  congrArg (run s) (State.busWrite_direct h (by decide) (by decide) v)

theorem exec_grpTimeWrite {d : DoorNo} {s : State} (h : s.accepts d .irq 0 0x5C) (v : Word) :
    exec (.grpCfgWrite d true v) s = run s (s.grpWrite (s.selOf d 0xF0054) true v) :=
  congrArg (run s) (State.busWrite_direct h (by decide) (by decide) v)

/-- A page source with a new SRC_CFG: doors that are no longer targets are owed nothing. -/
def Src.rewritten (x : Src) (v : Word) : Src :=
  { x with cfg := Word.withBits v 19 16 0, due := x.due &&& Word.bits v 29 26, out := x.out &&& Word.bits v 29 26,
           fresh := (x.fresh || !x.en) && (Word.bits v 31 31 == 1) }

theorem State.srcWrite_page {s : State} {k : Nat} {v : Word} (he : sourceExists k = true) (hs : slotSource k = false)
    (hv : Word.bits v 9 0 < 0x3FC) :
    s.srcWrite k v = if (s.src k).en && !(Word.bits v 31 31 == 1) then
        ((s.setSrc k ((s.src k).rewritten v)).setSrc k { (s.src k).rewritten v with repend := false }).withdraw k
      else s.setSrc k ((s.src k).rewritten v) := by
  have hvec : ¬ 0x3FC ≤ Word.bits (Word.withBits v 19 16 0) 9 0 := by
    rw [Word.bits_withBits_apart _ _ (by decide) (by decide) (by decide)]
    omega
  have hen : Word.bits (Word.withBits v 19 16 0) 31 31 = Word.bits v 31 31 :=
    Word.bits_withBits_apart _ _ (by decide) (by decide) (by decide)
  have htgt : Word.bits (Word.withBits v 19 16 0) 29 26 = Word.bits v 29 26 :=
    Word.bits_withBits_apart _ _ (by decide) (by decide) (by decide)
  unfold State.srcWrite
  simp only [he, hs, if_neg hvec, hen, htgt, Bool.not_true, Bool.false_eq_true, if_false, Bool.false_and]
  rfl

theorem State.withdraw_src {s : State} {k : Nat} (h : (s.src k).state = 1 ∨ (s.src k).state = 2) :
    s.withdraw k = s.setSrc k { s.src k with state := 0, due := 0, withdrawn := (s.src k).withdrawn ||| (s.src k).out } := if_pos h

/-- A withdrawal keeps the source's settings. -/
theorem State.withdraw_cases (s : State) (k : Nat) : s.withdraw k = s ∨ s.withdraw k =
    s.setSrc k { s.src k with state := 0, due := 0, withdrawn := (s.src k).withdrawn ||| (s.src k).out } :=
  (ite_eq_or_eq _ _ _).symm

/-- Settles O28. That a withdrawn source keeps no DUE mark is log entry 81. -/
theorem interruptSettingsWritten : Obligations.InterruptSettingsWritten := by
  refine ⟨fun d size s hacc hoff hs => ?_, fun d v k s hacc hsel he hslot hv => ?_, fun d v g s hacc hsel hv => ?_,
    fun d v g s hacc hsel hv => ?_⟩
  · have hframe := s.ringStarted_frame d size
    have hget : ∀ f, ((s.ringStarted d size).ringCleared d).get f = (s.ringStarted d size).get f := State.setDoor_get _ _ _
    have hdoor : ∀ e, ((s.ringStarted d size).ringCleared d).door e =
        if e = d.val then { s.door d with ringJunk := false } else s.door e := by
      intro e
      rw [State.ringCleared, State.setDoor_door, hframe.door_eq, hframe.door_eq]
    have hstate : (s.ringStarted d size).ringCleared d =
        { s with regs := ((s.ringStarted d size).ringCleared d).regs, doors := ((s.ringStarted d size).ringCleared d).doors } := by
      obtain ⟨h, -⟩ := hframe
      generalize s.ringStarted d size = t at h ⊢
      rw [h]
      rfl
    have hexec := (exec_ringEnable hacc size).trans (congrArg (run s) (State.ringWrite_starts hoff hs))
    refine ⟨_, hexec.trans (run_eq (by rw [hstate]) (by rw [hstate])), ?_, ?_, ?_, ?_, (hdoor d).trans (if_pos rfl),
      fun e he => (hdoor e).trans (if_neg he), hstate, hframe.2.andSame (State.setDoor_regs _ _ _)⟩
    · rw [hget, State.ringStarted, State.get_put_apart _ _ (by simp [FieldRef.ok]) (by simp [FieldRef.apart]),
        State.get_put_apart _ _ (by simp [FieldRef.ok]) (by simp [FieldRef.apart]), State.putBit, State.get_put_self _ _ (by simp [FieldRef.ok])]
      simp
    · rw [hget, State.ringStarted, State.get_put_apart _ _ (by simp [FieldRef.ok]) (by simp [FieldRef.apart]),
        State.get_put_apart _ _ (by simp [FieldRef.ok]) (by simp [FieldRef.apart]), State.putBit,
        State.get_put_apart _ _ (by simp [FieldRef.ok]) (by simp [FieldRef.apart]), State.get_put_of_lt _ (by simp [FieldRef.ok])]
      simp
    · rw [hget, State.ringStarted, State.get_put_apart _ _ (by simp [FieldRef.ok]) (by simp [FieldRef.apart]),
        State.get_put_self _ _ (by simp [FieldRef.ok]), Nat.zero_mod]
    · rw [hget, State.ringStarted, State.get_put_self _ _ (by simp [FieldRef.ok]), Nat.zero_mod]
  · have hexec := (exec_srcCfgWrite hacc v).trans
      (congrArg (run s) ((congrArg (fun k => s.srcWrite k v) hsel).trans (State.srcWrite_page (s := s) he hslot hv)))
    by_cases hon : Word.bits v 31 31 = 1
    · have hbit : ((s.src k).en && !(Word.bits v 31 31 == 1)) = false := by simp [hon]
      rw [hbit] at hexec
      refine ⟨_, hexec.trans (run_eq rfl rfl), ?_, fun _ => ?_, fun h0 => absurd (hon.symm.trans h0) (by decide), fun j hj => ?_, rfl⟩
      · exact congrArg Src.cfg ((State.setSrc_src s k _ k).trans (if_pos rfl))
      · refine (State.setSrc_src s k _ k).trans ((if_pos rfl).trans ?_)
        simp [Src.rewritten, hon]
      · exact (State.setSrc_src s k _ j).trans (if_neg hj)
    · cases hen : (s.src k).en with
      | false =>
        rw [hen] at hexec
        refine ⟨_, hexec.trans (run_eq rfl rfl), ?_, fun h1 => absurd h1 hon, fun _ h => absurd h Bool.false_ne_true, fun j hj => ?_, rfl⟩
        · exact congrArg Src.cfg ((State.setSrc_src s k _ k).trans (if_pos rfl))
        · exact (State.setSrc_src s k _ j).trans (if_neg hj)
      | true =>
        have hbit : (true && !(Word.bits v 31 31 == 1)) = true := by simpa using hon
        rw [hen, hbit] at hexec
        have hmid : ∀ j, (((s.setSrc k ((s.src k).rewritten v)).setSrc k { (s.src k).rewritten v with repend := false }).src j) =
            if j = k then { (s.src k).rewritten v with repend := false } else s.src j := by
          intro j
          rw [State.setSrc_src, State.setSrc_src]
          split <;> rfl
        have hkself := (hmid k).trans (if_pos rfl)
        generalize hu : (s.setSrc k ((s.src k).rewritten v)).setSrc k { (s.src k).rewritten v with repend := false } = u at *
        have hustate : u = { s with irq := { s.irq with srcs := u.irq.srcs } } := by rw [← hu]; rfl
        have hstate : u.withdraw k = { s with irq := { s.irq with srcs := (u.withdraw k).irq.srcs } } := by
          rcases u.withdraw_cases k with h | h
          · rw [h]; exact hustate
          · rw [h, hustate]; rfl
        refine ⟨_, hexec.trans (run_eq (by rw [if_pos rfl, hstate]) (by rw [if_pos rfl, hstate])), ?_, fun h1 => absurd h1 hon,
          fun _ _ hst => ?_, fun j hj => ?_, hstate⟩
        · rcases u.withdraw_cases k with h | h
          · rw [if_pos rfl, h, hkself]; rfl
          · rw [if_pos rfl, h, State.setSrc_src, if_pos rfl, hkself]; rfl
        · have hust : (u.src k).state = 1 ∨ (u.src k).state = 2 := by rw [hkself]; exact hst
          rw [if_pos rfl, State.withdraw_src hust, State.setSrc_src, if_pos rfl, hkself]
          exact ⟨rfl, rfl, rfl⟩
        · rcases u.withdraw_cases k with h | h
          · rw [if_pos rfl, h, hmid, if_neg hj]
          · rw [if_pos rfl, h, State.setSrc_src, if_neg hj, hmid, if_neg hj]
  · have hexec := exec_grpCfgWrite hacc v
    rw [hsel] at hexec
    have hcount : Word.bits (Word.withBits v 31 9 0) 7 0 ≠ 0 := by
      rw [Word.bits_withBits_apart _ _ (by decide) (by decide) (by decide)]
      exact hv
    have hwrite : s.grpWrite g false v = s.setGrp g { s.grp g with newCfg := some (Word.withBits v 31 9 0) } := by
      unfold State.grpWrite
      simp only [Bool.false_eq_true, if_false, if_neg hcount]
    refine ⟨_, hexec.trans ((congrArg (run s) hwrite).trans (run_eq rfl rfl)), ?_, fun j hj => ?_, rfl⟩
    · rw [State.setGrp_grp, if_pos rfl]
    · rw [State.setGrp_grp, if_neg hj]
  · have hexec := exec_grpTimeWrite hacc v
    rw [hsel] at hexec
    have hwrite : s.grpWrite g true v = s.setGrp g { s.grp g with newTime := some v } := by
      unfold State.grpWrite
      simp only [if_true, if_neg hv]
    refine ⟨_, hexec.trans ((congrArg (run s) hwrite).trans (run_eq rfl rfl)), ?_, fun j hj => ?_, rfl⟩
    · rw [State.setGrp_grp, if_pos rfl]
    · rw [State.setGrp_grp, if_neg hj]

end Sys2Proof.Machine
end

section
/-! PROOFS. DMA channels: starts, bursts, bus errors and aborts (chapter 13: R335 to R341; R380). -/

namespace Sys2Proof.Machine

/-! ### CTRL (R335, R341) -/

theorem exec_dmaStart {d : DoorNo} {c : DmaNo} {s : State} (h : s.accepts d .dma c 0x64) :
    exec (.dmaStart d c) s = run s (s.dmaStart c) :=
  congrArg (run s) (State.busWrite_direct h c.isLt (by decide) 1)

theorem exec_dmaAbort {d : DoorNo} {c : DmaNo} {s : State} (h : s.accepts d .dma c 0x64) :
    exec (.dmaAbort d c) s = run s (s.dmaAbort c) :=
  congrArg (run s) (State.busWrite_direct h c.isLt (by decide) 2)

theorem startLost_top (c : Nat) : (Reg.DMA.START_LOST_CNT.COUNT c).top = 2 ^ 32 - 1 := by simp [FieldRef.top]

theorem doneCnt_top (c : Nat) : (Reg.DMA.DONE_CNT.COUNT c).top = 2 ^ 32 - 1 := by simp [FieldRef.top]

theorem State.startLost_count (s : State) (c : Nat) : (s.bump (Reg.DMA.START_LOST_CNT.COUNT c)).get (Reg.DMA.START_LOST_CNT.COUNT c) =
    min (2 ^ 32 - 1) (s.get (Reg.DMA.START_LOST_CNT.COUNT c) + 1) := by
  rw [State.get_bump_self _ (by simp [FieldRef.ok]), startLost_top]

theorem State.dmaCopy_dead (s : State) (c : Nat) : (s.dmaCopy c).dead = (s.channel c).dead := rfl

theorem State.dmaStart_dead {s : State} {c : Nat} (h : (s.channel c).dead = true) :
    s.dmaStart c = s.bump (Reg.DMA.START_LOST_CNT.COUNT c) := if_pos h

theorem State.dmaStart_busy {s : State} {c : Nat} (hd : (s.channel c).dead = false) (h : s.get (Reg.DMA.STATUS.STATE c) ≠ 0) :
    s.dmaStart c = (s.bump (Reg.DMA.START_LOST_CNT.COUNT c)).raise (page .dma c) 2 :=
  (if_neg (by rw [State.dmaCopy_dead, hd]; decide)).trans (if_pos h)

theorem State.dmaStart_bad {s : State} {c : Nat} (hd : (s.channel c).dead = false) (h : s.get (Reg.DMA.STATUS.STATE c) = 0)
    (hb : (s.dmaCopy c).bad (s.doorsOf (s.pageComp (page .dma c))) = true) :
    s.dmaStart c = ((s.put (Reg.DMA.STATUS.RESULT c) 5).raise (page .dma c) 3).err (page .dma c) :=
  (if_neg (by rw [State.dmaCopy_dead, hd]; decide)).trans ((if_neg (not_not.2 h)).trans (if_pos hb))

/-- A channel made ACTIVE with its working copy. -/
def State.dmaStarted (s : State) (c : Nat) : State :=
  ((s.setDma c (s.dmaCopy c)).put (Reg.DMA.STATUS.STATE c) 1).put (Reg.DMA.STATUS.RESIDUE c) (s.dmaCopy c).count

theorem State.dmaStart_starts {s : State} {c : Nat} (hd : (s.channel c).dead = false) (h : s.get (Reg.DMA.STATUS.STATE c) = 0)
    (hb : (s.dmaCopy c).bad (s.doorsOf (s.pageComp (page .dma c))) = false) : s.dmaStart c = s.dmaStarted c :=
  (if_neg (by rw [State.dmaCopy_dead, hd]; decide)).trans ((if_neg (not_not.2 h)).trans (if_neg (by simpa using hb)))

theorem State.dmaStarted_frame (s : State) (c : Nat) :
    OnlyFields [Reg.DMA.STATUS.STATE c, Reg.DMA.STATUS.RESIDUE c] (s.setDma c (s.dmaCopy c)) (s.dmaStarted c) :=
  (OnlyFields.refl _ _).andPut.andPut

theorem OnlyFields.channel_eq {fs : List FieldRef} {s t : State} (h : OnlyFields fs s t) (k : Nat) : t.channel k = s.channel k := by
  have hdma : t.dma = s.dma := by rw [h.1]
  rw [State.channel, State.channel, hdma]

theorem State.dmaStarted_channel (s : State) (c k : Nat) :
    (s.dmaStarted c).channel k = if k = c then s.dmaCopy c else s.channel k := by
  rw [(s.dmaStarted_frame c).channel_eq, State.setDma_channel]

theorem State.dmaStarted_state (s : State) (c : Nat) : (s.dmaStarted c).get (Reg.DMA.STATUS.STATE c) = 1 := by
  rw [State.dmaStarted, State.get_put_apart _ _ (by simp [FieldRef.ok]) (by simp [FieldRef.apart]),
    State.get_put_self _ _ (by simp [FieldRef.ok])]
  simp

theorem State.dmaStarted_residue (s : State) (c : Nat) :
    (s.dmaStarted c).get (Reg.DMA.STATUS.RESIDUE c) = s.get (Reg.DMA.COUNT.BYTES c) := by
  have hlt : s.get (Reg.DMA.COUNT.BYTES c) < 2 ^ 24 := by simpa using s.get_lt (Reg.DMA.COUNT.BYTES c)
  have hcount : (s.dmaCopy c).count = s.get (Reg.DMA.COUNT.BYTES c) := rfl
  rw [State.dmaStarted, hcount, State.get_put_of_lt _ (by simp [FieldRef.ok])]
  simpa using hlt

theorem OnlyFields.after_setDma {fs : List FieldRef} {s t : State} {c : Nat} {x : Dma} (h : OnlyFields fs (s.setDma c x) t) :
    t = { s with regs := t.regs, dma := t.dma } := by
  obtain ⟨h, -⟩ := h
  rw [h]
  rfl

/-! ### Ends and bus errors (R339 to R341) -/

/-- The fields of a transfer's end. -/
def dmaEndFields (c : Nat) : List FieldRef := [Reg.DMA.STATUS.STATE c, Reg.DMA.STATUS.RESULT c, Reg.DMA.STATUS.RESIDUE c]

theorem State.dmaEnd_frame (s : State) (c result residue : Nat) : OnlyFields (dmaEndFields c) s (s.dmaEnd c result residue) :=
  (((OnlyFields.refl _ s).andPut (by simp [dmaEndFields])).andPut (by simp [dmaEndFields])).andPut (by simp [dmaEndFields])

theorem State.dmaEnd_state (s : State) (c result residue : Nat) : (s.dmaEnd c result residue).get (Reg.DMA.STATUS.STATE c) = 0 := by
  rw [State.dmaEnd, State.get_put_apart _ _ (by simp [FieldRef.ok]) (by simp [FieldRef.apart]),
    State.get_put_apart _ _ (by simp [FieldRef.ok]) (by simp [FieldRef.apart]), State.get_put_self _ _ (by simp [FieldRef.ok]),
    Nat.zero_mod]

theorem State.dmaEnd_result (s : State) (c residue : Nat) {result : Nat} (h : result < 16) :
    (s.dmaEnd c result residue).get (Reg.DMA.STATUS.RESULT c) = result := by
  rw [State.dmaEnd, State.get_put_apart _ _ (by simp [FieldRef.ok]) (by simp [FieldRef.apart]),
    State.get_put_of_lt _ (by simp [FieldRef.ok])]
  simpa using h

theorem State.dmaEnd_residue (s : State) (c result : Nat) {residue : Nat} (h : residue < 2 ^ 24) :
    (s.dmaEnd c result residue).get (Reg.DMA.STATUS.RESIDUE c) = residue := by
  rw [State.dmaEnd, State.get_put_of_lt _ (by simp [FieldRef.ok])]
  simpa using h

/-- The fields of a halt after a bus error. -/
def dmaHaltFields (c : Nat) : List FieldRef :=
  [Reg.DMA.STATUS.STATE c, Reg.DMA.STATUS.RESULT c, Reg.DMA.STATUS.RESIDUE c, Reg.DMA.ERR.SIDE c, Reg.DMA.ERR.KIND c,
    Reg.DMA.ERR.TRIES c, Reg.HEAD.PG_ERRCNT.COUNT (page .dma c), rawBit (page .dma c) 0]

theorem State.dmaErr_frame (s : State) (c side kind tries : Nat) : OnlyFields (dmaHaltFields c) s (s.dmaErr c side kind tries) :=
  (((OnlyFields.refl _ s).andPut (by simp [dmaHaltFields])).andPut (by simp [dmaHaltFields])).andPut (by simp [dmaHaltFields])

/-- A channel halted by a bus error beyond its retries, without a write-back. -/
def State.dmaHalted (s : State) (c side kind tries residue : Nat) : State :=
  (((s.dmaErr c side kind tries).dmaEnd c 3 residue).raise (page .dma c) 0).err (page .dma c)

theorem State.dmaHalted_frame (s : State) (c side kind tries residue : Nat) :
    OnlyFields (dmaHaltFields c) s (s.dmaHalted c side kind tries residue) := by
  refine OnlyFields.andErr (OnlyFields.andRaise ((s.dmaErr_frame c side kind tries).trans
    ((State.dmaEnd_frame _ c 3 residue).mono fun f hf => ?_)) (by simp [dmaHaltFields])) (by simp [dmaHaltFields])
  simp only [dmaEndFields, dmaHaltFields, List.mem_cons, List.not_mem_nil, or_false] at hf ⊢
  tauto

/-- The halt's mark and count leave what the end shows. -/
theorem State.dmaHalted_get (s : State) (c side kind tries residue : Nat) {g : FieldRef} (hr : g.addr ≠ page .dma c + 0x10)
    (he : (Reg.HEAD.PG_ERRCNT.COUNT (page .dma c)).apart g) :
    (s.dmaHalted c side kind tries residue).get g = ((s.dmaErr c side kind tries).dmaEnd c 3 residue).get g := by
  rw [State.dmaHalted, State.get_err_apart _ he, State.get_raise_ne _ hr]

theorem State.dmaFail_retries {s : State} {c : Nat} (side kind : Nat) (hst : s.get (Reg.DMA.STATUS.STATE c) = 1)
    (hat : (s.channel c).retryAt ≤ s.tick) (hr : (s.channel c).tries + 1 ≤ (s.channel c).retry) :
    s.dmaFail c side kind = s.setDma c { s.channel c with tries := (s.channel c).tries + 1, retryAt := s.tick + 1 } := by
  unfold State.dmaFail
  simp only [hst]
  rw [if_neg (by omega), if_neg (by decide), if_pos hr]

theorem State.dmaFail_halts {s : State} {c : Nat} (side kind : Nat) (hst : s.get (Reg.DMA.STATUS.STATE c) = 1)
    (hat : (s.channel c).retryAt ≤ s.tick) (hr : (s.channel c).retry < (s.channel c).tries + 1) (hwb : (s.channel c).wbEn = false) :
    s.dmaFail c side kind = s.dmaHalted c side kind ((s.channel c).tries + 1) ((s.channel c).count - (s.channel c).done) := by
  have hstop : ∀ u : State, u.channel c = s.channel c →
      u.dmaStop c 3 0 = (u.dmaEnd c 3 ((s.channel c).count - (s.channel c).done)).raise (page .dma c) 0 := by
    intro u hu
    have hend : (u.dmaEnd c 3 ((s.channel c).count - (s.channel c).done)).channel c = s.channel c :=
      ((u.dmaEnd_frame c 3 _).channel_eq c).trans hu
    unfold State.dmaStop State.dmaWriteBack
    simp only [hu, hend, hwb, Bool.not_false, if_true]
  unfold State.dmaFail
  simp only [hst]
  rw [if_neg (by omega), if_neg (by decide), if_neg (by omega), hstop _ ((s.dmaErr_frame c side kind _).channel_eq c), State.dmaHalted]

/-! ### A burst from host memory to host memory (R337, R338) -/

/-- The bytes of a burst written to host memory and the channel moved on, its registers apart. -/
def State.burstMade (s : State) (c : Nat) (l : List Byte) (len : Nat) : State :=
  ((s.drawWord.2.hostWrite ((s.channel c).dstSpace - 4) ((s.channel c).dst + (s.channel c).done) l c).setDma c
    { s.channel c with done := (s.channel c).done + len, tries := 0 })

/-- The registers once a burst has been made that is not the last. -/
def State.burstShown (s : State) (c : Nat) (l : List Byte) (len : Nat) : State :=
  (s.burstMade c l len).put (Reg.DMA.STATUS.RESIDUE c) ((s.channel c).count - ((s.channel c).done + len))

/-- A burst of a COPY that fits on both sides, both host memory behind doors that are UP. -/
theorem State.dmaBurst_copies {s : State} {c len : Nat} {src dst : List Byte} (hst : s.get (Reg.DMA.STATUS.STATE c) = 1)
    (hat : (s.channel c).retryAt ≤ s.tick) (hop : (s.channel c).op = 0) (hs : 4 ≤ (s.channel c).srcSpace)
    (hd : 4 ≤ (s.channel c).dstSpace) (hsi : (s.channel c).srcInc = true) (hdi : (s.channel c).dstInc = true) (hlen : 0 < len)
    (hsrc : src.length = len) (hcount : (s.channel c).done + len ≤ (s.channel c).count)
    (hsf : ((s.channel c).src + (s.channel c).done) % 256 + len ≤ 256)
    (hdf : ((s.channel c).dst + (s.channel c).done) % 256 + len ≤ 256) (hsu : s.doorUp ((s.channel c).srcSpace - 4) = true)
    (hdu : s.doorUp ((s.channel c).dstSpace - 4) = true) :
    s.dmaBurst c len src dst = (s.drawWord.2.hostWrite ((s.channel c).dstSpace - 4)
      ((s.channel c).dst + (s.channel c).done) src c).dmaMoved c len := by
  have hsh : isHost (s.channel c).srcSpace = true := decide_eq_true hs
  have hdh : isHost (s.channel c).dstSpace = true := decide_eq_true hd
  have hsd : s.sideDown (s.channel c).srcSpace = false := by rw [State.sideDown, hsu, Bool.not_true, Bool.and_false]
  have hdd : s.sideDown (s.channel c).dstSpace = false := by rw [State.sideDown, hdu, Bool.not_true, Bool.and_false]
  have htake : src.take len = src := List.take_of_length_le (Nat.le_of_eq hsrc)
  have hfits : sideFits (s.channel c).srcSpace (s.channel c).src (s.channel c).done (s.channel c).unit len (s.channel c).srcInc = true ∧
      sideFits (s.channel c).dstSpace (s.channel c).dst (s.channel c).done (s.channel c).unit len true = true := by
    simp [sideFits, hsh, hdh, hsi, hsf, hdf]
  have hgiven : decide (len ≤ src.length) = true := decide_eq_true (Nat.le_of_eq hsrc.symm)
  have hwait : ¬ ((1 : Nat) = 0 ∨ s.tick < (s.channel c).retryAt) := by omega
  have hne : ¬ len = 0 := by omega
  have hover : ¬ (s.channel c).count < (s.channel c).done + len := by omega
  unfold State.dmaBurst
  simp only [hst, hop, hwait, hne, hover, hfits, hgiven, hsd, hdd, hsh, State.sideBytes, htake, State.burstWrite, hdi, if_true, if_false,
    Bool.not_true, Bool.false_or, Bool.and_self, Bool.or_true, Bool.false_eq_true, or_self, and_false,
    show ((0 : Nat) != 1) = true by rfl, show ((0 : Nat) != 2) = true by rfl, show ¬ (0 : Nat) = 2 by decide, Bool.true_or]

theorem State.burstMade_get (s : State) (c : Nat) (l : List Byte) (len : Nat) (f : FieldRef) : (s.burstMade c l len).get f = s.get f := rfl

theorem State.dmaMoved_goes {s : State} {c len : Nat} (l : List Byte) (hst : s.get (Reg.DMA.STATUS.STATE c) = 1)
    (hleft : (s.channel c).done + len < (s.channel c).count) :
    (s.drawWord.2.hostWrite ((s.channel c).dstSpace - 4) ((s.channel c).dst + (s.channel c).done) l c).dmaMoved c len =
      s.burstShown c l len := by
  have hst' : (s.burstShown c l len).get (Reg.DMA.STATUS.STATE c) = 1 := by
    rw [State.burstShown, State.get_put_apart _ _ (by simp [FieldRef.ok]) (by simp [FieldRef.apart]), State.burstMade_get, hst]
  have h : (s.drawWord.2.hostWrite ((s.channel c).dstSpace - 4) ((s.channel c).dst + (s.channel c).done) l c).dmaMoved c len =
      if (s.burstShown c l len).get (Reg.DMA.STATUS.STATE c) = 2 then (s.burstShown c l len).dmaAborted c
      else if (s.channel c).count - ((s.channel c).done + len) = 0 then (s.burstShown c l len).dmaDone c 1 0 else s.burstShown c l len := rfl
  rw [h, hst', if_neg (by decide), if_neg (by omega)]

theorem State.dmaMoved_ends {s : State} {c len : Nat} (l : List Byte) (hst : s.get (Reg.DMA.STATUS.STATE c) = 1)
    (hleft : (s.channel c).done + len = (s.channel c).count) :
    (s.drawWord.2.hostWrite ((s.channel c).dstSpace - 4) ((s.channel c).dst + (s.channel c).done) l c).dmaMoved c len =
      (s.burstShown c l len).dmaDone c 1 0 := by
  have hst' : (s.burstShown c l len).get (Reg.DMA.STATUS.STATE c) = 1 := by
    rw [State.burstShown, State.get_put_apart _ _ (by simp [FieldRef.ok]) (by simp [FieldRef.apart]), State.burstMade_get, hst]
  have h : (s.drawWord.2.hostWrite ((s.channel c).dstSpace - 4) ((s.channel c).dst + (s.channel c).done) l c).dmaMoved c len =
      if (s.burstShown c l len).get (Reg.DMA.STATUS.STATE c) = 2 then (s.burstShown c l len).dmaAborted c
      else if (s.channel c).count - ((s.channel c).done + len) = 0 then (s.burstShown c l len).dmaDone c 1 0 else s.burstShown c l len := rfl
  rw [h, hst', if_neg (by decide), if_pos (by omega)]

/-- The fields that a burst and the end of its transfer write. -/
def burstFields (c : Nat) : List FieldRef :=
  [Reg.DMA.STATUS.STATE c, Reg.DMA.STATUS.RESULT c, Reg.DMA.STATUS.RESIDUE c, Reg.DMA.DONE_CNT.COUNT c]

theorem State.burstShown_frame (s : State) (c : Nat) (l : List Byte) (len : Nat) :
    OnlyFields (burstFields c) (s.burstMade c l len) (s.burstShown c l len) :=
  (OnlyFields.refl _ _).andPut (by simp [burstFields])

/-- The registers of a transfer that is done. -/
def State.doneShown (s : State) (c : Nat) : State := (s.dmaEnd c 1 0).bump (Reg.DMA.DONE_CNT.COUNT c)

theorem State.dmaDone_eq (s : State) (c : Nat) : s.dmaDone c 1 0 = (s.doneShown c).pulseSource (96 + c) := rfl

theorem State.doneShown_frame (s : State) (c : Nat) : OnlyFields (burstFields c) s (s.doneShown c) := by
  refine OnlyFields.andBump ((s.dmaEnd_frame c 1 0).mono fun f hf => ?_) (by simp [burstFields])
  simp only [dmaEndFields, burstFields, List.mem_cons, List.not_mem_nil, or_false] at hf ⊢
  tauto

theorem State.burstMade_channel (s : State) (c : Nat) (l : List Byte) (len k : Nat) : (s.burstMade c l len).channel k =
    if k = c then { s.channel c with done := (s.channel c).done + len, tries := 0 } else s.channel k := by
  rw [State.burstMade, State.setDma_channel]
  rfl

theorem State.burstMade_door (s : State) (c : Nat) (l : List Byte) (len e : Nat) : (s.burstMade c l len).door e =
    if e = (s.channel c).dstSpace - 4 then
      { s.door e with hostWrites := (s.door e).hostWrites ++
          [{ addr := (s.channel c).dst + (s.channel c).done, data := l, prio := 0, due := s.tick, src := c }] }
    else s.door e := by
  rw [State.burstMade, State.setDma_door, State.hostWrite, State.onDoor_eq, State.setDoor_door]
  by_cases h : e = (s.channel c).dstSpace - 4
  · rw [if_pos h, if_pos h, h]
    rfl
  · rw [if_neg h, if_neg h]
    rfl

theorem State.burstMade_state (s : State) (c : Nat) (l : List Byte) (len : Nat) : s.burstMade c l len =
    { s with dma := (s.burstMade c l len).dma, doors := (s.burstMade c l len).doors, freeCtr := s.freeCtr + 1 } := rfl

/-- What a burst leaves, whether the transfer goes on (`t` with the event lines of before) or ends. -/
structure BurstLeft (s : State) (c : Nat) (l : List Byte) (len : Nat) (t : State) : Prop where
  frame : ∃ u, OnlyFields (burstFields c) (s.burstMade c l len) u ∧ t = { u with evt := { u.evt with pulses := t.evt.pulses } }
  residue : t.get (Reg.DMA.STATUS.RESIDUE c) = (s.channel c).count - ((s.channel c).done + len)

theorem State.burstShown_left {s : State} {c : Nat} (l : List Byte) (len : Nat) (hc : (s.channel c).count < 2 ^ 24) :
    BurstLeft s c l len (s.burstShown c l len) where
  frame := ⟨_, s.burstShown_frame c l len, rfl⟩
  residue := by
    have hlt : (s.channel c).count - ((s.channel c).done + len) < 2 ^ 24 := by omega
    rw [State.burstShown, State.get_put_of_lt _ (by simp [FieldRef.ok])]
    simpa using hlt

theorem State.burstDone_left {s : State} {c : Nat} (l : List Byte) {len : Nat}
    (hleft : (s.channel c).done + len = (s.channel c).count) : BurstLeft s c l len ((s.burstShown c l len).dmaDone c 1 0) where
  frame := ⟨_, (s.burstShown_frame c l len).trans ((s.burstShown c l len).doneShown_frame c), rfl⟩
  residue := by
    rw [State.dmaDone_eq, show ∀ u : State, ∀ k f, (u.pulseSource k).get f = u.get f from fun _ _ _ => rfl, State.doneShown,
      State.get_bump_apart _ _ (by simp [FieldRef.ok]) (by simp [FieldRef.apart]), State.dmaEnd_residue _ _ _ (by decide)]
    omega

theorem BurstLeft.channel {s t : State} {c len : Nat} {l : List Byte} (h : BurstLeft s c l len t) (k : Nat) :
    t.channel k = if k = c then { s.channel c with done := (s.channel c).done + len, tries := 0 } else s.channel k := by
  obtain ⟨u, hu, ht⟩ := h.frame
  have : t.channel k = u.channel k := by rw [ht]; rfl
  rw [this, hu.channel_eq, State.burstMade_channel]

theorem BurstLeft.door {s t : State} {c len : Nat} {l : List Byte} (h : BurstLeft s c l len t) (e : Nat) :
    t.door e = (s.burstMade c l len).door e := by
  obtain ⟨u, hu, ht⟩ := h.frame
  have : t.door e = u.door e := by rw [ht]; rfl
  rw [this, hu.door_eq]

theorem BurstLeft.state {s t : State} {c len : Nat} {l : List Byte} (h : BurstLeft s c l len t) :
    t = { s with regs := t.regs, dma := t.dma, doors := t.doors, evt := { s.evt with pulses := t.evt.pulses },
                 freeCtr := s.freeCtr + 1 } := by
  obtain ⟨u, ⟨hu, -⟩, ht⟩ := h.frame
  rw [s.burstMade_state c l len] at hu
  rw [ht, hu]

theorem BurstLeft.kept {s t : State} {c len : Nat} {l : List Byte} (h : BurstLeft s c l len t) :
    FieldsKept (burstFields c) s t := by
  obtain ⟨u, hu, ht⟩ := h.frame
  have hregs : t.regs = u.regs := by rw [ht]
  exact ((FieldsKept.of_regs rfl).trans hu.2).andSame hregs

theorem State.burstShown_state {s : State} {c : Nat} (l : List Byte) (len : Nat) (hst : s.get (Reg.DMA.STATUS.STATE c) = 1) :
    (s.burstShown c l len).get (Reg.DMA.STATUS.STATE c) = 1 := by
  rw [State.burstShown, State.get_put_apart _ _ (by simp [FieldRef.ok]) (by simp [FieldRef.apart]), State.burstMade_get, hst]

theorem State.burstShown_evt (s : State) (c : Nat) (l : List Byte) (len : Nat) : (s.burstShown c l len).evt = s.evt := by
  obtain ⟨h, -⟩ := s.burstShown_frame c l len
  rw [h]
  rfl

/-- DMA_BURST_DONE of a COPY between host memories. -/
theorem exec_dmaBurst {s t : State} {c : DmaNo} {len : Fin 257} {src dst : List Byte} (h : s.dmaBurst c len src dst = t)
    (hleft : BurstLeft s c src len t) : exec (.dmaBurstDone c len src dst) s = .next t := by
  have hstate := hleft.state
  exact (congrArg (run s) h).trans (run_eq (by rw [hstate]) (by rw [hstate]))

theorem State.dmaHalted_state (s : State) (c side kind tries residue : Nat) :
    (s.dmaHalted c side kind tries residue).get (Reg.DMA.STATUS.STATE c) = 0 := by
  rw [State.dmaHalted_get _ _ _ _ _ _ (by simp; omega) (by simp [FieldRef.apart]; omega), State.dmaEnd_state]

theorem State.dmaEnd_get (s : State) (c result residue : Nat) {g : FieldRef} (ok : g.ok) (h : ∀ f ∈ dmaEndFields c, f.apart g) :
    (s.dmaEnd c result residue).get g = s.get g := (s.dmaEnd_frame c result residue).get ok h

theorem State.pulseSource_get (s : State) (k : Nat) (f : FieldRef) : (s.pulseSource k).get f = s.get f := rfl

theorem State.dmaDone_get (s : State) (c : Nat) (f : FieldRef) : (s.dmaDone c 1 0).get f = (s.doneShown c).get f := by
  rw [State.dmaDone_eq, State.pulseSource_get]

theorem State.dmaDone_pulses (s : State) (c : Nat) : 96 + c ∈ (s.dmaDone c 1 0).evt.pulses := by
  rw [State.dmaDone_eq, State.pulseSource]
  exact List.mem_cons_self

theorem State.dmaAbort_waits {s : State} {c : Nat} (hst : s.get (Reg.DMA.STATUS.STATE c) = 1) (hat : (s.channel c).retryAt ≤ s.tick) :
    s.dmaAbort c = s.put (Reg.DMA.STATUS.STATE c) 2 := by
  have hframe : OnlyFields [Reg.DMA.STATUS.STATE c] s (s.put (Reg.DMA.STATUS.STATE c) 2) := (OnlyFields.refl _ s).andPut
  unfold State.dmaAbort
  simp only [hst, hframe.tick_eq, hframe.channel_eq]
  rw [if_neg (by decide), if_neg (by omega)]

theorem State.dmaWriteBack_kept (s : State) (c : Nat) : (s.dmaWriteBack c).tick = s.tick ∧ (s.dmaWriteBack c).pending = s.pending := by
  unfold State.dmaWriteBack
  dsimp only
  split_ifs
  · exact ⟨rfl, rfl⟩
  · rw [State.hostWrite, State.onDoor_eq]
    exact ⟨State.setDoor_tick _ _ _, State.setDoor_pending _ _ _⟩
  · exact ⟨State.put_tick _ _ _, State.put_pending _ _ _⟩

/-- A halt beyond the retries, with a write-back or without one, runs on in the tick. -/
theorem State.dmaFail_runs {s : State} {c : Nat} (side kind : Nat) (hst : s.get (Reg.DMA.STATUS.STATE c) = 1)
    (hat : (s.channel c).retryAt ≤ s.tick) (hr : (s.channel c).retry < (s.channel c).tries + 1) :
    run s (s.dmaFail c side kind) = .next (s.dmaFail c side kind) := by
  have hfail : s.dmaFail c side kind = ((s.dmaErr c side kind ((s.channel c).tries + 1)).dmaStop c 3 0).err (page .dma c) := by
    unfold State.dmaFail
    simp only [hst]
    rw [if_neg (by omega), if_neg (by decide), if_neg (by omega)]
  have herr := s.dmaErr_frame c side kind ((s.channel c).tries + 1)
  have hstop : ∀ u : State, (u.dmaStop c 3 0).tick = u.tick ∧ (u.dmaStop c 3 0).pending = u.pending := by
    intro u
    have hend := u.dmaEnd_frame c 3 ((u.channel c).count - (u.channel c).done)
    have hback := (u.dmaEnd c 3 ((u.channel c).count - (u.channel c).done)).dmaWriteBack_kept c
    exact ⟨(State.raise_tick _ _ _).trans (hback.1.trans hend.tick_eq), (State.raise_pending _ _ _).trans (hback.2.trans hend.pending_eq)⟩
  rw [hfail]
  exact run_eq ((State.put_tick _ _ _).trans ((hstop _).1.trans herr.tick_eq))
    ((State.put_pending _ _ _).trans ((hstop _).2.trans herr.pending_eq))

/-- Settles O31. The corners of a copy, such as RESULT at a start and TRIES beyond 15, are those of log entry 71. -/
theorem dmaChannels : Obligations.DmaChannels := by
  refine ⟨fun d c s hacc hdead => ?_, fun d c s hacc hdead => ?_, fun c len src dst s hst hat hop hs hs8 hd hd8 hsi hdi hlen hsrc hcount
    hc24 hsf hdf hsu hdu => ?_, fun c side kind s hst hat => ?_, fun d c s hacc hst hat => ?_⟩
  · by_cases hidle : s.get (Reg.DMA.STATUS.STATE c) = 0
    · cases hbad : (s.dmaCopy c).bad (s.doorsOf (s.pageComp (page .dma c))) with
      | false =>
        have hframe := s.dmaStarted_frame c
        refine ⟨_, (exec_dmaStart hacc).trans ((congrArg (run s) (State.dmaStart_starts hdead hidle hbad)).trans
          (run_eq (hframe.tick_eq.trans (State.setDma_tick _ _ _)) (hframe.pending_eq.trans (State.setDma_pending _ _ _)))), fun _ _ => ⟨?_, fun k hk => ?_, s.dmaStarted_state c, s.dmaStarted_residue c,
          hframe.after_setDma, (FieldsKept.of_regs (State.setDma_regs _ _ _)).trans hframe.2⟩, fun _ h => absurd h Bool.false_ne_true,
          fun h => absurd hidle h⟩
        · rw [State.dmaStarted_channel, if_pos rfl]
        · rw [State.dmaStarted_channel, if_neg hk]
      | true =>
        have hframe : OnlyFields [Reg.DMA.STATUS.RESULT c, Reg.HEAD.PG_ERRCNT.COUNT (page .dma c), rawBit (page .dma c) 3] s
            (((s.put (Reg.DMA.STATUS.RESULT c) 5).raise (page .dma c) 3).err (page .dma c)) :=
          (OnlyFields.refl _ s).andPut.andRaise.andErr
        refine ⟨_, (exec_dmaStart hacc).trans ((congrArg (run s) (State.dmaStart_bad hdead hidle hbad)).trans hframe.run_eq),
          fun _ h => absurd h.symm Bool.false_ne_true, fun _ _ => ⟨?_, ?_, hframe⟩, fun h => absurd hidle h⟩
        · rw [State.get_err_apart _ (by simp [FieldRef.apart]; omega), State.get_raise_ne _ (by simp; omega),
            State.get_put_of_lt _ (by simp [FieldRef.ok])]
          simp
        · exact (State.isRaised_put_iff _ _ (by simp [FieldRef.ok]) (by simp [FieldRef.apart, rawBit])).2
            (State.isRaised_raise _ _ (by decide))
    · have hframe : OnlyFields [Reg.DMA.START_LOST_CNT.COUNT c, rawBit (page .dma c) 2] s
          ((s.bump (Reg.DMA.START_LOST_CNT.COUNT c)).raise (page .dma c) 2) := (OnlyFields.refl _ s).andBump.andRaise
      refine ⟨_, (exec_dmaStart hacc).trans ((congrArg (run s) (State.dmaStart_busy hdead hidle)).trans hframe.run_eq),
        fun h => absurd h hidle, fun h => absurd h hidle, fun _ => ⟨?_, State.isRaised_raise _ _ (by decide), hframe⟩⟩
      rw [State.get_raise_ne _ (by simp; omega), s.startLost_count]
  · have hframe : OnlyFields [Reg.DMA.START_LOST_CNT.COUNT c] s (s.bump (Reg.DMA.START_LOST_CNT.COUNT c)) :=
      (OnlyFields.refl _ s).andBump
    exact ⟨_, (exec_dmaStart hacc).trans ((congrArg (run s) (State.dmaStart_dead hdead)).trans hframe.run_eq), s.startLost_count c, hframe⟩
  · have hburst := State.dmaBurst_copies (dst := dst) hst hat hop hs hd hsi hdi hlen hsrc hcount hsf hdf hsu hdu
    by_cases hlast : (s.channel c).done + len = (s.channel c).count
    · rw [State.dmaMoved_ends src hst hlast] at hburst
      have hleft := State.burstDone_left src hlast
      refine ⟨_, exec_dmaBurst hburst hleft, (hleft.channel c).trans (if_pos rfl), fun k hk => (hleft.channel k).trans (if_neg hk), ?_,
        fun e he => ?_, hleft.residue, fun h => absurd hlast (Nat.ne_of_lt h), fun _ => ⟨?_, ?_, ?_, State.dmaDone_pulses _ _⟩, hleft.state,
        hleft.kept⟩
      · rw [hleft.door, State.burstMade_door, if_pos rfl]
      · rw [hleft.door, State.burstMade_door, if_neg he]
      · rw [State.dmaDone_get, State.doneShown, State.get_bump_apart _ _ (by simp [FieldRef.ok]) (by simp [FieldRef.apart]), State.dmaEnd_state]
      · rw [State.dmaDone_get, State.doneShown, State.get_bump_apart _ _ (by simp [FieldRef.ok]) (by simp [FieldRef.apart]),
          State.dmaEnd_result _ _ _ (by decide)]
      · rw [State.dmaDone_get, State.doneShown, State.get_bump_self _ (by simp [FieldRef.ok]), doneCnt_top,
          State.dmaEnd_get _ _ _ _ (by simp [FieldRef.ok]) (by simp [dmaEndFields, FieldRef.apart]), State.burstShown,
          State.get_put_apart _ _ (by simp [FieldRef.ok]) (by simp [FieldRef.apart]), State.burstMade_get]
    · have hmore : (s.channel c).done + len < (s.channel c).count := by omega
      rw [State.dmaMoved_goes src hst hmore] at hburst
      have hleft := State.burstShown_left src len hc24
      refine ⟨_, exec_dmaBurst hburst hleft, (hleft.channel c).trans (if_pos rfl), fun k hk => (hleft.channel k).trans (if_neg hk), ?_,
        fun e he => ?_, hleft.residue, fun _ => ⟨State.burstShown_state src len hst, s.burstShown_evt c src len⟩,
        fun h => absurd h hlast, hleft.state, hleft.kept⟩
      · rw [hleft.door, State.burstMade_door, if_pos rfl]
      · rw [hleft.door, State.burstMade_door, if_neg he]
  · by_cases hr : (s.channel c).tries + 1 ≤ (s.channel c).retry
    · have hfail := State.dmaFail_retries (sideCode side) (kindCode kind) hst hat hr
      refine ⟨_, (congrArg (run s) hfail).trans (run_eq rfl rfl), fun _ => ⟨?_, fun k hk => ?_, rfl⟩, fun h => absurd hr (by omega)⟩
      · rw [State.setDma_channel, if_pos rfl]
      · rw [State.setDma_channel, if_neg hk]
    · cases hwb : (s.channel c).wbEn with
      | true =>
        exact ⟨_, State.dmaFail_runs (sideCode side) (kindCode kind) hst hat (by omega), fun h => absurd h hr,
          fun _ h => absurd h.symm Bool.false_ne_true⟩
      | false =>
        have hfail := State.dmaFail_halts (sideCode side) (kindCode kind) hst hat (by omega) hwb
        have hframe := s.dmaHalted_frame c (sideCode side) (kindCode kind) ((s.channel c).tries + 1)
          ((s.channel c).count - (s.channel c).done)
        refine ⟨_, (congrArg (run s) hfail).trans hframe.run_eq, fun h => absurd h hr, fun _ _ hc24 =>
          ⟨State.dmaHalted_state _ _ _ _ _ _, ?_, ?_, ?_, ?_, ?_, ?_, hframe⟩⟩
        · rw [State.dmaHalted_get _ _ _ _ _ _ (by simp; omega) (by simp [FieldRef.apart]; omega), State.dmaEnd_result _ _ _ (by decide)]
        · rw [State.dmaHalted_get _ _ _ _ _ _ (by simp; omega) (by simp [FieldRef.apart]; omega), State.dmaEnd_residue _ _ _ (by omega)]
        · rw [State.dmaHalted_get _ _ _ _ _ _ (by simp; omega) (by simp [FieldRef.apart]; omega),
            State.dmaEnd_get _ _ _ _ (by simp [FieldRef.ok]) (by simp [dmaEndFields, FieldRef.apart]), State.dmaErr,
            State.get_put_apart _ _ (by simp [FieldRef.ok]) (by simp [FieldRef.apart]),
            State.get_put_apart _ _ (by simp [FieldRef.ok]) (by simp [FieldRef.apart]), State.get_put_of_lt _ (by simp [FieldRef.ok])]
          cases side <;> simp [sideCode]
        · rw [State.dmaHalted_get _ _ _ _ _ _ (by simp; omega) (by simp [FieldRef.apart]; omega),
            State.dmaEnd_get _ _ _ _ (by simp [FieldRef.ok]) (by simp [dmaEndFields, FieldRef.apart]), State.dmaErr,
            State.get_put_apart _ _ (by simp [FieldRef.ok]) (by simp [FieldRef.apart]), State.get_put_of_lt _ (by simp [FieldRef.ok])]
          cases kind <;> simp [kindCode]
        · rw [State.dmaHalted_get _ _ _ _ _ _ (by simp; omega) (by simp [FieldRef.apart]; omega),
            State.dmaEnd_get _ _ _ _ (by simp [FieldRef.ok]) (by simp [dmaEndFields, FieldRef.apart]), State.dmaErr,
            State.get_put_of_lt _ (by simp [FieldRef.ok])]
          have : min 15 ((s.channel c).tries + 1) ≤ 15 := Nat.min_le_left _ _
          simp only [Reg.DMA.ERR.TRIES]
          omega
        · exact (State.isRaised_put_iff _ _ (by simp [FieldRef.ok]) (by simp [FieldRef.apart, rawBit])).2
            (State.isRaised_raise _ _ (by decide))
  · have hframe : OnlyFields [Reg.DMA.STATUS.STATE c] s (s.put (Reg.DMA.STATUS.STATE c) 2) := (OnlyFields.refl _ s).andPut
    refine ⟨_, (exec_dmaAbort hacc).trans ((congrArg (run s) (State.dmaAbort_waits hst hat)).trans hframe.run_eq), ?_, hframe⟩
    rw [State.get_put_of_lt _ (by simp [FieldRef.ok])]
    simp

end Sys2Proof.Machine
end

section
/-! PROOFS. Conversions enter DATA (chapter 9: R264 to R268). -/

namespace Sys2Proof.Machine

/-! ### Register fields and event lines -/

/-- Nothing differs but register fields and the pulses of the event lines. -/
def LineFrame (fs : List FieldRef) (s t : State) : Prop :=
  t = { s with regs := t.regs, evt := { s.evt with pulses := t.evt.pulses } } ∧ FieldsKept fs s t

theorem OnlyFields.lineFrame {fs : List FieldRef} {s t : State} (h : OnlyFields fs s t) : LineFrame fs s t := by
  have hevt : t.evt = s.evt := by rw [h.1]
  refine ⟨?_, h.2⟩
  rw [hevt]
  exact h.1

theorem LineFrame.refl (fs : List FieldRef) (s : State) : LineFrame fs s s := ⟨rfl, FieldsKept.refl fs s⟩

theorem LineFrame.trans {fs : List FieldRef} {s t u : State} (h : LineFrame fs s t) (k : LineFrame fs t u) : LineFrame fs s u := by
  obtain ⟨hst, hkept⟩ := h
  obtain ⟨htu, hkept'⟩ := k
  exact ⟨by rw [htu, hst], hkept.trans hkept'⟩

theorem LineFrame.mono {fs gs : List FieldRef} {s t : State} (h : LineFrame fs s t) (hs : ∀ f ∈ fs, f ∈ gs) : LineFrame gs s t :=
  ⟨h.1, h.2.mono hs⟩

theorem LineFrame.andPulse {fs : List FieldRef} {s t : State} (h : LineFrame fs s t) (k : Nat) : LineFrame fs s (t.pulseSource k) :=
  h.trans ⟨rfl, FieldsKept.of_regs rfl⟩

theorem LineFrame.adc_eq {fs : List FieldRef} {s t : State} (h : LineFrame fs s t) : t.adc = s.adc := by rw [h.1]

theorem LineFrame.unit_eq {fs : List FieldRef} {s t : State} (h : LineFrame fs s t) (k : Nat) : t.unit k = s.unit k := by
  rw [State.unit, State.unit, h.adc_eq]

theorem LineFrame.get {fs : List FieldRef} {s t : State} (h : LineFrame fs s t) {g : FieldRef} (ok : g.ok)
    (ha : ∀ f ∈ fs, f.apart g) : t.get g = s.get g := h.2.get ok ha

/-- A frame that begins once one unit was set. -/
theorem LineFrame.after_setAdc {fs : List FieldRef} {s t : State} {u : Nat} {x y : Adc} (h : LineFrame fs (s.setAdc u x) t) :
    t.setAdc u y = { s with regs := (t.setAdc u y).regs, adc := (t.setAdc u y).adc,
                            evt := { s.evt with pulses := (t.setAdc u y).evt.pulses } } := by
  obtain ⟨h, -⟩ := h
  rw [h]
  rfl

/-! ### Windows (R268) -/

/-- One digit of a number is replaced. -/
theorem digit_replaced (g v b k : Nat) (hv : v < b) : (g - g / b ^ k % b * b ^ k + v * b ^ k) / b ^ k % b = v := by
  have hpos : 0 < b ^ k := Nat.pow_pos (by omega)
  have hdiv : (g - g / b ^ k % b * b ^ k) / b ^ k = b * (g / b ^ k / b) := by
    rw [Nat.mul_comm (g / b ^ k % b), Nat.sub_mul_div, Nat.sub_eq_of_eq_add (Nat.div_add_mod (g / b ^ k) b).symm]
  rw [Nat.add_mul_div_right _ _ hpos, hdiv, Nat.mul_add_mod, Nat.mod_eq_of_lt hv]

theorem digit_mod (x : Nat) {k n b : Nat} (h : k < n) : x % b ^ n / b ^ k % b = x / b ^ k % b := by
  have hsplit : b ^ n = b ^ k * b ^ (n - k) := by rw [← Nat.pow_add]; congr 1; omega
  rw [hsplit, Nat.mod_mul_right_div_self, Nat.mod_mod_of_dvd _ (dvd_pow_self b (by omega))]

theorem State.setWin_winState (s : State) (u : Nat) {k v : Nat} (hk : k < 16) (hv : v < 4) : (s.setWin u k v).winState u k = v := by
  rw [State.winState, State.setWin, State.get_put_self _ _ (by simp [FieldRef.ok])]
  exact (digit_mod _ hk).trans (digit_replaced _ v 4 k hv)

theorem windowStep_lt (was code lo hi : Nat) : (windowStep was code lo hi).1 < 4 := by
  rw [windowStep]
  dsimp only
  split_ifs <;> decide

def winFields (u : Nat) : List FieldRef := [Reg.ADC.WIN_STATE.STATE u, Reg.ADC.WIN_FLAGS.EXIT u, rawBit (page .adc u) 0]

/-- The new window state of an entry at a calibrated code. -/
def State.judged (s : State) (u k code : Nat) : Nat × Bool :=
  windowStep (s.winState u k) code (s.get (Reg.ADC.SEQ.LO u k)) (s.get (Reg.ADC.SEQ.HI u k))

theorem State.judgeWin_off {s : State} {u k : Nat} (code : Nat) (h : s.bit (Reg.ADC.SEQ.WIN_EN u k) = false) :
    s.judgeWin u k code = (s, false) := by
  unfold State.judgeWin
  rw [h]
  rfl

theorem State.judgeWin_stays {s : State} {u k code : Nat} (h : s.bit (Reg.ADC.SEQ.WIN_EN u k) = true)
    (hr : (s.judged u k code).2 = false) : s.judgeWin u k code = (s.setWin u k (s.judged u k code).1, false) := by
  unfold State.judgeWin
  rw [State.judged] at hr
  simp only [h, hr, if_true, Bool.false_eq_true, if_false, State.judged]

/-- The exit of an entry's window: its flag, the page bit and the event line. -/
def State.winExit (s : State) (u k : Nat) : State :=
  ((s.put (Reg.ADC.WIN_FLAGS.EXIT u) (setBit (s.get (Reg.ADC.WIN_FLAGS.EXIT u)) k true)).raise (page .adc u) 0).pulseSource (136 + u)

theorem State.judgeWin_exits {s : State} {u k code : Nat} (h : s.bit (Reg.ADC.SEQ.WIN_EN u k) = true)
    (hr : (s.judged u k code).2 = true) : s.judgeWin u k code = ((s.setWin u k (s.judged u k code).1).winExit u k, true) := by
  unfold State.judgeWin
  rw [State.judged] at hr
  simp only [h, hr, if_true, State.judged, State.winExit]

theorem State.setWin_frame (s : State) (u k v : Nat) : LineFrame (winFields u) s (s.setWin u k v) :=
  ((OnlyFields.refl _ s).andPut (by simp [winFields])).lineFrame

theorem State.winExit_frame (s : State) (u k : Nat) : LineFrame (winFields u) s (s.winExit u k) :=
  (((OnlyFields.refl _ s).andPut (by simp [winFields])).andRaise (by simp [winFields])).lineFrame.andPulse _

theorem State.winExit_winState (s : State) (u k j : Nat) : (s.winExit u k).winState u j = s.winState u j := by
  rw [State.winState, State.winExit, State.pulseSource_get, State.get_raise_ne _ (by simp; omega),
    State.get_put_apart _ _ (by simp [FieldRef.ok]) (by simp [FieldRef.apart]), State.winState]

theorem State.judgeWin_frame (s : State) (u k code : Nat) : LineFrame (winFields u) s (s.judgeWin u k code).1 := by
  cases h : s.bit (Reg.ADC.SEQ.WIN_EN u k) with
  | false => rw [State.judgeWin_off code h]; exact LineFrame.refl _ s
  | true =>
    cases hr : (s.judged u k code).2 with
    | false => rw [State.judgeWin_stays h hr]; exact s.setWin_frame u k _
    | true => rw [State.judgeWin_exits h hr]; exact (s.setWin_frame u k _).trans (State.winExit_frame _ u k)

/-- With WIN_EN the entry's window state is that of the code. -/
theorem State.judgeWin_winState {s : State} {u k : Nat} (code : Nat) (hk : k < 16) (h : s.bit (Reg.ADC.SEQ.WIN_EN u k) = true) :
    (s.judgeWin u k code).1.winState u k = (s.judged u k code).1 := by
  have hset := s.setWin_winState u hk (windowStep_lt (s.winState u k) code (s.get (Reg.ADC.SEQ.LO u k)) (s.get (Reg.ADC.SEQ.HI u k)))
  cases hr : (s.judged u k code).2 with
  | false => rw [State.judgeWin_stays h hr]; exact hset
  | true => rw [State.judgeWin_exits h hr, State.winExit_winState]; exact hset

/-! ### PENDING and overruns (R266) -/

def readyFields (u : Nat) : List FieldRef :=
  [Reg.ADC.STAT.PENDING u, Reg.ADC.STAT.OVR u, Reg.ADC.OVR_CNT.COUNT u, Reg.HEAD.PG_ERRCNT.COUNT (page .adc u), rawBit (page .adc u) 1]

theorem State.dataReady_frame (s : State) (u : Nat) : LineFrame (readyFields u) s (s.dataReady u) := by
  have hover : OnlyFields (readyFields u) s (if s.bit (Reg.ADC.STAT.PENDING u) then
      (((s.put (Reg.ADC.STAT.OVR u) 1).raise (page .adc u) 1).bump (Reg.ADC.OVR_CNT.COUNT u)).err (page .adc u) else s) := by
    split
    · exact ((((OnlyFields.refl _ s).andPut (by simp [readyFields])).andRaise (by simp [readyFields])).andBump
        (by simp [readyFields])).andErr (by simp [readyFields])
    · exact OnlyFields.refl _ s
  exact (hover.andPut (by simp [readyFields])).lineFrame.andPulse _

theorem State.dataReady_pending (s : State) (u : Nat) : (s.dataReady u).get (Reg.ADC.STAT.PENDING u) = 1 := by
  unfold State.dataReady
  rw [State.pulseSource_get, State.get_put_self _ _ (by simp [FieldRef.ok])]
  simp

/-- PENDING where the entry has DRQ. -/
def State.drqShown (s : State) (u k : Nat) : State := if s.bit (Reg.ADC.SEQ.DRQ u k) then s.dataReady u else s

theorem State.drqShown_frame (s : State) (u k : Nat) : LineFrame (readyFields u) s (s.drqShown u k) := by
  unfold State.drqShown
  split
  · exact s.dataReady_frame u
  · exact LineFrame.refl _ s

/-! ### The code in DATA (R264) -/

def dataFields (u : Nat) : List FieldRef :=
  [Reg.ADC.DATA.URG u, Reg.ADC.DATA.RAW u, Reg.ADC.DATA.ENTRY u, Reg.ADC.DATA.CAL u, Reg.ADC.DATA.CODE u, Reg.ADC.CONV_CNT.COUNT u,
    Reg.ADC.URG_CNT.COUNT u]

/-- The code of a conversion under the pair in force. -/
def State.codeOf (s : State) (u raw input : Nat) : Nat :=
  calCode raw (s.get (Reg.ADC.CAL.Z16 u input)) (s.get (Reg.ADC.GAIN.GAIN u input))

/-- DATA once the conversion in hand entered it, and the counts of conversions but the urgent one. -/
def State.dataShown (s : State) (u raw code : Nat) (c : Conv) : State :=
  (((((s.put (Reg.ADC.DATA.URG u) (if c.urg then 1 else 0)).put (Reg.ADC.DATA.RAW u) raw).put (Reg.ADC.DATA.ENTRY u) c.entry).put
    (Reg.ADC.DATA.CODE u) code).putBit (Reg.ADC.DATA.CAL u) c.cal).bump (Reg.ADC.CONV_CNT.COUNT u)

/-- DATA and the counts. -/
def State.dataCounted (s : State) (u raw code : Nat) (c : Conv) : State :=
  if c.urg then (s.dataShown u raw code c).bump (Reg.ADC.URG_CNT.COUNT u) else s.dataShown u raw code c

theorem State.dataCounted_frame (s : State) (u raw code : Nat) (c : Conv) :
    OnlyFields (dataFields u) s (s.dataCounted u raw code c) := by
  have hshown : OnlyFields (dataFields u) s (s.dataShown u raw code c) :=
    ((((((OnlyFields.refl _ s).andPut (by simp [dataFields])).andPut (by simp [dataFields])).andPut (by simp [dataFields])).andPut
      (by simp [dataFields])).andPut (by simp [dataFields])).andBump (by simp [dataFields])
  unfold State.dataCounted
  split
  · exact hshown.andBump (by simp [dataFields])
  · exact hshown

/-- What a code in DATA shows, whatever follows in other fields. -/
structure DataShows (s : State) (u raw code : Nat) (c : Conv) (t : State) : Prop where
  raw : t.get (Reg.ADC.DATA.RAW u) = raw
  entry : t.get (Reg.ADC.DATA.ENTRY u) = c.entry
  code : t.get (Reg.ADC.DATA.CODE u) = code
  urg : t.get (Reg.ADC.DATA.URG u) = if c.urg then 1 else 0
  cal : t.get (Reg.ADC.DATA.CAL u) = if c.cal then 1 else 0
  count : t.get (Reg.ADC.CONV_CNT.COUNT u) = min (2 ^ 32 - 1) (s.get (Reg.ADC.CONV_CNT.COUNT u) + 1)

theorem convCnt_top (u : Nat) : (Reg.ADC.CONV_CNT.COUNT u).top = 2 ^ 32 - 1 := by simp [FieldRef.top]

theorem State.dataShown_shows (s : State) (u : Nat) {raw code : Nat} {c : Conv} (hraw : raw < 2 ^ 10) (hcode : code < 2 ^ 10)
    (he : c.entry < 16) : DataShows s u raw code c (s.dataShown u raw code c) where
  raw := by
    simp only [State.dataShown, State.putBit_eq]
    rw [State.get_bump_apart _ _ (by simp [FieldRef.ok]) (by simp [FieldRef.apart]),
      State.get_put_apart _ _ (by simp [FieldRef.ok]) (by simp [FieldRef.apart]),
      State.get_put_apart _ _ (by simp [FieldRef.ok]) (by simp [FieldRef.apart]),
      State.get_put_apart _ _ (by simp [FieldRef.ok]) (by simp [FieldRef.apart]), State.get_put_of_lt _ (by simp [FieldRef.ok])]
    simpa using hraw
  entry := by
    simp only [State.dataShown, State.putBit_eq]
    rw [State.get_bump_apart _ _ (by simp [FieldRef.ok]) (by simp [FieldRef.apart]),
      State.get_put_apart _ _ (by simp [FieldRef.ok]) (by simp [FieldRef.apart]),
      State.get_put_apart _ _ (by simp [FieldRef.ok]) (by simp [FieldRef.apart]), State.get_put_of_lt _ (by simp [FieldRef.ok])]
    simpa using he
  code := by
    simp only [State.dataShown, State.putBit_eq]
    rw [State.get_bump_apart _ _ (by simp [FieldRef.ok]) (by simp [FieldRef.apart]),
      State.get_put_apart _ _ (by simp [FieldRef.ok]) (by simp [FieldRef.apart]), State.get_put_of_lt _ (by simp [FieldRef.ok])]
    simpa using hcode
  urg := by
    simp only [State.dataShown, State.putBit_eq]
    rw [State.get_bump_apart _ _ (by simp [FieldRef.ok]) (by simp [FieldRef.apart]),
      State.get_put_apart _ _ (by simp [FieldRef.ok]) (by simp [FieldRef.apart]),
      State.get_put_apart _ _ (by simp [FieldRef.ok]) (by simp [FieldRef.apart]),
      State.get_put_apart _ _ (by simp [FieldRef.ok]) (by simp [FieldRef.apart]),
      State.get_put_apart _ _ (by simp [FieldRef.ok]) (by simp [FieldRef.apart]), State.get_put_of_lt _ (by simp [FieldRef.ok])]
    split <;> simp
  cal := by
    simp only [State.dataShown, State.putBit_eq]
    rw [State.get_bump_apart _ _ (by simp [FieldRef.ok]) (by simp [FieldRef.apart]), State.get_put_of_lt _ (by simp [FieldRef.ok])]
    split <;> simp
  count := by
    simp only [State.dataShown, State.putBit_eq]
    rw [State.get_bump_self _ (by simp [FieldRef.ok]), convCnt_top,
      State.get_put_apart _ _ (by simp [FieldRef.ok]) (by simp [FieldRef.apart]),
      State.get_put_apart _ _ (by simp [FieldRef.ok]) (by simp [FieldRef.apart]),
      State.get_put_apart _ _ (by simp [FieldRef.ok]) (by simp [FieldRef.apart]),
      State.get_put_apart _ _ (by simp [FieldRef.ok]) (by simp [FieldRef.apart]),
      State.get_put_apart _ _ (by simp [FieldRef.ok]) (by simp [FieldRef.apart])]

/-- Writes outside DATA and CONV_CNT leave what DATA shows. -/
theorem DataShows.kept {s t v : State} {u raw code : Nat} {c : Conv} {fs : List FieldRef} (h : DataShows s u raw code c t)
    (hk : FieldsKept fs t v) (ha : ∀ f ∈ fs, f.addr ≠ 0xd0058 + u * 0x1000 ∧ f.addr ≠ 0xd0070 + u * 0x1000) :
    DataShows s u raw code c v where
  raw := (hk.get (by simp [FieldRef.ok]) fun f hf => .inl (ha f hf).1).trans h.raw
  entry := (hk.get (by simp [FieldRef.ok]) fun f hf => .inl (ha f hf).1).trans h.entry
  code := (hk.get (by simp [FieldRef.ok]) fun f hf => .inl (ha f hf).1).trans h.code
  urg := (hk.get (by simp [FieldRef.ok]) fun f hf => .inl (ha f hf).1).trans h.urg
  cal := (hk.get (by simp [FieldRef.ok]) fun f hf => .inl (ha f hf).1).trans h.cal
  count := (hk.get (by simp [FieldRef.ok]) fun f hf => .inl (ha f hf).2).trans h.count

theorem State.dataCounted_shows (s : State) (u : Nat) {raw code : Nat} {c : Conv} (hraw : raw < 2 ^ 10) (hcode : code < 2 ^ 10)
    (he : c.entry < 16) : DataShows s u raw code c (s.dataCounted u raw code c) := by
  have hshown := s.dataShown_shows u hraw hcode he
  unfold State.dataCounted
  split
  · exact hshown.kept (FieldsKept.put (fs := [Reg.ADC.URG_CNT.COUNT u]) _ _ (by simp) (by simp [FieldRef.ok])) (by simp)
  · exact hshown

theorem calCode_lt (raw z gain : Nat) : calCode raw z gain < 2 ^ 10 := by
  rw [calCode]
  exact Nat.lt_of_le_of_lt (Nat.min_le_left _ _) (by decide)

/-! ### The latch (R261, R265 to R268) -/

/-- The conversion in hand has entered DATA. -/
def State.latched (s : State) (u raw : Nat) (c : Conv) : State :=
  (s.setAdc u { s.unit u with conv := none, dataTick := c.tick }).dataCounted u raw (s.codeOf u raw c.input) c

/-- The unit after a calibration conversion. -/
def calLatched (a : Adc) (c : Conv) (raw code : Nat) : Adc :=
  { a with
    cal := a.cal.map (fun k => { k with made := k.made + 1, sum := k.sum + raw, last := c.tick })
    sample := some ⟨c, raw, code, 0, false, true⟩ }

/-- The state in which a conversion that is none of a calibration is judged. -/
def State.latchJudged (s : State) (u raw : Nat) (c : Conv) : State × Bool :=
  ((s.latched u raw c).drqShown u c.entry).judgeWin u c.entry (s.codeOf u raw c.input)

/-- The state of the unit's calibration conversion. -/
def State.latchCal (s : State) (u raw : Nat) (c : Conv) : State :=
  ((s.latched u raw c).setAdc u (calLatched ((s.latched u raw c).unit u) c raw (s.codeOf u raw c.input))).put
    (Reg.ADC.STAT.CAL_CNT u) ((s.latched u raw c).get (Reg.ADC.STAT.CAL_CNT u) + 1)

/-- The state of a conversion of the sequence or of an urgent one. -/
def State.latchSeq (s : State) (u raw : Nat) (c : Conv) : State :=
  (s.latchJudged u raw c).1.setAdc u { (s.latchJudged u raw c).1.unit u with
    sample := some ⟨c, raw, s.codeOf u raw c.input, (s.latchJudged u raw c).1.winState u c.entry, (s.latchJudged u raw c).2,
      (s.latchJudged u raw c).1.bit (Reg.ADC.SEQ.REC u c.entry)⟩ }

theorem State.latchCode_eq {s : State} {u raw : Nat} {c : Conv} (h : (s.unit u).conv = some c) :
    s.latchCode u raw = if c.cal then s.latchCal u raw c else s.latchSeq u raw c := by
  have heq : s.latchCode u raw = match (s.unit u).conv with
    | none => s
    | some c => if c.cal then s.latchCal u raw c else s.latchSeq u raw c := rfl
  rw [heq, h]

/-- The fields that a latch writes. -/
def latchFields (u : Nat) : List FieldRef :=
  [Reg.ADC.DATA.URG u, Reg.ADC.DATA.RAW u, Reg.ADC.DATA.ENTRY u, Reg.ADC.DATA.CAL u, Reg.ADC.DATA.CODE u,
    Reg.ADC.CONV_CNT.COUNT u, Reg.ADC.URG_CNT.COUNT u, Reg.ADC.STAT.CAL_CNT u, Reg.ADC.STAT.PENDING u, Reg.ADC.STAT.OVR u,
    Reg.ADC.OVR_CNT.COUNT u, Reg.HEAD.PG_ERRCNT.COUNT (page .adc u), Reg.ADC.WIN_STATE.STATE u, Reg.ADC.WIN_FLAGS.EXIT u,
    rawBit (page .adc u) 0, rawBit (page .adc u) 1]

theorem dataFields_sub (u : Nat) : ∀ f ∈ dataFields u, f ∈ latchFields u := fun f hf => by
  simp only [dataFields, latchFields, List.mem_cons, List.not_mem_nil, or_false] at hf ⊢
  tauto

theorem readyFields_sub (u : Nat) : ∀ f ∈ readyFields u, f ∈ latchFields u := fun f hf => by
  simp only [readyFields, latchFields, List.mem_cons, List.not_mem_nil, or_false] at hf ⊢
  tauto

theorem winFields_sub (u : Nat) : ∀ f ∈ winFields u, f ∈ latchFields u := fun f hf => by
  simp only [winFields, latchFields, List.mem_cons, List.not_mem_nil, or_false] at hf ⊢
  tauto

theorem State.latched_frame (s : State) (u raw : Nat) (c : Conv) : LineFrame (dataFields u)
    (s.setAdc u { s.unit u with conv := none, dataTick := c.tick }) (s.latched u raw c) :=
  (State.dataCounted_frame _ u raw _ c).lineFrame

/-- A latch's state but for the sample's own unit: DATA as it shows, the unit as `State.latched` sets it, and the fields kept. -/
structure Latched (s : State) (u raw : Nat) (c : Conv) (t : State) : Prop where
  frame : LineFrame (latchFields u) (s.setAdc u { s.unit u with conv := none, dataTick := c.tick }) t
  shows : DataShows s u raw (s.codeOf u raw c.input) c t

theorem Latched.unit {s t : State} {u raw : Nat} {c : Conv} (h : Latched s u raw c t) (k : Nat) :
    t.unit k = if k = u then { s.unit u with conv := none, dataTick := c.tick } else s.unit k := by
  rw [h.frame.unit_eq, State.setAdc_unit]

theorem Latched.kept {s t : State} {u raw : Nat} {c : Conv} (h : Latched s u raw c t) : FieldsKept (latchFields u) s t :=
  (FieldsKept.of_regs (State.setAdc_regs _ _ _)).trans h.frame.2

theorem State.latched_latched (s : State) (u : Nat) {raw : Nat} {c : Conv} (hraw : raw < 2 ^ 10) (he : c.entry < 16) :
    Latched s u raw c (s.latched u raw c) where
  frame := (s.latched_frame u raw c).mono (dataFields_sub u)
  shows := by
    have h := (s.setAdc u { s.unit u with conv := none, dataTick := c.tick }).dataCounted_shows u (code := s.codeOf u raw c.input)
      hraw (calCode_lt _ _ _) he
    exact ⟨h.raw, h.entry, h.code, h.urg, h.cal, h.count⟩

theorem Latched.more {s t v : State} {u raw : Nat} {c : Conv} {fs : List FieldRef} (h : Latched s u raw c t) (hk : LineFrame fs t v)
    (hs : ∀ f ∈ fs, f ∈ latchFields u) (ha : ∀ f ∈ fs, f.addr ≠ 0xd0058 + u * 0x1000 ∧ f.addr ≠ 0xd0070 + u * 0x1000) :
    Latched s u raw c v := ⟨h.frame.trans (hk.mono hs), h.shows.kept hk.2 ha⟩

theorem readyFields_beside (u : Nat) : ∀ f ∈ readyFields u, f.addr ≠ 0xd0058 + u * 0x1000 ∧ f.addr ≠ 0xd0070 + u * 0x1000 := by
  simp [readyFields, rawBit, page]
  omega

theorem winFields_beside (u : Nat) : ∀ f ∈ winFields u, f.addr ≠ 0xd0058 + u * 0x1000 ∧ f.addr ≠ 0xd0070 + u * 0x1000 := by
  simp [winFields, rawBit, page]
  omega

theorem State.latchJudged_latched (s : State) (u : Nat) {raw : Nat} {c : Conv} (hraw : raw < 2 ^ 10) (he : c.entry < 16) :
    Latched s u raw c (s.latchJudged u raw c).1 :=
  ((s.latched_latched u hraw he).more (State.drqShown_frame _ u c.entry) (readyFields_sub u) (readyFields_beside u)).more
    (State.judgeWin_frame _ u c.entry _) (winFields_sub u) (winFields_beside u)

theorem seqField_apart (u k hi lo : Nat) (hk : k < 16) : ∀ f ∈ latchFields u, f.apart ⟨0xd0080 + u * 0x1000 + k * 4, hi, lo⟩ := by
  simp [latchFields, FieldRef.apart, rawBit, page]
  omega

/-- The fields of the sequence are as before the conversion entered DATA. -/
theorem Latched.seq {s t : State} {u raw : Nat} {c : Conv} (h : Latched s u raw c t) {k hi lo : Nat} (hk : k < 16) (hlo : lo ≤ hi)
    (hhi : hi < 32) : t.get ⟨0xd0080 + u * 0x1000 + k * 4, hi, lo⟩ = s.get ⟨0xd0080 + u * 0x1000 + k * 4, hi, lo⟩ :=
  h.kept.get ⟨hlo, hhi⟩ (seqField_apart u k hi lo hk)

/-- The unit's sample of a conversion in hand, which has left it. -/
def latchedUnit (a : Adc) (c : Conv) (x : Sample) : Adc := { a with conv := none, dataTick := c.tick, sample := some x }

theorem State.latchSeq_unit (s : State) (u : Nat) {raw : Nat} {c : Conv} (hraw : raw < 2 ^ 10) (he : c.entry < 16) (k : Nat) :
    (s.latchSeq u raw c).unit k = if k = u then latchedUnit (s.unit u) c
      ⟨c, raw, s.codeOf u raw c.input, (s.latchJudged u raw c).1.winState u c.entry, (s.latchJudged u raw c).2,
        (s.latchJudged u raw c).1.bit (Reg.ADC.SEQ.REC u c.entry)⟩ else s.unit k := by
  have hunit := (s.latchJudged_latched u hraw he).unit
  rw [State.latchSeq, State.setAdc_unit, hunit, hunit]
  by_cases hk : k = u
  · rw [if_pos hk, if_pos rfl, if_pos hk, latchedUnit]
  · rw [if_neg hk, if_neg hk, if_neg hk]

theorem State.latchCal_unit (s : State) (u : Nat) {raw : Nat} {c : Conv} (hraw : raw < 2 ^ 10) (he : c.entry < 16) (k : Nat) :
    (s.latchCal u raw c).unit k = if k = u then
      { latchedUnit (s.unit u) c ⟨c, raw, s.codeOf u raw c.input, 0, false, true⟩ with
        cal := (s.unit u).cal.map (fun k => { k with made := k.made + 1, sum := k.sum + raw, last := c.tick }) } else s.unit k := by
  have hunit := (s.latched_latched u hraw he).unit
  rw [State.latchCal, State.put_unit, State.setAdc_unit, hunit, hunit]
  by_cases hk : k = u
  · rw [if_pos hk, if_pos rfl, if_pos hk, calLatched, latchedUnit]
  · rw [if_neg hk, if_neg hk, if_neg hk]

theorem State.latchCal_shows (s : State) (u : Nat) {raw : Nat} {c : Conv} (hraw : raw < 2 ^ 10) (he : c.entry < 16) :
    DataShows s u raw (s.codeOf u raw c.input) c (s.latchCal u raw c) :=
  (s.latched_latched u hraw he).shows.kept (fs := [Reg.ADC.STAT.CAL_CNT u])
    ((FieldsKept.of_regs (State.setAdc_regs _ _ _)).trans (FieldsKept.put _ _ (by simp) (by simp [FieldRef.ok]))) (by simp)

theorem State.latchSeq_shows (s : State) (u : Nat) {raw : Nat} {c : Conv} (hraw : raw < 2 ^ 10) (he : c.entry < 16) :
    DataShows s u raw (s.codeOf u raw c.input) c (s.latchSeq u raw c) :=
  (s.latchJudged_latched u hraw he).shows.kept (fs := []) (FieldsKept.of_regs (State.setAdc_regs _ _ _)) (by simp)

theorem State.latchCal_state (s : State) (u : Nat) {raw : Nat} {c : Conv} (hraw : raw < 2 ^ 10) (he : c.entry < 16) :
    s.latchCal u raw c = { s with regs := (s.latchCal u raw c).regs, adc := (s.latchCal u raw c).adc,
                                  evt := { s.evt with pulses := (s.latchCal u raw c).evt.pulses } } := by
  have h := (s.latched_latched u hraw he).frame.after_setAdc (y := calLatched ((s.latched u raw c).unit u) c raw (s.codeOf u raw c.input))
  rw [State.latchCal]
  generalize (s.latched u raw c).setAdc u (calLatched ((s.latched u raw c).unit u) c raw (s.codeOf u raw c.input)) = x at h ⊢
  rw [h]
  rfl

theorem State.latchSeq_state (s : State) (u : Nat) {raw : Nat} {c : Conv} (hraw : raw < 2 ^ 10) (he : c.entry < 16) :
    s.latchSeq u raw c = { s with regs := (s.latchSeq u raw c).regs, adc := (s.latchSeq u raw c).adc,
                                  evt := { s.evt with pulses := (s.latchSeq u raw c).evt.pulses } } :=
  (s.latchJudged_latched u hraw he).frame.after_setAdc

theorem State.latchCal_kept (s : State) (u : Nat) {raw : Nat} {c : Conv} (hraw : raw < 2 ^ 10) (he : c.entry < 16) :
    FieldsKept (latchFields u) s (s.latchCal u raw c) :=
  ((s.latched_latched u hraw he).kept.andSame (State.setAdc_regs _ _ _)).andPut (by simp [latchFields])

theorem State.latchSeq_kept (s : State) (u : Nat) {raw : Nat} {c : Conv} (hraw : raw < 2 ^ 10) (he : c.entry < 16) :
    FieldsKept (latchFields u) s (s.latchSeq u raw c) :=
  (s.latchJudged_latched u hraw he).kept.andSame (State.setAdc_regs _ _ _)

theorem State.latchSeq_get (s : State) (u raw : Nat) (c : Conv) (f : FieldRef) :
    (s.latchSeq u raw c).get f = (s.latchJudged u raw c).1.get f := State.setAdc_get _ _ _ _

theorem State.latchSeq_winState (s : State) (u raw : Nat) (c : Conv) (k : Nat) :
    (s.latchSeq u raw c).winState u k = (s.latchJudged u raw c).1.winState u k := by
  rw [State.winState, State.latchSeq_get, State.winState]

/-- What is judged of the window is as before the conversion entered DATA. -/
theorem State.drqShown_seq (s : State) (u : Nat) {raw : Nat} {c : Conv} (hraw : raw < 2 ^ 10) (he : c.entry < 16) {k hi lo : Nat}
    (hk : k < 16) (hlo : lo ≤ hi) (hhi : hi < 32) :
    ((s.latched u raw c).drqShown u c.entry).get ⟨0xd0080 + u * 0x1000 + k * 4, hi, lo⟩ =
      s.get ⟨0xd0080 + u * 0x1000 + k * 4, hi, lo⟩ :=
  ((s.latched_latched u hraw he).more (State.drqShown_frame _ u c.entry) (readyFields_sub u) (readyFields_beside u)).seq hk hlo hhi

theorem State.drqShown_winState (s : State) (u raw : Nat) (c : Conv) (k : Nat) :
    ((s.latched u raw c).drqShown u c.entry).winState u k = s.winState u k := by
  rw [State.winState, (State.drqShown_frame _ u c.entry).get (by simp [FieldRef.ok]) (by simp [readyFields, FieldRef.apart, rawBit, page]; omega),
    (s.latched_frame u raw c).get (by simp [FieldRef.ok]) (by simp [dataFields, FieldRef.apart]), State.setAdc_get, State.winState]

/-- With WIN_EN the window state is that of the code (R268). -/
theorem State.latchSeq_judges (s : State) (u : Nat) {raw : Nat} {c : Conv} (hraw : raw < 2 ^ 10) (he : c.entry < 16)
    (hwin : s.get (Reg.ADC.SEQ.WIN_EN u c.entry) = 1) :
    (s.latchSeq u raw c).winState u c.entry = (s.judged u c.entry (s.codeOf u raw c.input)).1 := by
  have hen := State.bit_iff.2 ((s.drqShown_seq u hraw he (hi := 11) (lo := 11) he (by decide) (by decide)).trans hwin)
  have hlo : ((s.latched u raw c).drqShown u c.entry).get (Reg.ADC.SEQ.LO u c.entry) = s.get (Reg.ADC.SEQ.LO u c.entry) :=
    s.drqShown_seq u hraw he he (by decide) (by decide)
  have hhi : ((s.latched u raw c).drqShown u c.entry).get (Reg.ADC.SEQ.HI u c.entry) = s.get (Reg.ADC.SEQ.HI u c.entry) :=
    s.drqShown_seq u hraw he he (by decide) (by decide)
  rw [State.latchSeq_winState, State.latchJudged, State.judgeWin_winState _ he hen, State.judged, s.drqShown_winState, hlo, hhi,
    State.judged]

/-- With DRQ the entry is PENDING (R266). -/
theorem State.latchSeq_pends (s : State) (u : Nat) {raw : Nat} {c : Conv} (hraw : raw < 2 ^ 10) (he : c.entry < 16)
    (hdrq : s.get (Reg.ADC.SEQ.DRQ u c.entry) = 1) : (s.latchSeq u raw c).get (Reg.ADC.STAT.PENDING u) = 1 := by
  have hbit : (s.latched u raw c).bit (Reg.ADC.SEQ.DRQ u c.entry) = true :=
    State.bit_iff.2 (((s.latched_latched u hraw he).seq he (by decide) (by decide)).trans hdrq)
  rw [State.latchSeq_get, State.latchJudged, (State.judgeWin_frame _ u c.entry _).get (by simp [FieldRef.ok])
    (by simp [winFields, FieldRef.apart, rawBit, page]; omega), State.drqShown, if_pos hbit, State.dataReady_pending]

theorem exec_adcDataLatch {u : AdcNo} {raw : BitVec 10} {s t : State} (h : s.latchCode u raw.toNat = t)
    (ht : t = { s with regs := t.regs, adc := t.adc, evt := { s.evt with pulses := t.evt.pulses } }) :
    exec (.adcDataLatch u raw) s = .next t :=
  (congrArg (run s) h).trans (run_eq (by rw [ht]) (by rw [ht]))

/-- Settles O32. -/
theorem conversionEntersData : Obligations.ConversionEntersData := by
  intro u raw c s hconv he _
  have hraw := raw.isLt
  have heq := State.latchCode_eq (raw := raw.toNat) hconv
  cases hcal : c.cal with
  | true =>
    rw [hcal, if_pos rfl] at heq
    have hshows := s.latchCal_shows u hraw he
    have hunit := s.latchCal_unit u hraw he
    have hu := (hunit u).trans (if_pos rfl)
    have hstate := s.latchCal_state u hraw he
    refine ⟨_, exec_adcDataLatch heq hstate, hshows.raw, hshows.entry, hshows.code, hshows.urg, by rw [hshows.cal, hcal], hshows.count,
      ?_, ?_, ?_, fun h => absurd h.symm Bool.false_ne_true, fun h => absurd h.symm Bool.false_ne_true,
      ⟨⟨c, raw.toNat, s.codeOf u raw.toNat c.input, 0, false, true⟩, ?_, rfl, rfl, hshows.code.symm,
        fun h => absurd h.symm Bool.false_ne_true⟩, fun k hk => (hunit k).trans (if_neg hk), hstate, s.latchCal_kept u hraw he⟩
    all_goals rw [hu, latchedUnit]
  | false =>
    rw [hcal, if_neg Bool.false_ne_true] at heq
    have hshows := s.latchSeq_shows u hraw he
    have hunit := s.latchSeq_unit u hraw he
    have hu := (hunit u).trans (if_pos rfl)
    have hstate := s.latchSeq_state u hraw he
    have hrec : (s.latchJudged u raw.toNat c).1.bit (Reg.ADC.SEQ.REC u c.entry) = s.bit (Reg.ADC.SEQ.REC u c.entry) :=
      congrArg (· == 1) ((s.latchJudged_latched u hraw he).seq (hi := 9) (lo := 9) he (by decide) (by decide))
    refine ⟨_, exec_adcDataLatch heq hstate, hshows.raw, hshows.entry, hshows.code, hshows.urg, by rw [hshows.cal, hcal], hshows.count,
      ?_, ?_, ?_, fun _ hdrq => s.latchSeq_pends u hraw he hdrq, fun _ hwin => s.latchSeq_judges u hraw he hwin,
      ⟨_, congrArg Adc.sample hu, rfl, rfl, hshows.code.symm, fun _ => ⟨(s.latchSeq_winState u raw.toNat c c.entry).symm, hrec⟩⟩,
      fun k hk => (hunit k).trans (if_neg hk), hstate, s.latchSeq_kept u hraw he⟩
    all_goals rw [hu, latchedUnit]

end Sys2Proof.Machine
end

section
/-! PROOFS. Calibration and immediate loads (chapters 8, 9 and 13: R250, R261, R265, R332). -/

namespace Sys2Proof.Machine

/-! ### Records of several carts (R272, R422) -/

theorem State.record_onlyCarts (s : State) (typ cls at_ wheel : Nat) (bodies : List (List Quad)) :
    OnlyCarts s (s.record typ cls at_ wheel bodies) := by
  have hrecd : ∀ c : Bool, ∀ q, (if c then s.recd else { s.recd with seq := q }) =
      { s.recd with seq := (if c then s.recd else { s.recd with seq := q }).seq } := by
    intro c q
    cases c <;> rfl
  unfold State.record OnlyCarts
  dsimp only
  rw [← hrecd]

theorem State.recordTwice_carts (s : State) (typ cls at_ wheel : Nat) (bodies : List (List Quad)) :
    OnlyCarts s (s.recordTwice typ cls at_ wheel bodies) := by
  unfold State.recordTwice
  dsimp only
  split_ifs
  · exact s.record_onlyCarts _ _ _ _ _
  · exact (s.record_onlyCarts _ _ _ _ _).trans (State.record_onlyCarts _ _ _ _ _ _)

theorem OnlyCarts.forEach {α : Type} {f : State → α → State} (h : ∀ s x, OnlyCarts s (f s x)) (l : List α) (s : State) :
    OnlyCarts s (s.forEach l f) := by
  induction l generalizing s with
  | nil => exact OnlyCarts.refl s
  | cons x l ih => exact (h s x).trans (ih (f s x))

/-! ### Register fields, ADC units and carts -/

/-- Nothing differs but register fields, ADC units, carts and the record counters. -/
def AdcCartFrame (fs : List FieldRef) (s t : State) : Prop :=
  t = { s with regs := t.regs, adc := t.adc, carts := t.carts, recd := { s.recd with seq := t.recd.seq } } ∧ FieldsKept fs s t

theorem OnlyFields.adcCartFrame {fs : List FieldRef} {s t : State} (h : OnlyFields fs s t) : AdcCartFrame fs s t := by
  obtain ⟨hst, hkept⟩ := h
  refine ⟨?_, hkept⟩
  generalize t.regs = r at hst
  subst hst
  rfl

theorem OnlyCarts.adcCartFrame {s t : State} (h : OnlyCarts s t) (fs : List FieldRef) : AdcCartFrame fs s t := by
  have hkept : FieldsKept fs s t := FieldsKept.of_regs h.regs_eq
  refine ⟨?_, hkept⟩
  unfold OnlyCarts at h
  generalize t.carts = c, t.recd.seq = q at h
  subst h
  rfl

theorem AdcCartFrame.setAdc (fs : List FieldRef) (s : State) (u : Nat) (x : Adc) : AdcCartFrame fs s (s.setAdc u x) :=
  ⟨rfl, FieldsKept.of_regs rfl⟩

theorem AdcCartFrame.trans {fs : List FieldRef} {s t u : State} (h : AdcCartFrame fs s t) (k : AdcCartFrame fs t u) :
    AdcCartFrame fs s u := by
  obtain ⟨hst, hkept⟩ := h
  obtain ⟨htu, hkept'⟩ := k
  exact ⟨by rw [htu, hst], hkept.trans hkept'⟩

theorem AdcCartFrame.run_eq {fs : List FieldRef} {s t : State} (h : AdcCartFrame fs s t) : run s t = .next t :=
  Sys2Proof.Machine.run_eq (by rw [h.1]) (by rw [h.1])

theorem OnlyFields.unit_eq {fs : List FieldRef} {s t : State} (h : OnlyFields fs s t) (k : Nat) : t.unit k = s.unit k :=
  h.lineFrame.unit_eq k

theorem OnlyCarts.unit_eq {s t : State} (h : OnlyCarts s t) (k : Nat) : t.unit k = s.unit k := by
  have hadc : t.adc = s.adc := by rw [h]
  rw [State.unit, State.unit, hadc]

/-! ### A calibration begins (R265) -/

/-- A calibration of an input has begun. -/
def State.calStarted (s : State) (u : Nat) (full : Bool) (i : Nat) : State :=
  ((s.setAdc u { s.unit u with cal := some ⟨full, i, 0, 0, 0⟩ }).put (Reg.ADC.STAT.CAL_BUSY u) 1).put (Reg.ADC.STAT.CAL_CNT u) 0

theorem State.startCal_starts {s : State} {u : Nat} (hshut : s.shut (page .adc u) = false) (hcal : (s.unit u).cal = none) (full : Bool)
    (i : Nat) : s.startCal u full i = s.calStarted u full i := by
  unfold State.startCal
  rw [if_neg (by rw [hshut]; decide), if_neg (by rw [hcal]; decide)]
  rfl

theorem State.startCal_busy {s : State} {u : Nat} (hshut : s.shut (page .adc u) = false) (hcal : (s.unit u).cal ≠ none) (full : Bool)
    (i : Nat) : s.startCal u full i = s.put (Reg.ADC.STAT.CAL_RESULT u) 3 := by
  unfold State.startCal
  rw [if_neg (by rw [hshut]; decide), if_pos (Option.isSome_iff_ne_none.2 hcal)]

theorem exec_startCal (u : AdcNo) (full : Bool) (s : State) :
    exec (if full then .calFull u else .calZero u) s = run s (s.startCal u full (s.get (Reg.ADC.CMD.CAL_IN u))) := by
  cases full <;> rfl

def calStartFields (u : Nat) : List FieldRef := [Reg.ADC.STAT.CAL_BUSY u, Reg.ADC.STAT.CAL_CNT u]

theorem State.calStarted_frame (s : State) (u : Nat) (full : Bool) (i : Nat) : OnlyFields (calStartFields u)
    (s.setAdc u { s.unit u with cal := some ⟨full, i, 0, 0, 0⟩ }) (s.calStarted u full i) :=
  ((OnlyFields.refl _ _).andPut (by simp [calStartFields])).andPut (by simp [calStartFields])

theorem OnlyFields.after_setAdc {fs : List FieldRef} {s t : State} {u : Nat} {x : Adc} (h : OnlyFields fs (s.setAdc u x) t) :
    t = { s with regs := t.regs, adc := t.adc } := by
  obtain ⟨h, -⟩ := h
  rw [h]
  rfl

/-! ### A calibration ends (R264, R265) -/

/-- The unit without its calibration. -/
def State.calEnded (s : State) (u : Nat) : State :=
  (s.setAdc u { s.unit u with cal := none }).put (Reg.ADC.STAT.CAL_BUSY u) 0

/-- The pair and its gain in their registers. -/
def State.pairPut (s : State) (u i z f : Nat) : State :=
  ((s.put (Reg.ADC.CAL.Z16 u i) z).put (Reg.ADC.CAL.F16 u i) f).put (Reg.ADC.GAIN.GAIN u i) (gainOf z f)

/-- The commit records of a replaced pair (R265, R422). -/
def State.pairCommitted (s : State) (u i no : Nat) : State :=
  s.forEach (commitBodies [(62, 2, 2), (57, 3, 2), (53, 3, u), (0, 32, no)]
    [commitEntry false (Reg.ADC.CAL.Z16 u i).addr (s.reg (Reg.ADC.CAL.Z16 u i).addr).toNat,
      commitEntry false (Reg.ADC.GAIN.GAIN u i).addr (s.reg (Reg.ADC.GAIN.GAIN u i).addr).toNat])
    (fun s b => s.recordTwice 0x07 s.commitCls s.now 63 b)

theorem State.pairCommitted_carts (s : State) (u i no : Nat) : OnlyCarts s (s.pairCommitted u i no) :=
  OnlyCarts.forEach (fun s _ => s.recordTwice_carts _ _ _ _ _) _ s

/-- A pair replaced, with the next calibration number. -/
def State.pairReplaced (s : State) (u i z f no : Nat) : State :=
  ((s.pairPut u i z f).onAdc u (fun a => { a with calNo := (no + 1) % 2 ^ 32 })).pairCommitted u i no

theorem State.calDone_zero {s : State} {u : Nat} {c : Calib} (h : (s.unit u).cal = some c) (hmade : 16 ≤ c.made) (hlast : c.last < s.tick)
    (hfull : c.full = false) :
    s.calDone u = (if s.get (Reg.ADC.CAL.F16 u c.input) < c.sum + 4096 then (s.calEnded u).put (Reg.ADC.STAT.CAL_RESULT u) 2
      else ((s.calEnded u).pairReplaced u c.input c.sum (s.get (Reg.ADC.CAL.F16 u c.input)) (s.unit u).calNo).put
        (Reg.ADC.STAT.CAL_RESULT u) 1).raise (page .adc u) 3 := by
  have heq : s.calDone u = match (s.unit u).cal with
    | none => s
    | some c => if c.made < 16 ∨ s.tick ≤ c.last then s
      else
        let z := if c.full then s.get (Reg.ADC.CAL.Z16 u c.input) else c.sum
        let f := if c.full then c.sum else s.get (Reg.ADC.CAL.F16 u c.input)
        (if f < z + 4096 then (s.calEnded u).put (Reg.ADC.STAT.CAL_RESULT u) 2
          else ((s.calEnded u).pairReplaced u c.input z f (s.unit u).calNo).put (Reg.ADC.STAT.CAL_RESULT u) 1).raise (page .adc u) 3 := rfl
  rw [heq, h]
  simp only [hfull, Bool.false_eq_true, if_false]
  rw [if_neg (by omega)]

def calEndFields (u i : Nat) : List FieldRef :=
  [Reg.ADC.STAT.CAL_BUSY u, Reg.ADC.STAT.CAL_RESULT u, Reg.ADC.CAL.Z16 u i, Reg.ADC.CAL.F16 u i, Reg.ADC.GAIN.GAIN u i,
    rawBit (page .adc u) 3]

theorem State.calEnded_frame (s : State) (u i : Nat) : AdcCartFrame (calEndFields u i) s (s.calEnded u) :=
  (AdcCartFrame.setAdc _ s u _).trans (OnlyFields.adcCartFrame ((OnlyFields.refl _ _).andPut (by simp [calEndFields])))

theorem State.calEnded_unit (s : State) (u k : Nat) :
    (s.calEnded u).unit k = if k = u then { s.unit u with cal := none } else s.unit k := by
  rw [State.calEnded, State.put_unit, State.setAdc_unit]

/-- A result and CAL_DONE. -/
def State.calResult (s : State) (u r : Nat) : State := (s.put (Reg.ADC.STAT.CAL_RESULT u) r).raise (page .adc u) 3

theorem State.calResult_frame (s : State) (u r i : Nat) : OnlyFields (calEndFields u i) s (s.calResult u r) :=
  ((OnlyFields.refl _ s).andPut (by simp [calEndFields])).andRaise (by simp [calEndFields])

theorem State.calResult_result (s : State) (u : Nat) {r : Nat} (hr : r < 8) :
    (s.calResult u r).get (Reg.ADC.STAT.CAL_RESULT u) = r := by
  rw [State.calResult, State.get_raise_ne _ (by simp; omega), State.get_put_of_lt _ (by simp [FieldRef.ok])]
  simpa using hr

theorem State.calResult_get (s : State) (u r : Nat) {f : FieldRef} (ha : (Reg.ADC.STAT.CAL_RESULT u).apart f)
    (hraw : f.addr ≠ page .adc u + 0x10) : (s.calResult u r).get f = s.get f := by
  rw [State.calResult, State.get_raise_ne _ hraw, State.get_put_apart _ _ (by simp [FieldRef.ok]) ha]

theorem State.pairPut_frame (s : State) (u i z f : Nat) : OnlyFields (calEndFields u i) s (s.pairPut u i z f) :=
  (((OnlyFields.refl _ s).andPut (by simp [calEndFields])).andPut (by simp [calEndFields])).andPut (by simp [calEndFields])

theorem State.pairPut_shows (s : State) (u i : Nat) {z f : Nat} (hz : z < 2 ^ 14) (hf : f < 2 ^ 14) :
    (s.pairPut u i z f).get (Reg.ADC.CAL.Z16 u i) = z ∧ (s.pairPut u i z f).get (Reg.ADC.CAL.F16 u i) = f ∧
      (s.pairPut u i z f).get (Reg.ADC.GAIN.GAIN u i) = gainOf z f := by
  have hgain : gainOf z f < 2 ^ 16 := Nat.mod_lt _ (by decide)
  refine ⟨?_, ?_, ?_⟩
  · rw [State.pairPut, State.get_put_apart _ _ (by simp [FieldRef.ok]) (by simp [FieldRef.apart]),
      State.get_put_apart _ _ (by simp [FieldRef.ok]) (by simp [FieldRef.apart]), State.get_put_of_lt _ (by simp [FieldRef.ok])]
    simpa using hz
  · rw [State.pairPut, State.get_put_apart _ _ (by simp [FieldRef.ok]) (by simp [FieldRef.apart]),
      State.get_put_of_lt _ (by simp [FieldRef.ok])]
    simpa using hf
  · rw [State.pairPut, State.get_put_of_lt _ (by simp [FieldRef.ok])]
    simpa using hgain

theorem State.pairReplaced_get (s : State) (u i z f no : Nat) (g : FieldRef) :
    (s.pairReplaced u i z f no).get g = (s.pairPut u i z f).get g := by
  rw [State.pairReplaced, (State.pairCommitted_carts _ u i no).get_eq, State.onAdc_eq, State.setAdc_get]

theorem State.pairReplaced_frame (s : State) (u i z f no : Nat) : AdcCartFrame (calEndFields u i) s (s.pairReplaced u i z f no) :=
  ((s.pairPut_frame u i z f).adcCartFrame.trans (AdcCartFrame.setAdc _ _ u _)).trans
    ((State.pairCommitted_carts _ u i no).adcCartFrame _)

theorem State.pairReplaced_unit (s : State) (u i z f no k : Nat) :
    (s.pairReplaced u i z f no).unit k = if k = u then { s.unit u with calNo := (no + 1) % 2 ^ 32 } else s.unit k := by
  rw [State.pairReplaced, (State.pairCommitted_carts _ u i no).unit_eq, State.onAdc_eq, State.setAdc_unit,
    (s.pairPut_frame u i z f).unit_eq, (s.pairPut_frame u i z f).unit_eq]

/-- The full code and the gain of an input are apart from what the end of a calibration shows first. -/
theorem State.calEnded_get (s : State) (u : Nat) {f : FieldRef} (ha : (Reg.ADC.STAT.CAL_BUSY u).apart f) :
    (s.calEnded u).get f = s.get f := by
  rw [State.calEnded, State.get_put_apart _ _ (by simp [FieldRef.ok]) ha, State.setAdc_get]

theorem State.calEnded_busy (s : State) (u : Nat) : (s.calEnded u).get (Reg.ADC.STAT.CAL_BUSY u) = 0 := by
  rw [State.calEnded, State.get_put_self _ _ (by simp [FieldRef.ok]), Nat.zero_mod]

/-- A field of an input's pair or of its gain. -/
def ofPair (u i : Nat) (g : FieldRef) : Prop := g.addr = 0xd0100 + u * 0x1000 + i * 8 ∨ g.addr = 0xd0104 + u * 0x1000 + i * 8

theorem State.calResult_pair (s : State) (u r i : Nat) {g : FieldRef} (hg : ofPair u i g) : (s.calResult u r).get g = s.get g := by
  rw [ofPair] at hg
  exact s.calResult_get u r (by simp [FieldRef.apart]; omega) (by simp; omega)

theorem State.calEnded_pair (s : State) (u i : Nat) {g : FieldRef} (hg : ofPair u i g) : (s.calEnded u).get g = s.get g := by
  rw [ofPair] at hg
  exact s.calEnded_get u (.inl (by simp only [Reg.ADC.STAT.CAL_BUSY]; omega))

/-- A replaced pair leaves CAL_BUSY. -/
theorem State.pairReplaced_busy (s : State) (u i z f no : Nat) :
    (s.pairReplaced u i z f no).get (Reg.ADC.STAT.CAL_BUSY u) = s.get (Reg.ADC.STAT.CAL_BUSY u) := by
  rw [State.pairReplaced_get, State.pairPut, State.get_put_apart _ _ (by simp [FieldRef.ok]) (by simp [FieldRef.apart]; omega),
    State.get_put_apart _ _ (by simp [FieldRef.ok]) (by simp [FieldRef.apart]),
    State.get_put_apart _ _ (by simp [FieldRef.ok]) (by simp [FieldRef.apart]; omega)]

theorem exec_calDone {u : AdcNo} {s t : State} (h : s.calDone u = t) (hrun : run s t = .next t) : exec (.calDone u) s = .next t :=
  (congrArg (run s) h).trans hrun

theorem State.timerLoad_frame (s : State) (k : Nat) : OnlyFields [Reg.TMR.COUNT.C k, Reg.TMR.PRESC.P k] s (s.timerLoad k) :=
  ((OnlyFields.refl _ s).andPut).andPut

theorem exec_timerLoad {k : TmrNo} {s : State} (h : s.scanning = true) : exec (.timerLoad k) s = run s (s.timerLoad k) := by
  have heq : exec (.timerLoad k) s = run s (s.when s.scanning (fun s => s.timerLoad k)) := rfl
  rw [heq, h, State.when_true]

/-- Settles O33. -/
theorem calibrationAndLoads : Obligations.CalibrationAndLoads := by
  refine ⟨fun i u full s hi hshut => ⟨fun hcal => ?_, fun hcal => ?_⟩, fun u c s hcal hmade hlast hfull hin hsum => ?_,
    fun u s => ?_, fun k s hscan => ?_, fun n s => ⟨_, run_eq rfl rfl, ?_, fun k hk => ?_, rfl⟩⟩
  · subst hi
    have hframe := s.calStarted_frame u full (s.get (Reg.ADC.CMD.CAL_IN u))
    refine ⟨_, (exec_startCal u full s).trans ((congrArg (run s) (State.startCal_starts hshut hcal full _)).trans
      (run_eq (hframe.tick_eq.trans (State.setAdc_tick _ _ _)) (hframe.pending_eq.trans (State.setAdc_pending _ _ _)))), ?_, ?_, ?_,
      fun k hk => ?_, hframe.after_setAdc, (FieldsKept.of_regs (State.setAdc_regs _ _ _)).trans hframe.2⟩
    · rw [hframe.unit_eq, State.setAdc_unit, if_pos rfl]
    · rw [State.calStarted, State.get_put_apart _ _ (by simp [FieldRef.ok]) (by simp [FieldRef.apart]),
        State.get_put_self _ _ (by simp [FieldRef.ok])]
      simp
    · rw [State.calStarted, State.get_put_self _ _ (by simp [FieldRef.ok]), Nat.zero_mod]
    · rw [hframe.unit_eq, State.setAdc_unit, if_neg hk]
  · subst hi
    have hframe : OnlyFields [Reg.ADC.STAT.CAL_RESULT u] s (s.put (Reg.ADC.STAT.CAL_RESULT u) 3) := (OnlyFields.refl _ s).andPut
    refine ⟨_, (exec_startCal u full s).trans ((congrArg (run s) (State.startCal_busy hshut hcal full _)).trans hframe.run_eq), ?_,
      hframe⟩
    rw [State.get_put_of_lt _ (by simp [FieldRef.ok])]
    simp
  · have hdone := State.calDone_zero hcal hmade hlast hfull
    have hend := s.calEnded_frame u c.input
    by_cases hrange : s.get (Reg.ADC.CAL.F16 u c.input) < c.sum + 4096
    · rw [if_pos hrange] at hdone
      have hresult := (s.calEnded u).calResult_frame u 2 c.input
      have hframe := hend.trans hresult.adcCartFrame
      have hcarts : (s.calEnded u).carts = s.carts := by rw [State.calEnded, State.put_carts, State.setAdc_carts]
      refine ⟨_, exec_calDone hdone hframe.run_eq, ?_, ?_, State.isRaised_raise _ _ (by decide), ?_, fun k hk => ?_, hframe⟩
      · rw [← State.calResult, hresult.unit_eq, s.calEnded_unit, if_pos rfl]
      · rw [← State.calResult, State.calResult_get _ _ _ (by simp [FieldRef.apart]) (by simp; omega), s.calEnded_busy]
      · rw [if_pos hrange, ← State.calResult, State.calResult_pair _ _ _ c.input (g := Reg.ADC.CAL.Z16 u c.input) (.inl rfl),
          State.calResult_pair _ _ _ c.input (g := Reg.ADC.GAIN.GAIN u c.input) (.inr rfl), s.calEnded_pair u _ (.inl rfl), s.calEnded_pair u _ (.inr rfl)]
        exact ⟨State.calResult_result _ _ (by decide), rfl, rfl, hresult.sameRecord.carts.trans hcarts⟩
      · rw [← State.calResult, hresult.unit_eq, s.calEnded_unit, if_neg hk]
    · rw [if_neg hrange] at hdone
      have hfull16 : s.get (Reg.ADC.CAL.F16 u c.input) < 2 ^ 14 := by simpa using s.get_lt (Reg.ADC.CAL.F16 u c.input)
      have hpair := (s.calEnded u).pairReplaced_frame u c.input c.sum (s.get (Reg.ADC.CAL.F16 u c.input)) (s.unit u).calNo
      have hunit := (s.calEnded u).pairReplaced_unit u c.input c.sum (s.get (Reg.ADC.CAL.F16 u c.input)) (s.unit u).calNo
      have hresult := ((s.calEnded u).pairReplaced u c.input c.sum (s.get (Reg.ADC.CAL.F16 u c.input)) (s.unit u).calNo).calResult_frame
        u 1 c.input
      have hframe := (hend.trans hpair).trans hresult.adcCartFrame
      obtain ⟨hz, hf, hg⟩ := (s.calEnded u).pairPut_shows u c.input hsum hfull16
      refine ⟨_, exec_calDone hdone hframe.run_eq, ?_, ?_, State.isRaised_raise _ _ (by decide), ?_, fun k hk => ?_, hframe⟩
      · rw [← State.calResult, hresult.unit_eq, hunit, if_pos rfl, s.calEnded_unit, if_pos rfl]
      · rw [← State.calResult, State.calResult_get _ _ _ (by simp [FieldRef.apart]) (by simp; omega), State.pairReplaced_busy,
          s.calEnded_busy]
      · rw [if_neg hrange, ← State.calResult, State.calResult_pair _ _ _ c.input (g := Reg.ADC.CAL.Z16 u c.input) (.inl rfl),
          State.calResult_pair _ _ _ c.input (g := Reg.ADC.CAL.F16 u c.input) (.inl rfl),
          State.calResult_pair _ _ _ c.input (g := Reg.ADC.GAIN.GAIN u c.input) (.inr rfl), State.pairReplaced_get, State.pairReplaced_get, State.pairReplaced_get]
        exact ⟨State.calResult_result _ _ (by decide), hz, hf, hg⟩
      · rw [← State.calResult, hresult.unit_eq, hunit, if_neg hk, s.calEnded_unit, if_neg hk]
  · have hframe : OnlyFields [Reg.ADC.STAT.POS u] s (s.adcRestart u) := (OnlyFields.refl _ s).andPut
    exact ⟨_, hframe.run_eq, (State.get_put_self _ _ (by simp [FieldRef.ok])).trans (Nat.zero_mod _), hframe⟩
  · refine ⟨_, (exec_timerLoad hscan).trans (s.timerLoad_frame k).run_eq, ?_, ?_, s.timerLoad_frame k⟩
    · have hlt : s.get (Reg.TMR.LOADV.VALUE k) < 2 ^ 32 := by simpa using s.get_lt (Reg.TMR.LOADV.VALUE k)
      rw [State.timerLoad, State.get_put_apart _ _ (by simp [FieldRef.ok]) (by simp [FieldRef.apart]),
        State.get_put_of_lt _ (by simp [FieldRef.ok])]
      simpa using hlt
    · rw [State.timerLoad, State.get_put_self _ _ (by simp [FieldRef.ok]), Nat.zero_mod]
  · exact (State.setDrv_drive _ _ _ _).trans (if_pos rfl)
  · exact (State.setDrv_drive _ _ _ _).trans (if_neg hk)

end Sys2Proof.Machine
end

section
/-! PROOFS. The recorder's own carts and the record path (chapter 10: R36, R274 to R277, R419, R420, R422). -/

namespace Sys2Proof.Machine

/-! ### EPOCH carts (R419) -/

/-- The EPOCH cart of a class whose record counter shows a number. -/
def epochCart (kind tick cls seq : Nat) : Cart :=
  ⟨0x11, cls, st0 tick % 128, st0 tick / 128 % 2 ^ 48, 0, 0, 63, 0, seq, [quad [(62, 2, kind)], BitVec.ofNat 64 tick]⟩

/-- One EPOCH cart. -/
def State.epochOf (s : State) (kind tick cls : Nat) : State := s.cart 0x11 cls (st0 tick) 63 [quad [(62, 2, kind)], BitVec.ofNat 64 tick]

theorem State.epochOf_carts (s : State) (kind tick cls : Nat) :
    (s.epochOf kind tick cls).carts = epochCart kind tick cls (s.seqOf cls) :: s.carts := rfl

theorem State.epochOf_seqOf (s : State) (kind tick cls k : Nat) :
    (s.epochOf kind tick cls).seqOf k = if k = cls then (s.seqOf cls + 1) % 2 ^ 32 else s.seqOf k := by
  rw [State.seqOf, State.epochOf, s.cart_recd_numbered cls _ _ _ rfl]
  exact Sparse.get_set _ _ _ _ _

/-- EPOCH carts of distinct classes: one each, with the number that its class's counter showed. -/
theorem State.forEach_epochOf {l : List Nat} (hl : l.Nodup) (kind tick : Nat) (s : State) :
    (s.forEach l (fun s c => s.epochOf kind tick c)).carts = (l.map (fun c => epochCart kind tick c (s.seqOf c))).reverse ++ s.carts ∧
      ∀ k, (s.forEach l (fun s c => s.epochOf kind tick c)).seqOf k = if k ∈ l then (s.seqOf k + 1) % 2 ^ 32 else s.seqOf k := by
  induction l generalizing s with
  | nil => exact ⟨rfl, fun k => (if_neg List.not_mem_nil).symm⟩
  | cons c l ih =>
    obtain ⟨hc, hl⟩ := List.nodup_cons.1 hl
    obtain ⟨hcarts, hseq⟩ := ih hl (s.epochOf kind tick c)
    have hrest : ∀ k ∈ l, (s.epochOf kind tick c).seqOf k = s.seqOf k := fun k hk => by
      rw [s.epochOf_seqOf, if_neg (by rintro rfl; exact hc hk)]
    rw [State.forEach_cons]
    refine ⟨?_, fun k => ?_⟩
    · rw [hcarts, s.epochOf_carts, List.map_congr_left fun k hk => by rw [hrest k hk], List.map_cons, List.reverse_cons,
        List.append_assoc]
      rfl
    · rw [hseq, s.epochOf_seqOf]
      by_cases hk : k = c
      · subst hk
        rw [if_neg hc, if_pos rfl, if_pos List.mem_cons_self]
      · rw [if_neg hk]
        simp only [List.mem_cons, hk, false_or]

theorem State.epochCarts_eq (s : State) (kind tick : Nat) :
    s.epochCarts kind tick = s.forEach (List.range 8) (fun s c => s.epochOf kind tick c) := rfl

theorem State.epochCarts_carts (s : State) (kind tick : Nat) : OnlyCarts s (s.epochCarts kind tick) := by
  rw [State.epochCarts_eq]
  exact OnlyCarts.forEach (fun s _ => s.cart_onlyCarts _ _ _ _ _) _ s

theorem OnlyCarts.run_eq {s t : State} (h : OnlyCarts s t) : run s t = .next t :=
  Sys2Proof.Machine.run_eq h.tick_eq h.pending_eq

theorem exec_epochTickMarker {s : State} (h : s.tick % 2 ^ 48 = 0) : exec .epochTickMarker s = .next (s.epochCarts 1 s.tick) := by
  have heq : exec .epochTickMarker s = run s (s.when (s.tick % 2 ^ 48 == 0) (fun s => s.epochCarts 1 s.tick)) := rfl
  rw [heq, h, show ((0 : Nat) == 0) = true from rfl, State.when_true, (s.epochCarts_carts 1 s.tick).run_eq]

/-! ### The P_PIN cart in the making (R422) -/

/-- The six entries of a P_PIN cart written. -/
def State.pinWritten (s : State) : State :=
  ({ s with recd := { s.recd with pinPart := [] } }).cart 0x21 s.provCls s.recd.pinAt 63
    (sixEntries (quad [(56, 2, 3)]) s.recd.pinPart)

theorem State.pinWritten_carts (s : State) : OnlyCarts { s with recd := { s.recd with pinPart := [] } } s.pinWritten :=
  State.cart_onlyCarts _ _ _ _ _ _

theorem State.provFlush_pin {s : State} (hpin : s.recd.pinPart ≠ []) (hold : s.recd.pinAt / 128 + 32 ≤ s.tick) (hcmp : s.recd.cmpPart = [])
    (hadc : s.recd.adcPart = []) : s.provFlush = s.pinWritten := by
  have hflush : s.flushPin = s.pinWritten := if_neg (by simpa using hpin)
  have hrecd : s.pinWritten.recd = { s.recd with pinPart := [], seq := s.pinWritten.recd.seq } := by rw [s.pinWritten_carts]
  have hnone : s.pinWritten.flushCmp = s.pinWritten := if_pos (by rw [hrecd, hcmp]; rfl)
  unfold State.provFlush
  simp only [decide_eq_true hold, if_true, hflush, hnone, ite_self]
  rw [hrecd, hadc]
  rfl

/-! ### The record SRAM (R36, R275) -/

theorem State.storeTake_moves (s : State) : s.storeTake.store.held ++ s.storeTake.store.stage =
    s.store.held ++ s.store.stage ++ (s.carts.take (s.carts.length - s.store.seen)).reverse := by
  simp only [State.storeTake, List.append_assoc, List.take_append_drop]

theorem State.storeTake_room (s : State) : s.storeTake.store.held.length ≤ s.store.held.length + 128 := by
  simp only [State.storeTake, List.length_append, List.length_take]
  exact Nat.add_le_add_left (Nat.min_le_left _ _) _

/-! ### Records of a sequence of carts (R275) -/

/-- The grouping of a sequence of carts: those before the first cart of PART 0, and the records after it. -/
def grouped (l : List Cart) : List Cart × List (List Cart) :=
  l.foldr (fun c r => if c.part = 0 then ([], (c :: r.1) :: r.2) else (c :: r.1, r.2)) ([], [])

theorem recordsOf_eq (l : List Cart) : recordsOf l = (grouped l).2 := rfl

theorem grouped_cons (c : Cart) (l : List Cart) :
    grouped (c :: l) = if c.part = 0 then ([], (c :: (grouped l).1) :: (grouped l).2) else (c :: (grouped l).1, (grouped l).2) := rfl

/-- The grouping neither loses nor moves a cart. -/
theorem grouped_flatten (l : List Cart) : (grouped l).1 ++ (grouped l).2.flatten = l := by
  induction l with
  | nil => rfl
  | cons c l ih =>
    rw [grouped_cons]
    by_cases hc : c.part = 0
    · rw [if_pos hc]
      exact congrArg (c :: ·) ih
    · rw [if_neg hc]
      exact congrArg (c :: ·) ih

/-- Carts whose first is the first of a record are all of records. -/
theorem recordsOf_flatten {l : List Cart} (h : ∀ c, l.head? = some c → c.part = 0) : (recordsOf l).flatten = l := by
  cases l with
  | nil => rfl
  | cons c l =>
    have hall := grouped_flatten (c :: l)
    rw [grouped_cons, if_pos (h c rfl)] at hall
    rw [recordsOf_eq, grouped_cons, if_pos (h c rfl)]
    exact hall

/-- Taking records out loses none and doubles none. -/
theorem takeRecords_count (cls skip n : Nat) (l : List (List Cart)) (c : Cart) :
    (takeRecords cls skip n l).1.flatten.count c + (takeRecords cls skip n l).2.flatten.count c = l.flatten.count c := by
  induction l generalizing skip n with
  | nil => rfl
  | cons r l ih =>
    unfold takeRecords
    dsimp only
    split_ifs
    · have := ih skip n
      simp only [List.flatten_cons, List.count_append]
      omega
    · split
      · next k =>
        have := ih k n
        simp only [List.flatten_cons, List.count_append]
        omega
      · have := ih 0 0
        simp only [List.flatten_cons, List.count_append]
        omega
      · next m =>
        have := ih 0 m
        simp only [List.flatten_cons, List.count_append]
        omega

/-- A record of a class. -/
def ofClass (cls : Nat) (r : List Cart) : Bool := decide ((r.head?.map (fun c => c.cls)) = some cls)

/-- What is taken is the first records of the class. -/
theorem takeRecords_first (cls n : Nat) (l : List (List Cart)) :
    (takeRecords cls 0 n l).1 = (l.filter (ofClass cls)).take n := by
  induction l generalizing n with
  | nil => rw [List.filter_nil, List.take_nil]; rfl
  | cons r l ih =>
    unfold takeRecords
    dsimp only
    by_cases hr : (r.head?.map (fun c => c.cls)) = some cls
    · rw [if_neg (not_not.2 hr), List.filter_cons_of_pos (p := ofClass cls) (decide_eq_true hr)]
      cases n with
      | zero => rw [List.take_zero]; exact (ih 0).trans List.take_zero
      | succ m => rw [List.take_succ_cons, ← ih m]
    · rw [if_pos hr, List.filter_cons_of_neg (p := ofClass cls) (by simpa [ofClass] using hr)]
      exact ih n

/-- The records that fit take no more than the room. -/
theorem fitting_room (room : Nat) (l : List (List Cart)) : (l.take (fitting room l)).flatten.length ≤ room := by
  induction l generalizing room with
  | nil => simp
  | cons r l ih =>
    unfold fitting
    split
    · next h =>
      have := ih (room - r.length)
      obtain ⟨hlen, -⟩ := h
      rw [List.take_succ_cons, List.flatten_cons, List.length_append]
      omega
    · simp

/-! ### A unit (R275 to R277) -/

/-- What a unit of a class takes of the records that wait, and what stays. -/
def State.unitTaken (s : State) (cls size : Nat) : List (List Cart) × List (List Cart) :=
  takeRecords cls 0 (fitting (size - 1) ((recordsOf s.store.held).filter (ofClass cls))) (recordsOf s.store.held)

theorem State.unitTaken_room (s : State) (cls size : Nat) : (s.unitTaken cls size).1.flatten.length ≤ size - 1 := by
  rw [State.unitTaken, takeRecords_first]
  exact fitting_room _ _

theorem State.unitTaken_count (s : State) (cls size : Nat) (h : ∀ c, s.store.held.head? = some c → c.part = 0) (c : Cart) :
    (s.unitTaken cls size).1.flatten.count c + (s.unitTaken cls size).2.flatten.count c = s.store.held.count c := by
  rw [State.unitTaken, takeRecords_count, recordsOf_flatten h]

/-- The record number that a unit names as its first. -/
def State.unitFirst (s : State) (cls size : Nat) : Nat :=
  match (s.unitTaken cls size).1.flatten.head? with
  | some c => c.seq
  | none => s.seqOf cls

/-- A PAD cart of a class. -/
def State.padCart (s : State) (cls : Nat) : Cart := ⟨0x00, cls, 0, 0, 0, 0, 63, 0, s.seqOf cls, []⟩

/-- The carts of a unit. -/
def State.unitCarts (s : State) (cls addr session size : Nat) : List Cart :=
  s.unitCart cls false addr session (s.unitFirst cls size) :: ((s.unitTaken cls size).1.flatten ++
    List.replicate (size - 1 - (s.unitTaken cls size).1.flatten.length) (s.padCart cls))

theorem State.writeUnit_eq (s : State) (cls addr session size : Nat) : s.writeUnit cls addr session size =
    { s with store := { s.store with held := (s.unitTaken cls size).2.flatten
                                     units := ⟨cls, false, addr, s.unitCarts cls addr session size⟩ :: s.store.units
                                     prevUnit := s.store.prevUnit.set (fun _ => 2 ^ 48 - 1) cls addr } } := rfl

theorem State.unitCarts_length (s : State) (cls addr session : Nat) {size : Nat} (h : 0 < size) :
    (s.unitCarts cls addr session size).length = size := by
  have hroom := s.unitTaken_room cls size
  rw [State.unitCarts, List.length_cons, List.length_append, List.length_replicate]
  omega

/-- A cart that is neither UNIT nor PAD is in the unit as often as the unit took it. -/
theorem State.unitCarts_count (s : State) (cls addr session size : Nat) {c : Cart} (hpad : c.typ ≠ 0x00) (hunit : c.typ ≠ 0x01) :
    (s.unitCarts cls addr session size).count c = (s.unitTaken cls size).1.flatten.count c := by
  have hu : s.unitCart cls false addr session (s.unitFirst cls size) ≠ c := fun h => hunit (by rw [← h]; rfl)
  have hp : s.padCart cls ≠ c := fun h => hpad (by rw [← h]; rfl)
  rw [State.unitCarts, List.count_cons_of_ne hu, List.count_append, List.count_replicate, if_neg (by simpa using hp), Nat.add_zero]

/-- Settles O34. That the units' instants are operands is log entry 97. -/
theorem recorderWritesItsOwnCarts : Obligations.RecorderWritesItsOwnCarts := by
  refine ⟨fun s h => ?_, fun cls beyond first last s => ?_, fun s hpin hold hcmp hadc => ?_, fun s _ =>
    ⟨s.storeTake_moves, s.storeTake_room, rfl⟩, fun cls addr session size s t hsize hhead ht => ?_⟩
  · obtain ⟨hcarts, hseq⟩ := s.forEach_epochOf List.nodup_range 1 s.tick (l := List.range 8)
    refine ⟨_, _, exec_epochTickMarker h, hcarts, by simp, fun x hx => ?_, fun k hk => ?_, fun k => ?_, s.epochCarts_carts 1 s.tick⟩
    · obtain ⟨c, -, rfl⟩ := List.mem_map.1 (List.mem_reverse.1 hx)
      have htick : st0 s.tick / 128 = s.tick := Nat.mul_div_cancel _ (by decide)
      exact ⟨rfl, (congrArg (· % 2 ^ 48) htick).trans h, Nat.mul_mod_left _ _, rfl⟩
    · exact ⟨_, List.mem_reverse.2 (List.mem_map_of_mem (List.mem_range.2 hk)), rfl⟩
    · rw [State.epochCarts_eq, hseq]
      simp only [List.mem_range]
  · have htick : st0 first / 128 = first := Nat.mul_div_cancel _ (by decide)
    exact ⟨_, (s.cart_onlyCarts 0x13 cls _ 63 _).run_eq, rfl, _, rfl, rfl, rfl, congrArg (· % 2 ^ 48) htick, Nat.mul_mod_left _ _, rfl,
      rfl⟩
  · have hwritten := s.pinWritten_carts
    have hone : OneCart 0x21 s.provCls s.recd.pinAt { s with recd := { s.recd with pinPart := [] } } s.pinWritten :=
      State.cart_oneCart _ _ _ _ _ rfl
    refine ⟨_, (congrArg (run s) (State.provFlush_pin hpin hold hcmp hadc)).trans
      (run_eq hwritten.tick_eq hwritten.pending_eq), ?_, hone, hwritten⟩
    rw [hwritten]
  · have heq : t = s.writeUnit cls addr.toNat session.toNat size := ht
    rw [heq, State.writeUnit_eq]
    refine ⟨_, rfl, rfl, rfl, rfl, s.unitCarts_length _ _ _ hsize, ⟨_, rfl, rfl⟩, (Sparse.get_set _ _ _ _ _).trans (if_pos rfl),
      fun c hpad hunit => ?_, rfl⟩
    rw [s.unitCarts_count _ _ _ _ hpad hunit]
    exact s.unitTaken_count cls size hhead c

end Sys2Proof.Machine
end

section
/-! PROOFS. The maintenance ledger's recorder work (chapter 15: R391, R392). -/

namespace Sys2Proof.Machine

/-! ### One bit of a mask -/

theorem setBit_eq (w k : Nat) (v : Bool) : setBit w k v = 2 ^ k * (2 * (w / 2 ^ k / 2) + v.toNat) + w % 2 ^ k := by
  have hw : w = 2 ^ k * (2 * (w / 2 ^ k / 2) + w / 2 ^ k % 2) + w % 2 ^ k := by
    rw [Nat.div_add_mod (w / 2 ^ k) 2, Nat.div_add_mod]
  have hbit : w / 2 ^ k % 2 = (hasBit w k).toNat := by
    have hlt : w / 2 ^ k % 2 < 2 := Nat.mod_lt _ (by decide)
    unfold hasBit
    interval_cases w / 2 ^ k % 2 <;> rfl
  rw [hbit] at hw
  unfold setBit
  generalize w / 2 ^ k / 2 = q at hw ⊢
  generalize w % 2 ^ k = r at hw ⊢
  generalize 2 ^ k = p at hw ⊢
  cases hb : hasBit w k <;> cases v <;> rw [hb] at hw <;> simp [Nat.mul_add] at hw ⊢ <;> omega

/-- Setting one bit leaves the others. -/
theorem hasBit_setBit_ne (w : Nat) {k j : Nat} (v : Bool) (h : j ≠ k) : hasBit (setBit w k v) j = hasBit w j := by
  have hr : w % 2 ^ k < 2 ^ k := Nat.mod_lt _ (Nat.two_pow_pos k)
  have hw : w.testBit j = (2 ^ k * (w / 2 ^ k) + w % 2 ^ k).testBit j := by rw [Nat.div_add_mod]
  rw [hasBit_testBit, hasBit_testBit, setBit_eq, hw, Nat.testBit_two_pow_mul_add _ hr, Nat.testBit_two_pow_mul_add _ hr]
  by_cases hlt : j < k
  · rw [if_pos hlt, if_pos hlt]
  · obtain ⟨i, hi⟩ := Nat.exists_eq_add_of_lt (Nat.lt_of_le_of_ne (Nat.not_lt.1 hlt) (Ne.symm h))
    have hji : j - k = i + 1 := by omega
    have hdiv : (2 * (w / 2 ^ k / 2) + v.toNat) / 2 = w / 2 ^ k / 2 := by
      have := Bool.toNat_lt v
      omega
    rw [if_neg hlt, if_neg hlt, hji, Nat.testBit_succ, Nat.testBit_succ, hdiv]

theorem State.active_setActive_ne (s : State) {k j : Nat} (v : Bool) (h : j ≠ k) (hj : j < 6) :
    (s.setActive k v).active j = s.active j := by
  have hget : (s.setActive k v).get Reg.FLT.LEDGER.ACTIVE = setBit (s.get Reg.FLT.LEDGER.ACTIVE) k v % 2 ^ 6 :=
    State.get_put_self _ _ (by decide)
  rw [State.active, hget, hasBit_testBit, Nat.testBit_mod_two_pow, ← hasBit_testBit, hasBit_setBit_ne _ _ h, decide_eq_true hj,
    Bool.true_and, State.active]

theorem State.isQueued_setQueued (s : State) {k : Nat} (v : Bool) (hk : k < 6) : (s.setQueued k v).isQueued k = v := by
  have hget : (s.setQueued k v).get Reg.FLT.LEDGER.QUEUED = setBit (s.get Reg.FLT.LEDGER.QUEUED) k v % 2 ^ 6 :=
    State.get_put_self _ _ (by decide)
  rw [State.isQueued, hget, hasBit_testBit, Nat.testBit_mod_two_pow, ← hasBit_testBit, hasBit_setBit_self, decide_eq_true hk,
    Bool.true_and]

theorem State.setActive_frame (s : State) (k : Nat) (v : Bool) : OnlyFields [Reg.FLT.LEDGER.ACTIVE] s (s.setActive k v) :=
  (OnlyFields.refl _ s).andPut

/-! ### A start (R391) -/

theorem State.ledgerStart_now {s : State} {k : Nat} (ha : s.active k = false) (hq : s.isQueued k = false)
    (hr : s.active (kRival k) = false) : s.ledgerStart k = s.setActive k true := by
  unfold State.ledgerStart
  rw [if_neg (by rw [ha, hq]; decide), if_neg (by rw [hr]; decide)]

theorem State.ledgerStart_waits {s : State} {k : Nat} (ha : s.active k = false) (hq : s.isQueued k = false)
    (hr : s.active (kRival k) = true) : s.ledgerStart k = s.enqueue k 0 0 := by
  unfold State.ledgerStart
  rw [if_neg (by rw [ha, hq]; decide), if_pos hr]

/-- The state with other queued requests. -/
def State.withQueue (s : State) (q : List Held) : State := { s with flt := { s.flt with queue := q } }

theorem State.enqueue_eq (s : State) (k arg door : Nat) : s.enqueue k arg door =
    ((s.withQueue (s.flt.queue ++ [⟨k, arg, door⟩])).setQueued k true).raise (page .flt 0) 4 := rfl

theorem State.enqueue_frame (s : State) (k arg door : Nat) : OnlyFields [Reg.FLT.LEDGER.QUEUED, rawBit (page .flt 0) 4]
    (s.withQueue (s.flt.queue ++ [⟨k, arg, door⟩])) (s.enqueue k arg door) :=
  ((OnlyFields.refl _ _).andPut).andRaise

theorem State.enqueue_queued (s : State) {k : Nat} (arg door : Nat) (hk : k < 6) : (s.enqueue k arg door).isQueued k = true := by
  rw [State.isQueued, s.enqueue_eq, State.get_raise_ne _ (by decide), ← State.isQueued, State.isQueued_setQueued _ _ hk]

/-- A frame that begins at another queue. -/
theorem OnlyFields.of_withQueue {fs : List FieldRef} {s t : State} {q : List Held} (h : OnlyFields fs (s.withQueue q) t) :
    t = { s with regs := t.regs, flt := { s.flt with queue := q } } ∧ FieldsKept fs s t :=
  ⟨h.1, (FieldsKept.of_regs rfl).trans h.2⟩

theorem exec_ledgerStart {i : Instr} {k : Nat} {s : State} (hi : (i = .driveRetirement ∧ k = kRetire) ∨ (i = .volumeScrub ∧ k = kScrub))
    (hon : s.clockOn = true) : exec i s = run s (s.ledgerStart k) := by
  have hwhen : ∀ f : State → State, s.when s.clockOn f = f s := fun f => by rw [hon, State.when_true]
  rcases hi with ⟨rfl, rfl⟩ | ⟨rfl, rfl⟩
  · exact congrArg (run s) (hwhen _)
  · exact congrArg (run s) (hwhen _)

theorem exec_ledgerEnd {i : Instr} {k : Nat} (s : State)
    (hi : (i = .driveRetirementEnd ∧ k = kRetire) ∨ (i = .volumeScrubEnd ∧ k = kScrub)) : exec i s = run s (s.setActive k false) := by
  rcases hi with ⟨rfl, rfl⟩ | ⟨rfl, rfl⟩ <;> rfl

/-! ### A release (R392) -/

/-- A queued request of the recorder released. -/
def State.released (s : State) (h : Held) : State := ((s.unqueue h.kind h.arg).raise (page .flt 0) 5).setActive h.kind true

theorem State.judgeHeld_recorder (s : State) {h : Held} (hk : h.kind = kRetire ∨ h.kind = kScrub) : s.judgeHeld h = s.released h := by
  unfold State.judgeHeld
  rcases hk with hk | hk
  · rw [hk, if_neg (by decide), if_neg (by decide), if_neg (by decide), if_neg (by decide), State.released, hk]
  · rw [hk, if_neg (by decide), if_neg (by decide), if_neg (by decide), if_neg (by decide), State.released, hk]

/-- The queue without the requests that a release takes out. -/
def State.queueLess (s : State) (h : Held) : List Held := s.flt.queue.filter (fun x => !(x.kind == h.kind && x.arg == h.arg))

theorem State.released_frame (s : State) (h : Held) : OnlyFields [Reg.FLT.LEDGER.ACTIVE, Reg.FLT.LEDGER.QUEUED, rawBit (page .flt 0) 5]
    (s.withQueue (s.queueLess h)) (s.released h) :=
  (((OnlyFields.refl _ _).andPut).andRaise).andPut

theorem State.not_mem_queueLess (s : State) (h : Held) : h ∉ s.queueLess h := by
  simp [State.queueLess]

/-- LEDGER_RELEASE of recorder work finds the first request of its kind. -/
theorem exec_ledgerRelease {k : Fin 6} {w : WheelNo} {h : Held} {s : State} (hk : k.val = kRetire ∨ k.val = kScrub)
    (hfind : s.flt.queue.find? (fun x => x.kind == k.val) = some h) :
    exec (.ledgerRelease k w) s = run s (if s.active (kRival k) then s else s.judgeHeld h) := by
  have hlearn : (k.val != kLearn) = true := by rcases hk with hk | hk <;> rw [hk] <;> rfl
  have hsame : (fun x : Held => x.kind == k.val && (k.val != kLearn || x.arg == w.val)) = fun x => x.kind == k.val := by
    funext x
    rw [hlearn, Bool.true_or, Bool.and_true]
  have heq : exec (.ledgerRelease k w) s = run s (match s.flt.queue.find?
      (fun h => h.kind == k.val && (k.val != kLearn || h.arg == w.val)) with
    | some h => if s.active (kRival k) then s else s.judgeHeld h
    | none => s) := rfl
  rw [heq, hsame, hfind]

/-- Settles O47. That the work lasts from its own row to the row of its end is log entry 104. -/
theorem ledgerSerialisesRecorderWork : Obligations.LedgerSerialisesRecorderWork := by
  refine ⟨fun i k s hi hon ha hq => ⟨fun hr => ?_, fun hr => ?_⟩, fun i k s hi => ?_, fun k w h s hk hfind => ⟨fun hr => ?_, fun hr => ?_⟩⟩
  · have hk6 : k < 6 := by rcases hi with ⟨-, rfl⟩ | ⟨-, rfl⟩ <;> decide
    exact ⟨_, (exec_ledgerStart hi hon).trans ((congrArg (run s) (State.ledgerStart_now ha hq hr)).trans (s.setActive_frame k true).run_eq),
      s.active_setActive true hk6, fun j hj hne => s.active_setActive_ne true hne hj, s.setActive_frame k true⟩
  · have hk6 : k < 6 := by rcases hi with ⟨-, rfl⟩ | ⟨-, rfl⟩ <;> decide
    have hframe := s.enqueue_frame k 0 0
    exact ⟨_, (exec_ledgerStart hi hon).trans ((congrArg (run s) (State.ledgerStart_waits ha hq hr)).trans
      (run_eq hframe.tick_eq hframe.pending_eq)), s.enqueue_queued 0 0 hk6, State.isRaised_raise _ _ (by decide), hframe.of_withQueue⟩
  · have hk6 : k < 6 := by rcases hi with ⟨-, rfl⟩ | ⟨-, rfl⟩ <;> decide
    exact ⟨_, (exec_ledgerEnd s hi).trans (s.setActive_frame k false).run_eq, s.active_setActive false hk6,
      fun j hj hne => s.active_setActive_ne false hne hj, s.setActive_frame k false⟩
  · rw [exec_ledgerRelease hk hfind, if_pos hr]
    exact run_eq rfl rfl
  · have hkind : h.kind = k.val := by simpa using List.find?_some hfind
    have hframe := s.released_frame h
    have hqueue : (s.released h).flt.queue = s.queueLess h := by
      obtain ⟨hstate, -⟩ := hframe
      rw [hstate, State.withQueue]
    have hrun : run s (if s.active (kRival k) then s else s.judgeHeld h) = .next (s.released h) := by
      rw [if_neg (by rw [hr]; decide), State.judgeHeld_recorder s (hkind ▸ hk)]
      exact run_eq hframe.tick_eq hframe.pending_eq
    refine ⟨_, (exec_ledgerRelease hk hfind).trans hrun, ?_, ?_, ?_, ?_⟩
    · rw [← hkind]
      exact State.active_setActive _ true (by rw [hkind]; exact k.isLt)
    · exact (State.isRaised_put_iff _ _ (by decide) (by decide)).2 (State.isRaised_raise _ _ (by decide))
    · rw [hqueue]
      exact s.not_mem_queueLess h
    · rw [hqueue]
      exact hframe.of_withQueue

end Sys2Proof.Machine
end

section
/-! PROOFS. Faults of functions and of doors' paths (chapter 15: R377 to R379). -/

namespace Sys2Proof.Machine

/-! ### What an entry with action SHUTTERED shows -/

theorem shutCnt_top : Reg.FLT.SHUT_CNT.COUNT.top = 2 ^ 32 - 1 := by simp [FieldRef.top]

theorem State.logEntered_get (s : State) (cause block inst action data : Nat) {f : FieldRef} (hlog : Reg.FLT.LOG_COUNT.COUNT.apart f)
    (herr : (Reg.HEAD.PG_ERRCNT.COUNT (page .flt 0)).apart f) (hraw : f.addr ≠ page .flt 0 + 0x10) :
    (s.logEntered cause block inst action data).get f = s.get f := by
  rw [State.logEntered, State.get_raise_ne _ hraw, State.get_err_apart _ herr, State.get_put_apart _ _ (by decide) hlog]
  exact State.get_of_regs rfl f

theorem State.logFault_shut (s : State) (cause block inst data : Nat) : s.logFault cause block inst aShuttered data =
    ((s.logEntered cause block inst aShuttered data).bump Reg.FLT.SHUT_CNT.COUNT).raise (page .flt 0) 1 := by
  rw [State.logFault_eq, State.actionCounted, if_pos rfl, if_neg (by decide)]

theorem State.logFault_shutCnt (s : State) (cause block inst data : Nat) :
    (s.logFault cause block inst aShuttered data).get Reg.FLT.SHUT_CNT.COUNT = min (2 ^ 32 - 1) (s.get Reg.FLT.SHUT_CNT.COUNT + 1) := by
  rw [State.logFault_shut, State.get_raise_ne _ (by decide), State.get_bump_self _ (by decide), shutCnt_top,
    State.logEntered_get _ _ _ _ _ _ (by decide) (by decide) (by decide)]

theorem State.logFault_shutRaised (s : State) (cause block inst data : Nat) :
    (s.logFault cause block inst aShuttered data).isRaised (page .flt 0) 1 := by
  rw [State.logFault_shut]
  exact State.isRaised_raise _ _ (by decide)

/-! ### A function's fault (R377, R379) -/

/-- A shutter waits for the next Apply. -/
def State.shutWaits (s : State) (x : ShutPend) : State := { s with flt := { s.flt with shutPend := s.flt.shutPend ++ [x] } }

theorem State.shutWaits_tick (s : State) (x : ShutPend) : (s.shutWaits x).tick = s.tick := rfl

theorem State.shutWaits_pending (s : State) (x : ShutPend) : (s.shutWaits x).pending = s.pending := rfl

theorem State.shutWaits_regs (s : State) (x : ShutPend) : (s.shutWaits x).regs = s.regs := rfl

theorem State.shutWaits_flt (s : State) (x : ShutPend) : (s.shutWaits x).flt = { s.flt with shutPend := s.flt.shutPend ++ [x] } := rfl

theorem State.shutWaits_pend (s : State) (x : ShutPend) : (s.shutWaits x).flt.shutPend = s.flt.shutPend ++ [x] := rfl

theorem State.shutWaits_get (s : State) (x : ShutPend) (f : FieldRef) : (s.shutWaits x).get f = s.get f := rfl

theorem State.shutWaits_isRaised (s : State) (x : ShutPend) (p k : Nat) : (s.shutWaits x).isRaised p k ↔ s.isRaised p k := Iff.rfl

theorem State.fnFault_eq {s : State} {f : FnKind} {n cause : Nat} (hf : fnExists f n = true) (hc : (fnCauses f).contains cause = true) :
    s.fnFault f n cause = (s.logFault cause (fnBlock f).code n aShuttered 0).shutWaits ⟨fnPage f n, cause⟩ := by
  unfold State.fnFault
  rw [if_neg (by rw [hf, hc]; decide)]
  rfl

theorem allFns_find (f : FnKind) : allFns.find? (fun g => (fnBlock g).code == (fnBlock f).code) = some f := by
  cases f <;> decide

theorem fnOfCode_code {f : FnKind} {n : Nat} (hf : fnExists f n = true) : fnOfCode (fnBlock f).code n = some f := by
  rw [fnOfCode, allFns_find, Option.filter_some, if_pos hf]

theorem fnCauses_le {f : FnKind} {cause : Nat} (h : (fnCauses f).contains cause = true) : cause ≤ 7 ∧ cause ≠ 6 := by
  cases f <;> simp [fnCauses] at h <;> omega

theorem State.report_fn {s : State} {r : FaultReport} {f : FnKind} {n : Nat} (hf : fnExists f n = true)
    (hc : (fnCauses f).contains r.cause.toNat = true) (hb : r.block.toNat = (fnBlock f).code) (hn : r.inst.toNat = n) :
    s.report r = s.fnFault f n r.cause.toNat := by
  obtain ⟨hle, hne⟩ := fnCauses_le hc
  unfold State.report
  dsimp only
  rw [if_neg hne, if_neg (by omega), if_neg (by omega), if_neg (by omega), if_neg (by omega), if_neg (by omega), if_neg (by omega),
    if_neg (by omega), if_neg (by omega), if_neg (by omega), if_neg (by omega), if_neg (by omega), if_neg (by omega), hb, hn,
    fnOfCode_code hf]

/-- Every command that reports a fault of a function runs it as one. -/
theorem exec_fnFault {i : Instr} {f : FnKind} {n : Fin 64} {cause : Nat} {r : FaultReport} {s : State} (hon : s.clockOn = true)
    (hf : fnExists f n = true) (hc : (fnCauses f).contains cause = true)
    (hi : (i = .lockstep f n ∧ cause = 2) ∨ (i = .gateReadback n ∧ f = .drv ∧ cause = 3) ∨
      (∃ u : AdcNo, i = .refMon u ∧ f = .adc ∧ n.val = u.val ∧ cause = 4) ∨
      (∃ l : LinkNo, i = .noFrames l ∧ f = .lnk ∧ n.val = l.val ∧ cause = 5 ∧ (s.lnkState l = 5 ∨ s.lnkState l = 6)) ∨
      (i = .faultReport r ∧ r.cause.toNat = cause ∧ r.block.toNat = (fnBlock f).code ∧ r.inst.toNat = n)) :
    exec i s = run s (s.fnFault f n cause) := by
  have hwhen : ∀ g : State → State, s.when s.clockOn g = g s := fun g => by rw [hon, State.when_true]
  rcases hi with ⟨rfl, rfl⟩ | ⟨rfl, rfl, rfl⟩ | ⟨u, rfl, rfl, hn, rfl⟩ | ⟨l, rfl, rfl, hn, rfl, hst⟩ | ⟨rfl, rfl, hb, hn⟩
  · exact congrArg (run s) (hwhen _)
  · exact congrArg (run s) (hwhen _)
  · rw [hn]
    exact congrArg (run s) (hwhen _)
  · have hopen : (s.clockOn && (s.lnkState l == 5 || s.lnkState l == 6)) = true := by
      rw [hon]
      simpa using hst
    have heq : exec (.noFrames l) s =
        run s (s.when (s.clockOn && (s.lnkState l == 5 || s.lnkState l == 6)) (fun s => s.fnFault .lnk l 0x05)) := rfl
    rw [heq, hopen, State.when_true, hn]
  · exact (congrArg (run s) (hwhen _)).trans (congrArg (run s) (State.report_fn hf hc hb hn))

/-! ### A door's path (R379, R294) -/

/-- What DOOR_PATH does to a door: the cause FAULT, held while the door is DOWN. -/
def faultGiven (st : Nat) (x : Door) : Door := if st = 0 then { x with heldFault := true } else { x with causes := insertNat 5 x.causes }

theorem State.doorCause_fault {s : State} {d : Nat} (h : s.doorState d < 3) :
    s.doorCause d 5 = s.setDoor d (faultGiven (s.doorState d) (s.door d)) := by
  have heq : s.doorCause d 5 = if s.doorState d = 1 ∨ ((5 : Nat) = 5 ∧ s.doorState d = 2) then
      s.setDoor d { s.door d with causes := insertNat 5 (s.door d).causes }
    else if (5 : Nat) = 5 ∧ s.doorState d = 0 then s.setDoor d { s.door d with heldFault := true } else s := rfl
  rw [heq, faultGiven]
  by_cases h0 : s.doorState d = 0
  · rw [if_neg (by omega), if_pos ⟨rfl, h0⟩, if_pos h0]
  · rw [if_pos (by omega), if_neg h0]

theorem State.logFault_door (s : State) (cause block inst action data d : Nat) :
    (s.logFault cause block inst action data).door d = s.door d := by
  have hdoors : (s.logFault cause block inst action data).doors = s.doors := by rw [s.logFault_state]
  rw [State.door, State.door, hdoors]

theorem State.logFault_doorState (s : State) (cause block inst action data : Nat) {d : Nat} :
    (s.logFault cause block inst action data).doorState d = s.doorState d :=
  (s.logFault_kept cause block inst action data).get (by simp [FieldRef.ok]) (by simp [logFields, FieldRef.apart, rawBit]; omega)

/-- Settles O42. -/
theorem faultsAreLoggedThenShuttered : Obligations.FaultsAreLoggedThenShuttered := by
  refine ⟨fun i f n cause r s hon hf hc hi => ?_, fun d s hon hst => ?_⟩
  · have hstate := s.logFault_state cause (fnBlock f).code n aShuttered 0
    have hrecord := s.logFault_sameRecord cause (fnBlock f).code n aShuttered 0
    have hlogged := s.logFault_logged cause (fnBlock f).code aShuttered 0 (Nat.lt_trans n.isLt (by decide))
    obtain ⟨hflt, -, -⟩ := id hlogged
    have hpend : (s.logFault cause (fnBlock f).code n aShuttered 0).flt.shutPend = s.flt.shutPend := by rw [hflt]
    refine ⟨_, (exec_fnFault hon hf hc hi).trans ((congrArg (run s) (State.fnFault_eq hf hc)).trans
      (run_eq ((State.shutWaits_tick _ _).trans hrecord.tick) ((State.shutWaits_pending _ _).trans hrecord.pending))), ?_, ?_,
      (State.shutWaits_isRaised _ _ _ _).2 (s.logFault_shutRaised _ _ _ _),
      (State.shutWaits_get _ _ _).trans (s.logFault_shutCnt _ _ _ _), ?_, (s.logFault_kept _ _ _ _ _).andSame (State.shutWaits_regs _ _)⟩
    · rw [State.shutWaits_pend, hpend]
    · refine hlogged.of_same rfl rfl rfl ?_ fun g _ => State.get_of_regs (State.shutWaits_regs _ ⟨fnPage f n, cause⟩) g
      rw [← hpend, State.shutWaits_flt]
    · generalize s.logFault cause (fnBlock f).code n aShuttered 0 = u at hstate ⊢
      rw [hstate]
      rfl
  · have hrecord := s.logFault_sameRecord 0x06 0x60 d aShuttered d
    have hdoors := s.logFault_door 0x06 0x60 d aShuttered d
    have hst' := s.logFault_doorState 0x06 0x60 d aShuttered d (d := d)
    have hpath : s.doorPath d = (s.logFault 0x06 0x60 d aShuttered d).setDoor d (faultGiven (s.doorState d) (s.door d)) := by
      rw [State.doorPath, State.doorCause_fault (by rw [hst']; exact hst), hst', hdoors]
    have hexec : exec (.doorPath d) s = run s (s.doorPath d) := by
      have heq : exec (.doorPath d) s = run s (s.when s.clockOn (fun s => s.doorPath d)) := rfl
      rw [heq, hon, State.when_true]
    refine ⟨_, hexec.trans ((congrArg (run s) hpath).trans
      (run_eq ((State.setDoor_tick _ _ _).trans hrecord.tick) ((State.setDoor_pending _ _ _).trans hrecord.pending))), ?_,
      (State.setDoor_door _ _ _ _).trans (if_pos rfl), fun e he => ?_, ?_,
      (s.logFault_kept _ _ _ _ _).andSame (State.setDoor_regs _ _ _)⟩
    · exact (s.logFault_logged 0x06 0x60 aShuttered d (Nat.lt_trans d.isLt (by decide))).of_same rfl rfl rfl (State.setDoor_flt _ _ _)
        fun _ _ => State.setDoor_get _ _ _ _
    · rw [State.setDoor_door, if_neg he, hdoors]
    · have hstate := s.logFault_state 0x06 0x60 d aShuttered d
      generalize s.logFault 0x06 0x60 d aShuttered d = u at hstate ⊢
      rw [hstate]
      rfl

end Sys2Proof.Machine
end

section
/-! PROOFS. Trackers: the entry into a state, stalls and RESYNC (chapter 4: R110, R116, R119, R132). -/

section
open Sys2Proof Sys2Proof.Machine

/-! ### Frames of a tracker -/

theorem TrkFrame.trans {w : Nat} {fs : List FieldRef} {s t u : State} (h : TrkFrame w fs s t) (k : TrkFrame w fs t u) :
    TrkFrame w fs s u := by
  obtain ⟨hst, hothers, hkept⟩ := h
  obtain ⟨htu, hothers', hkept'⟩ := k
  exact ⟨by rw [htu, hst], fun n hn => (hothers' n hn).trans (hothers n hn), hkept.trans hkept'⟩

theorem TrkFrame.setTrk (w : Nat) (fs : List FieldRef) (s : State) (x : Tracker) : TrkFrame w fs s (s.setTrk w x) :=
  ⟨rfl, fun k hk => (s.setTrk_tracker w x k).trans (if_neg hk), FieldsKept.of_regs (State.setTrk_regs _ _ _)⟩

theorem TrkFrame.tick_eq {w : Nat} {fs : List FieldRef} {s t : State} (h : TrkFrame w fs s t) : t.tick = s.tick := by rw [h.1]

theorem TrkFrame.pending_eq {w : Nat} {fs : List FieldRef} {s t : State} (h : TrkFrame w fs s t) : t.pending = s.pending := by rw [h.1]

theorem TrkFrame.flt_eq {w : Nat} {fs : List FieldRef} {s t : State} (h : TrkFrame w fs s t) : t.flt = s.flt := by rw [h.1]

theorem TrkFrame.run_eq {w : Nat} {fs : List FieldRef} {s t : State} (h : TrkFrame w fs s t) : run s t = .next t :=
  Sys2Proof.Machine.run_eq h.tick_eq h.pending_eq

theorem TrkFrame.get {w : Nat} {fs : List FieldRef} {s t : State} (h : TrkFrame w fs s t) {g : FieldRef} (ok : g.ok)
    (ha : ∀ f ∈ fs, f.apart g) : t.get g = s.get g := h.2.2.get ok ha

/-- A state in the frame has the tick and the queue of before. -/
theorem TrkFrame.reticked {w : Nat} {fs : List FieldRef} {s t : State} (h : TrkFrame w fs s t) :
    { t with tick := s.tick, pending := s.pending } = t := by
  rw [← h.tick_eq, ← h.pending_eq]

end

namespace Sys2Proof.Machine

theorem OnlyFields.trkFrame {fs : List FieldRef} {s t : State} (h : OnlyFields fs s t) (w : Nat) : TrkFrame w fs s t := by
  obtain ⟨hst, hkept⟩ := h
  have htrk : t.trk = s.trk := by rw [hst]
  refine ⟨?_, fun k _ => by rw [State.tracker, State.tracker, htrk], hkept⟩
  generalize t.regs = r at hst
  subst hst
  rfl

theorem OnlyCarts.trkFrame {s t : State} (h : OnlyCarts s t) (w : Nat) (fs : List FieldRef) : TrkFrame w fs s t := by
  have htrk : t.trk = s.trk := by rw [h]
  have hkept : FieldsKept fs s t := FieldsKept.of_regs h.regs_eq
  refine ⟨?_, fun k _ => by rw [State.tracker, State.tracker, htrk], hkept⟩
  unfold OnlyCarts at h
  generalize t.carts = c, t.recd.seq = q at h
  subst h
  rfl

/-! ### What an entry into a state does (R116, R122) -/

/-- A tracker whose angle is no longer known. -/
def unknownAngle (tr : Tracker) : Tracker := { tr with pred := none, oldPred := none, past := [], learnBad := true }

/-- A tracker before it seeks again: ZERO, phase and period history are forgotten. -/
def forgotten (tr : Tracker) : Tracker := { tr with zero := none, kept := none, hasPrev := false, hist := [], fails := 0 }

/-- STATE takes a value, with STATE_CHANGE. -/
def State.stateShown (s : State) (n v : Nat) : State := (s.put (Reg.WHL.STAT.STATE n) v).raise (page .whl n) 0

/-- Without a valid angle: the flag is 0 and the prediction ends. -/
def State.angleLost (s : State) (n : Nat) : State :=
  (s.put (Reg.WHL.STAT.ANGLE_VALID n) 0).setTrk n (unknownAngle (s.tracker n))

theorem State.wEnter_seeking (s : State) (n : Nat) :
    s.wEnter n 1 = ((s.stateShown n 1).angleLost n).put (Reg.WHL.STAT.HALF n) 0 := by
  simp [State.wEnter, State.stateShown, State.angleLost, unknownAngle]

theorem State.wEnter_stopped (s : State) (n : Nat) : s.wEnter n 0 =
    ((((s.stateShown n 0).put (Reg.WHL.STAT.SPEED_VALID n) 0).raise (page .whl n) 2).angleLost n).put (Reg.WHL.STAT.HALF n) 0 := by
  simp [State.wEnter, State.stateShown, State.angleLost, unknownAngle]

/-- The fields that an entry into SEEKING writes. -/
def seekFields (n : Nat) : List FieldRef :=
  [Reg.WHL.STAT.STATE n, Reg.WHL.STAT.ANGLE_VALID n, Reg.WHL.STAT.HALF n, Reg.WHL.ZERO.ZERO n, rawBit (page .whl n) 0]

/-- The fields that an entry into STOPPED writes. -/
def stopFields (n : Nat) : List FieldRef :=
  [Reg.WHL.STAT.STATE n, Reg.WHL.STAT.SPEED_VALID n, Reg.WHL.STAT.ANGLE_VALID n, Reg.WHL.STAT.HALF n,
    rawBit (page .whl n) 0, rawBit (page .whl n) 2]

theorem State.angleLost_frame {fs : List FieldRef} (s : State) (n : Nat) (hf : Reg.WHL.STAT.ANGLE_VALID n ∈ fs) :
    TrkFrame n fs s (s.angleLost n) :=
  (((OnlyFields.refl fs s).andPut hf).trkFrame n).trans (TrkFrame.setTrk n fs _ _)

theorem State.angleLost_tracker (s : State) (n : Nat) : (s.angleLost n).tracker n = unknownAngle (s.tracker n) := by
  rw [State.angleLost, State.setTrk_tracker, if_pos rfl]

theorem State.wEnter_seeking_frame (s : State) (n : Nat) : TrkFrame n (seekFields n) s (s.wEnter n 1) := by
  have hshown : OnlyFields (seekFields n) s (s.stateShown n 1) :=
    ((OnlyFields.refl _ s).andPut (by simp [seekFields])).andRaise (by simp [seekFields])
  rw [State.wEnter_seeking]
  exact ((hshown.trkFrame n).trans (State.angleLost_frame _ n (by simp [seekFields]))).trans
    (OnlyFields.trkFrame ((OnlyFields.refl _ _).andPut (by simp [seekFields])) n)

theorem State.wEnter_stopped_frame (s : State) (n : Nat) : TrkFrame n (stopFields n) s (s.wEnter n 0) := by
  have hshown : OnlyFields (stopFields n) s
      (((s.stateShown n 0).put (Reg.WHL.STAT.SPEED_VALID n) 0).raise (page .whl n) 2) :=
    ((((OnlyFields.refl _ s).andPut (by simp [stopFields])).andRaise (by simp [stopFields])).andPut
      (by simp [stopFields])).andRaise (by simp [stopFields])
  rw [State.wEnter_stopped]
  exact ((hshown.trkFrame n).trans (State.angleLost_frame _ n (by simp [stopFields]))).trans
    (OnlyFields.trkFrame ((OnlyFields.refl _ _).andPut (by simp [stopFields])) n)

theorem State.wEnter_seeking_tracker (s : State) (n : Nat) : (s.wEnter n 1).tracker n = unknownAngle (s.tracker n) := by
  rw [State.wEnter_seeking, State.put_tracker, State.angleLost_tracker, State.stateShown, State.raise_tracker, State.put_tracker]

theorem State.wEnter_stopped_tracker (s : State) (n : Nat) : (s.wEnter n 0).tracker n = unknownAngle (s.tracker n) := by
  rw [State.wEnter_stopped, State.put_tracker, State.angleLost_tracker, State.raise_tracker, State.put_tracker, State.stateShown,
    State.raise_tracker, State.put_tracker]

theorem State.angleLost_get (s : State) (n : Nat) {g : FieldRef} (ha : (Reg.WHL.STAT.ANGLE_VALID n).apart g) :
    (s.angleLost n).get g = s.get g := by
  rw [State.angleLost, State.setTrk_get, State.get_put_apart _ _ (by simp [FieldRef.ok]) ha]

theorem State.angleLost_valid (s : State) (n : Nat) : (s.angleLost n).get (Reg.WHL.STAT.ANGLE_VALID n) = 0 := by
  rw [State.angleLost, State.setTrk_get, State.get_put_self _ _ (by simp [FieldRef.ok]), Nat.zero_mod]

theorem State.angleLost_isRaised (s : State) (n k : Nat) : (s.angleLost n).isRaised (page .whl n) k ↔ s.isRaised (page .whl n) k := by
  rw [State.isRaised, State.angleLost_get _ _ (by simp [FieldRef.apart, rawBit]; omega), State.isRaised]

/-- What the entry into SEEKING shows. -/
theorem State.wEnter_seeking_shows (s : State) (n : Nat) : (s.wEnter n 1).wState n = 1 ∧ (s.wEnter n 1).wValid n = false ∧
    (s.wEnter n 1).isRaised (page .whl n) 0 := by
  rw [State.wEnter_seeking]
  refine ⟨?_, ?_, ?_⟩
  · rw [State.wState, State.get_put_apart _ _ (by simp [FieldRef.ok]) (by simp [FieldRef.apart]),
      State.angleLost_get _ _ (by simp [FieldRef.apart]), State.stateShown, State.get_raise_ne _ (by simp; omega),
      State.get_put_of_lt _ (by simp [FieldRef.ok])]
    simp
  · rw [State.wValid, State.bit, State.get_put_apart _ _ (by simp [FieldRef.ok]) (by simp [FieldRef.apart]), State.angleLost_valid]
    rfl
  · exact (State.isRaised_put_iff _ _ (by simp [FieldRef.ok]) (by simp [FieldRef.apart, rawBit])).2
      ((State.angleLost_isRaised _ n 0).2 (State.isRaised_raise _ _ (by decide)))

/-- What the entry into STOPPED shows. -/
theorem State.wEnter_stopped_shows (s : State) (n : Nat) : (s.wEnter n 0).wState n = 0 ∧ (s.wEnter n 0).wValid n = false ∧
    (s.wEnter n 0).get (Reg.WHL.STAT.SPEED_VALID n) = 0 ∧ (s.wEnter n 0).isRaised (page .whl n) 0 ∧
    (s.wEnter n 0).isRaised (page .whl n) 2 := by
  have hraised : ∀ k, (((s.stateShown n 0).put (Reg.WHL.STAT.SPEED_VALID n) 0).raise (page .whl n) 2).isRaised (page .whl n) k →
      (s.wEnter n 0).isRaised (page .whl n) k := fun k hk =>
    State.wEnter_stopped s n ▸ (State.isRaised_put_iff _ _ (by simp [FieldRef.ok]) (.inl (by simp [rawBit]; omega))).2
      ((State.angleLost_isRaised _ n k).2 hk)
  refine ⟨?_, ?_, ?_, hraised 0 ?_, hraised 2 (State.isRaised_raise _ _ (by decide))⟩
  · rw [State.wEnter_stopped, State.wState, State.get_put_apart _ _ (by simp [FieldRef.ok]) (by simp [FieldRef.apart]),
      State.angleLost_get _ _ (by simp [FieldRef.apart]), State.get_raise_ne _ (by simp; omega),
      State.get_put_apart _ _ (by simp [FieldRef.ok]) (by simp [FieldRef.apart]), State.stateShown,
      State.get_raise_ne _ (by simp; omega), State.get_put_self _ _ (by simp [FieldRef.ok]), Nat.zero_mod]
  · rw [State.wEnter_stopped, State.wValid, State.bit, State.get_put_apart _ _ (by simp [FieldRef.ok]) (by simp [FieldRef.apart]),
      State.angleLost_valid]
    rfl
  · rw [State.wEnter_stopped, State.get_put_apart _ _ (by simp [FieldRef.ok]) (by simp [FieldRef.apart]),
      State.angleLost_get _ _ (by simp [FieldRef.apart]), State.get_raise_ne _ (by simp; omega),
      State.get_put_self _ _ (by simp [FieldRef.ok]), Nat.zero_mod]
  · exact State.isRaised_raise_of ((State.isRaised_put_iff _ _ (by simp [FieldRef.ok]) (by simp [FieldRef.apart, rawBit])).2
      (State.isRaised_raise _ _ (by decide))) (by decide) _ _

/-! ### The marker of a transition (R132) -/

theorem State.wheelCart_carts (s : State) (n row before index t : Nat) : OnlyCarts s (s.wheelCart n row before index t) :=
  s.cart_onlyCarts _ _ _ _ _

theorem OnlyCarts.tracker_eq {s t : State} (h : OnlyCarts s t) (k : Nat) : t.tracker k = s.tracker k := by
  have htrk : t.trk = s.trk := by rw [h]
  rw [State.tracker, State.tracker, htrk]

theorem State.wheelCart_one (s : State) (n row before index t : Nat) : OneCart 0x16 s.markerCls t s (s.wheelCart n row before index t) :=
  s.cart_oneCart _ _ _ _ rfl

/-- A marker after writes that left the record alone counts as one of before. -/
theorem wheelCart_one_after {s u : State} {n row before index t : Nat} (hc : u.carts = s.carts) (hr : u.recd = s.recd)
    (hm : u.markerCls = s.markerCls) : OneCart 0x16 s.markerCls t s (u.wheelCart n row before index t) := by
  rw [← hm]
  exact (u.wheelCart_one n row before index t).of_same hc hr

/-! ### RESYNC (rows 4 and 5) -/

theorem State.wForget_eq (s : State) (n : Nat) : s.wForget n = (s.setTrk n (forgotten (s.tracker n))).put (Reg.WHL.ZERO.ZERO n) 0 := rfl

theorem State.wForget_frame (s : State) (n : Nat) : TrkFrame n (seekFields n) s (s.wForget n) :=
  (TrkFrame.setTrk n _ s _).trans (OnlyFields.trkFrame ((OnlyFields.refl _ _).andPut (by simp [seekFields])) n)

theorem State.wForget_tracker (s : State) (n : Nat) : (s.wForget n).tracker n = forgotten (s.tracker n) := by
  rw [State.wForget_eq, State.put_tracker, State.setTrk_tracker, if_pos rfl]

/-- The tracker in SEEKING, before its marker. -/
def State.sought (s : State) (n : Nat) : State := (s.wForget n).wEnter n 1

theorem State.sought_frame (s : State) (n : Nat) : TrkFrame n (seekFields n) s (s.sought n) :=
  (s.wForget_frame n).trans (State.wEnter_seeking_frame _ n)

theorem State.sought_tracker (s : State) (n : Nat) : (s.sought n).tracker n = unknownAngle (forgotten (s.tracker n)) := by
  rw [State.sought, State.wEnter_seeking_tracker, s.wForget_tracker]

theorem State.sought_zero (s : State) (n : Nat) : (s.sought n).get (Reg.WHL.ZERO.ZERO n) = 0 := by
  rw [State.sought, State.wEnter_seeking, State.get_put_apart _ _ (by simp [FieldRef.ok]) (by simp [FieldRef.apart]),
    State.angleLost_get _ _ (by simp [FieldRef.apart]), State.stateShown, State.get_raise_ne _ (by simp; omega),
    State.get_put_apart _ _ (by simp [FieldRef.ok]) (by simp [FieldRef.apart]), State.wForget_eq,
    State.get_put_self _ _ (by simp [FieldRef.ok]), Nat.zero_mod]

/-- Writes to one tracker leave the record. -/
theorem State.wForget_record (s : State) (n : Nat) : (s.wForget n).carts = s.carts ∧ (s.wForget n).recd = s.recd := ⟨rfl, rfl⟩

theorem State.wEnter_seeking_record (s : State) (n : Nat) : (s.wEnter n 1).carts = s.carts ∧ (s.wEnter n 1).recd = s.recd := by
  simp [State.wEnter_seeking, State.stateShown, State.angleLost]

theorem State.wEnter_stopped_record (s : State) (n : Nat) : (s.wEnter n 0).carts = s.carts ∧ (s.wEnter n 0).recd = s.recd := by
  simp [State.wEnter_stopped, State.stateShown, State.angleLost]

theorem seekFields_apart (n : Nat) {g : FieldRef} (hg : 0x40000 ≤ g.addr) (hn : n < 48) : ∀ f ∈ seekFields n, f.apart g := by
  simp [seekFields, FieldRef.apart, rawBit]
  omega

theorem stopFields_apart (n : Nat) {g : FieldRef} (hg : 0x40000 ≤ g.addr) (hn : n < 48) : ∀ f ∈ stopFields n, f.apart g := by
  simp [stopFields, FieldRef.apart, rawBit]
  omega

theorem State.wSeek_frame (s : State) (n row : Nat) : TrkFrame n (seekFields n) s (s.wSeek n row) :=
  (s.sought_frame n).trans ((State.wheelCart_carts _ _ _ _ _ _).trkFrame n _)

theorem State.wSeek_one (s : State) {n : Nat} (row : Nat) (hn : n < 48) : OneCart 0x16 s.markerCls s.now s (s.wSeek n row) := by
  obtain ⟨hfc, hfr⟩ := s.wForget_record n
  obtain ⟨hec, her⟩ := (s.wForget n).wEnter_seeking_record n
  exact wheelCart_one_after (hec.trans hfc) (her.trans hfr)
    ((s.sought_frame n).get (by decide) (seekFields_apart n (by decide) hn))

/-- What a tracker that seeks shows, and what it keeps. -/
theorem State.wSeek_shows (s : State) (n row : Nat) : (s.wSeek n row).wState n = 1 ∧ (s.wSeek n row).wValid n = false ∧
    (s.wSeek n row).get (Reg.WHL.ZERO.ZERO n) = 0 ∧ (s.wSeek n row).isRaised (page .whl n) 0 ∧
    (s.wSeek n row).tracker n = unknownAngle (forgotten (s.tracker n)) := by
  have hcart := (s.sought n).wheelCart_carts n row (s.wState n) (s.tracker n).lastPos s.now
  have htrk : (s.wSeek n row).tracker n = (s.sought n).tracker n := hcart.tracker_eq n
  obtain ⟨hstate, hvalid, hraised⟩ := (s.wForget n).wEnter_seeking_shows n
  refine ⟨(hcart.get_eq _).trans hstate, ?_, (hcart.get_eq _).trans (s.sought_zero n), (hcart.isRaised_iff _ _).2 hraised,
    htrk.trans (s.sought_tracker n)⟩
  exact (congrArg (· == 1) (hcart.get_eq _)).trans hvalid

theorem State.resync_seeks {s : State} {n : Nat} (hst : s.wState n ≠ 0) (hshut : s.willShut (page .whl n) = false) :
    s.resync n = s.wSeek n (if s.wState n = 5 then 5 else 4) := if_neg (by rw [hshut]; simp [hst])

theorem State.autoResync_seeks {s : State} {n : Nat} (hst : s.wState n = 5) (ha : s.bit (Reg.WHL.CFG.AUTO_RESYNC n) = true)
    (hshut : s.willShut (page .whl n) = false) : s.autoResync n = s.wSeek n 5 := if_pos ⟨hst, ha, by rw [hshut]; rfl⟩

/-! ### Stalls (row 19) -/

/-- The position is kept over a stop (R119). -/
def State.keeps (s : State) (n : Nat) : Bool := s.wResume n && (s.wState n == 3 || s.wState n == 4)

/-- A tracker that stops: the state to resume, and no period history. -/
def stalled (tr : Tracker) (keep : Bool) (was : Nat) : Tracker :=
  { tr with kept := if keep then some was else none, hasPrev := false, hist := [] }

/-- The tracker in STOPPED, before its marker. -/
def State.stopped (s : State) (n : Nat) : State :=
  ((s.setTrk n (stalled (s.tracker n) (s.keeps n) (s.wState n))).wEnter n 0).put (Reg.WHL.STAT.HALF n)
    (if s.keeps n then s.get (Reg.WHL.STAT.HALF n) else 0)

theorem State.wStall_eq (s : State) (n : Nat) : s.wStall n = (s.stopped n).wheelCart n 19 (s.wState n)
    (((s.setTrk n (stalled (s.tracker n) (s.keeps n) (s.wState n))).wEnter n 0).tracker n).lastPos s.now := by
  have hnow : ((s.setTrk n (stalled (s.tracker n) (s.keeps n) (s.wState n))).wEnter n 0).now = s.now := by
    rw [State.now, (State.wEnter_stopped_frame _ n).tick_eq, State.setTrk_tick, State.now]
  have heq : s.wStall n = (s.stopped n).wheelCart n 19 (s.wState n)
    (((s.setTrk n (stalled (s.tracker n) (s.keeps n) (s.wState n))).wEnter n 0).tracker n).lastPos
    ((s.setTrk n (stalled (s.tracker n) (s.keeps n) (s.wState n))).wEnter n 0).now := rfl
  rw [heq, hnow]

theorem State.stopped_frame (s : State) (n : Nat) : TrkFrame n (stopFields n) s (s.stopped n) :=
  ((TrkFrame.setTrk n _ s _).trans (State.wEnter_stopped_frame _ n)).trans
    (OnlyFields.trkFrame ((OnlyFields.refl _ _).andPut (by simp [stopFields])) n)

theorem State.stopped_tracker (s : State) (n : Nat) :
    (s.stopped n).tracker n = unknownAngle (stalled (s.tracker n) (s.keeps n) (s.wState n)) := by
  rw [State.stopped, State.put_tracker, State.wEnter_stopped_tracker, State.setTrk_tracker, if_pos rfl]

theorem State.wStall_frame (s : State) (n : Nat) : TrkFrame n (stopFields n) s (s.wStall n) := by
  rw [s.wStall_eq]
  exact (s.stopped_frame n).trans ((State.wheelCart_carts _ _ _ _ _ _).trkFrame n _)

theorem State.wStall_one (s : State) {n : Nat} (hn : n < 48) : OneCart 0x16 s.markerCls s.now s (s.wStall n) := by
  obtain ⟨hc, hr⟩ := (s.setTrk n (stalled (s.tracker n) (s.keeps n) (s.wState n))).wEnter_stopped_record n
  rw [s.wStall_eq]
  refine wheelCart_one_after ?_ ?_ ((s.stopped_frame n).get (by decide) (stopFields_apart n (by decide) hn))
  · rw [State.stopped, State.put_carts, hc, State.setTrk_carts]
  · rw [State.stopped, State.put_recd, hr, State.setTrk_recd]

/-- What a stopped tracker shows, and what it keeps. -/
theorem State.wStall_shows (s : State) (n : Nat) : (s.wStall n).wState n = 0 ∧ (s.wStall n).wValid n = false ∧
    (s.wStall n).get (Reg.WHL.STAT.SPEED_VALID n) = 0 ∧ (s.wStall n).isRaised (page .whl n) 0 ∧
    (s.wStall n).isRaised (page .whl n) 2 ∧
    (s.wStall n).tracker n = unknownAngle (stalled (s.tracker n) (s.keeps n) (s.wState n)) := by
  obtain ⟨hstate, hvalid, hspeed, hchange, hstopped⟩ :=
    (s.setTrk n (stalled (s.tracker n) (s.keeps n) (s.wState n))).wEnter_stopped_shows n
  rw [s.wStall_eq]
  have hcart := (s.stopped n).wheelCart_carts n 19 (s.wState n)
    (((s.setTrk n (stalled (s.tracker n) (s.keeps n) (s.wState n))).wEnter n 0).tracker n).lastPos s.now
  have hkept : ∀ {g : FieldRef}, (Reg.WHL.STAT.HALF n).apart g → (s.stopped n).get g =
      ((s.setTrk n (stalled (s.tracker n) (s.keeps n) (s.wState n))).wEnter n 0).get g := fun ha =>
    State.get_put_apart _ _ (by simp [FieldRef.ok]) ha
  refine ⟨(hcart.get_eq _).trans ((hkept (by simp [FieldRef.apart])).trans hstate), ?_,
    (hcart.get_eq _).trans ((hkept (by simp [FieldRef.apart])).trans hspeed),
    (hcart.get_eq _).trans ((hkept (.inl (by simp [rawBit]; omega))).trans hchange),
    (hcart.get_eq _).trans ((hkept (.inl (by simp [rawBit]; omega))).trans hstopped), ?_⟩
  · exact (congrArg (· == 1) ((hcart.get_eq _).trans (hkept (by simp [FieldRef.apart])))).trans hvalid
  · rw [hcart.tracker_eq, s.stopped_tracker]

theorem exec_trackerStall {w : WheelNo} {s : State} (hscan : s.scanning = true) (hst : s.wState w ≠ 0)
    (hshut : s.shut (page .whl w) = false) (hdue : (s.tracker w).stallFrom + s.get (Reg.WHL.STALL.STALL_TO w) ≤ s.tick) :
    exec (.trackerStall w) s = run s (s.wStall w) := by
  have hstall : s.stall w = s.wStall w := by
    unfold State.stall
    rw [if_neg (by rw [hshut, hscan]; simp [hst]), if_pos hdue]
  exact congrArg (run s) hstall

/-- Settles O15. That AUTO_RESYNC counts for the boundary of the tick about to begin is log entry 13; how the marker and the kept values
read is log entry 52. -/
theorem trackerStopsAndSeeks : Obligations.TrackerStopsAndSeeks := by
  refine ⟨fun w s hscan hst hshut hdue => ?_, fun w s hscan hst hshut => ?_, fun w s hrun hscan hst ha hshut => ?_⟩
  · have hframe := s.wStall_frame w
    obtain ⟨hstate, hvalid, hspeed, hchange, hstopped, htrk⟩ := s.wStall_shows w
    refine ⟨_, (exec_trackerStall hscan hst hshut hdue).trans hframe.run_eq, hstate, hvalid, hspeed, hchange, hstopped, ?_, ?_, ?_, ?_,
      s.wStall_one w.isLt, hframe⟩
    · rw [htrk, unknownAngle]
    · rw [htrk, unknownAngle, stalled, State.keeps]
      simp only [Bool.and_eq_true, Bool.or_eq_true, beq_iff_eq]
    · rw [htrk, unknownAngle, stalled]
    · rw [htrk, unknownAngle, stalled]
  · have hframe := s.wSeek_frame w (if s.wState w = 5 then 5 else 4)
    obtain ⟨hstate, hvalid, hzero, hchange, htrk⟩ := s.wSeek_shows w (if s.wState w = 5 then 5 else 4)
    have hexec : exec (.resync w) s = run s (s.resync w) := by
      have heq : exec (.resync w) s = run s (s.when s.scanning (fun s => s.resync w)) := rfl
      rw [heq, hscan, State.when_true]
    refine ⟨_, hexec.trans ((congrArg (run s) (State.resync_seeks hst hshut)).trans hframe.run_eq), hstate, hvalid, hzero, hchange, ?_, ?_, ?_,
      ?_, s.wSeek_one _ w.isLt, hframe⟩
    all_goals rw [htrk, unknownAngle, forgotten]
  · have hframe := s.nextTick.wSeek_frame w 5
    obtain ⟨hstate, hvalid, hzero, hchange, htrk⟩ := s.nextTick.wSeek_shows w 5
    have hone := s.nextTick.wSeek_one 5 w.isLt
    have hexec : exec (.autoResync w) s = run s { s.nextTick.wSeek w 5 with tick := s.tick } := by
      have heq : exec (.autoResync w) s = run s (s.when s.scanning (fun s => s.early (fun s => s.autoResync w))) := rfl
      rw [heq, hscan, State.when_true, State.early_running hrun, State.autoResync_seeks hst ha hshut]
    have hsame := hframe.reticked
    generalize s.nextTick.wSeek w 5 = u at *
    refine ⟨_, hexec, rfl, hstate, hvalid, (congrArg Tracker.zero htrk).trans rfl, (congrArg Tracker.pred htrk).trans rfl, hone, ?_⟩
    exact hsame.symm ▸ hframe

end Sys2Proof.Machine
end

section
/-! PROOFS. Pairs of the fault manager, and the release of shutters (chapter 15: R378, R380, R381). -/

namespace Sys2Proof.Machine

/-! ### Pairs (R378) -/

/-- The state with another number of pairs. -/
def State.withPairs (s : State) (k : Nat) : State := { s with flt := { s.flt with pairs := k } }

/-- A retired pair: its entry, FM_SINGLE and its mark. -/
def State.pairRetired (s : State) : State :=
  (((s.withPairs 1).logFault 0x24 0x05 0 aCounted 0).put Reg.FLT.DEV_FAULT.FM_SINGLE 1).raise (page .flt 0) 3

theorem State.fmPair_retires {s : State} (h : s.flt.pairs = 2) : s.fmPair = s.pairRetired := by
  unfold State.fmPair
  rw [h]
  rfl

theorem exec_fmPair {s : State} (hon : s.clockOn = true) : exec .fmPair s = run s s.fmPair := by
  have heq : exec .fmPair s = run s (s.when s.clockOn (fun s => s.fmPair)) := rfl
  rw [heq, hon, State.when_true]

theorem exec_fmPair_none {s : State} (h : s.flt.pairs = 0) : exec .fmPair s = .next s := by
  have hnone : s.fmPair = s := by
    unfold State.fmPair
    rw [h]
    rfl
  have heq : exec .fmPair s = run s (s.when s.clockOn (fun s => s.fmPair)) := rfl
  rw [heq]
  cases s.clockOn with
  | false => exact run_eq rfl rfl
  | true =>
    rw [State.when_true, hnone]
    exact run_eq rfl rfl

theorem State.pairRetired_frame (s : State) : OnlyFields [Reg.FLT.DEV_FAULT.FM_SINGLE, rawBit (page .flt 0) 3]
    ((s.withPairs 1).logFault 0x24 0x05 0 aCounted 0) s.pairRetired :=
  ((OnlyFields.refl _ _).andPut).andRaise

theorem State.pairRetired_kept (s : State) :
    FieldsKept (Reg.FLT.DEV_FAULT.FM_SINGLE :: rawBit (page .flt 0) 3 :: logFields) s s.pairRetired :=
  ((FieldsKept.of_regs rfl).trans (((s.withPairs 1).logFault_kept 0x24 0x05 0 aCounted 0).mono fun f hf => by
    simp only [List.mem_cons, hf, or_true])).trans (s.pairRetired_frame.2.mono fun f hf => by
      simp only [List.mem_cons, List.not_mem_nil, or_false] at hf ⊢
      tauto)

theorem State.pairRetired_logged (s : State) :
    Logged 0x24 0x05 0 aCounted 0 { s with flt := { s.flt with pairs := 1 } } s.pairRetired := by
  have hframe := s.pairRetired_frame
  refine ((s.withPairs 1).logFault_logged 0x24 0x05 aCounted 0 (by decide)).of_same rfl rfl rfl hframe.flt_eq fun g hg => ?_
  rcases List.mem_pair.1 hg with rfl | rfl
  · exact hframe.get (by decide) (by decide)
  · exact hframe.get (by decide) (by decide)

theorem State.pairRetired_state (s : State) : s.pairRetired = { s with regs := s.pairRetired.regs, flt := s.pairRetired.flt } := by
  obtain ⟨hframe, -⟩ := s.pairRetired_frame
  have hstate := (s.withPairs 1).logFault_state 0x24 0x05 0 aCounted 0
  generalize s.pairRetired = t at hframe ⊢
  generalize (s.withPairs 1).logFault 0x24 0x05 0 aCounted 0 = u at hframe hstate
  rw [hframe, hstate]
  rfl

/-! ### The page of a function stands -/

/-- PG_SHUTTER of a page and the fault manager stand. -/
structure PageStands (p : Nat) (s t : State) : Prop where
  flt : t.flt = s.flt
  reg : t.reg (p + 0x1C) = s.reg (p + 0x1C)

theorem PageStands.refl (p : Nat) (s : State) : PageStands p s s := ⟨rfl, rfl⟩

theorem PageStands.trans {p : Nat} {s t u : State} (h : PageStands p s t) (k : PageStands p t u) : PageStands p s u :=
  ⟨k.flt.trans h.flt, k.reg.trans h.reg⟩

theorem PageStands.of_same {p : Nat} {s t : State} (hregs : t.regs = s.regs) (hflt : t.flt = s.flt) : PageStands p s t :=
  ⟨hflt, by rw [State.reg, State.reg, hregs]⟩

theorem PageStands.of_kept {p : Nat} {fs : List FieldRef} {s t : State} (hflt : t.flt = s.flt) (h : FieldsKept fs s t)
    (ha : ∀ f ∈ fs, f.addr ≠ p + 0x1C) : PageStands p s t := ⟨hflt, h.reg ha⟩

theorem PageStands.put {p : Nat} (s : State) {f : FieldRef} (v : Nat) (ha : f.addr ≠ p + 0x1C) : PageStands p s (s.put f v) :=
  ⟨rfl, by rw [State.put_reg, if_neg (Ne.symm ha)]⟩

theorem PageStands.raiseIf {p : Nat} (s : State) (c : Bool) (k : Nat) : PageStands p s (s.raiseIf c p k) := by
  cases c with
  | false => exact PageStands.refl p s
  | true => exact ⟨rfl, (State.raise_reg _ _ _ _).trans (if_neg (by omega))⟩

theorem PageStands.forEach {α : Type} {p : Nat} {f : State → α → State} (hf : ∀ s x, PageStands p s (f s x)) (l : List α)
    (s : State) : PageStands p s (s.forEach l f) := by
  induction l generalizing s with
  | nil => exact PageStands.refl p s
  | cons x l ih => exact (hf s x).trans (ih (f s x))

theorem PageStands.get {p : Nat} {s t : State} (h : PageStands p s t) {g : FieldRef} (hg : g.addr = p + 0x1C) : t.get g = s.get g := by
  rw [State.get, State.get, hg, h.reg]

theorem PageStands.pageCause {p : Nat} {s t : State} (h : PageStands p s t) (q : Nat) : t.pageCause q = s.pageCause q := by
  rw [State.pageCause, State.pageCause, h.flt]

/-! ### What each kind of function does at its release (R269, R138, R222, R254) -/

theorem State.linkEnter_stands (s : State) (n nxt : Nat) : PageStands (page .lnk n) s (s.linkEnter n nxt) := by
  unfold State.linkEnter
  extract_lets was p sState sChanged sFailed l sRun c sDropped
  have hFailed : PageStands p s sFailed :=
    ((PageStands.put s nxt (by simp [p]; omega)).trans (PageStands.raiseIf sState _ 0)).trans (PageStands.raiseIf sChanged _ 1)
  split
  · exact hFailed.trans (.of_same rfl rfl)
  · exact (hFailed.trans (PageStands.forEach (f := fun s x => s.causeCmd x c) (fun s x => .of_same rfl rfl) _ sFailed)).trans
      (.of_same rfl rfl)

theorem State.linkFollow_stands (s : State) (n : Nat) : PageStands (page .lnk n) s (s.linkFollow n) := by
  unfold State.linkFollow
  extract_lets st runs
  split_ifs
  · exact s.linkEnter_stands n 6
  · exact s.linkEnter_stands n 5
  · exact PageStands.refl _ s

theorem PageStands.of_trk {w : Nat} {fs : List FieldRef} {s t : State} (h : TrkFrame w fs s t)
    (ha : ∀ f ∈ fs, f.addr ≠ page .whl w + 0x1C) : PageStands (page .whl w) s t := .of_kept h.flt_eq h.2.2 ha

theorem seekFields_beside (n : Nat) : ∀ f ∈ seekFields n, f.addr ≠ page .whl n + 0x1C := by
  simp [seekFields, rawBit]
  omega

theorem stopFields_beside (n : Nat) : ∀ f ∈ stopFields n, f.addr ≠ page .whl n + 0x1C := by
  simp [stopFields, rawBit]
  omega

theorem State.wFlag_stands (s : State) (n : Nat) (held blind : Bool) : PageStands (page .whl n) s (s.wFlag n held blind) := by
  have hset : ∀ x, PageStands (page .whl n) s (s.setTrk n x) := fun x => .of_same rfl rfl
  rw [State.wFlag, State.putBit_eq, State.onTrk_eq]
  exact (hset _).trans (PageStands.put _ _ (by simp; omega))

theorem State.wSeek_stands (s : State) (n row : Nat) : PageStands (page .whl n) s (s.wSeek n row) :=
  PageStands.of_trk (s.wSeek_frame n row) (seekFields_beside n)

theorem State.wMismatch_stands (s : State) (n : Nat) : PageStands (page .whl n) s (s.wMismatch n) := by
  unfold State.wMismatch
  extract_lets before sFlagged index
  have hflagged : PageStands (page .whl n) s sFlagged :=
    (s.wFlag_stands n true (s.tracker n).blind).trans (PageStands.raiseIf _ true 8)
  split
  · exact hflagged
  · have hforgot := PageStands.of_trk (sFlagged.wForget_frame n) (seekFields_beside n)
    have hstopped := PageStands.of_trk ((sFlagged.wForget n).wEnter_stopped_frame n) (stopFields_beside n)
    have hcart := State.wheelCart_carts ((sFlagged.wForget n).wEnter n 0) n 20 before index sFlagged.now
    exact ((hflagged.trans hforgot).trans hstopped).trans (.of_same hcart.regs_eq hcart.flt_eq)

theorem State.releaseEffect_stands {f : FnKind} (hf : (fnBlock f).hasShutter = true) (s : State) (n : Nat) :
    PageStands (fnPage f n) s (s.releaseEffect f n) := by
  cases f with
  | inp => exact .of_same rfl rfl
  | whl =>
    simp only [State.releaseEffect]
    split_ifs
    · exact PageStands.refl _ s
    · exact (s.wSeek_stands n 2).trans (State.wFlag_stands _ n _ _)
    · exact s.wMismatch_stands n
  | lnk => exact s.linkFollow_stands n
  | drv => exact .of_same rfl rfl
  | adc => exact .of_same rfl rfl
  | tmr | dma => cases hf

/-! ### A release (R380, R381) -/

theorem exec_shutterRelease {f : FnKind} {n : Fin 64} (sound : Bool) {s : State} (hscan : s.scanning = true) (hex : fnExists f n = true) :
    exec (.shutterRelease f n sound) s = run s (s.releaseShut f n sound) := by
  have heq : exec (.shutterRelease f n sound) s = run s (s.when (s.scanning && fnExists f n) (fun s => s.releaseShut f n sound)) := rfl
  rw [heq, hscan, hex, Bool.and_self, State.when_true]

theorem exec_shutterRelease_none {f : FnKind} {n : Fin 64} (sound : Bool) {s : State} (h : s.releaseShut f n sound = s) :
    exec (.shutterRelease f n sound) s = .next s := by
  have heq : exec (.shutterRelease f n sound) s = run s (s.when (s.scanning && fnExists f n) (fun s => s.releaseShut f n sound)) := rfl
  rw [heq]
  cases s.scanning && fnExists f n with
  | false => exact run_eq rfl rfl
  | true =>
    rw [State.when_true, h]
    exact run_eq rfl rfl

theorem State.setPageCause_regs (s : State) (p c : Nat) : (s.setPageCause p c).regs = s.regs := rfl

theorem State.setPageCause_get (s : State) (p c : Nat) (g : FieldRef) : (s.setPageCause p c).get g = s.get g :=
  State.get_of_regs (s.setPageCause_regs p c) g

theorem State.setPageCause_log (s : State) (p c : Nat) : (s.setPageCause p c).flt.log = s.flt.log := rfl

theorem State.setPageCause_pageCause (s : State) (p c : Nat) : (s.setPageCause p c).pageCause p = c := by
  have hget := Sparse.get_set (fun _ => 0) s.flt.pageCause p p c
  rw [if_pos rfl] at hget
  exact hget

/-- PG_SHUTTER shows nothing and no cause is held: what a release does before the function's own part. -/
def State.shutterOpened (s : State) (p : Nat) : State :=
  ((s.put (Reg.HEAD.PG_SHUTTER.SHUT p) 0).put (Reg.HEAD.PG_SHUTTER.FAULT p) 0).setPageCause p 0

/-- The cause under which a failing re-check shutters anew: that of its own check (R381). -/
def recheckCause (c : Nat) : Nat := if c = 3 ∨ c = 4 then c else 1

/-- A failing re-check: FAULT and its cause, before the log entry. -/
def State.recheckFailed (s : State) (p : Nat) : State :=
  (s.put (Reg.HEAD.PG_SHUTTER.FAULT p) 1).setPageCause p (recheckCause (s.pageCause p))

theorem State.releaseShut_nothing {s : State} {f : FnKind} {n : Nat} (sound : Bool)
    (h : (fnBlock f).hasShutter = false ∨ s.shut (fnPage f n) = false ∨ s.pageCause (fnPage f n) = 7) : s.releaseShut f n sound = s := by
  unfold State.releaseShut
  refine if_pos ?_
  rcases h with h | h | h
  · exact .inl (by rw [h]; rfl)
  · exact .inr (.inl (by rw [h]; rfl))
  · exact .inr (.inr h)

theorem State.releaseShut_judged {s : State} {f : FnKind} {n : Nat} (hf : (fnBlock f).hasShutter = true)
    (hshut : s.shut (fnPage f n) = true) (hc : s.pageCause (fnPage f n) ≠ 7) (sound : Bool) : s.releaseShut f n sound =
      if sound then (s.shutterOpened (fnPage f n)).releaseEffect f n
      else (s.recheckFailed (fnPage f n)).logFault (recheckCause (s.pageCause (fnPage f n))) (fnBlock f).code n aShuttered 0 := by
  unfold State.releaseShut
  rw [if_neg (by rw [hf, hshut]; simp [hc])]
  cases sound <;> rfl

theorem State.shutterOpened_shows (s : State) (p : Nat) : (s.shutterOpened p).shut p = false ∧
    (s.shutterOpened p).get (Reg.HEAD.PG_SHUTTER.FAULT p) = 0 ∧ (s.shutterOpened p).pageCause p = 0 := by
  have hget : ∀ g, (s.shutterOpened p).get g =
      ((s.put (Reg.HEAD.PG_SHUTTER.SHUT p) 0).put (Reg.HEAD.PG_SHUTTER.FAULT p) 0).get g := State.setPageCause_get _ _ _
  refine ⟨?_, ?_, ?_⟩
  · rw [State.shut, State.bit, hget, State.get_put_apart _ _ (by simp [FieldRef.ok]) (by simp [FieldRef.apart]),
      State.get_put_self _ _ (by simp [FieldRef.ok])]
    rfl
  · rw [hget, State.get_put_self _ _ (by simp [FieldRef.ok]), Nat.zero_mod]
  · exact State.setPageCause_pageCause _ _ _

theorem State.shutterOpened_log (s : State) (p : Nat) : (s.shutterOpened p).flt.log = s.flt.log := by
  rw [State.shutterOpened, State.setPageCause_log, State.put_flt, State.put_flt]

theorem State.shutterOpened_kept (s : State) (p : Nat) :
    FieldsKept [Reg.HEAD.PG_SHUTTER.SHUT p, Reg.HEAD.PG_SHUTTER.FAULT p] s (s.shutterOpened p) :=
  (((FieldsKept.refl _ s).andPut).andPut).andSame (State.setPageCause_regs _ _ _)

/-- What a released drive channel shows (R254). -/
theorem State.releaseDrive (s : State) (n : Nat) {t : State} (ht : t = (s.shutterOpened (fnPage .drv n)).releaseEffect .drv n) :
    t.drive n = { s.drive n with fenceNext := some false } ∧ (∀ k, k ≠ n → t.drive k = s.drive k) ∧
      t = { s with regs := t.regs, drv := t.drv, flt := { s.flt with pageCause := t.flt.pageCause } } ∧
      FieldsKept [Reg.HEAD.PG_SHUTTER.SHUT (fnPage .drv n), Reg.HEAD.PG_SHUTTER.FAULT (fnPage .drv n)] s t := by
  have hdrive : ∀ k, (s.shutterOpened (fnPage .drv n)).drive k = s.drive k := fun _ => rfl
  have heq : t = (s.shutterOpened (fnPage .drv n)).setDrv n { s.drive n with fenceNext := some false } := ht
  refine ⟨?_, fun k hk => ?_, ?_, ?_⟩
  · rw [heq, State.setDrv_drive, if_pos rfl]
  · rw [heq, State.setDrv_drive, if_neg hk, hdrive]
  · rw [heq]
    rfl
  · rw [heq]
    exact (s.shutterOpened_kept _).andSame (State.setDrv_regs _ _ _)

theorem State.recheckFailed_shows (s : State) (p : Nat) : (s.recheckFailed p).shut p = s.shut p ∧
    (s.recheckFailed p).get (Reg.HEAD.PG_SHUTTER.FAULT p) = 1 ∧ (s.recheckFailed p).pageCause p = recheckCause (s.pageCause p) := by
  have hget : ∀ g, (s.recheckFailed p).get g = (s.put (Reg.HEAD.PG_SHUTTER.FAULT p) 1).get g := State.setPageCause_get _ _ _
  refine ⟨?_, ?_, ?_⟩
  · rw [State.shut, State.bit, hget, State.get_put_apart _ _ (by simp [FieldRef.ok]) (by simp [FieldRef.apart]), State.shut, State.bit]
  · rw [hget, State.get_put_of_lt _ (by simp [FieldRef.ok])]
    simp
  · exact State.setPageCause_pageCause _ _ _

theorem State.recheckFailed_get (s : State) {p : Nat} {g : FieldRef} (hg : g.addr ≠ p + 0x1C) : (s.recheckFailed p).get g = s.get g := by
  have hget : (s.recheckFailed p).get g = (s.put (Reg.HEAD.PG_SHUTTER.FAULT p) 1).get g :=
    State.setPageCause_get _ _ _ _
  rw [hget, State.get_put_apart _ _ (by simp [FieldRef.ok]) (.inl (Ne.symm hg))]

/-- A failing re-check with its log entry. -/
def State.shutAnew (s : State) (f : FnKind) (n : Nat) : State :=
  (s.recheckFailed (fnPage f n)).logFault (recheckCause (s.pageCause (fnPage f n))) (fnBlock f).code n aShuttered 0

/-- The log's registers lie below every function's page. -/
theorem logFields_beside (f : FnKind) (n : Nat) : ∀ g ∈ logFields, g.addr ≠ fnPage f n + 0x1C := by
  have hpage := le_fnPage f n
  simp [logFields, rawBit]
  omega

theorem State.shutAnew_get (s : State) (f : FnKind) (n : Nat) {g : FieldRef} (ok : g.ok) (hg : g.addr = fnPage f n + 0x1C) :
    (s.shutAnew f n).get g = (s.recheckFailed (fnPage f n)).get g :=
  (State.logFault_kept _ _ _ _ _ _).get ok fun x hx => .inl (hg ▸ logFields_beside f n x hx)

theorem State.shutAnew_flt (s : State) (f : FnKind) {n : Nat} (hn : n < 256) : (s.shutAnew f n).flt = { s.flt with
    pageCause := s.flt.pageCause.set (fun _ => 0) (fnPage f n) (recheckCause (s.pageCause (fnPage f n)))
    log := s.flt.log.insert (s.get Reg.FLT.LOG_COUNT.COUNT % 64)
      ⟨recheckCause (s.pageCause (fnPage f n)), (fnBlock f).code, n, aShuttered, s.tick, 0⟩ } := by
  have hpage := le_fnPage f n
  obtain ⟨hflt, -, -⟩ := (s.recheckFailed (fnPage f n)).logFault_logged (recheckCause (s.pageCause (fnPage f n))) (fnBlock f).code
    aShuttered 0 hn
  have hcount : (s.recheckFailed (fnPage f n)).get Reg.FLT.LOG_COUNT.COUNT = s.get Reg.FLT.LOG_COUNT.COUNT :=
    s.recheckFailed_get (by simp only [Reg.FLT.LOG_COUNT.COUNT]; omega)
  rw [State.shutAnew, hflt, hcount]
  rfl

theorem State.shutAnew_kept (s : State) (f : FnKind) (n : Nat) :
    FieldsKept (Reg.HEAD.PG_SHUTTER.FAULT (fnPage f n) :: logFields) s (s.shutAnew f n) := by
  have hfailed : FieldsKept (Reg.HEAD.PG_SHUTTER.FAULT (fnPage f n) :: logFields) s (s.recheckFailed (fnPage f n)) :=
    ((FieldsKept.refl _ s).andPut (by simp)).andSame (State.setPageCause_regs _ _ _)
  exact hfailed.trans ((State.logFault_kept _ _ _ _ _ _).mono fun _ hg => List.mem_cons_of_mem _ hg)

theorem State.shutAnew_state (s : State) (f : FnKind) (n : Nat) :
    s.shutAnew f n = { s with regs := (s.shutAnew f n).regs, flt := (s.shutAnew f n).flt } := by
  have h := (s.recheckFailed (fnPage f n)).logFault_state (recheckCause (s.pageCause (fnPage f n))) (fnBlock f).code n aShuttered 0
  rw [← State.shutAnew] at h
  generalize s.shutAnew f n = t at h ⊢
  rw [h]
  rfl

/-- Settles O44. What a failing re-check leaves is read from R381 (log entry 84); that a mismatch with no pair left does nothing is the
model's choice (log entry 2). -/
theorem pairsRetireAndShuttersAreReleased : Obligations.PairsRetireAndShuttersAreReleased := by
  refine ⟨fun s hon hp => ?_, fun s hp => exec_fmPair_none hp, fun f n sound s hf =>
    exec_shutterRelease_none sound (State.releaseShut_nothing sound (.inl hf)), fun f n sound s hscan hex hf =>
    ⟨fun h => exec_shutterRelease_none sound (State.releaseShut_nothing sound (.inr h)), fun hshut hc hs => ?_, fun hshut hc hs => ?_⟩⟩
  · have hstate := s.pairRetired_state
    have hlogged := s.pairRetired_logged
    obtain ⟨hflt, -, -⟩ := id hlogged
    refine ⟨_, (exec_fmPair hon).trans ((congrArg (run s) (State.fmPair_retires hp)).trans (run_eq (by rw [hstate]) (by rw [hstate]))), ?_, ?_,
      State.isRaised_raise _ _ (by decide), hlogged, hstate, s.pairRetired_kept⟩
    · rw [hflt]
    · rw [State.pairRetired, State.get_raise_ne _ (by decide), State.get_put_of_lt _ (by decide) (by decide)]
  · have hexec := exec_shutterRelease sound hscan hex
    rw [State.releaseShut_judged hf hshut hc, hs, if_pos rfl] at hexec
    have hstands := State.releaseEffect_stands hf (s.shutterOpened (fnPage f n)) n
    obtain ⟨hopen, hfault, hcause⟩ := s.shutterOpened_shows (fnPage f n)
    refine ⟨_, (hs ▸ hexec :), ?_, ?_, ?_, ?_, ?_⟩
    · exact (congrArg (· == 1) (hstands.get rfl)).trans hopen
    · exact (hstands.get rfl).trans hfault
    · exact (hstands.pageCause _).trans hcause
    · exact (congrArg Flt.log hstands.flt).trans (s.shutterOpened_log _)
    · rintro rfl
      exact s.releaseDrive n rfl
  · have hexec := exec_shutterRelease sound hscan hex
    rw [State.releaseShut_judged hf hshut hc, hs, if_neg Bool.false_ne_true, ← State.shutAnew] at hexec
    have hstate := s.shutAnew_state f n
    have hflt := s.shutAnew_flt f (Nat.lt_trans n.isLt (by decide))
    obtain ⟨hs1, hf1, hc1⟩ := s.recheckFailed_shows (fnPage f n)
    have hcause : (s.shutAnew f n).pageCause (fnPage f n) = recheckCause (s.pageCause (fnPage f n)) := by
      rw [State.pageCause, hflt]
      exact hc1
    refine ⟨_, hs ▸ hexec.trans (run_eq (by rw [hstate]) (by rw [hstate])), ?_, ?_, ?_, ?_, s.shutAnew_kept f n⟩
    · exact (congrArg (· == 1) (s.shutAnew_get f n (by simp [FieldRef.ok]) rfl)).trans (hs1.trans hshut)
    · exact (s.shutAnew_get f n (by simp [FieldRef.ok]) rfl).trans hf1
    · rw [hcause, hflt]
    · have hrest : (s.shutAnew f n).flt =
          { s.flt with log := (s.shutAnew f n).flt.log, pageCause := (s.shutAnew f n).flt.pageCause } := by rw [hflt]
      rw [← hrest]
      exact hstate

end Sys2Proof.Machine
end

section
/-! PROOFS. The monitor of a fault domain (chapter 15: R383). -/

namespace Sys2Proof.Machine

/-! ### Coaches taken out together -/

/-- A coach shuttered for a cause; its ECC counts stay. -/
def shutCoach (cause : Nat) (x : Coach) : Coach :=
  { Coach.reset with state := 4, cause := cause, ce := x.ce, ceWin := x.ceWin, ceWinAt := x.ceWinAt }

/-- Coaches shuttered one by one. -/
def State.shutCoaches (s : State) (l : List Nat) (cause : Nat) : State :=
  s.forEach l (fun s c => s.setCoach c (shutCoach cause (s.coach c)))

theorem State.shutCoaches_coach {l : List Nat} (hl : l.Nodup) (s : State) (cause c : Nat) :
    (s.shutCoaches l cause).coach c = if c ∈ l then shutCoach cause (s.coach c) else s.coach c := by
  induction l generalizing s with
  | nil => exact (if_neg List.not_mem_nil).symm
  | cons k l ih =>
    obtain ⟨hk, hl⟩ := List.nodup_cons.1 hl
    have hstep : (s.shutCoaches (k :: l) cause).coach c = ((s.setCoach k (shutCoach cause (s.coach k))).shutCoaches l cause).coach c := rfl
    rw [hstep, ih hl, State.setCoach_coach]
    by_cases hc : c = k
    · subst hc
      rw [if_neg hk, if_pos rfl, if_pos List.mem_cons_self]
    · rw [if_neg hc]
      simp only [List.mem_cons, hc, false_or]

/-- Nothing differs but what coaches hold. -/
theorem State.shutCoaches_state (l : List Nat) (s : State) (cause : Nat) :
    s.shutCoaches l cause = { s with fabric := { s.fabric with coach := (s.shutCoaches l cause).fabric.coach } } := by
  induction l generalizing s with
  | nil => rfl
  | cons k l ih =>
    have hstep : s.shutCoaches (k :: l) cause = (s.setCoach k (shutCoach cause (s.coach k))).shutCoaches l cause := rfl
    have hrest := ih (s.setCoach k (shutCoach cause (s.coach k)))
    rw [hstep]
    generalize (s.setCoach k (shutCoach cause (s.coach k))).shutCoaches l cause = t at hrest ⊢
    rw [hrest]
    rfl

/-! ### The shutter of a domain -/

/-- The coaches of a domain in service. -/
def State.serving (s : State) (d : Nat) : List Nat := ((List.range 128).map (fun i => d * 128 + i)).filter (fun c => s.inService c)

theorem State.mem_serving {s : State} {d c : Nat} : c ∈ s.serving d ↔ domainOf c = d ∧ s.inService c = true := by
  have hdom : (∃ i, i < 128 ∧ d * 128 + i = c) ↔ c / 128 = d := by
    constructor
    · rintro ⟨i, hi, rfl⟩
      omega
    · rintro rfl
      exact ⟨c % 128, Nat.mod_lt _ (by decide), by omega⟩
  simp only [State.serving, List.mem_filter, List.mem_map, List.mem_range, hdom, domainOf]

theorem State.serving_nodup (s : State) (d : Nat) : (s.serving d).Nodup :=
  (List.nodup_range.map fun _ _ h => Nat.add_left_cancel h).filter _

/-- The shutter of a domain for a cause. -/
def State.domainFenceOf (s : State) (d code : Nat) : Fence := ⟨s.serving d, 4, 0x12 + code, d, d⟩

/-- The register that shows a domain's cause. -/
def domCause (d : Nat) : FieldRef := if d < 8 then Reg.FLT.DOM_CAUSE_LO.CAUSE else Reg.FLT.DOM_CAUSE_HI.CAUSE

/-- A domain's coaches marked and its registers written, before its coaches are settled. -/
def State.domainMarked (s : State) (d code : Nat) : State :=
  (((((s.shutCoaches (s.serving d) 4).raiseIf (!(s.serving d).isEmpty) (page .scn 0) 0).put Reg.SCN.DOMAIN_SHUT.MASK
    (setBit (s.get Reg.SCN.DOMAIN_SHUT.MASK) d true)).put (domCause d)
      (s.get (domCause d) - nibble (s.get (domCause d)) (d % 8) * 16 ^ (d % 8) + code * 16 ^ (d % 8))).raise (page .flt 0) 6).raise
    (page .scn 0) 0

/-- What the shutter of a domain writes, but for the log. -/
def domainFields : List FieldRef :=
  [Reg.SCN.DOMAIN_SHUT.MASK, Reg.FLT.DOM_CAUSE_LO.CAUSE, Reg.FLT.DOM_CAUSE_HI.CAUSE, rawBit (page .flt 0) 6, rawBit (page .scn 0) 0]

theorem domCause_mem (d : Nat) : domCause d ∈ domainFields := by
  unfold domCause
  split <;> simp [domainFields]

theorem domCause_ok (d : Nat) : (domCause d).ok := by
  unfold domCause
  split <;> decide

theorem domCause_apart (d : Nat) : Reg.SCN.DOMAIN_SHUT.MASK.apart (domCause d) ∧ (domCause d).apart Reg.SCN.DOMAIN_SHUT.MASK := by
  unfold domCause
  split <;> decide

theorem domCause_raw (d : Nat) : (domCause d).addr ≠ page .scn 0 + 0x10 ∧ (domCause d).addr ≠ page .flt 0 + 0x10 := by
  unfold domCause
  split <;> decide

theorem OnlyFields.andRaiseIf {fs : List FieldRef} {s t : State} {c : Bool} {p k : Nat} (h : OnlyFields fs s t) (hf : rawBit p k ∈ fs) :
    OnlyFields fs s (t.raiseIf c p k) := h.trans (OnlyFields.raiseIf t c p k hf)

theorem State.domainMarked_frame (s : State) (d code : Nat) :
    OnlyFields domainFields (s.shutCoaches (s.serving d) 4) (s.domainMarked d code) :=
  (((((OnlyFields.refl _ _).andRaiseIf (by simp [domainFields])).andPut (by simp [domainFields]) (by decide)).andPut
    (domCause_mem d) (domCause_ok d)).andRaise (by simp [domainFields])).andRaise (by simp [domainFields])

theorem State.domainFence_marks {s : State} {d : Nat} (code : Nat) (h : hasBit (s.get Reg.SCN.DOMAIN_SHUT.MASK) d = false) :
    s.domainFence d code = (s.domainMarked d code, [s.domainFenceOf d code]) := by
  have hshut : ∀ g, (s.shutCoaches (s.serving d) 4).get g = s.get g := fun g => State.get_of_regs (by rw [s.shutCoaches_state]) g
  have hcause : (((s.shutCoaches (s.serving d) 4).raiseIf (!(s.serving d).isEmpty) (page .scn 0) 0).put Reg.SCN.DOMAIN_SHUT.MASK
      (setBit (s.get Reg.SCN.DOMAIN_SHUT.MASK) d true)).get (domCause d) = s.get (domCause d) := by
    rw [State.get_put_apart _ _ (by decide) (domCause_apart d).1, State.raiseIf_eq]
    split
    · rw [State.get_raise_ne _ (domCause_raw d).1, hshut]
    · rw [hshut]
  have heq : s.domainFence d code = if hasBit (s.get Reg.SCN.DOMAIN_SHUT.MASK) d then (s, [])
    else
      let u := ((s.shutCoaches (s.serving d) 4).raiseIf (!(s.serving d).isEmpty) (page .scn 0) 0).put Reg.SCN.DOMAIN_SHUT.MASK
        (setBit (s.get Reg.SCN.DOMAIN_SHUT.MASK) d true)
      (((u.put (domCause d) (u.get (domCause d) - nibble (u.get (domCause d)) (d % 8) * 16 ^ (d % 8) + code * 16 ^ (d % 8))).raise
        (page .flt 0) 6).raise (page .scn 0) 0, [s.domainFenceOf d code]) := rfl
  rw [heq, if_neg (by rw [h]; decide)]
  dsimp only
  rw [hcause, State.domainMarked]

/-! ### Nothing to settle where the domain held no carriage -/

/-- A shutter whose coaches neither hold a carriage nor take part in a move. -/
structure NothingLost (f : Fence) (s : State) : Prop where
  carr : ∀ e ∈ s.fabric.carr, f.coaches.contains (coachOf e.1) = false
  src : ∀ x ∈ s.fabric.moves, f.coaches.contains (coachOf x.src) = false
  dst : ∀ x ∈ s.fabric.moves, f.coaches.contains (coachOf x.dst) = false

theorem State.replanMoves_same {s : State} {out : Nat → Bool} (hsrc : ∀ x ∈ s.fabric.moves, out (coachOf x.src) = false)
    (hdst : ∀ x ∈ s.fabric.moves, out (coachOf x.dst) = false) : s.replanMoves out = s := by
  have hgone : s.fabric.moves.filter (fun m => out (coachOf m.src)) = [] :=
    List.filter_eq_nil_iff.2 fun x hx => by rw [hsrc x hx]; decide
  have hredo : s.fabric.moves.filter (fun m => !out (coachOf m.src) && out (coachOf m.dst)) = [] :=
    List.filter_eq_nil_iff.2 fun x hx => by rw [hdst x hx, Bool.and_false]; decide
  have hstay : s.fabric.moves.filter (fun m => !out (coachOf m.src)) = s.fabric.moves :=
    List.filter_eq_self.2 fun x hx => by rw [hsrc x hx]; rfl
  have hcarr : s.fabric.carr.filter (fun e => !([] : List Move).any (fun m => m.dst == e.1)) = s.fabric.carr :=
    List.filter_eq_self.2 fun _ _ => rfl
  unfold State.replanMoves
  simp only [hgone, hredo, hstay, hcarr, State.forEach_nil]

theorem State.settle_absorbed {s : State} {f : Fence} (h : NothingLost f s) (hplc : s.get Reg.PLC.STAT.STATE ≠ 3) :
    s.settle [f] = s.logFault f.fc 0x20 f.inst aAbsorbed f.data := by
  have hone : ∀ c, [f].any (fun f => f.coaches.contains c) = f.coaches.contains c := fun c => by simp
  have hvictims : s.fabric.carr.filter (fun e => f.coaches.contains (coachOf e.1)) = [] :=
    List.filter_eq_nil_iff.2 fun e he => by rw [h.carr e he]; decide
  have hstay : s.fabric.carr.filter (fun e => !f.coaches.contains (coachOf e.1)) = s.fabric.carr :=
    List.filter_eq_self.2 fun e he => by rw [h.carr e he]; rfl
  have hreplan : s.replanMoves (fun c => f.coaches.contains c) = s := State.replanMoves_same h.src h.dst
  unfold State.settle
  simp only [hone, hvictims, hreplan, hstay, List.isEmpty_cons, Bool.false_eq_true, if_false, List.filter_nil, List.map_nil,
    State.forEach_nil, State.forEach_cons, hplc, false_and]
  rfl

theorem State.domainMarked_fabric (s : State) (d code : Nat) :
    (s.domainMarked d code).fabric = { s.fabric with coach := (s.domainMarked d code).fabric.coach } := by
  have hshut := s.shutCoaches_state (s.serving d) 4
  obtain ⟨hframe, -⟩ := s.domainMarked_frame d code
  have hfabric : (s.domainMarked d code).fabric = (s.shutCoaches (s.serving d) 4).fabric := by rw [hframe]
  rw [hfabric, hshut]

theorem State.domainShutter_absorbed {s : State} {d : Nat} (code : Nat) (h : hasBit (s.get Reg.SCN.DOMAIN_SHUT.MASK) d = false)
    (hcarr : ∀ e ∈ s.fabric.carr, domainOf (coachOf e.1) ≠ d)
    (hmoves : ∀ x ∈ s.fabric.moves, domainOf (coachOf x.src) ≠ d ∧ domainOf (coachOf x.dst) ≠ d) (hplc : s.get Reg.PLC.STAT.STATE ≠ 3) :
    s.domainShutter d code = (s.domainMarked d code).logFault (0x12 + code) 0x20 d aAbsorbed d := by
  have hout : ∀ c, domainOf c ≠ d → (s.serving d).contains c = false := fun c hc => by
    rw [List.contains_eq_mem, decide_eq_false_iff_not, State.mem_serving]
    exact fun hm => hc hm.1
  have hfabric := s.domainMarked_fabric d code
  have hlost : NothingLost (s.domainFenceOf d code) (s.domainMarked d code) := by
    refine ⟨fun e he => hout _ (hcarr e ?_), fun x hx => hout _ (hmoves x ?_).1, fun x hx => hout _ (hmoves x ?_).2⟩
    · rwa [hfabric] at he
    · rwa [hfabric] at hx
    · rwa [hfabric] at hx
  have hstate : (s.domainMarked d code).get Reg.PLC.STAT.STATE = s.get Reg.PLC.STAT.STATE :=
    ((s.domainMarked_frame d code).get (by decide) (by decide)).trans (State.get_of_regs (by rw [s.shutCoaches_state]) _)
  rw [State.domainShutter, State.domainFence_marks code h]
  exact State.settle_absorbed hlost (hstate ▸ hplc)

/-! ### What the registers show -/

theorem State.domainMarked_kept (s : State) (d code : Nat) : FieldsKept domainFields s (s.domainMarked d code) :=
  (FieldsKept.of_regs (by rw [s.shutCoaches_state])).trans (s.domainMarked_frame d code).2

theorem State.domainMarked_mask (s : State) {d k : Nat} (code : Nat) (hk : k < 16) :
    hasBit ((s.domainMarked d code).get Reg.SCN.DOMAIN_SHUT.MASK) k = (hasBit (s.get Reg.SCN.DOMAIN_SHUT.MASK) k || k == d) := by
  have hget : (s.domainMarked d code).get Reg.SCN.DOMAIN_SHUT.MASK = setBit (s.get Reg.SCN.DOMAIN_SHUT.MASK) d true % 2 ^ 16 := by
    rw [State.domainMarked, State.get_raise_ne _ (by decide), State.get_raise_ne _ (by decide),
      State.get_put_apart _ _ (domCause_ok d) (domCause_apart d).2, State.get_put_self _ _ (by decide)]
    rfl
  rw [hget, hasBit_testBit, Nat.testBit_mod_two_pow, ← hasBit_testBit, decide_eq_true hk, Bool.true_and]
  by_cases h : k = d
  · subst h
    rw [hasBit_setBit_self, beq_self_eq_true, Bool.or_true]
  · rw [hasBit_setBit_ne _ _ h, beq_eq_false_iff_ne.2 h, Bool.or_false]

theorem State.domainMarked_cause (s : State) (d : Nat) {code : Nat} (hc : code < 16) :
    nibble ((s.domainMarked d code).get (domCause d)) (d % 8) = code := by
  have hget : (s.domainMarked d code).get (domCause d) =
      (s.get (domCause d) - nibble (s.get (domCause d)) (d % 8) * 16 ^ (d % 8) + code * 16 ^ (d % 8)) % 16 ^ 8 := by
    obtain ⟨hscn, hflt⟩ := domCause_raw d
    rw [State.domainMarked, State.get_raise_ne _ hscn, State.get_raise_ne _ hflt, State.get_put_self _ _ (domCause_ok d)]
    unfold domCause
    split <;> rfl
  rw [hget, nibble, digit_mod _ (Nat.mod_lt _ (by decide))]
  exact digit_replaced _ _ _ _ hc

theorem State.coach_of_same {s t : State} (hf : t.fabric = s.fabric) (hp : t.power = s.power) {c : Nat} : t.coach c = s.coach c := by
  have hreset : t.coachReset = s.coachReset := by
    funext k
    rw [State.coachReset, State.coachReset, hp]
  rw [State.coach, State.coach, hf, hreset]

theorem OnlyFields.coach_eq {fs : List FieldRef} {s t : State} (h : OnlyFields fs s t) (c : Nat) : t.coach c = s.coach c :=
  State.coach_of_same (by rw [h.1]) (by rw [h.1])

theorem State.logFault_coach (s : State) (cause block inst action data c : Nat) :
    (s.logFault cause block inst action data).coach c = s.coach c :=
  State.coach_of_same (by rw [s.logFault_state]) (by rw [s.logFault_state])

theorem domCause_beside (d : Nat) : ∀ f ∈ logFields, f.apart (domCause d) := by
  unfold domCause
  split <;> decide

theorem State.domainLogged_state (s : State) (d code : Nat) {t : State}
   
    (ht : t = (s.domainMarked d code).logFault (0x12 + code) 0x20 d aAbsorbed d := by rfl) :
    t = { s with regs := t.regs, flt := t.flt, fabric := { s.fabric with coach := t.fabric.coach } } := by
  have hlog := (s.domainMarked d code).logFault_state (0x12 + code) 0x20 d aAbsorbed d
  have hshut := s.shutCoaches_state (s.serving d) 4
  obtain ⟨hmarked, -⟩ := s.domainMarked_frame d code
  rw [← ht] at hlog
  generalize s.domainMarked d code = u at hlog hmarked
  generalize s.shutCoaches (s.serving d) 4 = v at hmarked hshut
  rw [hlog, hmarked, hshut]

/-- Settles O45. -/
theorem domainMonitorShuttersItsDomain : Obligations.DomainMonitorShuttersItsDomain := by
  intro dom m code s hcode hopen hcarr hmoves hplc
  have hlt : code < 16 := by rw [hcode]; cases m <;> decide
  have hexec : exec (.domainMonitorTrip dom m) s = run s (s.domainShutter dom code) := by
    rw [hcode]
    cases m <;> rfl
  have habsorbed := State.domainShutter_absorbed code hopen hcarr hmoves hplc
  have hmarked := s.domainMarked_frame dom code
  have hcoach : ∀ c, ((s.domainMarked dom code).logFault (0x12 + code) 0x20 dom aAbsorbed dom).coach c =
      if c ∈ s.serving dom then shutCoach 4 (s.coach c) else s.coach c := fun c => by
    rw [State.logFault_coach, hmarked.coach_eq, State.shutCoaches_coach (s.serving_nodup dom)]
  have hstate := s.domainLogged_state dom code
  have hkept : FieldsKept (domainFields ++ logFields) s ((s.domainMarked dom code).logFault (0x12 + code) 0x20 dom aAbsorbed dom) :=
    ((s.domainMarked_kept dom code).mono fun _ hf => List.mem_append_left _ hf).trans
      ((State.logFault_kept _ _ _ _ _ _).mono fun _ hf => List.mem_append_right _ hf)
  have hmask := State.logFault_get (s.domainMarked dom code) (0x12 + code) 0x20 dom aAbsorbed dom (g := Reg.SCN.DOMAIN_SHUT.MASK)
    (by decide) (by decide)
  have hcause := State.logFault_get (s.domainMarked dom code) (0x12 + code) 0x20 dom aAbsorbed dom (g := domCause dom)
    (domCause_ok dom) (domCause_beside dom)
  refine ⟨_, hexec.trans ((congrArg (run s) habsorbed).trans (run_eq (by rw [hstate]) (by rw [hstate]))), fun c hd hs => ?_, fun c hc => ?_,
    fun k hk => ?_, fun hd => ?_, fun hd => ?_, ?_, ?_, ?_, hstate, hkept⟩
  · rw [hcoach, if_pos (State.mem_serving.2 ⟨hd, hs⟩), shutCoach]
  · rw [hcoach, if_neg fun hm => ?_]
    obtain ⟨hd, hs⟩ := State.mem_serving.1 hm
    rcases hc with hc | hc
    · exact hc hd
    · exact Bool.false_ne_true (hc.symm.trans hs)
  · rw [hmask, s.domainMarked_mask code hk]
  · have hshown := s.domainMarked_cause dom hlt
    rw [← hcause, domCause, if_pos hd, Nat.mod_eq_of_lt hd] at hshown
    exact hshown
  · have hshown := s.domainMarked_cause dom hlt
    have hmod : dom.val % 8 = dom - 8 := by omega
    rw [← hcause, domCause, if_neg (by omega), hmod] at hshown
    exact hshown
  · rw [State.isRaised, State.logFault_get _ _ _ _ _ _ (by decide) (by decide)]
    exact State.isRaised_raise_of (State.isRaised_raise _ _ (by decide)) (by decide) _ _
  · rw [State.isRaised, State.logFault_get _ _ _ _ _ _ (by decide) (by decide)]
    exact State.isRaised_raise _ _ (by decide)
  · exact ((s.domainMarked dom code).logFault_logged (0x12 + code) 0x20 aAbsorbed dom (Nat.lt_trans dom.isLt (by decide))).of_same
      (hmarked.flt_eq.trans (by rw [s.shutCoaches_state])) (hmarked.tick_eq.trans (by rw [s.shutCoaches_state]))
      ((s.domainMarked_kept dom code).get (by decide) (by decide)) rfl fun _ _ => rfl

end Sys2Proof.Machine
end

section
/-! PROOFS. The device-wide shutter, and the fence of the outputs (chapter 15: R378, R385, R386; Table 14-1 row 2). -/

namespace Sys2Proof.Machine

/-! ### What row 2 shows -/

theorem State.wakeEnds_waking {s : State} (h : s.power.waking = true) : (s.wakeEnds 6).isRaised (page .prf 0) 5 := by
  unfold State.wakeEnds
  rw [if_pos ⟨.inl rfl, h⟩]
  exact State.isRaised_raise _ _ (by decide)

/-- The supplies' state after a wake that ended, and after none. -/
def Power.settled (p : Power) : Power :=
  { p with waking := false, image := !p.waking && p.image, epochDue := p.waking || p.epochDue }

theorem State.wakeEnds_power (s : State) : (s.wakeEnds 6).power = s.power.settled := by
  unfold State.wakeEnds Power.settled
  rcases h : s.power.waking with - | -
  · rw [if_neg (by simp)]
    generalize hp : s.power = p at h ⊢
    cases p
    simp_all
  · rw [if_pos ⟨.inl rfl, rfl⟩]
    simp

theorem State.wakeEnds_state (s : State) (v : Nat) :
    s.wakeEnds v = { s with regs := (s.wakeEnds v).regs, power := (s.wakeEnds v).power } := by
  unfold State.wakeEnds
  split <;> rfl

/-- A change into SHUTTERED. -/
theorem State.setDevState_fenced {s : State} (h : s.devState ≠ 6) :
    s.setDevState 6 = ((s.put Reg.GLB.DEV_STATE.STATE 6).raise (page .glb 0) 0).wakeEnds 6 := by
  unfold State.setDevState
  rw [if_neg h]

theorem State.wakeEnds_raised {s : State} {p k : Nat} (h : s.isRaised p k) (hk : k < 32) (v : Nat) : (s.wakeEnds v).isRaised p k := by
  unfold State.wakeEnds
  split
  · exact State.isRaised_raise_of (s := { s with power := { s.power with waking := false, image := false, epochDue := true } }) h hk
      _ _
  · exact h

theorem State.setDevState_fenced_raised {s : State} (h : s.devState ≠ 6) : (s.setDevState 6).isRaised (page .glb 0) 0 := by
  rw [State.setDevState_fenced h]
  exact State.wakeEnds_raised (State.isRaised_raise _ _ (by decide)) (by decide) 6

theorem State.setDevState_woke {s : State} (h : s.devState ≠ 6) (hw : s.power.waking = true) :
    (s.setDevState 6).isRaised (page .prf 0) 5 := by
  rw [State.setDevState_fenced h]
  refine State.wakeEnds_waking ?_
  rw [State.raise_power, State.put_power, hw]

theorem State.setDevState_fenced_state (s : State) :
    s.setDevState 6 = { s with regs := (s.setDevState 6).regs, power := (s.setDevState 6).power } := by
  unfold State.setDevState
  split
  · rfl
  · exact State.wakeEnds_state _ 6

/-- What the report of a cause shows of it, of the state, and of a wake that ends there. -/
theorem State.devReported_shows (s : State) (fc t : Nat) : (s.devReported fc t).get Reg.PRF.STAT.LOAD_CAUSE = devLoadCause fc % 16 ∧
    (s.devReported fc t).get Reg.FLT.DEV_FAULT.CAUSE = fc % 256 ∧ (s.devReported fc t).get Reg.FLT.DEV_FAULT.DEV_SHUT = 1 ∧
    (s.devReported fc t).isRaised (page .flt 0) 2 := by
  have hsince := s.devReported_since fc t
  refine ⟨(hsince.get (by decide) (by decide)).trans ?_, (hsince.get (by decide) (by decide)).trans ?_,
    (hsince.get (by decide) (by decide)).trans ?_, (hsince.get (by decide) (by decide)).trans ?_⟩
  · rw [State.devFenced, State.get_raise_apart _ (by decide) (by decide), State.get_put_apart _ _ (by decide) (by decide),
      State.get_put_apart _ _ (by decide) (by decide), State.get_put_self _ _ (by decide)]
    simp
  · rw [State.devFenced, State.get_raise_apart _ (by decide) (by decide), State.get_put_apart _ _ (by decide) (by decide),
      State.get_put_self _ _ (by decide)]
    simp
  · rw [State.devFenced, State.get_raise_apart _ (by decide) (by decide), State.get_put_self _ _ (by decide)]
    simp
  · exact State.isRaised_raise _ _ (by decide)

theorem State.devReported_raised {s : State} {p k : Nat} (fc t : Nat) (h : (s.setDevState 6).isRaised p k)
    (hf : ∀ f ∈ [Reg.PRF.STAT.LOAD_CAUSE, Reg.FLT.DEV_FAULT.CAUSE, Reg.FLT.DEV_FAULT.DEV_SHUT, rawBit (page .flt 0) 2] ++
      devReportFields, f.apart (rawBit p k)) (ok : (rawBit p k).ok) : (s.devReported fc t).isRaised p k := by
  unfold State.isRaised at h ⊢
  rw [(s.devReported_since fc t).get ok fun f hm => hf f (List.mem_append_right _ hm),
    (s.devFenced_frame fc).get ok fun f hm => hf f (List.mem_append_left _ hm), h]

theorem State.devLogged_state (s : State) (fc : Nat) :
    s.devLogged fc = { s.devFenced fc with regs := (s.devLogged fc).regs, flt := (s.devLogged fc).flt } := by
  unfold State.devLogged
  exact State.logFault_state _ _ _ _ _ _

/-- What a report can change: registers, the fault manager, the supplies' state, carts and their numbers. -/
def ReportFrame (s t : State) : Prop :=
  t = { s with regs := t.regs, flt := t.flt, power := t.power, carts := t.carts, recd := { s.recd with seq := t.recd.seq } }

theorem ReportFrame.trans {s t u : State} (h : ReportFrame s t) (k : ReportFrame t u) : ReportFrame s u := by
  unfold ReportFrame at *
  rw [k, h]

theorem ReportFrame.of_state {s t : State} (h : t = { s with regs := t.regs, flt := t.flt, power := t.power }) : ReportFrame s t := by
  unfold ReportFrame
  rw [h]

theorem OnlyFields.reportFrame {fs : List FieldRef} {s t : State} (h : OnlyFields fs s t) : ReportFrame s t := by
  obtain ⟨h, -⟩ := h
  unfold ReportFrame
  rw [h]

theorem OnlyCarts.reportFrame {s t : State} (h : OnlyCarts s t) : ReportFrame s t := by
  unfold OnlyCarts at h
  unfold ReportFrame
  rw [h]

theorem State.devReported_reports (s : State) (fc t : Nat) : ReportFrame s (s.devReported fc t) := by
  have hset : ReportFrame s (s.setDevState 6) := .of_state (by rw [s.setDevState_fenced_state])
  have hlog : ReportFrame (s.devFenced fc) (s.devLogged fc) := .of_state (by rw [s.devLogged_state fc])
  exact (((hset.trans (s.devFenced_frame fc).reportFrame).trans hlog).trans (s.devMarked_onlyCarts fc t).reportFrame).trans
    (s.devReported_frame fc t).reportFrame

theorem OnlyFields.power_eq {fs : List FieldRef} {s t : State} (h : OnlyFields fs s t) : t.power = s.power := by
  obtain ⟨h, -⟩ := h
  rw [h]

theorem OnlyCarts.power_eq {s t : State} (h : OnlyCarts s t) : t.power = s.power := by rw [h]

theorem State.devLogged_power (s : State) (fc : Nat) : (s.devLogged fc).power = (s.devFenced fc).power := by
  rw [s.devLogged_state fc]

theorem State.devReported_power (s : State) (fc t : Nat) : (s.devReported fc t).power = (s.setDevState 6).power :=
  (s.devReported_frame fc t).power_eq.trans ((s.devMarked_onlyCarts fc t).power_eq.trans
    ((s.devLogged_power fc).trans (s.devFenced_frame fc).power_eq))

/-- What row 2 of Table 14-1 shows of a cause at an instant, of the log against `u` and of the rest against `s`. -/
structure FencedRow (fc n : Nat) (s u t : State) : Prop where
  state : t.devState = 6
  load : t.get Reg.PRF.STAT.LOAD_CAUSE = 9
  cause : t.get Reg.FLT.DEV_FAULT.CAUSE = fc
  shut : t.get Reg.FLT.DEV_FAULT.DEV_SHUT = 1
  raised : t.isRaised (page .flt 0) 2
  changed : t.isRaised (page .glb 0) 0
  woke : s.power.waking = true → t.isRaised (page .prf 0) 5
  power : t.power = s.power.settled
  logged : Logged fc (devBlock fc) 0 aDevice 0 u t
  marker : MarkerCart 0x15 s.markerCls (st0 n) s t
  frame : ReportFrame s t

/-- Row 2 for a device that is not in RUN, from a state that differs from `s` and `u` in registers and the fault manager only. -/
theorem State.devReported_row {s u v : State} {fc n : Nat} (hfc : fc = 0x26 ∨ fc = 0x23 ∨ fc = 0x25) (hv : v.devState ≠ 6)
    (hstate : v = { s with regs := v.regs, flt := v.flt }) (hflt : v.flt = u.flt) (htick : v.tick = u.tick)
    (hcount : v.get Reg.FLT.LOG_COUNT.COUNT = u.get Reg.FLT.LOG_COUNT.COUNT) (hcls : v.markerCls = s.markerCls)
    (hprov : v.provCls = s.provCls) : FencedRow fc n s u (v.devReported fc (st0 n)) := by
  obtain ⟨hload, hcause, hshut, hraised⟩ := v.devReported_shows fc (st0 n)
  have hpower : v.power = s.power := by rw [hstate]
  have hmarker := v.devReported_marker fc (st0 n)
  rw [show st0 n / 128 = n from Nat.mul_div_cancel _ (by decide), hcls] at hmarker
  exact
    { state := State.devReported_devState _ _ _
      load := hload.trans (by rcases hfc with rfl | rfl | rfl <;> rfl)
      cause := hcause.trans (by rcases hfc with rfl | rfl | rfl <;> rfl)
      shut := hshut
      raised := hraised
      changed := State.devReported_raised _ _ (State.setDevState_fenced_raised hv) (by decide) (by decide)
      woke := fun hw => State.devReported_raised _ _ (State.setDevState_woke hv (hpower ▸ hw)) (by decide) (by decide)
      power := by
        rw [State.devReported_power, State.setDevState_fenced hv, State.wakeEnds_power, State.raise_power, State.put_power, hpower]
      logged := (State.devReported_logged _ _ _).of_same hflt htick hcount rfl fun _ _ => rfl
      marker := hmarker.of_same (by rw [hstate]) (by rw [hstate]) hprov rfl rfl
      frame := (ReportFrame.of_state (by rw [hstate])).trans (State.devReported_reports _ _ _) }

/-- A device-wide shutter outside RUN reports, and no link is left to follow. -/
theorem State.deviceShut_reports {v : State} (hdev : v.devState = 3 ∨ v.devState = 4 ∨ v.devState = 5 ∨ v.devState = 7)
    (hlinks : ∀ l, l < 16 → v.lnkState l ≠ 6) (fc t : Nat) : v.deviceShut fc t = v.devReported fc t := by
  rw [State.deviceShut_idle (by rcases hdev with h | h | h | h <;> simp [State.shutFrom, h]) (by omega) (by omega)]
  refine State.linksFollow_idle (by simp [State.devReported_devState]) fun l hl => ?_
  rw [State.devReported_lnkState _ _ _ hl]
  exact hlinks l hl

/-! ### The three commands -/

theorem exec_deviceHostShutter_reports {s : State} (hdev : s.devState = 3 ∨ s.devState = 4 ∨ s.devState = 5 ∨ s.devState = 7)
    (hlinks : ∀ l, l < 16 → s.lnkState l ≠ 6) : exec .deviceHostShutter s = .next s.fltShuttered := by
  have hfrom : s.shutFrom = true := by rcases hdev with h | h | h | h <;> simp [State.shutFrom, h]
  have hput : (s.put (Reg.HEAD.PG_SHUTTER.SHUT (page .flt 0)) 1).devState = s.devState := s.get_put_apart _ (by decide) (by decide)
  have hshut : s.hostShutDevice (st0 (s.tick + 1)) = s.fltShuttered := by
    unfold State.hostShutDevice
    have hopen : ¬ (s.bit (Reg.HEAD.PG_SHUTTER.SHUT (page .flt 0)) &&
        (s.put (Reg.HEAD.PG_SHUTTER.SHUT (page .flt 0)) 1).devState == 6) = true := by
      rw [hput]
      simp only [Bool.and_eq_true, beq_iff_eq]
      omega
    rw [if_neg hopen, State.deviceShut_reports (by rwa [hput]) fun l hl => by
      rw [State.lnkState, s.get_put_apart _ (by simp [FieldRef.ok]) (.inl (by simp; omega))]
      exact hlinks l hl]
    rfl
  calc exec .deviceHostShutter s
      = run s (s.when s.shutFrom fun s => s.hostShutDevice (st0 (s.tick + 1))) := rfl
    _ = run s s.fltShuttered := by rw [hfrom, State.when_true, hshut]
    _ = .next s.fltShuttered := run_eq (State.devReported_tick _ _ _) (State.devReported_pending _ _ _)

theorem exec_supplyFault_reports {s : State} (hdev : s.devState = 3 ∨ s.devState = 4 ∨ s.devState = 5 ∨ s.devState = 7)
    (hlinks : ∀ l, l < 16 → s.lnkState l ≠ 6) (hlow : s.get Reg.FLT.DEV_FAULT.SUPPLY_LOW = 1) (hidle : s.clk.dvfs = none) :
    exec .supplyFault s = .next (s.devReported 0x23 (st0 s.tick)) := by
  have hcond : (s.bit Reg.FLT.DEV_FAULT.SUPPLY_LOW && s.clk.dvfs.isNone && !(true && s.devState == 6)) = true := by
    simp only [State.bit, hlow, hidle, Option.isNone_none, Bool.and_true, Bool.true_and, beq_self_eq_true, Bool.not_eq_true',
      beq_eq_false_iff_ne]
    omega
  calc exec .supplyFault s
      = run s (s.supplyFault true) := rfl
    _ = run s (s.deviceShut 0x23 s.now) := by rw [State.supplyFault, hcond, State.when_true]
    _ = run s (s.devReported 0x23 (st0 s.tick)) := by rw [State.deviceShut_reports hdev hlinks, State.now]
    _ = .next (s.devReported 0x23 (st0 s.tick)) := run_eq (State.devReported_tick _ _ _) (State.devReported_pending _ _ _)

theorem State.fmPair_last {s : State} (h : s.flt.pairs = 1) : s.fmPair = (s.withPairs 0).deviceShut 0x25 (st0 (s.tick + 1)) := by
  unfold State.fmPair
  rw [h]
  rfl

theorem exec_fmPair_reports {s : State} (hdev : s.devState = 3 ∨ s.devState = 4 ∨ s.devState = 5 ∨ s.devState = 7)
    (hlinks : ∀ l, l < 16 → s.lnkState l ≠ 6) (hpairs : s.flt.pairs = 1) :
    exec .fmPair s = .next ((s.withPairs 0).devReported 0x25 (st0 (s.tick + 1))) := by
  have hon : s.clockOn = true := by
    rw [State.clockOn, decide_eq_true_eq]
    omega
  have hshut : (s.withPairs 0).deviceShut 0x25 (st0 (s.tick + 1)) = (s.withPairs 0).devReported 0x25 (st0 (s.tick + 1)) := by
    refine State.deviceShut_reports ?_ ?_ _ _
    · exact hdev
    · exact hlinks
  calc exec .fmPair s
      = run s ((s.withPairs 0).devReported 0x25 (st0 (s.tick + 1))) := by rw [exec_fmPair hon, State.fmPair_last hpairs, hshut]
    _ = .next ((s.withPairs 0).devReported 0x25 (st0 (s.tick + 1))) :=
      run_eq (State.devReported_tick (s.withPairs 0) _ _) (State.devReported_pending (s.withPairs 0) _ _)

/-! ### The last mismatch in SHUTTERED -/

/-- DEV_FAULT of a cause that comes while no device-wide shutter stands (log entry 62). -/
def State.causeShown (s : State) (fc : Nat) : State :=
  if s.bit Reg.FLT.DEV_FAULT.DEV_SHUT then s else (s.put Reg.FLT.DEV_FAULT.CAUSE fc).put Reg.FLT.DEV_FAULT.DEV_SHUT 1

/-- The same with DEV_SHUT raised. -/
def State.causeRaised (s : State) (fc : Nat) : State := (s.causeShown fc).raise (page .flt 0) 2

/-- The same with its log entry. -/
def State.causeLogged (s : State) (fc : Nat) : State := (s.causeRaised fc).logFault fc (devBlock fc) 0 aDevice 0

/-- The same with its marker. -/
def State.causeMarked (s : State) (fc t : Nat) : State :=
  (s.causeLogged fc).faultMarker fc (devBlock fc) 0 aDevice none 0 (t / 128) 63

theorem State.deviceShut_again {s : State} (h : s.devState = 6) (fc t : Nat) : s.deviceShut fc t = s.causeMarked fc t := by
  have heq : s.deviceCause fc t false = ((if false = true ∨ (!s.bit Reg.FLT.DEV_FAULT.DEV_SHUT) = true then
      (s.put Reg.FLT.DEV_FAULT.CAUSE fc).put Reg.FLT.DEV_FAULT.DEV_SHUT 1 else s).raise (page .flt 0) 2 |>.logFault fc (devBlock fc)
        0 aDevice 0).faultMarker fc (devBlock fc) 0 aDevice none 0 (t / 128) 63 := rfl
  unfold State.deviceShut State.causeMarked State.causeLogged State.causeRaised State.causeShown
  rw [if_pos h, heq]
  cases s.bit Reg.FLT.DEV_FAULT.DEV_SHUT <;> rfl

/-- What it writes before its log entry. -/
def causeFields : List FieldRef := [Reg.FLT.DEV_FAULT.CAUSE, Reg.FLT.DEV_FAULT.DEV_SHUT, rawBit (page .flt 0) 2]

theorem State.causeRaised_frame (s : State) (fc : Nat) : OnlyFields causeFields s (s.causeRaised fc) := by
  have hshown : OnlyFields causeFields s (s.causeShown fc) := by
    unfold State.causeShown
    split
    · exact OnlyFields.refl _ s
    · exact (OnlyFields.put _ _ (by decide) (by decide)).then_put _ (by decide) (by decide)
  exact hshown.then_raise _ _ (by decide)

theorem State.causeLogged_state (s : State) (fc : Nat) :
    s.causeLogged fc = { s.causeRaised fc with regs := (s.causeLogged fc).regs, flt := (s.causeLogged fc).flt } := by
  unfold State.causeLogged
  exact State.logFault_state _ _ _ _ _ _

theorem State.causeMarked_onlyCarts (s : State) (fc t : Nat) : OnlyCarts (s.causeLogged fc) (s.causeMarked fc t) :=
  State.faultMarker_onlyCarts _ _ _ _ _ _ _ _ _

theorem State.causeLogged_kept (s : State) (fc : Nat) : FieldsKept (causeFields ++ logFields) s (s.causeLogged fc) :=
  ((s.causeRaised_frame fc).2.mono fun _ hf => List.mem_append_left _ hf).trans
    ((State.logFault_kept _ _ _ _ _ _).mono fun _ hf => List.mem_append_right _ hf)

theorem State.causeMarked_kept (s : State) (fc t : Nat) : FieldsKept (causeFields ++ logFields) s (s.causeMarked fc t) :=
  (s.causeLogged_kept fc).trans (.of_regs (s.causeMarked_onlyCarts fc t).regs_eq)

theorem State.causeMarked_frame (s : State) (fc t : Nat) : s.causeMarked fc t = { s with
    regs := (s.causeMarked fc t).regs, flt := (s.causeMarked fc t).flt, carts := (s.causeMarked fc t).carts,
    recd := { s.recd with seq := (s.causeMarked fc t).recd.seq } } := by
  have hmarked := s.causeMarked_onlyCarts fc t
  have hlog := s.causeLogged_state fc
  obtain ⟨hraised, -⟩ := s.causeRaised_frame fc
  unfold OnlyCarts at hmarked
  generalize s.causeMarked fc t = m at *
  generalize s.causeLogged fc = l at *
  generalize s.causeRaised fc = r at *
  rw [hmarked, hlog, hraised]

theorem State.causeMarked_raised (s : State) (fc t : Nat) : (s.causeMarked fc t).isRaised (page .flt 0) 2 := by
  rw [(s.causeMarked_onlyCarts fc t).isRaised_iff]
  unfold State.isRaised State.causeLogged
  rw [State.logFault_get _ _ _ _ _ _ (by decide) (by decide)]
  exact State.isRaised_raise _ _ (by decide)

theorem State.causeMarked_logged (s : State) (fc t : Nat) : Logged fc (devBlock fc) 0 aDevice 0 s (s.causeMarked fc t) := by
  have hmarked := s.causeMarked_onlyCarts fc t
  have hframe := s.causeRaised_frame fc
  have hlogged : Logged fc (devBlock fc) 0 aDevice 0 (s.causeRaised fc) (s.causeLogged fc) :=
    State.logFault_logged _ _ _ _ _ (by decide)
  exact hlogged.of_same hframe.flt_eq hframe.tick_eq (hframe.get (by decide) (by decide)) hmarked.flt_eq fun g _ => hmarked.get_eq g

theorem State.causeMarked_marker (s : State) (fc n : Nat) :
    MarkerCart 0x15 s.markerCls (st0 n) s (s.causeMarked fc (st0 n)) := by
  have hmarker : MarkerCart 0x15 (s.causeLogged fc).markerCls (st0 (st0 n / 128)) (s.causeLogged fc) (s.causeMarked fc (st0 n)) :=
    State.faultMarker_marker _ _ _ _ _ _ _ _
  have hkept := s.causeLogged_kept fc
  have hcls : (s.causeLogged fc).markerCls = s.markerCls := hkept.get (by decide) (by decide)
  have hprov : (s.causeLogged fc).provCls = s.provCls := hkept.get (by decide) (by decide)
  obtain ⟨hraised, -⟩ := s.causeRaised_frame fc
  have hcarts : (s.causeLogged fc).carts = s.carts := by rw [s.causeLogged_state fc, hraised]
  have hrecd : (s.causeLogged fc).recd = s.recd := by rw [s.causeLogged_state fc, hraised]
  rw [hcls, show st0 n / 128 = n from Nat.mul_div_cancel _ (by decide)] at hmarker
  exact hmarker.of_same hcarts hrecd hprov rfl rfl

theorem State.fmPair_again {s : State} (h6 : s.devState = 6) (hpairs : s.flt.pairs = 1) :
    s.fmPair = (s.withPairs 0).causeMarked 0x25 (st0 (s.tick + 1)) := by
  rw [State.fmPair_last hpairs]
  refine State.deviceShut_again ?_ _ _
  exact h6

/-- What a report in SHUTTERED writes. -/
theorem causeFields_listed : causeFields ++ logFields ⊆
    (Reg.FLT.DEV_FAULT.CAUSE :: Reg.FLT.DEV_FAULT.DEV_SHUT :: rawBit (page .flt 0) 2 :: logFields) := by decide

theorem exec_fmPair_again {s : State} (h6 : s.devState = 6) (hpairs : s.flt.pairs = 1) :
    ∃ t, exec .fmPair s = .next t ∧ t.isRaised (page .flt 0) 2 ∧
      Logged 0x25 (devBlock 0x25) 0 aDevice 0 { s with flt := { s.flt with pairs := 0 } } t ∧
      MarkerCart 0x15 s.markerCls (st0 (s.tick + 1)) s t ∧
      t = { s with regs := t.regs, flt := t.flt, carts := t.carts, recd := { s.recd with seq := t.recd.seq } } ∧
      FieldsKept (Reg.FLT.DEV_FAULT.CAUSE :: Reg.FLT.DEV_FAULT.DEV_SHUT :: rawBit (page .flt 0) 2 :: logFields) s t := by
  have hon : s.clockOn = true := by rw [State.clockOn, h6]; rfl
  have hstate := (s.withPairs 0).causeMarked_frame 0x25 (st0 (s.tick + 1))
  have hkept := (s.withPairs 0).causeMarked_kept 0x25 (st0 (s.tick + 1))
  have hraised := (s.withPairs 0).causeMarked_raised 0x25 (st0 (s.tick + 1))
  have hlogged := (s.withPairs 0).causeMarked_logged 0x25 (st0 (s.tick + 1))
  have hmarker := (s.withPairs 0).causeMarked_marker 0x25 (s.tick + 1)
  have hexec := exec_fmPair hon
  rw [State.fmPair_again h6 hpairs] at hexec
  generalize (s.withPairs 0).causeMarked 0x25 (st0 (s.tick + 1)) = t at *
  refine ⟨t, hexec.trans (run_eq ?_ ?_), hraised, hlogged, hmarker, hstate,
    (FieldsKept.of_regs rfl).trans (hkept.mono causeFields_listed)⟩
  · rw [hstate]
    rfl
  · rw [hstate]
    rfl

/-! ### The fence of the outputs (R386) -/

/-- What the fence can change before it holds: registers, endpoints and edges to come. -/
def RingFrame (fs : List FieldRef) (s t : State) : Prop :=
  t = { s with regs := t.regs, eps := t.eps, edges := t.edges } ∧ FieldsKept fs s t

theorem RingFrame.refl (fs : List FieldRef) (s : State) : RingFrame fs s s := ⟨rfl, FieldsKept.refl _ s⟩

theorem RingFrame.trans {fs : List FieldRef} {s t u : State} (h : RingFrame fs s t) (k : RingFrame fs t u) : RingFrame fs s u := by
  obtain ⟨hs, hkept⟩ := h
  obtain ⟨ks, kkept⟩ := k
  exact ⟨by rw [ks, hs], hkept.trans kkept⟩

theorem RingFrame.mono {fs gs : List FieldRef} {s t : State} (h : RingFrame fs s t) (hsub : fs ⊆ gs) : RingFrame gs s t :=
  ⟨h.1, h.2.mono hsub⟩

theorem RingFrame.edge (fs : List FieldRef) (s : State) (a t : Nat) (level : Bool) : RingFrame fs s (s.edge a t level) := by
  unfold State.edge
  split
  · exact RingFrame.refl fs s
  · exact ⟨rfl, .of_regs rfl⟩

theorem State.edge_ep (s : State) (a t : Nat) (level : Bool) (b : Nat) : (s.edge a t level).ep b = s.ep b := by
  unfold State.edge
  split <;> rfl

theorem State.edge_get (s : State) (a t : Nat) (level : Bool) (f : FieldRef) : (s.edge a t level).get f = s.get f := by
  unfold State.edge
  split <;> rfl

theorem State.gateLow_frame (s : State) (n t : Nat) : RingFrame [Reg.DRV.STAT.GATE n] s (s.gateLow n t) := by
  unfold State.gateLow
  split
  · have hput : OnlyFields [Reg.DRV.STAT.GATE n] s (s.put (Reg.DRV.STAT.GATE n) 0) :=
      OnlyFields.put s 0 (by simp) (by simp [FieldRef.ok])
    exact RingFrame.trans ⟨by rw [hput.1], hput.2⟩ (RingFrame.edge _ _ _ _ _)
  · exact RingFrame.refl _ s

theorem State.edge_eps (s : State) (a t : Nat) (level : Bool) : (s.edge a t level).eps = s.eps := by
  unfold State.edge
  split <;> rfl

theorem State.gateLow_eps (s : State) (n t : Nat) : (s.gateLow n t).eps = s.eps := by
  unfold State.gateLow
  split
  · exact State.edge_eps _ _ _ _
  · rfl

theorem State.gateLow_low (s : State) (n t : Nat) : (s.gateLow n t).get (Reg.DRV.STAT.GATE n) = 0 := by
  unfold State.gateLow
  split
  next =>
    rw [State.edge_get, State.get_put_self _ _ (by simp [FieldRef.ok])]
    exact Nat.zero_mod _
  next h =>
    have hlt : s.get (Reg.DRV.STAT.GATE n) < 2 := by simpa using s.get_lt (f := Reg.DRV.STAT.GATE n)
    simp only [State.bit, beq_iff_eq] at h
    omega

/-- A gate that is low stays low while others fall. -/
theorem State.gateLow_stays {s : State} {k : Nat} (h : s.get (Reg.DRV.STAT.GATE k) = 0) (n t : Nat) :
    (s.gateLow n t).get (Reg.DRV.STAT.GATE k) = 0 := by
  by_cases hk : k = n
  · rw [hk, State.gateLow_low]
  · rw [(s.gateLow_frame n t).2.get (by simp [FieldRef.ok]) (by
      simp only [List.mem_singleton, forall_eq]
      exact .inl (by simp; omega)), h]

theorem State.forEach_gateLow (l : List Nat) (t : Nat) (s : State) :
    RingFrame (l.map fun n => Reg.DRV.STAT.GATE n) s (s.forEach l fun s n => s.gateLow n t) ∧
      (s.forEach l fun s n => s.gateLow n t).eps = s.eps ∧
      ∀ k, k ∈ l ∨ s.get (Reg.DRV.STAT.GATE k) = 0 → (s.forEach l fun s n => s.gateLow n t).get (Reg.DRV.STAT.GATE k) = 0 := by
  induction l generalizing s with
  | nil => exact ⟨RingFrame.refl _ s, rfl, fun k hk => hk.resolve_left (by simp)⟩
  | cons n l ih =>
    obtain ⟨hframe, heps, hlow⟩ := ih (s.gateLow n t)
    refine ⟨((s.gateLow_frame n t).mono (by simp)).trans (hframe.mono (by simp)), heps.trans (s.gateLow_eps n t),
      fun k hk => hlow k ?_⟩
    rcases hk with hk | hk
    · rcases List.mem_cons.1 hk with rfl | hk
      · exact .inr (s.gateLow_low k t)
      · exact .inl hk
    · exact .inr (State.gateLow_stays hk n t)

/-- An endpoint at its safe level, with nothing more to come. -/
def State.epSafe (s : State) (a : Nat) : Ep := { s.ep a with demands := [], points := [], level := s.safePin a }

theorem State.goSafe_frame (s : State) (a t : Nat) : RingFrame [] s (s.goSafe a t) := by
  unfold State.goSafe
  split
  · exact ⟨rfl, .of_regs rfl⟩
  · extract_lets gone was safe u v
    have hv : RingFrame [] s v := ⟨rfl, .of_regs rfl⟩
    split
    · exact hv
    · exact hv.trans (RingFrame.edge _ _ _ _ _)

theorem State.goSafe_ep (s : State) (a t b : Nat) : (s.goSafe a t).ep b = if b = a then s.epSafe a else s.ep b := by
  unfold State.goSafe
  split
  · exact State.setEp_ep _ _ _ _
  · extract_lets gone was safe u v
    have hv : v.ep b = if b = a then s.epSafe a else s.ep b := State.setEp_ep _ _ _ _
    split
    · exact hv
    · exact (State.edge_ep _ _ _ _ _).trans hv

theorem RingFrame.safePin_eq {fs : List FieldRef} {s t : State} (h : RingFrame fs s t) (a : Nat) : t.safePin a = s.safePin a := by
  have hbyte : ∀ a, t.eptByte a = s.eptByte a := fun a => by rw [State.eptByte, State.eptByte, h.1]
  simp only [State.safePin, State.pin, State.polarity, State.safeBit, hbyte]

/-- An endpoint stands at its safe level, with nothing more to come. -/
def State.AtSafe (s : State) (a : Nat) : Prop := (s.ep a).level = s.safePin a ∧ (s.ep a).demands = [] ∧ (s.ep a).points = []

theorem State.goSafe_atSafe {s : State} {a b : Nat} (t : Nat) (h : b = a ∨ s.AtSafe b) : (s.goSafe a t).AtSafe b := by
  unfold State.AtSafe at *
  rw [State.goSafe_ep, (s.goSafe_frame a t).safePin_eq]
  by_cases hb : b = a
  · rw [if_pos hb, hb]
    exact ⟨rfl, rfl, rfl⟩
  · rw [if_neg hb]
    exact h.resolve_left hb

theorem State.forEach_goSafe (l : List Nat) (t : Nat) (s : State) :
    RingFrame [] s (s.forEach l fun s a => s.goSafe a t) ∧
      (∀ b, b ∉ l → (s.forEach l fun s a => s.goSafe a t).ep b = s.ep b) ∧
      ∀ b, b ∈ l ∨ s.AtSafe b → (s.forEach l fun s a => s.goSafe a t).AtSafe b := by
  induction l generalizing s with
  | nil => exact ⟨RingFrame.refl _ s, fun _ _ => rfl, fun b hb => hb.resolve_left (by simp)⟩
  | cons a l ih =>
    obtain ⟨hframe, hep, hsafe⟩ := ih (s.goSafe a t)
    refine ⟨(s.goSafe_frame a t).trans hframe, fun b hb => ?_, fun b hb => hsafe b ?_⟩
    · simp only [List.mem_cons, not_or] at hb
      exact (hep b hb.2).trans ((s.goSafe_ep a t b).trans (if_neg hb.1))
    · rcases hb with hb | hb
      · rcases List.mem_cons.1 hb with rfl | hb
        · exact .inr (State.goSafe_atSafe t (.inl rfl))
        · exact .inl hb
      · exact .inr (State.goSafe_atSafe t (.inr hb))

/-- The local outputs, but the gates, that the I/O ring fences. -/
def State.ringOutputs (s : State) : List Nat := s.liveEndpoints.filter fun a => epIsQ a || epIsG a

theorem State.mem_ringOutputs (s : State) (a : Nat) :
    a ∈ s.ringOutputs ↔ a ∈ s.liveEndpoints ∧ (epIsQ a = true ∨ epIsG a = true) := by
  rw [State.ringOutputs, List.mem_filter, Bool.or_eq_true]

/-- The gates fall first. -/
def State.gatesFenced (s : State) : State := s.forEach (s.drv.map fun e => e.1) fun u n => u.gateLow n (st0 (s.tick + 1))

/-- Then the other outputs go safe. -/
def State.outputsFenced (s : State) : State :=
  s.gatesFenced.forEach s.gatesFenced.ringOutputs fun u a => u.goSafe a (st0 (s.tick + 1))

theorem State.ringSafe_eq (s : State) :
    s.ringSafe = { s.outputsFenced with flt := { s.outputsFenced.flt with ioSafe := true } } := rfl

theorem State.gatesFenced_shows (s : State) : RingFrame (s.drv.map fun e => Reg.DRV.STAT.GATE e.1) s s.gatesFenced ∧
    s.gatesFenced.eps = s.eps ∧ ∀ e ∈ s.drv, s.gatesFenced.get (Reg.DRV.STAT.GATE e.1) = 0 := by
  obtain ⟨hgate, heps, hlow⟩ := State.forEach_gateLow (s.drv.map fun e => e.1) (st0 (s.tick + 1)) s
  rw [List.map_map] at hgate
  exact ⟨hgate, heps, fun e he => hlow e.1 (.inl (List.mem_map_of_mem he))⟩

theorem State.gatesFenced_ringOutputs (s : State) : s.gatesFenced.ringOutputs = s.ringOutputs := by
  obtain ⟨hgate, heps, -⟩ := s.gatesFenced_shows
  have hept : s.gatesFenced.ept = s.ept := by rw [hgate.1]
  rw [State.ringOutputs, State.ringOutputs, State.liveEndpoints, State.liveEndpoints, hept, heps]

theorem State.outputsFenced_of_gates (s : State) : RingFrame [] s.gatesFenced s.outputsFenced ∧
    (∀ a, a ∉ s.ringOutputs → s.outputsFenced.ep a = s.gatesFenced.ep a) ∧ ∀ a, a ∈ s.ringOutputs → s.outputsFenced.AtSafe a := by
  obtain ⟨hframe, hother, hsafe⟩ := State.forEach_goSafe s.gatesFenced.ringOutputs (st0 (s.tick + 1)) s.gatesFenced
  exact ⟨hframe, fun a ha => hother a (by rwa [s.gatesFenced_ringOutputs]),
    fun a ha => hsafe a (.inl (by rwa [s.gatesFenced_ringOutputs]))⟩

theorem State.outputsFenced_frame (s : State) : RingFrame (s.drv.map fun e => Reg.DRV.STAT.GATE e.1) s s.outputsFenced :=
  s.gatesFenced_shows.1.trans (s.outputsFenced_of_gates.1.mono (List.nil_subset _))

theorem State.outputsFenced_safe {s : State} {a : Nat} (ha : a ∈ s.ringOutputs) :
    (s.outputsFenced.ep a).level = s.safePin a ∧ (s.outputsFenced.ep a).demands = [] ∧ (s.outputsFenced.ep a).points = [] := by
  rw [← s.outputsFenced_frame.safePin_eq]
  exact s.outputsFenced_of_gates.2.2 a ha

theorem State.outputsFenced_other {s : State} {a : Nat} (ha : a ∉ s.ringOutputs) : s.outputsFenced.ep a = s.ep a := by
  obtain ⟨-, heps, -⟩ := s.gatesFenced_shows
  rw [s.outputsFenced_of_gates.2.1 a ha, State.ep, State.ep, heps]

theorem State.outputsFenced_gate {s : State} {e : Nat × Drv} (he : e ∈ s.drv) :
    s.outputsFenced.get (Reg.DRV.STAT.GATE e.1) = 0 := by
  obtain ⟨-, -, hlow⟩ := s.gatesFenced_shows
  exact (s.outputsFenced_of_gates.1.2.get (by simp [FieldRef.ok]) (by simp)).trans (hlow e he)

theorem State.ringSafe_regs (s : State) : s.ringSafe.regs = s.outputsFenced.regs := by rw [s.ringSafe_eq]

theorem State.ringSafe_get (s : State) (f : FieldRef) : s.ringSafe.get f = s.outputsFenced.get f := by
  rw [State.get, State.get, State.reg, State.reg, s.ringSafe_regs]

theorem State.ringSafe_ep (s : State) (a : Nat) : s.ringSafe.ep a = s.outputsFenced.ep a := by
  rw [s.ringSafe_eq, State.ep, State.ep]

theorem exec_coreAliveTimeout (s : State) : exec .coreAliveTimeout s = .next s.ringSafe := by
  have hframe := s.outputsFenced_frame
  refine run_eq (u := s.ringSafe) ?_ ?_
  · rw [s.ringSafe_eq, hframe.1]
  · rw [s.ringSafe_eq, hframe.1]

theorem State.ringSafe_state (s : State) :
    s.ringSafe = { s with regs := s.ringSafe.regs, flt := s.ringSafe.flt, eps := s.ringSafe.eps, edges := s.ringSafe.edges } := by
  obtain ⟨hframe, -⟩ := s.outputsFenced_frame
  rw [s.ringSafe_eq]
  generalize s.outputsFenced = u at hframe ⊢
  rw [hframe]

theorem State.ringSafe_flt (s : State) : s.ringSafe.flt = { s.flt with ioSafe := true } := by
  obtain ⟨hframe, -⟩ := s.outputsFenced_frame
  rw [s.ringSafe_eq]
  generalize s.outputsFenced = u at hframe ⊢
  rw [hframe]

/-! ### The statement -/

/-- What the shutter of row 2 writes. -/
theorem devReportFields_listed : devFencedFields ++ devReportFields ⊆
    (Reg.HEAD.PG_SHUTTER.SHUT (page .flt 0) :: Reg.GLB.DEV_STATE.STATE :: Reg.PRF.STAT.LOAD_CAUSE ::
      Reg.PRF.STAT.STOPPING :: Reg.FLT.DEV_FAULT.CAUSE :: Reg.FLT.DEV_FAULT.DEV_SHUT :: rawBit (page .flt 0) 2 ::
      rawBit (page .glb 0) 0 :: rawBit (page .prf 0) 5 :: logFields) := by decide

/-- Settles O46. Out of RUN the device-wide shutter is its report alone (`devReported_row`); in SHUTTERED the last mismatch is
logged and marked (`causeMarked`). The fence lets the gates fall and puts every live LOC.Q and LOC.G at its safe level. -/
theorem deviceIsFenced : Obligations.DeviceIsFenced := by
  refine ⟨fun i fc n s u hi => ⟨fun hdev hlinks => ?_, fun h6 hfm => ?_⟩, fun s => ?_⟩
  · have h6 : s.devState ≠ 6 := by omega
    rcases hi with ⟨rfl, rfl, rfl, rfl⟩ | ⟨rfl, hlow, hidle, rfl, rfl, rfl⟩ | ⟨rfl, hpairs, rfl, rfl, rfl⟩
    · have hput : (u.put (Reg.HEAD.PG_SHUTTER.SHUT (page .flt 0)) 1).devState = u.devState :=
        u.get_put_apart _ (by decide) (by decide)
      have hrow : FencedRow 0x26 (u.tick + 1) u u u.fltShuttered :=
        State.devReported_row (.inl rfl) (by rwa [hput]) rfl rfl rfl (u.get_put_apart _ (by decide) (by decide))
          (u.get_put_apart _ (by decide) (by decide)) (u.get_put_apart _ (by decide) (by decide))
      have hkept : FieldsKept _ u u.fltShuttered :=
        (FieldsKept.put (fs := Reg.HEAD.PG_SHUTTER.SHUT (page .flt 0) :: (devFencedFields ++ devReportFields)) u 1 (by simp)
          (by decide)).trans ((State.devReported_kept _ _ _).mono (List.subset_cons_self _ _))
      exact ⟨_, exec_deviceHostShutter_reports hdev hlinks, hrow.state, hrow.load, hrow.cause, hrow.shut, hrow.raised, hrow.changed,
        fun _ => u.fltShuttered_shut, hrow.woke, hrow.power, hrow.logged, hrow.marker, hrow.frame,
        hkept.mono (List.cons_subset.2 ⟨by simp, devReportFields_listed⟩)⟩
    · have hrow : FencedRow 0x23 u.tick u u (u.devReported 0x23 (st0 u.tick)) :=
        State.devReported_row (.inr (.inl rfl)) h6 rfl rfl rfl rfl rfl rfl
      exact ⟨_, exec_supplyFault_reports hdev hlinks hlow hidle, hrow.state, hrow.load, hrow.cause, hrow.shut, hrow.raised,
        hrow.changed, (fun h => nomatch h), hrow.woke, hrow.power, hrow.logged, hrow.marker, hrow.frame,
        (State.devReported_kept _ _ _).mono devReportFields_listed⟩
    · have hget : ∀ f, (s.withPairs 0).get f = s.get f := fun _ => rfl
      have hkept := ((s.withPairs 0).devReported_kept 0x25 (st0 (s.tick + 1))).mono devReportFields_listed
      have hrow : FencedRow 0x25 (s.tick + 1) s (s.withPairs 0) ((s.withPairs 0).devReported 0x25 (st0 (s.tick + 1))) :=
        State.devReported_row (.inr (.inr rfl)) (by rwa [State.devState, hget]) rfl rfl rfl rfl (hget _) (hget _)
      exact ⟨_, exec_fmPair_reports hdev hlinks hpairs, hrow.state, hrow.load, hrow.cause, hrow.shut, hrow.raised,
        hrow.changed, (fun h => nomatch h), hrow.woke, hrow.power, hrow.logged, hrow.marker, hrow.frame,
        (FieldsKept.of_regs rfl).trans hkept⟩
  · rcases hi with ⟨rfl, -⟩ | ⟨rfl, -⟩ | ⟨rfl, hpairs, rfl, rfl, rfl⟩
    · cases hfm
    · cases hfm
    · exact exec_fmPair_again h6 hpairs
  · refine ⟨_, exec_coreAliveTimeout s, s.ringSafe_flt, fun e he => ?_, fun a ha hqg => ?_, fun a ha => ?_, s.ringSafe_state, ?_⟩
    · rw [s.ringSafe_get, State.outputsFenced_gate he]
    · rw [s.ringSafe_ep]
      exact State.outputsFenced_safe ((s.mem_ringOutputs a).2 ⟨ha, hqg⟩)
    · rw [s.ringSafe_ep]
      refine State.outputsFenced_other fun h => ?_
      obtain ⟨hlive, hqg⟩ := (s.mem_ringOutputs a).1 h
      rcases ha with ha | ⟨hq, hg⟩
      · exact ha hlive
      · simp [hq, hg] at hqg
    · exact s.outputsFenced_frame.2.trans (.of_regs s.ringSafe_regs)

end Sys2Proof.Machine
end

section
/-! PROOFS. Commands of the PRF page that are refused (chapter 14: R353, Table 14-1). -/

namespace Sys2Proof.Machine

/-! ### The end of a command -/

/-- A command's result as a refusal: CMD_REFUSED is raised. -/
def refusal (r : Nat) : Prop := r = 2 ∨ r = 3 ∨ r = 5

theorem State.cmdEnd_refused (s : State) {r : Nat} (h : refusal r) :
    s.cmdEnd r = (s.put Reg.PRF.STAT.RESULT r).raise (page .prf 0) 1 := by
  rcases h with rfl | rfl | rfl <;> rfl

theorem State.cmdEnd_done (s : State) : s.cmdEnd 1 = (s.put Reg.PRF.STAT.RESULT 1).raise (page .prf 0) 0 := rfl

/-- A refused command with CMD cleared. -/
def State.cmdRefused (s : State) (r : Nat) : State :=
  ((s.put Reg.PRF.STAT.RESULT r).raise (page .prf 0) 1).put Reg.PRF.CMD.CMD 0

theorem State.cmdRefused_frame (s : State) (r : Nat) :
    OnlyFields [Reg.PRF.STAT.RESULT, Reg.PRF.CMD.CMD, rawBit (page .prf 0) 1] s (s.cmdRefused r) :=
  ((OnlyFields.put s r (by decide) (by decide)).then_raise _ _ (by decide)).then_put _ (by decide) (by decide)

theorem State.cmdRefused_shows (s : State) {r : Nat} (h : refusal r) : (s.cmdRefused r).get Reg.PRF.STAT.RESULT = r ∧
    (s.cmdRefused r).isRaised (page .prf 0) 1 ∧ (s.cmdRefused r).get Reg.PRF.CMD.CMD = 0 := by
  refine ⟨?_, ?_, ?_⟩
  · rw [State.cmdRefused, State.get_put_apart _ _ (by decide) (by decide), State.get_raise_apart _ (by decide) (by decide),
      State.get_put_self _ _ (by decide)]
    rcases h with rfl | rfl | rfl <;> rfl
  · exact State.isRaised_put_of (State.isRaised_raise _ _ (by decide)) _ (by decide) (by decide)
  · rw [State.cmdRefused, State.get_put_self _ _ (by decide)]
    rfl

/-! ### What forbids a command -/

/-- Why a command is refused with a result: its state, the timebase, a switch, a drain. -/
inductive CmdForbidden (s : State) : Nat → Nat → Prop
  | run (hdrain : s.power.draining = none) (hdev : s.devState ≠ 7) : CmdForbidden s 1 2
  | stop (hdrain : s.power.draining = none) (hdev : s.devState ≠ 8) : CmdForbidden s 2 2
  | switch (hdrain : s.power.draining = none) (h7 : s.devState ≠ 7) (h8 : s.devState ≠ 8) : CmdForbidden s 4 2
  | state (cmd : Nat) (hcmd : cmd = 3 ∨ cmd = 5) (hdrain : s.power.draining = none) (h7 : s.devState ≠ 7) (h6 : s.devState ≠ 6) :
      CmdForbidden s cmd 2
  | timebase (cmd : Nat) (hcmd : cmd = 3 ∨ cmd = 5) (hdrain : s.power.draining = none) (hdev : s.devState = 7 ∨ s.devState = 6)
      (hbase : s.timebaseOk = false) : CmdForbidden s cmd 5
  | switching (hdrain : s.power.draining = none) (hdev : s.devState = 7 ∨ s.devState = 8) (hsw : s.get Reg.PRF.STAT.SW_STATE ≠ 0) :
      CmdForbidden s 4 3
  | standby (hdrain : s.power.draining = none) (hdev : s.devState = 7 ∨ s.devState = 6) (hbase : s.timebaseOk = true)
      (hsw : s.get Reg.PRF.STAT.SW_STATE ≠ 0) : CmdForbidden s 5 3
  | draining (cmd : Nat) (hcmd : 1 ≤ cmd ∧ cmd ≤ 5) (hdrain : s.power.draining ≠ none) : CmdForbidden s cmd 3

theorem CmdForbidden.refusal {s : State} {cmd r : Nat} (h : CmdForbidden s cmd r) : refusal r := by
  cases h <;> simp [Machine.refusal]

theorem State.askSwitch_switching {s : State} (h : s.get Reg.PRF.STAT.SW_STATE ≠ 0) (prof door : Nat) :
    s.askSwitch prof door = s.cmdEnd 3 := by
  unfold State.askSwitch
  rw [if_pos h]

/-- A command that is forbidden ends with the refusal. -/
theorem State.prfCommand_forbidden {s : State} {cmd r : Nat} (h : CmdForbidden s cmd r) (prof door : Nat) :
    s.prfCommand cmd prof door = s.cmdEnd r := by
  cases h with
  | run hdrain hdev => simp [State.prfCommand, hdrain, hdev]
  | stop hdrain hdev => simp [State.prfCommand, hdrain, hdev]
  | switch hdrain h7 h8 => simp [State.prfCommand, hdrain, h7, h8]
  | state _ hcmd hdrain h7 h6 => rcases hcmd with rfl | rfl <;> simp [State.prfCommand, hdrain, h7, h6]
  | timebase _ hcmd hdrain hdev hbase =>
    rcases hcmd with rfl | rfl <;> rcases hdev with hdev | hdev <;> simp [State.prfCommand, hdrain, hdev, hbase]
  | switching hdrain hdev hsw => simp [State.prfCommand, hdrain, hdev, State.askSwitch_switching hsw]
  | standby hdrain hdev hbase hsw =>
    rcases hdev with hdev | hdev <;> simp [State.prfCommand, hdrain, hdev, hbase]
    · exact if_pos (.inl hsw)
    · exact if_pos (.inl hsw)
  | draining _ hcmd hdrain =>
    have h0 : cmd ≠ 0 := by omega
    have h6 : cmd ≠ 6 := by omega
    simp [State.prfCommand, h0, h6, Option.isSome_iff_ne_none.2 hdrain]

theorem State.prfRow_forbidden {s : State} {cmd r : Nat} (hon : s.clockOn = true) (h : CmdForbidden s cmd r) :
    s.prfRow cmd = s.cmdRefused r := by
  rw [State.prfRow, hon, State.when_true, State.prfCommand_forbidden h, State.cmdEnd_refused _ h.refusal, State.cmdRefused]

theorem OnlyFields.reticked {fs : List FieldRef} {s u : State} {n : Nat} (h : OnlyFields fs { s with tick := n } u) :
    OnlyFields fs s { u with tick := s.tick, pending := s.pending } := by
  obtain ⟨h, hkept⟩ := h
  exact ⟨by rw [h], hkept⟩

/-- The rows of Table 14-1 that are commands, by the value of CMD. -/
def prfCode : Instr → Nat
  | .run => 1
  | .stop => 2
  | .load => 3
  | .switch => 4
  | .standby => 5
  | _ => 0

/-- A row whose command is forbidden, at the tick that it is judged in. -/
theorem prfRow_refused {i : Instr} {s : State} {n r : Nat} (hexec : exec i s = run s ({ s with tick := n }.prfRow (prfCode i)))
    (hon : s.clockOn = true) (h : CmdForbidden { s with tick := n } (prfCode i) r) :
    ∃ t, exec i s = .next t ∧ t.get Reg.PRF.STAT.RESULT = r ∧ t.isRaised (page .prf 0) 1 ∧ t.get Reg.PRF.CMD.CMD = 0 ∧
      OnlyFields [Reg.PRF.STAT.RESULT, Reg.PRF.CMD.CMD, rawBit (page .prf 0) 1] s t := by
  rw [State.prfRow_forbidden (s := { s with tick := n }) hon h] at hexec
  obtain ⟨hresult, hraised, hcmd⟩ := State.cmdRefused_shows { s with tick := n } h.refusal
  exact ⟨_, hexec, hresult, hraised, hcmd, (State.cmdRefused_frame _ r).reticked⟩

/-- Settles O53. Each premise forbids the command (`CmdForbidden`), and a forbidden command is its refusal. That every command is
BUSY while a standby entry drains is the model's reading (log entry 76). -/
theorem commandsAreRefused : Obligations.CommandsAreRefused := by
  intro i r s hon h
  rcases h with ⟨hdrain, rfl, h⟩ | ⟨hdrain, rfl, hi, hdev, hbase⟩ | ⟨hdrain, rfl, hsw, h⟩ | ⟨hdrain, rfl, hi⟩
  · rcases h with ⟨rfl, hdev⟩ | ⟨rfl, hdev⟩ | ⟨rfl, h7, h8⟩ | ⟨rfl | rfl, h7, h6⟩
    · exact prfRow_refused (n := s.tick + 1) rfl hon (.run hdrain hdev)
    · exact prfRow_refused (n := s.tick) rfl hon (.stop hdrain hdev)
    · exact prfRow_refused (n := s.tick) rfl hon (.switch hdrain h7 h8)
    · exact prfRow_refused (n := s.tick) rfl hon (.state 3 (.inl rfl) hdrain h7 h6)
    · exact prfRow_refused (n := s.tick) rfl hon (.state 5 (.inr rfl) hdrain h7 h6)
  · rcases hi with rfl | rfl
    · exact prfRow_refused (n := s.tick) rfl hon (.timebase 3 (.inl rfl) hdrain hdev hbase)
    · exact prfRow_refused (n := s.tick) rfl hon (.timebase 5 (.inr rfl) hdrain hdev hbase)
  · rcases h with ⟨rfl, hdev⟩ | ⟨rfl, hdev, hbase⟩
    · exact prfRow_refused (n := s.tick) rfl hon (.switching hdrain hdev hsw)
    · exact prfRow_refused (n := s.tick) rfl hon (.standby hdrain hdev hbase hsw)
  · rcases hi with rfl | rfl | rfl | rfl | rfl
    · exact prfRow_refused (n := s.tick + 1) rfl hon (.draining 1 (by decide) hdrain)
    · exact prfRow_refused (n := s.tick) rfl hon (.draining 2 (by decide) hdrain)
    · exact prfRow_refused (n := s.tick) rfl hon (.draining 3 (by decide) hdrain)
    · exact prfRow_refused (n := s.tick) rfl hon (.draining 4 (by decide) hdrain)
    · exact prfRow_refused (n := s.tick) rfl hon (.draining 5 (by decide) hdrain)

end Sys2Proof.Machine
end

section
/-! PROOFS. Links: how their state changes, and bring-up (chapter 7: R213 to R215, R222, R223). -/

section

open Sys2Proof Sys2Proof.Machine

theorem LnkFrame.refl (n : Nat) (fs : List FieldRef) (s : State) : LnkFrame n fs s s := ⟨rfl, fun _ _ => rfl, rfl, FieldsKept.refl fs s⟩

theorem LnkFrame.trans {n : Nat} {fs : List FieldRef} {s t u : State} (h : LnkFrame n fs s t) (k : LnkFrame n fs t u) :
    LnkFrame n fs s u := by
  obtain ⟨hs, hlink, hdue, hkept⟩ := h
  obtain ⟨ks, klink, kdue, kkept⟩ := k
  exact ⟨by rw [ks, hs], fun j hj => (klink j hj).trans (hlink j hj), kdue.trans hdue, hkept.trans kkept⟩

theorem LnkFrame.mono {n : Nat} {fs gs : List FieldRef} {s t : State} (h : LnkFrame n fs s t) (hsub : fs ⊆ gs) :
    LnkFrame n gs s t := ⟨h.1, h.2.1, h.2.2.1, h.2.2.2.mono hsub⟩

theorem LnkFrame.tick_eq {n : Nat} {fs : List FieldRef} {s t : State} (h : LnkFrame n fs s t) : t.tick = s.tick := by rw [h.1]

theorem LnkFrame.pending_eq {n : Nat} {fs : List FieldRef} {s t : State} (h : LnkFrame n fs s t) : t.pending = s.pending := by
  rw [h.1]

theorem LnkFrame.run_eq {n : Nat} {fs : List FieldRef} {s t : State} (h : LnkFrame n fs s t) : run s t = .next t :=
  Sys2Proof.Machine.run_eq h.tick_eq h.pending_eq

theorem LnkFrame.get {n : Nat} {fs : List FieldRef} {s t : State} (h : LnkFrame n fs s t) {g : FieldRef} (ok : g.ok)
    (ha : ∀ f ∈ fs, f.apart g) : t.get g = s.get g := h.2.2.2.get ok ha

theorem LnkFrame.setLnk (n : Nat) (fs : List FieldRef) (s : State) (v : Lnk) : LnkFrame n fs s (s.setLnk n v) :=
  ⟨rfl, fun k hk => by rw [State.setLnk_link, if_neg hk], rfl, .of_regs rfl⟩

theorem LnkFrame.causeCmd (n : Nat) (fs : List FieldRef) (s : State) (c : LCmd) (cause : Nat) :
    LnkFrame n fs s (s.causeCmd c cause) := by
  refine ⟨rfl, fun _ _ => rfl, ?_, .of_regs rfl⟩
  rw [State.causeCmd, List.map_map]
  refine List.map_congr_left fun d _ => ?_
  simp only [Function.comp_apply]
  split_ifs <;> rfl

theorem LnkFrame.forEach {α : Type} {n : Nat} {fs : List FieldRef} {f : State → α → State} (hf : ∀ s x, LnkFrame n fs s (f s x))
    (l : List α) (s : State) : LnkFrame n fs s (s.forEach l f) := by
  induction l generalizing s with
  | nil => exact LnkFrame.refl n fs s
  | cons x l ih => exact (hf s x).trans (ih (f s x))

theorem LnkFrame.stepFails_of {n cause : Nat} {fs gs : List FieldRef} {s t u : State} (h : LnkFrame n fs s t)
    (k : StepFails n cause gs t u) (hsub : fs ⊆ gs) : StepFails n cause gs s u := by
  obtain ⟨hstate, hcause, hraised, hfail, hscript, hframe⟩ := k
  exact ⟨hstate, hcause, hraised, hfail, hscript, (h.mono (fun _ hf => List.mem_append_left _ (hsub hf))).trans hframe⟩

theorem StepFails.run_eq {n cause : Nat} {fs : List FieldRef} {s t : State} (h : StepFails n cause fs s t) : run s t = .next t := by
  obtain ⟨-, -, -, -, -, hframe⟩ := h
  exact hframe.run_eq

end

namespace Sys2Proof.Machine

theorem OnlyFields.lnkFrame {fs : List FieldRef} {s t : State} (h : OnlyFields fs s t) (n : Nat) : LnkFrame n fs s t := by
  obtain ⟨hst, hkept⟩ := h
  have hlnk : t.lnk = s.lnk := by rw [hst]
  refine ⟨?_, fun k _ => by rw [State.link, State.link, hlnk], by rw [hst], hkept⟩
  generalize t.regs = r at hst
  subst hst
  rfl

theorem OnlyFields.link_eq {fs : List FieldRef} {s t : State} (h : OnlyFields fs s t) (k : Nat) : t.link k = s.link k := by
  rw [State.link, State.link, h.1]

/-! ### A link changes its state (R213, R214) -/

/-- STATE takes a value, with STATE_CHANGE where it differs. -/
def State.lnkShown (s : State) (n nxt : Nat) : State :=
  (s.put (Reg.LNK.STAT.STATE n) nxt).raiseIf (s.lnkState n != nxt) (page .lnk n) 0

/-- A link out of service: what it had still to send is discarded. -/
def linkDropped (l : Lnk) : Lnk := { l with deadline := [], sample := [], runPlace := false }

/-- The queues of a link are discarded, under the cause of its state. -/
def State.linkDrops (s : State) (n : Nat) : State :=
  (s.forEach ((s.link n).deadline ++ (s.link n).sample) fun u x => u.causeCmd x (s.dropCause n)).setLnk n (linkDropped (s.link n))

theorem State.linkEnter_eq {n nxt : Nat} (s : State) (h6 : nxt ≠ 6) (h7 : nxt ≠ 7) :
    s.linkEnter n nxt = (s.lnkShown n nxt).linkDrops n := by
  unfold State.linkEnter
  extract_lets was p sState sChanged sFailed l sRun c sDropped
  have hfailed : sFailed = s.lnkShown n nxt := by
    simp only [sFailed, State.raiseIf_eq, beq_iff_eq, if_neg h7]
    rfl
  rw [if_neg h6]
  simp only [sDropped, c, l, hfailed]
  rfl

theorem State.linkEnter_failed (s : State) (n : Nat) :
    s.linkEnter n 7 = ((s.lnkShown n 7).raise (page .lnk n) 1).linkDrops n := rfl

/-- The fields that a change of STATE writes. -/
def linkStateFields (n : Nat) : List FieldRef := [Reg.LNK.STAT.STATE n, rawBit (page .lnk n) 0]

theorem State.lnkShown_frame (s : State) (n nxt : Nat) : OnlyFields (linkStateFields n) s (s.lnkShown n nxt) := by
  have hput : OnlyFields (linkStateFields n) s (s.put (Reg.LNK.STAT.STATE n) nxt) :=
    OnlyFields.put s nxt (by simp [linkStateFields]) (by simp [FieldRef.ok])
  exact hput.trans (OnlyFields.raiseIf _ _ _ _ (List.mem_cons_of_mem _ (List.mem_singleton_self _)))

theorem State.lnkShown_state (s : State) (n : Nat) {nxt : Nat} (h : nxt < 8) : (s.lnkShown n nxt).lnkState n = nxt := by
  rw [State.lnkShown, State.lnkState, State.raiseIf_eq]
  split
  · rw [State.get_raise_apart _ (by simp [FieldRef.ok]) (.inl (by simp [rawBit]; omega)),
      State.get_put_of_lt _ (by simp [FieldRef.ok]) (by simpa using h)]
  · exact State.get_put_of_lt _ (by simp [FieldRef.ok]) (by simpa using h)

theorem State.lnkShown_raised {s : State} {n nxt : Nat} (h : s.lnkState n ≠ nxt) :
    (s.lnkShown n nxt).isRaised (page .lnk n) 0 := by
  rw [State.lnkShown, State.raiseIf_eq, if_pos (by simpa using h)]
  exact State.isRaised_raise _ _ (by decide)

theorem State.linkDrops_frame (s : State) (n : Nat) (fs : List FieldRef) : LnkFrame n fs s (s.linkDrops n) :=
  (LnkFrame.forEach (fun _ _ => LnkFrame.causeCmd n fs _ _ _) _ s).trans (LnkFrame.setLnk n fs _ _)

theorem State.linkDrops_regs (s : State) (n : Nat) : (s.linkDrops n).regs = s.regs := by
  have hforEach : ∀ (l : List LCmd) (u : State) (c : Nat), (u.forEach l fun u x => u.causeCmd x c).regs = u.regs := by
    intro l
    induction l with
    | nil => exact fun _ _ => rfl
    | cons x l ih => exact fun u c => (ih (u.causeCmd x c) c).trans rfl
  exact hforEach _ s _

theorem State.linkDrops_get (s : State) (n : Nat) (f : FieldRef) : (s.linkDrops n).get f = s.get f := by
  rw [State.get, State.get, State.reg, State.reg, State.linkDrops_regs]

theorem State.linkDrops_link (s : State) (n : Nat) : (s.linkDrops n).link n = linkDropped (s.link n) := by
  rw [State.linkDrops, State.setLnk_link, if_pos rfl]

/-! What an entry into a state but RUN and FAILED does. -/

section
variable {n nxt : Nat} (s : State)

theorem State.linkEnter_frame (h6 : nxt ≠ 6) (h7 : nxt ≠ 7) : LnkFrame n (linkStateFields n) s (s.linkEnter n nxt) := by
  rw [State.linkEnter_eq s h6 h7]
  exact ((s.lnkShown_frame n nxt).lnkFrame n).trans (State.linkDrops_frame _ _ _)

theorem State.linkEnter_state (h6 : nxt ≠ 6) (h8 : nxt < 8) : (s.linkEnter n nxt).lnkState n = nxt := by
  by_cases h7 : nxt = 7
  · subst h7
    rw [State.linkEnter_failed, State.lnkState, State.linkDrops_get,
      State.get_raise_apart _ (by simp [FieldRef.ok]) (.inl (by simp [rawBit]; omega))]
    exact s.lnkShown_state n h8
  · rw [State.linkEnter_eq s h6 h7, State.lnkState, State.linkDrops_get]
    exact s.lnkShown_state n h8

theorem State.linkEnter_raised (h6 : nxt ≠ 6) (h7 : nxt ≠ 7) (h : s.lnkState n ≠ nxt) :
    (s.linkEnter n nxt).isRaised (page .lnk n) 0 := by
  rw [State.linkEnter_eq s h6 h7, State.isRaised, State.linkDrops_get]
  exact State.lnkShown_raised h

theorem State.linkEnter_link (h6 : nxt ≠ 6) (h7 : nxt ≠ 7) : (s.linkEnter n nxt).link n = linkDropped (s.link n) := by
  rw [State.linkEnter_eq s h6 h7, State.linkDrops_link, (s.lnkShown_frame n nxt).link_eq]

end

/-! ### A step of bring-up fails (R214) -/

/-- What a failure writes. -/
def linkFailFields (n : Nat) : List FieldRef :=
  [Reg.LNK.STAT.STATE n, Reg.LNK.STAT.CAUSE n, rawBit (page .lnk n) 0, rawBit (page .lnk n) 1]

theorem State.bringupFail_stepFails {s : State} {n cause : Nat} (fs : List FieldRef) (hstate : s.lnkState n ≠ 7) (hc : cause < 8) :
    StepFails n cause fs s (s.bringupFail n cause) := by
  have heq : s.bringupFail n cause = (((((s.onLnk n fun l => { l with script := [] }).put (Reg.LNK.STAT.CAUSE n) cause).lnkShown n 7).raise
      (page .lnk n) 1).linkDrops n) := rfl
  have hunscript : LnkFrame n (linkFailFields n) s (s.onLnk n fun l => { l with script := [] }) := LnkFrame.setLnk _ _ _ _
  have hcause : OnlyFields (linkFailFields n) (s.onLnk n fun l => { l with script := [] })
      ((s.onLnk n fun l => { l with script := [] }).put (Reg.LNK.STAT.CAUSE n) cause) :=
    OnlyFields.put _ _ (by simp [linkFailFields]) (by simp [FieldRef.ok])
  have hgetCause : ((s.onLnk n fun l => { l with script := [] }).put (Reg.LNK.STAT.CAUSE n) cause).get (Reg.LNK.STAT.CAUSE n) = cause :=
    State.get_put_of_lt _ (by simp [FieldRef.ok]) (by simpa using hc)
  have hwas : ((s.onLnk n fun l => { l with script := [] }).put (Reg.LNK.STAT.CAUSE n) cause).lnkState n ≠ 7 := by
    rw [State.lnkState, State.get_put_apart _ _ (by simp [FieldRef.ok]) (by simp [FieldRef.apart])]
    exact hstate
  have hscript : (((s.onLnk n fun l => { l with script := [] }).put (Reg.LNK.STAT.CAUSE n) cause).link n).script = [] := by
    rw [hcause.link_eq, State.onLnk, State.setLnk_link, if_pos rfl]
  rw [heq]
  generalize (s.onLnk n fun l => { l with script := [] }).put (Reg.LNK.STAT.CAUSE n) cause = u at *
  have hshown := u.lnkShown_frame n 7
  have hraise : OnlyFields (linkFailFields n) (u.lnkShown n 7) ((u.lnkShown n 7).raise (page .lnk n) 1) :=
    OnlyFields.raise _ _ _ (by simp [linkFailFields])
  refine ⟨?_, ?_, ?_, ?_, ?_, ?_⟩
  · rw [State.lnkState, State.linkDrops_get, State.get_raise_apart _ (by simp [FieldRef.ok]) (.inl (by simp [rawBit]; omega))]
    exact u.lnkShown_state n (by decide)
  · rw [State.linkDrops_get, State.get_raise_apart _ (by simp [FieldRef.ok]) (.inl (by simp [rawBit]; omega)),
      hshown.get (by simp [FieldRef.ok]) (by simp [linkStateFields, FieldRef.apart, rawBit]), hgetCause]
  · rw [State.isRaised, State.linkDrops_get]
    exact State.isRaised_raise_of (State.lnkShown_raised hwas) (by decide) _ _
  · rw [State.isRaised, State.linkDrops_get]
    exact State.isRaised_raise _ _ (by decide)
  · rw [State.linkDrops_link, hraise.link_eq, hshown.link_eq]
    exact hscript
  · refine LnkFrame.mono (fs := linkFailFields n) ?_ (List.subset_append_right _ _)
    exact (((hunscript.trans (hcause.lnkFrame n)).trans ((hshown.lnkFrame n).mono (by simp [linkStateFields, linkFailFields]))).trans
      (hraise.lnkFrame n)).trans (State.linkDrops_frame _ _ _)

/-! ### A step that ends in the next state -/

/-- A link takes a new state and its record for it. -/
def State.linkNext (s : State) (n nxt : Nat) (f : Lnk → Lnk) : State := (s.onLnk n f).linkEnter n nxt

section
variable {n nxt : Nat} (s : State) (f : Lnk → Lnk)

theorem State.linkNext_frame (h6 : nxt ≠ 6) (h7 : nxt ≠ 7) : LnkFrame n (linkStateFields n) s (s.linkNext n nxt f) :=
  (LnkFrame.setLnk n _ s _).trans (State.linkEnter_frame _ h6 h7)

theorem State.linkNext_state (h6 : nxt ≠ 6) (h8 : nxt < 8) : (s.linkNext n nxt f).lnkState n = nxt :=
  State.linkEnter_state _ h6 h8

theorem State.linkNext_raised (h6 : nxt ≠ 6) (h7 : nxt ≠ 7) (h : s.lnkState n ≠ nxt) :
    (s.linkNext n nxt f).isRaised (page .lnk n) 0 := State.linkEnter_raised (s.onLnk n f) h6 h7 h

theorem State.linkNext_link (h6 : nxt ≠ 6) (h7 : nxt ≠ 7) : (s.linkNext n nxt f).link n = linkDropped (f (s.link n)) := by
  rw [State.linkNext, State.linkEnter_link _ h6 h7, State.onLnk, State.setLnk_link, if_pos rfl]

end

/-! ### Commands (R214, R222, R223) -/

theorem exec_bringup {l : LinkNo} {s : State} (h : s.scanning = true) :
    exec (.bringup l) s = run s (((s.put (Reg.LNK.STAT.CAUSE l) 0)).linkNext l 1 fun k => { k with
      script := [], trainAt := s.tick, swapAt := none, brokeOnce := false, breakDue := none, healDue := false }) := by
  have heq : exec (.bringup l) s = run s (s.when s.scanning (fun s => s.bringup l)) := rfl
  rw [heq, h, State.when_true, State.bringup, State.trainStart, State.put_tick, State.linkNext]

theorem exec_linkStop {l : LinkNo} {s : State} (h : s.scanning = true) :
    exec (.linkStop l) s = run s (s.linkNext l 0 fun k => { k with script := [] }) := by
  have heq : exec (.linkStop l) s = run s (s.when s.scanning (fun s => s.linkStop l)) := rfl
  rw [heq, h, State.when_true]
  rfl

theorem bringup_starts (l : LinkNo) {s : State} (h : s.scanning = true) :
    ∃ t, exec (.bringup l) s = .next t ∧ t.lnkState l = 1 ∧ t.get (Reg.LNK.STAT.CAUSE l) = 0 ∧
      (s.lnkState l ≠ 1 → t.isRaised (page .lnk l) 0) ∧
      t.link l = { s.link l with deadline := [], sample := [], runPlace := false, script := [], trainAt := s.tick, swapAt := none,
                                 brokeOnce := false, breakDue := none, healDue := false } ∧
      LnkFrame l [Reg.LNK.STAT.STATE l, Reg.LNK.STAT.CAUSE l, rawBit (page .lnk l) 0] s t := by
  have hexec := exec_bringup (l := l) h
  have hput : OnlyFields [Reg.LNK.STAT.CAUSE l] s (s.put (Reg.LNK.STAT.CAUSE l) 0) := OnlyFields.put s 0 (by simp) (by simp [FieldRef.ok])
  have hcause : (s.put (Reg.LNK.STAT.CAUSE l) 0).get (Reg.LNK.STAT.CAUSE l) = 0 := State.get_put_of_lt _ (by simp [FieldRef.ok]) (by simp)
  have hstate : (s.put (Reg.LNK.STAT.CAUSE l) 0).lnkState l = s.lnkState l :=
    hput.get (by simp [FieldRef.ok]) (by simp [FieldRef.apart])
  have hlink := hput.link_eq l
  have hnext := State.linkNext_frame (n := l) (nxt := 1) (s.put (Reg.LNK.STAT.CAUSE l) 0) (fun k => { k with
    script := [], trainAt := s.tick, swapAt := none, brokeOnce := false, breakDue := none, healDue := false }) (by decide) (by decide)
  have hframe : LnkFrame l [Reg.LNK.STAT.STATE l, Reg.LNK.STAT.CAUSE l, rawBit (page .lnk l) 0] s _ :=
    ((hput.lnkFrame l).mono (by simp)).trans (hnext.mono (by simp [linkStateFields]))
  refine ⟨_, hexec.trans hframe.run_eq, State.linkNext_state _ _ (by decide) (by decide), ?_, fun hne =>
    State.linkNext_raised _ _ (by decide) (by decide) (by rwa [hstate]), ?_, hframe⟩
  · rw [hnext.get (by simp [FieldRef.ok]) (by simp [linkStateFields, FieldRef.apart, rawBit]), hcause]
  · rw [State.linkNext_link _ _ (by decide) (by decide), hlink]
    rfl

theorem linkStop_stops (l : LinkNo) {s : State} (h : s.scanning = true) :
    ∃ t, exec (.linkStop l) s = .next t ∧ t.lnkState l = 0 ∧ (s.lnkState l ≠ 0 → t.isRaised (page .lnk l) 0) ∧
      t.link l = { s.link l with deadline := [], sample := [], runPlace := false, script := [] } ∧
      LnkFrame l [Reg.LNK.STAT.STATE l, rawBit (page .lnk l) 0] s t := by
  rw [exec_linkStop h]
  have hframe := State.linkNext_frame (n := l) (nxt := 0) s (fun k => { k with script := [] }) (by decide) (by decide)
  exact ⟨_, hframe.run_eq, State.linkNext_state _ _ (by decide) (by decide), State.linkNext_raised _ _ (by decide) (by decide),
    State.linkNext_link _ _ (by decide) (by decide), hframe⟩

theorem mgmtTx_waits (l : LinkNo) {s : State} (h : s.scanning = true) (hop : 64 ≤ s.get (Reg.LNK.MGMT_TX_A.OPCODE l)) :
    ∃ t, exec (.mgmtTx l) s = .next t ∧ t.link l = { s.link l with mgmt := some (BitVec.ofNat 40
        (s.get (Reg.LNK.MGMT_TX_A.NODE l) * 2 ^ 34 + s.get (Reg.LNK.MGMT_TX_A.OPCODE l) * 2 ^ 27 + s.get (Reg.LNK.MGMT_TX_B.DATA l))) } ∧
      (∀ k, k ≠ l.val → t.link k = s.link k) ∧ t = { s with lnk := t.lnk } := by
  have hdata : s.get (Reg.LNK.MGMT_TX_B.DATA l) % 2 ^ 23 = s.get (Reg.LNK.MGMT_TX_B.DATA l) :=
    Nat.mod_eq_of_lt (by simpa using s.get_lt (f := Reg.LNK.MGMT_TX_B.DATA l))
  have hexec : exec (.mgmtTx l) s = run s (s.onLnk l fun k => { k with mgmt := some (mgmtOp (s.get (Reg.LNK.MGMT_TX_A.NODE l))
      (s.get (Reg.LNK.MGMT_TX_A.OPCODE l)) (s.get (Reg.LNK.MGMT_TX_B.DATA l))) }) := by
    have heq : exec (.mgmtTx l) s = run s (s.when s.scanning (fun s => s.mgmtTx l)) := rfl
    rw [heq, h, State.when_true, State.mgmtTx, if_neg (by omega)]
  refine ⟨_, hexec, ?_, fun k hk => ?_, rfl⟩
  · refine (State.setLnk_link s l _ l).trans ((if_pos rfl).trans ?_)
    rw [mgmtOp, hdata]
  · exact (State.setLnk_link s l _ k).trans (if_neg hk)

theorem promoCnt_top (n : Nat) : (Reg.LNK.PROMO_CNT.COUNT n).top = 2 ^ 32 - 1 := by simp [FieldRef.top]

/-- The oldest sample request that has waited long enough is the first one, where it is not yet promoted. -/
theorem State.promote_first {s : State} {n : Nat} {c : LCmd} {r : List LCmd} (hq : (s.link n).sample = c :: r) (hp : c.promoted = false)
    (hwait : c.since + 64 ≤ s.tick + 1) (hr : c ∉ r) : s.promote n =
      ((s.setLnk n { s.link n with sample := { c with promoted := true } :: r }).bump (Reg.LNK.PROMO_CNT.COUNT n)).raise (page .lnk n) 6 := by
  have hfind : (s.link n).sample.find? (fun c => !c.promoted && decide (c.since + 64 ≤ s.tick + 1)) = some c := by
    rw [hq, List.find?_cons_of_pos (by simp [hp, hwait])]
  have hmap : (s.link n).sample.map (fun x => if x = c then { x with promoted := true } else x) = { c with promoted := true } :: r := by
    rw [hq, List.map_cons, if_pos rfl]
    congr 1
    refine (List.map_congr_left fun x hx => if_neg ?_).trans (List.map_id r)
    rintro rfl
    exact hr hx
  unfold State.promote
  simp only [hfind, hmap]

theorem sreqPromote_promotes (l : LinkNo) {c : LCmd} {r : List LCmd} {s : State} (hq : (s.link l).sample = c :: r)
    (hp : c.promoted = false) (hwait : c.since + 64 ≤ s.tick + 1) (hr : c ∉ r) :
    ∃ t, exec (.sreqPromote l) s = .next t ∧ t.link l = { s.link l with sample := { c with promoted := true } :: r } ∧
      t.get (Reg.LNK.PROMO_CNT.COUNT l) = min (2 ^ 32 - 1) (s.get (Reg.LNK.PROMO_CNT.COUNT l) + 1) ∧ t.isRaised (page .lnk l) 6 ∧
      LnkFrame l [Reg.LNK.PROMO_CNT.COUNT l, rawBit (page .lnk l) 6] s t := by
  have heq : exec (.sreqPromote l) s = run s (s.promote l) := rfl
  rw [heq, State.promote_first hq hp hwait hr]
  have hset := LnkFrame.setLnk l [Reg.LNK.PROMO_CNT.COUNT l, rawBit (page .lnk l) 6] s
    { s.link l with sample := { c with promoted := true } :: r }
  have hlink := (State.setLnk_link s l { s.link l with sample := { c with promoted := true } :: r } l).trans (if_pos rfl)
  have hget : (s.setLnk l { s.link l with sample := { c with promoted := true } :: r }).get (Reg.LNK.PROMO_CNT.COUNT l) =
      s.get (Reg.LNK.PROMO_CNT.COUNT l) := rfl
  generalize s.setLnk l { s.link l with sample := { c with promoted := true } :: r } = u at *
  have hbump : OnlyFields [Reg.LNK.PROMO_CNT.COUNT l, rawBit (page .lnk l) 6] u
      ((u.bump (Reg.LNK.PROMO_CNT.COUNT l)).raise (page .lnk l) 6) := ((OnlyFields.refl _ _).andBump).andRaise
  have hframe := hset.trans (hbump.lnkFrame l)
  refine ⟨_, hframe.run_eq, ?_, ?_, State.isRaised_raise _ _ (by decide), hframe⟩
  · rw [hbump.link_eq, hlink]
  · rw [State.get_raise_apart _ (by simp [FieldRef.ok]) (.inl (by simp [rawBit]; omega)),
      State.get_bump_self _ (by simp [FieldRef.ok]), promoCnt_top, hget]

/-! ### The steps of bring-up -/

theorem exec_bringupEnd_unsent {l : LinkNo} {s : State} (f : BringupFinding) (h : (s.link l).script ≠ []) :
    exec (.bringupEnd l f) s = .next s := by
  have heq : exec (.bringupEnd l f) s = run s (s.bringupStep l f) := rfl
  unfold State.bringupStep at heq
  rw [heq, if_pos (by simpa [List.isEmpty_iff] using h)]
  exact run_eq rfl rfl

section
variable {l : LinkNo} {s : State}

theorem exec_bringupEnd_train (hstate : s.lnkState l = 1) (hsent : (s.link l).script = []) (ring anyTail : Bool) :
    exec (.bringupEnd l (.train ring anyTail)) s = run s (s.trainEnd l ring anyTail) := by
  have heq : exec (.bringupEnd l (.train ring anyTail)) s = run s (s.bringupStep l (.train ring anyTail)) := rfl
  rw [heq]
  simp only [State.bringupStep, hsent, hstate, List.isEmpty_nil, Bool.not_true, Bool.false_eq_true, if_false]

theorem exec_bringupEnd_enumerate (hstate : s.lnkState l = 2) (hsent : (s.link l).script = []) (count : Nat)
    (nodes : List (Fin 64 × Bool)) : exec (.bringupEnd l (.enumerate count nodes)) s = run s (s.enumEnd l count nodes) := by
  have heq : exec (.bringupEnd l (.enumerate count nodes)) s = run s (s.bringupStep l (.enumerate count nodes)) := rfl
  rw [heq]
  simp only [State.bringupStep, hsent, hstate, List.isEmpty_nil, Bool.not_true, Bool.false_eq_true, if_false]

theorem exec_bringupEnd_measure (hstate : s.lnkState l = 3) (hsent : (s.link l).script = []) (answers : List NodeFinding) :
    exec (.bringupEnd l (.measure answers)) s = run s (s.measureEnd l answers) := by
  have heq : exec (.bringupEnd l (.measure answers)) s = run s (s.bringupStep l (.measure answers)) := rfl
  rw [heq]
  simp only [State.bringupStep, hsent, hstate, List.isEmpty_nil, Bool.not_true, Bool.false_eq_true, if_false]

theorem exec_bringupEnd_configure (hstate : s.lnkState l = 4) (hsent : (s.link l).script = []) (loop : Nat) :
    exec (.bringupEnd l (.configure loop)) s = run s (s.configEnd l loop) := by
  have heq : exec (.bringupEnd l (.configure loop)) s = run s (s.bringupStep l (.configure loop)) := rfl
  rw [heq]
  simp only [State.bringupStep, hsent, hstate, List.isEmpty_nil, Bool.not_true, Bool.false_eq_true, if_false]

end

/-- TRAIN passes to ENUM, in the ring condition found. -/
theorem trainEnd_passes {l : LinkNo} {s : State} (hstate : s.lnkState l = 1) {ring anyTail : Bool} (h : ring = true ∨ anyTail = true) :
    (s.trainEnd l ring anyTail).lnkState l = 2 ∧ (s.trainEnd l ring anyTail).get (Reg.LNK.STAT.RING l) = (if ring then 0 else 1) ∧
      (s.trainEnd l ring anyTail).isRaised (page .lnk l) 0 ∧ (s.trainEnd l ring anyTail).link l = { s.link l with
        deadline := [], sample := [], runPlace := false, script := enumScript (s.tick + 1) } ∧
      LnkFrame l [Reg.LNK.STAT.STATE l, Reg.LNK.STAT.RING l, rawBit (page .lnk l) 0] s (s.trainEnd l ring anyTail) := by
  have heq : s.trainEnd l ring anyTail = (s.setWrap l (!ring)).linkNext l 2 fun k => { k with script := enumScript (s.tick + 1) } := by
    rw [State.trainEnd, if_neg (by rcases h with rfl | rfl <;> simp), State.linkNext]
  rw [heq]
  have hwrap : OnlyFields [Reg.LNK.STAT.STATE l, Reg.LNK.STAT.RING l, rawBit (page .lnk l) 0] s (s.setWrap l (!ring)) := by
    have hraise : OnlyFields [Reg.LNK.STAT.STATE l, Reg.LNK.STAT.RING l, rawBit (page .lnk l) 0] s
        (s.raiseIf (s.wraps l != !ring) (page .lnk l) 0) := OnlyFields.raiseIf _ _ _ _ (by simp)
    exact hraise.then_put _ (by simp) (by simp [FieldRef.ok])
  have hring : (s.setWrap l (!ring)).get (Reg.LNK.STAT.RING l) = if ring then 0 else 1 := by
    rw [State.setWrap, State.putBit, State.get_put_of_lt _ (by simp [FieldRef.ok]) (by split <;> simp)]
    cases ring <;> rfl
  have hwas : (s.setWrap l (!ring)).lnkState l ≠ 2 := by
    have hkeep : (s.setWrap l (!ring)).lnkState l = s.lnkState l := by
      rw [State.setWrap, State.putBit, State.lnkState, State.get_put_apart _ _ (by simp [FieldRef.ok]) (by simp [FieldRef.apart]),
        State.raiseIf_eq]
      split
      · exact State.get_raise_apart _ (by simp [FieldRef.ok]) (.inl (by simp [rawBit]; omega))
      · rfl
    rw [hkeep, hstate]
    decide
  have hlink := hwrap.link_eq l
  generalize s.setWrap l (!ring) = u at *
  have hnext := u.linkNext_frame (n := l) (nxt := 2) (fun k => { k with script := enumScript (s.tick + 1) }) (by decide) (by decide)
  refine ⟨u.linkNext_state _ (by decide) (by decide), ?_, u.linkNext_raised _ (by decide) (by decide) hwas, ?_,
    (hwrap.lnkFrame l).trans (hnext.mono (by simp [linkStateFields]))⟩
  · rw [hnext.get (by simp [FieldRef.ok]) (by simp [linkStateFields, FieldRef.apart, rawBit]), hring]
  · rw [u.linkNext_link _ (by decide) (by decide), hlink]
    rfl

/-! ### Masks of nodes -/

theorem hasBit_foldl_setBit (l : List Nat) (a k : Nat) :
    hasBit (l.foldl (fun a k => setBit a k true) a) k = (decide (k ∈ l) || hasBit a k) := by
  induction l generalizing a with
  | nil => simp
  | cons x l ih =>
    rw [List.foldl_cons, ih]
    by_cases hk : k = x
    · subst hk
      simp [hasBit_setBit_self]
    · simp [hasBit_setBit_ne a true hk, hk]

theorem hasBit_maskOf (l : List Nat) (k : Nat) : hasBit (maskOf l) k = decide (k ∈ l) := by
  rw [maskOf, hasBit_foldl_setBit, hasBit_testBit 0 k]
  simp

theorem maskOf_lt {l : List Nat} {w : Nat} (h : ∀ k ∈ l, k < w) : maskOf l < 2 ^ w := by
  refine Nat.lt_pow_two_of_testBit _ fun k hk => ?_
  rw [← hasBit_testBit, hasBit_maskOf, decide_eq_false_iff_not]
  exact fun hm => absurd (h k hm) (by omega)

/-- The members of a list of distinct node numbers, ascending. -/
theorem length_filter_range {l : List Nat} {w : Nat} (hnodup : l.Nodup) (h : ∀ k ∈ l, k < w) :
    ((List.range w).filter fun k => decide (k ∈ l)).length = l.length := by
  refine ((List.perm_ext_iff_of_nodup (List.nodup_range.filter _) hnodup).2 fun k => ?_).length_eq
  simp only [List.mem_filter, List.mem_range, decide_eq_true_eq]
  exact ⟨And.right, fun hm => ⟨h k hm, hm⟩⟩

/-! ### ENUM -/

/-- The registers of what ENUM found. -/
def enumFields (n : Nat) : List FieldRef :=
  [Reg.LNK.STAT.NODES n, Reg.LNK.PRESENT_LO.MASK n, Reg.LNK.PRESENT_HI.MASK n, Reg.LNK.SEG_B_LO.MASK n, Reg.LNK.SEG_B_HI.MASK n]

/-- The masks that ENUM shows: the nodes present, and those of segment B. -/
def State.enumMasks (s : State) (n present segB : Nat) : State :=
  (s.put64 (Reg.LNK.PRESENT_LO.MASK n) (Reg.LNK.PRESENT_HI.MASK n) present).put64 (Reg.LNK.SEG_B_LO.MASK n) (Reg.LNK.SEG_B_HI.MASK n) segB

theorem State.enumMasks_frame (s : State) (n present segB : Nat) : OnlyFields (enumFields n) s (s.enumMasks n present segB) := by
  have hpresent : OnlyFields (enumFields n) s
      ((s.put (Reg.LNK.PRESENT_LO.MASK n) (present % 2 ^ 32)).put (Reg.LNK.PRESENT_HI.MASK n) (present / 2 ^ 32 % 2 ^ 32)) :=
    ((OnlyFields.put s _ (by simp [enumFields]) (by simp [FieldRef.ok]))).then_put _ (by simp [enumFields]) (by simp [FieldRef.ok])
  exact (hpresent.then_put _ (by simp [enumFields]) (by simp [FieldRef.ok])).then_put _ (by simp [enumFields]) (by simp [FieldRef.ok])

theorem State.enumMasks_present (s : State) (n : Nat) {present : Nat} (segB : Nat) (h : present < 2 ^ 64) :
    (s.enumMasks n present segB).get64 (Reg.LNK.PRESENT_LO.MASK n) (Reg.LNK.PRESENT_HI.MASK n) = present := by
  have hget := State.get64_put64 s present (lo := Reg.LNK.PRESENT_LO.MASK n) (hi := Reg.LNK.PRESENT_HI.MASK n) (by simp) (by simp)
    (by simp [FieldRef.apart])
  rw [Nat.mod_eq_of_lt h] at hget
  refine Eq.trans ?_ hget
  simp only [State.enumMasks, State.get64]
  generalize s.put64 (Reg.LNK.PRESENT_LO.MASK n) (Reg.LNK.PRESENT_HI.MASK n) present = u
  rw [State.put64, State.get_put_apart _ _ (by simp [FieldRef.ok]) (by simp [FieldRef.apart]),
    State.get_put_apart _ _ (by simp [FieldRef.ok]) (by simp [FieldRef.apart]),
    State.get_put_apart _ _ (by simp [FieldRef.ok]) (by simp [FieldRef.apart]),
    State.get_put_apart _ _ (by simp [FieldRef.ok]) (by simp [FieldRef.apart])]

theorem State.enumMasks_segB (s : State) (n present : Nat) {segB : Nat} (h : segB < 2 ^ 64) :
    (s.enumMasks n present segB).get64 (Reg.LNK.SEG_B_LO.MASK n) (Reg.LNK.SEG_B_HI.MASK n) = segB := by
  rw [State.enumMasks, State.get64_put64 _ _ (by simp) (by simp) (by simp [FieldRef.apart]), Nat.mod_eq_of_lt h]

/-- The node numbers of a finding. -/
def nodeNumbers (nodes : List (Fin 64 × Bool)) : List Nat := nodes.map fun x => x.1.val

theorem nodeNumbers_lt (nodes : List (Fin 64 × Bool)) : ∀ k ∈ nodeNumbers nodes, k < 64 := by
  intro k hk
  obtain ⟨x, -, rfl⟩ := List.mem_map.1 hk
  exact x.1.isLt

theorem nodeNumbers_nodup {count : Nat} {nodes : List (Fin 64 × Bool)} (h : (BringupFinding.enumerate count nodes).wf = true) :
    (nodeNumbers nodes).Nodup := by
  have hnodup : (nodes.map fun x => x.1).Nodup := of_decide_eq_true h
  have hmap : nodeNumbers nodes = (nodes.map fun x => x.1).map Fin.val := by rw [List.map_map]; rfl
  rw [hmap]
  exact hnodup.map Fin.val_injective

/-- What ENUM shows of segment B. -/
def State.enumSegB (s : State) (n : Nat) (nodes : List (Fin 64 × Bool)) : Nat :=
  if s.wraps n then maskOf (nodeNumbers (nodes.filter fun x => x.2)) else 0

theorem State.enumSegB_eq (s : State) (n : Nat) (nodes : List (Fin 64 × Bool)) : s.enumSegB n nodes =
    if s.get (Reg.LNK.STAT.RING n) = 0 then 0 else maskOf ((nodes.filter fun x => x.2).map fun x => x.1.val) := by
  have hlt : s.get (Reg.LNK.STAT.RING n) < 2 := by simpa using s.get_lt (f := Reg.LNK.STAT.RING n)
  rw [State.enumSegB, State.wraps, State.bit, nodeNumbers]
  by_cases h : s.get (Reg.LNK.STAT.RING n) = 0
  · simp only [h, if_true]
    rfl
  · have h1 : s.get (Reg.LNK.STAT.RING n) = 1 := by omega
    rw [h1]
    rfl

theorem State.enumSegB_lt (s : State) (n : Nat) (nodes : List (Fin 64 × Bool)) : s.enumSegB n nodes < 2 ^ 64 := by
  unfold State.enumSegB
  split
  · exact maskOf_lt (nodeNumbers_lt _)
  · decide

/-- ENUM with its registers shown. -/
def State.enumShown (s : State) (n : Nat) (nodes : List (Fin 64 × Bool)) : State :=
  (s.enumMasks n (maskOf (nodeNumbers nodes)) (s.enumSegB n nodes)).put (Reg.LNK.STAT.NODES n) nodes.length

theorem State.presentNodes_enumMasks (s : State) (n segB : Nat) (nodes : List (Fin 64 × Bool)) :
    (s.enumMasks n (maskOf (nodeNumbers nodes)) segB).presentNodes n = (List.range 64).filter fun k => decide (k ∈ nodeNumbers nodes) := by
  rw [State.presentNodes, s.enumMasks_present n segB (maskOf_lt (nodeNumbers_lt nodes))]
  exact List.filter_congr fun k _ => hasBit_maskOf _ k

theorem State.enumEnd_eq {s : State} {n count : Nat} {nodes : List (Fin 64 × Bool)} (h : (nodeNumbers nodes).Nodup) :
    s.enumEnd n count nodes =
      if count ≠ nodes.length then (s.enumShown n nodes).bringupFail n 2
      else (s.enumShown n nodes).linkNext n 3 fun l => { l with
        script := ((s.enumShown n nodes).measureScript n ((s.enumShown n nodes).tick + 1)).1
        swapAt := ((s.enumShown n nodes).measureScript n ((s.enumShown n nodes).tick + 1)).2 } := by
  have hcount : ((s.enumMasks n (maskOf (nodeNumbers nodes)) (s.enumSegB n nodes)).presentNodes n).length = nodes.length := by
    rw [State.presentNodes_enumMasks, length_filter_range h (nodeNumbers_lt nodes), nodeNumbers, List.length_map]
  unfold State.enumEnd
  extract_lets present segB u v found w m
  have hfound : found = nodes.length := hcount
  have hw : w = s.enumShown n nodes := by
    simp only [w, hfound]
    rfl
  simp only [m, hw, hfound]
  rfl

/-- What ENUM shows. -/
structure EnumShows (n : Nat) (nodes : List (Fin 64 × Bool)) (s t : State) : Prop where
  count : t.get (Reg.LNK.STAT.NODES n) = nodes.length
  present : t.get64 (Reg.LNK.PRESENT_LO.MASK n) (Reg.LNK.PRESENT_HI.MASK n) = maskOf (nodeNumbers nodes)
  segB : t.get64 (Reg.LNK.SEG_B_LO.MASK n) (Reg.LNK.SEG_B_HI.MASK n) = s.enumSegB n nodes

theorem State.enumShown_frame (s : State) (n : Nat) (nodes : List (Fin 64 × Bool)) :
    OnlyFields (enumFields n) s (s.enumShown n nodes) :=
  (s.enumMasks_frame n _ _).then_put _ (by simp [enumFields]) (by simp [FieldRef.ok])

theorem State.enumShown_shows {s : State} {n : Nat} {nodes : List (Fin 64 × Bool)} (h : (nodeNumbers nodes).Nodup) :
    EnumShows n nodes s (s.enumShown n nodes) := by
  have hle : nodes.length ≤ 64 := by
    have hlen := length_filter_range h (nodeNumbers_lt nodes)
    have hfilter := List.length_filter_le (fun k => decide (k ∈ nodeNumbers nodes)) (List.range 64)
    rw [hlen, nodeNumbers, List.length_map, List.length_range] at hfilter
    exact hfilter
  have hlt := s.enumSegB_lt n nodes
  refine ⟨State.get_put_of_lt _ (by simp [FieldRef.ok]) (by simp; omega), ?_, ?_⟩
  · refine Eq.trans ?_ (s.enumMasks_present n (s.enumSegB n nodes) (maskOf_lt (nodeNumbers_lt nodes)))
    rw [State.enumShown, State.get64, State.get64, State.get_put_apart _ _ (by simp [FieldRef.ok]) (by simp [FieldRef.apart]),
      State.get_put_apart _ _ (by simp [FieldRef.ok]) (by simp [FieldRef.apart])]
  · refine Eq.trans ?_ (s.enumMasks_segB n (maskOf (nodeNumbers nodes)) hlt)
    rw [State.enumShown, State.get64, State.get64, State.get_put_apart _ _ (by simp [FieldRef.ok]) (by simp [FieldRef.apart]),
      State.get_put_apart _ _ (by simp [FieldRef.ok]) (by simp [FieldRef.apart])]

theorem EnumShows.later {n : Nat} {nodes : List (Fin 64 × Bool)} {s u t : State} (h : EnumShows n nodes s u)
    (hkept : FieldsKept (linkFailFields n) u t) : EnumShows n nodes s t := by
  have hget : ∀ f ∈ enumFields n, t.get f = u.get f := by
    intro f hf
    simp only [enumFields, List.mem_cons, List.not_mem_nil, or_false] at hf
    rcases hf with rfl | rfl | rfl | rfl | rfl <;>
      exact hkept.get (by simp [FieldRef.ok]) (by simp [linkFailFields, FieldRef.apart, rawBit] <;> omega)
  refine ⟨(hget _ (by simp [enumFields])).trans h.count, ?_, ?_⟩
  · rw [State.get64, hget _ (by simp [enumFields]), hget _ (by simp [enumFields])]
    exact h.present
  · rw [State.get64, hget _ (by simp [enumFields]), hget _ (by simp [enumFields])]
    exact h.segB

theorem State.enumShown_state (s : State) (n : Nat) (nodes : List (Fin 64 × Bool)) : (s.enumShown n nodes).lnkState n = s.lnkState n :=
  (s.enumShown_frame n nodes).get (by simp [FieldRef.ok]) (by simp [enumFields, FieldRef.apart])

/-- ENUM with a count that is that of the nodes passes to MEASURE. -/
theorem enumEnd_passes {l : LinkNo} {s : State} (hstate : s.lnkState l = 2) {nodes : List (Fin 64 × Bool)}
    (h : (nodeNumbers nodes).Nodup) : EnumShows l nodes s (s.enumEnd l nodes.length nodes) ∧
      (s.enumEnd l nodes.length nodes).lnkState l = 3 ∧ (s.enumEnd l nodes.length nodes).isRaised (page .lnk l) 0 ∧
      LnkFrame l [Reg.LNK.STAT.STATE l, Reg.LNK.STAT.NODES l, Reg.LNK.PRESENT_LO.MASK l, Reg.LNK.PRESENT_HI.MASK l,
        Reg.LNK.SEG_B_LO.MASK l, Reg.LNK.SEG_B_HI.MASK l, rawBit (page .lnk l) 0] s (s.enumEnd l nodes.length nodes) := by
  rw [State.enumEnd_eq h, if_neg (by simp)]
  have hframe := (s.enumShown_frame l nodes).lnkFrame l
  have hshows := State.enumShown_shows (s := s) (n := l) h
  have hwas : (s.enumShown l nodes).lnkState l ≠ 3 := by rw [State.enumShown_state, hstate]; decide
  generalize s.enumShown l nodes = u at *
  have hnext := u.linkNext_frame (n := l) (nxt := 3) (fun k => { k with
    script := (u.measureScript l (u.tick + 1)).1, swapAt := (u.measureScript l (u.tick + 1)).2 }) (by decide) (by decide)
  exact ⟨hshows.later (hnext.2.2.2.mono (by simp [linkStateFields, linkFailFields])), u.linkNext_state _ (by decide) (by decide),
    u.linkNext_raised _ (by decide) (by decide) hwas,
    (hframe.mono (by simp [enumFields])).trans (hnext.mono (by simp [linkStateFields]))⟩

theorem enumEnd_fails {l : LinkNo} {s : State} (hstate : s.lnkState l = 2) {count : Nat} {nodes : List (Fin 64 × Bool)}
    (h : (nodeNumbers nodes).Nodup) (hne : count ≠ nodes.length) : EnumShows l nodes s (s.enumEnd l count nodes) ∧
      StepFails l 2 (enumFields l) s (s.enumEnd l count nodes) := by
  rw [State.enumEnd_eq h, if_pos hne]
  have hframe := (s.enumShown_frame l nodes).lnkFrame l
  have hshows := State.enumShown_shows (s := s) (n := l) h
  have hwas : (s.enumShown l nodes).lnkState l ≠ 7 := by rw [State.enumShown_state, hstate]; decide
  generalize s.enumShown l nodes = u at *
  have hkept : FieldsKept (linkFailFields l) u (u.bringupFail l 2) := by
    obtain ⟨-, -, -, -, -, hfail⟩ := State.bringupFail_stepFails (s := u) (n := l) (cause := 2) [] hwas (by decide)
    exact hfail.2.2.2
  exact ⟨hshows.later hkept, hframe.stepFails_of (State.bringupFail_stepFails _ hwas (by decide)) (List.Subset.refl _)⟩

/-! ### MEASURE -/

theorem Sparse.get_foldl_set {α : Type} [DecidableEq α] (dflt : Nat → α) (f : Nat → α) (l : List Nat) (m : Sparse α) (k : Nat) :
    (l.foldl (fun m e => m.set dflt e (f e)) m).get dflt k = if k ∈ l then f k else m.get dflt k := by
  induction l generalizing m with
  | nil => simp
  | cons e l ih =>
    rw [List.foldl_cons, ih, Sparse.get_set]
    by_cases hk : k = e
    · subst hk
      simp
    · simp [hk]

/-- The nodes with the delays that their answers give. -/
def measuredNodes (answers : List NodeFinding) (m : Sparse LNode) : Sparse LNode :=
  answers.foldl (fun m x => m.set (fun _ => LNode.reset) x.node.val (measuredNode x (m.get (fun _ => LNode.reset) x.node.val))) m

theorem measuredNodes_other {answers : List NodeFinding} (m : Sparse LNode) {k : Nat} (h : ∀ x ∈ answers, x.node.val ≠ k) :
    (measuredNodes answers m).get (fun _ => LNode.reset) k = m.get (fun _ => LNode.reset) k := by
  induction answers generalizing m with
  | nil => rfl
  | cons x l ih =>
    have hx : k ≠ x.node.val := fun he => h x (by simp) he.symm
    exact (ih _ fun y hy => h y (by simp [hy])).trans ((Sparse.get_set _ _ _ _ _).trans (if_neg hx))

theorem measuredNodes_of_mem {answers : List NodeFinding} (hnodup : (answers.map fun x => x.node).Nodup) (m : Sparse LNode)
    {x : NodeFinding} (h : x ∈ answers) : (measuredNodes answers m).get (fun _ => LNode.reset) x.node.val =
      measuredNode x (m.get (fun _ => LNode.reset) x.node.val) := by
  induction answers generalizing m with
  | nil => cases h
  | cons y l ih =>
    obtain ⟨hy, hl⟩ := List.nodup_cons.1 hnodup
    rcases List.mem_cons.1 h with rfl | hx
    · have hset : ∀ v : LNode, (m.set (fun _ => LNode.reset) x.node.val v).get (fun _ => LNode.reset) x.node.val = v :=
        fun v => (Sparse.get_set _ _ _ _ _).trans (if_pos rfl)
      refine (measuredNodes_other (answers := l) _ fun z hz he => hy ?_).trans (hset _)
      exact List.mem_map.2 ⟨z, hz, Fin.ext he⟩
    · have hne : x.node.val ≠ y.node.val := fun he => hy (List.mem_map.2 ⟨x, hx, Fin.ext he⟩)
      refine (ih hl _ hx).trans ?_
      rw [Sparse.get_set, if_neg hne]

theorem foldl_max_le {α : Type} (f : α → Nat) (l : List α) (a b : Nat) :
    l.foldl (fun m x => max m (f x)) a ≤ b ↔ a ≤ b ∧ ∀ x ∈ l, f x ≤ b := by
  induction l generalizing a with
  | nil => simp
  | cons x l ih =>
    rw [List.foldl_cons, ih, max_le_iff, List.forall_mem_cons]
    tauto

/-- The larger delay of a node's two ports. -/
def LNode.delay (x : LNode) : Nat := max (x.dP.getD 0) (x.dQ.getD 0)

theorem State.topDelay_le (s : State) (n b : Nat) : s.topDelay n ≤ b ↔
    ∀ k ∈ s.presentNodes n, ((s.link n).nodes.get (fun _ => LNode.reset) k).delay ≤ b := by
  have heq : s.topDelay n = (s.presentNodes n).foldl
      (fun a k => max a ((s.link n).nodes.get (fun _ => LNode.reset) k).delay) 0 := rfl
  rw [heq, foldl_max_le]
  exact and_iff_right (Nat.zero_le b)

/-- A finding's delays lie within a bound. -/
def delaysWithin (b : Nat) (x : NodeFinding) : Prop :=
  (∀ r, x.rttP = some r → portDelay r x.holdP ≤ b) ∧ ∀ r, x.rttQ = some r → portDelay r x.holdQ ≤ b

theorem measuredNode_delay_le (x : NodeFinding) (old : LNode) (b : Nat) : (measuredNode x old).delay ≤ b ↔ delaysWithin b x := by
  have hport : ∀ (r : Option Nat) (h : Nat), (r.map fun r => portDelay r h).getD 0 ≤ b ↔ ∀ v, r = some v → portDelay v h ≤ b := by
    intro r h
    cases r with
    | none => simp
    | some v => simp
  rw [LNode.delay, max_le_iff]
  exact and_congr (hport _ _) (hport _ _)

/-- The answers of the nodes that are present. -/
def State.presentAnswers (s : State) (n : Nat) (answers : List NodeFinding) : List NodeFinding :=
  answers.filter fun x => (s.presentNodes n).contains x.node.val

/-- MEASURE with the delays found. -/
def State.measured (s : State) (n : Nat) (answers : List NodeFinding) : State :=
  s.onLnk n fun k => { k with nodes := measuredNodes (s.presentAnswers n answers) k.nodes }

theorem State.measureEnd_unanswered {s : State} {n : Nat} {answers : List NodeFinding}
    (h : ∃ k ∈ s.presentNodes n, s.echoed n k answers = false) : s.measureEnd n answers = s.bringupFail n 4 := by
  unfold State.measureEnd
  rw [if_pos]
  obtain ⟨k, hk, he⟩ := h
  simp only [Bool.not_eq_true', List.all_eq_false, Bool.not_eq_true]
  exact ⟨k, hk, he⟩

theorem State.measureEnd_answered {s : State} {n : Nat} {answers : List NodeFinding}
    (h : ∀ k ∈ s.presentNodes n, s.echoed n k answers = true) : s.measureEnd n answers =
      if 7680 < (s.measured n answers).topDelay n then (s.measured n answers).bringupFail n 5
      else (s.measured n answers).linkNext n 4 fun l => { l with
        script := (s.measured n answers).configScript n ((s.measured n answers).tick + 1), swapAt := none } := by
  unfold State.measureEnd
  rw [if_neg (by simpa using h)]
  rfl

theorem State.echoed_found {s : State} {n k : Nat} {answers : List NodeFinding} (h : s.echoed n k answers = true) :
    ∃ x ∈ answers, x.node.val = k := by
  unfold State.echoed at h
  split at h
  · cases h
  next x hfind => exact ⟨x, List.mem_of_find?_eq_some hfind, by simpa using List.find?_some hfind⟩

theorem State.measured_link (s : State) (n : Nat) (answers : List NodeFinding) : (s.measured n answers).link n =
    { s.link n with nodes := measuredNodes (s.presentAnswers n answers) (s.link n).nodes } :=
  (State.setLnk_link s n _ n).trans (if_pos rfl)

theorem State.measured_node {s : State} {n : Nat} {answers : List NodeFinding} (hnodup : (answers.map fun x => x.node).Nodup)
    {x : NodeFinding} (hx : x ∈ answers) (hp : x.node.val ∈ s.presentNodes n) :
    ((s.measured n answers).link n).nodes.get (fun _ => LNode.reset) x.node.val =
      measuredNode x ((s.link n).nodes.get (fun _ => LNode.reset) x.node.val) := by
  rw [State.measured_link]
  refine measuredNodes_of_mem ?_ _ (List.mem_filter.2 ⟨hx, by simpa using hp⟩)
  exact hnodup.sublist (List.filter_sublist.map _)

theorem State.measured_topDelay {s : State} {n : Nat} {answers : List NodeFinding} (hnodup : (answers.map fun x => x.node).Nodup)
    (h : ∀ k ∈ s.presentNodes n, s.echoed n k answers = true) (b : Nat) : (s.measured n answers).topDelay n ≤ b ↔
      ∀ x ∈ answers, x.node.val ∈ s.presentNodes n → delaysWithin b x := by
  have hpresent : (s.measured n answers).presentNodes n = s.presentNodes n := rfl
  rw [State.topDelay_le, hpresent]
  refine ⟨fun hall x hx hp => ?_, fun hall k hk => ?_⟩
  · have hk := hall _ hp
    rwa [State.measured_node hnodup hx hp, measuredNode_delay_le] at hk
  · obtain ⟨x, hx, rfl⟩ := State.echoed_found (h k hk)
    rw [State.measured_node hnodup hx hk, measuredNode_delay_le]
    exact hall x hx hk

theorem State.bringupFail_link (s : State) (n cause : Nat) :
    (s.bringupFail n cause).link n = linkDropped { s.link n with script := [] } := by
  have heq : s.bringupFail n cause = (((((s.onLnk n fun l => { l with script := [] }).put (Reg.LNK.STAT.CAUSE n) cause).lnkShown n 7).raise
      (page .lnk n) 1).linkDrops n) := rfl
  have hlink : (s.onLnk n fun l => { l with script := [] }).link n = { s.link n with script := [] } :=
    (State.setLnk_link s n _ n).trans (if_pos rfl)
  rw [heq, State.linkDrops_link, State.raise_link, (State.lnkShown_frame _ _ _).link_eq, State.put_link, hlink]

/-- What MEASURE leaves where every ECHO is answered. -/
theorem measureEnd_shows {l : LinkNo} {s : State} (hstate : s.lnkState l = 3) {answers : List NodeFinding}
    (hnodup : (answers.map fun x => x.node).Nodup) (h : ∀ k ∈ s.presentNodes l, s.echoed l k answers = true) :
    ((s.measureEnd l answers).link l).nodes = measuredNodes (s.presentAnswers l answers) (s.link l).nodes ∧
      ((∀ x ∈ answers, x.node.val ∈ s.presentNodes l → delaysWithin 7680 x) →
        (s.measureEnd l answers).lnkState l = 4 ∧ (s.measureEnd l answers).isRaised (page .lnk l) 0 ∧
        LnkFrame l [Reg.LNK.STAT.STATE l, rawBit (page .lnk l) 0] s (s.measureEnd l answers)) ∧
      (¬ (∀ x ∈ answers, x.node.val ∈ s.presentNodes l → delaysWithin 7680 x) → StepFails l 5 [] s (s.measureEnd l answers)) := by
  have hmeasured : ∀ fs, LnkFrame l fs s (s.measured l answers) := fun fs => LnkFrame.setLnk l fs s _
  have hdelay := State.measured_topDelay hnodup h 7680
  have hlink := s.measured_link l answers
  have hwas : (s.measured l answers).lnkState l = 3 := hstate
  rw [State.measureEnd_answered h, ← hdelay]
  generalize s.measured l answers = u at *
  have hnext := u.linkNext_frame (n := l) (nxt := 4) (fun k => { k with script := u.configScript l (u.tick + 1), swapAt := none })
    (by decide) (by decide)
  by_cases hlong : 7680 < u.topDelay l
  · rw [if_pos hlong]
    refine ⟨?_, fun hle => absurd hle (by omega), fun _ => (hmeasured []).stepFails_of
      (State.bringupFail_stepFails [] (by rw [hwas]; decide) (by decide)) (List.Subset.refl _)⟩
    rw [State.bringupFail_link, hlink]
    rfl
  · rw [if_neg hlong]
    refine ⟨?_, fun _ => ⟨u.linkNext_state _ (by decide) (by decide), u.linkNext_raised _ (by decide) (by decide) (by rw [hwas]; decide),
      (hmeasured _).trans hnext⟩, fun hle => absurd (Nat.le_of_not_lt hlong) hle⟩
    rw [u.linkNext_link _ (by decide) (by decide), hlink]
    rfl

/-! ### CONFIG -/

/-- CONFIG with DLIM and LOOP shown. -/
def State.configShown (s : State) (n loop : Nat) : State :=
  (s.put (Reg.LNK.DLIM.DLIM n) (s.topDelay n + 128 * s.get (Reg.LNK.CFG.MINLEAD n))).put (Reg.LNK.LOOP.LOOP n) loop

/-- The owners of the entries as the nodes then have them. -/
def State.ownerMap (s : State) (n : Nat) : Sparse Nat :=
  (List.range 64).foldl (fun m e => m.set (fun _ => 0x40) e (s.upOwner n e)) []

/-- The same with the owners. -/
def State.configured (s : State) (n loop : Nat) : State :=
  (s.configShown n loop).onLnk n fun l => { l with upmap := s.ownerMap n }

theorem State.configShown_frame (s : State) (n loop : Nat) :
    OnlyFields [Reg.LNK.DLIM.DLIM n, Reg.LNK.LOOP.LOOP n] s (s.configShown n loop) :=
  (OnlyFields.put s _ (by simp) (by simp [FieldRef.ok])).then_put _ (by simp) (by simp [FieldRef.ok])

theorem State.configured_get (s : State) (n loop : Nat) (f : FieldRef) : (s.configured n loop).get f = (s.configShown n loop).get f :=
  State.setLnk_get _ _ _ _

theorem State.configEnd_eq (s : State) (n loop : Nat) : s.configEnd n loop =
    if (s.get (Reg.LNK.CFG.L n) - 1) * 128 < s.topDelay n + 128 * s.get (Reg.LNK.CFG.MINLEAD n) then
      (s.configured n loop).bringupFail n 3
    else ((s.configured n loop).linkEnter n 5).linkFollow n := by
  have hframe := s.configShown_frame n loop
  have howner : ∀ e, (s.configShown n loop).upOwner n e = s.upOwner n e := fun e =>
    hframe.get (by simp [FieldRef.ok]) (by simp [FieldRef.apart]; omega)
  have hmap : (s.configShown n loop).ownerMap n = s.ownerMap n := by simp only [State.ownerMap, howner]
  have hl : (s.configured n loop).get (Reg.LNK.CFG.L n) = s.get (Reg.LNK.CFG.L n) := by
    rw [State.configured_get, hframe.get (by simp [FieldRef.ok]) (by simp [FieldRef.apart])]
  have hv : (s.configShown n loop).onLnk n (fun l => { l with upmap := (s.configShown n loop).ownerMap n }) = s.configured n loop := by
    rw [hmap, State.configured]
  have heq : s.configEnd n loop =
      if (((s.configShown n loop).onLnk n fun l => { l with upmap := (s.configShown n loop).ownerMap n }).get (Reg.LNK.CFG.L n) - 1) * 128 <
          s.topDelay n + 128 * s.get (Reg.LNK.CFG.MINLEAD n) then
        ((s.configShown n loop).onLnk n fun l => { l with upmap := (s.configShown n loop).ownerMap n }).bringupFail n 3
      else (((s.configShown n loop).onLnk n fun l => { l with upmap := (s.configShown n loop).ownerMap n }).linkEnter n 5).linkFollow n :=
    rfl
  rw [heq, hv, hl]

/-- What CONFIG shows. -/
structure ConfigShows (n loop : Nat) (s t : State) : Prop where
  dlim : t.get (Reg.LNK.DLIM.DLIM n) = s.topDelay n + 128 * s.get (Reg.LNK.CFG.MINLEAD n)
  loop_ : t.get (Reg.LNK.LOOP.LOOP n) = loop
  upmap : ∀ e, e < 64 → (t.link n).upmap.get (fun _ => 0x40) e = s.get (Reg.LNK.UPMAP.OWNER n e)

theorem State.configured_frame (s : State) (n loop : Nat) :
    LnkFrame n [Reg.LNK.DLIM.DLIM n, Reg.LNK.LOOP.LOOP n] s (s.configured n loop) :=
  ((s.configShown_frame n loop).lnkFrame n).trans (LnkFrame.setLnk _ _ _ _)

theorem State.configured_shows {s : State} {n loop : Nat} (hloop : loop < 2 ^ 16) (htop : s.topDelay n ≤ 7680) :
    ConfigShows n loop s (s.configured n loop) := by
  have hmin : s.get (Reg.LNK.CFG.MINLEAD n) < 16 := by simpa using s.get_lt (f := Reg.LNK.CFG.MINLEAD n)
  refine ⟨?_, ?_, fun e he => ?_⟩
  · rw [State.configured_get, State.configShown, State.get_put_apart _ _ (by simp [FieldRef.ok]) (by simp [FieldRef.apart]),
      State.get_put_of_lt _ (by simp [FieldRef.ok])]
    simp only [Reg.LNK.DLIM.DLIM]
    omega
  · rw [State.configured_get, State.configShown, State.get_put_of_lt _ (by simp [FieldRef.ok]) (by simpa using hloop)]
  · rw [State.configured, State.onLnk, State.setLnk_link, if_pos rfl, State.ownerMap,
      Sparse.get_foldl_set _ (fun e => s.upOwner n e), if_pos (List.mem_range.2 he), State.upOwner]

theorem ConfigShows.later {n loop : Nat} {s u t : State} (h : ConfigShows n loop s u) (hkept : FieldsKept (linkFailFields n) u t)
    (hmap : (t.link n).upmap = (u.link n).upmap) : ConfigShows n loop s t := by
  refine ⟨?_, ?_, fun e he => by rw [hmap]; exact h.upmap e he⟩
  · exact (hkept.get (by simp [FieldRef.ok]) (by simp [linkFailFields, FieldRef.apart, rawBit]; omega)).trans h.dlim
  · exact (hkept.get (by simp [FieldRef.ok]) (by simp [linkFailFields, FieldRef.apart, rawBit]; omega)).trans h.loop_

theorem State.configured_kept (s : State) (n loop : Nat) : (s.configured n loop).lnkState n = s.lnkState n ∧
    (s.configured n loop).devState = s.devState :=
  ⟨(s.configured_frame n loop).get (by simp [FieldRef.ok]) (by simp [FieldRef.apart]),
    (s.configured_frame n loop).get (by decide) (by simp [FieldRef.apart]; omega)⟩

/-- CONFIG ends in HOLD where L allows for DLIM. -/
theorem configEnd_passes {l : LinkNo} {loop : Nat} {s : State} (hstate : s.lnkState l = 4) (hdev : s.devState ≠ 8) (hloop : loop < 2 ^ 16)
    (htop : s.topDelay l ≤ 7680)
    (hroom : s.topDelay l + 128 * s.get (Reg.LNK.CFG.MINLEAD l) ≤ (s.get (Reg.LNK.CFG.L l) - 1) * 128) :
    ConfigShows l loop s (s.configEnd l loop) ∧ (s.configEnd l loop).lnkState l = 5 ∧ (s.configEnd l loop).isRaised (page .lnk l) 0 ∧
      LnkFrame l [Reg.LNK.STAT.STATE l, Reg.LNK.DLIM.DLIM l, Reg.LNK.LOOP.LOOP l, rawBit (page .lnk l) 0] s (s.configEnd l loop) := by
  have hframe := s.configured_frame l loop
  have hshows := State.configured_shows hloop htop
  obtain ⟨hwas, hdevs⟩ := s.configured_kept l loop
  rw [State.configEnd_eq, if_neg (by omega)]
  generalize s.configured l loop = u at *
  have henter := u.linkEnter_frame (n := l) (nxt := 5) (by decide) (by decide)
  have hhold : (u.linkEnter l 5).lnkState l = 5 := u.linkEnter_state (by decide) (by decide)
  have hidle : (u.linkEnter l 5).linkFollow l = u.linkEnter l 5 := by
    refine State.linkFollow_idle ?_ (by rw [hhold]; decide)
    rw [State.devState, henter.get (by decide) (by simp [linkStateFields, FieldRef.apart, rawBit]; omega)]
    exact fun h => hdev (hdevs.symm.trans h)
  rw [hidle]
  refine ⟨hshows.later (henter.2.2.2.mono (by simp [linkStateFields, linkFailFields])) ?_, hhold,
    u.linkEnter_raised (by decide) (by decide) (by rw [hwas, hstate]; decide),
    (hframe.mono (by simp)).trans (henter.mono (by simp [linkStateFields]))⟩
  rw [u.linkEnter_link (by decide) (by decide)]
  rfl

theorem configEnd_fails {l : LinkNo} {loop : Nat} {s : State} (hstate : s.lnkState l = 4) (hloop : loop < 2 ^ 16)
    (htop : s.topDelay l ≤ 7680)
    (hroom : (s.get (Reg.LNK.CFG.L l) - 1) * 128 < s.topDelay l + 128 * s.get (Reg.LNK.CFG.MINLEAD l)) :
    ConfigShows l loop s (s.configEnd l loop) ∧
      StepFails l 3 [Reg.LNK.DLIM.DLIM l, Reg.LNK.LOOP.LOOP l] s (s.configEnd l loop) := by
  have hframe := s.configured_frame l loop
  have hshows := State.configured_shows hloop htop
  obtain ⟨hwas, -⟩ := s.configured_kept l loop
  rw [State.configEnd_eq, if_pos hroom]
  generalize s.configured l loop = u at *
  have hne : u.lnkState l ≠ 7 := by rw [hwas, hstate]; decide
  have hkept : FieldsKept (linkFailFields l) u (u.bringupFail l 3) := by
    obtain ⟨-, -, -, -, -, hfail⟩ := State.bringupFail_stepFails (s := u) (n := l) (cause := 3) [] hne (by decide)
    exact hfail.2.2.2
  refine ⟨hshows.later hkept ?_, hframe.stepFails_of (State.bringupFail_stepFails _ hne (by decide)) (List.Subset.refl _)⟩
  rw [State.bringupFail_link]
  rfl

/-- Settles O38. Every change of a link's state is one entry (`linkEnter_*`), every failure one (`bringupFail_stepFails`); each step is
judged by its own lemma. The pace of enumeration is log entry 35's, a step ends only once its places have been sent by log
entry 90: both are the model's choice. -/
theorem linkBringup : Obligations.LinkBringup := by
  refine ⟨fun l s h => bringup_starts l h, fun l s h => linkStop_stops l h, fun l s h hop => mgmtTx_waits l h hop,
    fun l c r s hq hp hwait hr => sreqPromote_promotes l hq hp hwait hr, fun l f s h => exec_bringupEnd_unsent f h,
    fun l ring anyTail s hstate hsent => ?_, fun l count nodes s hstate hsent hwf => ?_, fun l answers s hstate hsent hwf => ?_,
    fun l loop s hstate hsent hdev hloop htop => ?_⟩
  · have hexec := exec_bringupEnd_train hstate hsent ring anyTail
    by_cases h : ring = true ∨ anyTail = true
    · obtain ⟨henum, hring, hraised, hlink, hframe⟩ := trainEnd_passes hstate h
      exact ⟨_, hexec.trans hframe.run_eq, fun _ => ⟨henum, hring, hraised, hlink, hframe⟩,
        fun hr ht => absurd h (by simp [hr, ht])⟩
    · have hfail : s.trainEnd l ring anyTail = s.bringupFail l 1 := by
        rw [State.trainEnd, if_pos (by simpa using h)]
      have hfails : StepFails l 1 [] s (s.bringupFail l 1) := State.bringupFail_stepFails [] (by rw [hstate]; decide) (by decide)
      rw [hfail] at hexec
      exact ⟨_, hexec.trans (StepFails.run_eq hfails), fun h' => absurd h' h, fun _ _ => hfails⟩
  · have hexec := exec_bringupEnd_enumerate hstate hsent count nodes
    have hnodup := nodeNumbers_nodup hwf
    by_cases hcount : count = nodes.length
    · subst hcount
      obtain ⟨hshows, hmeasure, hraised, hframe⟩ := enumEnd_passes hstate hnodup
      exact ⟨_, hexec.trans hframe.run_eq, hshows.count, hshows.present, hshows.segB.trans (s.enumSegB_eq l nodes), fun _ => ⟨hmeasure, hraised, hframe⟩,
        fun hne => absurd rfl hne⟩
    · obtain ⟨hshows, hfails⟩ := enumEnd_fails hstate hnodup hcount
      exact ⟨_, hexec.trans (StepFails.run_eq hfails), hshows.count, hshows.present, hshows.segB.trans (s.enumSegB_eq l nodes), fun he => absurd he hcount, fun _ => hfails⟩
  · have hexec := exec_bringupEnd_measure hstate hsent answers
    have hnodup : (answers.map fun x => x.node).Nodup := of_decide_eq_true hwf
    by_cases h : ∀ k ∈ s.presentNodes l, s.echoed l k answers = true
    · obtain ⟨hnodes, hpass, hfail⟩ := measureEnd_shows hstate hnodup h
      have hshown : ∀ x ∈ answers, x.node.val ∈ s.presentNodes l →
          ((s.measureEnd l answers).link l).nodes.get (fun _ => LNode.reset) x.node.val =
            measuredNode x ((s.link l).nodes.get (fun _ => LNode.reset) x.node.val) := by
        intro x hx hp
        rw [hnodes]
        exact measuredNodes_of_mem (hnodup.sublist (List.filter_sublist.map _)) _ (List.mem_filter.2 ⟨hx, by simpa using hp⟩)
      have hrun : run s (s.measureEnd l answers) = .next (s.measureEnd l answers) := by
        by_cases hall : ∀ x ∈ answers, x.node.val ∈ s.presentNodes l → delaysWithin 7680 x
        · obtain ⟨-, -, hframe⟩ := hpass hall
          exact hframe.run_eq
        · exact StepFails.run_eq (hfail hall)
      refine ⟨_, hexec.trans hrun, fun hmiss => ?_, fun _ => ⟨hshown, hpass, fun hlong => hfail fun hall => ?_⟩⟩
      · obtain ⟨k, hk, he⟩ := hmiss
        exact absurd (h k hk) (by simp [he])
      · obtain ⟨x, hx, hp, hover⟩ := hlong
        obtain ⟨hP, hQ⟩ := hall x hx hp
        rcases hover with ⟨r, hr, hlt⟩ | ⟨r, hr, hlt⟩
        · exact absurd (hP r hr) (by omega)
        · exact absurd (hQ r hr) (by omega)
    · have hmiss : ∃ k ∈ s.presentNodes l, s.echoed l k answers = false := by simpa using h
      have hfails : StepFails l 4 [] s (s.bringupFail l 4) := State.bringupFail_stepFails [] (by rw [hstate]; decide) (by decide)
      rw [State.measureEnd_unanswered hmiss] at hexec
      exact ⟨_, hexec.trans (StepFails.run_eq hfails), fun _ => hfails, fun h' => absurd h' h⟩
  · have hexec := exec_bringupEnd_configure hstate hsent loop
    by_cases hroom : s.topDelay l + 128 * s.get (Reg.LNK.CFG.MINLEAD l) ≤ (s.get (Reg.LNK.CFG.L l) - 1) * 128
    · obtain ⟨hshows, hhold, hraised, hframe⟩ := configEnd_passes hstate hdev hloop htop hroom
      exact ⟨_, hexec.trans hframe.run_eq, hshows.dlim, hshows.loop_, hshows.upmap, fun _ => ⟨hhold, hraised, hframe⟩,
        fun hshort => absurd hroom (by omega)⟩
    · obtain ⟨hshows, hfails⟩ := configEnd_fails hstate hloop htop (by omega)
      exact ⟨_, hexec.trans (StepFails.run_eq hfails), hshows.dlim, hshows.loop_, hshows.upmap, fun h => absurd h hroom, fun _ => hfails⟩

end Sys2Proof.Machine
end

section
/-! PROOFS. Links: breaks, repairs and upstream frames (chapter 7: R208, R209, R224, R227 to R229, R233). -/

namespace Sys2Proof.Machine

/-! ### What is declared waits (R224, R227, R228) -/

theorem State.onLnk_link_self (s : State) (n : Nat) (f : Lnk → Lnk) : (s.onLnk n f).link n = f (s.link n) :=
  (State.setLnk_link s n _ n).trans (if_pos rfl)

theorem State.onLnk_link_other (s : State) (n : Nat) (f : Lnk → Lnk) {k : Nat} (h : k ≠ n) : (s.onLnk n f).link k = s.link k :=
  (State.setLnk_link s n _ k).trans (if_neg h)

/-- A command that only changes the record of its link. -/
theorem exec_onLnk {i : Instr} {n : Nat} {f : Lnk → Lnk} {s : State} (h : exec i s = run s (s.onLnk n f)) :
    ∃ t, exec i s = .next t ∧ t.link n = f (s.link n) ∧ (∀ k, k ≠ n → t.link k = s.link k) ∧ t = { s with lnk := t.lnk } :=
  ⟨_, h, s.onLnk_link_self n f, fun _ hk => s.onLnk_link_other n f hk, rfl⟩

theorem State.cableBreak_declared {s : State} {n beyond : Nat} {sign : BreakSign} (h : s.lnkState n = 5 ∨ s.lnkState n = 6) :
    s.cableBreak n beyond sign =
      s.onLnk n fun l => { l with breakDue := some ⟨beyond, s.lostFrom n sign, s.tick⟩, healDue := false } := by
  unfold State.cableBreak
  rw [if_neg (by omega), if_pos h]

theorem State.cableBreak_bringup {s : State} {n beyond : Nat} {sign : BreakSign} (h1 : 1 ≤ s.lnkState n) (h4 : s.lnkState n ≤ 4) :
    s.cableBreak n beyond sign = if (s.link n).brokeOnce then s.bringupFail n 4 else s.linkNext n 1 fun l => { l with
      script := [], trainAt := s.tick, swapAt := none, brokeOnce := true, breakDue := none, healDue := false } := by
  unfold State.cableBreak
  rw [if_pos ⟨h1, h4⟩]
  rfl

theorem State.heal_declared {s : State} {n : Nat} (h : s.lnkState n = 5 ∨ s.lnkState n = 6) (hwrap : s.get (Reg.LNK.STAT.RING n) = 1) :
    s.heal n = s.onLnk n fun l => { l with healDue := true } := by
  unfold State.heal
  rw [if_pos ⟨h, by rw [State.wraps, State.bit, hwrap]; rfl⟩]

theorem State.upFrame_waits {s : State} {n : Nat} (h : s.lnkState n ≠ 0) (endB : Bool) (age : Nat) (f : UpFrame) :
    s.upFrame n endB age f = s.onLnk n fun l => { l with inbox := l.inbox ++ [⟨endB, s.tick - age, f⟩] } := by
  unfold State.upFrame
  rw [if_neg h]

/-! ### A break during bring-up (R224) -/

theorem cableBreak_bringup {l : LinkNo} {beyond : BitVec 64} {sign : BreakSign} {s : State} (h1 : 1 ≤ s.lnkState l) (h4 : s.lnkState l ≤ 4) :
    ∃ t, exec (.cableBreak l ⟨beyond, sign⟩) s = .next t ∧
      ((s.link l).brokeOnce = false → t.lnkState l = 1 ∧ (t.link l).brokeOnce = true ∧ (t.link l).trainAt = s.tick ∧
        (t.link l).script = [] ∧ LnkFrame l [Reg.LNK.STAT.STATE l, rawBit (page .lnk l) 0] s t) ∧
      ((s.link l).brokeOnce = true → StepFails l 4 [] s t) := by
  have hexec : exec (.cableBreak l ⟨beyond, sign⟩) s = run s (s.cableBreak l beyond.toNat sign) := rfl
  rw [State.cableBreak_bringup h1 h4] at hexec
  cases hb : (s.link l).brokeOnce with
  | false =>
    rw [hb, if_neg (by decide)] at hexec
    have hframe := s.linkNext_frame (n := l) (nxt := 1) (fun l => { l with
      script := [], trainAt := s.tick, swapAt := none, brokeOnce := true, breakDue := none, healDue := false }) (by decide) (by decide)
    have hlink := s.linkNext_link (n := l) (nxt := 1) (fun l => { l with
      script := [], trainAt := s.tick, swapAt := none, brokeOnce := true, breakDue := none, healDue := false }) (by decide) (by decide)
    refine ⟨_, hexec.trans hframe.run_eq, fun _ => ⟨s.linkNext_state _ (by decide) (by decide), ?_, ?_, ?_, hframe⟩, nofun⟩
    · rw [hlink]
      rfl
    · rw [hlink]
      rfl
    · rw [hlink]
      rfl
  | true =>
    rw [hb, if_pos rfl] at hexec
    have hfails : StepFails l 4 [] s (s.bringupFail l 4) := State.bringupFail_stepFails [] (by omega) (by decide)
    exact ⟨_, hexec.trans (StepFails.run_eq hfails), nofun, fun _ => hfails⟩

/-! ### Symbols of a frame (R208, R209) -/

theorem crc16Bit_lt (c : Nat) (b : Bool) : crc16Bit c b < 2 ^ 16 := by
  unfold crc16Bit
  have hlt : c * 2 % 2 ^ 16 < 2 ^ 16 := Nat.mod_lt _ (by decide)
  dsimp only
  split
  · exact Nat.xor_lt_two_pow hlt (by decide)
  · exact hlt

theorem foldl_lt {α : Type} {f : Nat → α → Nat} {b : Nat} (h : ∀ c x, f c x < b) (l : List α) {a : Nat} (ha : a < b) :
    l.foldl f a < b := by
  induction l generalizing a with
  | nil => exact ha
  | cons x l ih => exact ih (h a x)

theorem crc16Byte_lt (c : Nat) (b : Byte) : crc16Byte c b < 2 ^ 16 := by
  simp only [crc16Byte, List.foldl_cons, List.foldl_nil]
  exact crc16Bit_lt _ _

theorem crc16_lt (l : List Byte) : crc16 l < 2 ^ 16 := foldl_lt crc16Byte_lt l (by decide)

theorem dataBytes_map (l : List Byte) : dataBytes (l.map Symbol.data) = some l := by
  induction l with
  | nil => rfl
  | cons b l ih => rw [List.map_cons, dataBytes, ih]; rfl

/-- A frame's CRC, high byte first. -/
theorem crc16_bytes (body : List Byte) :
    (BitVec.ofNat 8 (crc16 body / 256)).toNat * 256 + (BitVec.ofNat 8 (crc16 body)).toNat = crc16 body := by
  have hlt := crc16_lt body
  rw [BitVec.toNat_ofNat, BitVec.toNat_ofNat]
  omega

theorem cellOf_frameSymbols (t8 : Byte) {c : List Byte} (h : c.length = 20) :
    cellOf (frameSymbols commaUp (t8 :: c)) = some c := by
  have hlen : (t8 :: c).length = 21 := by simp [h]
  generalize hbody : t8 :: c = body at hlen
  have hsym : frameSymbols commaUp body = .control commaUp ::
      (body ++ [BitVec.ofNat 8 (crc16 body / 256), BitVec.ofNat 8 (crc16 body), 0]).map Symbol.data := rfl
  have hd : ∀ k, (body ++ [BitVec.ofNat 8 (crc16 body / 256), BitVec.ofNat 8 (crc16 body), 0]).getD (21 + k) 0 =
      [BitVec.ofNat 8 (crc16 body / 256), BitVec.ofNat 8 (crc16 body), 0].getD k (0 : Byte) := by
    intro k
    rw [List.getD_append_right _ _ _ _ (by omega), hlen, Nat.add_sub_cancel_left]
  have h21 := hd 0
  have h22 := hd 1
  have htake : (body ++ [BitVec.ofNat 8 (crc16 body / 256), BitVec.ofNat 8 (crc16 body), 0]).take 21 = body := by
    rw [← hlen, List.take_left']
    rfl
  rw [hsym, cellOf, dataBytes_map]
  dsimp only
  rw [htake, h21, h22]
  rw [if_pos ⟨rfl, by simp [hlen], by simpa using (crc16_bytes body).symm⟩, ← hbody]
  rfl

/-! ### A break at its boundary (R224, R233) -/

/-- The registers that a break writes. -/
def breakFields (n : Nat) : List FieldRef :=
  [Reg.LNK.STAT.RING n, Reg.LNK.SEG_B_LO.MASK n, Reg.LNK.SEG_B_HI.MASK n, Reg.LNK.WRAP_CNT.COUNT n, Reg.LNK.LAST_WRAP_LO.TICK n,
    Reg.LNK.LAST_WRAP_HI.TICK n, rawBit (page .lnk n) 0, rawBit (page .lnk n) 2]

/-- SEG_B takes the nodes beyond the break. -/
def State.beyondShown (s : State) (n beyond : Nat) : State :=
  s.put64 (Reg.LNK.SEG_B_LO.MASK n) (Reg.LNK.SEG_B_HI.MASK n)
    (s.get64 (Reg.LNK.PRESENT_LO.MASK n) (Reg.LNK.PRESENT_HI.MASK n) &&& beyond)

/-- WRAP with its count and its tick. -/
def State.wrapShown (s : State) (n : Nat) : State :=
  (((s.setWrap n true).raise (page .lnk n) 2).bump (Reg.LNK.WRAP_CNT.COUNT n)).put64 (Reg.LNK.LAST_WRAP_LO.TICK n)
    (Reg.LNK.LAST_WRAP_HI.TICK n) s.tick

theorem State.beyondShown_only (s : State) (n beyond : Nat) :
    OnlyFields [Reg.LNK.SEG_B_LO.MASK n, Reg.LNK.SEG_B_HI.MASK n] s (s.beyondShown n beyond) :=
  (OnlyFields.put s _ (by simp) (by simp [FieldRef.ok])).then_put _ (by simp) (by simp [FieldRef.ok])

theorem State.beyondShown_frame (s : State) (n beyond : Nat) : OnlyFields (breakFields n) s (s.beyondShown n beyond) :=
  (s.beyondShown_only n beyond).mono (by simp [breakFields])

theorem State.setWrap_frame (s : State) (n : Nat) (wrap : Bool) :
    OnlyFields [Reg.LNK.STAT.RING n, rawBit (page .lnk n) 0] s (s.setWrap n wrap) := by
  have hraise : OnlyFields [Reg.LNK.STAT.RING n, rawBit (page .lnk n) 0] s (s.raiseIf (s.wraps n != wrap) (page .lnk n) 0) :=
    OnlyFields.raiseIf _ _ _ _ (by simp)
  exact hraise.then_put _ (by simp) (by simp [FieldRef.ok])

theorem State.setWrap_ring (s : State) (n : Nat) (wrap : Bool) :
    (s.setWrap n wrap).get (Reg.LNK.STAT.RING n) = if wrap then 1 else 0 := by
  rw [State.setWrap, State.putBit, State.get_put_of_lt _ (by simp [FieldRef.ok]) (by cases wrap <;> simp)]

theorem State.setWrap_raised {s : State} {n : Nat} {wrap : Bool} (h : s.wraps n = !wrap) :
    (s.setWrap n wrap).isRaised (page .lnk n) 0 := by
  rw [State.setWrap, State.raiseIf_eq, if_pos (by simp [h])]
  exact State.isRaised_put_of (State.isRaised_raise _ _ (by decide)) _ (by simp [FieldRef.ok]) (by simp; omega)

/-- The registers of WRAP. -/
def wrapFields (n : Nat) : List FieldRef :=
  [Reg.LNK.STAT.RING n, Reg.LNK.WRAP_CNT.COUNT n, Reg.LNK.LAST_WRAP_LO.TICK n, Reg.LNK.LAST_WRAP_HI.TICK n, rawBit (page .lnk n) 0,
    rawBit (page .lnk n) 2]

theorem State.wrapShown_only (s : State) (n : Nat) : OnlyFields (wrapFields n) s (s.wrapShown n) := by
  have hwrap := (s.setWrap_frame n true).mono (gs := wrapFields n) (by simp [wrapFields])
  have hbump : OnlyFields (wrapFields n) s (((s.setWrap n true).raise (page .lnk n) 2).bump (Reg.LNK.WRAP_CNT.COUNT n)) :=
    (hwrap.then_raise _ _ (by simp [wrapFields])).then_put _ (by simp [wrapFields]) (by simp [FieldRef.ok])
  exact (hbump.then_put _ (by simp [wrapFields]) (by simp [FieldRef.ok])).then_put _ (by simp [wrapFields]) (by simp [FieldRef.ok])

theorem State.wrapShown_frame (s : State) (n : Nat) : OnlyFields (breakFields n) s (s.wrapShown n) :=
  (s.wrapShown_only n).mono (by simp [wrapFields, breakFields])

/-- The state after a break of a ring, before its marker. -/
def State.broken (s : State) (n beyond : Nat) : State :=
  (((s.onLnk n fun l => { l with breakDue := none }).beyondShown n beyond).wrapShown n).onLnk n fun l => { l with frameB := l.frame }

theorem State.breakNow_ring {s : State} {n : Nat} {b : BreakDue} (hdue : (s.link n).breakDue = some b)
    (hstate : s.lnkState n = 5 ∨ s.lnkState n = 6) (hring : s.get (Reg.LNK.STAT.RING n) = 0) :
    s.breakNow n = (s.broken n b.beyond).wrapMarker n b := by
  have hopen : s.wraps n = false := by rw [State.wraps, State.bit, hring]; rfl
  have hst : (s.onLnk n fun l => { l with breakDue := none }).lnkState n = s.lnkState n := rfl
  have hwraps : (s.onLnk n fun l => { l with breakDue := none }).wraps n = false := hopen
  unfold State.breakNow State.broken
  rw [hdue]
  generalize (s.onLnk n fun l => { l with breakDue := none }) = u at *
  dsimp only
  have hbump : ∀ (v : State) (f : FieldRef), (v.bump f).tick = v.tick := fun _ _ => rfl
  rw [if_neg (by omega), hwraps, if_neg (by decide), hbump, State.raise_tick, (State.setWrap_frame _ _ _).tick_eq]
  rfl

theorem wrapCnt_top (n : Nat) : (Reg.LNK.WRAP_CNT.COUNT n).top = 2 ^ 32 - 1 := by simp [FieldRef.top]

theorem State.wrapShown_shows {s : State} {n : Nat} (hopen : s.get (Reg.LNK.STAT.RING n) = 0) :
    (s.wrapShown n).get (Reg.LNK.STAT.RING n) = 1 ∧
      (s.wrapShown n).get (Reg.LNK.WRAP_CNT.COUNT n) = min (2 ^ 32 - 1) (s.get (Reg.LNK.WRAP_CNT.COUNT n) + 1) ∧
      (s.wrapShown n).get64 (Reg.LNK.LAST_WRAP_LO.TICK n) (Reg.LNK.LAST_WRAP_HI.TICK n) = s.tick % 2 ^ 64 ∧
      (s.wrapShown n).isRaised (page .lnk n) 0 ∧ (s.wrapShown n).isRaised (page .lnk n) 2 := by
  have hclosed : s.wraps n = !true := by rw [State.wraps, State.bit, hopen]; rfl
  have hframe := s.setWrap_frame n true
  have hring := s.setWrap_ring n true
  have hraised := State.setWrap_raised hclosed
  have hcount : (s.setWrap n true).get (Reg.LNK.WRAP_CNT.COUNT n) = s.get (Reg.LNK.WRAP_CNT.COUNT n) :=
    hframe.get (by simp [FieldRef.ok]) (by simp [FieldRef.apart, rawBit]; omega)
  rw [State.wrapShown]
  generalize s.setWrap n true = u at *
  refine ⟨?_, ?_, ?_, ?_, ?_⟩
  · rw [State.put64, State.get_put_apart _ _ (by simp [FieldRef.ok]) (by simp [FieldRef.apart]),
      State.get_put_apart _ _ (by simp [FieldRef.ok]) (by simp [FieldRef.apart]),
      State.get_bump_apart _ 1 (by simp [FieldRef.ok]) (by simp [FieldRef.apart]),
      State.get_raise_apart _ (by simp [FieldRef.ok]) (.inl (by simp [rawBit]; omega)), hring]
    rfl
  · rw [State.put64, State.get_put_apart _ _ (by simp [FieldRef.ok]) (by simp [FieldRef.apart]),
      State.get_put_apart _ _ (by simp [FieldRef.ok]) (by simp [FieldRef.apart]),
      State.get_bump_self _ (by simp [FieldRef.ok]), wrapCnt_top,
      State.get_raise_apart _ (by simp [FieldRef.ok]) (.inl (by simp [rawBit]; omega)), hcount]
  · exact State.get64_put64 _ _ (by simp) (by simp) (by simp [FieldRef.apart])
  · exact State.isRaised_put_of (State.isRaised_put_of (State.isRaised_put_of (State.isRaised_raise_of hraised (by decide) _ _) _
      (by simp [FieldRef.ok]) (by simp; omega)) _ (by simp [FieldRef.ok]) (by simp; omega)) _ (by simp [FieldRef.ok]) (by simp; omega)
  · exact State.isRaised_put_of (State.isRaised_put_of (State.isRaised_put_of (State.isRaised_raise _ _ (by decide)) _
      (by simp [FieldRef.ok]) (by simp; omega)) _ (by simp [FieldRef.ok]) (by simp; omega)) _ (by simp [FieldRef.ok]) (by simp; omega)

theorem State.wrapMarker_onlyCarts (s : State) (n : Nat) (b : BreakDue) : OnlyCarts s (s.wrapMarker n b) :=
  s.cart_onlyCarts _ _ _ _ _

theorem State.wrapMarker_body (s : State) (n : Nat) (b : BreakDue) : ∃ c r, (s.wrapMarker n b).carts = c :: r ∧
    c.body = [quad [(60, 4, n)], BitVec.ofNat 64 b.first, BitVec.ofNat 64 b.last, BitVec.ofNat 64 s.tick] := ⟨_, _, rfl, rfl⟩

theorem State.broken_state (s : State) (n beyond : Nat) :
    s.broken n beyond = { s with regs := (s.broken n beyond).regs, lnk := (s.broken n beyond).lnk } := by
  have hbeyond := (s.onLnk n fun l => { l with breakDue := none }).beyondShown_frame n beyond
  have hwrap := ((s.onLnk n fun l => { l with breakDue := none }).beyondShown n beyond).wrapShown_frame n
  have hframe := hbeyond.trans hwrap
  rw [State.broken]
  generalize ((s.onLnk n fun l => { l with breakDue := none }).beyondShown n beyond).wrapShown n = u at hframe ⊢
  obtain ⟨hu, -⟩ := hframe
  have hlink : ∀ f, u.onLnk n f = { u with lnk := (u.onLnk n f).lnk } := fun f => rfl
  rw [hlink, hu]
  rfl

theorem State.broken_kept (s : State) (n beyond : Nat) : FieldsKept (breakFields n) s (s.broken n beyond) :=
  (((FieldsKept.of_regs rfl).trans ((s.onLnk n fun l => { l with breakDue := none }).beyondShown_frame n beyond).2).trans
    (((s.onLnk n fun l => { l with breakDue := none }).beyondShown n beyond).wrapShown_frame n).2).trans (.of_regs rfl)

theorem State.broken_get (s : State) (n beyond : Nat) (f : FieldRef) : (s.broken n beyond).get f =
    (((s.onLnk n fun l => { l with breakDue := none }).beyondShown n beyond).wrapShown n).get f := State.setLnk_get _ _ _ _

theorem State.broken_link (s : State) (n beyond : Nat) :
    (s.broken n beyond).link n = { s.link n with breakDue := none, frameB := (s.link n).frame } ∧
      ∀ k, k ≠ n → (s.broken n beyond).link k = s.link k := by
  have hbeyond := (s.onLnk n fun l => { l with breakDue := none }).beyondShown_frame n beyond
  have hframe := hbeyond.trans (((s.onLnk n fun l => { l with breakDue := none }).beyondShown n beyond).wrapShown_frame n)
  refine ⟨?_, fun k hk => ?_⟩
  · rw [State.broken, State.onLnk_link_self, hframe.link_eq, State.onLnk_link_self]
  · rw [State.broken, State.onLnk_link_other _ _ _ hk, hframe.link_eq, State.onLnk_link_other _ _ _ hk]

theorem State.get64_lt (s : State) (n : Nat) : s.get64 (Reg.LNK.PRESENT_LO.MASK n) (Reg.LNK.PRESENT_HI.MASK n) < 2 ^ 64 := by
  have hlo : s.get (Reg.LNK.PRESENT_LO.MASK n) < 2 ^ 32 := by simpa using s.get_lt (f := Reg.LNK.PRESENT_LO.MASK n)
  have hhi : s.get (Reg.LNK.PRESENT_HI.MASK n) < 2 ^ 32 := by simpa using s.get_lt (f := Reg.LNK.PRESENT_HI.MASK n)
  rw [State.get64]
  omega

theorem State.beyondShown_segB (s : State) (n beyond : Nat) :
    (s.beyondShown n beyond).get64 (Reg.LNK.SEG_B_LO.MASK n) (Reg.LNK.SEG_B_HI.MASK n) =
      s.get64 (Reg.LNK.PRESENT_LO.MASK n) (Reg.LNK.PRESENT_HI.MASK n) &&& beyond := by
  rw [State.beyondShown, State.get64_put64 _ _ (by simp) (by simp) (by simp [FieldRef.apart])]
  exact Nat.mod_eq_of_lt (Nat.lt_of_le_of_lt Nat.and_le_left (s.get64_lt n))

/-- SEG_B is not what WRAP writes. -/
theorem State.wrapShown_segB (s : State) (n : Nat) :
    (s.wrapShown n).get64 (Reg.LNK.SEG_B_LO.MASK n) (Reg.LNK.SEG_B_HI.MASK n) =
      s.get64 (Reg.LNK.SEG_B_LO.MASK n) (Reg.LNK.SEG_B_HI.MASK n) := by
  have hlo : (s.wrapShown n).get (Reg.LNK.SEG_B_LO.MASK n) = s.get (Reg.LNK.SEG_B_LO.MASK n) :=
    (s.wrapShown_only n).get (by simp [FieldRef.ok]) (by simp [wrapFields, FieldRef.apart, rawBit]; omega)
  have hhi : (s.wrapShown n).get (Reg.LNK.SEG_B_HI.MASK n) = s.get (Reg.LNK.SEG_B_HI.MASK n) :=
    (s.wrapShown_only n).get (by simp [FieldRef.ok]) (by simp [wrapFields, FieldRef.apart, rawBit]; omega)
  rw [State.get64, State.get64, hlo, hhi]

/-- What a broken ring shows. -/
theorem State.broken_shows {s : State} {n : Nat} (hring : s.get (Reg.LNK.STAT.RING n) = 0) (beyond : Nat) :
    (s.broken n beyond).get (Reg.LNK.STAT.RING n) = 1 ∧ (s.broken n beyond).lnkState n = s.lnkState n ∧
      (s.broken n beyond).get64 (Reg.LNK.SEG_B_LO.MASK n) (Reg.LNK.SEG_B_HI.MASK n) =
        s.get64 (Reg.LNK.PRESENT_LO.MASK n) (Reg.LNK.PRESENT_HI.MASK n) &&& beyond ∧
      (s.broken n beyond).get (Reg.LNK.WRAP_CNT.COUNT n) = min (2 ^ 32 - 1) (s.get (Reg.LNK.WRAP_CNT.COUNT n) + 1) ∧
      (s.broken n beyond).get64 (Reg.LNK.LAST_WRAP_LO.TICK n) (Reg.LNK.LAST_WRAP_HI.TICK n) = s.tick % 2 ^ 64 ∧
      (s.broken n beyond).isRaised (page .lnk n) 0 ∧ (s.broken n beyond).isRaised (page .lnk n) 2 := by
  have hget : ∀ f, (s.onLnk n fun l => { l with breakDue := none }).get f = s.get f := fun f => State.setLnk_get _ _ _ _
  have htick : (s.onLnk n fun l => { l with breakDue := none }).tick = s.tick := State.setLnk_tick _ _ _
  simp only [State.lnkState, State.get64, State.isRaised, State.broken_get]
  generalize (s.onLnk n fun l => { l with breakDue := none }) = u at *
  have honly := u.beyondShown_only n beyond
  have hsegB := u.beyondShown_segB n beyond
  have hring' : (u.beyondShown n beyond).get (Reg.LNK.STAT.RING n) = 0 := by
    rw [honly.get (by simp [FieldRef.ok]) (by simp [FieldRef.apart]), hget, hring]
  have hcount : (u.beyondShown n beyond).get (Reg.LNK.WRAP_CNT.COUNT n) = s.get (Reg.LNK.WRAP_CNT.COUNT n) := by
    rw [honly.get (by simp [FieldRef.ok]) (by simp [FieldRef.apart]), hget]
  have hstate : (u.beyondShown n beyond).get (Reg.LNK.STAT.STATE n) = s.get (Reg.LNK.STAT.STATE n) := by
    rw [honly.get (by simp [FieldRef.ok]) (by simp [FieldRef.apart]), hget]
  rw [State.get64, State.get64, hget, hget] at hsegB
  have htick' := honly.tick_eq.trans htick
  generalize u.beyondShown n beyond = w at *
  obtain ⟨hone, hcnt, hlast, hchange, hwrap⟩ := State.wrapShown_shows hring'
  have hseg := w.wrapShown_segB n
  have hst : (w.wrapShown n).get (Reg.LNK.STAT.STATE n) = w.get (Reg.LNK.STAT.STATE n) :=
    (w.wrapShown_frame n).get (by simp [FieldRef.ok]) (by simp [breakFields, FieldRef.apart, rawBit]; omega)
  refine ⟨hone, hst.trans hstate, hseg.trans hsegB, hcnt.trans (by rw [hcount]), hlast.trans (by rw [htick']), hchange, hwrap⟩

/-! ### A return to RING (R227) -/

/-- The registers that a repair writes. -/
def healFields (n : Nat) : List FieldRef :=
  [Reg.LNK.STAT.RING n, Reg.LNK.SEG_B_LO.MASK n, Reg.LNK.SEG_B_HI.MASK n, rawBit (page .lnk n) 0, rawBit (page .lnk n) 3]

/-- RING with SEG_B empty. -/
def State.ringShown (s : State) (n : Nat) : State :=
  ((s.put64 (Reg.LNK.SEG_B_LO.MASK n) (Reg.LNK.SEG_B_HI.MASK n) 0).setWrap n false).raise (page .lnk n) 3

/-- The state after a repair. -/
def State.healed (s : State) (n : Nat) : State :=
  ((s.onLnk n fun l => { l with healDue := false }).ringShown n).onLnk n fun l => { l with frameB := some (.carrier s.tick) }

theorem State.segBCleared_frame (s : State) (n : Nat) : OnlyFields [Reg.LNK.SEG_B_LO.MASK n, Reg.LNK.SEG_B_HI.MASK n] s
    (s.put64 (Reg.LNK.SEG_B_LO.MASK n) (Reg.LNK.SEG_B_HI.MASK n) 0) :=
  (OnlyFields.put s _ (by simp) (by simp [FieldRef.ok])).then_put _ (by simp) (by simp [FieldRef.ok])

theorem State.ringShown_frame (s : State) (n : Nat) : OnlyFields (healFields n) s (s.ringShown n) := by
  have hsegB := (s.segBCleared_frame n).mono (gs := healFields n) (by simp [healFields])
  exact (hsegB.trans ((State.setWrap_frame _ n false).mono (by simp [healFields]))).then_raise _ _ (by simp [healFields])

theorem State.ringShown_shows {s : State} {n : Nat} (hring : s.get (Reg.LNK.STAT.RING n) = 1) :
    (s.ringShown n).get (Reg.LNK.STAT.RING n) = 0 ∧
      (s.ringShown n).get64 (Reg.LNK.SEG_B_LO.MASK n) (Reg.LNK.SEG_B_HI.MASK n) = 0 ∧
      (s.ringShown n).isRaised (page .lnk n) 0 ∧ (s.ringShown n).isRaised (page .lnk n) 3 := by
  have hclear := s.segBCleared_frame n
  have hsegB : (s.put64 (Reg.LNK.SEG_B_LO.MASK n) (Reg.LNK.SEG_B_HI.MASK n) 0).get64 (Reg.LNK.SEG_B_LO.MASK n)
      (Reg.LNK.SEG_B_HI.MASK n) = 0 := State.get64_put64 _ _ (by simp) (by simp) (by simp [FieldRef.apart])
  rw [State.ringShown]
  generalize s.put64 (Reg.LNK.SEG_B_LO.MASK n) (Reg.LNK.SEG_B_HI.MASK n) 0 = u at *
  have hwraps : u.wraps n = !false := by
    rw [State.wraps, State.bit, hclear.get (by simp [FieldRef.ok]) (by simp [FieldRef.apart]), hring]
    rfl
  have hwrap := u.setWrap_frame n false
  have hraised := State.setWrap_raised hwraps
  have hopen := u.setWrap_ring n false
  have hlo : (u.setWrap n false).get (Reg.LNK.SEG_B_LO.MASK n) = u.get (Reg.LNK.SEG_B_LO.MASK n) :=
    hwrap.get (by simp [FieldRef.ok]) (by simp [FieldRef.apart, rawBit]; omega)
  have hhi : (u.setWrap n false).get (Reg.LNK.SEG_B_HI.MASK n) = u.get (Reg.LNK.SEG_B_HI.MASK n) :=
    hwrap.get (by simp [FieldRef.ok]) (by simp [FieldRef.apart, rawBit]; omega)
  rw [State.get64] at hsegB
  generalize u.setWrap n false = w at *
  refine ⟨?_, ?_, State.isRaised_raise_of hraised (by decide) _ _, State.isRaised_raise _ _ (by decide)⟩
  · rw [State.get_raise_apart _ (by simp [FieldRef.ok]) (.inl (by simp [rawBit]; omega)), hopen]
    rfl
  · rw [State.get64, State.get_raise_apart _ (by simp [FieldRef.ok]) (.inl (by simp [rawBit]; omega)),
      State.get_raise_apart _ (by simp [FieldRef.ok]) (.inl (by simp [rawBit]; omega)), hlo, hhi, hsegB]

theorem State.healNow_wrapped {s : State} {n : Nat} (hdue : (s.link n).healDue = true) (hstate : s.lnkState n = 5 ∨ s.lnkState n = 6)
    (hring : s.get (Reg.LNK.STAT.RING n) = 1) : s.healNow n = s.healed n := by
  have hst : (s.onLnk n fun l => { l with healDue := false }).lnkState n = s.lnkState n := rfl
  have hwraps : (s.onLnk n fun l => { l with healDue := false }).wraps n = s.wraps n := rfl
  have htick : (s.onLnk n fun l => { l with healDue := false }).tick = s.tick := rfl
  have hclosed : s.wraps n = true := by rw [State.wraps, State.bit, hring]; rfl
  unfold State.healNow State.healed
  rw [if_neg (by simp [hdue])]
  generalize (s.onLnk n fun l => { l with healDue := false }) = u at *
  dsimp only
  rw [if_pos ⟨by rwa [hst], by rw [hwraps, hclosed]⟩, (u.segBCleared_frame n).tick_eq, htick, State.ringShown]

theorem State.healed_frame (s : State) (n : Nat) :
    s.healed n = { s with regs := (s.healed n).regs, lnk := (s.healed n).lnk } ∧ FieldsKept (healFields n) s (s.healed n) ∧
      (s.healed n).link n = { s.link n with healDue := false, frameB := some (.carrier s.tick) } ∧
      ∀ k, k ≠ n → (s.healed n).link k = s.link k := by
  have hframe := (s.onLnk n fun l => { l with healDue := false }).ringShown_frame n
  have hkept : FieldsKept (healFields n) s (s.healed n) := ((FieldsKept.of_regs rfl).trans hframe.2).trans (.of_regs rfl)
  refine ⟨?_, hkept, ?_, fun k hk => ?_⟩
  · rw [State.healed]
    generalize (s.onLnk n fun l => { l with healDue := false }).ringShown n = u at hframe ⊢
    obtain ⟨hu, -⟩ := hframe
    have hlink : ∀ f, u.onLnk n f = { u with lnk := (u.onLnk n f).lnk } := fun f => rfl
    rw [hlink, hu]
    rfl
  · rw [State.healed, State.onLnk_link_self, hframe.link_eq, State.onLnk_link_self]
  · rw [State.healed, State.onLnk_link_other _ _ _ hk, hframe.link_eq, State.onLnk_link_other _ _ _ hk]

theorem State.healed_get (s : State) (n : Nat) (f : FieldRef) :
    (s.healed n).get f = ((s.onLnk n fun l => { l with healDue := false }).ringShown n).get f := State.setLnk_get _ _ _ _

/-! ### Upstream frames (R228, R229) -/

/-- The counter of a frame that did not come, or came invalid, at an end. -/
def frameCounter (n : Nat) (endB invalid : Bool) : FieldRef :=
  if invalid then (if endB then Reg.LNK.ERR_B.CRC n else Reg.LNK.ERR_A.CRC n)
  else if endB then Reg.LNK.ERR_B.MISS n else Reg.LNK.ERR_A.MISS n

/-- Such a frame, counted. -/
def State.frameCounted (s : State) (n : Nat) (endB invalid : Bool) : State :=
  ((s.bump (frameCounter n endB invalid)).err (page .lnk n)).raiseIf invalid (page .lnk n) 8

theorem State.badFrame_eq (s : State) (n : Nat) (endB invalid : Bool) (f : Nat) : s.badFrame n endB invalid f =
    (s.frameCounted n endB invalid).cart 0x25 (s.frameCounted n endB invalid).provCls (st0 f) 63
      [quad [(60, 4, n), (59, 1, if endB then 1 else 0), (58, 1, if invalid then 1 else 0)], BitVec.ofNat 64 f] := by
  cases endB <;> cases invalid <;> rfl

theorem frameCounter_ok (n : Nat) (endB invalid : Bool) : (frameCounter n endB invalid).ok ∧ (frameCounter n endB invalid).top = 65535 ∧
    (Reg.HEAD.PG_ERRCNT.COUNT (page .lnk n)).apart (frameCounter n endB invalid) ∧
    (rawBit (page .lnk n) 8).apart (frameCounter n endB invalid) ∧ (frameCounter n endB invalid).apart Reg.REC.CART_CLS.PROV_CLS := by
  cases endB <;> cases invalid <;> simp [frameCounter, FieldRef.ok, FieldRef.top, FieldRef.apart, rawBit] <;> omega

theorem State.frameCounted_frame (s : State) (n : Nat) (endB invalid : Bool) :
    OnlyFields [frameCounter n endB invalid, Reg.HEAD.PG_ERRCNT.COUNT (page .lnk n), rawBit (page .lnk n) 8] s
      (s.frameCounted n endB invalid) := by
  obtain ⟨hok, -⟩ := frameCounter_ok n endB invalid
  have hbump : OnlyFields [frameCounter n endB invalid, Reg.HEAD.PG_ERRCNT.COUNT (page .lnk n), rawBit (page .lnk n) 8] s
      ((s.bump (frameCounter n endB invalid)).err (page .lnk n)) :=
    (OnlyFields.put s _ (by simp) hok).then_put _ (by simp) (by simp [FieldRef.ok])
  exact hbump.trans (OnlyFields.raiseIf _ _ _ _ (by simp))

/-- What a missing or invalid frame leaves (R228). -/
theorem State.badFrame_shows (s : State) (n : Nat) (endB invalid : Bool) (f : Nat) :
    (s.badFrame n endB invalid f).get (frameCounter n endB invalid) = min 65535 (s.get (frameCounter n endB invalid) + 1) ∧
      (invalid = true → (s.badFrame n endB invalid f).isRaised (page .lnk n) 8) ∧
      OneCart 0x25 s.provCls (st0 f) s (s.badFrame n endB invalid f) ∧
      s.badFrame n endB invalid f = { s with regs := (s.badFrame n endB invalid f).regs, carts := (s.badFrame n endB invalid f).carts,
                                             recd := { s.recd with seq := (s.badFrame n endB invalid f).recd.seq } } ∧
      FieldsKept [frameCounter n endB invalid, Reg.HEAD.PG_ERRCNT.COUNT (page .lnk n), rawBit (page .lnk n) 8] s
        (s.badFrame n endB invalid f) := by
  obtain ⟨hok, htop, herr, hraw, hcls⟩ := frameCounter_ok n endB invalid
  have hframe := s.frameCounted_frame n endB invalid
  have hcount : (s.frameCounted n endB invalid).get (frameCounter n endB invalid) =
      min 65535 (s.get (frameCounter n endB invalid) + 1) := by
    rw [State.frameCounted, State.raiseIf_eq]
    split
    · rw [State.get_raise_apart _ hok hraw, State.get_err_apart _ herr, State.get_bump_self _ hok, htop]
    · rw [State.get_err_apart _ herr, State.get_bump_self _ hok, htop]
  have hraised : invalid = true → (s.frameCounted n endB invalid).isRaised (page .lnk n) 8 := by
    rintro rfl
    exact State.isRaised_raise _ _ (by decide)
  have hprov : (s.frameCounted n endB invalid).provCls = s.provCls :=
    hframe.get (by decide) (List.forall_mem_cons.2 ⟨hcls, by simp [FieldRef.apart, rawBit]; omega⟩)
  have hcarts : (s.frameCounted n endB invalid).carts = s.carts := by rw [hframe.1]
  have hrecd : (s.frameCounted n endB invalid).recd = s.recd := by rw [hframe.1]
  rw [State.badFrame_eq, hprov]
  generalize s.frameCounted n endB invalid = u at *
  have honly := u.cart_onlyCarts 0x25 s.provCls (st0 f) 63
    [quad [(60, 4, n), (59, 1, if endB then 1 else 0), (58, 1, if invalid then 1 else 0)], BitVec.ofNat 64 f]
  have hone := u.cart_oneCart (typ := 0x25) s.provCls (st0 f) 63
    [quad [(60, 4, n), (59, 1, if endB then 1 else 0), (58, 1, if invalid then 1 else 0)], BitVec.ofNat 64 f] rfl
  generalize u.cart 0x25 s.provCls (st0 f) 63
    [quad [(60, 4, n), (59, 1, if endB then 1 else 0), (58, 1, if invalid then 1 else 0)], BitVec.ofNat 64 f] = t at *
  refine ⟨(honly.get_eq _).trans hcount, fun hi => (honly.isRaised_iff _ _).2 (hraised hi), hone.of_same hcarts hrecd, ?_,
    hframe.2.trans (.of_regs honly.regs_eq)⟩
  obtain ⟨hu, -⟩ := hframe
  unfold OnlyCarts at honly
  rw [honly, hu]

theorem State.upWork_bad {s : State} {n : Nat} {w : UpWait} {invalid : Bool} (hstate : s.lnkState n ≠ 0)
    (h : (invalid = false ∧ w.frame = .missing) ∨ (invalid = true ∧ ∃ m, w.frame = .received m ∧ cellOf m = none)) :
    s.upWork n w = s.badFrame n w.endB invalid w.tick := by
  unfold State.upWork
  rw [if_neg hstate]
  rcases h with ⟨rfl, hframe⟩ | ⟨rfl, m, hframe, hcell⟩
  · rw [hframe]
  · rw [hframe]
    dsimp only
    rw [hcell]

/-! A STATUS cell in order (R229). -/

/-- A node after its STATUS cell. -/
def statusNode (x : LNode) (q st faults : Byte) : LNode :=
  { x with seq := some q.toNat, nstate := st.toNat, faults := faults.toNat }

/-- A link after it. -/
def statusLink (l : Lnk) (node : Nat) (q st faults : Byte) : Lnk :=
  { l with nodes := l.nodes.set (fun _ => LNode.reset) node (statusNode (l.nodes.get (fun _ => LNode.reset) node) q st faults) }

/-- A STATUS cell recorded at its node alone. -/
def State.statusTaken (s : State) (n node : Nat) (q st faults : Byte) : State :=
  (s.onLnk n fun l => statusLink l node q st faults).raiseIf (faults.toNat != 0 || st.toNat == 4) (page .lnk n) 10

theorem statusBody_shows (b q st faults : Byte) (c : List Byte) :
    (statusBody (b :: q :: st :: faults :: c)).nstate = st.toNat ∧ (statusBody (b :: q :: st :: faults :: c)).faults = faults.toNat := by
  simp [statusBody, cellField]

theorem State.cell_status {s : State} {n : Nat} {node : Fin 64} {q st faults : Byte} (endB : Bool) (f : Nat) (c : List Byte)
    (hstate : s.lnkState n = 5) (hrec : s.get (Reg.LNK.REC_CFG.STAT_EN n) = 0)
    (hseq : ((s.link n).nodes.get (fun _ => LNode.reset) node).seq = none ∨
      ((s.link n).nodes.get (fun _ => LNode.reset) node).seq = some ((q.toNat + 255) % 256)) :
    s.cell n endB f (BitVec.ofNat 8 (64 + node) :: q :: st :: faults :: c) = s.statusTaken n node q st faults := by
  have hnode := node.isLt
  have hb : (BitVec.ofNat 8 (64 + node.val)).toNat = 64 + node.val := by
    rw [BitVec.toNat_ofNat]
    omega
  have hkind : (64 + node.val) / 64 = 1 := by omega
  have hnum : (64 + node.val) % 64 = node.val := by omega
  have hq := q.isLt
  have hstray : (s.lnkState n == 6 && (s.link n).upmap.get (fun _ => 0x40) (f % 64) != node.val) = false := by rw [hstate]; rfl
  have hen : s.bit (Reg.LNK.REC_CFG.STAT_EN n) = false := by rw [State.bit, hrec]; rfl
  have hbody := statusBody_shows (BitVec.ofNat 8 (64 + node.val)) q st faults c
  unfold State.cell
  simp only [List.getD_cons_zero, List.getD_cons_succ, hb, hkind, hnum, hstray, hen, Bool.false_eq_true, if_false, Bool.or_false,
    hbody.1, hbody.2, if_true, Nat.one_ne_zero, beq_self_eq_true, Bool.true_and]
  rcases hseq with h | h
  · simp only [h, Bool.false_eq_true, if_false]
    rfl
  · have hnext : (q.toNat != ((q.toNat + 255) % 256 + 1) % 256) = false := by
      simp only [bne_eq_false_iff_eq]
      omega
    simp only [h, hnext, Bool.false_eq_true, if_false]
    rfl

theorem State.upWork_status {s : State} {n : Nat} {node : Fin 64} {q st faults : Byte} {endB : Bool} {tick : Nat} {c : List Byte}
    {m : List Symbol} (hstate : s.lnkState n = 5) (hrec : s.get (Reg.LNK.REC_CFG.STAT_EN n) = 0)
    (hseq : ((s.link n).nodes.get (fun _ => LNode.reset) node).seq = none ∨
      ((s.link n).nodes.get (fun _ => LNode.reset) node).seq = some ((q.toNat + 255) % 256))
    (hcell : cellOf m = some (BitVec.ofNat 8 (64 + node) :: q :: st :: faults :: c)) :
    s.upWork n ⟨endB, tick, .received m⟩ = s.statusTaken n node q st faults := by
  unfold State.upWork
  rw [if_neg (by omega)]
  dsimp only
  rw [hcell]
  exact State.cell_status endB tick c hstate hrec hseq

theorem State.statusTaken_shows (s : State) (n node : Nat) (q st faults : Byte) :
    (s.statusTaken n node q st faults).link n = statusLink (s.link n) node q st faults ∧
      (∀ k, k ≠ n → (s.statusTaken n node q st faults).link k = s.link k) ∧
      (faults ≠ 0 ∨ st = 4 → (s.statusTaken n node q st faults).isRaised (page .lnk n) 10) ∧
      s.statusTaken n node q st faults = { s with
        regs := (s.statusTaken n node q st faults).regs, lnk := (s.statusTaken n node q st faults).lnk } ∧
      FieldsKept [rawBit (page .lnk n) 10] s (s.statusTaken n node q st faults) := by
  have hraise : OnlyFields [rawBit (page .lnk n) 10] (s.onLnk n fun l => statusLink l node q st faults)
      (s.statusTaken n node q st faults) := OnlyFields.raiseIf _ _ _ _ (by simp)
  refine ⟨?_, fun k hk => ?_, fun h => ?_, ?_, (FieldsKept.of_regs rfl).trans hraise.2⟩
  · rw [hraise.link_eq, State.onLnk_link_self]
  · rw [hraise.link_eq, State.onLnk_link_other _ _ _ hk]
  · have hfault : (faults.toNat != 0 || st.toNat == 4) = true := by
      rcases h with h | rfl
      · have hne : faults.toNat ≠ 0 := fun he => h (BitVec.eq_of_toNat_eq he)
        simp [hne]
      · simp
    rw [State.statusTaken, hfault]
    exact State.isRaised_raise _ _ (by decide)
  · obtain ⟨h, -⟩ := hraise
    generalize s.statusTaken n node q st faults = t at h ⊢
    rw [h]
    rfl

theorem statusLink_other (l : Lnk) (node : Nat) (q st faults : Byte) {m : Nat} (h : m ≠ node) :
    (statusLink l node q st faults).nodes.get (fun _ => LNode.reset) m = l.nodes.get (fun _ => LNode.reset) m :=
  (Sparse.get_set _ _ _ _ _).trans (if_neg h)

/-- What a break of a ring leaves at its boundary. -/
theorem breakNow_shows {s : State} {n : Nat} {b : BreakDue} (hdue : (s.link n).breakDue = some b)
    (hstate : s.lnkState n = 5 ∨ s.lnkState n = 6) (hring : s.get (Reg.LNK.STAT.RING n) = 0) :
    OnlyCarts (s.broken n b.beyond) (s.breakNow n) ∧ OneCart 0x17 s.markerCls s.now s (s.breakNow n) ∧
      ∃ c r, (s.breakNow n).carts = c :: r ∧
        c.body = [quad [(60, 4, n)], BitVec.ofNat 64 b.first, BitVec.ofNat 64 b.last, BitVec.ofNat 64 s.tick] := by
  have hstateq := s.broken_state n b.beyond
  have hcls : (s.broken n b.beyond).markerCls = s.markerCls :=
    (s.broken_kept n b.beyond).get (by decide) (by simp [breakFields, FieldRef.apart, rawBit]; omega)
  have htick : (s.broken n b.beyond).tick = s.tick := by rw [hstateq]
  have hcarts : (s.broken n b.beyond).carts = s.carts := by rw [hstateq]
  have hrecd : (s.broken n b.beyond).recd = s.recd := by rw [hstateq]
  have hone : OneCart 0x17 (s.broken n b.beyond).markerCls (s.broken n b.beyond).now (s.broken n b.beyond)
      ((s.broken n b.beyond).wrapMarker n b) := State.cart_oneCart _ _ _ _ _ rfl
  rw [hcls, State.now, htick] at hone
  rw [State.breakNow_ring hdue hstate hring]
  have hbody := (s.broken n b.beyond).wrapMarker_body n b
  rw [htick] at hbody
  exact ⟨State.wrapMarker_onlyCarts _ _ _, hone.of_same hcarts hrecd, hbody⟩

/-- Settles O39. What is declared waits in the record of its link (`onLnk`); a break and a repair at their boundary are `broken` with
its marker and `healed`; a bad frame is counted and recorded (`badFrame_shows`), a STATUS cell in order is taken by its node
(`statusTaken_shows`). When a break or a repair takes effect, and what its marker shows, is log entry 92's reading. -/
theorem linkEvents : Obligations.LinkEvents := by
  refine ⟨fun l beyond sign s h => ?_, fun l beyond sign s h1 h4 => cableBreak_bringup h1 h4, fun l s h hring => ?_,
    fun l b s t hdue hstate hring ht => ?_, fun l s t hdue hstate hring ht => ?_, fun t8 c h => cellOf_frameSymbols t8 h,
    fun l endB age f s h => ?_, fun l w invalid r s t hstate hbad ht => ?_,
    fun l endB tick node q st faults c m s t hstate hrec hseq hcell ht => ?_⟩
  · refine exec_onLnk (f := fun k => { k with breakDue := some ⟨beyond.toNat, s.lostFrom l sign, s.tick⟩, healDue := false }) ?_
    rw [← State.cableBreak_declared h]
    rfl
  · refine exec_onLnk (f := fun k => { k with healDue := true }) ?_
    rw [← State.heal_declared h hring]
    rfl
  · subst ht
    obtain ⟨honly, hone, hbody⟩ := breakNow_shows hdue hstate hring
    obtain ⟨hr, hst, hseg, hcnt, hlast, hchange, hwrap⟩ := State.broken_shows hring b.beyond
    obtain ⟨hlink, hother⟩ := s.broken_link l b.beyond
    have hstateq := s.broken_state l b.beyond
    have hkept := s.broken_kept l b.beyond
    generalize s.broken l b.beyond = u at *
    generalize s.breakNow l = t at *
    have hlnk : ∀ k, t.link k = u.link k := fun k => by rw [State.link, State.link, honly]
    refine ⟨(honly.get_eq _).trans hr, (honly.get_eq _).trans hst, ?_, (honly.get_eq _).trans hcnt, ?_,
      (honly.isRaised_iff _ _).2 hchange, (honly.isRaised_iff _ _).2 hwrap, (hlnk l).trans hlink,
      fun k hk => (hlnk k).trans (hother k hk), hone, hbody, ?_, hkept.trans (.of_regs honly.regs_eq)⟩
    · rw [State.get64, honly.get_eq, honly.get_eq]
      exact hseg
    · rw [State.get64, honly.get_eq, honly.get_eq]
      exact hlast
    · unfold OnlyCarts at honly
      rw [honly, hstateq]
  · subst ht
    have hget : ∀ f, (s.onLnk l fun l => { l with healDue := false }).get f = s.get f := fun f => State.setLnk_get _ _ _ _
    obtain ⟨hr, hseg, hchange, hheal⟩ := State.ringShown_shows ((hget _).trans hring)
    obtain ⟨hstateq, hkept, hlink, hother⟩ := s.healed_frame l
    rw [State.healNow_wrapped hdue hstate hring]
    refine ⟨(s.healed_get l _).trans hr, ?_, (s.healed_get l _).trans hchange, (s.healed_get l _).trans hheal, hlink, hother, hstateq,
      hkept⟩
    rw [State.get64, s.healed_get, s.healed_get]
    exact hseg
  · refine exec_onLnk (f := fun k => { k with inbox := k.inbox ++ [⟨endB, s.tick - age.val, f⟩] }) ?_
    rw [← State.upFrame_waits h]
    rfl
  · subst ht
    rcases hbad with ⟨rfl, hframe, rfl⟩ | ⟨rfl, hframe, rfl⟩
    · rw [State.upWork_bad hstate (.inl ⟨rfl, hframe⟩)]
      exact s.badFrame_shows l w.endB false w.tick
    · rw [State.upWork_bad hstate (.inr ⟨rfl, hframe⟩)]
      exact s.badFrame_shows l w.endB true w.tick
  · subst ht
    rw [State.upWork_status hstate hrec hseq hcell]
    obtain ⟨hlink, hother, hraised, hstateq, hkept⟩ := s.statusTaken_shows l node q st faults
    refine ⟨?_, ?_, fun m hm => ?_, hraised, hother, hstateq, hkept⟩
    · rw [hlink]
      exact (Sparse.get_set _ _ _ _ _).trans (if_pos rfl)
    · rw [hlink]
      rfl
    · rw [hlink, statusLink_other _ _ _ _ _ hm]

end Sys2Proof.Machine
end

section
/-! PROOFS. RUN and STOP (chapter 14: R351 to R353; links that follow, R214). -/

namespace Sys2Proof.Machine

/-! ### What a change between READY and RUN can change -/

/-- Registers in a list, supplies, links, endpoints, edges to come and waiting carts. -/
def MotionFrame (fs : List FieldRef) (s t : State) : Prop :=
  t = { s with regs := t.regs, power := t.power, lnk := t.lnk, eps := t.eps, edges := t.edges, dueCarts := t.dueCarts } ∧
    FieldsKept fs s t

theorem MotionFrame.refl (fs : List FieldRef) (s : State) : MotionFrame fs s s := ⟨rfl, FieldsKept.refl fs s⟩

theorem MotionFrame.trans {fs : List FieldRef} {s t u : State} (h : MotionFrame fs s t) (k : MotionFrame fs t u) :
    MotionFrame fs s u := by
  obtain ⟨hs, hkept⟩ := h
  obtain ⟨ks, kkept⟩ := k
  exact ⟨by rw [ks, hs], hkept.trans kkept⟩

theorem MotionFrame.mono {fs gs : List FieldRef} {s t : State} (h : MotionFrame fs s t) (hsub : fs ⊆ gs) : MotionFrame gs s t :=
  ⟨h.1, h.2.mono hsub⟩

theorem OnlyFields.motionFrame {fs : List FieldRef} {s t : State} (h : OnlyFields fs s t) : MotionFrame fs s t :=
  ⟨by rw [h.1], h.2⟩

theorem MotionFrame.of_lnk {n : Nat} {fs : List FieldRef} {s t : State} (h : LnkFrame n fs s t) : MotionFrame fs s t :=
  ⟨by rw [h.1], h.2.2.2⟩

theorem MotionFrame.of_ring {fs : List FieldRef} {s t : State} (h : RingFrame fs s t) : MotionFrame fs s t :=
  ⟨by rw [h.1], h.2⟩

theorem MotionFrame.safePin_eq {fs : List FieldRef} {s t : State} (h : MotionFrame fs s t) (a : Nat) : t.safePin a = s.safePin a := by
  have hbyte : ∀ a, t.eptByte a = s.eptByte a := fun a => by rw [State.eptByte, State.eptByte, h.1]
  simp only [State.safePin, State.pin, State.polarity, State.safeBit, hbyte]

theorem MotionFrame.forEach {α : Type} {fs : List FieldRef} {f : State → α → State} {l : List α}
    (hf : ∀ s, ∀ x ∈ l, MotionFrame fs s (f s x)) (s : State) : MotionFrame fs s (s.forEach l f) := by
  induction l generalizing s with
  | nil => exact MotionFrame.refl fs s
  | cons x l ih => exact (hf s x (by simp)).trans (ih (fun s y hy => hf s y (List.mem_cons_of_mem x hy)) (f s x))

/-! ### Links follow the device state (R214) -/

/-- A link in RUN sends a RUN place, its nodes' outputs start from their safe level (R232). -/
def State.linkRuns (s : State) (n : Nat) : State :=
  { (s.lnkShown n 6).setLnk n { s.link n with runPlace := true } with
    eps := s.eps.filterMap (fun e =>
      let v := { e.2 with level := if epIsLink e.1 && epPort e.1 == n then false else e.2.level }
      if v = Ep.reset then none else some (e.1, v)) }

theorem State.linkEnter_run (s : State) (n : Nat) : s.linkEnter n 6 = s.linkRuns n := by
  have heps : (s.lnkShown n 6).eps = s.eps := by rw [(s.lnkShown_frame n 6).1]
  have hlink : (s.lnkShown n 6).link n = s.link n := (s.lnkShown_frame n 6).link_eq n
  have heq : s.linkEnter n 6 = { (s.lnkShown n 6).setLnk n { (s.lnkShown n 6).link n with runPlace := true } with
      eps := (s.lnkShown n 6).eps.filterMap (fun e =>
        let v := { e.2 with level := if epIsLink e.1 && epPort e.1 == n then false else e.2.level }
        if v = Ep.reset then none else some (e.1, v)) } := rfl
  rw [heq, heps, hlink, State.linkRuns]

theorem State.linkRuns_frame (s : State) (n : Nat) : MotionFrame (linkStateFields n) s (s.linkRuns n) :=
  (s.lnkShown_frame n 6).motionFrame.trans ⟨rfl, .of_regs rfl⟩

theorem State.linkRuns_get (s : State) (n : Nat) (f : FieldRef) : (s.linkRuns n).get f = (s.lnkShown n 6).get f := rfl

theorem linkFollow_cases (s : State) (n : Nat) :
    (s.lnkState n = 5 ∧ s.devState = 8 ∧ s.shut (page .lnk n) = false ∧ s.linkFollow n = s.linkRuns n) ∨
      (s.lnkState n = 6 ∧ ¬ (s.devState = 8 ∧ s.shut (page .lnk n) = false) ∧ s.linkFollow n = s.linkEnter n 5) ∨
      (¬ (s.lnkState n = 5 ∧ s.devState = 8 ∧ s.shut (page .lnk n) = false) ∧
        ¬ (s.lnkState n = 6 ∧ ¬ (s.devState = 8 ∧ s.shut (page .lnk n) = false)) ∧ s.linkFollow n = s) := by
  have hrun : (s.devState == 8 && !s.shut (page .lnk n)) = true ↔ s.devState = 8 ∧ s.shut (page .lnk n) = false := by simp
  have heq : s.linkFollow n =
      if s.lnkState n = 5 ∧ (s.devState == 8 && !s.shut (page .lnk n)) = true then s.linkEnter n 6
      else if s.lnkState n = 6 ∧ (!(s.devState == 8 && !s.shut (page .lnk n))) = true then s.linkEnter n 5 else s := rfl
  have hnot : (!(s.devState == 8 && !s.shut (page .lnk n))) = true ↔ ¬ (s.devState = 8 ∧ s.shut (page .lnk n) = false) := by
    rw [Bool.not_eq_true', ← Bool.not_eq_true, hrun]
  rw [heq]
  by_cases h5 : s.lnkState n = 5 ∧ s.devState = 8 ∧ s.shut (page .lnk n) = false
  · exact .inl ⟨h5.1, h5.2.1, h5.2.2, by rw [if_pos ⟨h5.1, hrun.2 h5.2⟩, State.linkEnter_run]⟩
  · have hno5 : ¬ (s.lnkState n = 5 ∧ (s.devState == 8 && !s.shut (page .lnk n)) = true) := fun h => h5 ⟨h.1, hrun.1 h.2⟩
    by_cases h6 : s.lnkState n = 6 ∧ ¬ (s.devState = 8 ∧ s.shut (page .lnk n) = false)
    · exact .inr (.inl ⟨h6.1, h6.2, by rw [if_neg hno5, if_pos ⟨h6.1, hnot.2 h6.2⟩]⟩)
    · exact .inr (.inr ⟨h5, h6, by rw [if_neg hno5, if_neg fun h => h6 ⟨h.1, hnot.1 h.2⟩]⟩)

theorem State.linkFollow_frame (s : State) (n : Nat) : MotionFrame (linkStateFields n) s (s.linkFollow n) := by
  rcases linkFollow_cases s n with ⟨-, -, -, h⟩ | ⟨-, -, h⟩ | ⟨-, -, h⟩
  · rw [h]
    exact s.linkRuns_frame n
  · rw [h]
    exact .of_lnk (s.linkEnter_frame (by decide) (by decide))
  · rw [h]
    exact MotionFrame.refl _ s

theorem linkStateFields_apart {n k : Nat} (h : k ≠ n) : ∀ f ∈ linkStateFields n, ∀ g ∈ linkStateFields k, f.apart g := by
  intro f hf g hg
  simp only [linkStateFields, List.mem_cons, List.not_mem_nil, or_false] at hf hg
  rcases hf with rfl | rfl <;> rcases hg with rfl | rfl <;> exact .inl (by simp [rawBit]; omega)

theorem linkStateFields_ok (n : Nat) : ∀ f ∈ linkStateFields n, f.ok := by
  intro f hf
  simp only [linkStateFields, List.mem_cons, List.not_mem_nil, or_false] at hf
  rcases hf with rfl | rfl <;> simp [FieldRef.ok, rawBit]

/-- What another link does leaves a link's state and mark, the device state and every shutter. -/
theorem State.linkFollow_other (s : State) {n k : Nat} (h : k ≠ n) :
    (s.linkFollow n).lnkState k = s.lnkState k ∧ ((s.linkFollow n).isRaised (page .lnk k) 0 ↔ s.isRaised (page .lnk k) 0) := by
  have hkept := (s.linkFollow_frame n).2
  refine ⟨hkept.get (linkStateFields_ok k _ (by simp [linkStateFields])) fun f hf => linkStateFields_apart h f hf _
    (by simp [linkStateFields]), ?_⟩
  rw [State.isRaised, State.isRaised, hkept.get (linkStateFields_ok k _ (by simp [linkStateFields])) fun f hf =>
    linkStateFields_apart h f hf _ (by simp [linkStateFields])]

theorem State.linkFollow_devState (s : State) (n : Nat) : (s.linkFollow n).devState = s.devState :=
  (s.linkFollow_frame n).2.get (by decide) (by simp [linkStateFields, FieldRef.apart, rawBit]; omega)

theorem State.linkFollow_shut (s : State) (n k : Nat) : (s.linkFollow n).shut (page .lnk k) = s.shut (page .lnk k) := by
  rw [State.shut, State.shut, State.bit, State.bit, (s.linkFollow_frame n).2.get (by simp [FieldRef.ok])
    (by simp [linkStateFields, FieldRef.apart, rawBit]; omega)]

/-- A link in RUN with its change shown. -/
def State.RunShown (s : State) (k : Nat) : Prop := s.lnkState k = 6 ∧ s.isRaised (page .lnk k) 0

theorem State.linkFollow_runs {s : State} {n k : Nat} (hdev : s.devState = 8) (hshut : s.shut (page .lnk k) = false)
    (h : (k = n ∧ s.lnkState k = 5) ∨ s.RunShown k) : (s.linkFollow n).RunShown k := by
  by_cases hk : k = n
  · subst hk
    rcases linkFollow_cases s k with ⟨h5, -, -, heq⟩ | ⟨-, hno, -⟩ | ⟨hno, -, heq⟩
    · rw [heq, State.RunShown, State.lnkState, State.isRaised, State.linkRuns_get, State.linkRuns_get]
      exact ⟨s.lnkShown_state k (by decide), State.lnkShown_raised (by omega)⟩
    · exact absurd ⟨hdev, hshut⟩ hno
    · rcases h with ⟨-, h5⟩ | hrun
      · exact absurd ⟨h5, hdev, hshut⟩ hno
      · rwa [heq]
  · obtain ⟨hstate, hraised⟩ := s.linkFollow_other hk
    rcases h with ⟨rfl, -⟩ | ⟨h6, hr⟩
    · exact absurd rfl hk
    · exact ⟨hstate.trans h6, hraised.2 hr⟩

theorem State.linkFollow_holds {s : State} {n k : Nat} (hdev : s.devState ≠ 8) (h : (k = n ∧ s.lnkState k = 6) ∨ s.lnkState k = 5) :
    (s.linkFollow n).lnkState k = 5 := by
  by_cases hk : k = n
  · subst hk
    rcases linkFollow_cases s k with ⟨-, h8, -⟩ | ⟨-, -, heq⟩ | ⟨-, hno, heq⟩
    · exact absurd h8 hdev
    · rw [heq]
      exact s.linkEnter_state (by decide) (by decide)
    · rcases h with ⟨-, h6⟩ | h5
      · exact absurd ⟨h6, fun hd => hdev hd.1⟩ hno
      · rwa [heq]
  · obtain ⟨hstate, -⟩ := s.linkFollow_other hk
    exact hstate.trans (h.resolve_left fun hn => hk hn.1)

theorem State.forEach_linkFollow_runs {k : Nat} {l : List Nat} {s : State} (hdev : s.devState = 8) (hshut : s.shut (page .lnk k) = false)
    (h : (k ∈ l ∧ s.lnkState k = 5) ∨ s.RunShown k) : (s.forEach l fun s n => s.linkFollow n).RunShown k := by
  induction l generalizing s with
  | nil => exact h.resolve_left fun hn => by simp at hn
  | cons n l ih =>
    refine ih ((s.linkFollow_devState n).trans hdev) ((s.linkFollow_shut n k).trans hshut) ?_
    rcases h with ⟨hm, h5⟩ | hrun
    · rcases List.mem_cons.1 hm with rfl | hm
      · exact .inr (State.linkFollow_runs hdev hshut (.inl ⟨rfl, h5⟩))
      · by_cases hk : k = n
        · exact .inr (State.linkFollow_runs hdev hshut (.inl ⟨hk, h5⟩))
        · exact .inl ⟨hm, (s.linkFollow_other hk).1.trans h5⟩
    · exact .inr (State.linkFollow_runs hdev hshut (.inr hrun))

theorem State.forEach_linkFollow_holds {k : Nat} {l : List Nat} {s : State} (hdev : s.devState ≠ 8)
    (h : (k ∈ l ∧ s.lnkState k = 6) ∨ s.lnkState k = 5) : (s.forEach l fun s n => s.linkFollow n).lnkState k = 5 := by
  induction l generalizing s with
  | nil => exact h.resolve_left fun hn => by simp at hn
  | cons n l ih =>
    refine ih (by rwa [s.linkFollow_devState n]) ?_
    rcases h with ⟨hm, h6⟩ | h5
    · by_cases hk : k = n
      · exact .inr (State.linkFollow_holds hdev (.inl ⟨hk, h6⟩))
      · exact .inl ⟨(List.mem_cons.1 hm).resolve_left hk, (s.linkFollow_other hk).1.trans h6⟩
    · exact .inr (State.linkFollow_holds hdev (.inr h5))

theorem linkStateFields_linkFields {n : Nat} (h : n < 16) : linkStateFields n ⊆ linkFields := fun _ hf =>
  List.mem_flatMap.2 ⟨n, List.mem_range.2 h, hf⟩

theorem State.linksFollow_frame (s : State) : MotionFrame linkFields s s.linksFollow :=
  MotionFrame.forEach (fun s n hn => (s.linkFollow_frame n).mono (linkStateFields_linkFields (List.mem_range.1 hn))) s

theorem State.linksFollow_runs {s : State} (hdev : s.devState = 8) {l : Nat} (hl : l < 16) (hshut : s.shut (page .lnk l) = false)
    (h : s.lnkState l = 5) : s.linksFollow.RunShown l :=
  State.forEach_linkFollow_runs hdev hshut (.inl ⟨List.mem_range.2 hl, h⟩)

theorem State.linksFollow_holds {s : State} (hdev : s.devState ≠ 8) {l : Nat} (hl : l < 16) (h : s.lnkState l = 6) :
    s.linksFollow.lnkState l = 5 := State.forEach_linkFollow_holds hdev (.inl ⟨List.mem_range.2 hl, h⟩)

/-- Out of RUN no link starts its nodes' outputs. -/
theorem State.linkFollow_eps {s : State} (hdev : s.devState ≠ 8) (n : Nat) : (s.linkFollow n).eps = s.eps := by
  rcases linkFollow_cases s n with ⟨-, h8, -⟩ | ⟨-, -, h⟩ | ⟨-, -, h⟩
  · exact absurd h8 hdev
  · rw [h, (s.linkEnter_frame (n := n) (nxt := 5) (by decide) (by decide)).1]
  · rw [h]

theorem State.linksFollow_eps {s : State} (hdev : s.devState ≠ 8) : s.linksFollow.eps = s.eps := by
  have hall : ∀ (l : List Nat) (u : State), u.devState ≠ 8 → (u.forEach l fun s n => s.linkFollow n).eps = u.eps := by
    intro l
    induction l with
    | nil => exact fun _ _ => rfl
    | cons n l ih => exact fun u hu => (ih (u.linkFollow n) (by rwa [u.linkFollow_devState])).trans (State.linkFollow_eps hu n)
  exact hall _ s hdev

theorem State.linkFollow_supplies (s : State) (n : Nat) : (s.linkFollow n).power = s.power ∧ (s.linkFollow n).edges = s.edges := by
  rcases linkFollow_cases s n with ⟨-, -, -, h⟩ | ⟨-, -, h⟩ | ⟨-, -, h⟩
  · obtain ⟨hshown, -⟩ := s.lnkShown_frame n 6
    rw [h, State.linkRuns]
    generalize s.lnkShown n 6 = u at hshown ⊢
    rw [hshown]
    exact ⟨rfl, rfl⟩
  · obtain ⟨henter, -⟩ := s.linkEnter_frame (n := n) (nxt := 5) (by decide) (by decide)
    rw [h]
    generalize s.linkEnter n 5 = u at henter ⊢
    rw [henter]
    exact ⟨rfl, rfl⟩
  · rw [h]
    exact ⟨rfl, rfl⟩

theorem State.linksFollow_supplies (s : State) : s.linksFollow.power = s.power ∧ s.linksFollow.edges = s.edges := by
  have hall : ∀ (l : List Nat) (u : State), (u.forEach l fun s n => s.linkFollow n).power = u.power ∧
      (u.forEach l fun s n => s.linkFollow n).edges = u.edges := by
    intro l
    induction l with
    | nil => exact fun _ => ⟨rfl, rfl⟩
    | cons n l ih =>
      intro u
      obtain ⟨hpower, hedges⟩ := ih (u.linkFollow n)
      exact ⟨hpower.trans (u.linkFollow_supplies n).1, hedges.trans (u.linkFollow_supplies n).2⟩
  exact hall _ s

theorem OnlyFields.eps_eq {fs : List FieldRef} {s t : State} (h : OnlyFields fs s t) : t.eps = s.eps := by
  obtain ⟨h, -⟩ := h
  rw [h]

theorem OnlyFields.edges_eq {fs : List FieldRef} {s t : State} (h : OnlyFields fs s t) : t.edges = s.edges := by
  obtain ⟨h, -⟩ := h
  rw [h]

/-- Where no edge to come changes. -/
theorem MotionFrame.of_edges {fs : List FieldRef} {s t : State} (h : MotionFrame fs s t) (hedges : t.edges = s.edges) :
    t = { s with regs := t.regs, power := t.power, lnk := t.lnk, eps := t.eps, dueCarts := t.dueCarts } := by
  obtain ⟨h, -⟩ := h
  rw [hedges] at h
  exact h

theorem MotionFrame.run_eq {fs : List FieldRef} {s t : State} (h : MotionFrame fs s t) : run s t = .next t := by
  obtain ⟨h, -⟩ := h
  exact Sys2Proof.Machine.run_eq (by rw [h]) (by rw [h])

/-! ### RUN (R351, R353) -/

/-- FIRST_RUN shows the tick of a first entry. -/
def State.firstRunShown (s : State) : State :=
  if s.power.runSeen then s else s.put64 Reg.PRF.FIRST_RUN_LO.TICK Reg.PRF.FIRST_RUN_HI.TICK s.tick

/-- The same with the tick of this entry. -/
def State.runMarked (s : State) : State :=
  { s.firstRunShown with power := { s.power with runSeen := true, runAt := some s.tick } }

/-- The same in RUN, before the links follow. -/
def State.runShown (s : State) : State := (s.runMarked.put Reg.GLB.DEV_STATE.STATE 8).raise (page .glb 0) 0

theorem State.firstRunShown_frame (s : State) :
    OnlyFields [Reg.PRF.FIRST_RUN_LO.TICK, Reg.PRF.FIRST_RUN_HI.TICK] s s.firstRunShown := by
  unfold State.firstRunShown
  split
  · exact OnlyFields.refl _ s
  · exact (OnlyFields.put s _ (by simp) (by decide)).then_put _ (by simp) (by decide)

theorem State.firstRunShown_tick (s : State) :
    s.firstRunShown.get64 Reg.PRF.FIRST_RUN_LO.TICK Reg.PRF.FIRST_RUN_HI.TICK =
      if s.power.runSeen then s.get64 Reg.PRF.FIRST_RUN_LO.TICK Reg.PRF.FIRST_RUN_HI.TICK else s.tick % 2 ^ 64 := by
  unfold State.firstRunShown
  split
  · rfl
  · exact State.get64_put64 _ _ (by decide) (by decide) (by decide)

/-- The registers that an entry into RUN writes before the links follow. -/
def runFields : List FieldRef :=
  [Reg.GLB.DEV_STATE.STATE, Reg.PRF.FIRST_RUN_LO.TICK, Reg.PRF.FIRST_RUN_HI.TICK, rawBit (page .glb 0) 0]

theorem State.runMarked_frame (s : State) :
    MotionFrame [Reg.PRF.FIRST_RUN_LO.TICK, Reg.PRF.FIRST_RUN_HI.TICK] s s.runMarked :=
  s.firstRunShown_frame.motionFrame.trans ⟨rfl, .of_regs rfl⟩

theorem State.runShown_only (s : State) :
    OnlyFields [Reg.GLB.DEV_STATE.STATE, rawBit (page .glb 0) 0] s.runMarked s.runShown :=
  (OnlyFields.put _ _ (by decide) (by decide)).then_raise _ _ (by decide)

theorem State.runShown_frame (s : State) : MotionFrame runFields s s.runShown :=
  (s.runMarked_frame.mono (by decide)).trans (s.runShown_only.motionFrame.mono (by decide))

theorem State.runShown_shows (s : State) : s.runShown.devState = 8 ∧ s.runShown.isRaised (page .glb 0) 0 ∧
    s.runShown.power = { s.power with runSeen := true, runAt := some s.tick } ∧
    s.runShown.get64 Reg.PRF.FIRST_RUN_LO.TICK Reg.PRF.FIRST_RUN_HI.TICK =
      if s.power.runSeen then s.get64 Reg.PRF.FIRST_RUN_LO.TICK Reg.PRF.FIRST_RUN_HI.TICK else s.tick % 2 ^ 64 := by
  have honly := s.runShown_only
  refine ⟨?_, State.isRaised_raise _ _ (by decide), honly.power_eq, ?_⟩
  · rw [State.runShown, State.devState, State.get_raise_apart _ (by decide) (by decide), State.get_put_self _ _ (by decide)]
    rfl
  · rw [State.get64, honly.get (by decide) (by decide), honly.get (by decide) (by decide)]
    exact s.firstRunShown_tick

theorem State.wakeEnds_run (s : State) : s.wakeEnds 8 = s := by
  unfold State.wakeEnds
  rw [if_neg (by simp)]

theorem State.enterRun_eq {s : State} (h : s.devState = 7) : s.enterRun = s.runShown.linksFollow.cmdEnd 1 := by
  have hdev : s.runMarked.devState ≠ 8 := by
    rw [State.devState, s.runMarked_frame.2.get (by decide) (by decide)]
    exact fun h8 => absurd (h.symm.trans h8) (by decide)
  have heq : s.enterRun = (s.runMarked.setDevState 8).linksFollow.cmdEnd 1 := by
    unfold State.enterRun State.runMarked State.firstRunShown
    cases s.power.runSeen <;> rfl
  rw [heq, State.setDevState, if_neg hdev, State.wakeEnds_run]
  rfl

/-- A command that is done, with CMD cleared. -/
def State.cmdDone (s : State) : State := (s.cmdEnd 1).put Reg.PRF.CMD.CMD 0

/-- What the end of a command writes. -/
def cmdDoneFields : List FieldRef := [Reg.PRF.STAT.RESULT, Reg.PRF.CMD.CMD, rawBit (page .prf 0) 0]

theorem State.cmdDone_frame (s : State) : OnlyFields cmdDoneFields s s.cmdDone :=
  ((OnlyFields.put s 1 (by decide) (by decide)).then_raise _ _ (by decide)).then_put _ (by decide) (by decide)

theorem State.cmdDone_shows (s : State) : s.cmdDone.get Reg.PRF.STAT.RESULT = 1 ∧ s.cmdDone.isRaised (page .prf 0) 0 ∧
    s.cmdDone.get Reg.PRF.CMD.CMD = 0 := by
  refine ⟨?_, State.isRaised_put_of (State.isRaised_raise _ _ (by decide)) _ (by decide) (by decide), ?_⟩
  · rw [State.cmdDone, State.cmdEnd_done, State.get_put_apart _ _ (by decide) (by decide), State.get_raise_apart _ (by decide) (by decide),
      State.get_put_self _ _ (by decide)]
    rfl
  · rw [State.cmdDone, State.get_put_self _ _ (by decide)]
    rfl

theorem State.prfRow_run {s : State} (h : s.devState = 7) (hdrain : s.power.draining = none) :
    s.prfRow 1 = s.runShown.linksFollow.cmdDone := by
  have hon : s.clockOn = true := by rw [State.clockOn, h]; rfl
  have hcmd : ∀ p, s.prfCommand 1 p 0 = s.enterRun := fun p => by simp [State.prfCommand, hdrain, h]
  rw [State.prfRow, hon, State.when_true, hcmd, State.enterRun_eq h, State.cmdDone]

/-- What following links leave of fields off the link pages. -/
theorem State.linksFollow_get (s : State) {g : FieldRef} (ok : g.ok) (ha : ∀ f ∈ linkFields, f.apart g) :
    s.linksFollow.get g = s.get g := s.linksFollow_frame.2.get ok ha

theorem MotionFrame.reticked {fs : List FieldRef} {s u : State} {n : Nat} (h : MotionFrame fs { s with tick := n } u) :
    MotionFrame fs s { u with tick := s.tick, pending := s.pending } := by
  obtain ⟨h, hkept⟩ := h
  exact ⟨by rw [h], hkept⟩

/-- What RUN writes beside the links' fields. -/
def enterRunFields : List FieldRef :=
  [Reg.GLB.DEV_STATE.STATE, Reg.PRF.STAT.RESULT, Reg.PRF.CMD.CMD, Reg.PRF.FIRST_RUN_LO.TICK, Reg.PRF.FIRST_RUN_HI.TICK,
    rawBit (page .prf 0) 0, rawBit (page .glb 0) 0]

theorem State.entersRun_frame (s : State) : MotionFrame (enterRunFields ++ linkFields) s s.runShown.linksFollow.cmdDone :=
  ((s.runShown_frame.mono fun _ hf => List.mem_append_left _ (by revert hf; simp [runFields, enterRunFields]; tauto)).trans
    (s.runShown.linksFollow_frame.mono (List.subset_append_right _ _))).trans
      (State.cmdDone_frame _ |>.motionFrame.mono fun _ hf => List.mem_append_left _ (by revert hf; simp [cmdDoneFields, enterRunFields]; tauto))

theorem State.entersRun_edges (s : State) : s.runShown.linksFollow.cmdDone.edges = s.edges := by
  have hdone : s.runShown.linksFollow.cmdDone.edges = s.runShown.linksFollow.edges := (State.cmdDone_frame _).edges_eq
  have hfirst : s.runMarked.edges = s.firstRunShown.edges := rfl
  rw [hdone, s.runShown.linksFollow_supplies.2, s.runShown_only.edges_eq, hfirst, s.firstRunShown_frame.edges_eq]

theorem linkFields_raw : ∀ l < 16, ∀ g ∈ linkStateFields l, g.ok ∧ (∀ f ∈ cmdDoneFields, f.apart g) ∧ ∀ f ∈ runFields, f.apart g := by
  decide

/-- What an entry into RUN shows. -/
theorem State.entersRun_shows (s : State) : s.runShown.linksFollow.cmdDone.devState = 8 ∧
    s.runShown.linksFollow.cmdDone.isRaised (page .glb 0) 0 ∧
    s.runShown.linksFollow.cmdDone.power = { s.power with runSeen := true, runAt := some s.tick } ∧
    s.runShown.linksFollow.cmdDone.get64 Reg.PRF.FIRST_RUN_LO.TICK Reg.PRF.FIRST_RUN_HI.TICK =
      (if s.power.runSeen then s.get64 Reg.PRF.FIRST_RUN_LO.TICK Reg.PRF.FIRST_RUN_HI.TICK else s.tick % 2 ^ 64) ∧
    ∀ l, l < 16 → s.lnkState l = 5 → s.shut (page .lnk l) = false → s.runShown.linksFollow.cmdDone.RunShown l := by
  obtain ⟨hdev, hchange, hpower, hfirst⟩ := s.runShown_shows
  have hdone := s.runShown.linksFollow.cmdDone_frame
  have hpow := s.runShown.linksFollow_supplies.1
  have hget : ∀ g : FieldRef, g.ok → (∀ f ∈ linkFields, f.apart g) → (∀ f ∈ cmdDoneFields, f.apart g) →
      s.runShown.linksFollow.cmdDone.get g = s.runShown.get g := fun g ok hl hd =>
    (hdone.get ok hd).trans (s.runShown.linksFollow_get ok hl)
  refine ⟨(hget _ (by decide) (by decide) (by decide)).trans hdev, (hget _ (by decide) (by decide) (by decide)).trans hchange,
    hdone.power_eq.trans (hpow.trans hpower), ?_, fun l hl h5 hshut => ?_⟩
  · rw [State.get64, hget _ (by decide) (by decide) (by decide), hget _ (by decide) (by decide) (by decide)]
    exact hfirst
  · have hkept := s.runShown_frame.2
    obtain ⟨okS, doneS, runS⟩ := linkFields_raw l hl (Reg.LNK.STAT.STATE l) (by simp [linkStateFields])
    obtain ⟨okR, doneR, -⟩ := linkFields_raw l hl (rawBit (page .lnk l) 0) (by simp [linkStateFields])
    have hst : s.runShown.lnkState l = 5 := (hkept.get okS runS).trans h5
    have hsh : s.runShown.shut (page .lnk l) = false := by
      rw [State.shut, State.bit, hkept.get (by simp [FieldRef.ok]) (by simp [runFields, FieldRef.apart, rawBit]; omega)]
      exact hshut
    obtain ⟨h6, hraised⟩ := State.linksFollow_runs hdev hl hsh hst
    exact ⟨(hdone.get okS doneS).trans h6, (hdone.get okR doneR).trans hraised⟩

/-! ### STOP (R352) -/

theorem State.prfRow_stop {s : State} (h : s.devState = 8) (hdrain : s.power.draining = none) :
    s.prfRow 2 = (s.put Reg.PRF.STAT.STOPPING 1).put Reg.PRF.CMD.CMD 0 := by
  have hon : s.clockOn = true := by rw [State.clockOn, h]; rfl
  have hcmd : ∀ p, s.prfCommand 2 p 0 = s.put Reg.PRF.STAT.STOPPING 1 := fun p => by simp [State.prfCommand, hdrain, h]
  rw [State.prfRow, hon, State.when_true, hcmd]

/-- The outputs that READY holds safe. -/
def State.localOutputs (s : State) : List Nat := s.liveEndpoints.filter fun a => !epIsLink a

/-- RUN is over: no tick of it counts any more. -/
def State.runOver (s : State) : State := { s with power := { s.power with runAt := none } }

/-- Its outputs at their safe levels. -/
def State.outputsStopped (s : State) : State := s.runOver.forEach s.localOutputs fun u a => u.goSafe a s.now

/-- The same in READY, before the links follow. -/
def State.readyShown (s : State) : State := (s.outputsStopped.put Reg.PRF.STAT.STOPPING 0).setDevState 7

/-- The instant is that of the current tick throughout. -/
theorem State.forEach_goSafe_now (l : List Nat) {u : State} {t : Nat} (h : u.now = t) :
    (u.forEach l fun u a => u.goSafe a u.now) = u.forEach l fun u a => u.goSafe a t := by
  induction l generalizing u with
  | nil => rfl
  | cons a l ih =>
    have htick : (u.goSafe a t).now = t := by
      rw [State.now, (u.goSafe_frame a t).1]
      exact h
    rw [State.forEach_cons, State.forEach_cons, h]
    exact ih htick

theorem State.stopComplete_quiet {s : State} (h : s.devState = 8) (hstop : s.get Reg.PRF.STAT.STOPPING = 1) (hq : s.quiet = true) :
    s.stopComplete = s.readyShown.linksFollow.cmdEnd 1 := by
  have hbit : s.bit Reg.PRF.STAT.STOPPING = true := by rw [State.bit, hstop]; rfl
  have heq : s.stopComplete =
      if s.devState = 8 ∧ s.bit Reg.PRF.STAT.STOPPING = true ∧ s.quiet = true then
        (((s.runOver.forEach s.localOutputs fun u a => u.goSafe a u.now).put Reg.PRF.STAT.STOPPING 0).setDevState 7).linksFollow.cmdEnd 1
      else s := rfl
  rw [heq, if_pos ⟨h, hbit, hq⟩, State.forEach_goSafe_now s.localOutputs (u := s.runOver) rfl]
  rfl

/-- What the end of RUN writes before the links follow. -/
def runEndFields : List FieldRef :=
  [Reg.GLB.DEV_STATE.STATE, Reg.PRF.STAT.STOPPING, rawBit (page .prf 0) 5, rawBit (page .glb 0) 0]

theorem State.wakeEnds_frame (s : State) (v : Nat) : MotionFrame [rawBit (page .prf 0) 5] s (s.wakeEnds v) := by
  unfold State.wakeEnds
  split
  · have hpower : MotionFrame [rawBit (page .prf 0) 5] s
        { s with power := { s.power with waking := false, image := false, epochDue := true } } := ⟨rfl, .of_regs rfl⟩
    exact hpower.trans (OnlyFields.raise _ _ _ (by simp)).motionFrame
  · exact MotionFrame.refl _ s

theorem State.wakeEnds_ready (s : State) : s.wakeEnds 7 = s.wakeEnds 6 := by
  unfold State.wakeEnds
  simp

theorem State.outputsStopped_of_run (s : State) : RingFrame [] s.runOver s.outputsStopped ∧
    ∀ a ∈ s.localOutputs, s.outputsStopped.AtSafe a := by
  obtain ⟨hframe, -, hsafe⟩ := State.forEach_goSafe s.localOutputs s.now s.runOver
  exact ⟨hframe, fun a ha => hsafe a (.inl ha)⟩

theorem State.outputsStopped_motion (s : State) : MotionFrame [] s s.outputsStopped := by
  have hover : MotionFrame [] s s.runOver := ⟨rfl, .of_regs rfl⟩
  exact hover.trans (.of_ring s.outputsStopped_of_run.1)

theorem State.outputsStopped_get (s : State) {f : FieldRef} (ok : f.ok) : s.outputsStopped.get f = s.get f :=
  s.outputsStopped_of_run.1.2.get ok (by simp)

/-- What READY shows. -/
theorem State.readyShown_shows {s : State} (h : s.devState = 8) : s.readyShown.devState = 7 ∧
    s.readyShown.get Reg.PRF.STAT.STOPPING = 0 ∧ s.readyShown.isRaised (page .glb 0) 0 ∧
    s.readyShown.power = ({ s.power with runAt := none } : Power).settled ∧ s.readyShown.eps = s.outputsStopped.eps ∧
    MotionFrame runEndFields s s.readyShown := by
  obtain ⟨hring, -⟩ := s.outputsStopped_of_run
  have hmotion : MotionFrame runEndFields s s.outputsStopped := s.outputsStopped_motion.mono (List.nil_subset _)
  have hpower : s.outputsStopped.power = { s.power with runAt := none } := by rw [hring.1, State.runOver]
  have hne : s.outputsStopped.devState ≠ 7 := by
    rw [State.devState, s.outputsStopped_get (by decide)]
    exact fun h7 => absurd (h.symm.trans h7) (by decide)
  unfold State.readyShown
  generalize s.outputsStopped = u at *
  have hput : OnlyFields [Reg.PRF.STAT.STOPPING] u (u.put Reg.PRF.STAT.STOPPING 0) := OnlyFields.put u 0 (by simp) (by decide)
  have hzero : (u.put Reg.PRF.STAT.STOPPING 0).get Reg.PRF.STAT.STOPPING = 0 := State.get_put_of_lt _ (by decide) (by decide)
  have hne' : (u.put Reg.PRF.STAT.STOPPING 0).devState ≠ 7 := by rwa [State.devState, hput.get (by decide) (by decide)]
  have hpow' := hput.power_eq.trans hpower
  have heps : (u.put Reg.PRF.STAT.STOPPING 0).eps = u.eps := State.put_eps _ _ _
  generalize u.put Reg.PRF.STAT.STOPPING 0 = v at *
  have hdev : v.setDevState 7 = ((v.put Reg.GLB.DEV_STATE.STATE 7).raise (page .glb 0) 0).wakeEnds 6 := by
    rw [State.setDevState, if_neg hne', State.wakeEnds_ready]
  have hchange : OnlyFields [Reg.GLB.DEV_STATE.STATE, rawBit (page .glb 0) 0] v ((v.put Reg.GLB.DEV_STATE.STATE 7).raise (page .glb 0) 0) :=
    (OnlyFields.put v 7 (by simp) (by decide)).then_raise _ _ (by simp)
  have hraised : ((v.put Reg.GLB.DEV_STATE.STATE 7).raise (page .glb 0) 0).isRaised (page .glb 0) 0 := State.isRaised_raise _ _ (by decide)
  have hwake := ((v.put Reg.GLB.DEV_STATE.STATE 7).raise (page .glb 0) 0).wakeEnds_frame 6
  have hwpow := ((v.put Reg.GLB.DEV_STATE.STATE 7).raise (page .glb 0) 0).wakeEnds_power
  refine ⟨v.setDevState_devState (by decide), ?_, ?_, ?_, ?_, ?_⟩
  · rw [hdev, hwake.2.get (by decide) (by decide), hchange.get (by decide) (by decide), hzero]
  · rw [hdev]
    exact State.wakeEnds_raised hraised (by decide) 6
  · rw [hdev, hwpow, hchange.power_eq, hpow']
  · rw [hdev, State.wakeEnds_state, State.raise_eps, State.put_eps, heps]
  · rw [hdev]
    exact ((hmotion.trans (hput.motionFrame.mono (by decide))).trans (hchange.motionFrame.mono (by decide))).trans
      (hwake.mono (by decide))

theorem State.stopComplete_waits {s : State} (hq : s.quiet = false) : s.stopComplete = s := by
  unfold State.stopComplete
  rw [if_neg (by simp [hq])]

/-- What a command's end leaves outside its two fields. -/
theorem State.cmdEnd_frame (s : State) : OnlyFields [Reg.PRF.STAT.RESULT, rawBit (page .prf 0) 0] s (s.cmdEnd 1) :=
  (OnlyFields.put s 1 (by decide) (by decide)).then_raise _ _ (by decide)

theorem State.cmdEnd_shows (s : State) : (s.cmdEnd 1).get Reg.PRF.STAT.RESULT = 1 ∧ (s.cmdEnd 1).isRaised (page .prf 0) 0 := by
  refine ⟨?_, State.isRaised_raise _ _ (by decide)⟩
  rw [State.cmdEnd_done, State.get_raise_apart _ (by decide) (by decide), State.get_put_self _ _ (by decide)]
  rfl

theorem linkFields_end : ∀ l < 16, ∀ g ∈ linkStateFields l, g.ok ∧ (∀ f ∈ [Reg.PRF.STAT.RESULT, rawBit (page .prf 0) 0], f.apart g) ∧
    ∀ f ∈ runEndFields, f.apart g := by decide

/-- What a completed STOP leaves. -/
theorem stopComplete_stops {s : State} (h : s.devState = 8) (hstop : s.get Reg.PRF.STAT.STOPPING = 1) (hq : s.quiet = true) :
    ∃ t, exec .stopComplete s = .next t ∧ t.devState = 7 ∧ t.get Reg.PRF.STAT.STOPPING = 0 ∧ t.get Reg.PRF.STAT.RESULT = 1 ∧
      t.isRaised (page .prf 0) 0 ∧ t.isRaised (page .glb 0) 0 ∧
      (∀ a ∈ s.liveEndpoints, epIsLink a = false → (t.ep a).level = s.safePin a ∧ (t.ep a).demands = []) ∧
      (∀ l, l < 16 → s.lnkState l = 6 → t.lnkState l = 5) ∧
      t.power = ({ s.power with runAt := none } : Power).settled ∧
      MotionFrame (runEndFields ++ ([Reg.PRF.STAT.RESULT, rawBit (page .prf 0) 0] ++ linkFields)) s t := by
  obtain ⟨hdev, hzero, hchange, hpower, heps, hframe⟩ := State.readyShown_shows h
  obtain ⟨hring, hsafe⟩ := s.outputsStopped_of_run
  have hexec : exec .stopComplete s = run s s.stopComplete := rfl
  rw [State.stopComplete_quiet h hstop hq] at hexec
  have hne : s.readyShown.devState ≠ 8 := by rw [hdev]; decide
  have hfollow := s.readyShown.linksFollow_frame
  have hfeps := State.linksFollow_eps hne
  have hfpow := s.readyShown.linksFollow_supplies.1
  have hlinks : ∀ l, l < 16 → s.readyShown.lnkState l = 6 → s.readyShown.linksFollow.lnkState l = 5 :=
    fun l hl h6 => State.linksFollow_holds hne hl h6
  generalize s.readyShown.linksFollow = v at *
  have hend := v.cmdEnd_frame
  obtain ⟨hresult, hdone⟩ := v.cmdEnd_shows
  have hget : ∀ g : FieldRef, g.ok → (∀ f ∈ linkFields, f.apart g) → (∀ f ∈ [Reg.PRF.STAT.RESULT, rawBit (page .prf 0) 0], f.apart g) →
      (v.cmdEnd 1).get g = s.readyShown.get g := fun g ok hl hd => (hend.get ok hd).trans (hfollow.2.get ok hl)
  have hmotion : MotionFrame (runEndFields ++ ([Reg.PRF.STAT.RESULT, rawBit (page .prf 0) 0] ++ linkFields)) s (v.cmdEnd 1) :=
    ((hframe.mono (List.subset_append_left _ _)).trans (hfollow.mono fun _ hf => List.mem_append_right _ (List.mem_append_right _ hf))).trans
      (hend.motionFrame.mono fun _ hf => List.mem_append_right _ (List.mem_append_left _ hf))
  have hendeps : (v.cmdEnd 1).eps = v.eps := hend.eps_eq
  refine ⟨v.cmdEnd 1, hexec.trans hmotion.run_eq,
    (hget _ (by decide) (by decide) (by decide)).trans hdev, (hget _ (by decide) (by decide) (by decide)).trans hzero, hresult, hdone,
    (hget _ (by decide) (by decide) (by decide)).trans hchange, fun a ha hlink => ?_, fun l hl h6 => ?_,
    hend.power_eq.trans (hfpow.trans hpower), hmotion⟩
  · obtain ⟨hlevel, hdemands, -⟩ := hsafe a (List.mem_filter.2 ⟨ha, by simp [hlink]⟩)
    have hep : (v.cmdEnd 1).ep a = s.outputsStopped.ep a := by rw [State.ep, State.ep, hendeps, hfeps, heps]
    have hpin : s.outputsStopped.safePin a = s.safePin a := s.outputsStopped_motion.safePin_eq a
    rw [hep]
    exact ⟨hlevel.trans hpin, hdemands⟩
  · obtain ⟨ok, hd, hr⟩ := linkFields_end l hl (Reg.LNK.STAT.STATE l) (by simp [linkStateFields])
    exact (hend.get ok hd).trans (hlinks l hl ((hframe.2.get ok hr).trans h6))

/-- Settles O52. RUN marks its tick and the links follow it (`runShown`, `linksFollow_runs`); the tick about to begin is its commit
tick, which is log entry 13's choice. STOP that is complete makes every local output safe (`goSafe`), then the links follow back
into HOLD. -/
theorem runAndStop : Obligations.RunAndStop := by
  refine ⟨fun s h hdrain => ?_, fun s h hdrain => ?_, fun s h hstop => ⟨fun hq => ?_, fun hq => ?_⟩⟩
  · have hexec : exec .run s = run s ({ s with tick := s.tick + 1 }.prfRow 1) := rfl
    have hrow := State.prfRow_run (s := { s with tick := s.tick + 1 }) h hdrain
    obtain ⟨hdev, hchange, hpower, hfirst, hlinks⟩ := State.entersRun_shows { s with tick := s.tick + 1 }
    have hframe := State.entersRun_frame { s with tick := s.tick + 1 }
    have hedges := State.entersRun_edges { s with tick := s.tick + 1 }
    obtain ⟨hresult, hdone, hcmd⟩ := State.cmdDone_shows (State.runShown { s with tick := s.tick + 1 }).linksFollow
    rw [hrow] at hexec
    generalize (State.runShown { s with tick := s.tick + 1 }).linksFollow.cmdDone = t at *
    refine ⟨_, hexec, hdev, hresult, hdone, hchange, hcmd, hpower, hfirst, fun l hl h5 hshut => hlinks l hl h5 hshut,
      hframe.reticked.of_edges hedges, hframe.reticked.2⟩
  · have hexec : exec .stop s = run s (s.prfRow 2) := rfl
    rw [State.prfRow_stop h hdrain] at hexec
    have hframe : OnlyFields [Reg.PRF.STAT.STOPPING, Reg.PRF.CMD.CMD] s ((s.put Reg.PRF.STAT.STOPPING 1).put Reg.PRF.CMD.CMD 0) :=
      (OnlyFields.put s 1 (by simp) (by decide)).then_put _ (by simp) (by decide)
    refine ⟨_, hexec.trans hframe.run_eq, ?_, State.get_put_of_lt _ (by decide) (by decide), hframe⟩
    rw [State.get_put_apart _ _ (by decide) (by decide), State.get_put_of_lt _ (by decide) (by decide)]
  · have hexec : exec .stopComplete s = run s s.stopComplete := rfl
    rw [hexec, State.stopComplete_waits hq]
    exact run_eq rfl rfl
  · obtain ⟨t, hexec, hdev, hzero, hresult, hdone, hchange, hout, hlinks, hpower, hframe⟩ := stopComplete_stops h hstop hq
    refine ⟨t, hexec, hdev, hzero, hresult, hdone, hchange, hout, hlinks, hpower, hframe.1, hframe.2.mono (by decide)⟩

end Sys2Proof.Machine
end

section
/-! PROOFS. Flash operations and fuses (chapter 14: R363, R374). -/

namespace Sys2Proof.Machine

/-! ### A command of the flash (R374) -/

/-- A flash command that fails at once: its result, FLASH_DONE, and the page's count. -/
def State.flashFails (s : State) (r : Nat) : State := ((s.put Reg.PRF.FL_STAT.RESULT r).raise (page .prf 0) 4).err (page .prf 0)

/-- What a failure writes. -/
def flashFailFields : List FieldRef := [Reg.PRF.FL_STAT.RESULT, Reg.HEAD.PG_ERRCNT.COUNT (page .prf 0), rawBit (page .prf 0) 4]

theorem State.flashFails_frame (s : State) (r : Nat) : OnlyFields flashFailFields s (s.flashFails r) :=
  ((OnlyFields.put s r (by decide) (by decide)).then_raise _ _ (by decide)).then_put _ (by decide) (by decide)

theorem State.flashFails_shows (s : State) {r : Nat} (h : r < 16) :
    (s.flashFails r).get Reg.PRF.FL_STAT.RESULT = r ∧ (s.flashFails r).isRaised (page .prf 0) 4 := by
  refine ⟨?_, State.isRaised_put_of (State.isRaised_raise _ _ (by decide)) _ (by decide) (by decide)⟩
  rw [State.flashFails, State.get_err_apart _ (by decide), State.get_raise_apart _ (by decide) (by decide),
    State.get_put_of_lt _ (by decide) (by simpa using h)]

theorem State.flashEnd_fails {s : State} {r : Nat} (h : r ≠ 1) : s.flashEnd r = s.flashFails r := by
  unfold State.flashEnd
  rw [if_neg h]
  rfl

/-- A door's write of FL_CMD. -/
theorem exec_flashCommand {i : Instr} {d : DoorNo} {op : Nat} {s : State} (hacc : s.accepts d .prf 0 0xD0)
    (hi : (i = .flashRead d ∧ op = 1) ∨ (i = .flashProgram d ∧ op = 2) ∨ (i = .flashErase4k d ∧ op = 3) ∨
      (i = .flashErase64k d ∧ op = 4)) : exec i s = run s (s.flashStart op) := by
  have hwrite : ∀ v : Word, s.busWrite d 0x30D0 v = s.flCmdWrite v := fun v => State.busWrite_direct hacc (by decide) (by decide) v
  rcases hi with ⟨rfl, rfl⟩ | ⟨rfl, rfl⟩ | ⟨rfl, rfl⟩ | ⟨rfl, rfl⟩
  · exact congrArg (run s) (hwrite 1)
  · exact congrArg (run s) (hwrite 2)
  · exact congrArg (run s) (hwrite 3)
  · exact congrArg (run s) (hwrite 4)

theorem flashCommand_outcome {i : Instr} {op : Nat} {s : State} (hexec : exec i s = run s (s.flashStart op)) :
    ∃ t, exec i s = .next t ∧
      (if s.devState = 5 ∨ s.get Reg.PRF.STAT.SW_STATE = 2 ∨ s.power.flOp ≠ none then
        t.get Reg.PRF.FL_STAT.RESULT = 2 ∧ t.isRaised (page .prf 0) 4 ∧ OnlyFields flashFailFields s t
       else if s.get Reg.PRF.FL_ADDR.ADDR % flashSpan op ≠ 0 ∨ s.flashSize ≤ s.get Reg.PRF.FL_ADDR.ADDR then
        t.get Reg.PRF.FL_STAT.RESULT = 3 ∧ t.isRaised (page .prf 0) 4 ∧ OnlyFields flashFailFields s t
       else t.get Reg.PRF.FL_STAT.ACTIVE = 1 ∧
          t = { s with regs := t.regs, power := { s.power with flOp := some (op, s.get Reg.PRF.FL_ADDR.ADDR) } } ∧
          FieldsKept [Reg.PRF.FL_STAT.ACTIVE] s t) := by
  have hisSome : s.power.flOp.isSome = true ↔ s.power.flOp ≠ none := Option.isSome_iff_ne_none
  unfold State.flashStart at hexec
  by_cases hbusy : s.devState = 5 ∨ s.get Reg.PRF.STAT.SW_STATE = 2 ∨ s.power.flOp ≠ none
  · rw [if_pos (by rwa [hisSome]), State.flashEnd_fails (by decide)] at hexec
    simp only [if_pos hbusy]
    obtain ⟨hresult, hraised⟩ := s.flashFails_shows (r := 2) (by decide)
    exact ⟨_, hexec.trans (s.flashFails_frame 2).run_eq, hresult, hraised, s.flashFails_frame 2⟩
  · rw [if_neg (by rwa [hisSome])] at hexec
    simp only [if_neg hbusy]
    by_cases haddr : s.get Reg.PRF.FL_ADDR.ADDR % flashSpan op ≠ 0 ∨ s.flashSize ≤ s.get Reg.PRF.FL_ADDR.ADDR
    · rw [if_pos haddr, State.flashEnd_fails (by decide)] at hexec
      simp only [if_pos haddr]
      obtain ⟨hresult, hraised⟩ := s.flashFails_shows (r := 3) (by decide)
      exact ⟨_, hexec.trans (s.flashFails_frame 3).run_eq, hresult, hraised, s.flashFails_frame 3⟩
    · rw [if_neg haddr] at hexec
      simp only [if_neg haddr]
      have hput : OnlyFields [Reg.PRF.FL_STAT.ACTIVE] { s with power := { s.power with flOp := some (op, s.get Reg.PRF.FL_ADDR.ADDR) } }
          (State.put { s with power := { s.power with flOp := some (op, s.get Reg.PRF.FL_ADDR.ADDR) } } Reg.PRF.FL_STAT.ACTIVE 1) :=
        OnlyFields.put _ 1 (by simp) (by decide)
      have hactive : (State.put { s with power := { s.power with flOp := some (op, s.get Reg.PRF.FL_ADDR.ADDR) } }
          Reg.PRF.FL_STAT.ACTIVE 1).get Reg.PRF.FL_STAT.ACTIVE = 1 := State.get_put_of_lt _ (by decide) (by decide)
      exact ⟨_, hexec, hactive, rfl, (FieldsKept.of_regs rfl).trans hput.2⟩

/-! ### READ -/

/-- FL_BUF. -/
def flBufFields : List FieldRef := (List.range 64).map fun k => Reg.PRF.FL_BUF.DATA k

/-- A dword of the flash. -/
def State.flashWord (s : State) (a : Nat) : Nat :=
  leNat [s.flashByte a, s.flashByte (a + 1), s.flashByte (a + 2), s.flashByte (a + 3)]

theorem leNat_lt (l : List Byte) : leNat l < 256 ^ l.length := by
  induction l with
  | nil => decide
  | cons b l ih =>
    have hb := b.isLt
    rw [leNat, List.length_cons, Nat.pow_succ]
    omega

theorem State.flashWord_lt (s : State) (a : Nat) : s.flashWord a < 2 ^ 32 := by
  have h := leNat_lt [s.flashByte a, s.flashByte (a + 1), s.flashByte (a + 2), s.flashByte (a + 3)]
  simpa [State.flashWord] using h

/-- READ fills one dword of FL_BUF. -/
def State.flashLoadWord (a : Nat) (s : State) (w : Nat) : State := s.put (Reg.PRF.FL_BUF.DATA w) (s.flashWord (a + 4 * w))

theorem State.flashLoadWord_frame (a : Nat) (s : State) (w : Nat) :
    OnlyFields [Reg.PRF.FL_BUF.DATA w] s (s.flashLoadWord a w) := OnlyFields.put s _ (by simp) (by simp [FieldRef.ok])

theorem State.flashLoadWord_same (a : Nat) (s : State) (w : Nat) : (s.flashLoadWord a w).flBuf w = s.flashWord (a + 4 * w) :=
  State.get_put_of_lt _ (by simp [FieldRef.ok]) (by simpa [FieldRef.top] using s.flashWord_lt (a + 4 * w))

theorem State.flashLoadWord_apart (a : Nat) (s : State) {w k : Nat} (h : k ≠ w) : (s.flashLoadWord a w).flBuf k = s.flBuf k :=
  State.get_put_apart _ _ (by simp [FieldRef.ok]) (.inl (by simp; omega))

theorem State.flashLoadWord_flash (a : Nat) (s : State) (w b : Nat) : (s.flashLoadWord a w).flashWord b = s.flashWord b := rfl

/-- Dwords of FL_BUF filled in turn. -/
theorem State.forEach_flashLoadWord (a : Nat) (l : List Nat) (s : State) :
    OnlyFields (l.map fun k => Reg.PRF.FL_BUF.DATA k) s (s.forEach l (State.flashLoadWord a)) ∧
    ∀ k, k ∈ l ∨ s.flBuf k = s.flashWord (a + 4 * k) →
      (s.forEach l (State.flashLoadWord a)).flBuf k = s.flashWord (a + 4 * k) := by
  induction l generalizing s with
  | nil => exact ⟨OnlyFields.refl _ s, fun k hk => hk.resolve_left (by simp)⟩
  | cons w l ih =>
    obtain ⟨hframe, hbuf⟩ := ih (s.flashLoadWord a w)
    simp only [State.flashLoadWord_flash] at hbuf
    rw [State.forEach_cons]
    refine ⟨((s.flashLoadWord_frame a w).mono (by simp)).trans (hframe.mono fun _ hf => List.mem_cons_of_mem _ hf),
      fun k hk => hbuf k ?_⟩
    by_cases hkw : k = w
    · subst hkw
      exact .inr (s.flashLoadWord_same a k)
    · rcases hk with hk | hk
      · exact .inl ((List.mem_cons.1 hk).resolve_left hkw)
      · exact .inr ((s.flashLoadWord_apart a hkw).trans hk)

theorem State.flashLoad_shows (s : State) (a : Nat) : OnlyFields flBufFields s (s.flashLoad a) ∧
    ∀ k, k < 64 → (s.flashLoad a).flBuf k = s.flashWord (a + 4 * k) := by
  obtain ⟨hframe, hbuf⟩ := State.forEach_flashLoadWord a (List.range 64) s
  exact ⟨hframe, fun k hk => hbuf k (.inl (List.mem_range.2 hk))⟩

/-! ### PROGRAM and erase -/

/-- Nothing but the flash. -/
def OnlyFlash (s t : State) : Prop := t = { s with flash := t.flash }

/-- A byte as PROGRAM leaves it. -/
def State.programmed (s : State) (a x : Nat) : Byte :=
  s.flashByte x &&& BitVec.ofNat 8 (s.flBuf ((x - a) / 4) / 256 ^ ((x - a) % 4))

theorem State.setFlash_byte (s : State) (a : Nat) (v : Byte) (x : Nat) :
    (s.setFlash a v).flashByte x = if x = a then v else s.flashByte x := Sparse.get_set _ _ _ _ _

theorem State.forEach_program (a : Nat) (s : State) (n : Nat) :
    OnlyFlash s (s.forEach (List.range n) fun u i =>
      u.setFlash (a + i) (u.flashByte (a + i) &&& BitVec.ofNat 8 (u.flBuf (i / 4) / 256 ^ (i % 4)))) ∧
    ∀ x, (s.forEach (List.range n) fun u i =>
      u.setFlash (a + i) (u.flashByte (a + i) &&& BitVec.ofNat 8 (u.flBuf (i / 4) / 256 ^ (i % 4)))).flashByte x =
        if a ≤ x ∧ x < a + n then s.programmed a x else s.flashByte x := by
  induction n with
  | zero => exact ⟨rfl, fun x => (if_neg (by omega)).symm⟩
  | succ n ih =>
    obtain ⟨honly, hbyte⟩ := ih
    simp only [State.forEach, List.range_succ, List.foldl_append, List.foldl_cons, List.foldl_nil] at honly hbyte ⊢
    generalize (List.range n).foldl (fun u i => u.setFlash (a + i)
      (u.flashByte (a + i) &&& BitVec.ofNat 8 (u.flBuf (i / 4) / 256 ^ (i % 4)))) s = u at *
    have hbuf : ∀ k, u.flBuf k = s.flBuf k := fun k => by
      rw [State.flBuf, State.flBuf, State.get, State.get, State.reg, State.reg, honly]
    refine ⟨?_, fun x => ?_⟩
    · unfold OnlyFlash at *
      rw [State.setFlash, honly]
    · rw [State.setFlash_byte, hbuf, hbyte, hbyte]
      by_cases hx : x = a + n
      · subst hx
        rw [if_pos rfl, if_neg (by omega), if_pos (by omega), State.programmed, Nat.add_sub_cancel_left]
      · rw [if_neg hx]
        by_cases hin : a ≤ x ∧ x < a + n
        · rw [if_pos hin, if_pos (by omega)]
        · rw [if_neg hin, if_neg (by omega)]

theorem State.flashErase_byte (s : State) (a n x : Nat) :
    (s.flashErase a n).flashByte x = if a ≤ x ∧ x < a + n then 0xFF else s.flashByte x := by
  have hfind := Sparse.find_filter (fun k => !decide (a ≤ k ∧ k < a + n)) s.flash x
  rw [State.flashByte, State.flashByte, Sparse.get, Sparse.get]
  have hfl : (s.flashErase a n).flash.find x = if (!decide (a ≤ x ∧ x < a + n)) = true then s.flash.find x else none := hfind
  rw [hfl]
  by_cases hin : a ≤ x ∧ x < a + n
  · rw [if_pos hin, if_neg (by simp [hin])]
  · rw [if_neg hin, if_pos (by rwa [Bool.not_eq_true', decide_eq_false_iff_not])]

/-! ### The end of an operation -/

/-- What an operation does before its end is shown. -/
def State.flashWork (s : State) (op a : Nat) : State :=
  if op = 1 then s.flashLoad a else if op = 2 then s.flashProgram a else s.flashErase a (flashSpan op)

/-- The end of an operation in time. -/
def State.flashEnds (s : State) : State :=
  ((State.put { s with power := { s.power with flOp := none } } Reg.PRF.FL_STAT.ACTIVE 0).put Reg.PRF.FL_STAT.RESULT 1).raise
    (page .prf 0) 4

theorem State.flashDone_inTime {s : State} {op a : Nat} (h : s.power.flOp = some (op, a)) :
    s.flashDone false = (s.flashWork op a).flashEnds := by
  simp only [State.flashDone, h, Bool.false_and, Bool.false_eq_true, if_false]
  rfl

/-- What the end of an operation writes. -/
def flashEndFields : List FieldRef := [Reg.PRF.FL_STAT.ACTIVE, Reg.PRF.FL_STAT.RESULT, rawBit (page .prf 0) 4]

theorem State.flashEnds_frame (s : State) :
    OnlyFields flashEndFields { s with power := { s.power with flOp := none } } s.flashEnds :=
  ((OnlyFields.put _ 0 (by decide) (by decide)).then_put 1 (by decide) (by decide)).then_raise _ _ (by decide)

theorem State.flashEnds_shows (s : State) : s.flashEnds.get Reg.PRF.FL_STAT.ACTIVE = 0 ∧
    s.flashEnds.get Reg.PRF.FL_STAT.RESULT = 1 ∧ s.flashEnds.isRaised (page .prf 0) 4 := by
  refine ⟨?_, ?_, State.isRaised_raise _ _ (by decide)⟩
  · rw [State.flashEnds, State.get_raise_apart _ (by decide) (by decide), State.get_put_apart _ _ (by decide) (by decide),
      State.get_put_of_lt _ (by decide) (by decide)]
  · rw [State.flashEnds, State.get_raise_apart _ (by decide) (by decide), State.get_put_of_lt _ (by decide) (by decide)]

/-- The registers that an operation writes before its end is shown: FL_BUF, of READ. -/
def flashWorkFields (op : Nat) : List FieldRef := if op = 1 then flBufFields else []

/-- What an operation leaves: registers and flash only, and of them what it names (log entries 8 and 51). -/
theorem State.flashWork_shows {s : State} {op : Nat} (a : Nat) (hlow : 1 ≤ op) :
    s.flashWork op a = { s with regs := (s.flashWork op a).regs, flash := (s.flashWork op a).flash } ∧
    FieldsKept (flashWorkFields op) s (s.flashWork op a) ∧
    (op = 1 → (s.flashWork op a).flash = s.flash ∧ ∀ k, k < 64 → (s.flashWork op a).flBuf k = s.flashWord (a + 4 * k)) ∧
    (op = 2 → ∀ x, (s.flashWork op a).flashByte x = if a ≤ x ∧ x < a + 256 then s.programmed a x else s.flashByte x) ∧
    (3 ≤ op → ∀ x, (s.flashWork op a).flashByte x = if a ≤ x ∧ x < a + flashSpan op then 0xFF else s.flashByte x) := by
  have hcase : op = 1 ∨ op = 2 ∨ 3 ≤ op := by omega
  rcases hcase with rfl | rfl | hop
  · obtain ⟨⟨hregs, hkept⟩, hbuf⟩ := s.flashLoad_shows a
    have heq : s.flashWork 1 a = s.flashLoad a := if_pos rfl
    rw [heq]
    have hflash : (s.flashLoad a).flash = s.flash := by rw [hregs]
    exact ⟨by rw [hflash]; exact hregs, hkept, fun _ => ⟨hflash, hbuf⟩, fun h => absurd h (by decide), fun h => absurd h (by decide)⟩
  · obtain ⟨honly, hbyte⟩ := State.forEach_program a s 256
    have heq : s.flashWork 2 a = s.flashProgram a := rfl
    rw [heq]
    have hregs : (s.flashProgram a).regs = s.regs := by rw [State.flashProgram, honly]
    exact ⟨by rw [hregs]; exact honly, FieldsKept.of_regs hregs, fun h => absurd h (by decide), fun _ => hbyte,
      fun h => absurd h (by decide)⟩
  · have heq : s.flashWork op a = s.flashErase a (flashSpan op) := by
      rw [State.flashWork, if_neg (by omega), if_neg (by omega)]
    rw [heq]
    exact ⟨rfl, FieldsKept.of_regs rfl, fun h => absurd h (by omega), fun h => absurd h (by omega),
      fun _ => s.flashErase_byte a (flashSpan op)⟩

theorem flashDone_outcome {s : State} {op a : Nat} (hop : s.power.flOp = some (op, a)) (hlow : 1 ≤ op) :
    ∃ t, exec (.flashDone false) s = .next t ∧ t.get Reg.PRF.FL_STAT.ACTIVE = 0 ∧ t.get Reg.PRF.FL_STAT.RESULT = 1 ∧
      t.isRaised (page .prf 0) 4 ∧ t.power = { s.power with flOp := none } ∧
      t = { s with regs := t.regs, power := t.power, flash := t.flash } ∧
      (op = 1 → t.flash = s.flash ∧ ∀ k, k < 64 → t.flBuf k = s.flashWord (a + 4 * k)) ∧
      FieldsKept (flashEndFields ++ flashWorkFields op) s t ∧
      (op = 2 → ∀ x, t.flashByte x = if a ≤ x ∧ x < a + 256 then s.programmed a x else s.flashByte x) ∧
      (3 ≤ op → ∀ x, t.flashByte x = if a ≤ x ∧ x < a + flashSpan op then 0xFF else s.flashByte x) := by
  obtain ⟨honly, hkept, hread, hprogram, herase⟩ := s.flashWork_shows a hlow
  have hexec : exec (.flashDone false) s = run s (s.flashDone false) := rfl
  rw [State.flashDone_inTime hop] at hexec
  generalize s.flashWork op a = u at *
  obtain ⟨hends, hkeptEnds⟩ := u.flashEnds_frame
  obtain ⟨hactive, hresult, hraised⟩ := u.flashEnds_shows
  generalize u.flashEnds = t at *
  have hpower : t.power = { s.power with flOp := none } := by rw [hends, honly]
  have hflash : t.flash = u.flash := by rw [hends]
  have hbyte : ∀ x, t.flashByte x = u.flashByte x := fun x => by rw [State.flashByte, State.flashByte, hflash]
  have hregs : t = { s with regs := t.regs, power := t.power, flash := t.flash } := by rw [hpower, hflash, hends, honly]
  have hkeep : FieldsKept flashEndFields u t := (FieldsKept.of_regs rfl).trans hkeptEnds
  refine ⟨t, ?_, hactive, hresult, hraised, hpower, hregs, fun h => ?_, ?_, fun h x => ?_, fun h x => ?_⟩
  · rw [hexec, run, hregs]
  · have hbuf : ∀ k, t.flBuf k = u.flBuf k := fun k =>
      hkeep.get (by simp [FieldRef.ok]) (by simp [flashEndFields, FieldRef.apart, rawBit, page]; omega)
    exact ⟨hflash.trans (hread h).1, fun k hk => (hbuf k).trans ((hread h).2 k hk)⟩
  · exact (hkept.mono fun _ hf => List.mem_append_right _ hf).trans (hkeep.mono fun _ hf => List.mem_append_left _ hf)
  · rw [hbyte, hprogram h x]
  · rw [hbyte, herase h x]

/-! ### Fuses (R363) -/

theorem exec_burnKey {d : DoorNo} {s : State} (hacc : s.accepts d .prf 0 0xB0) : exec (.burnKey d) s = run s (s.burn true false) :=
  congrArg (run s) (State.busWrite_direct hacc (by decide) (by decide) 1)

theorem exec_burnSigreq {d : DoorNo} {s : State} (hacc : s.accepts d .prf 0 0xB0) :
    exec (.burnSigreq d) s = run s (s.burn false true) :=
  congrArg (run s) (State.busWrite_direct hacc (by decide) (by decide) 2)

theorem State.burn_elsewhere {s : State} (h : s.devState ≠ 6) (key sig : Bool) : s.burn key sig = s := if_pos h

theorem State.burn_sigReq {s : State} (h : s.devState = 6) : s.burn false true = { s with power := { s.power with sigReq := true } } := by
  rw [State.burn, if_neg (by simp [h])]
  simp

theorem State.burn_key {s : State} (h : s.devState = 6) : s.burn true false =
    if s.power.keyBurnt = true then s
    else { s with power := { s.power with keyBurnt := true, keyHash :=
      [s.reg 0x3090, s.reg 0x3094, s.reg 0x3098, s.reg 0x309C, s.reg 0x30A0, s.reg 0x30A4, s.reg 0x30A8, s.reg 0x30AC] } } := by
  rw [State.burn, if_neg (by simp [h])]
  dsimp only
  by_cases hburnt : s.power.keyBurnt = true
  · rw [if_pos hburnt, if_neg (by simp [hburnt]), Bool.or_false]
  · rw [if_neg hburnt, if_pos (by simp [hburnt]), Bool.or_false]
    rfl

/-- Settles O56. That a command meets BUSY before BAD_ADDR is the model's choice (log entry 78), as are bits that PROGRAM only
clears (log entry 51), the 0xFF of erased bytes (log entry 8) and an end without an operation (log entry 2). -/
theorem flashAndFuses : Obligations.FlashAndFuses := by
  unfold Obligations.FlashAndFuses
  refine ⟨fun i d op s hacc hi => flashCommand_outcome (exec_flashCommand hacc hi), fun op a s hop hlow _ => flashDone_outcome hop hlow,
    fun timedOut s hnone => ?_, fun i d s hacc hi => ⟨fun hdev => ?_, fun hdev hsig => ?_, fun hdev hkey hburnt => ?_,
      fun hdev hkey hburnt => ?_⟩⟩
  · have hexec : exec (.flashDone timedOut) s = run s (s.flashDone timedOut) := rfl
    rw [hexec, State.flashDone, hnone]
    rfl
  · rcases hi with rfl | rfl
    · rw [exec_burnKey hacc, State.burn_elsewhere hdev]
      rfl
    · rw [exec_burnSigreq hacc, State.burn_elsewhere hdev]
      rfl
  · subst hsig
    rw [exec_burnSigreq hacc, State.burn_sigReq hdev]
    rfl
  · subst hkey
    rw [exec_burnKey hacc, State.burn_key hdev, if_pos hburnt]
    rfl
  · subst hkey
    rw [exec_burnKey hacc, State.burn_key hdev, if_neg (by simp [hburnt])]
    rfl

end Sys2Proof.Machine
end

section
/-! PROOFS. What a domain without supply or in reset keeps (chapter 14: R66, R321, R348 to R350). -/

namespace Sys2Proof.Machine

/-! ### Entries of a sparse table -/

theorem Sparse.mem_mapTo {α : Type} [DecidableEq α] (dflt : Nat → α) (f : Nat → α → α) (m : Sparse α) (k : Nat) (v : α) :
    (k, v) ∈ m.mapTo dflt f ↔ ∃ w, (k, w) ∈ m ∧ v = f k w ∧ v ≠ dflt k := by
  rw [Sparse.mapTo, List.mem_filterMap]
  constructor
  · rintro ⟨⟨j, w⟩, hmem, heq⟩
    dsimp only at heq
    split at heq
    · cases heq
    next hne =>
      cases heq
      exact ⟨w, hmem, rfl, hne⟩
  · rintro ⟨w, hmem, rfl, hne⟩
    exact ⟨(k, w), hmem, if_neg hne⟩

theorem Sparse.mem_erase_other {α : Type} (m : Sparse α) {k j : Nat} (h : j ≠ k) (v : α) : (j, v) ∈ m.erase k ↔ (j, v) ∈ m := by
  induction m with
  | nil => rfl
  | cons e m ih =>
    obtain ⟨i, w⟩ := e
    by_cases hi : i = k
    · have hne : (j, v) ≠ (i, w) := fun he => h ((congrArg Prod.fst he).trans hi)
      rw [Sparse.erase, if_pos hi, ih, List.mem_cons, or_iff_right hne]
    · rw [Sparse.erase, if_neg hi, List.mem_cons, List.mem_cons, ih]

theorem Sparse.mem_place_other {α : Type} (m : Sparse α) {k j : Nat} (x : α) (h : j ≠ k) (v : α) :
    (j, v) ∈ m.place k x ↔ (j, v) ∈ m := by
  have hne : (j, v) ≠ (k, x) := fun he => h (congrArg Prod.fst he)
  induction m with
  | nil => simp [Sparse.place, h]
  | cons e m ih =>
    obtain ⟨i, w⟩ := e
    by_cases hi : i < k
    · rw [Sparse.place, if_pos hi, List.mem_cons, List.mem_cons]
      exact or_congr_right ih
    · rw [Sparse.place, if_neg hi, List.mem_cons, or_iff_right hne]

theorem Sparse.mem_set_other {α : Type} [DecidableEq α] (dflt : Nat → α) (m : Sparse α) {k j : Nat} (x : α) (h : j ≠ k) (v : α) :
    (j, v) ∈ m.set dflt k x ↔ (j, v) ∈ m := by
  unfold Sparse.set
  split
  · exact Sparse.mem_erase_other m h v
  · rw [Sparse.insert, Sparse.mem_place_other _ x h, Sparse.mem_erase_other m h]

theorem State.put_mem_regs (s : State) (f : FieldRef) (n : Nat) {a : Nat} (h : a ≠ f.addr) (v : Word) :
    (a, v) ∈ (s.put f n).regs ↔ (a, v) ∈ s.regs := Sparse.mem_set_other _ _ _ h v

/-! ### The main domain at its reset values (R349) -/

/-- Nothing but the flash and the source of free values. -/
def FlashCutFrame (s t : State) : Prop := t = { s with flash := t.flash, freeCtr := t.freeCtr }

theorem FlashCutFrame.forEach {α : Type} {f : State → α → State} (hf : ∀ s x, FlashCutFrame s (f s x)) (l : List α) (s : State) :
    FlashCutFrame s (s.forEach l f) := by
  induction l generalizing s with
  | nil => rfl
  | cons x l ih =>
    have hhead := hf s x
    have htail := ih (f s x)
    unfold FlashCutFrame at *
    rw [State.forEach_cons, htail, hhead]

theorem State.flashCut_frame (s : State) : FlashCutFrame s s.flashCut := by
  unfold State.flashCut
  split
  · split
    · rfl
    · have hbyte : ∀ (u : State) (x : Nat), FlashCutFrame u (u.drawByte.2.setFlash x u.drawByte.1) := fun _ _ => rfl
      exact FlashCutFrame.forEach (fun u i => hbyte u _) _ s
  · rfl

theorem State.flashCut_idle {s : State} (h : s.power.flOp = none) : s.flashCut = s := by
  simp only [State.flashCut, h]

/-- The main domain in RESET, before SLOW_STAT follows the selection again. -/
def State.emptied (s : State) : State :=
  { State.reset with
    tick := s.tick
    pending := s.pending
    clk := { Clk.reset with slowOk := s.clk.slowOk, vcoreOk := s.clk.vcoreOk }
    edges := s.edges
    carts := s.carts
    store := { s.store with seen := s.carts.length, stage := [], held := [], lossCnt := [] }
    doors := s.doors.mapTo (fun _ => Door.reset) (fun _ d => d.keep false)
    power := s.power.blank
    flash := s.flash
    freeCtr := s.freeCtr }

theorem State.blank_eq (s : State) : s.blank = s.flashCut.emptied.slowFollow := rfl

/-- What SLOW_STAT shows after it has followed the selection. -/
theorem State.slowFollow_shows {s : State} {d : Nat} (h : s.slowFollow.slowDoor = some d) :
    s.slowFollow.bit Reg.PWR.SLOW_STAT.VALID = s.slowFollow.slowRuns d ∧ s.slowFollow.get Reg.PWR.SLOW_STAT.DOOR = d := by
  have hframe := s.slowFollow_frame
  have hclk : s.slowFollow.clk = s.clk := by rw [hframe.1]
  have hsel : s.slowFollow.get Reg.PWR.SLOW_CFG.SEL = s.get Reg.PWR.SLOW_CFG.SEL := hframe.get (by decide) (by decide)
  have hprioField : s.slowFollow.get Reg.CLK.REF_CFG.PRIO = s.get Reg.CLK.REF_CFG.PRIO := hframe.get (by decide) (by decide)
  have hruns : ∀ e, s.slowFollow.slowRuns e = s.slowRuns e := fun e => by rw [State.slowRuns, State.slowRuns, hclk]
  have hdoor : s.slowFollow.slowDoor = s.slowDoor := by
    simp only [State.slowDoor, State.prio, hsel, hprioField, hruns]
  rw [hdoor] at h
  have hlt : d < 4 := by
    by_cases hk : s.get Reg.PWR.SLOW_CFG.SEL < 4
    · rw [State.slowDoor_fixed hk] at h
      cases h
      exact hk
    · rw [State.slowDoor_auto (by omega)] at h
      exact State.lt_of_mem_prio (List.mem_of_find?_eq_some h)
  obtain ⟨hshown, hvalid⟩ := State.slowFollow_some h hlt
  refine ⟨?_, hshown⟩
  rw [hruns, State.bit, hvalid]
  cases s.slowRuns d <;> rfl

theorem State.blank_blanked (s : State) : Blanked [] s s.blank := by
  have hcut := s.flashCut_frame
  have hframe := s.flashCut.emptied.slowFollow_frame
  have hdoors : s.blank.doors = s.flashCut.emptied.doors := by rw [s.blank_eq, hframe.1]
  have hpower : s.blank.power = s.power.blank := by
    have heq : s.blank.power = s.flashCut.power.blank := by rw [s.blank_eq, hframe.1]; rfl
    rw [heq, hcut]
  refine ⟨?_, ?_, fun d hd => ?_, fun hidle => ?_, fun d v hmem => ?_, ?_⟩
  · have heq : s.blank = { s.flashCut.emptied with regs := s.blank.regs } := hframe.1
    rw [heq, State.emptied, hcut]
  · exact hframe.2
  · exact State.slowFollow_shows hd
  · have hflash : s.blank.flash = s.flashCut.flash := by rw [s.blank_eq, hframe.1]; rfl
    have hfree : s.blank.freeCtr = s.flashCut.freeCtr := by rw [s.blank_eq, hframe.1]; rfl
    rw [hflash, hfree, State.flashCut_idle hidle]
    exact ⟨rfl, rfl⟩
  · rw [hdoors] at hmem
    have hmapped : (d, v) ∈ s.flashCut.doors.mapTo (fun _ => Door.reset) (fun _ w => w.keep false) := hmem
    obtain ⟨w, hw, heq, -⟩ := (Sparse.mem_mapTo _ _ _ _ _).1 hmapped
    have hsame : s.flashCut.doors = s.doors := by rw [hcut]
    exact ⟨w, hsame ▸ hw, heq⟩
  · rw [hpower]
    rfl

theorem State.devState_of_noRegs {s : State} (h : s.regs = []) : s.devState = 2 := by
  have hreset : State.reset.devState = 2 := by decide
  rw [← hreset, State.devState, State.devState, State.get, State.get, State.reg, State.reg, h]
  rfl

theorem Blanked.devState {s t : State} (h : Blanked [] s t) : t.devState = 2 :=
  (h.2.1.get (g := Reg.GLB.DEV_STATE.STATE) (by decide) (by decide)).trans (State.devState_of_noRegs rfl)

theorem Blanked.tick_eq {fs : List FieldRef} {s t : State} (h : Blanked fs s t) : t.tick = s.tick := by rw [h.1]

theorem Blanked.run_eq {fs : List FieldRef} {s t : State} (h : Blanked fs s t) : run s t = .next t := by
  obtain ⟨hstate, -⟩ := h
  exact Sys2Proof.Machine.run_eq (by rw [hstate]) (by rw [hstate])

/-- What of the power state RESET does not keep is no part of where it came from. -/
def SameRoots (s u : State) : Prop :=
  u.tick = s.tick ∧ u.pending = s.pending ∧ u.clk = s.clk ∧ u.edges = s.edges ∧ u.carts = s.carts ∧ u.store = s.store ∧
    u.doors = s.doors ∧ u.flash = s.flash ∧ u.freeCtr = s.freeCtr ∧
    u.power = { s.power with aonOn := u.power.aonOn, mainOn := u.power.mainOn, rstN := u.power.rstN, image := u.power.image,
                             waking := u.power.waking }

theorem Blanked.of_roots {fs : List FieldRef} {s u t : State} (hroots : SameRoots s u) (h : Blanked fs u t) : Blanked fs s t := by
  obtain ⟨htick, hpending, hclk, hedges, hcarts, hstore, hdoors, hflash, hfree, hpower⟩ := hroots
  have hop : u.power.flOp = s.power.flOp := by rw [hpower]
  have hpart : u.power.is1024 = s.power.is1024 ∧ u.power.ddrOk = s.power.ddrOk ∧ u.power.keyHash = s.power.keyHash ∧
      u.power.keyBurnt = s.power.keyBurnt ∧ u.power.sigReq = s.power.sigReq := by rw [hpower]; exact ⟨rfl, rfl, rfl, rfl, rfl⟩
  obtain ⟨h1024, hddr, hhash, hburnt, hsig⟩ := hpart
  unfold Blanked at h ⊢
  rwa [htick, hpending, hclk, hedges, hcarts, hstore, hdoors, hflash, hfree, hop, h1024, hddr, hhash, hburnt, hsig] at h

/-- The main supply's own bit is no part of what is lost. -/
theorem Blanked.mainOff {fs : List FieldRef} {s t : State} (h : Blanked fs s t) :
    Blanked fs s { t with power := { t.power with mainOn := false } } := by
  obtain ⟨hstate, hkept, hslow, hflash, hdoors, hpower⟩ := h
  refine ⟨?_, hkept, hslow, hflash, hdoors, ?_⟩
  · rw [hstate]
  · rw [hpower]

/-- GLB DEV_STATE shown while the registers around it are lost. -/
theorem Blanked.shows {s t : State} (h : Blanked [] s t) (v : Nat) : Blanked [Reg.GLB.DEV_STATE.STATE] s (t.showState v) := by
  obtain ⟨hstate, hkept, hslow, hflash, hdoors, hpower⟩ := h
  have hput : OnlyFields [Reg.GLB.DEV_STATE.STATE] t (t.showState v) := OnlyFields.put t v (by simp) (by decide)
  have hget : ∀ f : FieldRef, f.ok → Reg.GLB.DEV_STATE.STATE.apart f → (t.showState v).get f = t.get f :=
    fun f _ ha => State.get_put_apart _ _ (by decide) ha
  refine ⟨?_, ?_, fun d hd => ?_, fun hidle => ?_, fun d w hmem => hdoors d w hmem, hpower⟩
  · rw [hput.1, hstate]
  · exact (hkept.mono fun _ hf => List.mem_append_left _ hf).trans (hput.2.mono fun _ hf => List.mem_append_right _ hf)
  · have hdoor : t.slowDoor = some d := by
      rw [← hd]
      simp only [State.slowDoor, State.prio, hget Reg.PWR.SLOW_CFG.SEL (by decide) (by decide),
        hget Reg.CLK.REF_CFG.PRIO (by decide) (by decide)]
      rfl
    obtain ⟨hvalid, hshown⟩ := hslow d hdoor
    refine ⟨?_, (hget _ (by decide) (by decide)).trans hshown⟩
    rw [State.bit, hget _ (by decide) (by decide)]
    exact hvalid
  · exact hflash hidle

/-! ### What the always-on domain retains (R66, R321) -/

/-- The main domain lost, before SLOW_STAT follows the selection. -/
def State.retained (s : State) : State :=
  { s.blank with
    regs := s.retainedRegs
    clk := { Clk.reset with slowOk := s.clk.slowOk, vcoreOk := s.clk.vcoreOk, htOfs := s.clk.htOfs, makeup := s.clk.makeup }
    irq := ⟨s.irq.srcs, s.irq.grps, [], []⟩
    doors := s.doors.mapTo (fun _ => Door.reset) (fun _ d => d.keep true)
    power := { s.power.blank with image := s.power.image, waking := s.power.waking, lastWork := s.power.lastWork,
                                  makeupDue := s.power.makeupDue, irqDue := s.power.irqDue } }

theorem State.retain_eq (s : State) : s.retain = s.retained.slowFollow := rfl

/-- What is left of a state whose main domain is lost: the tick, host time's offset, the interrupt sources and the registers
that are retained. -/
structure Retained (s t : State) : Prop where
  tick : t.tick = s.tick
  pending : t.pending = s.pending
  slots : t.slots = []
  running : t.clk.running = false
  htOfs : t.clk.htOfs = s.clk.htOfs
  srcs : t.irq.srcs = s.irq.srcs
  grps : t.irq.grps = s.irq.grps
  regs : ∀ a v, a ≠ Reg.GLB.DEV_STATE.STATE.addr → a ≠ Reg.PWR.SLOW_STAT.VALID.addr →
    ((a, v) ∈ t.regs ↔ ∃ w, (a, w) ∈ s.regs ∧ v = retainedReg a w ∧ v ≠ regReset a)

theorem State.retained_retained (s : State) : Retained s s.retained := by
  have hblank := s.blank_blanked.1
  exact {
    tick := s.blank_blanked.tick_eq
    pending := by
      show s.blank.pending = _
      rw [hblank]
    slots := by
      show s.blank.slots = _
      rw [hblank]
      rfl
    running := rfl
    htOfs := rfl
    srcs := rfl
    grps := rfl
    regs := fun a v _ _ => Sparse.mem_mapTo _ _ _ _ _ }

/-- A write of DEV_STATE or SLOW_STAT leaves what is retained. -/
theorem Retained.put {s t : State} (h : Retained s t) (f : FieldRef) (v : Nat)
    (hf : f.addr = Reg.GLB.DEV_STATE.STATE.addr ∨ f.addr = Reg.PWR.SLOW_STAT.VALID.addr) : Retained s (t.put f v) :=
  { h with
    regs := fun a w hdev hslow => by
      have hne : a ≠ f.addr := by
        rcases hf with hf | hf
        · exact hf ▸ hdev
        · exact hf ▸ hslow
      rw [State.put_mem_regs t f v hne]
      exact h.regs a w hdev hslow }

theorem Retained.slowFollow {s t : State} (h : Retained s t) : Retained s t.slowFollow := by
  unfold State.slowFollow
  split
  · rw [State.putBit_eq]
    exact (h.put _ _ (.inr rfl)).put _ _ (.inr rfl)
  · exact h.put _ _ (.inr rfl)

theorem State.retain_retained (s : State) : Retained s s.retain := s.retained_retained.slowFollow

theorem State.retain_power (s : State) : s.retain.power =
    { s.power.blank with image := s.power.image, waking := s.power.waking, lastWork := s.power.lastWork,
                         makeupDue := s.power.makeupDue, irqDue := s.power.irqDue } := by
  rw [s.retain_eq, s.retained.slowFollow_frame.1]
  rfl

theorem State.showState_devState (s : State) {v : Nat} (h : v < 16) : (s.showState v).devState = v :=
  State.get_put_of_lt _ (by decide) (by simpa using h)

/-! ### Supplies -/

theorem aonPowerUp_outcome {s : State} (h : s.power.aonOn = false) :
    ∃ t, exec .aonPowerUp s = .next t ∧ t.devState = 1 ∧
      t = { s with regs := t.regs, power := { s.power with aonOn := true, image := false, waking := false } } ∧
      FieldsKept [Reg.GLB.DEV_STATE.STATE] s t := by
  have heq : exec .aonPowerUp s = run s (s.when (!s.power.aonOn) fun u =>
      State.showState { u with power := { u.power with aonOn := true, image := false, waking := false } } 1) := rfl
  have hput : OnlyFields [Reg.GLB.DEV_STATE.STATE]
      { s with power := { s.power with aonOn := true, image := false, waking := false } }
      (State.showState { s with power := { s.power with aonOn := true, image := false, waking := false } } 1) :=
    OnlyFields.put _ 1 (by simp) (by decide)
  rw [heq, h, Bool.not_false, State.when_true]
  exact ⟨_, rfl, State.showState_devState _ (by decide), rfl, (FieldsKept.of_regs rfl).trans hput.2⟩

theorem State.resetAwake_shows {s : State} : Retained s s.resetAwake ∧ s.resetAwake.devState = 2 ∧
    s.resetAwake.power = { s.retain.power with waking := true } := by
  obtain ⟨htick, hpending, hslots, hrunning, hofs, hsrcs, hgrps, hregs⟩ := s.retain_retained
  refine ⟨?_, State.showState_devState _ (by decide), rfl⟩
  have hdark : Retained s { s.retain with
      doors := s.retain.doors.mapTo (fun _ => Door.reset) (fun _ d => { d with wake := false })
      power := { s.retain.power with waking := true } } := ⟨htick, hpending, hslots, hrunning, hofs, hsrcs, hgrps, hregs⟩
  exact hdark.put _ 2 (.inl rfl)

theorem Retained.run_eq {s t : State} (h : Retained s t) : run s t = .next t := Sys2Proof.Machine.run_eq h.tick h.pending

theorem State.blank_power (s : State) : s.blank.power = s.power.blank := by
  have hcut := s.flashCut_frame
  rw [s.blank_eq, s.flashCut.emptied.slowFollow_frame.1, State.emptied, hcut]

theorem mainPowerUp_runs {s : State} (hoff : s.power.mainOn = false) (hon : s.power.aonOn = true) (hrst : s.power.rstN = false) :
    exec .mainPowerUp s = run s (if s.power.image then State.resetAwake { s with power := { s.power with mainOn := true } }
      else State.blank { s with power := { s.power with mainOn := true } }) := by
  have heq : exec .mainPowerUp s = execMainPowerUp s := rfl
  rw [heq, execMainPowerUp, if_neg (by simp [hoff]), if_neg (by simp [hon, hrst])]

theorem mainPowerLoss_runs {s : State} (hon : s.power.mainOn = true) (hdev : s.devState ≠ 1) (u : State)
    (hu : u = if 3 ≤ s.devState then { s.ringSafe with power := { s.ringSafe.power with image := false } } else s)
    (himage : u.power.image = false) :
    exec .mainPowerLoss s = run s { u.blank with power := { u.blank.power with mainOn := false } } := by
  have heq : exec .mainPowerLoss s = execMainPowerLoss s := rfl
  rw [heq, execMainPowerLoss]
  dsimp only
  rw [if_neg (by simp [hon]), if_neg hdev, ← hu, if_neg (by simp [himage])]

theorem aonPowerLoss_outcome {s : State} (hoff : s.power.mainOn = false) :
    ∃ t, exec .aonPowerLoss s = .next t ∧ t.devState = 0 ∧ t.power.aonOn = false ∧ t.power.image = false ∧
      Blanked [Reg.GLB.DEV_STATE.STATE] s t := by
  have heq : exec .aonPowerLoss s = execAonPowerLoss s := rfl
  rw [heq, execAonPowerLoss, if_neg (by simp [hoff])]
  have hblank := State.blank_blanked { s with power := { s.power with aonOn := false, image := false, waking := false } }
  have hpower := State.blank_power { s with power := { s.power with aonOn := false, image := false, waking := false } }
  have hroots : SameRoots s { s with power := { s.power with aonOn := false, image := false, waking := false } } :=
    ⟨rfl, rfl, rfl, rfl, rfl, rfl, rfl, rfl, rfl, rfl⟩
  have hshown := (hblank.of_roots hroots).shows 0
  dsimp only
  generalize State.blank { s with power := { s.power with aonOn := false, image := false, waking := false } } = u at *
  have hsame : (u.showState 0).power = u.power := rfl
  exact ⟨_, hshown.run_eq, u.showState_devState (by decide), by rw [hsame, hpower]; rfl, by rw [hsame, hpower]; rfl, hshown⟩

/-- Settles O48. DEV_STATE 2 after a loss of the main supply outside STANDBY is the model's choice (log entry 32), as is the
list of retained registers (log entry 75). -/
theorem suppliesComeAndGo : Obligations.SuppliesComeAndGo := by
  unfold Obligations.SuppliesComeAndGo
  refine ⟨fun s h => aonPowerUp_outcome h, fun s hoff => ⟨fun hbreach => ?_, fun hon hrst himage => ?_, fun hon hrst himage => ?_⟩,
    fun s hon => ⟨?_, fun hdev => ?_, fun hdev => ?_, fun hdev himage => ?_⟩, fun s hoff => aonPowerLoss_outcome hoff⟩
  · have heq : exec .mainPowerUp s = execMainPowerUp s := rfl
    rw [heq, execMainPowerUp, if_neg (by simp [hoff]), if_pos (by rcases hbreach with h | h <;> simp [h])]
  · rw [mainPowerUp_runs hoff hon hrst, himage, if_neg Bool.false_ne_true]
    have hblank := State.blank_blanked { s with power := { s.power with mainOn := true } }
    have hs : Blanked [] s (State.blank { s with power := { s.power with mainOn := true } }) :=
      hblank.of_roots ⟨rfl, rfl, rfl, rfl, rfl, rfl, rfl, rfl, rfl, rfl⟩
    exact ⟨_, hs.run_eq, hs.devState, by rw [State.blank_power]; rfl, hs⟩
  · rw [mainPowerUp_runs hoff hon hrst, himage, if_pos rfl]
    obtain ⟨hkept, hdev, hpower⟩ := State.resetAwake_shows (s := { s with power := { s.power with mainOn := true } })
    rw [State.retain_power] at hpower
    generalize State.resetAwake { s with power := { s.power with mainOn := true } } = u at *
    have hs : Retained s u := ⟨hkept.tick, hkept.pending, hkept.slots, hkept.running, hkept.htOfs, hkept.srcs, hkept.grps, hkept.regs⟩
    exact ⟨u, hs.run_eq, hdev, by rw [hpower]; rfl, by rw [hpower]; exact himage, by rw [hpower], hs.tick, hs.slots, hs.htOfs,
      hs.srcs, hs.grps, hs.regs⟩
  · have heq : exec .aonPowerLoss s = execAonPowerLoss s := rfl
    rw [heq, execAonPowerLoss, if_pos hon]
  · have heq : exec .mainPowerLoss s = execMainPowerLoss s := rfl
    rw [heq, execMainPowerLoss]
    dsimp only
    rw [if_neg (by simp [hon]), if_pos hdev]
    rfl
  · have hring := s.ringSafe_state
    rw [mainPowerLoss_runs hon (by omega) _ rfl (by rw [if_pos hdev]), if_pos hdev]
    have hroots : SameRoots { s with edges := s.ringSafe.edges }
        { s.ringSafe with power := { s.ringSafe.power with image := false } } := by
      generalize s.ringSafe = u at hring ⊢
      rw [hring]
      exact ⟨rfl, rfl, rfl, rfl, rfl, rfl, rfl, rfl, rfl, rfl⟩
    have hblank := ((State.blank_blanked _).of_roots hroots).mainOff
    have hdevState := (State.blank_blanked { s.ringSafe with power := { s.ringSafe.power with image := false } }).devState
    exact ⟨_, hblank.run_eq, hdevState, rfl, hblank⟩
  · rw [mainPowerLoss_runs hon (by omega) s (by rw [if_neg (by omega)]) himage]
    exact ⟨_, s.blank_blanked.mainOff.run_eq, s.blank_blanked.devState, rfl, s.blank_blanked.mainOff⟩

end Sys2Proof.Machine
end

section
/-! PROOFS. Reset, its release, and wake events (chapter 14: R349, R350, R371). -/

namespace Sys2Proof.Machine

/-! ### Into RESET -/

theorem State.assertReset_blank {s : State} (hrst : s.power.rstN = true) (hmain : s.power.mainOn = true)
    (hcold : ¬(s.devState = 1 ∧ s.power.image = true)) :
    s.assertReset = State.blank { s with power := { s.power with rstN := false } } := by
  rw [State.assertReset, if_neg (by simp [hrst])]
  dsimp only
  rw [if_neg (by simp [hmain]), if_neg hcold]

theorem reset_runs {i : Instr} {s : State} (hrst : s.power.rstN = true) (hmain : s.power.mainOn = true)
    (hi : i = .rstAssert ∧ ¬(s.devState = 1 ∧ s.power.image = true) ∨ i = .deviceResetCmd ∧ s.clockOn = true) :
    exec i s = run s (State.blank { s with power := { s.power with rstN := false } }) := by
  rcases hi with ⟨rfl, hcold⟩ | ⟨rfl, hon⟩
  · exact congrArg (run s) (State.assertReset_blank hrst hmain hcold)
  · have heq : exec .deviceResetCmd s = run s (s.when s.clockOn fun u => u.assertReset) := rfl
    have hlive : 3 ≤ s.devState := by simpa [State.clockOn] using hon
    rw [heq, hon, State.when_true, State.assertReset_blank hrst hmain (by omega)]

/-! ### Out of RESET (Table 14-1 row 5) -/

/-- References that begin to count (R39). -/
theorem State.forEach_setRef (l : List Nat) (hl : ∀ d ∈ l, d < 4) (s : State) :
    OnlyFields refFields s (s.forEach l fun u d => u.setRef d 1) ∧
    ∀ e : DoorNo, (s.forEach l fun u d => u.setRef d 1).refState e = if e.val ∈ l then 1 else s.refState e := by
  induction l generalizing s with
  | nil => exact ⟨OnlyFields.refl _ s, fun e => by simp⟩
  | cons d l ih =>
    obtain ⟨hframe, hstates⟩ := ih (fun x hx => hl x (List.mem_cons_of_mem _ hx)) (s.setRef d 1)
    rw [State.forEach_cons]
    refine ⟨(s.setRef_only d 1).trans hframe, fun e => ?_⟩
    rw [hstates, State.setRef_refState s e (hl d (by simp)) e.isLt (by decide)]
    by_cases hmem : e.val ∈ l
    · rw [if_pos hmem, if_pos (List.mem_cons_of_mem _ hmem)]
    · by_cases he : e.val = d
      · rw [if_neg hmem, if_pos he, if_pos (by simp [he])]
      · rw [if_neg hmem, if_neg he, if_neg (by simp [hmem, he])]

/-- RST_N high, PROFILE sampled, QUALIFY entered. -/
def State.sampled (s : State) (prof : Nat) : State :=
  (State.put { s with power := { s.power with rstN := true } } Reg.PRF.STAT.PIN_PROF prof).setDevState 3

/-- Enabled references count. -/
def State.qualifies (s : State) (prof : Nat) : State :=
  (s.sampled prof).forEach ([0, 1, 2, 3].filter fun d => (s.sampled prof).trefEn d) fun u d => u.setRef d 1

/-- A wake is shown. -/
def State.wokenShown (s : State) : State :=
  let u := s.put Reg.PRF.STAT.WAKE 1
  if u.bit Reg.PWR.SLOW_STAT.SLOW_LOST then (u.put Reg.CLK.HT_STAT.HT_VALID 0).raise (page .pwr 0) 3 else u

/-- The profile to load, and what a wake shows besides. -/
def State.releaseLoads (s : State) (wake : Bool) (prof : Nat) : State :=
  let load := if wake then s.get Reg.PRF.STAT.PROF_LOADED else prof
  let u := { s with power := { s.power with loadProf := load } }
  if wake then u.wokenShown else u

theorem State.releaseReset_eq (s : State) (prof : Nat) :
    s.releaseReset prof = (s.qualifies prof).releaseLoads s.power.image prof := by
  unfold State.releaseReset
  extract_lets wake power high sampled counted load loading shown
  have hsampled : sampled = s.sampled prof := rfl
  have hcounted : counted = s.qualifies prof := by
    unfold State.qualifies
    rw [← hsampled]
  rw [← hcounted]
  clear_value counted
  rfl

theorem State.releaseLoads_cold (s : State) (prof : Nat) :
    s.releaseLoads false prof = { s with power := { s.power with loadProf := prof } } := by
  simp only [State.releaseLoads, Bool.false_eq_true, if_false]

theorem State.releaseLoads_wake (s : State) (prof : Nat) : s.releaseLoads true prof =
    State.wokenShown { s with power := { s.power with loadProf := s.get Reg.PRF.STAT.PROF_LOADED } } := by
  simp only [State.releaseLoads, if_true]

/-- The fields that the sampling of PROFILE and the entry into QUALIFY write. -/
def sampledFields : List FieldRef := [Reg.PRF.STAT.PIN_PROF, Reg.GLB.DEV_STATE.STATE, rawBit (page .glb 0) 0]

theorem State.setDevState_qualify {s : State} (h : s.devState = 2) :
    s.setDevState 3 = (s.put Reg.GLB.DEV_STATE.STATE 3).raise (page .glb 0) 0 := by
  rw [State.setDevState, if_neg (by omega)]
  exact if_neg (by simp)

theorem State.sampled_shows {s : State} (hdev : s.devState = 2) {prof : Nat} (hp : prof < 8) :
    OnlyFields sampledFields { s with power := { s.power with rstN := true } } (s.sampled prof) ∧
    (s.sampled prof).devState = 3 ∧ (s.sampled prof).get Reg.PRF.STAT.PIN_PROF = prof ∧ (s.sampled prof).isRaised (page .glb 0) 0 := by
  have hput : OnlyFields sampledFields { s with power := { s.power with rstN := true } }
      (State.put { s with power := { s.power with rstN := true } } Reg.PRF.STAT.PIN_PROF prof) :=
    OnlyFields.put _ prof (by decide) (by decide)
  have hpin : (State.put { s with power := { s.power with rstN := true } } Reg.PRF.STAT.PIN_PROF prof).get Reg.PRF.STAT.PIN_PROF =
      prof := State.get_put_of_lt _ (by decide) (by simpa using hp)
  have hstate : (State.put { s with power := { s.power with rstN := true } } Reg.PRF.STAT.PIN_PROF prof).devState = 2 :=
    (State.get_put_apart _ _ (by decide) (by decide)).trans hdev
  unfold State.sampled
  generalize State.put { s with power := { s.power with rstN := true } } Reg.PRF.STAT.PIN_PROF prof = u at *
  rw [State.setDevState_qualify hstate]
  refine ⟨(hput.then_put 3 (by decide) (by decide)).then_raise _ _ (by decide), ?_, ?_, State.isRaised_raise _ _ (by decide)⟩
  · rw [State.devState, State.get_raise_apart _ (by decide) (by decide), State.get_put_of_lt _ (by decide) (by decide)]
  · rw [State.get_raise_apart _ (by decide) (by decide), State.get_put_apart _ _ (by decide) (by decide), hpin]

theorem State.qualifies_shows {s : State} (hdev : s.devState = 2) {prof : Nat} (hp : prof < 8) :
    OnlyFields (sampledFields ++ refFields) { s with power := { s.power with rstN := true } } (s.qualifies prof) ∧
    (s.qualifies prof).devState = 3 ∧ (s.qualifies prof).get Reg.PRF.STAT.PIN_PROF = prof ∧
    (s.qualifies prof).isRaised (page .glb 0) 0 ∧
    ∀ d : DoorNo, (s.qualifies prof).refState d = if s.trefEn d then 1 else s.refState d := by
  obtain ⟨hframe, hstate, hpin, hraised⟩ := s.sampled_shows hdev hp
  obtain ⟨hrefs, hstates⟩ := State.forEach_setRef ([0, 1, 2, 3].filter fun d => (s.sampled prof).trefEn d)
    (fun d hd => by have := List.mem_of_mem_filter hd; simp at this; omega) (s.sampled prof)
  have htref : ∀ d, (s.sampled prof).trefEn d = s.trefEn d := fun d => by
    rw [State.trefEn, hframe.get (by decide) (by decide)]
    rfl
  have hold : ∀ d, (s.sampled prof).refState d = s.refState d := fun d => by
    rw [State.refState, hframe.get (by decide) (by decide)]
    rfl
  unfold State.qualifies
  generalize hv : ((s.sampled prof).forEach ([0, 1, 2, 3].filter fun d => (s.sampled prof).trefEn d) fun u d => u.setRef d 1) = v
    at *
  refine ⟨?_, ?_, ?_, ?_, fun d => ?_⟩
  · exact (hframe.mono fun _ hf => List.mem_append_left _ hf).trans (hrefs.mono fun _ hf => List.mem_append_right _ hf)
  · exact (hrefs.get (by decide) (by decide)).trans hstate
  · exact (hrefs.get (by decide) (by decide)).trans hpin
  · exact (hrefs.get (by decide) (by decide)).trans hraised
  · rw [hstates, hold]
    congr 1
    have hd := d.isLt
    have hdoor : d.val = 0 ∨ d.val = 1 ∨ d.val = 2 ∨ d.val = 3 := by omega
    rw [List.mem_filter, htref, eq_iff_iff, and_iff_right (by simpa using hdoor)]

/-- The fields that a wake shows. -/
def wokenFields : List FieldRef := [Reg.PRF.STAT.WAKE, Reg.CLK.HT_STAT.HT_VALID, rawBit (page .pwr 0) 3]

theorem State.wokenShown_shows (s : State) :
    OnlyFields wokenFields s s.wokenShown ∧ s.wokenShown.get Reg.PRF.STAT.WAKE = 1 ∧
    (s.get Reg.PWR.SLOW_STAT.SLOW_LOST = 1 → s.wokenShown.get Reg.CLK.HT_STAT.HT_VALID = 0 ∧ s.wokenShown.isRaised (page .pwr 0) 3) := by
  have hput : OnlyFields wokenFields s (s.put Reg.PRF.STAT.WAKE 1) := OnlyFields.put s 1 (by decide) (by decide)
  have hwake : (s.put Reg.PRF.STAT.WAKE 1).get Reg.PRF.STAT.WAKE = 1 := State.get_put_of_lt _ (by decide) (by decide)
  have hlost : (s.put Reg.PRF.STAT.WAKE 1).bit Reg.PWR.SLOW_STAT.SLOW_LOST = (s.get Reg.PWR.SLOW_STAT.SLOW_LOST == 1) := by
    rw [State.bit, State.get_put_apart _ _ (by decide) (by decide)]
  unfold State.wokenShown
  dsimp only
  rw [hlost]
  generalize s.put Reg.PRF.STAT.WAKE 1 = u at *
  by_cases h : s.get Reg.PWR.SLOW_STAT.SLOW_LOST = 1
  · rw [if_pos (beq_iff_eq.2 h)]
    refine ⟨(hput.then_put 0 (by decide) (by decide)).then_raise _ _ (by decide), ?_, fun _ => ⟨?_, State.isRaised_raise _ _ (by decide)⟩⟩
    · rw [State.get_raise_apart _ (by decide) (by decide), State.get_put_apart _ _ (by decide) (by decide), hwake]
    · rw [State.get_raise_apart _ (by decide) (by decide), State.get_put_of_lt _ (by decide) (by decide)]
  · rw [if_neg (mt beq_iff_eq.1 h)]
    exact ⟨hput, hwake, fun h' => absurd h' h⟩

/-- The fields that the release of RST_N writes. -/
def releaseFields : List FieldRef :=
  [Reg.GLB.DEV_STATE.STATE, Reg.PRF.STAT.PIN_PROF, Reg.PRF.STAT.WAKE, Reg.CLK.REF_STAT.STATES, Reg.CLK.HT_STAT.HT_VALID,
    rawBit (page .glb 0) 0, rawBit (page .clk 0) 0, rawBit (page .pwr 0) 3]

theorem exec_rstRelease {prof : Fin 8} {s : State} (hrst : s.power.rstN = false) (hmain : s.power.mainOn = true) (hdev : s.devState = 2) :
    exec (.rstRelease prof) s = .next { s.releaseReset prof with tick := if s.power.image then s.tick else 0, pending := s.pending } := by
  have heq : exec (.rstRelease prof) s = execRstRelease prof s := rfl
  rw [heq, execRstRelease, if_neg (by simp [hrst]), if_neg (by simp [hmain, hdev]), runAt]

/-- The release of RST_N up to QUALIFY, with the profile to load still to be told. -/
structure Qualified (s u : State) (prof : Nat) : Prop where
  frame : OnlyFields (sampledFields ++ refFields) { s with power := { s.power with rstN := true } } u
  devState : u.devState = 3
  pin : u.get Reg.PRF.STAT.PIN_PROF = prof
  raised : u.isRaised (page .glb 0) 0
  refs : ∀ d : DoorNo, u.refState d = if s.trefEn d then 1 else s.refState d

/-- What the release of RST_N leaves, before the counter is set: all that both starts share. -/
structure Released (s u : State) (prof : Nat) : Prop where
  frame : OnlyFields releaseFields { s with power := u.power } u
  devState : u.devState = 3
  pin : u.get Reg.PRF.STAT.PIN_PROF = prof
  raised : u.isRaised (page .glb 0) 0
  refs : ∀ d : DoorNo, u.refState d = if s.trefEn d then 1 else s.refState d

theorem Qualified.power {s u : State} {prof : Nat} (h : Qualified s u prof) : u.power = { s.power with rstN := true } := by
  rw [h.frame.1]

/-- The profile to load is part of the power state. -/
def State.withLoad (s : State) (load : Nat) : State := { s with power := { s.power with loadProf := load } }

theorem State.withLoad_get (s : State) (load : Nat) (f : FieldRef) : (s.withLoad load).get f = s.get f := rfl

theorem Qualified.withLoad {s u : State} {prof : Nat} (h : Qualified s u prof) (load : Nat) : Released s (u.withLoad load) prof := by
  obtain ⟨⟨hu, hkept⟩, hstate, hpin, hraised, hrefs⟩ := h
  refine ⟨⟨?_, ?_⟩, hstate, hpin, hraised, hrefs⟩
  · rw [State.withLoad, hu]
  · have hmono : FieldsKept releaseFields { s with power := { s.power with rstN := true } } u := hkept.mono (by decide)
    exact hmono

theorem Released.then_woken {s u w : State} {prof : Nat} (h : Released s u prof) (hframe : OnlyFields wokenFields u w) :
    Released s w prof := by
  obtain ⟨⟨hu, hkept⟩, hstate, hpin, hraised, hrefs⟩ := h
  refine ⟨⟨?_, hkept.trans (hframe.2.mono (by decide))⟩, (hframe.get (by decide) (by decide)).trans hstate,
    (hframe.get (by decide) (by decide)).trans hpin, (hframe.get (by decide) (by decide)).trans hraised, fun d => ?_⟩
  · rw [hframe.power_eq, hframe.1, hu]
  · rw [State.refState_of_get (hframe.get (by decide) (by decide)), hrefs]

theorem State.qualifies_qualified {s : State} (hdev : s.devState = 2) {prof : Nat} (hp : prof < 8) :
    Qualified s (s.qualifies prof) prof := by
  obtain ⟨hframe, hstate, hpin, hraised, hrefs⟩ := s.qualifies_shows hdev hp
  exact ⟨hframe, hstate, hpin, hraised, hrefs⟩

theorem State.releaseReset_cold {s : State} (hdev : s.devState = 2) {prof : Nat} (hp : prof < 8) (himage : s.power.image = false) :
    Released s (s.releaseReset prof) prof ∧ (s.releaseReset prof).power = { s.power with rstN := true, loadProf := prof } := by
  have hq := s.qualifies_qualified hdev hp
  have heq : s.releaseReset prof = (s.qualifies prof).withLoad prof := by
    rw [s.releaseReset_eq, himage, State.releaseLoads_cold, State.withLoad]
  rw [heq]
  refine ⟨hq.withLoad prof, ?_⟩
  rw [State.withLoad, hq.power]

theorem State.releaseReset_wake {s : State} (hdev : s.devState = 2) {prof : Nat} (hp : prof < 8) (himage : s.power.image = true) :
    Released s (s.releaseReset prof) prof ∧ (s.releaseReset prof).get Reg.PRF.STAT.WAKE = 1 ∧
    (s.releaseReset prof).power = { s.power with rstN := true, loadProf := s.get Reg.PRF.STAT.PROF_LOADED } ∧
    (s.get Reg.PWR.SLOW_STAT.SLOW_LOST = 1 →
      (s.releaseReset prof).get Reg.CLK.HT_STAT.HT_VALID = 0 ∧ (s.releaseReset prof).isRaised (page .pwr 0) 3) := by
  have hq := s.qualifies_qualified hdev hp
  have hloaded : (s.qualifies prof).get Reg.PRF.STAT.PROF_LOADED = s.get Reg.PRF.STAT.PROF_LOADED :=
    hq.frame.get (by decide) (by decide)
  have hlost : (s.qualifies prof).get Reg.PWR.SLOW_STAT.SLOW_LOST = s.get Reg.PWR.SLOW_STAT.SLOW_LOST :=
    hq.frame.get (by decide) (by decide)
  have heq : s.releaseReset prof = ((s.qualifies prof).withLoad (s.get Reg.PRF.STAT.PROF_LOADED)).wokenShown := by
    rw [s.releaseReset_eq, himage, State.releaseLoads_wake, hloaded, State.withLoad]
  obtain ⟨hframe, hshown, hslow⟩ := ((s.qualifies prof).withLoad (s.get Reg.PRF.STAT.PROF_LOADED)).wokenShown_shows
  rw [heq]
  refine ⟨(hq.withLoad _).then_woken hframe, hshown, ?_, fun h => hslow ?_⟩
  · rw [hframe.power_eq, State.withLoad, hq.power]
  · rw [State.withLoad_get, hlost, h]

theorem rstRelease_outcome (prof : Fin 8) {s : State} (hrst : s.power.rstN = false) (hmain : s.power.mainOn = true)
    (hdev : s.devState = 2) :
    ∃ t, exec (.rstRelease prof) s = .next t ∧ t.devState = 3 ∧ t.get Reg.PRF.STAT.PIN_PROF = prof ∧ t.isRaised (page .glb 0) 0 ∧
      (∀ d : DoorNo, t.refState d = if s.trefEn d then 1 else s.refState d) ∧
      (s.power.image = false → t.tick = 0 ∧ t.power = { s.power with rstN := true, loadProf := prof }) ∧
      (s.power.image = true → t.tick = s.tick ∧ t.get Reg.PRF.STAT.WAKE = 1 ∧
        t.power = { s.power with rstN := true, loadProf := s.get Reg.PRF.STAT.PROF_LOADED } ∧
        (s.get Reg.PWR.SLOW_STAT.SLOW_LOST = 1 → t.get Reg.CLK.HT_STAT.HT_VALID = 0 ∧ t.isRaised (page .pwr 0) 3)) ∧
      t = { s with tick := t.tick, regs := t.regs, power := t.power } ∧ FieldsKept releaseFields s t := by
  rw [exec_rstRelease hrst hmain hdev]
  cases himage : s.power.image with
  | false =>
    obtain ⟨⟨⟨hframe, hkept⟩, hstate, hpin, hraised, hrefs⟩, hpower⟩ := s.releaseReset_cold hdev prof.isLt himage
    generalize s.releaseReset prof = u at *
    refine ⟨_, rfl, hstate, hpin, hraised, hrefs, fun _ => ⟨rfl, hpower⟩, fun h => absurd h Bool.false_ne_true, ?_,
      (FieldsKept.of_regs rfl).trans hkept⟩
    rw [hframe]
  | true =>
    obtain ⟨⟨⟨hframe, hkept⟩, hstate, hpin, hraised, hrefs⟩, hshown, hpower, hslow⟩ := s.releaseReset_wake hdev prof.isLt himage
    generalize s.releaseReset prof = u at *
    refine ⟨_, rfl, hstate, hpin, hraised, hrefs, fun h => absurd h.symm Bool.false_ne_true, fun _ => ⟨rfl, hshown, hpower, hslow⟩, ?_,
      (FieldsKept.of_regs rfl).trans hkept⟩
    rw [hframe]

/-! ### Wake events (R371) -/

/-- A field of WAKE_CAUSE that is set drives PWR_REQ in STANDBY. -/
theorem State.pwrReq_of_cause {s : State} {f : FieldRef} (haddr : f.addr = 0x30C0) (hhi : f.hi < 8) (hcause : s.get f ≠ 0)
    (hdev : s.devState = 1) : s.pwrReq = some true := by
  have hbits : Word.bits (s.reg 0x30C0) 7 0 ≠ 0 := by
    obtain ⟨i, hbit⟩ := Nat.exists_testBit_of_ne_zero hcause
    rw [State.get, haddr, Word.testBit_bits, Bool.and_eq_true, decide_eq_true_eq] at hbit
    obtain ⟨hlt, hset⟩ := hbit
    intro hzero
    have htest := Word.testBit_bits (s.reg 0x30C0) 7 0 (f.lo + i)
    rw [hzero, Nat.zero_testBit, Nat.zero_add, hset, decide_eq_true (by omega)] at htest
    exact absurd htest (by decide)
  rw [State.pwrReq, if_neg (by omega)]
  simp [hbits]

/-- STANDBY with SLOWCLK valid and no wake cause yet. -/
def Asleep (s : State) : Prop :=
  s.devState = 1 ∧ s.power.draining = none ∧ s.bit Reg.PWR.SLOW_STAT.VALID = true ∧ Word.bits (s.reg 0x30C0) 7 0 = 0

theorem State.wakeEvent_asleep {s : State} (h : Asleep s) (f : FieldRef) (v : Nat) : s.wakeEvent f v = s.put f v := by
  obtain ⟨hdev, hdrain, hvalid, hnone⟩ := h
  rw [State.wakeEvent, if_neg (by simp [hdrain]), if_pos ⟨hdev, hvalid, hnone⟩]

theorem wakeEvent_outcome {i : Instr} {s : State} (h : Asleep s) {f : FieldRef} {v : Nat} (hexec : exec i s = run s (s.wakeEvent f v))
    (haddr : f.addr = 0x30C0) (hhi : f.hi < 8) (hok : f.ok) (hv : v < 2 ^ (f.hi + 1 - f.lo)) (hne : v ≠ 0) :
    ∃ t, exec i s = .next t ∧ t.get f = v ∧ t.pwrReq = some true ∧ OnlyFields [f] s t := by
  rw [State.wakeEvent_asleep h] at hexec
  have hframe : OnlyFields [f] s (s.put f v) := OnlyFields.put s v (by simp) hok
  have hget := s.get_put_of_lt hok hv
  have hstate : (s.put f v).devState = 1 := (State.get_put_apart _ _ hok (.inl (by simp [haddr]))).trans h.1
  exact ⟨_, hexec.trans hframe.run_eq, hget, State.pwrReq_of_cause haddr hhi (by rw [hget]; exact hne) hstate, hframe⟩

theorem exec_wakeIn (s : State) :
    exec .wakeIn s = run s (s.when (s.bit Reg.PRF.WAKE_CFG.IN_EN) fun u => u.wakeEvent Reg.PRF.WAKE_CAUSE.IN 1) := rfl

theorem exec_wakePerst (d : DoorNo) (s : State) : exec (.wakePerst d) s = run s (s.when (hasBit (s.get Reg.PRF.WAKE_CFG.PERST_EN) d)
    fun u => u.wakeEvent Reg.PRF.WAKE_CAUSE.PERST (2 ^ d.val)) := rfl

theorem exec_wakeTimer (s : State) : exec .wakeTimer s = run s s.wakeTimer := rfl

theorem wakePerst_outcome {d : DoorNo} {s : State} (h : Asleep s) (hen : hasBit (s.get Reg.PRF.WAKE_CFG.PERST_EN) d = true) :
    ∃ t, exec (.wakePerst d) s = .next t ∧ t.get Reg.PRF.WAKE_CAUSE.PERST = 2 ^ d.val ∧ t.pwrReq = some true ∧
      OnlyFields [Reg.PRF.WAKE_CAUSE.PERST] s t := by
  have hlt : 2 ^ d.val < 2 ^ 4 := Nat.pow_lt_pow_right (by decide) d.isLt
  exact wakeEvent_outcome h (by rw [exec_wakePerst, hen, State.when_true]) rfl (by decide) (by decide) hlt (by simp)

/-- Settles O49. A wait of a typical length ends with a command of its own (log entry 18); CMD = RESET is read from R353 (log
entry 79). -/
theorem resetReleaseAndWake : Obligations.ResetReleaseAndWake := by
  unfold Obligations.ResetReleaseAndWake
  refine ⟨fun i s hi hrst hmain => ?_, fun prof s hrst hmain hdev => rstRelease_outcome prof hrst hmain hdev,
    fun s hdev hdrain hvalid hnone => ?_⟩
  · have hblank := State.blank_blanked { s with power := { s.power with rstN := false } }
    have hs : Blanked [] s (State.blank { s with power := { s.power with rstN := false } }) :=
      hblank.of_roots ⟨rfl, rfl, rfl, rfl, rfl, rfl, rfl, rfl, rfl, rfl⟩
    exact ⟨_, (reset_runs hrst hmain hi).trans hs.run_eq, hs.devState, by rw [State.blank_power]; rfl, hs⟩
  · have hasleep : Asleep s := ⟨hdev, hdrain, hvalid, hnone⟩
    refine ⟨fun hen hdue => ?_, fun hoff => ?_, fun hen => ?_, fun hoff => ?_, fun d => ⟨wakePerst_outcome hasleep, fun hoff => ?_⟩⟩
    · exact wakeEvent_outcome hasleep (by rw [exec_wakeTimer, State.wakeTimer, if_pos ⟨hen, hdue⟩]) rfl (by decide) (by decide)
        (by decide) (by decide)
    · rw [exec_wakeTimer, State.wakeTimer_off hoff]
      rfl
    · exact wakeEvent_outcome hasleep (by rw [exec_wakeIn, hen, State.when_true]) rfl (by decide) (by decide) (by decide) (by decide)
    · rw [exec_wakeIn, hoff]
      rfl
    · rw [exec_wakePerst, hoff]
      rfl

end Sys2Proof.Machine
end

section
/-! PROOFS. CMD = LOAD, CMD = STANDBY and the end of the draining (chapter 14: R365, R370). -/

namespace Sys2Proof.Machine

/-! ### CMD = STANDBY (R370 steps 1 and 2) -/

/-- Registers of the links, the links and their carts only. -/
def LinksStop (s t : State) : Prop :=
  t = { s with regs := t.regs, lnk := t.lnk, dueCarts := t.dueCarts } ∧ FieldsKept linkFields s t

theorem LinksStop.refl (s : State) : LinksStop s s := ⟨rfl, FieldsKept.refl _ s⟩

theorem LinksStop.trans {s t u : State} (h : LinksStop s t) (k : LinksStop t u) : LinksStop s u := by
  obtain ⟨hs, hkept⟩ := h
  obtain ⟨ks, kkept⟩ := k
  exact ⟨by rw [ks, hs], hkept.trans kkept⟩

/-- STOP of a link that is not OFF. -/
def State.linkOff (s : State) (n : Nat) : State := if s.lnkState n = 0 then s else s.linkStop n

theorem State.linkOff_shows (s : State) {n : Nat} (h : n < 16) :
    LinksStop s (s.linkOff n) ∧ (s.linkOff n).lnkState n = 0 ∧ ∀ k, k ≠ n → (s.linkOff n).lnkState k = s.lnkState k := by
  unfold State.linkOff
  by_cases hoff : s.lnkState n = 0
  · rw [if_pos hoff]
    exact ⟨LinksStop.refl s, hoff, fun _ _ => rfl⟩
  · rw [if_neg hoff]
    have hstop : s.linkStop n = s.linkNext n 0 fun l => { l with script := [] } := rfl
    have hstate := s.linkNext_state (n := n) (nxt := 0) (fun l => { l with script := [] }) (by decide) (by decide)
    obtain ⟨hframe, -, -, hkept⟩ := s.linkNext_frame (n := n) (nxt := 0) (fun l => { l with script := [] }) (by decide) (by decide)
    rw [hstop]
    generalize s.linkNext n 0 (fun l => { l with script := [] }) = t at *
    refine ⟨⟨hframe, hkept.mono (linkStateFields_linkFields h)⟩, hstate, fun k hk => ?_⟩
    exact hkept.get (by simp [FieldRef.ok]) (by simp [linkStateFields, FieldRef.apart, rawBit, page]; omega)

theorem State.forEach_linkOff (l : List Nat) (hl : ∀ n ∈ l, n < 16) (s : State) :
    LinksStop s (s.forEach l State.linkOff) ∧
    ∀ k, k ∈ l ∨ s.lnkState k = 0 → (s.forEach l State.linkOff).lnkState k = 0 := by
  induction l generalizing s with
  | nil => exact ⟨LinksStop.refl s, fun k hk => hk.resolve_left (by simp)⟩
  | cons n l ih =>
    obtain ⟨hframe, hstate, hother⟩ := s.linkOff_shows (hl n (by simp))
    obtain ⟨hrest, hall⟩ := ih (fun x hx => hl x (List.mem_cons_of_mem _ hx)) (s.linkOff n)
    rw [State.forEach_cons]
    refine ⟨hframe.trans hrest, fun k hk => hall k ?_⟩
    by_cases hkn : k = n
    · subst hkn
      exact .inr hstate
    · rw [hother k hkn]
      exact hk.imp_left fun h => (List.mem_cons.1 h).resolve_left hkn

/-- Every link OFF. -/
def State.linksOff (s : State) : State := s.forEach (List.range 16) State.linkOff

theorem State.askStandby_eq (s : State) :
    s.askStandby = { s.linksOff.setReg 0x30C0 0 with power := { s.linksOff.power with draining := some s.linksOff.tick } } := rfl

theorem FieldsKept.setReg (s : State) (a : Nat) (v : Word) : FieldsKept [⟨a, 31, 0⟩] s (s.setReg a v) := by
  intro b i hi hapart
  have hne : b ≠ a := fun hb => by
    have := hapart ⟨a, 31, 0⟩ (by simp) hb.symm
    simp at this
    omega
  rw [State.setReg_reg, if_neg hne]

/-- The fields that CMD = STANDBY writes. -/
def standbyFields : List FieldRef := [⟨0x30C0, 31, 0⟩, Reg.PRF.CMD.CMD] ++ linkFields

theorem State.askStandby_shows (s : State) :
    s.askStandby = { s with regs := s.askStandby.regs, power := { s.power with draining := some s.tick }, lnk := s.askStandby.lnk,
                            dueCarts := s.askStandby.dueCarts } ∧
    FieldsKept standbyFields s s.askStandby ∧ (∀ l, l < 16 → s.askStandby.lnkState l = 0) ∧ s.askStandby.reg 0x30C0 = 0 := by
  obtain ⟨⟨hoff, hkept⟩, hstates⟩ := State.forEach_linkOff (List.range 16) (fun _ hn => List.mem_range.1 hn) s
  rw [s.askStandby_eq]
  change s.linksOff = _ at hoff
  change FieldsKept linkFields s s.linksOff at hkept
  change ∀ k, _ → s.linksOff.lnkState k = 0 at hstates
  generalize s.linksOff = u at *
  refine ⟨by rw [hoff]; rfl, ?_, fun l hl => ?_, ?_⟩
  · exact ((hkept.mono fun _ hf => List.mem_append_right _ hf).trans
      ((FieldsKept.setReg u 0x30C0 0).mono (by simp))).andSame rfl
  · have hget : (u.setReg 0x30C0 0).lnkState l = u.lnkState l :=
      (FieldsKept.setReg u 0x30C0 0).get (by simp [FieldRef.ok]) (by simp [FieldRef.apart]; omega)
    exact hget.trans (hstates l (.inl (List.mem_range.2 hl)))
  · exact (State.setReg_reg u 0x30C0 0 0x30C0).trans (if_pos rfl)

theorem State.prfCommand_standby {s : State} (prof : Nat) (hdev : s.devState = 7 ∨ s.devState = 6) (hdrain : s.power.draining = none)
    (htime : s.timebaseOk = true) (hsw : s.get Reg.PRF.STAT.SW_STATE = 0) (hop : s.power.flOp = none) :
    s.prfCommand 5 prof 0 = s.askStandby := by
  unfold State.prfCommand
  dsimp only
  rw [if_neg (by decide), if_neg (by decide), if_neg (by simp [hdrain])]
  change (if s.devState ≠ 7 ∧ s.devState ≠ 6 then _ else _) = _
  rw [if_neg (by omega), if_neg (by simp [htime]), if_neg (by rw [hsw, hop]; decide)]

theorem State.prfRow_runs {s : State} (hdev : s.devState = 7 ∨ s.devState = 6) (cmd : Nat) :
    s.prfRow cmd = (s.prfCommand cmd (s.get Reg.PRF.CMD.PROF) 0).put Reg.PRF.CMD.CMD 0 := by
  have hon : s.clockOn = true := by rw [State.clockOn, decide_eq_true]; omega
  rw [State.prfRow, hon, State.when_true]

theorem standby_outcome {s : State} (hdev : s.devState = 7 ∨ s.devState = 6) (hdrain : s.power.draining = none)
    (htime : s.timebaseOk = true) (hsw : s.get Reg.PRF.STAT.SW_STATE = 0) (hop : s.power.flOp = none) :
    ∃ t, exec .standby s = .next t ∧ (∀ l, l < 16 → t.lnkState l = 0) ∧ t.reg 0x30C0 = 0 ∧
      t.power = { s.power with draining := some s.tick } ∧ t.get Reg.PRF.CMD.CMD = 0 ∧ t.devState = s.devState ∧
      t = { s with regs := t.regs, power := t.power, lnk := t.lnk, dueCarts := t.dueCarts } ∧ FieldsKept standbyFields s t := by
  have hexec : exec .standby s = run s (s.prfRow 5) := rfl
  rw [State.prfRow_runs hdev, State.prfCommand_standby _ hdev hdrain htime hsw hop] at hexec
  obtain ⟨hstate, hkept, hlinks, hcause⟩ := s.askStandby_shows
  generalize s.askStandby = u at *
  have hput : OnlyFields [Reg.PRF.CMD.CMD] u (u.put Reg.PRF.CMD.CMD 0) := OnlyFields.put u 0 (by simp) (by decide)
  have hcmd : (u.put Reg.PRF.CMD.CMD 0).get Reg.PRF.CMD.CMD = 0 := State.get_put_of_lt _ (by decide) (by decide)
  have hreg : (u.put Reg.PRF.CMD.CMD 0).reg 0x30C0 = u.reg 0x30C0 := (State.put_reg _ _ _ _).trans (if_neg (by decide))
  generalize u.put Reg.PRF.CMD.CMD 0 = t at *
  have hpower : t.power = { s.power with draining := some s.tick } := by rw [hput.power_eq, hstate]
  have hall : FieldsKept standbyFields s t := hkept.trans (hput.2.mono (by simp [standbyFields]))
  refine ⟨t, ?_, fun l hl => ?_, hreg.trans hcause, hpower, hcmd, hall.get (by decide) (by decide), ?_, hall⟩
  · rw [hexec]
    exact Sys2Proof.Machine.run_eq (by rw [hput.1, hstate]) (by rw [hput.1, hstate])
  · rw [← hlinks l hl]
    exact hput.get (by simp [FieldRef.ok]) (by simp [FieldRef.apart]; omega)
  · rw [hpower, hput.1, hstate]

/-! ### CMD = LOAD (R365) -/

/-- A slot as the entry into LOAD leaves it. -/
def Slot.unloaded (x : Slot) : Slot :=
  { x.setWord 0 (Word.withBits (x.word 0) 2 0 0) with
    pass := none, count := 0, last := none, back := none, queued := [], armAt := none, editAt := none, w0At := none, drop := false }

theorem Slot.unloaded_typ (x : Slot) : x.unloaded.typ = 0 := by
  have hw : x.unloaded.word 0 = Word.withBits (x.word 0) 2 0 0 ∨ x.unloaded.word 0 = 0 := by
    cases hl : x.w with
    | nil => exact .inr (by simp [Slot.unloaded, Slot.word, Slot.setWord, hl])
    | cons v l => exact .inl (by simp [Slot.unloaded, Slot.word, Slot.setWord, hl])
  rw [Slot.typ, Slot.field]
  rcases hw with hw | hw
  · rw [hw, Word.bits_withBits_same _ _ (by decide) (by decide), Nat.zero_mod]
  · rw [hw]
    rfl

/-- A door as the entry into LOAD leaves it. -/
def Door.unloaded (d : Door) : Door :=
  { d with stage := [], slotStage := [], eptStage := [], overflow := false, upper := 0, outcome := [], snap := [], sel := [],
           hbAt := none }

/-- What the entry into LOAD has left. -/
structure Unloaded (t : State) : Prop where
  slots : ∀ h x, (h, x) ∈ t.slots → x.typ = 0 ∧ x.pass = none
  commits : t.commits = []
  doors : ∀ d v, (d, v) ∈ t.doors → v.stage = [] ∧ v.slotStage = [] ∧ v.eptStage = [] ∧ v.outcome = []
  carr : t.fabric.carr = []
  owner : t.owner = []
  sw : t.power.sw = none
  lnk : t.lnk = []

/-- Nothing but registers and drive channels changes. -/
def OnlyDrv (s t : State) : Prop := t = { s with regs := t.regs, drv := t.drv }

theorem OnlyDrv.trans {s t u : State} (h : OnlyDrv s t) (k : OnlyDrv t u) : OnlyDrv s u := by
  unfold OnlyDrv at *
  rw [k, h]

theorem OnlyDrv.forEach {α : Type} {f : State → α → State} (hf : ∀ s x, OnlyDrv s (f s x)) (l : List α) (s : State) :
    OnlyDrv s (s.forEach l f) := by
  induction l generalizing s with
  | nil => rfl
  | cons x l ih => exact (hf s x).trans (ih (f s x))

theorem OnlyDrv.of_fields {fs : List FieldRef} {s t : State} (h : OnlyFields fs s t) : OnlyDrv s t := by
  unfold OnlyDrv
  rw [h.1]

theorem Unloaded.onlyDrv {s t : State} (h : Unloaded s) (k : OnlyDrv s t) : Unloaded t := by
  obtain ⟨hslots, hcommits, hdoors, hcarr, howner, hsw, hlnk⟩ := h
  rw [k]
  exact ⟨hslots, hcommits, hdoors, hcarr, howner, hsw, hlnk⟩

theorem State.setDevState_load_onlyDrv (s : State) : OnlyDrv s (s.setDevState 5) := by
  unfold State.setDevState
  split
  · rfl
  · have hframe : OnlyFields devStateFields s ((s.put Reg.GLB.DEV_STATE.STATE 5).raise (page .glb 0) 0) :=
      (OnlyFields.put s 5 (by decide) (by decide)).then_raise _ _ (by decide)
    have hwake : ∀ u : State, u.wakeEnds 5 = u := fun u => if_neg (by simp)
    rw [hwake]
    exact OnlyDrv.of_fields hframe

theorem State.onDrv_onlyDrv (s : State) (n : Nat) (f : Drv → Drv) : OnlyDrv s (s.onDrv n f) := rfl

theorem State.loadEntry_unloaded (s : State) : Unloaded s.loadEntry := by
  unfold State.loadEntry
  extract_lets aborted ended regs inp fabric coach recd tmr dma power lost fenced shown
  have hlost : Unloaded lost := by
    refine ⟨fun h x hmem => ?_, rfl, fun d v hmem => ?_, rfl, rfl, rfl, rfl⟩
    · have hmapped : (h, x) ∈ ended.slots.mapTo (fun _ => Slot.reset) (fun _ y => y.unloaded) := hmem
      obtain ⟨y, -, rfl, -⟩ := (Sparse.mem_mapTo _ _ _ _ _).1 hmapped
      exact ⟨y.unloaded_typ, rfl⟩
    · have hmapped : (d, v) ∈ ended.doors.mapTo (fun _ => Door.reset) (fun _ w => w.unloaded) := hmem
      obtain ⟨w, -, rfl, -⟩ := (Sparse.mem_mapTo _ _ _ _ _).1 hmapped
      exact ⟨rfl, rfl, rfl, rfl⟩
  have hfenced : OnlyDrv lost fenced := by
    refine OnlyDrv.forEach (fun u e => ?_) _ lost
    split
    · exact u.onDrv_onlyDrv _ _
    · rfl
  have hshown : OnlyDrv fenced shown := by
    by_cases haborted : aborted = true
    · have heq : shown = fenced.put Reg.PRF.STAT.RESULT 10 := if_pos haborted
      rw [heq]
      exact OnlyDrv.of_fields (OnlyFields.put (fs := [Reg.PRF.STAT.RESULT]) fenced 10 (by simp) (by decide))
    · have heq : shown = fenced := if_neg haborted
      rw [heq]
      rfl
  exact hlost.onlyDrv ((hfenced.trans hshown).trans shown.setDevState_load_onlyDrv)

theorem State.loadEntry_devState (s : State) : s.loadEntry.devState = 5 := State.setDevState_devState _ (by decide)

theorem State.prfCommand_load {s : State} (prof : Nat) (hdev : s.devState = 7 ∨ s.devState = 6) (hdrain : s.power.draining = none)
    (htime : s.timebaseOk = true) : s.prfCommand 3 prof 0 = s.loadEntry.forLoad prof := by
  unfold State.prfCommand
  dsimp only
  rw [if_neg (by decide), if_neg (by decide), if_neg (by simp [hdrain])]
  change (if s.devState ≠ 7 ∧ s.devState ≠ 6 then _ else _) = _
  rw [if_neg (by omega), if_neg (by simp [htime])]

theorem load_outcome {s : State} (hdev : s.devState = 7 ∨ s.devState = 6) (hdrain : s.power.draining = none)
    (htime : s.timebaseOk = true) :
    ∃ t, exec .load s = .next t ∧ t.devState = 5 ∧ t.power.loadProf = s.get Reg.PRF.CMD.PROF ∧ t.power.loadCmd = true ∧
      t.get Reg.PRF.CMD.CMD = 0 ∧ Unloaded t ∧ t.tick = s.tick := by
  have hexec : exec .load s = run s (s.prfRow 3) := rfl
  rw [State.prfRow_runs hdev, State.prfCommand_load _ hdev hdrain htime] at hexec
  obtain ⟨hslots, hcommits, hdoors, hcarr, howner, hsw, hlnk⟩ := s.loadEntry_unloaded
  have hstate := s.loadEntry_devState
  generalize s.loadEntry = u at *
  have hput : ((u.forLoad (s.get Reg.PRF.CMD.PROF)).put Reg.PRF.CMD.CMD 0).devState = u.devState :=
    State.get_put_apart _ _ (by decide) (by decide)
  exact ⟨_, hexec, hput.trans hstate, rfl, rfl, State.get_put_of_lt (u.forLoad _) (by decide) (by decide),
    ⟨hslots, hcommits, hdoors, hcarr, howner, hsw, hlnk⟩, rfl⟩

/-! ### The end of the draining (R370 steps 3 to 5) -/

/-- Sources of the interrupt controller keep their states and settings. -/
def SrcKept (s t : State) : Prop := OnlyIrq s t ∧ ∀ k, (t.src k).state = (s.src k).state ∧ (t.src k).cfg = (s.src k).cfg

theorem SrcKept.refl (s : State) : SrcKept s s := ⟨OnlyIrq.refl s, fun _ => ⟨rfl, rfl⟩⟩

theorem SrcKept.trans {s t u : State} (h : SrcKept s t) (k : SrcKept t u) : SrcKept s u :=
  ⟨h.1.trans k.1, fun j => ⟨(k.2 j).1.trans (h.2 j).1, (k.2 j).2.trans (h.2 j).2⟩⟩

theorem SrcKept.forEach {α : Type} {f : State → α → State} (hf : ∀ s x, SrcKept s (f s x)) (l : List α) (s : State) :
    SrcKept s (s.forEach l f) := by
  induction l generalizing s with
  | nil => exact SrcKept.refl s
  | cons x l ih => exact (hf s x).trans (ih (f s x))

theorem State.markDue_kept (s : State) (k mask : Nat) : SrcKept s (s.markDue k mask) := by
  refine ⟨OnlyIrq.markDue s k mask, fun j => ?_⟩
  by_cases hj : j = k
  · subst hj
    simp [State.markDue]
  · rw [State.markDue_src_ne s mask hj]
    exact ⟨rfl, rfl⟩

theorem State.irqStandby_kept (s : State) : SrcKept s s.irqStandby := by
  unfold State.irqStandby
  refine SrcKept.trans (SrcKept.forEach (fun u k => ?_) _ s) (SrcKept.forEach (fun u d => ?_) _ _)
  · dsimp only
    split
    · exact u.markDue_kept k _
    · exact SrcKept.refl u
  · split
    · exact SrcKept.refl u
    · exact ⟨rfl, fun _ => ⟨rfl, rfl⟩⟩

/-- The image of the standby entry is valid. -/
def State.imaged (s : State) : State :=
  { s with power := { s.power with image := true, waking := false, makeupDue := true, irqDue := true } }

theorem State.enterStandby_eq {s : State} {n : Nat} (h : s.power.draining = some n) :
    s.enterStandby = (s.irqStandby.imaged.retain.showState 1).slowMissed := by
  rw [State.enterStandby, if_neg (by simp [h])]
  rfl

theorem Retained.slowMissed {s t : State} (h : Retained s t) : Retained s t.slowMissed := by
  unfold State.slowMissed
  split
  · exact h.put _ _ (.inr rfl)
  · exact h

theorem Retained.src_eq {s t : State} (h : Retained s t) (k : Nat) : t.src k = s.src k := by
  rw [State.src, State.src, h.srcs]

theorem drainEnd_outcome {s : State} {n : Nat} (h : s.power.draining = some n) :
    ∃ t, exec .drainEnd s = .next t ∧ t.devState = 1 ∧ t.power.image = true ∧ t.power.draining = none ∧ t.tick = s.tick ∧
      t.slots = [] ∧ t.clk.running = false ∧ t.clk.htOfs = s.clk.htOfs ∧
      (∀ a v, a ≠ Reg.GLB.DEV_STATE.STATE.addr → a ≠ Reg.PWR.SLOW_STAT.VALID.addr →
        ((a, v) ∈ t.regs ↔ ∃ w, (a, w) ∈ s.regs ∧ v = retainedReg a w ∧ v ≠ regReset a)) ∧
      ∀ k, (t.src k).state = (s.src k).state ∧ (t.src k).cfg = (s.src k).cfg := by
  have hexec : exec .drainEnd s = run s s.enterStandby := rfl
  rw [State.enterStandby_eq h] at hexec
  obtain ⟨hirq, hsrc⟩ := s.irqStandby_kept
  have hkept : Retained s.irqStandby.imaged (s.irqStandby.imaged.retain.showState 1).slowMissed :=
    (s.irqStandby.imaged.retain_retained.put _ 1 (.inl rfl)).slowMissed
  have hpower := s.irqStandby.imaged.retain_power
  have hstate : (s.irqStandby.imaged.retain.showState 1).devState = 1 := State.showState_devState _ (by decide)
  have hmissed := (s.irqStandby.imaged.retain.showState 1).slowMissed_frame
  have hsame : (s.irqStandby.imaged.retain.showState 1).power = s.irqStandby.imaged.retain.power := rfl
  generalize s.irqStandby = u at *
  have hroots : u.imaged.tick = s.tick ∧ u.imaged.pending = s.pending ∧ u.imaged.regs = s.regs ∧ u.imaged.clk = s.clk ∧
      ∀ k, u.imaged.src k = u.src k := by
    refine ⟨?_, ?_, ?_, ?_, fun _ => rfl⟩
    · rw [State.imaged, hirq]
    · rw [State.imaged, hirq]
    · rw [State.imaged, hirq]
    · rw [State.imaged, hirq]
  obtain ⟨htick, hpending, hregs, hclk, himagedSrc⟩ := hroots
  have himage : u.imaged.power.image = true := rfl
  generalize u.imaged = v at *
  generalize v.retain.showState 1 = w at *
  have hwpower : w.slowMissed.power = w.power := hmissed.power_eq
  have hwstate : w.slowMissed.devState = w.devState := hmissed.get (by decide) (by decide)
  generalize w.slowMissed = t at *
  refine ⟨t, hexec.trans (Sys2Proof.Machine.run_eq (hkept.tick.trans htick) (hkept.pending.trans hpending)), hwstate.trans hstate, ?_, ?_,
    hkept.tick.trans htick, hkept.slots, hkept.running, hkept.htOfs.trans (by rw [hclk]), ?_, fun k => ?_⟩
  · rw [hwpower, hsame, hpower]
    exact himage
  · rw [hwpower, hsame, hpower]
    rfl
  · rw [← hregs]
    exact hkept.regs
  · rw [hkept.src_eq, himagedSrc]
    exact hsrc k

/-- Settles O54. Where the image stands is the model's choice (log entry 75), the corners of STANDBY, its wake causes among them,
are read from R370 and R371 (log entry 76), and an end without a draining changes nothing (log entry 2). -/
theorem loadAndStandbyEntry : Obligations.LoadAndStandbyEntry := by
  unfold Obligations.LoadAndStandbyEntry
  refine ⟨fun s hdev hdrain htime => ⟨?_, fun hsw hop => standby_outcome hdev hdrain htime hsw hop⟩,
    fun n s h => drainEnd_outcome h, fun s h => ?_⟩
  · obtain ⟨t, hexec, hstate, hprof, hcmd, hzero, ⟨hslots, hcommits, hdoors, hcarr, howner, hsw⟩, htick⟩ :=
      load_outcome hdev hdrain htime
    exact ⟨t, hexec, hstate, hprof, hcmd, hsw, hzero, hslots, hcommits, hdoors, hcarr, howner, htick⟩
  · have hexec : exec .drainEnd s = run s s.enterStandby := rfl
    rw [hexec, State.enterStandby, if_pos (by simp [h])]
    rfl

end Sys2Proof.Machine
end

section
/-! PROOFS. Correction tables: commands, learning and its end (chapter 4: R133, R134, R136, R392). -/

namespace Sys2Proof.Machine

/-! ### What a command of CORR_CTL may change -/

/-- Registers, the wheel's tracker and the list of wheels that learn. -/
def CorrFrame (w : Nat) (fs : List FieldRef) (s t : State) : Prop :=
  t = { s with regs := t.regs, trk := t.trk, flt := { s.flt with learning := t.flt.learning } } ∧
    (∀ k, k ≠ w → t.tracker k = s.tracker k) ∧ FieldsKept fs s t

/-- The state with other wheels that learn. -/
def State.withLearning (s : State) (l : List Nat) : State := { s with flt := { s.flt with learning := l } }

theorem CorrFrame.trans {w : Nat} {fs : List FieldRef} {s t u : State} (h : CorrFrame w fs s t) (k : CorrFrame w fs t u) :
    CorrFrame w fs s u := by
  obtain ⟨hst, hothers, hkept⟩ := h
  obtain ⟨htu, hothers', hkept'⟩ := k
  exact ⟨by rw [htu, hst], fun j hj => (hothers' j hj).trans (hothers j hj), hkept.trans hkept'⟩

theorem OnlyFields.corrFrame {w : Nat} {fs : List FieldRef} {s t : State} (h : OnlyFields fs s t) : CorrFrame w fs s t := by
  obtain ⟨hstate, hkept⟩ := h
  refine ⟨by rw [hstate], fun k _ => ?_, hkept⟩
  rw [State.tracker, State.tracker, hstate]

theorem CorrFrame.setTrk (w : Nat) (fs : List FieldRef) (s : State) (x : Tracker) : CorrFrame w fs s (s.setTrk w x) :=
  ⟨rfl, fun k hk => (s.setTrk_tracker w x k).trans (if_neg hk), FieldsKept.of_regs (State.setTrk_regs _ _ _)⟩

theorem CorrFrame.withLearning (w : Nat) (fs : List FieldRef) (s : State) (l : List Nat) : CorrFrame w fs s (s.withLearning l) :=
  ⟨rfl, fun _ _ => rfl, FieldsKept.of_regs rfl⟩

theorem CorrFrame.then_fields {w : Nat} {fs : List FieldRef} {s t u : State} (h : CorrFrame w fs s t) (k : OnlyFields fs t u) :
    CorrFrame w fs s u := h.trans k.corrFrame

theorem CorrFrame.run_eq {w : Nat} {fs : List FieldRef} {s t : State} (h : CorrFrame w fs s t) : run s t = .next t := by
  obtain ⟨hstate, -⟩ := h
  exact Sys2Proof.Machine.run_eq (by rw [hstate]) (by rw [hstate])

theorem CorrFrame.mono {w : Nat} {fs gs : List FieldRef} {s t : State} (h : CorrFrame w fs s t) (hsub : ∀ f ∈ fs, f ∈ gs) :
    CorrFrame w gs s t := ⟨h.1, h.2.1, h.2.2.mono hsub⟩

/-! ### Learning begins and ends (R391) -/

theorem State.startLearn_shows (s : State) (w : Nat) : CorrFrame w [Reg.FLT.LEDGER.ACTIVE] s (s.startLearn w) ∧
    (s.startLearn w).active kLearn = true ∧ w ∈ (s.startLearn w).flt.learning ∧ (s.startLearn w).trk = s.trk := by
  have heq : s.startLearn w = (s.withLearning (w :: s.flt.learning.filter fun x => x != w)).setActive kLearn true := rfl
  have hmem : w ∈ (s.withLearning (w :: s.flt.learning.filter fun x => x != w)).flt.learning := List.mem_cons_self
  have htrk : (s.withLearning (w :: s.flt.learning.filter fun x => x != w)).trk = s.trk := rfl
  have hframe := CorrFrame.withLearning w [Reg.FLT.LEDGER.ACTIVE] s (w :: s.flt.learning.filter fun x => x != w)
  rw [heq]
  generalize s.withLearning (w :: s.flt.learning.filter fun x => x != w) = u at *
  have hset := u.setActive_frame kLearn true
  refine ⟨hframe.then_fields hset, u.active_setActive true (by decide), ?_, ?_⟩
  · rw [hset.1]
    exact hmem
  · rw [hset.1]
    exact htrk

theorem State.endLearn_shows (s : State) (w : Nat) : CorrFrame w [Reg.FLT.LEDGER.ACTIVE] s (s.endLearn w) ∧
    w ∉ (s.endLearn w).flt.learning ∧ ((s.endLearn w).active kLearn = true ↔ (s.endLearn w).flt.learning ≠ []) ∧
    (s.endLearn w).trk = s.trk := by
  have hnot : w ∉ s.flt.learning.filter fun x => x != w := by simp
  have heq : s.endLearn w = (s.withLearning (s.flt.learning.filter fun x => x != w)).setActive kLearn
    (!(s.flt.learning.filter fun x => x != w).isEmpty) := rfl
  rw [heq]
  generalize s.flt.learning.filter (fun x => x != w) = l at *
  have hset := (s.withLearning l).setActive_frame kLearn (!l.isEmpty)
  have hactive := (s.withLearning l).active_setActive (k := kLearn) (!l.isEmpty) (by decide)
  have hlearning : ((s.withLearning l).setActive kLearn (!l.isEmpty)).flt.learning = l := by rw [hset.1]; rfl
  refine ⟨(CorrFrame.withLearning w _ s l).then_fields hset, ?_, ?_, ?_⟩
  · rw [hlearning]
    exact hnot
  · rw [hactive, hlearning, Bool.not_eq_true', List.isEmpty_eq_false_iff]
  · rw [hset.1]
    rfl

/-! ### Commands (R133, R136) -/

theorem exec_corrCommand {i : Instr} {w : WheelNo} {cmd : Nat} {s : State} (hscan : s.scanning = true)
    (hi : (i = .corrLearn w ∧ cmd = 1) ∨ (i = .corrSwapCmd w ∧ cmd = 2) ∨ (i = .corrAbort w ∧ cmd = 3) ∨ (i = .corrClear w ∧ cmd = 4)) :
    exec i s = run s (s.corrCommand w cmd 0) := by
  have hwhen : ∀ f : State → State, s.when s.scanning f = f s := fun f => by rw [hscan, State.when_true]
  rcases hi with ⟨rfl, rfl⟩ | ⟨rfl, rfl⟩ | ⟨rfl, rfl⟩ | ⟨rfl, rfl⟩
  · exact congrArg (run s) (hwhen _)
  · exact congrArg (run s) (hwhen _)
  · exact congrArg (run s) (hwhen _)
  · exact congrArg (run s) (hwhen _)

theorem exec_corrLearn {w : WheelNo} {s : State} (hscan : s.scanning = true) : exec (.corrLearn w) s = run s (s.corrLearn w 0) :=
  exec_corrCommand hscan (.inl ⟨rfl, rfl⟩)

theorem exec_corrSwapCmd {w : WheelNo} {s : State} (hscan : s.scanning = true) : exec (.corrSwapCmd w) s = run s (s.corrReady w) :=
  exec_corrCommand hscan (.inr (.inl ⟨rfl, rfl⟩))

theorem exec_corrAbort {w : WheelNo} {s : State} (hscan : s.scanning = true) : exec (.corrAbort w) s = run s (s.corrAbort w) :=
  exec_corrCommand hscan (.inr (.inr (.inl ⟨rfl, rfl⟩)))

theorem exec_corrClear {w : WheelNo} {s : State} (hscan : s.scanning = true) : exec (.corrClear w) s = run s (s.corrClear w) :=
  exec_corrCommand hscan (.inr (.inr (.inr ⟨rfl, rfl⟩)))

theorem State.setCorr_shows (s : State) (w : Nat) {v : Nat} (hv : v < 4) :
    OnlyFields [Reg.WHL.CORR_STAT.STATE w] s (s.setCorr w v) ∧ (s.setCorr w v).corrState w = v :=
  ⟨OnlyFields.put s v (by simp) (by simp [FieldRef.ok]), State.get_put_of_lt _ (by simp [FieldRef.ok]) (by simpa using hv)⟩

/-- The tracker of a wheel that begins to learn. -/
def Tracker.learns (x : Tracker) : Tracker :=
  { x with corrSh := [], learnSum := [], learnCur := [], learnOpen := false, learnBad := false, learnPrev := none }

/-- The state of a wheel that begins to learn, before the ledger shows it. -/
def State.learnShown (s : State) (w : Nat) : State :=
  (((s.setTrk w (s.tracker w).learns).put (Reg.WHL.CORR_STAT.REVS_DONE w) 0).put (Reg.WHL.CORR_STAT.RESULT w) 0).put
    (Reg.WHL.CORR_STAT.STATE w) 1

/-- The fields of CORR_STAT that a start of learning writes. -/
def learnFields (w : Nat) : List FieldRef :=
  [Reg.WHL.CORR_STAT.STATE w, Reg.WHL.CORR_STAT.REVS_DONE w, Reg.WHL.CORR_STAT.RESULT w, Reg.FLT.LEDGER.ACTIVE]

theorem State.learnShown_shows (s : State) (w : Nat) : CorrFrame w (learnFields w) s (s.learnShown w) ∧
    (s.learnShown w).corrState w = 1 ∧ (s.learnShown w).get (Reg.WHL.CORR_STAT.REVS_DONE w) = 0 ∧
    (s.learnShown w).get (Reg.WHL.CORR_STAT.RESULT w) = 0 ∧ (s.learnShown w).tracker w = (s.tracker w).learns := by
  have htrk : (s.setTrk w (s.tracker w).learns).tracker w = (s.tracker w).learns := (s.setTrk_tracker _ _ _).trans (if_pos rfl)
  have hframe := CorrFrame.setTrk w (learnFields w) s (s.tracker w).learns
  unfold State.learnShown
  generalize s.setTrk w (s.tracker w).learns = u at *
  have hput : OnlyFields (learnFields w) u (((u.put (Reg.WHL.CORR_STAT.REVS_DONE w) 0).put (Reg.WHL.CORR_STAT.RESULT w) 0).put
      (Reg.WHL.CORR_STAT.STATE w) 1) :=
    (((OnlyFields.refl _ u).andPut (by simp [learnFields])).andPut (by simp [learnFields])).andPut (by simp [learnFields])
  refine ⟨hframe.then_fields hput, (State.setCorr_shows _ w (by decide)).2, ?_, ?_, ?_⟩
  · rw [State.get_put_apart _ _ (by simp [FieldRef.ok]) (by simp [FieldRef.apart]),
      State.get_put_apart _ _ (by simp [FieldRef.ok]) (by simp [FieldRef.apart]), State.get_put_of_lt _ (by simp [FieldRef.ok]) (by simp)]
  · rw [State.get_put_apart _ _ (by simp [FieldRef.ok]) (by simp [FieldRef.apart]),
      State.get_put_of_lt _ (by simp [FieldRef.ok]) (by simp)]
  · rw [State.put_tracker, State.put_tracker, State.put_tracker, htrk]

theorem learn_outcome {w : WheelNo} {s : State} (hscan : s.scanning = true) (hidle : s.corrState w = 0) (hfree : s.active kSwitch = false) :
    ∃ t, exec (.corrLearn w) s = .next t ∧ t.corrState w = 1 ∧ t.get (Reg.WHL.CORR_STAT.REVS_DONE w) = 0 ∧
      t.get (Reg.WHL.CORR_STAT.RESULT w) = 0 ∧ t.active kLearn = true ∧ w.val ∈ t.flt.learning ∧
      t.tracker w = (s.tracker w).learns ∧ CorrFrame w (learnFields w) s t := by
  have heq : s.corrLearn w 0 = (s.learnShown w).startLearn w := by
    rw [State.corrLearn, State.corrIdle, if_pos hidle, hfree, if_neg Bool.false_ne_true]
    rfl
  obtain ⟨hframe, hstate, hrevs, hresult, htracker⟩ := s.learnShown_shows w
  obtain ⟨hledger, hactive, hmem, htrk⟩ := (s.learnShown w).startLearn_shows w
  rw [exec_corrLearn hscan, heq]
  generalize s.learnShown w = u at *
  generalize u.startLearn w = t at *
  have hall := hframe.trans (hledger.mono (by simp [learnFields]))
  refine ⟨t, hall.run_eq, ?_, ?_, ?_, hactive, hmem, ?_, hall⟩
  · exact (hledger.2.2.get (by simp [FieldRef.ok]) (by simp [FieldRef.apart]; omega)).trans hstate
  · exact (hledger.2.2.get (by simp [FieldRef.ok]) (by simp [FieldRef.apart])).trans hrevs
  · exact (hledger.2.2.get (by simp [FieldRef.ok]) (by simp [FieldRef.apart]; omega)).trans hresult
  · rw [State.tracker, htrk]
    exact htracker

theorem learn_waits {w : WheelNo} {s : State} (hscan : s.scanning = true) (hidle : s.corrState w = 0) (hswitch : s.active kSwitch = true) :
    ∃ t, exec (.corrLearn w) s = .next t ∧ t.corrState w = 3 ∧ t.isQueued kLearn = true ∧ t.isRaised (page .flt 0) 4 ∧
      t.flt = { s.flt with queue := s.flt.queue ++ [⟨kLearn, w, 0⟩] } ∧ t = { s with regs := t.regs, flt := t.flt } ∧
      FieldsKept [Reg.WHL.CORR_STAT.STATE w, Reg.FLT.LEDGER.QUEUED, rawBit (page .flt 0) 4] s t := by
  have heq : s.corrLearn w 0 = (s.put (Reg.WHL.CORR_STAT.STATE w) 3).enqueue kLearn w 0 := by
    rw [State.corrLearn, State.corrIdle, if_pos hidle, hswitch, if_pos rfl]
    rfl
  have hput : OnlyFields [Reg.WHL.CORR_STAT.STATE w] s (s.put (Reg.WHL.CORR_STAT.STATE w) 3) :=
    OnlyFields.put s 3 (by simp) (by simp [FieldRef.ok])
  have hstate : (s.put (Reg.WHL.CORR_STAT.STATE w) 3).corrState w = 3 := State.get_put_of_lt _ (by simp [FieldRef.ok]) (by simp)
  rw [exec_corrLearn hscan, heq]
  generalize s.put (Reg.WHL.CORR_STAT.STATE w) 3 = u at *
  obtain ⟨hqueue, hkept⟩ := (u.enqueue_frame kLearn w 0).of_withQueue
  have hqueued := u.enqueue_queued w 0 (k := kLearn) (by decide)
  have hraised : (u.enqueue kLearn w 0).isRaised (page .flt 0) 4 := State.isRaised_raise _ _ (by decide)
  generalize u.enqueue kLearn w 0 = t at *
  have hflt : t.flt = { s.flt with queue := s.flt.queue ++ [⟨kLearn, w, 0⟩] } := by rw [hqueue, hput.1]
  refine ⟨t, ?_, ?_, hqueued, hraised, hflt, ?_, ?_⟩
  · exact Sys2Proof.Machine.run_eq (by rw [hqueue, hput.1]) (by rw [hqueue, hput.1])
  · exact (hkept.get (by simp [FieldRef.ok]) (by simp [FieldRef.apart, rawBit, page])).trans hstate
  · rw [hqueue, hput.1]
  · exact (hput.2.mono (by simp)).trans (hkept.mono (by simp))

theorem ready_outcome {w : WheelNo} {s : State} (hscan : s.scanning = true) (hidle : s.corrState w = 0) :
    ∃ t, exec (.corrSwapCmd w) s = .next t ∧ t.corrState w = 2 ∧ OnlyFields [Reg.WHL.CORR_STAT.STATE w] s t := by
  have heq : s.corrReady w = s.setCorr w 2 := by rw [State.corrReady, State.corrIdle, if_pos hidle]
  obtain ⟨hframe, hstate⟩ := s.setCorr_shows w (v := 2) (by decide)
  exact ⟨_, (exec_corrSwapCmd hscan).trans ((congrArg (run s) heq).trans hframe.run_eq), hstate, hframe⟩

/-- The wheel without its shadow table. -/
def State.noShadow (s : State) (w : Nat) : State := s.setTrk w { s.tracker w with corrSh := [] }

theorem State.noShadow_tracker (s : State) (w : Nat) : (s.noShadow w).tracker w = { s.tracker w with corrSh := [] } :=
  (s.setTrk_tracker _ _ _).trans (if_pos rfl)

theorem clear_outcome {w : WheelNo} {s : State} (hscan : s.scanning = true) (hidle : s.corrState w = 0) :
    ∃ t, exec (.corrClear w) s = .next t ∧ t.corrState w = 2 ∧ t.tracker w = { s.tracker w with corrSh := [] } ∧
      (∀ k, k ≠ w.val → t.tracker k = s.tracker k) ∧ t = { s with regs := t.regs, trk := t.trk } ∧
      FieldsKept [Reg.WHL.CORR_STAT.STATE w] s t := by
  have heq : s.corrClear w = (s.noShadow w).setCorr w 2 := by
    rw [State.corrClear, State.corrIdle, if_pos hidle]
    rfl
  have htracker := s.noShadow_tracker w
  have hnone : s.noShadow w = { s with trk := (s.noShadow w).trk } := rfl
  have hothers := (CorrFrame.setTrk w [Reg.WHL.CORR_STAT.STATE w] s { s.tracker w with corrSh := [] }).2.1
  have hregs : (s.noShadow w).regs = s.regs := rfl
  rw [exec_corrClear hscan, heq]
  change ∀ k, k ≠ w.val → (s.noShadow w).tracker k = s.tracker k at hothers
  generalize s.noShadow w = u at *
  obtain ⟨hframe, hstate⟩ := u.setCorr_shows w (v := 2) (by decide)
  generalize u.setCorr w 2 = t at *
  have htrk : ∀ k, t.tracker k = u.tracker k := fun k => by rw [State.tracker, State.tracker, hframe.1]
  refine ⟨t, Sys2Proof.Machine.run_eq (by rw [hframe.1, hnone]) (by rw [hframe.1, hnone]), hstate, (htrk _).trans htracker,
    fun k hk => (htrk k).trans (hothers k hk), by rw [hframe.1, hnone], (FieldsKept.of_regs hregs).trans hframe.2⟩

theorem corrIdle_busy {i : Instr} {w : WheelNo} {s : State} (hi : i = .corrLearn w ∨ i = .corrSwapCmd w ∨ i = .corrClear w)
    (hscan : s.scanning = true) (hbusy : s.corrState w ≠ 0) :
    ∃ t, exec i s = .next t ∧ t.get (Reg.WHL.CORR_STAT.RESULT w) = 4 ∧ OnlyFields [Reg.WHL.CORR_STAT.RESULT w] s t := by
  have hframe : OnlyFields [Reg.WHL.CORR_STAT.RESULT w] s (s.put (Reg.WHL.CORR_STAT.RESULT w) 4) :=
    OnlyFields.put s 4 (by simp) (by simp [FieldRef.ok])
  have hidle : ∀ f : State → State, s.corrIdle w f = s.put (Reg.WHL.CORR_STAT.RESULT w) 4 := fun _ => if_neg hbusy
  have hexec : exec i s = run s (s.put (Reg.WHL.CORR_STAT.RESULT w) 4) := by
    rcases hi with rfl | rfl | rfl
    · rw [exec_corrLearn hscan, State.corrLearn, hidle]
    · rw [exec_corrSwapCmd hscan, State.corrReady, hidle]
    · rw [exec_corrClear hscan, State.corrClear, hidle]
  exact ⟨_, hexec.trans hframe.run_eq, State.get_put_of_lt _ (by simp [FieldRef.ok]) (by simp), hframe⟩

/-! ### The end of a shadow, and of learning (R134, R136) -/

/-- The fields that such an end writes. -/
def corrEndFields (w : Nat) : List FieldRef :=
  [Reg.WHL.CORR_STAT.STATE w, Reg.WHL.CORR_STAT.RESULT w, Reg.FLT.LEDGER.ACTIVE, rawBit (page .whl w) 7]

/-- State, result and CORR_DONE, in the order in which ABORT and the end of learning write them. -/
structure CorrEnds (w state result : Nat) (s t : State) : Prop where
  frame : OnlyFields (corrEndFields w) s t
  state : t.corrState w = state
  result : t.get (Reg.WHL.CORR_STAT.RESULT w) = result
  raised : t.isRaised (page .whl w) 7

theorem State.abort_ends (s : State) (w : Nat) :
    CorrEnds w 0 3 s (((s.setCorr w 0).put (Reg.WHL.CORR_STAT.RESULT w) 3).raise (page .whl w) 7) where
  frame := ((OnlyFields.put s 0 (by simp [corrEndFields]) (by simp [FieldRef.ok])).andPut (by simp [corrEndFields])).andRaise
    (by simp [corrEndFields])
  state := by
    rw [State.corrState, State.get_raise_apart _ (by simp [FieldRef.ok]) (.inl (by simp [rawBit]; omega)),
      State.get_put_apart _ _ (by simp [FieldRef.ok]) (by simp [FieldRef.apart])]
    exact (s.setCorr_shows w (by decide)).2
  result := by
    rw [State.get_raise_apart _ (by simp [FieldRef.ok]) (.inl (by simp [rawBit]; omega)),
      State.get_put_of_lt _ (by simp [FieldRef.ok]) (by simp)]
  raised := State.isRaised_raise _ _ (by decide)

theorem State.learned_ends {s : State} {w : Nat} (h : s.isRaised (page .whl w) 7) {state result : Nat} (hs : state < 4)
    (hr : result < 8) : CorrEnds w state result s ((s.put (Reg.WHL.CORR_STAT.RESULT w) result).setCorr w state) where
  frame := (OnlyFields.put s result (by simp [corrEndFields]) (by simp [FieldRef.ok])).andPut (by simp [corrEndFields])
  state := (State.setCorr_shows _ w hs).2
  result := by
    rw [State.setCorr, State.get_put_apart _ _ (by simp [FieldRef.ok]) (by simp [FieldRef.apart]),
      State.get_put_of_lt _ (by simp [FieldRef.ok]) (by simpa using hr)]
  raised := State.isRaised_put_of (State.isRaised_put_of h _ (by simp [FieldRef.ok]) (by simp [page]; omega)) _ (by simp [FieldRef.ok])
    (by simp [page]; omega)

theorem CorrEnds.tracker_eq {w state result : Nat} {s t : State} (h : CorrEnds w state result s t) (k : Nat) :
    t.tracker k = s.tracker k := by rw [State.tracker, State.tracker, h.frame.1]

/-- Such an end, and learning ended. -/
theorem CorrEnds.endLearn {w state result : Nat} {s t : State} (h : CorrEnds w state result s t) :
    (t.endLearn w).corrState w = state ∧ (t.endLearn w).get (Reg.WHL.CORR_STAT.RESULT w) = result ∧
    (t.endLearn w).isRaised (page .whl w) 7 ∧ (∀ k, (t.endLearn w).tracker k = s.tracker k) ∧ w ∉ (t.endLearn w).flt.learning ∧
    ((t.endLearn w).active kLearn = true ↔ (t.endLearn w).flt.learning ≠ []) ∧ CorrFrame w (corrEndFields w) s (t.endLearn w) := by
  obtain ⟨hledger, hnot, hactive, htrk⟩ := t.endLearn_shows w
  have htracker := h.tracker_eq
  obtain ⟨hframe, hstate, hresult, hraised⟩ := h
  generalize t.endLearn w = u at *
  refine ⟨?_, ?_, ?_, fun k => ?_, hnot, hactive, hframe.corrFrame.trans (hledger.mono (by simp [corrEndFields]))⟩
  · exact (hledger.2.2.get (by simp [FieldRef.ok]) (by simp [FieldRef.apart]; omega)).trans hstate
  · exact (hledger.2.2.get (by simp [FieldRef.ok]) (by simp [FieldRef.apart]; omega)).trans hresult
  · exact (hledger.2.2.get (by simp [FieldRef.ok, rawBit]) (by simp [FieldRef.apart, rawBit, page])).trans hraised
  · rw [← htracker k, State.tracker, htrk]
    rfl

theorem abort_outcome {w : WheelNo} {s : State} (hscan : s.scanning = true) (hstate : s.corrState w = 1 ∨ s.corrState w = 2) :
    ∃ t, exec (.corrAbort w) s = .next t ∧ t.corrState w = 0 ∧ t.get (Reg.WHL.CORR_STAT.RESULT w) = 3 ∧
      t.isRaised (page .whl w) 7 ∧ t.tracker w = { s.tracker w with corrSh := [] } ∧ w.val ∉ t.flt.learning ∧
      (t.active kLearn = true ↔ t.flt.learning ≠ []) ∧ CorrFrame w (corrEndFields w) s t := by
  have heq : s.corrAbort w =
      ((((s.noShadow w).setCorr w 0).put (Reg.WHL.CORR_STAT.RESULT w) 3).raise (page .whl w) 7).endLearn w := by
    rw [State.corrAbort, if_neg (by omega), if_neg (by omega)]
    rfl
  obtain ⟨hzero, hresult, hraised, htracker, hnot, hactive, hframe⟩ := ((s.noShadow w).abort_ends w).endLearn
  rw [exec_corrAbort hscan, heq]
  have hall : CorrFrame w (corrEndFields w) s _ := (CorrFrame.setTrk w _ s { s.tracker w with corrSh := [] }).trans hframe
  exact ⟨_, hall.run_eq, hzero, hresult, hraised, (htracker w).trans (s.noShadow_tracker w), hnot, hactive, hall⟩

/-- The mean is inside the range that a table can hold. -/
def State.meanFits (s : State) (w : Nat) : Bool :=
  (s.tracker w).learnSum.all fun e => decide (-512 ≤ roundDiv e.2 (s.get (Reg.WHL.CORR_CTL.LEARN_REVS w)) ∧
    roundDiv e.2 (s.get (Reg.WHL.CORR_CTL.LEARN_REVS w)) ≤ 511)

/-- The rounded means, without those that are 0 (R134). -/
def State.learnMean (s : State) (w : Nat) : Sparse Int :=
  ((s.tracker w).learnSum.map fun e => (e.1, roundDiv e.2 (s.get (Reg.WHL.CORR_CTL.LEARN_REVS w)))).filter fun e => e.2 != 0

/-- The wheel with another shadow, CORR_DONE raised. -/
def State.withShadow (s : State) (w : Nat) (m : Sparse Int) : State :=
  (s.raise (page .whl w) 7).setTrk w { s.tracker w with corrSh := m }

theorem State.withShadow_shows (s : State) (w : Nat) (m : Sparse Int) : CorrFrame w (corrEndFields w) s (s.withShadow w m) ∧
    (s.withShadow w m).isRaised (page .whl w) 7 ∧ (s.withShadow w m).tracker w = { s.tracker w with corrSh := m } ∧
    (s.withShadow w m).flt = s.flt := by
  have hraise : OnlyFields (corrEndFields w) s (s.raise (page .whl w) 7) := (OnlyFields.refl _ s).andRaise (by simp [corrEndFields])
  exact ⟨hraise.corrFrame.trans (CorrFrame.setTrk w _ _ _), s.isRaised_raise _ (by decide), (State.setTrk_tracker _ _ _ _).trans (if_pos rfl),
    rfl⟩

theorem State.learnDone_eq {s : State} {w : Nat} (hstate : s.corrState w = 1)
    (hrevs : s.get (Reg.WHL.CORR_CTL.LEARN_REVS w) ≤ s.get (Reg.WHL.CORR_STAT.REVS_DONE w)) : s.learnDone w =
      if s.meanFits w then ((s.withShadow w (s.learnMean w)).put (Reg.WHL.CORR_STAT.RESULT w) 1).setCorr w 2
      else (((s.withShadow w []).put (Reg.WHL.CORR_STAT.RESULT w) 2).setCorr w 0).endLearn w := by
  have hfits : (((s.tracker w).learnSum.map fun e => (e.1, roundDiv e.2 (s.get (Reg.WHL.CORR_CTL.LEARN_REVS w)))).all
      fun e => decide (-512 ≤ e.2) && decide (e.2 ≤ 511)) = s.meanFits w := by
    rw [List.all_map, State.meanFits]
    congr 1
    funext e
    exact (Bool.decide_and _ _).symm
  unfold State.learnDone
  dsimp only
  rw [if_neg (by omega), hfits]
  rfl

theorem learnDone_outcome {w : WheelNo} {s : State} (hscan : s.scanning = true) (hstate : s.corrState w = 1)
    (hrevs : s.get (Reg.WHL.CORR_CTL.LEARN_REVS w) ≤ s.get (Reg.WHL.CORR_STAT.REVS_DONE w)) :
    ∃ t, exec (.learnDone w) s = .next t ∧ t.isRaised (page .whl w) 7 ∧ (t.tracker w).corrFg = (s.tracker w).corrFg ∧
      (if s.meanFits w = true then t.corrState w = 2 ∧ t.get (Reg.WHL.CORR_STAT.RESULT w) = 1 ∧ t.flt = s.flt ∧
          (t.tracker w).corrSh = s.learnMean w
       else t.corrState w = 0 ∧ t.get (Reg.WHL.CORR_STAT.RESULT w) = 2 ∧ (t.tracker w).corrSh = [] ∧ w.val ∉ t.flt.learning) ∧
      CorrFrame w (corrEndFields w) s t := by
  have hexec : exec (.learnDone w) s = run s (s.when s.scanning fun u => u.learnDone w) := rfl
  rw [hscan, State.when_true, State.learnDone_eq hstate hrevs] at hexec
  cases hfits : s.meanFits w with
  | true =>
    obtain ⟨hshadow, hraised, htracker, hflt⟩ := s.withShadow_shows w (s.learnMean w)
    have hends := State.learned_ends hraised (state := 2) (result := 1) (by decide) (by decide)
    rw [hfits, if_pos rfl] at hexec
    generalize s.withShadow w (s.learnMean w) = u at *
    have htrk := (hends.tracker_eq w).trans htracker
    obtain ⟨hframe, hcorr, hresult, hdone⟩ := hends
    generalize (u.put (Reg.WHL.CORR_STAT.RESULT w) 1).setCorr w 2 = t at *
    have hall := hshadow.then_fields hframe
    refine ⟨t, hexec.trans hall.run_eq, hdone, by rw [htrk], ?_, hall⟩
    rw [if_pos rfl, htrk]
    exact ⟨hcorr, hresult, by rw [hframe.1]; exact hflt, rfl⟩
  | false =>
    obtain ⟨hshadow, hraised, htracker, -⟩ := s.withShadow_shows w []
    have hends := (State.learned_ends hraised (state := 0) (result := 2) (by decide) (by decide)).endLearn
    rw [hfits, if_neg Bool.false_ne_true] at hexec
    generalize s.withShadow w [] = u at *
    generalize ((u.put (Reg.WHL.CORR_STAT.RESULT w) 2).setCorr w 0).endLearn w = t at *
    obtain ⟨hcorr, hresult, hdone, hkept, hnot, -, hframe⟩ := hends
    have htrk := (hkept w).trans htracker
    have hall := hshadow.trans hframe
    refine ⟨t, hexec.trans hall.run_eq, hdone, by rw [htrk], ?_, hall⟩
    rw [if_neg Bool.false_ne_true, htrk]
    exact ⟨hcorr, hresult, rfl, hnot⟩

/-- Settles O16. That SWAP, CLEAR and LEARN meet BUSY while a learning is queued is read from R392 (log entry 86); that LEARN sets
RESULT to 0 is the model's choice. -/
theorem correctionTables : Obligations.CorrectionTables := by
  unfold Obligations.CorrectionTables
  refine ⟨fun w s hscan hidle hfree => ?_, fun w s hscan hidle hswitch => learn_waits hscan hidle hswitch,
    fun w s hscan hidle => ⟨ready_outcome hscan hidle, clear_outcome hscan hidle⟩,
    fun i w s hi hscan hbusy => corrIdle_busy hi hscan hbusy, fun w s hscan hstate => ?_, fun w s hscan hstate hrevs => ?_⟩
  · obtain ⟨t, hexec, hstate, hrevs, hresult, hactive, hmem, htracker, hframe, hothers, hkept⟩ := learn_outcome hscan hidle hfree
    exact ⟨t, hexec, hstate, hrevs, hresult, hactive, hmem, htracker, hothers, hframe, hkept⟩
  · obtain ⟨t, hexec, hzero, hresult, hraised, htracker, hnot, hactive, hframe, hothers, hkept⟩ := abort_outcome hscan hstate
    exact ⟨t, hexec, hzero, hresult, hraised, htracker, hnot, hactive, hothers, hframe, hkept⟩
  · obtain ⟨t, hexec, hraised, hfg, hends, hframe, hothers, hkept⟩ := learnDone_outcome hscan hstate hrevs
    exact ⟨t, hexec, hraised, hfg, hends, hothers, hframe, hkept⟩

end Sys2Proof.Machine
end

section
/-! PROOFS. The end of a pulse under the fence of the outputs (chapter 3: R107; chapter 15: R386). -/

namespace Sys2Proof.Machine

/-- A pulse of the first compare output under way while the fence of R386 holds every output. -/
def fencedPulse : State :=
  { State.reset with
    inp := [(0, { InpCh.reset with pulse0 := some 0 })]
    eps := [(epQ 0, { Ep.reset with level := true })]
    flt := { Flt.reset with ioSafe := true } }

/-- Edges that a command leaves. -/
def edgesAfter (i : Instr) (s : State) : Nat :=
  match exec i s with
  | .next t => t.edges.length
  | _ => 0

theorem fencedPulse_noEdge : edgesAfter (.comparePulseEnd 0 false) fencedPulse = 0 := by decide

/-- Refutes O11: under the fence of the outputs (R386) a pulse that ends gives no edge, and the first clause asks for one without a
premise that the fence is open. -/
theorem not_pulsesEndInTime : ¬ Obligations.PulsesEndInTime := by
  unfold Obligations.PulsesEndInTime
  rintro ⟨hends, -⟩
  obtain ⟨t, hexec, -, -, hedges, -⟩ := hends 0 false 0 fencedPulse rfl (by decide) (by decide)
  have hnone := fencedPulse_noEdge
  rw [edgesAfter, hexec] at hnone
  dsimp only at hnone
  rw [hedges] at hnone
  exact absurd hnone (by simp)

end Sys2Proof.Machine
end

section
/-! PROOFS. Drive channels under the fence of the outputs (chapter 8: R242, R250; chapter 15: R386). -/

namespace Sys2Proof.Machine

/-- An event is about to start while the fence of R386 holds every output. -/
def fencedStart : State :=
  { State.reset with
    drv := [(0, { Drv.reset with event := some ⟨0, false, 0, 0⟩ })]
    flt := { Flt.reset with ioSafe := true } }

theorem fencedStart_noEdge : edgesAfter (.driveEventStart 0) fencedStart = 0 := by decide

/-- Refutes O35: under the fence of the outputs (R386) an event that starts gives no edge of its gate, and the first clause asks for
one without a premise that the fence is open. -/
theorem not_driveEventBeginsAndEnds : ¬ Obligations.DriveEventBeginsAndEnds := by
  unfold Obligations.DriveEventBeginsAndEnds
  rintro ⟨hbegins, -⟩
  obtain ⟨t, hexec, -, -, -, -, -, -, hedges, -⟩ :=
    hbegins 0 0 ⟨0, false, 0, 0⟩ fencedStart (by decide) rfl rfl (by decide) (by decide) rfl
  have hnone := fencedStart_noEdge
  rw [edgesAfter, hexec] at hnone
  dsimp only at hnone
  rw [hedges] at hnone
  exact absurd hnone (by simp)

/-- A gate is high while the fence of R386 holds every output. -/
def fencedGate : State := State.put { State.reset with flt := { Flt.reset with ioSafe := true } } (Reg.DRV.STAT.GATE 0) 1

theorem fencedGate_noEdge : edgesAfter (.comparatorTransition 0 10000000 0) fencedGate = 0 := by decide

/-- Refutes O36: under the fence of the outputs (R386) a gate that falls with the latch gives no edge, and the last clause asks for one
without a premise that the fence is open. -/
theorem not_regulationAndTrip : ¬ Obligations.RegulationAndTrip := by
  unfold Obligations.RegulationAndTrip
  rintro ⟨-, -, -, -, -, hlatch⟩
  obtain ⟨t, hexec, -, -, -, hedges, -⟩ :=
    hlatch 0 10000000 0 fencedGate (by decide) rfl (by decide) rfl (by decide) (by decide)
  have hnone := fencedGate_noEdge
  rw [edgesAfter, hexec] at hnone
  dsimp only at hnone
  rw [hedges, if_pos (by decide)] at hnone
  exact absurd hnone (by simp)

end Sys2Proof.Machine
end

section
/-! PROOFS. Duty bins and the window of the dip detector (chapter 8: R245, R255). -/

namespace Sys2Proof.Machine

/-! ### Duty bins (R245) -/

theorem dutyBinRoll_outcome {n : DrvNo} {s : State} (h : s.tick % s.binTicks n = 0) :
    ∃ t, exec (.dutyBinRoll n) s = .next t ∧
      t.drive n = { s.drive n with ons := (s.drive n).ons.filter (fun e => decide (s.dutyFrom n s.now < e.2)) } ∧
      (∀ k, k ≠ n.val → t.drive k = s.drive k) ∧ t = { s with drv := t.drv } := by
  have hexec : exec (.dutyBinRoll n) s = run s (s.when (s.tick % s.binTicks n == 0) fun u =>
      u.setDrv n { u.drive n with ons := (u.drive n).ons.filter fun e => decide (u.dutyFrom n u.now < e.2) }) := rfl
  rw [beq_iff_eq.2 h, State.when_true] at hexec
  exact ⟨_, hexec, (State.setDrv_drive _ _ _ _).trans (if_pos rfl), fun k hk => (State.setDrv_drive _ _ _ _).trans (if_neg hk), rfl⟩

/-! ### The window of the dip detector (R255) -/

/-- What a detector shows that ends without a find. -/
def State.dipShown (s : State) (n : Nat) (r : DipRes) : State :=
  ((((s.put (Reg.DRV.DIP_LAST.STATUS n) r.status).put (Reg.DRV.DIP_LAST.DEPTH n) r.depth).put (Reg.DRV.DIP_T_MAX.TICK n) r.tMax).put
    (Reg.DRV.DIP_T_MIN.TICK n) r.tMin)

/-- The channel without its detector, its result kept. -/
def State.dipEnded (s : State) (n : Nat) (r : DipRes) : State := s.setDrv n { s.drive n with dip := none, dipRes := some r }

/-- The fields that such an end writes. -/
def dipFields (n : Nat) : List FieldRef :=
  [Reg.DRV.DIP_LAST.STATUS n, Reg.DRV.DIP_LAST.DEPTH n, Reg.DRV.DIP_T_MAX.TICK n, Reg.DRV.DIP_T_MIN.TICK n, Reg.DRV.FLAGS.DIP_NONE n,
    rawBit (page .drv n) 7]

theorem State.dipDone_none (s : State) (n : Nat) {r : DipRes} (h : r.status = 2) :
    s.dipDone n r = (((s.dipShown n r).dipEnded n r).put (Reg.DRV.FLAGS.DIP_NONE n) 1).raise (page .drv n) 7 := by
  unfold State.dipDone
  dsimp only
  rw [if_neg (by rw [h]; decide)]
  rfl

theorem State.dipShown_shows (s : State) (n : Nat) {r : DipRes} (h : r.status = 2) :
    OnlyFields (dipFields n) s (s.dipShown n r) ∧ (s.dipShown n r).get (Reg.DRV.DIP_LAST.STATUS n) = 2 := by
  constructor
  · exact ((((OnlyFields.refl _ s).andPut (by simp [dipFields])).andPut (by simp [dipFields])).andPut (by simp [dipFields])).andPut
      (by simp [dipFields])
  · rw [State.dipShown, State.get_put_apart _ _ (by simp [FieldRef.ok]) (by simp [FieldRef.apart]),
      State.get_put_apart _ _ (by simp [FieldRef.ok]) (by simp [FieldRef.apart]),
      State.get_put_apart _ _ (by simp [FieldRef.ok]) (by simp [FieldRef.apart]), h,
      State.get_put_of_lt _ (by simp [FieldRef.ok]) (by simp)]

theorem State.dipDone_shows (s : State) (n : Nat) {r : DipRes} (h : r.status = 2) :
    s.dipDone n r = { s with regs := (s.dipDone n r).regs, drv := (s.dipDone n r).drv } ∧
    FieldsKept (dipFields n) s (s.dipDone n r) ∧ (s.dipDone n r).drive n = { s.drive n with dip := none, dipRes := some r } ∧
    (∀ k, k ≠ n → (s.dipDone n r).drive k = s.drive k) ∧ (s.dipDone n r).get (Reg.DRV.DIP_LAST.STATUS n) = 2 ∧
    (s.dipDone n r).get (Reg.DRV.FLAGS.DIP_NONE n) = 1 ∧ (s.dipDone n r).isRaised (page .drv n) 7 := by
  obtain ⟨hshown, hstatus⟩ := s.dipShown_shows n h
  rw [s.dipDone_none n h]
  generalize s.dipShown n r = u at *
  have hdrive : ∀ k, u.drive k = s.drive k := fun k => by rw [State.drive, State.drive, hshown.1]
  have hself : (u.dipEnded n r).drive n = { s.drive n with dip := none, dipRes := some r } := by
    rw [State.dipEnded, State.setDrv_drive, if_pos rfl, hdrive]
  have hothers : ∀ k, k ≠ n → (u.dipEnded n r).drive k = s.drive k := fun k hk => by
    rw [State.dipEnded, State.setDrv_drive, if_neg hk, hdrive]
  have hended : u.dipEnded n r = { u with drv := (u.dipEnded n r).drv } := rfl
  have hfields : ∀ f, (u.dipEnded n r).get f = u.get f := fun f => State.get_of_regs (State.setDrv_regs _ _ _) f
  generalize u.dipEnded n r = v at *
  have hget : v.get (Reg.DRV.DIP_LAST.STATUS n) = 2 := (hfields _).trans hstatus
  have hflag : OnlyFields (dipFields n) v ((v.put (Reg.DRV.FLAGS.DIP_NONE n) 1).raise (page .drv n) 7) :=
    ((OnlyFields.refl _ v).andPut (by simp [dipFields])).andRaise (by simp [dipFields])
  have hstays : ((v.put (Reg.DRV.FLAGS.DIP_NONE n) 1).raise (page .drv n) 7).get (Reg.DRV.DIP_LAST.STATUS n) = 2 := by
    rw [State.get_raise_apart _ (by simp [FieldRef.ok]) (.inl (by simp [rawBit]; omega)),
      State.get_put_apart _ _ (by simp [FieldRef.ok]) (by simp [FieldRef.apart]), hget]
  have hnone : ((v.put (Reg.DRV.FLAGS.DIP_NONE n) 1).raise (page .drv n) 7).get (Reg.DRV.FLAGS.DIP_NONE n) = 1 := by
    rw [State.get_raise_apart _ (by simp [FieldRef.ok]) (.inl (by simp [rawBit]; omega)),
      State.get_put_of_lt _ (by simp [FieldRef.ok]) (by simp)]
  have hraised : ((v.put (Reg.DRV.FLAGS.DIP_NONE n) 1).raise (page .drv n) 7).isRaised (page .drv n) 7 :=
    State.isRaised_raise _ _ (by decide)
  generalize (v.put (Reg.DRV.FLAGS.DIP_NONE n) 1).raise (page .drv n) 7 = t at *
  have htdrive : ∀ k, t.drive k = v.drive k := fun k => by rw [State.drive, State.drive, hflag.1]
  have hregs : v.regs = u.regs := by rw [hended]
  refine ⟨?_, (hshown.2.andSame hregs).trans hflag.2, (htdrive n).trans hself, fun k hk => (htdrive k).trans (hothers k hk), hstays,
    hnone, hraised⟩
  rw [hflag.1, hended, hshown.1]

/-- What the detector without a find is given: free values. -/
def State.dipFree (s : State) (x : Dip) : DipRes :=
  ⟨x.ev, 2, (Config.freeWord s.freeCtr).toNat, (Config.freeWord (s.freeCtr + 1)).toNat, (Config.freeWord (s.freeCtr + 2)).toNat % 1024⟩

theorem State.dipNone_eq (s : State) (n : Nat) (x : Dip) :
    s.dipNone n x = State.dipDone { s with freeCtr := s.freeCtr + 3 } n (s.dipFree x) := rfl

theorem dipWindowEnd_outcome {n : DrvNo} {x : Dip} {s : State} (hdip : (s.drive n).dip = some x)
    (hover : x.ev / 128 + s.get (Reg.DRV.DIP_WIN.WIN n) < s.tick) :
    ∃ t, exec (.dipWindowEnd n) s = .next t ∧ t.drive n = { s.drive n with dip := none, dipRes := (t.drive n).dipRes } ∧
      (∃ r, (t.drive n).dipRes = some r ∧ r.status = 2 ∧ r.ev = x.ev) ∧ t.get (Reg.DRV.DIP_LAST.STATUS n) = 2 ∧
      t.get (Reg.DRV.FLAGS.DIP_NONE n) = 1 ∧ t.isRaised (page .drv n) 7 ∧
      (∀ k, k ≠ n.val → t.drive k = s.drive k) ∧ t = { s with regs := t.regs, drv := t.drv, freeCtr := s.freeCtr + 3 } ∧
      FieldsKept (dipFields n) s t := by
  have hexec : exec (.dipWindowEnd n) s = run s (s.dipOver n) := rfl
  have hends : s.dipOver n = s.dipNone n x := by
    simp only [State.dipOver, hdip]
    rw [if_pos (by rw [decide_eq_true hover, Bool.true_or])]
  obtain ⟨hstate, hkept, hself, hothers, hstatus, hnone, hraised⟩ :=
    State.dipDone_shows { s with freeCtr := s.freeCtr + 3 } n (r := s.dipFree x) rfl
  rw [hexec, hends, s.dipNone_eq]
  generalize State.dipDone { s with freeCtr := s.freeCtr + 3 } n (s.dipFree x) = t at *
  refine ⟨t, Sys2Proof.Machine.run_eq (by rw [hstate]) (by rw [hstate]), ?_, ⟨s.dipFree x, by rw [hself], rfl, rfl⟩, hstatus, hnone,
    hraised, hothers, hstate, (FieldsKept.of_regs rfl).trans hkept⟩
  rw [hself]
  rfl

/-- Settles O37. When the detector ends is read from R255 (log entry 94); the values that it then shows are free, drawn from an opaque
constant (log entry 3). -/
theorem dutyBinsAndDipWindow : Obligations.DutyBinsAndDipWindow :=
  ⟨fun _ _ h => dutyBinRoll_outcome h, fun _ _ _ hdip hover => dipWindowEnd_outcome hdip hover⟩

end Sys2Proof.Machine
end

section
/-! PROOFS. Delivery of edges and words, and the ends of serial words (chapter 3: R83, R84, R93 to R97, R101, R422). -/

section
open Sys2Proof Sys2Proof.Machine

/-! ### Frames of an input channel with provenance -/

theorem InpFrame.mono {ch : Nat} {fs gs : List FieldRef} {s t : State} (h : InpFrame ch fs s t) (hs : ∀ f ∈ fs, f ∈ gs) :
    InpFrame ch gs s t := ⟨h.1, h.2.1, h.2.2.mono hs⟩

theorem InpFrame.get {ch : Nat} {fs : List FieldRef} {s t : State} (h : InpFrame ch fs s t) {g : FieldRef} (ok : g.ok)
    (ha : ∀ f ∈ fs, f.apart g) : t.get g = s.get g := h.2.2.get ok ha

theorem InpFrame.prov {ch : Nat} {fs : List FieldRef} {s t : State} (h : InpFrame ch fs s t) : InpProvFrame ch fs s t := by
  obtain ⟨hstate, hothers, hkept⟩ := h
  have hcarts : t.carts = s.carts := by rw [hstate]
  have hrecd : t.recd = s.recd := by rw [hstate]
  refine ⟨?_, fun _ => ⟨hcarts, hrecd⟩, hothers, hkept⟩
  rw [hcarts, hrecd]
  exact hstate

theorem InpProvFrame.trans {ch : Nat} {fs : List FieldRef} {s t u : State} (h : InpProvFrame ch fs s t) (k : InpProvFrame ch fs t u)
    (hon : t.provOn = s.provOn) : InpProvFrame ch fs s u := by
  obtain ⟨hst, hoff, hothers, hkept⟩ := h
  obtain ⟨htu, hoff', hothers', hkept'⟩ := k
  refine ⟨by rw [htu, hst], fun hp => ?_, fun n hn => (hothers' n hn).trans (hothers n hn), hkept.trans hkept'⟩
  obtain ⟨hcarts, hrecd⟩ := hoff hp
  obtain ⟨hcarts', hrecd'⟩ := hoff' (hon.trans hp)
  exact ⟨hcarts'.trans hcarts, hrecd'.trans hrecd⟩

theorem InpProvFrame.then_inp {ch : Nat} {fs : List FieldRef} {s t u : State} (h : InpProvFrame ch fs s t) (k : InpFrame ch fs t u) :
    InpProvFrame ch fs s u := by
  obtain ⟨hst, hoff, hothers, hkept⟩ := h
  have hcarts : u.carts = t.carts := k.carts_eq
  have hrecd : u.recd = t.recd := k.recd_eq
  obtain ⟨htu, hothers', hkept'⟩ := k
  refine ⟨?_, fun hp => ?_, fun n hn => (hothers' n hn).trans (hothers n hn), hkept.trans hkept'⟩
  · rw [hcarts, hrecd, htu, hst]
  · rw [hcarts, hrecd]
    exact hoff hp

theorem InpProvFrame.mono {ch : Nat} {fs gs : List FieldRef} {s t : State} (h : InpProvFrame ch fs s t) (hs : ∀ f ∈ fs, f ∈ gs) :
    InpProvFrame ch gs s t := ⟨h.1, h.2.1, h.2.2.1, h.2.2.2.mono hs⟩

theorem InpProvFrame.run_eq {ch : Nat} {fs : List FieldRef} {s t : State} (h : InpProvFrame ch fs s t) : run s t = .next t :=
  Sys2Proof.Machine.run_eq (by rw [h.1]) (by rw [h.1])

theorem InpProvFrame.get {ch : Nat} {fs : List FieldRef} {s t : State} (h : InpProvFrame ch fs s t) {g : FieldRef} (ok : g.ok)
    (ha : ∀ f ∈ fs, f.apart g) : t.get g = s.get g := h.2.2.2.get ok ha

end

namespace Sys2Proof.Machine

theorem OnlyCarts.inpProvFrame {s t : State} (h : OnlyCarts s t) (hoff : s.provOn = false → t = s) (ch : Nat) (fs : List FieldRef) :
    InpProvFrame ch fs s t := by
  refine ⟨?_, fun hp => ?_, fun k _ => h.inpCh_eq k, FieldsKept.of_regs h.regs_eq⟩
  · rw [h]
  · rw [hoff hp]
    exact ⟨rfl, rfl⟩

theorem OneCart.to_same {typ cls at_ : Nat} {s t u : State} (h : OneCart typ cls at_ s t) (hc : u.carts = t.carts)
    (hr : u.recd = t.recd) : OneCart typ cls at_ s u := by
  simpa only [OneCart, State.seqOf, hc, hr] using h

/-! ### The page of a channel and the rest -/

/-- A field outside the input channels' pages. -/
def OffInputs (g : FieldRef) : Prop := g.addr < page .inp 0 ∨ page .inp 48 ≤ g.addr

/-- Every field of a list lies in the page of a channel. -/
def OnChannel (ch : Nat) (fs : List FieldRef) : Prop := ∀ f ∈ fs, page .inp ch ≤ f.addr ∧ f.addr < page .inp ch + 0x1000

theorem OnChannel.apart {ch : Nat} {fs : List FieldRef} (h : OnChannel ch fs) (hch : ch < 48) {g : FieldRef} (hg : OffInputs g) :
    ∀ f ∈ fs, f.apart g := by
  intro f hf
  obtain ⟨hlow, hhigh⟩ := h f hf
  refine .inl fun heq => ?_
  simp only [OffInputs, page, Block.base] at hlow hhigh hg
  omega

/-! ### Delivery (R83, R84) -/

theorem State.compareMove_off {s : State} {ch : Nat} (h : (s.inpCh ch).ownsQ = false) (hit : Nat → Bool) (rev : Bool) (cap : Nat) :
    s.compareMove ch hit rev cap = s := by
  unfold State.compareMove
  rw [if_pos (.inl (by rw [h]; rfl))]

/-- The fields that a delivery writes. -/
def deliverFields (ch : Nat) : List FieldRef :=
  [Reg.INP.LATCH_POS.POS ch, Reg.INP.DIRCHG_CNT.COUNT ch, rawBit (page .inp ch) 12]

/-- The direction of a delivery differs from that of the one before. -/
def InpCh.turns (c : InpCh) (rev : Bool) : Bool :=
  match c.prevDir with
  | some d => d != rev
  | none => false

/-- The edge that waits for Track. -/
def InpCh.edgeOf (c : InpCh) (ts n : Nat) (rev : Bool) : DEdge := ⟨ts, n, rev, c.turns rev, c.noPeriod, c.index⟩

/-- The channel after a delivery. -/
def InpCh.delivered (c : InpCh) (ts n : Nat) (rev : Bool) : InpCh :=
  { c with
    edges := c.edges ++ [c.edgeOf ts n rev]
    admitted := c.admitted + 1
    prevDir := some rev
    index := none
    noPeriod := false
    latchTs := ts
    latchDir := rev
    latchDirChg := c.turns rev
    latchNoPer := c.noPeriod
    fresh := true }

/-- A change of direction counted. -/
def State.turnCounted (s : State) (ch : Nat) (rev : Bool) : State :=
  if (s.inpCh ch).turns rev then (s.bump (Reg.INP.DIRCHG_CNT.COUNT ch)).raise (page .inp ch) 12 else s

theorem State.turnCounted_frame (s : State) (ch : Nat) (rev : Bool) : OnlyFields (deliverFields ch) s (s.turnCounted ch rev) := by
  unfold State.turnCounted
  split
  · exact ((OnlyFields.refl _ s).andBump (by simp [deliverFields])).andRaise (by simp [deliverFields])
  · exact OnlyFields.refl _ s

theorem State.deliver_eq {s : State} {ch : Nat} (h : (s.inpCh ch).admitted < 16) (ts : Nat) (rev : Bool) :
    s.deliver ch ts rev = ((s.turnCounted ch rev).setReg (Reg.INP.LATCH_POS.POS ch).addr
      (BitVec.ofNat 32 ((s.turnCounted ch rev).count ch))).setInp ch
        ((s.inpCh ch).delivered ts ((s.turnCounted ch rev).count ch) rev) := by
  unfold State.deliver
  dsimp only
  rw [if_neg (by omega)]
  rfl

theorem State.deliver_shows {s : State} {ch : Nat} (h : (s.inpCh ch).admitted < 16) (ts : Nat) (rev : Bool) :
    InpFrame ch (deliverFields ch) s (s.deliver ch ts rev) ∧
    (s.deliver ch ts rev).inpCh ch = (s.inpCh ch).delivered ts (s.count ch) rev ∧
    (s.deliver ch ts rev).get (Reg.INP.LATCH_POS.POS ch) = s.count ch := by
  have hturn := s.turnCounted_frame ch rev
  have hcount : (s.turnCounted ch rev).count ch = s.count ch :=
    hturn.get (by simp [FieldRef.ok]) (by simp [deliverFields, FieldRef.apart, rawBit]; omega)
  rw [State.deliver_eq h, hcount]
  generalize s.turnCounted ch rev = u at *
  have hset : FieldsKept (deliverFields ch) u (u.setReg (Reg.INP.LATCH_POS.POS ch).addr (BitVec.ofNat 32 (s.count ch))) :=
    (FieldsKept.setReg u _ _).mono (by simp [deliverFields])
  have hlatch : InpFrame ch (deliverFields ch) u (u.setReg (Reg.INP.LATCH_POS.POS ch).addr (BitVec.ofNat 32 (s.count ch))) :=
    ⟨rfl, fun _ _ => rfl, hset⟩
  have hlt : s.count ch < 2 ^ 32 := Word.bits_lt _ _ _
  refine ⟨((InpFrame.of_fields hturn ch).trans hlatch).trans (InpFrame.setInp ch _ _ _), ?_, ?_⟩
  · rw [State.setInp_inpCh, if_pos rfl]
  · rw [State.setInp_get, State.get, State.setReg_reg, if_pos rfl, Word.bits, BitVec.toNat_ofNat, Nat.mod_eq_of_lt hlt]
    simpa using hlt

/-! ### The end of a serial word, up to its delivery (R96, R422) -/

/-- The bits of a word, as kept. -/
def State.rawShown (s : State) (ch raw : Nat) : State :=
  (s.put (Reg.INP.SER_RAW_LO.BITS ch) raw).put (Reg.INP.SER_RAW_HI.BITS ch) (raw / 2 ^ 32)

/-- No word is in progress any more. -/
def State.wordOver (s : State) (ch : Nat) : State :=
  (s.setInp ch { s.inpCh ch with word := none }).put (Reg.INP.CH_STAT.WORD_BUSY ch) 0

/-- A word whose bits and flag are shown: its provenance, and its end. -/
def State.wordRecorded (s : State) (ch outcome raw latch : Nat) : State := (s.provSerial ch outcome raw latch).wordOver ch

theorem State.wordEnd_bad (s : State) (ch : Nat) (w : SerWord) (raw pos cap : Nat) {outcome : Nat} (h : outcome ≠ 0 ∧ outcome ≠ 5) :
    s.wordEnd ch w raw outcome pos cap =
      ((((s.rawShown ch raw).serFlag ch outcome).wordRecorded ch outcome raw w.latch).onInp ch
        fun c => { c with noPeriod := true }).enterMode ch := by
  unfold State.wordEnd
  dsimp only
  rw [if_neg (by omega)]
  rfl

theorem State.wordEnd_good (s : State) (ch : Nat) (w : SerWord) (raw pos cap : Nat) :
    s.wordEnd ch w raw 0 pos cap =
      (((s.rawShown ch raw).wordRecorded ch 0 raw w.latch).wordDelivered ch pos ((w.latch : Int) + w.comp).toNat cap).enterMode ch := by
  unfold State.wordEnd
  dsimp only
  rw [if_pos (.inl rfl)]
  rfl

theorem State.enterMode_same {s : State} {ch : Nat} (h : (s.inpCh ch).mode = s.get (Reg.INP.CFG.MODE ch)) : s.enterMode ch = s :=
  if_pos h

/-- The fields that hold a word's bits and its end. -/
def wordFields (ch : Nat) : List FieldRef :=
  [Reg.INP.SER_RAW_LO.BITS ch, Reg.INP.SER_RAW_HI.BITS ch, Reg.INP.CH_STAT.WORD_BUSY ch]

theorem State.rawShown_shows (s : State) (ch : Nat) {raw : Nat} (h : raw < 2 ^ 41) :
    OnlyFields (wordFields ch) s (s.rawShown ch raw) ∧ (s.rawShown ch raw).get (Reg.INP.SER_RAW_LO.BITS ch) = raw % 2 ^ 32 ∧
    (s.rawShown ch raw).get (Reg.INP.SER_RAW_HI.BITS ch) = raw / 2 ^ 32 := by
  refine ⟨((OnlyFields.refl _ s).andPut (by simp [wordFields])).andPut (by simp [wordFields]), ?_, ?_⟩
  · rw [State.rawShown, State.get_put_apart _ _ (by simp [FieldRef.ok]) (by simp [FieldRef.apart]),
      State.get_put_self _ _ (by simp [FieldRef.ok])]
    rfl
  · rw [State.rawShown, State.get_put_of_lt _ (by simp [FieldRef.ok])]
    simp
    omega

/-- What the recording of a word's end leaves: its provenance, no word in progress, every other field as it was. -/
structure WordRecorded (ch : Nat) (w : SerWord) (fs : List FieldRef) (s u t : State) : Prop where
  frame : InpProvFrame ch fs s t
  inpCh : t.inpCh ch = { s.inpCh ch with word := none }
  idle : t.get (Reg.INP.CH_STAT.WORD_BUSY ch) = 0
  get : ∀ g : FieldRef, (Reg.INP.CH_STAT.WORD_BUSY ch).apart g → t.get g = u.get g
  cart : s.provOn = true → OneCart 0x22 s.provCls w.latch s t

theorem State.wordOver_shows (s : State) (ch : Nat) : InpFrame ch [Reg.INP.CH_STAT.WORD_BUSY ch] s (s.wordOver ch) ∧
    (s.wordOver ch).inpCh ch = { s.inpCh ch with word := none } ∧ (s.wordOver ch).get (Reg.INP.CH_STAT.WORD_BUSY ch) = 0 ∧
    ∀ g : FieldRef, (Reg.INP.CH_STAT.WORD_BUSY ch).apart g → (s.wordOver ch).get g = s.get g := by
  have hset := InpFrame.setInp ch [Reg.INP.CH_STAT.WORD_BUSY ch] s { s.inpCh ch with word := none }
  have hself : (s.setInp ch { s.inpCh ch with word := none }).inpCh ch = { s.inpCh ch with word := none } :=
    (State.setInp_inpCh _ _ _ _).trans (if_pos rfl)
  have hget : ∀ g, (s.setInp ch { s.inpCh ch with word := none }).get g = s.get g := fun g =>
    State.get_of_regs (State.setInp_regs _ _ _) g
  unfold State.wordOver
  generalize s.setInp ch { s.inpCh ch with word := none } = u at *
  have hput : OnlyFields [Reg.INP.CH_STAT.WORD_BUSY ch] u (u.put (Reg.INP.CH_STAT.WORD_BUSY ch) 0) :=
    OnlyFields.put u 0 (by simp) (by simp [FieldRef.ok])
  refine ⟨hset.trans (InpFrame.of_fields hput ch), ?_, State.get_put_of_lt _ (by simp [FieldRef.ok]) (by simp), fun g hg => ?_⟩
  · rw [State.put_inpCh, hself]
  · rw [State.get_put_apart _ _ (by simp [FieldRef.ok]) hg, hget]

theorem State.wordRecorded_shows {ch : Nat} (hch : ch < 48) (w : SerWord) {fs : List FieldRef} {s u : State} (h : OnlyFields fs s u)
    (hfs : OnChannel ch fs) (hbusy : Reg.INP.CH_STAT.WORD_BUSY ch ∈ fs) (outcome raw : Nat) :
    WordRecorded ch w fs s u (u.wordRecorded ch outcome raw w.latch) := by
  have hon : u.provOn = s.provOn :=
    provOn_eq_of (h.get (by decide) (hfs.apart hch (.inl (by decide)))) (by rw [h.1])
  have hcls : u.provCls = s.provCls := h.get (by decide) (hfs.apart hch (by unfold OffInputs; decide))
  have hcarts := u.provSerial_onlyCarts ch outcome raw w.latch
  have hoff : u.provOn = false → u.provSerial ch outcome raw w.latch = u := fun hp => State.provSerial_off hp _ _ _ _
  have hcart : u.provOn = true → OneCart 0x22 u.provCls w.latch u (u.provSerial ch outcome raw w.latch) := fun hp =>
    State.provSerial_on hp _ _ _ _
  unfold State.wordRecorded
  generalize u.provSerial ch outcome raw w.latch = v at *
  obtain ⟨hover, hself, hidle, hget⟩ := v.wordOver_shows ch
  generalize v.wordOver ch = t at *
  have hframe : InpProvFrame ch fs s u := (InpFrame.of_fields h ch).prov
  have hovered : InpFrame ch fs v t := hover.mono (by simpa using hbusy)
  refine ⟨(hframe.trans (hcarts.inpProvFrame hoff ch fs) hon).then_inp hovered, ?_, hidle, fun g hg => ?_, fun hp => ?_⟩
  · rw [hself, hcarts.inpCh_eq, State.inpCh, State.inpCh, h.1]
  · rw [hget g hg, hcarts.get_eq]
  · have hone := hcart (hon.trans hp)
    rw [hcls] at hone
    exact (hone.of_same (by rw [h.1]) (by rw [h.1])).to_same hovered.carts_eq hovered.recd_eq

/-! ### A word that is not delivered (R94, R96) -/

/-- The flag of a word that is not delivered, with its interrupt and the page's count. -/
def State.wordFlagged (s : State) (ch : Nat) (f : FieldRef) (k : Nat) : State :=
  ((s.put f 1).raise (page .inp ch) k).err (page .inp ch)

/-- The fields of a word that ends so. -/
def wordBadFields (ch : Nat) (f : FieldRef) (k : Nat) : List FieldRef :=
  [f, Reg.INP.CH_STAT.WORD_BUSY ch, Reg.INP.SER_RAW_LO.BITS ch, Reg.INP.SER_RAW_HI.BITS ch, Reg.HEAD.PG_ERRCNT.COUNT (page .inp ch),
    rawBit (page .inp ch) k]

/-- A flag of CH_STAT beside WORD_BUSY. -/
def SerialFlag (ch : Nat) (f : FieldRef) : Prop := f.addr = (Reg.INP.CH_STAT.WORD_BUSY ch).addr ∧ f.lo = f.hi ∧ f.hi < 17

theorem SerialFlag.ok {ch : Nat} {f : FieldRef} (h : SerialFlag ch f) : f.ok := ⟨by rw [h.2.1], by have := h.2.2; omega⟩

theorem wordBadFields_onChannel {ch : Nat} {f : FieldRef} (h : SerialFlag ch f) (k : Nat) : OnChannel ch (wordBadFields ch f k) := by
  intro g hg
  simp only [wordBadFields, List.mem_cons, List.not_mem_nil, or_false] at hg
  rcases hg with rfl | rfl | rfl | rfl | rfl | rfl
  · rw [h.1]
    simp [page, Block.base]
    omega
  · simp [page, Block.base]
    omega
  · simp [page, Block.base]
    omega
  · simp [page, Block.base]
    omega
  · simp [page, Block.base]
  · simp [rawBit, page, Block.base]

theorem State.wordFlagged_shows (s : State) {ch : Nat} {f : FieldRef} (hf : SerialFlag ch f) {k raw : Nat} (hk : k < 32)
    (hraw : raw < 2 ^ 41) : OnlyFields (wordBadFields ch f k) s ((s.rawShown ch raw).wordFlagged ch f k) ∧
    ((s.rawShown ch raw).wordFlagged ch f k).get f = 1 ∧ ((s.rawShown ch raw).wordFlagged ch f k).isRaised (page .inp ch) k ∧
    ((s.rawShown ch raw).wordFlagged ch f k).get (Reg.INP.SER_RAW_LO.BITS ch) = raw % 2 ^ 32 ∧
    ((s.rawShown ch raw).wordFlagged ch f k).get (Reg.INP.SER_RAW_HI.BITS ch) = raw / 2 ^ 32 := by
  obtain ⟨hframe, hlo, hhi⟩ := s.rawShown_shows ch hraw
  obtain ⟨haddr, hbit, hlt⟩ := id hf
  generalize s.rawShown ch raw = u at *
  have hstat : f.addr = 0x40118 + ch * 0x1000 := haddr
  have hflag : OnlyFields (wordBadFields ch f k) u (u.wordFlagged ch f k) :=
    (((OnlyFields.refl _ u).andPut (by simp [wordBadFields]) hf.ok).andRaise (by simp [wordBadFields])).andErr (by simp [wordBadFields])
  refine ⟨(hframe.mono (by simp [wordFields, wordBadFields])).trans hflag, ?_, ?_, ?_, ?_⟩
  · rw [State.wordFlagged, State.get_err_apart _ (.inl (by rw [hstat]; simp; omega)),
      State.get_raise_apart _ hf.ok (.inl (by rw [hstat]; simp [rawBit]; omega)), State.get_put_of_lt _ hf.ok (by rw [hbit]; simp)]
  · exact State.isRaised_put_of (State.isRaised_raise _ _ hk) _ (by simp [FieldRef.ok]) (by simp)
  · rw [State.wordFlagged, State.get_err_apart _ (.inl (by simp; omega)),
      State.get_raise_apart _ (by simp [FieldRef.ok]) (.inl (by simp [rawBit]; omega)),
      State.get_put_apart _ _ hf.ok (.inl (by rw [hstat]; simp)), hlo]
  · rw [State.wordFlagged, State.get_err_apart _ (.inl (by simp; omega)),
      State.get_raise_apart _ (by simp [FieldRef.ok]) (.inl (by simp [rawBit]; omega)),
      State.get_put_apart _ _ hf.ok (.inl (by rw [hstat]; simp)), hhi]

/-- The end of a word that is not delivered. -/
theorem State.wordEnd_discards {ch : Nat} (hch : ch < 48) {s : State} (w : SerWord) {raw outcome k : Nat} {f : FieldRef} (pos cap : Nat)
    (hraw : raw < 2 ^ 41) (hf : SerialFlag ch f) (hk : k < 32) (hbad : outcome ≠ 0 ∧ outcome ≠ 5)
    (hflag : ∀ u : State, u.serFlag ch outcome = u.wordFlagged ch f k) (hmode : (s.inpCh ch).mode = s.get (Reg.INP.CFG.MODE ch)) :
    ∃ t, s.wordEnd ch w raw outcome pos cap = t ∧ t.inpCh ch = { s.inpCh ch with word := none, noPeriod := true } ∧
      t.get f = 1 ∧ t.isRaised (page .inp ch) k ∧ t.get (Reg.INP.CH_STAT.WORD_BUSY ch) = 0 ∧
      t.get (Reg.INP.SER_RAW_LO.BITS ch) = raw % 2 ^ 32 ∧ t.get (Reg.INP.SER_RAW_HI.BITS ch) = raw / 2 ^ 32 ∧
      (s.provOn = true → OneCart 0x22 s.provCls w.latch s t) ∧ InpProvFrame ch (wordBadFields ch f k) s t := by
  obtain ⟨hshown, hset, hraised, hlo, hhi⟩ := s.wordFlagged_shows hf hk hraw
  rw [s.wordEnd_bad ch w raw pos cap hbad, hflag]
  generalize (s.rawShown ch raw).wordFlagged ch f k = u at *
  obtain ⟨hframe, hself, hidle, hget, hcart⟩ := State.wordRecorded_shows hch w hshown (wordBadFields_onChannel hf k)
    (by simp [wordBadFields]) outcome raw
  generalize u.wordRecorded ch outcome raw w.latch = v at *
  obtain ⟨haddr, hbit, hlt⟩ := id hf
  have hstat : f.addr = 0x40118 + ch * 0x1000 := haddr
  have hnop := InpFrame.setInp ch (wordBadFields ch f k) v { v.inpCh ch with noPeriod := true }
  have hon : (v.onInp ch fun c => { c with noPeriod := true }).inpCh ch = { s.inpCh ch with word := none, noPeriod := true } := by
    rw [State.onInp_eq, State.setInp_inpCh, if_pos rfl, hself]
  have hfields : ∀ g, (v.onInp ch fun c => { c with noPeriod := true }).get g = v.get g := fun g => by
    rw [State.onInp_eq, State.setInp_get]
  change InpFrame ch _ v (v.onInp ch fun c => { c with noPeriod := true }) at hnop
  generalize v.onInp ch (fun c => { c with noPeriod := true }) = t at *
  have hall := hframe.then_inp hnop
  have hsame : t.enterMode ch = t := by
    refine State.enterMode_same ?_
    rw [hon, hall.get (by simp [FieldRef.ok]) (by simp [wordBadFields, FieldRef.apart, rawBit, hstat]; omega)]
    exact hmode
  refine ⟨t, hsame, hon, ?_, ?_, ?_, ?_, ?_, fun hp => (hcart hp).to_same hnop.carts_eq hnop.recd_eq, hall⟩
  · rw [hfields, hget f (.inr (.inr (by simpa using hlt))), hset]
  · rw [State.isRaised, hfields, hget _ (.inl (by simp [rawBit]; omega))]
    exact hraised
  · rw [hfields, hidle]
  · rw [hfields, hget _ (.inl (by simp)), hlo]
  · rw [hfields, hget _ (.inl (by simp)), hhi]

/-! ### A word that is delivered (R96, R97, R101) -/

/-- A channel at a delivered position. -/
def InpCh.positioned (c : InpCh) (v : Nat) : InpCh := { c with lastPos := some (v : Int) }

/-- The same with its counter and its direction, before the delivery. -/
def State.positioned (s : State) (ch v : Nat) (rev : Bool) : State :=
  ((s.setInp ch ((s.inpCh ch).positioned v)).putBit (Reg.INP.CH_STAT.DIR ch) rev).put (Reg.INP.COUNT_NOW.COUNT ch) v

theorem State.setCount_nat (s : State) (ch : Nat) {v : Nat} (h : v < 2 ^ 32) :
    s.setCount ch (v : Int) = s.put (Reg.INP.COUNT_NOW.COUNT ch) v := by
  have hu : unsigned 32 (v : Int) = v := by
    unfold unsigned
    omega
  rw [State.setCount, hu]

theorem State.positioned_shows (s : State) (ch : Nat) {v : Nat} (h : v < 2 ^ 32) (rev : Bool) :
    InpFrame ch [Reg.INP.COUNT_NOW.COUNT ch, Reg.INP.CH_STAT.DIR ch] s (s.positioned ch v rev) ∧
    (s.positioned ch v rev).inpCh ch = ((s.inpCh ch).positioned v) ∧ (s.positioned ch v rev).count ch = v := by
  have hset := InpFrame.setInp ch [Reg.INP.COUNT_NOW.COUNT ch, Reg.INP.CH_STAT.DIR ch] s ((s.inpCh ch).positioned v)
  have hself : (s.setInp ch ((s.inpCh ch).positioned v)).inpCh ch = ((s.inpCh ch).positioned v) :=
    (State.setInp_inpCh _ _ _ _).trans (if_pos rfl)
  unfold State.positioned
  generalize s.setInp ch ((s.inpCh ch).positioned v) = u at *
  rw [State.putBit_eq]
  refine ⟨hset.trans (InpFrame.of_fields (((OnlyFields.refl _ u).andPut).andPut) ch), ?_, State.get_put_of_lt _ (by simp [FieldRef.ok]) h⟩
  rw [State.put_inpCh, State.put_inpCh, hself]

theorem State.wordDelivered_wheel {s : State} {ch : Nat} (hclass : s.wheelClass ch = true) (howns : (s.inpCh ch).ownsQ = false)
    (hmod : 0 < s.get (Reg.INP.COUNT_MOD.MOD ch)) (pos ts cap : Nat) :
    ∃ rev, s.wordDelivered ch pos ts cap =
      ((s.positioned ch (pos % s.get (Reg.INP.COUNT_MOD.MOD ch)) rev).deliver ch ts rev).raise (page .inp ch) 14 := by
  have hlt : s.get (Reg.INP.COUNT_MOD.MOD ch) < 2 ^ 32 := Word.bits_lt _ _ _
  have hv : pos % s.get (Reg.INP.COUNT_MOD.MOD ch) < 2 ^ 32 := (Nat.mod_lt _ hmod).trans hlt
  unfold State.wordDelivered
  extract_lets c old m v rev moved
  refine ⟨rev, ?_⟩
  have hplaced : moved = s.positioned ch v rev := by
    show State.setCount _ ch (v : Int) = _
    rw [State.setCount_nat _ _ hv]
    rfl
  have howns' : (moved.inpCh ch).ownsQ = false := by
    rw [hplaced, (s.positioned_shows ch hv rev).2.1]
    exact howns
  rw [if_pos hclass, State.compareMove_off howns', hplaced]

/-- The fields of a word that is delivered. -/
def wordGoodFields (ch : Nat) : List FieldRef :=
  [Reg.INP.COUNT_NOW.COUNT ch, Reg.INP.CH_STAT.DIR ch, Reg.INP.CH_STAT.WORD_BUSY ch, Reg.INP.LATCH_POS.POS ch,
    Reg.INP.SER_RAW_LO.BITS ch, Reg.INP.SER_RAW_HI.BITS ch, Reg.INP.DIRCHG_CNT.COUNT ch, rawBit (page .inp ch) 12,
    rawBit (page .inp ch) 14]

theorem State.wordDelivered_shows {s : State} {ch : Nat} (hclass : s.wheelClass ch = true) (howns : (s.inpCh ch).ownsQ = false)
    (hmod : 0 < s.get (Reg.INP.COUNT_MOD.MOD ch)) (hroom : (s.inpCh ch).admitted < 16) (pos ts cap : Nat) :
    ∃ t, s.wordDelivered ch pos ts cap = t ∧ InpFrame ch (wordGoodFields ch) s t ∧
      t.count ch = pos % s.get (Reg.INP.COUNT_MOD.MOD ch) ∧ (t.inpCh ch).word = (s.inpCh ch).word ∧
      (t.inpCh ch).mode = (s.inpCh ch).mode ∧ (t.inpCh ch).lastPos = some (t.count ch : Int) ∧ t.isRaised (page .inp ch) 14 ∧
      t.get (Reg.INP.CH_STAT.WORD_BUSY ch) = s.get (Reg.INP.CH_STAT.WORD_BUSY ch) ∧
      ∃ e, (t.inpCh ch).edges = (s.inpCh ch).edges ++ [e] ∧ e.ts = ts ∧ e.cnt = t.count ch := by
  obtain ⟨rev, heq⟩ := s.wordDelivered_wheel hclass howns hmod pos ts cap
  have hlt : s.get (Reg.INP.COUNT_MOD.MOD ch) < 2 ^ 32 := Word.bits_lt _ _ _
  obtain ⟨hplaced, hself, hcount⟩ := s.positioned_shows ch ((Nat.mod_lt pos hmod).trans hlt) rev
  rw [heq]
  generalize s.positioned ch (pos % s.get (Reg.INP.COUNT_MOD.MOD ch)) rev = u at *
  obtain ⟨hdeliver, hdelivered, -⟩ := State.deliver_shows (s := u) (ch := ch) (by rw [hself]; exact hroom) ts rev
  have hkeep : (u.deliver ch ts rev).count ch = u.count ch :=
    hdeliver.get (by simp [FieldRef.ok]) (by simp [deliverFields, FieldRef.apart, rawBit]; omega)
  have hbusy : (u.deliver ch ts rev).get (Reg.INP.CH_STAT.WORD_BUSY ch) = u.get (Reg.INP.CH_STAT.WORD_BUSY ch) :=
    hdeliver.get (by simp [FieldRef.ok]) (by simp [deliverFields, FieldRef.apart, rawBit])
  have hbusy' : u.get (Reg.INP.CH_STAT.WORD_BUSY ch) = s.get (Reg.INP.CH_STAT.WORD_BUSY ch) :=
    hplaced.get (by simp [FieldRef.ok]) (by simp [FieldRef.apart])
  generalize u.deliver ch ts rev = v at *
  have hraise : OnlyFields [rawBit (page .inp ch) 14] v (v.raise (page .inp ch) 14) := (OnlyFields.refl _ v).andRaise
  have hraised : (v.raise (page .inp ch) 14).isRaised (page .inp ch) 14 := State.isRaised_raise _ _ (by decide)
  have hinp : (v.raise (page .inp ch) 14).inpCh ch = ((s.inpCh ch).positioned
      (pos % s.get (Reg.INP.COUNT_MOD.MOD ch))).delivered ts (u.count ch) rev := by
    rw [State.raise_inpCh, hdelivered, hself]
  generalize v.raise (page .inp ch) 14 = t at *
  have htcount : t.count ch = pos % s.get (Reg.INP.COUNT_MOD.MOD ch) := by
    rw [← hcount, ← hkeep]
    exact hraise.get (by simp [FieldRef.ok]) (by simp [FieldRef.apart, rawBit]; omega)
  refine ⟨t, rfl, ?_, htcount, by rw [hinp]; rfl, by rw [hinp]; rfl, ?_, hraised, ?_, ?_⟩
  · exact ((hplaced.mono (by simp [wordGoodFields])).trans (hdeliver.mono (by simp [deliverFields, wordGoodFields]))).trans
      ((InpFrame.of_fields hraise ch).mono (by simp [wordGoodFields]))
  · rw [hinp, htcount]
    rfl
  · rw [hraise.get (by simp [FieldRef.ok]) (by simp [FieldRef.apart, rawBit]), hbusy, hbusy']
  · refine ⟨_, by rw [hinp]; rfl, rfl, ?_⟩
    rw [htcount]
    exact hcount

theorem wordGoodFields_onChannel (ch : Nat) : OnChannel ch (wordGoodFields ch) := by
  intro g hg
  simp only [wordGoodFields, List.mem_cons, List.not_mem_nil, or_false] at hg
  rcases hg with rfl | rfl | rfl | rfl | rfl | rfl | rfl | rfl | rfl <;> simp [rawBit, page, Block.base] <;> omega

/-- The end of a sound word. -/
theorem State.wordEnd_delivers {ch : Nat} (hch : ch < 48) {s : State} (w : SerWord) {raw : Nat} (pos cap : Nat) (hraw : raw < 2 ^ 41)
    (hclass : s.wheelClass ch = true) (howns : (s.inpCh ch).ownsQ = false) (hmod : 0 < s.get (Reg.INP.COUNT_MOD.MOD ch))
    (hroom : (s.inpCh ch).admitted < 16) (hmode : (s.inpCh ch).mode = s.get (Reg.INP.CFG.MODE ch)) :
    ∃ t, s.wordEnd ch w raw 0 pos cap = t ∧ t.count ch = pos % s.get (Reg.INP.COUNT_MOD.MOD ch) ∧ (t.inpCh ch).word = none ∧
      (t.inpCh ch).lastPos = some (t.count ch : Int) ∧ t.isRaised (page .inp ch) 14 ∧ t.get (Reg.INP.CH_STAT.WORD_BUSY ch) = 0 ∧
      (∃ e, (t.inpCh ch).edges = (s.inpCh ch).edges ++ [e] ∧ e.ts = ((w.latch : Int) + w.comp).toNat ∧ e.cnt = t.count ch) ∧
      (s.provOn = true → OneCart 0x22 s.provCls w.latch s t) ∧ InpProvFrame ch (wordGoodFields ch) s t := by
  obtain ⟨hshown, -, -⟩ := s.rawShown_shows ch hraw
  rw [s.wordEnd_good ch w raw pos cap]
  generalize s.rawShown ch raw = u at *
  obtain ⟨hframe, hself, hidle, hget, hcart⟩ := State.wordRecorded_shows hch w
    (hshown.mono (gs := wordGoodFields ch) (by simp [wordFields, wordGoodFields])) (wordGoodFields_onChannel ch)
    (by simp [wordGoodFields]) 0 raw
  generalize u.wordRecorded ch 0 raw w.latch = v at *
  have hmodv : v.get (Reg.INP.COUNT_MOD.MOD ch) = s.get (Reg.INP.COUNT_MOD.MOD ch) :=
    hframe.get (by simp [FieldRef.ok]) (by simp [wordGoodFields, FieldRef.apart, rawBit]; omega)
  have hclassv : v.wheelClass ch = true := by
    rw [State.wheelClass, State.bit, hframe.get (by simp [FieldRef.ok]) (by simp [wordGoodFields, FieldRef.apart, rawBit])]
    exact hclass
  obtain ⟨t, hdelivers, hdelivered, hcount, hword, hmodet, hlast, hraised, hbusy, hedge⟩ :=
    State.wordDelivered_shows hclassv (by rw [hself]; exact howns) (by rw [hmodv]; exact hmod) (by rw [hself]; exact hroom) pos
      ((w.latch : Int) + w.comp).toNat cap
  have hall := hframe.then_inp hdelivered
  have hsame : t.enterMode ch = t := by
    refine State.enterMode_same ?_
    rw [hmodet, hself, hall.get (by simp [FieldRef.ok]) (by simp [wordGoodFields, FieldRef.apart, rawBit])]
    exact hmode
  rw [hself] at hword hedge
  refine ⟨t, by rw [hdelivers, hsame], by rw [hcount, hmodv], hword, hlast, hraised, by rw [hbusy, hidle], hedge,
    fun hp => (hcart hp).to_same hdelivered.carts_eq hdelivered.recd_eq, hall⟩

/-! ### The rows (R93, R94, R96) -/

theorem exec_serialWordEnd {ch : ChNo} {raw : BitVec 41} {aHigh : Bool} {st : SubTick} {w : SerWord} {s : State}
    (hw : (s.inpCh ch).word = some w) : exec (.serialWordEnd ch ⟨raw, aHigh⟩ st) s =
      run s (s.when (s.wordDone w aHigh (s.now + st)) fun u =>
        u.wordEnd ch w raw.toNat (w.judge raw.toNat).2 (w.judge raw.toNat).1 (u.now + st)) := by
  have heq : exec (.serialWordEnd ch ⟨raw, aHigh⟩ st) s = execSerialWordEnd ch ⟨raw, aHigh⟩ st s := rfl
  rw [heq, execSerialWordEnd, hw]

theorem exec_serialTimeout {ch : ChNo} {raw : BitVec 41} {w : SerWord} {s : State} (hw : (s.inpCh ch).word = some w) :
    exec (.serialTimeout ch raw) s = run s (s.when (s.wordLate w raw.toNat) fun u => u.wordEnd ch w raw.toNat 1 0 u.now) := by
  have heq : exec (.serialTimeout ch raw) s = execSerialTimeout ch raw s := rfl
  rw [heq, execSerialTimeout, hw]

theorem SerWord.judge_badCrc {w : SerWord} {raw : Nat} (hb : w.biss = true)
    (hcrc : crc6 (bitsOf (raw / 64) (w.bits + 2)) ≠ 63 - raw % 64) : (w.judge raw).2 = 2 := by
  unfold SerWord.judge
  rw [if_pos hb]
  dsimp only
  rw [if_pos hcrc]

theorem SerWord.judge_plain {w : SerWord} {raw : Nat} (hb : w.biss = false) (hp : w.parity = false) (hg : w.gray = false) :
    w.judge raw = (raw % 2 ^ w.bits, 0) := by
  unfold SerWord.judge
  rw [hb, hp, hg]
  rfl

theorem State.wordDone_biss {s : State} {w : SerWord} (hb : w.biss = true) (aHigh : Bool) (t : Nat) :
    s.wordDone w aHigh t = w.bissDone (s.cycleNo t - w.cyc) := if_pos hb

theorem State.wordDone_ssi {s : State} {w : SerWord} {l t : Nat} (hb : w.biss = false) (hl : s.ssiLast w = some l) (hlow : l ≤ t)
    (hhigh : t ≤ l + w.timeout * 128) : s.wordDone w true t = true := by
  simp [State.wordDone, hb, hl, hlow, hhigh]

theorem State.wordLate_due {s : State} {w : SerWord} {raw : BitVec 41}
    (h : w.biss = true ∧ raw = 0 ∧ w.latch + w.timeout * 128 ≤ s.now + 127 ∨
      w.biss = false ∧ ∃ l, s.ssiLast w = some l ∧ l + w.timeout * 128 ≤ s.now + 127) : s.wordLate w raw.toNat = true := by
  rcases h with ⟨hb, rfl, hlate⟩ | ⟨hb, l, hl, hlate⟩
  · simp [State.wordLate, hb, hlate]
  · simp [State.wordLate, hb, hl, hlate]

/-- Settles O13. The first edge of the serial clock and its half period are read from R91 (log entry 38), the corners of the time-out
from R94 (log entry 39). -/
theorem serialWordsEnd : Obligations.SerialWordsEnd := by
  unfold Obligations.SerialWordsEnd
  refine ⟨fun ch raw aHigh st w s hw hb hdone hcrc hmode => ?_, fun ch raw w s hw hlate hmode => ?_,
    fun ch raw aHigh st w s hw hdone => ?_,
    fun ch raw st w l s hw hb hl hlow hhigh hp hg hclass howns hmod hroom hmode => ?_⟩
  · obtain ⟨t, hends, hself, hset, hraised, hidle, hlo, hhi, hcart, hframe⟩ :=
      State.wordEnd_discards (s := s) ch.isLt w (f := Reg.INP.CH_STAT.SER_CRC ch) (k := 4) (outcome := 2) (w.judge raw.toNat).1
        (s.now + st) raw.isLt ⟨rfl, rfl, by simp⟩ (by decide) (by decide) (fun _ => rfl) hmode
    have hexec : exec (.serialWordEnd ch ⟨raw, aHigh⟩ st) s = run s t := by
      rw [exec_serialWordEnd hw, State.wordDone_biss hb, hdone, State.when_true, SerWord.judge_badCrc hb hcrc, hends]
    exact ⟨t, hexec.trans hframe.run_eq, hself, hset, hraised, hidle, hlo, hhi, hcart, hframe⟩
  · obtain ⟨t, hends, hself, hset, hraised, hidle, -, -, hcart, hframe⟩ :=
      State.wordEnd_discards (s := s) ch.isLt w (f := Reg.INP.CH_STAT.SER_TIMEOUT ch) (k := 7) (outcome := 1) 0
        s.now raw.isLt ⟨rfl, rfl, by simp⟩ (by decide) (by decide) (fun _ => rfl) hmode
    have hexec : exec (.serialTimeout ch raw) s = run s t := by
      rw [exec_serialTimeout hw, State.wordLate_due hlate, State.when_true, hends]
    exact ⟨t, hexec.trans hframe.run_eq, hself, hset, hraised, hidle, hcart, hframe⟩
  · rw [exec_serialWordEnd hw, hdone]
    rfl
  · obtain ⟨t, hends, hcount, hword, hlast, hraised, hidle, hedge, hcart, hframe⟩ :=
      State.wordEnd_delivers (s := s) ch.isLt w (raw.toNat % 2 ^ w.bits) (s.now + st) raw.isLt hclass howns hmod hroom hmode
    have hexec : exec (.serialWordEnd ch ⟨raw, true⟩ st) s = run s t := by
      rw [exec_serialWordEnd hw, State.wordDone_ssi hb hl hlow hhigh, State.when_true, SerWord.judge_plain hb hp hg, hends]
    exact ⟨t, hexec.trans hframe.run_eq, hcount, hword, hlast, hraised, hidle, hedge, hcart, hframe⟩

end Sys2Proof.Machine
end

section
/-! PROOFS. Input filters and tooth edges (chapter 3: R80, R81, R83, R84, R86, R99; chapter 10: R422). -/

namespace Sys2Proof.Machine

/-! ### Filters (R80, R81) -/

/-- The first sample of a pin's new level where one value of FILT has been in force (R80). -/
def State.sampleFrom (s : State) (ch held t : Nat) : Nat :=
  (s.cycleNo t - held + 4 ^ s.get (Reg.INP.FILT.FCLK ch) - 1) / 4 ^ s.get (Reg.INP.FILT.FCLK ch) * 4 ^ s.get (Reg.INP.FILT.FCLK ch)

/-- N x D of pin A. -/
def State.delayA (s : State) (ch : Nat) : Nat := s.get (Reg.INP.FILT.N_A ch) * 4 ^ s.get (Reg.INP.FILT.FCLK ch)

theorem State.filterAccepts_plain {s : State} {ch : Nat} (h : (s.inpCh ch).oldFilts = []) (held t : Nat) :
    s.filterAccepts ch 0 held t =
      if s.cycleNo t = s.sampleFrom ch held t + s.delayA ch then some (s.delayA ch) else none := by
  have hfirst : firstSample (s.reg (Reg.INP.FILT.FCLK ch).addr) (s.cycleNo t - held) 0 (s.inpCh ch).oldFilts.reverse =
      (s.sampleFrom ch held t, s.reg (Reg.INP.FILT.FCLK ch).addr) := by
    rw [h, List.reverse_nil, firstSample, Nat.max_eq_left (Nat.zero_le _)]
    rfl
  unfold State.filterAccepts
  dsimp only
  rw [hfirst]
  rfl

/-! ### No pin moves -/

theorem State.setInp_same (s : State) (ch k : Nat) : (s.setInp ch (s.inpCh ch)).inpCh k = s.inpCh k := by
  rw [State.setInp_inpCh]
  split
  next h => rw [h]
  · rfl

theorem State.quadPins_still (s : State) (ch : Nat) (a b : Bool) (ts cap : Nat) : s.quadPins ch false false a b false ts cap = s := by
  unfold State.quadPins
  simp only [Bool.and_self, Bool.false_eq_true, if_false, Bool.false_and, Bool.or_self]

theorem State.pins_still {s : State} {ch cap : Nat} {a : Option PinMove} (hmoves : s.pinAccepts ch 0 a (s.inpCh ch).a cap = none) :
    s.pins ch a none none cap = s.setInp ch (s.inpCh ch) := by
  have hnone : ∀ pin was, s.pinAccepts ch pin none was cap = none := fun _ _ => rfl
  unfold State.pins
  simp only [hmoves, hnone, Option.isSome_none, Bool.bne_false, Bool.false_and, Bool.false_eq_true, if_false]
  split
  · rfl
  · split
    · rfl
    · exact State.quadPins_still _ _ _ _ _ _
    · rfl
    · rfl

/-! ### Provenance of a pin (R422) -/

/-- A pin's entry joins the cart in the making. -/
def State.pinNoted (s : State) (ch pin : Nat) (level : Bool) (t : Nat) : State :=
  { s with recd := { s.recd with
      pinPart := s.recd.pinPart ++
        [quad [(58, 6, ch), (56, 2, pin), (55, 1, if level then 1 else 0), (48, 7, t % 128), (0, 48, t / 128)]]
      pinAt := if s.recd.pinPart.isEmpty then t else min t s.recd.pinAt } }

theorem State.provPin_off {s : State} (h : s.provOn = false) (ch pin : Nat) (level : Bool) (t : Nat) : s.provPin ch pin level t = s := by
  rw [State.provPin, h]
  rfl

theorem State.provPin_on {s : State} (h : s.provOn = true) (ch pin : Nat) (level : Bool) (t : Nat) :
    s.provPin ch pin level t =
      if s.recd.pinPart.length = 5 then (s.pinNoted ch pin level t).flushPin else s.pinNoted ch pin level t := by
  have hlen : (s.pinNoted ch pin level t).recd.pinPart.length = s.recd.pinPart.length + 1 := by
    rw [State.pinNoted, List.length_append]
    rfl
  have heq : s.provPin ch pin level t =
      if (s.pinNoted ch pin level t).recd.pinPart.length = 6 then (s.pinNoted ch pin level t).flushPin
      else s.pinNoted ch pin level t := by
    rw [State.provPin, h]
    rfl
  rw [heq, hlen]
  simp only [Nat.reduceEqDiff]

/-- Nothing but the record: carts, their numbers and the cart of pins in the making. -/
def PinRecord (s t : State) : Prop :=
  t = { s with carts := t.carts, recd := { s.recd with seq := t.recd.seq, pinPart := t.recd.pinPart, pinAt := t.recd.pinAt } }

theorem State.pinNoted_record (s : State) (ch pin : Nat) (level : Bool) (t : Nat) : PinRecord s (s.pinNoted ch pin level t) := rfl

theorem State.flushPin_record (s : State) : PinRecord s s.flushPin := by
  unfold State.flushPin
  split
  · rfl
  · have hcart := State.cart_onlyCarts { s with recd := { s.recd with pinPart := [] } } 0x21 s.provCls s.recd.pinAt 63
      (sixEntries (quad [(56, 2, 3)]) s.recd.pinPart)
    dsimp only
    generalize State.cart { s with recd := { s.recd with pinPart := [] } } 0x21 s.provCls s.recd.pinAt 63
      (sixEntries (quad [(56, 2, 3)]) s.recd.pinPart) = u at *
    unfold PinRecord
    rw [hcart]

theorem PinRecord.trans {s t u : State} (h : PinRecord s t) (k : PinRecord t u) : PinRecord s u := by
  unfold PinRecord at *
  rw [k, h]

theorem PinRecord.regs_eq {s t : State} (h : PinRecord s t) : t.regs = s.regs := by rw [h]

theorem PinRecord.get_eq {s t : State} (h : PinRecord s t) (f : FieldRef) : t.get f = s.get f := State.get_of_regs h.regs_eq f

theorem PinRecord.inpCh_eq {s t : State} (h : PinRecord s t) (k : Nat) : t.inpCh k = s.inpCh k := by
  rw [State.inpCh, State.inpCh, h]

theorem State.provPin_record (s : State) (ch pin : Nat) (level : Bool) (t : Nat) : PinRecord s (s.provPin ch pin level t) := by
  cases hp : s.provOn with
  | false =>
    rw [State.provPin_off hp]
    rfl
  | true =>
    rw [State.provPin_on hp]
    split
    · exact (s.pinNoted_record ch pin level t).trans (State.flushPin_record _)
    · exact s.pinNoted_record ch pin level t

theorem PinRecord.inpProvFrame {s t : State} (h : PinRecord s t) (hoff : s.provOn = false → t = s) (ch : Nat) (fs : List FieldRef) :
    InpProvFrame ch fs s t := by
  refine ⟨?_, fun hp => ?_, fun k _ => h.inpCh_eq k, FieldsKept.of_regs h.regs_eq⟩
  · rw [h]
  · rw [hoff hp]
    exact ⟨rfl, rfl⟩

/-- With room in the cart in the making, a pin's entry only joins it. -/
theorem State.provPin_room {s : State} (hp : s.provOn = true) (hroom : s.recd.pinPart.length < 5) (ch pin : Nat) (level : Bool) (t : Nat) :
    (s.provPin ch pin level t).carts = s.carts ∧
    (s.provPin ch pin level t).recd.pinPart.length = s.recd.pinPart.length + 1 := by
  rw [State.provPin_on hp, if_neg (by omega)]
  refine ⟨rfl, ?_⟩
  rw [State.pinNoted, List.length_append]
  rfl

/-! ### A tooth edge (R83, R84, R86, R99) -/

/-- Filtered A risen. -/
def State.aRisen (s : State) (ch : Nat) : State := s.setInp ch { s.inpCh ch with a := true }

theorem State.pins_tooth {s : State} {ch held d cap : Nat} (hfilt : s.filterAccepts ch 0 held cap = some d) (hscan : s.scanning = true)
    (hmode : (s.inpCh ch).mode = 1) (ha : (s.inpCh ch).a = false) :
    s.pins ch (some ⟨true, held⟩) none none cap =
      ((s.aRisen ch).provPin ch 0 true (cap - d)).toothPin ch true (s.inpCh ch).b (cap - d) cap := by
  have hacc : s.pinAccepts ch 0 (some ⟨true, held⟩) false cap = some d := by
    simp only [State.pinAccepts, Bool.true_eq_false, if_false, hfilt]
  have hnone : ∀ pin was, s.pinAccepts ch pin none was cap = none := fun _ _ => rfl
  have hscan' : ∀ c, (s.setInp ch c).scanning = true := fun _ => hscan
  unfold State.pins State.aRisen
  generalize s.inpCh ch = c at *
  obtain ⟨mode, a⟩ := c
  dsimp only at hmode ha
  subst hmode ha
  simp only [hacc, hnone, hscan', Option.isSome_none, Option.isSome_some, Bool.bne_false, Bool.bne_true, Bool.not_false,
    Bool.not_true, Bool.false_and, Bool.false_eq_true, if_false, if_true, Option.getD_some, Bool.true_and, BEq.rfl, Bool.true_or]

theorem State.toothPin_rising {s : State} {ch : Nat} (hsrc : s.get (Reg.INP.CFG.DIRSRC ch) = 0) (hedge : s.get (Reg.INP.CFG.EDGE ch) = 0)
    (b : Bool) (ts cap : Nat) : s.toothPin ch true b ts cap = (s.countOne ch false cap).deliver ch ts false := by
  unfold State.toothPin
  dsimp only
  rw [hsrc, hedge]
  rfl

/-- The counter one on, modulo COUNT_MOD. -/
def State.countNext (s : State) (ch : Nat) : Nat :=
  if s.count ch + 1 < s.get (Reg.INP.COUNT_MOD.MOD ch) then s.count ch + 1 else 0

/-- A count forward. -/
def State.countedOn (s : State) (ch : Nat) : State :=
  (s.put (Reg.INP.CH_STAT.DIR ch) 0).put (Reg.INP.COUNT_NOW.COUNT ch) (s.countNext ch)

theorem State.countNext_lt (s : State) (ch : Nat) : s.countNext ch < 2 ^ 32 := by
  have hlt : s.get (Reg.INP.COUNT_MOD.MOD ch) < 2 ^ 32 := Word.bits_lt _ _ _
  unfold State.countNext
  split
  · omega
  · decide

theorem State.countOne_forward {s : State} {ch : Nat} (hclass : s.wheelClass ch = true) (howns : (s.inpCh ch).ownsQ = false) (cap : Nat) :
    s.countOne ch false cap = s.countedOn ch := by
  have hdir : OnlyFields [Reg.INP.CH_STAT.DIR ch] s (s.put (Reg.INP.CH_STAT.DIR ch) 0) := (OnlyFields.refl _ s).andPut
  have hclass' : (s.put (Reg.INP.CH_STAT.DIR ch) 0).wheelClass ch = true := by
    rw [State.wheelClass, State.bit, hdir.get (by simp [FieldRef.ok]) (by simp [FieldRef.apart])]
    exact hclass
  have hcount : (s.put (Reg.INP.CH_STAT.DIR ch) 0).count ch = s.count ch :=
    hdir.get (by simp [FieldRef.ok]) (by simp [FieldRef.apart])
  have hmod : (s.put (Reg.INP.CH_STAT.DIR ch) 0).get (Reg.INP.COUNT_MOD.MOD ch) = s.get (Reg.INP.COUNT_MOD.MOD ch) :=
    hdir.get (by simp [FieldRef.ok]) (by simp [FieldRef.apart])
  unfold State.countOne
  rw [State.putBit_eq, if_neg Bool.false_ne_true]
  dsimp only
  have hset : (s.put (Reg.INP.CH_STAT.DIR ch) 0).setCount ch (s.countNext ch : Nat) = s.countedOn ch :=
    State.setCount_nat _ _ (s.countNext_lt ch)
  have howns' : ((s.countedOn ch).inpCh ch).ownsQ = false := by rw [State.countedOn, State.put_inpCh, State.put_inpCh, howns]
  rw [if_pos hclass', if_neg Bool.false_ne_true, hcount, hmod]
  change ((s.put (Reg.INP.CH_STAT.DIR ch) 0).setCount ch (s.countNext ch : Nat)).compareMove ch _ false cap = _
  rw [hset, State.compareMove_off howns']

theorem State.countedOn_frame (s : State) (ch : Nat) :
    OnlyFields [Reg.INP.COUNT_NOW.COUNT ch, Reg.INP.CH_STAT.DIR ch] s (s.countedOn ch) :=
  ((OnlyFields.refl _ s).andPut (by simp)).andPut (by simp)

theorem State.countedOn_count (s : State) (ch : Nat) : (s.countedOn ch).count ch = s.countNext ch :=
  State.get_put_of_lt _ (by simp [FieldRef.ok]) (s.countNext_lt ch)

theorem State.countedOn_dir (s : State) (ch : Nat) : (s.countedOn ch).get (Reg.INP.CH_STAT.DIR ch) = 0 := by
  rw [State.countedOn, State.get_put_apart _ _ (by simp [FieldRef.ok]) (by simp [FieldRef.apart])]
  exact State.get_put_of_lt _ (by simp [FieldRef.ok]) (by simp)

/-- An active edge of A up to its delivery: filtered A, the pin's entry, the count. -/
def State.toothCounted (s : State) (ch ts : Nat) : State := ((s.aRisen ch).provPin ch 0 true ts).countedOn ch

theorem State.toothCounted_shows (s : State) (ch ts : Nat) :
    InpProvFrame ch [Reg.INP.COUNT_NOW.COUNT ch, Reg.INP.CH_STAT.DIR ch] s (s.toothCounted ch ts) ∧
    (s.toothCounted ch ts).inpCh ch = { s.inpCh ch with a := true } ∧ (s.toothCounted ch ts).count ch = s.countNext ch ∧
    (s.toothCounted ch ts).get (Reg.INP.CH_STAT.DIR ch) = 0 ∧
    (s.provOn = true → s.recd.pinPart.length < 5 →
      (s.toothCounted ch ts).carts = s.carts ∧ (s.toothCounted ch ts).recd.pinPart.length = s.recd.pinPart.length + 1) := by
  have hpin := (s.aRisen ch).provPin_record ch 0 true ts
  have hoff : (s.aRisen ch).provOn = false → (s.aRisen ch).provPin ch 0 true ts = s.aRisen ch := fun h => State.provPin_off h _ _ _ _
  have hroom : (s.aRisen ch).provOn = true → (s.aRisen ch).recd.pinPart.length < 5 → _ := fun hp hl => State.provPin_room hp hl ch 0 true ts
  have hself : (s.aRisen ch).inpCh ch = { s.inpCh ch with a := true } := by rw [State.aRisen, State.setInp_inpCh, if_pos rfl]
  have hrisen : InpFrame ch [Reg.INP.COUNT_NOW.COUNT ch, Reg.INP.CH_STAT.DIR ch] s (s.aRisen ch) := InpFrame.setInp ch _ _ _
  have hnext : ((s.aRisen ch).provPin ch 0 true ts).countNext ch = s.countNext ch := by
    rw [State.countNext, State.count, hpin.get_eq, hpin.get_eq]
    rfl
  have hprov : (s.aRisen ch).provOn = s.provOn := rfl
  unfold State.toothCounted
  generalize (s.aRisen ch).provPin ch 0 true ts = u at *
  have hcounted := InpFrame.of_fields (u.countedOn_frame ch) ch
  refine ⟨(hrisen.prov.trans (hpin.inpProvFrame hoff ch _) hprov).then_inp hcounted, ?_, by rw [State.countedOn_count, hnext],
    u.countedOn_dir ch, fun hp hl => ?_⟩
  · rw [State.countedOn, State.put_inpCh, State.put_inpCh, hpin.inpCh_eq, hself]
  · obtain ⟨hcarts, hlen⟩ := hroom hp hl
    exact ⟨hcounted.carts_eq.trans hcarts, by rw [hcounted.recd_eq, hlen]; rfl⟩

theorem State.pins_toothCounted {s : State} {ch held d cap : Nat} (hfilt : s.filterAccepts ch 0 held cap = some d) (hscan : s.scanning = true)
    (hmode : (s.inpCh ch).mode = 1) (ha : (s.inpCh ch).a = false) (hsrc : s.get (Reg.INP.CFG.DIRSRC ch) = 0)
    (hedge : s.get (Reg.INP.CFG.EDGE ch) = 0) (hclass : s.wheelClass ch = true) (howns : (s.inpCh ch).ownsQ = false) :
    s.pins ch (some ⟨true, held⟩) none none cap = (s.toothCounted ch (cap - d)).deliver ch (cap - d) false := by
  have hpin := (s.aRisen ch).provPin_record ch 0 true (cap - d)
  have hgets : ∀ f, ((s.aRisen ch).provPin ch 0 true (cap - d)).get f = s.get f := fun f => by
    rw [hpin.get_eq, State.aRisen, State.setInp_get]
  have howns' : (((s.aRisen ch).provPin ch 0 true (cap - d)).inpCh ch).ownsQ = false := by
    rw [hpin.inpCh_eq, State.aRisen, State.setInp_inpCh, if_pos rfl]
    exact howns
  rw [State.pins_tooth hfilt hscan hmode ha, State.toothCounted]
  generalize (s.aRisen ch).provPin ch 0 true (cap - d) = u at *
  rw [State.toothPin_rising (by rw [hgets, hsrc]) (by rw [hgets, hedge]),
    State.countOne_forward (by rw [State.wheelClass, State.bit, hgets]; exact hclass) howns']

theorem InpCh.turns_forward (c : InpCh) : c.turns false = (c.prevDir == some true) := by
  unfold InpCh.turns
  cases c.prevDir with
  | none => rfl
  | some d => cases d <;> rfl

/-! ### The edges beyond 16 of a tick (R84) -/

/-- The fields of an edge that is not delivered. -/
def overflowFields (ch : Nat) : List FieldRef :=
  [Reg.INP.CH_STAT.EDGE_OVF ch, Reg.HEAD.PG_ERRCNT.COUNT (page .inp ch), rawBit (page .inp ch) 9]

theorem State.edgeOverflow_frame (s : State) (ch : Nat) : OnlyFields (overflowFields ch) s (s.wordFlagged ch (Reg.INP.CH_STAT.EDGE_OVF ch) 9) :=
  (((OnlyFields.refl _ s).andPut (by simp [overflowFields])).andRaise (by simp [overflowFields])).andErr (by simp [overflowFields])

theorem State.deliver_full {s : State} {ch : Nat} (h : 16 ≤ (s.inpCh ch).admitted) (ts : Nat) (rev : Bool) :
    s.deliver ch ts rev = (if (s.inpCh ch).overflowed then s else s.wordFlagged ch (Reg.INP.CH_STAT.EDGE_OVF ch) 9).setInp ch
      { s.inpCh ch with overflowed := true, noPeriod := true } := by
  unfold State.deliver
  dsimp only
  rw [if_pos h]
  rfl

theorem State.edgeOverflow_ovf (s : State) (ch : Nat) : (s.wordFlagged ch (Reg.INP.CH_STAT.EDGE_OVF ch) 9).get (Reg.INP.CH_STAT.EDGE_OVF ch) = 1 := by
  rw [State.wordFlagged, State.get_err_apart _ (.inl (by simp; omega)),
    State.get_raise_apart _ (by simp [FieldRef.ok]) (.inl (by simp [rawBit]; omega))]
  exact State.get_put_of_lt _ (by simp [FieldRef.ok]) (by simp)

theorem State.edgeOverflow_raised (s : State) (ch : Nat) : (s.wordFlagged ch (Reg.INP.CH_STAT.EDGE_OVF ch) 9).isRaised (page .inp ch) 9 :=
  State.isRaised_put_of (State.isRaised_raise _ _ (by decide)) _ (by simp [FieldRef.ok]) (by simp)

theorem State.deliver_full_shows {s : State} {ch : Nat} (h : 16 ≤ (s.inpCh ch).admitted) (ts : Nat) (rev : Bool) :
    InpFrame ch (overflowFields ch) s (s.deliver ch ts rev) ∧
    (s.deliver ch ts rev).inpCh ch = { s.inpCh ch with overflowed := true, noPeriod := true } ∧
    ((s.inpCh ch).overflowed = false →
      (s.deliver ch ts rev).get (Reg.INP.CH_STAT.EDGE_OVF ch) = 1 ∧ (s.deliver ch ts rev).isRaised (page .inp ch) 9) := by
  rw [State.deliver_full h]
  split
  next hagain =>
    exact ⟨InpFrame.setInp ch _ _ _, by rw [State.setInp_inpCh, if_pos rfl], fun hnew => absurd hagain (by rw [hnew]; decide)⟩
  · have hframe := s.edgeOverflow_frame ch
    have hovf := s.edgeOverflow_ovf ch
    have hraised := s.edgeOverflow_raised ch
    generalize s.wordFlagged ch (Reg.INP.CH_STAT.EDGE_OVF ch) 9 = u at *
    exact ⟨(InpFrame.of_fields hframe ch).trans (InpFrame.setInp ch _ _ _), by rw [State.setInp_inpCh, if_pos rfl],
      fun _ => ⟨by rw [State.setInp_get, hovf], hraised⟩⟩

/-- Settles O10. The two clauses are R80 with R81, and R83, R84, R86 and R99 for a rising edge of A with EDGE 0. -/
theorem toothEdgeCountsAndIsDelivered : Obligations.ToothEdgeCountsAndIsDelivered := by
  unfold Obligations.ToothEdgeCountsAndIsDelivered
  refine ⟨fun ch held first st s hold hfirst => ?_, fun ch st held d s hfilt hscan hmode ha hsrc hedge hclass howns => ?_⟩
  · have haccepts := State.filterAccepts_plain hold held (s.now + st)
    subst hfirst
    refine ⟨haccepts, fun hne level => ?_⟩
    have hnone : s.filterAccepts ch 0 held (s.now + st) = none := by rw [haccepts]; exact if_neg hne
    have hmoves : s.pinAccepts ch 0 (some ⟨level, held⟩) (s.inpCh ch).a (s.now + st) = none := by
      rw [State.pinAccepts]
      split
      · rfl
      · exact hnone
    refine ⟨s.setInp ch (s.inpCh ch), ?_, rfl, fun k => s.setInp_same ch k⟩
    change run s (s.pins ch (some ⟨level, held⟩) none none (s.now + st)) = _
    rw [State.pins_still hmoves]
    rfl
  · have hexec : exec (.pinEdgeAccept ch (some ⟨true, held⟩) none none st) s =
        run s (s.pins ch (some ⟨true, held⟩) none none (s.now + st)) := rfl
    rw [State.pins_toothCounted hfilt hscan hmode ha hsrc hedge hclass howns] at hexec
    obtain ⟨hframe, hself, hcount, hdir, hpin⟩ := s.toothCounted_shows ch (s.now + st - d)
    generalize s.toothCounted ch (s.now + st - d) = u at *
    rcases Nat.lt_or_ge (s.inpCh ch).admitted 16 with hroom | hfull
    · obtain ⟨hdeliver, hdelivered, hlatch⟩ := State.deliver_shows (s := u) (ch := ch) (by rw [hself]; exact hroom) (s.now + st - d) false
      have hkeep : (u.deliver ch (s.now + st - d) false).count ch = u.count ch :=
        hdeliver.get (by simp [FieldRef.ok]) (by simp [deliverFields, FieldRef.apart, rawBit]; omega)
      have hdir' : (u.deliver ch (s.now + st - d) false).get (Reg.INP.CH_STAT.DIR ch) = u.get (Reg.INP.CH_STAT.DIR ch) :=
        hdeliver.get (by simp [FieldRef.ok]) (by simp [deliverFields, FieldRef.apart, rawBit])
      generalize u.deliver ch (s.now + st - d) false = t at *
      have hall := (hframe.mono (by simp)).then_inp (hdeliver.mono (gs := [Reg.INP.COUNT_NOW.COUNT ch, Reg.INP.CH_STAT.DIR ch,
        Reg.INP.LATCH_POS.POS ch, Reg.INP.DIRCHG_CNT.COUNT ch, rawBit (page .inp ch) 12]) (by simp [deliverFields]))
      refine ⟨t, hexec.trans hall.run_eq, by rw [hkeep, hcount]; rfl, by rw [hdir', hdir], by rw [hdelivered, hself]; rfl, fun hp hl => ?_,
        fun _ => ⟨?_, by rw [hlatch, hkeep], hall⟩, fun h => absurd hroom (by omega)⟩
      · obtain ⟨hcarts, hlen⟩ := hpin hp hl
        exact ⟨hdeliver.carts_eq.trans hcarts, by rw [hdeliver.recd_eq, hlen]⟩
      · rw [hdelivered, hself, hkeep, ← InpCh.turns_forward]
        rfl
    · obtain ⟨hdeliver, hdelivered, hnew⟩ :=
        State.deliver_full_shows (s := u) (ch := ch) (by rw [hself]; exact hfull) (s.now + st - d) false
      have hkeep : (u.deliver ch (s.now + st - d) false).count ch = u.count ch :=
        hdeliver.get (by simp [FieldRef.ok]) (by simp [overflowFields, FieldRef.apart, rawBit]; omega)
      have hdir' : (u.deliver ch (s.now + st - d) false).get (Reg.INP.CH_STAT.DIR ch) = u.get (Reg.INP.CH_STAT.DIR ch) :=
        hdeliver.get (by simp [FieldRef.ok]) (by simp [overflowFields, FieldRef.apart, rawBit]; omega)
      generalize u.deliver ch (s.now + st - d) false = t at *
      have hall := (hframe.mono (by simp)).then_inp (hdeliver.mono (gs := [Reg.INP.COUNT_NOW.COUNT ch, Reg.INP.CH_STAT.DIR ch,
        Reg.INP.CH_STAT.EDGE_OVF ch, Reg.HEAD.PG_ERRCNT.COUNT (page .inp ch), rawBit (page .inp ch) 9]) (by simp [overflowFields]))
      refine ⟨t, hexec.trans hall.run_eq, by rw [hkeep, hcount]; rfl, by rw [hdir', hdir], by rw [hdelivered, hself], fun hp hl => ?_,
        fun h => absurd hfull (by omega), fun _ hclear => ?_⟩
      · obtain ⟨hcarts, hlen⟩ := hpin hp hl
        exact ⟨hdeliver.carts_eq.trans hcarts, by rw [hdeliver.recd_eq, hlen]⟩
      · obtain ⟨hovf, hraised⟩ := hnew (by rw [hself]; exact hclear)
        exact ⟨by rw [hdelivered, hself], hovf, hraised, by rw [hdelivered], hall⟩

end Sys2Proof.Machine
end

section
/-! PROOFS. A commit of the recorder's page whose door is none of the four (chapter 5: R166; chapter 10: R417). -/

namespace Sys2Proof.Machine

/-- A commit of CART_CLS that is filed under a fifth door. -/
def fifthDoorCommit : Commit :=
  ⟨4, page .recorder 0, 1, true, [⟨false, Reg.REC.CART_CLS.COMMIT_CLS.addr, 0x00123456, 0xFFFFFFFF⟩], true, [], []⟩

/-- That commit due at tick 1, the tick about to begin. -/
def fifthDoorDue : State :=
  { State.reset with
    clk := { Clk.reset with running := true }
    commits := [fifthDoorCommit] }

/-- Some COMMIT cart that a command leaves is in the class that holds after it. -/
def commitCartAgrees (i : Instr) (s : State) : Bool :=
  match exec i s with
  | .next t => t.carts.any (fun x => x.typ == 0x07 && x.cls == t.commitCls)
  | _ => false

theorem fifthDoorDue_otherClass : commitCartAgrees .commitApply fifthDoorDue = false := by decide +kernel

/-- Refutes O20: the statement takes every number for a door, and the classes that commits of CART_CLS due at a tick give its carts
(R417) are those of commits of doors 0 to 3, so the COMMIT cart of a commit that is filed under door 4 is in the class from before it.
That the commit is due at the tick about to begin is the model's choice (log entry 13). -/
theorem not_commitTakesEffectWhole : ¬ Obligations.CommitTakesEffectWhole := by
  unfold Obligations.CommitTakesEffectWhole
  intro hwhole
  obtain ⟨heffective, -⟩ := hwhole fifthDoorCommit fifthDoorDue rfl (by decide +kernel) (by decide) rfl rfl rfl rfl (by decide) (by decide)
    (by decide +kernel)
  obtain ⟨t, hexec, -, -, -, -, -, ⟨x, hmem, htyp, -, hcls⟩, -⟩ := heffective (by decide +kernel)
  have hdiffers := fifthDoorDue_otherClass
  rw [commitCartAgrees, hexec] at hdiffers
  have hagrees : t.carts.any (fun x => x.typ == 0x07 && x.cls == t.commitCls) = true :=
    List.any_eq_true.2 ⟨x, hmem, by simp [htyp, hcls]⟩
  exact absurd hagrees (by simp [hdiffers])

end Sys2Proof.Machine
end

section
/-! PROOFS. The commit tick, and an edit of one word of a live slot (chapter 5: R166, R167). -/

namespace Sys2Proof.Machine

/-! ### The record of a commit -/

/-- What the judgement and the record of a commit change: commits, doors and the record. -/
def CommitNoted (s t : State) : Prop :=
  t = { s with commits := t.commits, doors := t.doors, carts := t.carts, recd := t.recd }

theorem CommitNoted.trans {s t u : State} (h : CommitNoted s t) (k : CommitNoted t u) : CommitNoted s u := by
  unfold CommitNoted at *
  rw [k, h]

theorem CommitNoted.slot_eq {s t : State} (h : CommitNoted s t) (k : Nat) : t.slot k = s.slot k := by
  rw [State.slot, State.slot, h]

theorem CommitNoted.tick_eq {s t : State} (h : CommitNoted s t) : t.tick = s.tick := by rw [h]

theorem CommitNoted.regs_eq {s t : State} (h : CommitNoted s t) : t.regs = s.regs := by rw [h]

theorem CommitNoted.eps_eq {s t : State} (h : CommitNoted s t) : t.eps = s.eps := by rw [h]

theorem OnlyCarts.commitNoted {s t : State} (h : OnlyCarts s t) : CommitNoted s t := by
  unfold OnlyCarts at h
  unfold CommitNoted
  rw [h]

theorem State.setOutcome_noted (s : State) (d p code tick : Nat) : CommitNoted s (s.setOutcome d p code tick) := rfl

/-- The number of a commit's record, taken. -/
def State.commitNumbered (s : State) (d : Nat) : State :=
  { s with recd := { s.recd with
      commitNo := s.recd.commitNo.set (fun _ => 0) d ((s.recd.commitNo.get (fun _ => 0) d + 1) % 2 ^ 32) } }

theorem State.commitRecord_carts (s : State) (c : Commit) (code : Nat) : OnlyCarts (s.commitNumbered c.door) (s.commitRecord c code) := by
  unfold State.commitRecord
  exact OnlyCarts.forEach (fun _ _ => State.recordTwice_carts _ _ _ _ _ _) _ _

theorem State.commitRecord_noted (s : State) (c : Commit) (code : Nat) : CommitNoted s (s.commitRecord c code) := by
  have hnumber : CommitNoted s (s.commitNumbered c.door) := rfl
  exact hnumber.trans (s.commitRecord_carts c code).commitNoted

theorem State.commitRecord_commits (s : State) (c : Commit) (code : Nat) : (s.commitRecord c code).commits = s.commits := by
  rw [s.commitRecord_carts c code]
  rfl

/-! ### A content that takes effect (R166) -/

/-- With no commit of the recorder's page due, no class is foreseen. -/
theorem State.foresee_none {s : State} (h : ∀ x ∈ s.commits, x.page = page .recorder 0 → s.tick < x.eff) : s.foresee = s := by
  unfold State.foresee
  refine State.forEach_unchanged fun d _ => ?_
  have hnone : s.commits.filter (fun c => c.door == d && c.page == page .recorder 0 && decide (c.eff ≤ s.tick)) = [] := by
    refine List.filter_eq_nil_iff.2 fun x hx htrue => ?_
    simp only [Bool.and_eq_true, beq_iff_eq, decide_eq_true_eq] at htrue
    have := h x hx htrue.1.2
    omega
  rw [hnone]
  rfl

/-- The commits without one. -/
def State.withoutCommit (s : State) (c : Commit) : State := { s with commits := s.commits.erase c }

/-- A commit found sound, before its content takes effect: gone from the list, its outcome EFFECTIVE, recorded. -/
def State.effectNoted (s : State) (c : Commit) : State :=
  let t := s.withoutCommit c
  (if c.latest then t.setOutcome c.door c.page 2 c.eff else t).commitRecord c 2

theorem State.effectNoted_noted (s : State) (c : Commit) : CommitNoted s (s.effectNoted c) := by
  have herase : CommitNoted s (s.withoutCommit c) := rfl
  unfold State.effectNoted
  dsimp only
  split
  · exact (herase.trans (State.setOutcome_noted _ _ _ _ _)).trans (State.commitRecord_noted _ _ _)
  · exact herase.trans (State.commitRecord_noted _ _ _)

theorem State.effectNoted_commits (s : State) (c : Commit) : (s.effectNoted c).commits = s.commits.erase c := by
  unfold State.effectNoted
  dsimp only
  rw [State.commitRecord_commits]
  split <;> rfl

theorem Commit.live_whole {c : Commit} (h : c.void = []) : c.live = c.entries := by
  rw [Commit.live, h]
  rfl

/-- A commit takes effect when its content stands and it lacks no carriage. -/
theorem State.applyCommit_effective {s : State} {c : Commit} (hfore : s.foresee = s) (hvoid : c.void = []) (hplaced : c.placed = true)
    (hstands : s.contentBad (some (s.comp c.door)) c.page c.entries = false) (hahead : s.lookaheadBad c.page c.entries = false)
    (hqueue : s.queueFull (s.commits.takeWhile (fun x => x != c)) c.entries = false)
    (hfill : (s.withoutCommit c).fillIn ((s.withoutCommit c).overlay c.entries) c.reserved (slotsOf c.entries) =
      some (s.withoutCommit c)) :
    s.applyCommit c = ((s.effectNoted c).applyContent c.page c.door c.entries c.reserved).foresee := by
  have hfill' : State.fillIn { s with commits := s.commits.erase c } (State.overlay { s with commits := s.commits.erase c } c.entries)
      c.reserved (slotsOf c.entries) = some (s.withoutCommit c) := hfill
  have hqueue' : State.queueFull { s with commits := s.commits.erase c } (s.commits.takeWhile (fun x => x != c)) c.entries = false := hqueue
  unfold State.applyCommit
  dsimp only
  simp only [hfore, Commit.live_whole hvoid, hstands, hahead, hplaced, hqueue', hfill']
  rfl

/-! ### Entries that load coaches' queues -/

theorem State.loadQueues_fabric (s : State) (es : List Entry) : s.loadQueues es = { s with fabric := (s.loadQueues es).fabric } := by
  unfold State.loadQueues
  dsimp only
  generalize s.fabric.carr.filter (fun e => (slotsOf es).contains e.2.handle) = l
  induction l generalizing s with
  | nil => rfl
  | cons x l ih =>
    rw [State.forEach_cons, ih]
    rfl

theorem State.loadQueues_slot (s : State) (es : List Entry) (k : Nat) : (s.loadQueues es).slot k = s.slot k := by
  rw [State.slot, State.slot, s.loadQueues_fabric es]

/-! ### A word of a slot -/

theorem Slot.word_setWord (sl : Slot) {k : Nat} (h : k < sl.w.length) (v : Word) (j : Nat) :
    (sl.setWord k v).word j = if j = k then v else sl.word j := by
  unfold Slot.word Slot.setWord
  dsimp only
  rw [List.getD_eq_getElem?_getD, List.getElem?_set]
  by_cases hj : k = j
  · rw [if_pos hj, if_pos (hj ▸ h), if_pos hj.symm]
    rfl
  · rw [if_neg hj, if_neg (Ne.symm hj), List.getD_eq_getElem?_getD]

theorem Slot.setWord_length (sl : Slot) (k : Nat) (v : Word) : (sl.setWord k v).w.length = sl.w.length := List.length_set

/-- A slot whose generation is one higher. -/
def Slot.regen (sl : Slot) : Slot := sl.setWord 0 (Word.withBits (sl.word 0) 31 25 ((sl.gen + 1) % 128))

theorem Slot.regen_field {sl : Slot} (h : sl.w.length = 7) {hi : Nat} (lo : Nat) (hhi : hi < 25) :
    sl.regen.field 0 hi lo = sl.field 0 hi lo := by
  rw [Slot.field, Slot.regen, sl.word_setWord (by omega), if_pos rfl,
    Word.bits_withBits_apart _ _ (by decide) (by decide) (.inl hhi)]
  rfl

/-- The words of a slot of a TYPE that keeps its wheel: only the generation moves, with W0. -/
theorem Slot.replaced_words {sl old : Slot} (hold : old.typ ≠ 0) (hwheel : sl.wheel = old.wheel) (n : Nat) (w0 : Bool) :
    (sl.replaced old n w0).w = (if w0 then sl.regen else sl).w ∧ (sl.replaced old n w0).pass = sl.pass := by
  have hfresh : (old.typ == 0 && sl.typ != 0) = false := by simp [hold]
  have hmoved : (sl.wheel != old.wheel) = false := by simp [hwheel]
  unfold Slot.replaced
  simp only [hfresh, hmoved, Bool.false_eq_true, if_false, apply_ite Slot.w, apply_ite Slot.pass, ite_self]
  exact ⟨rfl, ite_self _⟩

theorem Slot.field_of_words {a b : Slot} (h : a.w = b.w) (k hi lo : Nat) : a.field k hi lo = b.field k hi lo := by
  rw [Slot.field, Slot.field, Slot.word, Slot.word, h]

/-- What a slot of a TYPE shows after a change of its words that keeps TYPE, PROT and WHEEL. -/
theorem Slot.replaced_kept {sl old : Slot} (hlen : sl.w.length = 7) (hold : old.typ ≠ 0) (hwheel : sl.wheel = old.wheel) (n : Nat)
    (w0 : Bool) : (sl.replaced old n w0).typ = sl.typ ∧ (sl.replaced old n w0).prot = sl.prot ∧ (sl.replaced old n w0).wheel = sl.wheel := by
  obtain ⟨hwords, -⟩ := Slot.replaced_words hold hwheel n w0
  have hfield : ∀ hi lo, hi < 25 → (sl.replaced old n w0).field 0 hi lo = sl.field 0 hi lo := by
    intro hi lo hhi
    rw [Slot.field_of_words hwords]
    cases w0 with
    | true => exact Slot.regen_field hlen lo hhi
    | false => rfl
  exact ⟨hfield 2 0 (by decide), congrArg (· == 1) (hfield 10 10 (by decide)), hfield 8 3 (by decide)⟩

/-! ### An edit of one word (R167) -/

theorem State.slotApplied_edit {s : State} {h : Nat} {old : Slot} (hlen : (s.slot h).w.length = 7) (hold : old.typ ≠ 0)
    (htyp : (s.slot h).typ = old.typ) (hprot : (s.slot h).prot = old.prot) (hwheel : (s.slot h).wheel = old.wheel) (w0 : Bool)
    (rs : List (Nat × Nat)) : s.slotApplied h old w0 rs = s.setSlot h ((s.slot h).replaced old s.tick w0) := by
  obtain ⟨htyp', hprot', hwheel'⟩ := Slot.replaced_kept hlen hold hwheel s.tick w0
  unfold State.slotApplied
  simp only [State.onSlot_eq, State.setSlot_slot, if_true, htyp', htyp, hold, if_false, hprot', hprot, hwheel', hwheel, ne_eq,
    not_true_eq_false, or_self]

theorem sortNat_single (x : Nat) : sortNat [x] = [x] := rfl

theorem slotsOf_word {h k : Nat} (hh : h < 131072) (hk : k < 7) (v m : Word) : slotsOf [⟨true, h * 32 + k * 4, v, m⟩] = [h] := by
  have hlt : h * 32 + k * 4 < 0x400000 := by omega
  have hdiv : (h * 32 + k * 4) / 32 = h := by omega
  rw [slotsOf, List.filter_cons_of_pos (by simp [hlt]), List.filter_nil, List.map_singleton]
  dsimp only
  rw [hdiv, sortNat_single]

theorem State.overlay_word {h k : Nat} (hh : h < 131072) (hk : k < 7) (s : State) (v m : Word) :
    s.overlay [⟨true, h * 32 + k * 4, v, m⟩] = s.setSlot h ((s.slot h).setWord k (overlaid ((s.slot h).word k) v m)) := by
  have hlt : h * 32 + k * 4 < 0x400000 := by omega
  have hdiv : (h * 32 + k * 4) / 32 = h := by omega
  have hword : (h * 32 + k * 4) / 4 % 8 = k := by omega
  rw [State.overlay, State.forEach_cons, State.forEach_nil, State.putEntry]
  simp only [Bool.not_true, Bool.false_eq_true, if_false, hlt, if_true, hdiv, hword, State.onSlot_eq]

/-- A content that gives a slot of a TYPE no protection it did not have lacks no carriage. -/
theorem State.fillIn_enough {s after : State} {h : Nat} (htyp : (s.slot h).typ ≠ 0) (hprot : (after.slot h).prot = (s.slot h).prot)
    (rs : List (Nat × Nat)) : s.fillIn after rs [h] = some s := by
  have hwants : s.wants h (s.slot h) (after.slot h) = 0 := by
    have hgains : ¬ ((s.slot h).prot ∧ !(s.slot h).prot) := by simp
    unfold State.wants
    rw [hprot, if_neg htyp, if_neg hgains, ite_self]
  unfold State.fillIn preferAim
  simp only [State.fillWith, hwants, State.reserveMore]

/-- The words of a slot after an edit of word k: W0 takes the next generation. -/
theorem Slot.word_edited {sl new : Slot} {k : Nat} (hlen : sl.w.length = 7) (hw : new.w = (if (k == 0) = true then sl.regen else sl).w)
    (j : Nat) : new.word j =
      if k = 0 ∧ j = 0 then Word.withBits (sl.word 0) 31 25 ((sl.gen + 1) % 128) else sl.word j := by
  rw [Slot.word, hw, ← Slot.word]
  by_cases h0 : k = 0
  · simp only [h0, BEq.rfl, if_true, true_and]
    exact sl.word_setWord (by omega) _ j
  · simp only [beq_iff_eq, h0, if_false, false_and]

/-- A commit of one word of a live slot at its tick. -/
theorem State.applyCommit_word {s : State} {c : Commit} {h k : Nat} {v m : Word} {sl : Slot}
    (hpage : c.page = page .scn 0) (hvoid : c.void = []) (hplaced : c.placed = true) (hh : h < 131072) (hk : k < 7)
    (hentries : c.entries = [⟨true, h * 32 + k * 4, v, m⟩]) (hsl : sl = (s.slot h).setWord k (overlaid ((s.slot h).word k) v m))
    (hlen : (s.slot h).w.length = 7) (hold : (s.slot h).typ ≠ 0) (htyp : sl.typ = (s.slot h).typ) (hprot : sl.prot = (s.slot h).prot)
    (hwheel : sl.wheel = (s.slot h).wheel) (hstands : s.contentBad (some (s.comp c.door)) c.page c.entries = false)
    (hqueue : s.queueFull (s.commits.takeWhile (fun x => x != c)) c.entries = false)
    (hrec : ∀ x ∈ s.commits, x.page = page .recorder 0 → s.tick < x.eff) :
    s.applyCommit c =
      ((((s.effectNoted c).setSlot h sl).loadQueues c.entries).setSlot h (sl.replaced (s.slot h) s.tick (k == 0))) := by
  have hslots : slotsOf c.entries = [h] := by rw [hentries, slotsOf_word hh hk]
  have hahead : s.lookaheadBad c.page c.entries = false := by
    rw [hpage]
    rfl
  have hoverlay : ∀ u : State, u.slot h = s.slot h → u.overlay c.entries = u.setSlot h sl := by
    intro u hu
    rw [hentries, State.overlay_word hh hk, hu, hsl]
  have hfill : (s.withoutCommit c).fillIn ((s.withoutCommit c).overlay c.entries) c.reserved (slotsOf c.entries) =
      some (s.withoutCommit c) := by
    rw [hslots, hoverlay (s.withoutCommit c) rfl]
    refine State.fillIn_enough (s := s.withoutCommit c) hold ?_ _
    rw [State.setSlot_slot, if_pos rfl, hprot]
    rfl
  have hnoted := s.effectNoted_noted c
  have hcommits := s.effectNoted_commits c
  rw [State.applyCommit_effective (State.foresee_none hrec) hvoid hplaced hstands hahead hqueue hfill]
  generalize s.effectNoted c = u at *
  have hself := hnoted.slot_eq h
  have hw0 : c.entries.any (fun e => e.bar2 && e.off == h * 32) = (k == 0) := by
    rw [hentries, List.any_cons, List.any_nil, Bool.or_false, Bool.true_and]
    dsimp only
    cases k with
    | zero => simp
    | succ k => simp
  have hlen' : sl.w.length = 7 := by rw [hsl, Slot.setWord_length, hlen]
  have happlied : u.applyContent c.page c.door c.entries c.reserved =
      ((u.setSlot h sl).loadQueues c.entries).setSlot h (sl.replaced (s.slot h) s.tick (k == 0)) := by
    have hloaded : ((u.setSlot h sl).loadQueues c.entries).slot h = sl := by
      rw [State.loadQueues_slot, State.setSlot_slot, if_pos rfl]
    have htick : ((u.setSlot h sl).loadQueues c.entries).tick = s.tick := by
      rw [State.loadQueues_fabric]
      exact hnoted.tick_eq
    rw [State.applyContent, if_pos hpage, State.applySlots, hslots, State.forEach_cons, State.forEach_nil, hoverlay u hself, hself, hw0,
      State.slotApplied_edit (by rw [hloaded, hlen']) hold (by rw [hloaded, htyp]) (by rw [hloaded, hprot]) (by rw [hloaded, hwheel]),
      hloaded, htick]
  rw [happlied]
  refine State.foresee_none ?_
  have hcommits' : (((u.setSlot h sl).loadQueues c.entries).setSlot h (sl.replaced (s.slot h) s.tick (k == 0))).commits =
      s.commits.erase c := by
    rw [State.setSlot_commits, State.loadQueues_fabric]
    exact hcommits
  have htick : (((u.setSlot h sl).loadQueues c.entries).setSlot h (sl.replaced (s.slot h) s.tick (k == 0))).tick = s.tick := by
    rw [State.setSlot_tick, State.loadQueues_fabric]
    exact hnoted.tick_eq
  rw [hcommits', htick]
  exact fun x hx => hrec x (List.mem_of_mem_erase hx)

/-- Settles O21. That the edit takes effect in the tick about to begin is the model's choice (log entry 13). -/
theorem slotEditReplacesItsWord : Obligations.SlotEditReplacesItsWord := by
  unfold Obligations.SlotEditReplacesItsWord
  intro c h k v m s hrun hnext hpage hvoid hplaced hreserved hh hk hentries hlen hold htyp hprot hwheel hstands hqueue hrec
  have hexec : exec .commitApply s = run s (s.early (fun s => match s.nextCommit with
      | some c => s.applyCommit c
      | none => s)) := rfl
  rw [State.early_running hrun, hnext] at hexec
  dsimp only at hexec
  rw [State.applyCommit_word hpage hvoid hplaced hh hk hentries rfl hlen hold htyp hprot hwheel hstands hqueue hrec] at hexec
  have hnoted := s.nextTick.effectNoted_noted c
  have hlen' := Slot.setWord_length (s.nextTick.slot h) k (overlaid ((s.nextTick.slot h).word k) v m)
  have hset := (s.nextTick.slot h).word_setWord (k := k) (by omega) (overlaid ((s.nextTick.slot h).word k) v m)
  have hpass : ((s.nextTick.slot h).setWord k (overlaid ((s.nextTick.slot h).word k) v m)).pass = (s.nextTick.slot h).pass := rfl
  generalize (s.nextTick.slot h).setWord k (overlaid ((s.nextTick.slot h).word k) v m) = sl at *
  obtain ⟨hwords, hpass'⟩ := Slot.replaced_words (sl := sl) hold hwheel s.nextTick.tick (k == 0)
  have hword := Slot.word_edited (k := k) (by rw [hlen', hlen]) hwords
  generalize sl.replaced (s.nextTick.slot h) s.nextTick.tick (k == 0) = new at *
  generalize s.nextTick.effectNoted c = u at *
  have hslot : ∀ j, ((((u.setSlot h sl).loadQueues c.entries).setSlot h new)).slot j = if j = h then new else s.nextTick.slot j := by
    intro j
    rw [State.setSlot_slot, State.loadQueues_slot, State.setSlot_slot, hnoted.slot_eq]
    split <;> rfl
  have hstate : (((u.setSlot h sl).loadQueues c.entries).setSlot h new).regs = u.regs ∧
      (((u.setSlot h sl).loadQueues c.entries).setSlot h new).eps = u.eps := by
    rw [State.setSlot_regs, State.setSlot_eps, State.loadQueues_fabric]
    exact ⟨rfl, rfl⟩
  obtain ⟨hregs, heps⟩ := hstate
  generalize ((u.setSlot h sl).loadQueues c.entries).setSlot h new = w at *
  have hself := hslot h
  rw [if_pos rfl] at hself
  refine ⟨_, hexec, rfl, ?_, fun j hj hne => ?_, ?_, fun j hj => (hslot j).trans (if_neg hj), hregs.trans hnoted.regs_eq,
    heps.trans hnoted.eps_eq⟩
  · change (w.slot h).word k = _
    rw [hself, hword]
    by_cases h0 : k = 0
    · subst h0
      rw [if_pos rfl, if_pos ⟨rfl, rfl⟩, Slot.gen, Slot.field, hset, if_pos rfl]
    · rw [if_neg fun hboth => h0 hboth.1, if_neg h0, hset, if_pos rfl]
  · change (w.slot h).word j = _
    rw [hself, hword, if_neg fun hboth => hne (hboth.2.trans hboth.1.symm), hset, if_neg hne]
  · change (w.slot h).pass = _
    rw [hself, hpass', hpass]

end Sys2Proof.Machine
end

section
/-! PROOFS. The preamble's verdict and the self-test's (chapter 14: R356, R358, R366, R376). -/

namespace Sys2Proof.Machine

/-! ### A change of the device state outside a wake -/

theorem State.setDevState_cold {s : State} {v : Nat} (h : s.devState ≠ v) (hwake : s.power.waking = false) :
    s.setDevState v = (s.put Reg.GLB.DEV_STATE.STATE v).raise (page .glb 0) 0 := by
  rw [State.setDevState, if_neg h, State.wakeEnds, if_neg]
  rw [State.raise_power, State.put_power, hwake]
  simp

/-- The fields that the entry into SHUTTERED writes. -/
def shutteredFields : List FieldRef := [Reg.GLB.DEV_STATE.STATE, Reg.PRF.STAT.LOAD_CAUSE, rawBit (page .glb 0) 0]

theorem State.enterShuttered_cold {s : State} (h : s.devState ≠ 6) (hwake : s.power.waking = false) (cause : Nat) :
    s.enterShuttered cause = ((s.put Reg.PRF.STAT.LOAD_CAUSE cause).put Reg.GLB.DEV_STATE.STATE 6).raise (page .glb 0) 0 := by
  refine State.setDevState_cold ?_ (by rw [State.put_power, hwake])
  rw [State.devState, State.get_put_apart _ _ (by decide) (by decide)]
  exact h

theorem State.enterShuttered_shows {s : State} (h : s.devState ≠ 6) (hwake : s.power.waking = false) {cause : Nat} (hc : cause < 16) :
    OnlyFields shutteredFields s (s.enterShuttered cause) ∧ (s.enterShuttered cause).devState = 6 ∧
    (s.enterShuttered cause).get Reg.PRF.STAT.LOAD_CAUSE = cause ∧ (s.enterShuttered cause).isRaised (page .glb 0) 0 := by
  refine ⟨?_, State.setDevState_devState _ (by decide), ?_, ?_⟩
  · rw [State.enterShuttered_cold h hwake]
    exact (((OnlyFields.refl _ s).andPut (by simp [shutteredFields])).andPut (by simp [shutteredFields])).andRaise (by simp [shutteredFields])
  · rw [State.enterShuttered_cold h hwake, State.get_raise_apart _ (by decide) (by decide),
      State.get_put_apart _ _ (by decide) (by decide)]
    exact State.get_put_of_lt _ (by decide) hc
  · rw [State.enterShuttered_cold h hwake]
    exact State.isRaised_raise _ _ (by decide)

/-! ### The images depend on the flash and the part only -/

theorem State.imageAt_congr {s t : State} (hflash : t.flash = s.flash) (hpower : t.power = s.power) (a : Nat) :
    t.imageAt a = s.imageAt a := by
  cases s
  cases t
  dsimp only at hflash hpower
  subst hflash hpower
  rfl

theorem State.copyAbsent_congr {s t : State} (hsize : t.flashSize = s.flashSize) (p c : Nat) : t.copyAbsent p c = s.copyAbsent p c := by
  rw [State.copyAbsent, State.copyAbsent, hsize]

theorem State.copyOf_congr {s t : State} (hflash : t.flash = s.flash) (hpower : t.power = s.power) (hsize : t.flashSize = s.flashSize)
    (p c : Nat) : t.copyOf p c = s.copyOf p c := by
  rw [State.copyOf, State.copyOf, State.copyAbsent_congr hsize, State.imageAt_congr hflash hpower]

/-- `chooseCopy` as a function: its match is not unfolded at an argument, where the kernel would evaluate the images. -/
theorem State.chooseCopy_fn : @State.chooseCopy = fun s p =>
    match s.copyOf p 0, s.copyOf p 1 with
    | some a, some b => if a.version < b.version then some (1, b) else some (0, a)
    | some a, none => some (0, a)
    | none, some b => some (1, b)
    | none, none => none := rfl

theorem State.chooseCopy_congr {s t : State} (hflash : t.flash = s.flash) (hpower : t.power = s.power) (hsize : t.flashSize = s.flashSize)
    (p : Nat) : t.chooseCopy p = s.chooseCopy p := by
  rw [State.chooseCopy_fn]
  beta_reduce
  rw [State.copyOf_congr hflash hpower hsize, State.copyOf_congr hflash hpower hsize]

theorem State.verdictOf_congr {s t : State} (hflash : t.flash = s.flash) (hpower : t.power = s.power) (hsize : t.flashSize = s.flashSize)
    (p c : Nat) : t.verdictOf p c = s.verdictOf p c := by
  rw [State.verdictOf, State.verdictOf, State.copyAbsent_congr hsize, State.imageAt_congr hflash hpower]

/-! ### The flash as SFDP gives it (R358) -/

/-- A free byte drawn. -/
def State.drawn (s : State) : State := { s with freeCtr := s.freeCtr + 1 }

/-- FL_INFO of a supported flash, its free DUMMY drawn. -/
def State.flashFound (s : State) (n : Nat) : State :=
  (((s.drawn.put Reg.PRF.FL_INFO.VALID 1).putBit Reg.PRF.FL_INFO.ADDR4 (decide (27 < n))).put Reg.PRF.FL_INFO.DUMMY
    s.drawByte.1.toNat).put Reg.PRF.FL_INFO.DENSITY n

def infoFields : List FieldRef :=
  [Reg.PRF.FL_INFO.VALID, Reg.PRF.FL_INFO.ADDR4, Reg.PRF.FL_INFO.DUMMY, Reg.PRF.FL_INFO.DENSITY]

theorem State.flashFound_frame (s : State) (n : Nat) : OnlyFields infoFields s.drawn (s.flashFound n) :=
  ((((OnlyFields.refl _ s.drawn).andPut (by simp [infoFields])).andPut (by simp [infoFields])).andPut (by simp [infoFields])).andPut
    (by simp [infoFields])

theorem State.flashFound_shows (s : State) {n : Nat} (h : n < 64) : (s.flashFound n).get Reg.PRF.FL_INFO.VALID = 1 ∧
    (s.flashFound n).get Reg.PRF.FL_INFO.DENSITY = n ∧ (s.flashFound n).get Reg.PRF.FL_INFO.ADDR4 = if 27 < n then 1 else 0 := by
  refine ⟨?_, State.get_put_of_lt _ (by decide) (by simp; omega), ?_⟩
  · rw [State.flashFound, State.get_put_apart _ _ (by decide) (by decide), State.get_put_apart _ _ (by decide) (by decide),
      State.putBit_eq, State.get_put_apart _ _ (by decide) (by decide)]
    exact State.get_put_of_lt _ (by decide) (by decide)
  · rw [State.flashFound, State.get_put_apart _ _ (by decide) (by decide), State.get_put_apart _ _ (by decide) (by decide),
      State.putBit_eq]
    by_cases hn : 27 < n
    · rw [if_pos hn, decide_eq_true hn]
      exact State.get_put_of_lt _ (by decide) (by decide)
    · rw [if_neg hn, decide_eq_false hn]
      exact State.get_put_of_lt _ (by decide) (by decide)

/-- The flash known, and the verdicts on a profile's copies shown. -/
def State.copiesShown (s : State) (n : Nat) : State := (s.flashFound n).showCopies (s.flashFound n).power.loadProf

theorem match_eq_elim {β : Type} (o : Option Nat) (none' : β) (some' : Nat → β) :
    (match o with
      | none => none'
      | some n => some' n) = o.elim none' some' := by
  cases o with
  | none => rfl
  | some n => rfl

theorem State.showCopies_power (s : State) (p : Nat) : (s.showCopies p).power = s.power := by
  unfold State.showCopies
  exact State.put_power _ _ _

theorem State.copiesShown_power (s : State) (n : Nat) : (s.copiesShown n).power = s.power := by
  rw [State.copiesShown, State.showCopies_power]
  exact (s.flashFound_frame n).power_eq

/-- `readPreamble` as a function (see `chooseCopy_fn`). -/
theorem State.readPreamble_fn : @State.readPreamble = fun s density =>
    (density.filter (fun n => decide (26 ≤ n ∧ n ≤ 29))).elim (s.enterShuttered 2) fun n =>
      let b := s.drawByte
      let s := (b.2.put Reg.PRF.FL_INFO.VALID 1).putBit Reg.PRF.FL_INFO.ADDR4 (decide (27 < n))
      let s := (s.put Reg.PRF.FL_INFO.DUMMY b.1.toNat).put Reg.PRF.FL_INFO.DENSITY n
      let s := s.showCopies s.power.loadProf
      match (s.chooseCopy s.power.loadProf).bind (fun c => c.2.pre) with
      | none => s.enterShuttered 1
      | some (vid, timing, bist) =>
        let s := (s.plainWrite 0x2054 (BitVec.ofNat 32 vid)).plainWrite 0x2048 (BitVec.ofNat 32 timing)
        let s := { s with power := { s.power with bistSkip := bist == 1 } }
        (s.driveVid 2).setDevState 4 := by
  funext s density
  exact match_eq_elim _ _ _

theorem State.readPreamble_unsupported {s : State} {density : Option Nat} (h : ∀ n, density = some n → n < 26 ∨ 29 < n) :
    s.readPreamble density = s.enterShuttered 2 := by
  have hfilter : density.filter (fun n => decide (26 ≤ n ∧ n ≤ 29)) = none := by
    refine Option.filter_eq_none_iff.2 fun n hn => ?_
    have := h n hn
    simp only [decide_eq_true_eq]
    omega
  rw [State.readPreamble_fn]
  beta_reduce
  rw [hfilter, Option.elim_none]

theorem State.readPreamble_noCopy {s : State} {n : Nat} (hlow : 26 ≤ n) (hhigh : n ≤ 29)
    (h : ((s.copiesShown n).chooseCopy s.power.loadProf).bind (fun c => c.2.pre) = none) :
    s.readPreamble (some n) = (s.copiesShown n).enterShuttered 1 := by
  have hfilter : (some n).filter (fun n => decide (26 ≤ n ∧ n ≤ 29)) = some n := by simp [hlow, hhigh]
  rw [State.readPreamble_fn]
  beta_reduce
  rw [hfilter, Option.elim_some]
  extract_lets b valid found shown
  have hshown : shown = s.copiesShown n := rfl
  rw [hshown, State.copiesShown_power, h]

/-- The self-test to be skipped, or not. -/
def State.withSkip (s : State) (skip : Bool) : State := { s with power := { s.power with bistSkip := skip } }

theorem State.withSkip_reg (s : State) (skip : Bool) (a : Nat) : (s.withSkip skip).reg a = s.reg a := rfl

/-- The preamble's values in force: VID_MAP, DVFS_TIMING and BIST. -/
def State.preambleApplied (s : State) (p : Nat × Nat × Nat) : State :=
  ((s.plainWrite 0x2054 (BitVec.ofNat 32 p.1)).plainWrite 0x2048 (BitVec.ofNat 32 p.2.1)).withSkip (p.2.2 == 1)

theorem State.readPreamble_valid {s : State} {n : Nat} (hlow : 26 ≤ n) (hhigh : n ≤ 29) {p : Nat × Nat × Nat}
    (h : ((s.copiesShown n).chooseCopy s.power.loadProf).bind (fun c => c.2.pre) = some p) :
    s.readPreamble (some n) = (((s.copiesShown n).preambleApplied p).driveVid 2).setDevState 4 := by
  obtain ⟨vid, timing, bist⟩ := p
  have hfilter : (some n).filter (fun n => decide (26 ≤ n ∧ n ≤ 29)) = some n := by simp [hlow, hhigh]
  rw [State.readPreamble_fn]
  beta_reduce
  rw [hfilter, Option.elim_some]
  extract_lets b valid found shown
  have hshown : shown = s.copiesShown n := rfl
  rw [hshown, State.copiesShown_power, h]
  rfl

/-! ### What the verdict shows -/

/-- The fields that the search for a flash and its copies writes. -/
def copyFields : List FieldRef := infoFields ++ [Reg.PRF.COPY_STAT.STATE]

theorem State.showCopies_frame (s : State) (p : Nat) : OnlyFields [Reg.PRF.COPY_STAT.STATE] s (s.showCopies p) := by
  unfold State.showCopies
  exact (OnlyFields.refl _ s).andPut (by simp)

theorem State.copiesShown_frame (s : State) (n : Nat) : OnlyFields copyFields s.drawn (s.copiesShown n) :=
  ((s.flashFound_frame n).mono fun _ hf => List.mem_append_left _ hf).trans ((State.showCopies_frame _ _).mono fun _ hf => List.mem_append_right _ hf)

theorem State.copiesShown_get (s : State) (n : Nat) {f : FieldRef} (ok : f.ok) (ha : Reg.PRF.COPY_STAT.STATE.apart f) :
    (s.copiesShown n).get f = (s.flashFound n).get f :=
  (State.showCopies_frame _ _).get ok (by simpa using ha)

theorem State.flashSize_of {s : State} {n : Nat} (hvalid : s.get Reg.PRF.FL_INFO.VALID = 1) (hdensity : s.get Reg.PRF.FL_INFO.DENSITY = n) :
    s.flashSize = 2 ^ n / 8 := by
  rw [State.flashSize, State.bit, hvalid, hdensity]
  rfl

theorem State.sfdp_flashSize (s : State) {n : Nat} (h : n < 64) :
    ((s.put Reg.PRF.FL_INFO.VALID 1).put Reg.PRF.FL_INFO.DENSITY n).flashSize = 2 ^ n / 8 := by
  refine State.flashSize_of ?_ (State.get_put_of_lt _ (by decide) (by simp; omega))
  rw [State.get_put_apart _ _ (by decide) (by decide)]
  exact State.get_put_of_lt _ (by decide) (by decide)

theorem State.flashFound_flashSize (s : State) {n : Nat} (h : n < 64) : (s.flashFound n).flashSize = 2 ^ n / 8 := by
  obtain ⟨hvalid, hdensity, -⟩ := s.flashFound_shows h
  exact State.flashSize_of hvalid hdensity

theorem State.copiesShown_flashSize (s : State) {n : Nat} (h : n < 64) : (s.copiesShown n).flashSize = 2 ^ n / 8 := by
  obtain ⟨hvalid, hdensity, -⟩ := s.flashFound_shows h
  exact State.flashSize_of ((s.copiesShown_get n (by decide) (by decide)).trans hvalid)
    ((s.copiesShown_get n (by decide) (by decide)).trans hdensity)

theorem State.verdictOf_le (s : State) (p c : Nat) : s.verdictOf p c ≤ 3 := by
  unfold State.verdictOf
  split
  · exact Nat.le_refl 3
  · split <;> omega

theorem State.showCopies_shown (s : State) {p : Nat} (hp : p < 8) :
    (s.showCopies p).get Reg.PRF.COPY_STAT.STATE / 16 ^ p % 16 = s.verdictOf p 1 * 4 + s.verdictOf p 0 := by
  have h0 := s.verdictOf_le p 0
  have h1 := s.verdictOf_le p 1
  unfold State.showCopies
  dsimp only
  rw [State.get_put_self _ _ (by decide)]
  exact (digit_mod _ hp).trans (digit_replaced _ _ 16 p (by omega))

/-! ### A valid preamble (R366) -/

theorem State.plainWrite_congr {s t : State} {a : Nat} (hreg : t.reg a = s.reg a) (hlegal : ∀ f ∈ fieldsAt a, f.legal ≠ .camAngle)
    (v : Word) : (t.plainWrite a v).reg a = (s.plainWrite a v).reg a := by
  have hmerge : ∀ old, t.merge a [.rw] old v = s.merge a [.rw] old v := by
    intro old
    unfold State.merge
    refine List.foldl_ext _ _ _ fun w f hf => ?_
    have hsame : ∀ x, t.legal a f x = s.legal a f x := by
      intro x
      have hne := hlegal f hf
      unfold State.legal
      cases h : f.legal with
      | camAngle => exact absurd h hne
      | _ => rfl
    dsimp only
    rw [hsame]
  rw [State.plainWrite, State.plainWrite, State.setReg_reg, State.setReg_reg, if_pos rfl, if_pos rfl, hmerge, hreg]

theorem State.copiesShown_reg (s : State) (n : Nat) {a : Nat} (hcopy : a ≠ 0x3084) (hinfo : a ≠ 0x30C8) :
    (s.copiesShown n).reg a = s.reg a := by
  rw [State.copiesShown, State.showCopies]
  simp only [State.flashFound, State.putBit_eq, State.put_reg, Reg.PRF.COPY_STAT.STATE, Reg.PRF.FL_INFO.VALID, Reg.PRF.FL_INFO.ADDR4,
    Reg.PRF.FL_INFO.DUMMY, Reg.PRF.FL_INFO.DENSITY, hcopy, hinfo, if_false]
  rfl

theorem State.preambleApplied_reg (s : State) (p : Nat × Nat × Nat) {a : Nat} (hvid : a ≠ 0x2054) (htiming : a ≠ 0x2048) :
    (s.preambleApplied p).reg a = s.reg a := by
  rw [State.preambleApplied, State.withSkip_reg, State.plainWrite_reg_ne _ _ htiming, State.plainWrite_reg_ne _ _ hvid]

theorem State.preambleApplied_vid {s t : State} {p : Nat × Nat × Nat} (h : t.reg 0x2054 = s.reg 0x2054) :
    (t.preambleApplied p).reg 0x2054 = (s.plainWrite 0x2054 (BitVec.ofNat 32 p.1)).reg 0x2054 := by
  rw [State.preambleApplied, State.withSkip_reg, State.plainWrite_reg_ne _ _ (by decide), State.plainWrite_congr h (by decide)]

theorem State.preambleApplied_timing {s t : State} {p : Nat × Nat × Nat} (h : t.reg 0x2048 = s.reg 0x2048) :
    (t.preambleApplied p).reg 0x2048 = (s.plainWrite 0x2048 (BitVec.ofNat 32 p.2.1)).reg 0x2048 := by
  rw [State.preambleApplied, State.withSkip_reg,
    State.plainWrite_congr ((State.plainWrite_reg_ne _ _ (by decide)).trans h) (by decide)]

/-- SELFTEST entered with VID at the code of P2. -/
theorem State.selftestEntered {s : State} (h : s.devState ≠ 4) (hwake : s.power.waking = false) :
    ((s.driveVid 2).setDevState 4).devState = 4 ∧ ((s.driveVid 2).setDevState 4).isRaised (page .glb 0) 0 ∧
    ((s.driveVid 2).setDevState 4).get Reg.PWR.VCORE_STAT.VID_OUT = ((s.driveVid 2).setDevState 4).vidOf 2 ∧
    OnlyFields [Reg.PWR.VCORE_STAT.VID_OUT, Reg.GLB.DEV_STATE.STATE, rawBit (page .glb 0) 0] s ((s.driveVid 2).setDevState 4) ∧
    ∀ a, a ∉ [0x10, 0x44, 0x2060] → ((s.driveVid 2).setDevState 4).reg a = s.reg a := by
  have hvid : OnlyFields [Reg.PWR.VCORE_STAT.VID_OUT, Reg.GLB.DEV_STATE.STATE, rawBit (page .glb 0) 0] s (s.driveVid 2) :=
    (OnlyFields.refl _ s).andPut (by simp)
  have hdev : (s.driveVid 2).devState ≠ 4 := by
    rw [State.devState, State.driveVid, State.get_put_apart _ _ (by decide) (by decide)]
    exact h
  have hcold := State.setDevState_cold hdev (by rw [hvid.power_eq, hwake])
  have hframe : OnlyFields [Reg.PWR.VCORE_STAT.VID_OUT, Reg.GLB.DEV_STATE.STATE, rawBit (page .glb 0) 0] s ((s.driveVid 2).setDevState 4) := by
    rw [hcold]
    exact (hvid.andPut (by simp)).andRaise (by simp)
  refine ⟨State.setDevState_devState _ (by decide), ?_, ?_, hframe, fun a ha => ?_⟩
  · rw [hcold]
    exact State.isRaised_raise _ _ (by decide)
  · have hcode : ((s.driveVid 2).setDevState 4).vidOf 2 = s.vidOf 2 := hframe.get (by decide) (by decide)
    rw [hcode, hcold, State.get_raise_apart _ (by decide) (by decide), State.get_put_apart _ _ (by decide) (by decide)]
    exact State.get_put_of_lt _ (by decide) (s.get_lt Reg.PWR.VID_MAP.P2_VID)
  · simp only [List.mem_cons, List.not_mem_nil, or_false, not_or] at ha
    obtain ⟨hraw, hstate, hcore⟩ := ha
    rw [hcold]
    simp only [State.raise_reg, State.driveVid, State.put_reg, Reg.GLB.DEV_STATE.STATE, Reg.PWR.VCORE_STAT.VID_OUT, page, Block.base,
      hstate, hcore, if_false]
    exact if_neg hraw

/-! ### Coaches that fail their test (R356, R377, R379) -/

/-- The fields that a coach's failure writes. -/
def bistFields : List FieldRef :=
  [Reg.FLT.LOG_COUNT.COUNT, Reg.HEAD.PG_ERRCNT.COUNT (page .flt 0), Reg.FLT.SHUT_CNT.COUNT, rawBit (page .flt 0) 0,
    rawBit (page .flt 0) 1, rawBit (page .scn 0) 0]

/-- What coaches that fail change: registers, coaches, the fault log and the record. -/
def BistFrame (fs : List FieldRef) (s t : State) : Prop :=
  t = { s with regs := t.regs, fabric := { s.fabric with coach := t.fabric.coach }, flt := { s.flt with log := t.flt.log },
               carts := t.carts, recd := { s.recd with seq := t.recd.seq } } ∧ FieldsKept fs s t

theorem BistFrame.refl (fs : List FieldRef) (s : State) : BistFrame fs s s := ⟨rfl, FieldsKept.refl fs s⟩

theorem BistFrame.trans {fs : List FieldRef} {s t u : State} (h : BistFrame fs s t) (k : BistFrame fs t u) : BistFrame fs s u := by
  obtain ⟨hst, hkept⟩ := h
  obtain ⟨htu, hkept'⟩ := k
  refine ⟨?_, hkept.trans hkept'⟩
  rw [htu, hst]

theorem BistFrame.mono {fs gs : List FieldRef} {s t : State} (h : BistFrame fs s t) (hs : ∀ f ∈ fs, f ∈ gs) : BistFrame gs s t :=
  ⟨h.1, h.2.mono hs⟩

theorem OnlyFields.bistFrame {fs : List FieldRef} {s t : State} (h : OnlyFields fs s t) : BistFrame fs s t := by
  refine ⟨?_, h.2⟩
  rw [h.1]

theorem OnlyCarts.bistFrame {s t : State} (h : OnlyCarts s t) (fs : List FieldRef) : BistFrame fs s t := by
  refine ⟨?_, FieldsKept.of_regs h.regs_eq⟩
  rw [h]

/-- A coach shuttered with cause BIST. -/
def bistCoach : Coach := { Coach.reset with state := 4, cause := 1 }

theorem State.failCoach_frame (s : State) (c : Nat) : BistFrame bistFields s (s.setCoach c bistCoach) :=
  ⟨rfl, FieldsKept.of_regs rfl⟩

theorem State.logEntered_bistFrame (s : State) (n : Nat) : BistFrame bistFields s (s.logEntered 7 0x20 n aShuttered 0) := by
  have hlog : BistFrame bistFields s { s with flt := { s.flt with
      log := s.flt.log.insert (s.get Reg.FLT.LOG_COUNT.COUNT % 64) ⟨7, 0x20, n % 256, aShuttered, s.tick, BitVec.ofNat 32 0⟩ } } :=
    ⟨rfl, FieldsKept.of_regs rfl⟩
  refine hlog.trans (OnlyFields.bistFrame (fs := bistFields) ?_)
  exact (((OnlyFields.refl _ _).andPut (by simp [bistFields])).andErr (by simp [bistFields])).andRaise (by simp [bistFields])

theorem State.logFault_bistFrame (s : State) (n : Nat) : BistFrame bistFields s (s.logFault 7 0x20 n aShuttered 0) := by
  rw [State.logFault_shut]
  refine (s.logEntered_bistFrame n).trans (OnlyFields.bistFrame ?_)
  exact ((OnlyFields.refl _ _).andBump (by simp [bistFields])).andRaise (by simp [bistFields])

theorem State.logFault_bistCount (s : State) (n : Nat) :
    (s.logFault 7 0x20 n aShuttered 0).get Reg.FLT.LOG_COUNT.COUNT = (s.get Reg.FLT.LOG_COUNT.COUNT + 1) % 2 ^ 32 := by
  rw [State.logFault_shut, State.get_raise_ne _ (by decide), State.get_bump_apart _ 1 (by decide) (by decide), State.logEntered,
    State.get_raise_ne _ (by decide), State.get_err_apart _ (by decide)]
  exact State.get_put_of_lt _ (by decide) (Nat.mod_lt _ (Nat.two_pow_pos 32))

theorem State.logFault_bistRaised (s : State) (n : Nat) : (s.logFault 7 0x20 n aShuttered 0).isRaised (page .flt 0) 0 := by
  have hentered : (s.logEntered 7 0x20 n aShuttered 0).isRaised (page .flt 0) 0 := State.isRaised_raise _ _ (by decide)
  rw [State.logFault_shut]
  exact State.isRaised_raise_of (State.isRaised_put_of hentered _ (by decide) (by decide)) (by decide) _ _

/-- Carts added, all fault markers. -/
def FaultCarts (s t : State) : Prop := ∃ l, t.carts = l ++ s.carts ∧ ∀ x ∈ l, x.typ = 0x15

theorem FaultCarts.refl (s : State) : FaultCarts s s := ⟨[], rfl, (fun _ hx => nomatch hx)⟩

theorem FaultCarts.trans {s t u : State} (h : FaultCarts s t) (k : FaultCarts t u) : FaultCarts s u := by
  obtain ⟨l, hl, htyp⟩ := h
  obtain ⟨m, hm, htyp'⟩ := k
  refine ⟨m ++ l, by rw [hm, hl, List.append_assoc], fun x hx => ?_⟩
  rcases List.mem_append.1 hx with hx | hx
  · exact htyp' x hx
  · exact htyp x hx

theorem FaultCarts.of_carts {s t u : State} (h : FaultCarts s t) (hcarts : u.carts = t.carts) : FaultCarts s u := by
  obtain ⟨l, hl, htyp⟩ := h
  exact ⟨l, hcarts.trans hl, htyp⟩

theorem MarkerCart.faultCarts {cls at_ : Nat} {s t : State} (h : MarkerCart 0x15 cls at_ s t) : FaultCarts s t := by
  obtain ⟨c, hcarts, htyp, -⟩ := h
  refine ⟨_, hcarts, fun x hx => ?_⟩
  split at hx
  · rw [List.mem_singleton] at hx
    rw [hx, htyp]
  · simp only [List.mem_cons, List.not_mem_nil, or_false] at hx
    rcases hx with rfl | rfl
    · exact htyp
    · exact htyp

/-- The interrupts of a coach's failure. -/
structure CoachFaultRaised (s : State) : Prop where
  logged : s.isRaised (page .flt 0) 0
  shuttered : s.isRaised (page .flt 0) 1
  changed : s.isRaised (page .scn 0) 0

theorem State.coachFails_shows {s : State} {c : Nat} (h : (s.coach c).state ≠ 5) :
    BistFrame bistFields s (s.coachFails c) ∧ (∀ k, (s.coachFails c).coach k = if k = c then bistCoach else s.coach k) ∧
    (s.coachFails c).get Reg.FLT.LOG_COUNT.COUNT = (s.get Reg.FLT.LOG_COUNT.COUNT + 1) % 2 ^ 32 ∧
    CoachFaultRaised (s.coachFails c) ∧ FaultCarts s (s.coachFails c) := by
  have heq : s.coachFails c = (s.setCoach c bistCoach).bistFault c := by
    rw [State.coachFails, if_neg h, State.failCoach, if_neg h]
    rfl
  have hset := s.failCoach_frame c
  have hcoach : ∀ k, (s.setCoach c bistCoach).coach k = if k = c then bistCoach else s.coach k := s.setCoach_coach c bistCoach
  have hcount : (s.setCoach c bistCoach).get Reg.FLT.LOG_COUNT.COUNT = s.get Reg.FLT.LOG_COUNT.COUNT := s.setCoach_get _ _ _
  have hcarts : (s.setCoach c bistCoach).carts = s.carts := rfl
  rw [heq]
  generalize s.setCoach c bistCoach = u at *
  have hlog := u.logFault_bistFrame c
  have hlogCoach := u.logFault_coach 7 0x20 c aShuttered 0
  have hlogCount := u.logFault_bistCount c
  have hfault := u.logFault_bistRaised c
  have hshut := u.logFault_shutRaised 7 0x20 c 0
  have hlogCarts : (u.logFault 7 0x20 c aShuttered 0).carts = u.carts := by rw [u.logFault_state]
  unfold State.bistFault
  generalize u.logFault 7 0x20 c aShuttered 0 = v at *
  have hmarker := v.faultMarker_onlyCarts 7 0x20 (c % 256) aShuttered none c u.tick 63
  have hmarked := (v.faultMarker_marker 7 0x20 (c % 256) aShuttered none c u.tick).faultCarts
  generalize v.faultMarker 7 0x20 (c % 256) aShuttered none c u.tick 63 = w at *
  have hraise : OnlyFields bistFields w (w.raise (page .scn 0) 0) := (OnlyFields.refl _ w).andRaise (by simp [bistFields])
  refine ⟨((hset.trans hlog).trans (hmarker.bistFrame _)).trans hraise.bistFrame, fun k => ?_, ?_, ⟨?_, ?_, ?_⟩, ?_⟩
  · rw [hraise.coach_eq, State.coach_of_same (t := w) (s := v) (by rw [hmarker]) (by rw [hmarker]), hlogCoach, hcoach]
  · rw [State.get_raise_ne _ (by decide), hmarker.get_eq, hlogCount, hcount]
  · exact State.isRaised_raise_of ((hmarker.isRaised_iff _ _).2 hfault) (by decide) _ _
  · exact State.isRaised_raise_of ((hmarker.isRaised_iff _ _).2 hshut) (by decide) _ _
  · exact State.isRaised_raise _ _ (by decide)
  · have hbase : FaultCarts s v := ⟨[], hlogCarts.trans hcarts, (fun _ hx => nomatch hx)⟩
    exact (hbase.trans hmarked).of_carts rfl

/-- The coaches of a list fail one after another. -/
theorem State.forEach_coachFails {l : List CoachNo} {s : State} (h : ∀ c ∈ l, (s.coach c).state ≠ 5) :
    BistFrame bistFields s (s.forEach l fun s c => s.coachFails c) ∧
    (∀ c ∈ l, (s.forEach l fun s c => s.coachFails c).coach c = bistCoach) ∧
    (∀ k, (∀ c ∈ l, c.val ≠ k) → (s.forEach l fun s c => s.coachFails c).coach k = s.coach k) ∧
    (s.forEach l fun s c => s.coachFails c).get Reg.FLT.LOG_COUNT.COUNT = (s.get Reg.FLT.LOG_COUNT.COUNT + l.length) % 2 ^ 32 ∧
    (l ≠ [] → CoachFaultRaised (s.forEach l fun s c => s.coachFails c)) ∧ FaultCarts s (s.forEach l fun s c => s.coachFails c) := by
  induction l generalizing s with
  | nil =>
    have hlt : s.get Reg.FLT.LOG_COUNT.COUNT < 2 ^ 32 := s.get_lt _
    exact ⟨BistFrame.refl _ s, (fun _ hc => nomatch hc), fun _ _ => rfl, (Nat.mod_eq_of_lt hlt).symm, fun hne => absurd rfl hne,
      FaultCarts.refl s⟩
  | cons x l ih =>
    obtain ⟨hframe, hcoach, hcount, hraised, hcarts⟩ := State.coachFails_shows (h x List.mem_cons_self)
    have hrest : ∀ c ∈ l, ((s.coachFails x).coach c).state ≠ 5 := by
      intro c hc
      rw [hcoach]
      split
      · decide
      · exact h c (List.mem_cons_of_mem _ hc)
    obtain ⟨hframe', hfailed, hothers, hcount', hraised', hcarts'⟩ := ih hrest
    rw [State.forEach_cons]
    refine ⟨hframe.trans hframe', fun c hc => ?_, fun k hk => ?_, ?_, fun _ => ?_, hcarts.trans hcarts'⟩
    · by_cases hin : c ∈ l
      · exact hfailed c hin
      · have hx : c = x := (List.mem_cons.1 hc).resolve_right hin
        rw [hothers c fun d hd heq => hin (Fin.ext heq ▸ hd), hcoach, hx, if_pos rfl]
    · rw [hothers k fun c hc => hk c (List.mem_cons_of_mem _ hc), hcoach, if_neg (hk x List.mem_cons_self).symm]
    · rw [hcount', hcount, List.length_cons]
      omega
    · by_cases hnil : l = []
      · subst hnil
        exact hraised
      · exact hraised' hnil

/-! ### The end of the self-test -/

theorem State.admitShutters_none {s : State} (h : s.flt.shutPend = []) : s.admitShutters = s := by
  have hsame : { s with flt := { s.flt with shutPend := [] } } = s := by rw [← h]
  unfold State.admitShutters
  dsimp only
  rw [h, State.forEach_nil, hsame]

theorem State.selftest_essential {s : State} {r : BistResult} (hskip : s.power.bistSkip = false) (hdomains : r.domains = [])
    (hfunctions : r.functions = []) (hessential : r.essential = true)
    (hpend : (s.forEach r.coaches fun s c => s.coachFails c).flt.shutPend = []) :
    s.selftest r = (((s.forEach r.coaches fun s c => s.coachFails c).put Reg.PRF.BIST_STAT.COACH_FAIL
      (s.forEach r.coaches fun s c => s.coachFails c).failedCoaches).put Reg.PRF.BIST_STAT.CORE_FAIL 1).enterShuttered 7 := by
  unfold State.selftest
  rw [hskip, if_neg Bool.false_ne_true]
  dsimp only
  rw [hdomains, hfunctions, State.forEach_nil, State.forEach_nil, State.admitShutters_none (by rw [State.put_flt, hpend]), hessential,
    if_pos rfl]

/-! ### The commands -/

theorem exec_preambleRead {s : State} (hdev : s.devState = 3) (hrun : s.clk.running = true) (density : Option (Fin 64)) :
    exec (.preambleRead density) s = run s (s.readPreamble (density.map fun x => x.val)) := by
  have hexec : exec (.preambleRead density) s =
      run s (s.when (s.devState == 3 && s.clk.running) fun s => s.readPreamble (density.map fun x => x.val)) := rfl
  have hcond : (s.devState == 3 && s.clk.running) = true := by rw [hdev, hrun]; rfl
  rw [hexec, hcond, State.when_true]

theorem exec_selftestDone {s : State} (hdev : s.devState = 4) (r : BistResult) : exec (.selftestDone r) s = run s (s.selftest r) := by
  have hexec : exec (.selftestDone r) s = run s (s.when (s.devState == 4) fun s => s.selftest r) := rfl
  have hcond : (s.devState == 4) = true := by rw [hdev]; rfl
  rw [hexec, hcond, State.when_true]

theorem State.drawn_get (s : State) (f : FieldRef) : s.drawn.get f = s.get f := rfl

theorem FieldsKept.of_drawn {fs : List FieldRef} {s u : State} (h : FieldsKept fs s.drawn u) : FieldsKept fs s u := h

theorem State.copiesShown_state (s : State) (n : Nat) :
    s.copiesShown n = { s with regs := (s.copiesShown n).regs, freeCtr := s.freeCtr + 1 } := (s.copiesShown_frame n).1

theorem State.copiesShown_flash (s : State) (n : Nat) : (s.copiesShown n).flash = s.flash := by rw [s.copiesShown_state n]

theorem State.flashFound_flash (s : State) (n : Nat) : (s.flashFound n).flash = s.flash := by
  have hframe := (s.flashFound_frame n).1
  rw [hframe]
  rfl

/-- The state in which the preamble is sought, as the copies' verdicts see it. -/
theorem State.copiesShown_seen (s : State) {n : Nat} (h : n < 64) (p : Nat) :
    (s.copiesShown n).chooseCopy p = ((s.put Reg.PRF.FL_INFO.VALID 1).put Reg.PRF.FL_INFO.DENSITY n).chooseCopy p :=
  State.chooseCopy_congr (by rw [s.copiesShown_flash, State.put_flash, State.put_flash])
    (by rw [s.copiesShown_power, State.put_power, State.put_power])
    ((s.copiesShown_flashSize h).trans (s.sfdp_flashSize h).symm) p

theorem State.copiesShown_stat (s : State) {n p : Nat} (h : n < 64) (hp : s.power.loadProf = p) (hp8 : p < 8) :
    (s.copiesShown n).get Reg.PRF.COPY_STAT.STATE / 16 ^ p % 16 =
      ((s.put Reg.PRF.FL_INFO.VALID 1).put Reg.PRF.FL_INFO.DENSITY n).verdictOf p 1 * 4 +
        ((s.put Reg.PRF.FL_INFO.VALID 1).put Reg.PRF.FL_INFO.DENSITY n).verdictOf p 0 := by
  have hverdict : ∀ c, (s.flashFound n).verdictOf p c = ((s.put Reg.PRF.FL_INFO.VALID 1).put Reg.PRF.FL_INFO.DENSITY n).verdictOf p c :=
    State.verdictOf_congr (by rw [s.flashFound_flash, State.put_flash, State.put_flash])
      (by rw [(s.flashFound_frame n).power_eq, State.put_power, State.put_power]; rfl) ((s.flashFound_flashSize h).trans (s.sfdp_flashSize h).symm) p
  have hprof : (s.flashFound n).power.loadProf = p := by rw [(s.flashFound_frame n).power_eq]; exact hp
  rw [State.copiesShown, hprof, State.showCopies_shown _ hp8, hverdict, hverdict]

theorem State.copiesShown_devState (s : State) (n : Nat) : (s.copiesShown n).devState = s.devState := by
  rw [State.devState, (s.copiesShown_frame n).get (by decide) (by decide), State.drawn_get]
  rfl

theorem OnlyFields.after_draw {fs : List FieldRef} {s u t : State} (hu : u = { s with regs := u.regs, freeCtr := s.freeCtr + 1 })
    (h : OnlyFields fs u t) : t = { s with regs := t.regs, freeCtr := s.freeCtr + 1 } := by
  rw [h.1, hu]

theorem preamble_noCopy {n : Fin 64} {s : State} (hdev : s.devState = 3) (hrun : s.clk.running = true) (hwake : s.power.waking = false)
    (hlow : 26 ≤ n.val) (hhigh : n.val ≤ 29)
    (h : ((s.copiesShown n).chooseCopy s.power.loadProf).bind (fun c => c.2.pre) = none) :
    ∃ t, exec (.preambleRead (some n)) s = .next t ∧ t.devState = 6 ∧ t.get Reg.PRF.STAT.LOAD_CAUSE = 1 ∧
      t.get Reg.PRF.FL_INFO.VALID = 1 ∧ t.get Reg.PRF.FL_INFO.DENSITY = n ∧
      t.get Reg.PRF.FL_INFO.ADDR4 = (if 27 < n.val then 1 else 0) ∧ t.isRaised (page .glb 0) 0 ∧
      t = { s with regs := t.regs, freeCtr := s.freeCtr + 1 } ∧
      FieldsKept [Reg.PRF.FL_INFO.VALID, Reg.PRF.FL_INFO.ADDR4, Reg.PRF.FL_INFO.DUMMY, Reg.PRF.FL_INFO.DENSITY,
        Reg.PRF.COPY_STAT.STATE, Reg.GLB.DEV_STATE.STATE, Reg.PRF.STAT.LOAD_CAUSE, rawBit (page .glb 0) 0] s t := by
  have hexec := exec_preambleRead hdev hrun (some n)
  rw [Option.map_some, State.readPreamble_noCopy hlow hhigh h] at hexec
  obtain ⟨hframe, hstate, hcause, hraised⟩ := State.enterShuttered_shows (s := s.copiesShown n) (by rw [State.copiesShown_devState, hdev]; decide)
    (by rw [State.copiesShown_power, hwake]) (cause := 1) (by decide)
  obtain ⟨hvalid, hdensity, haddr⟩ := s.flashFound_shows n.isLt
  have hinfo : ∀ f ∈ infoFields, ((s.copiesShown n).enterShuttered 1).get f = (s.flashFound n).get f := by
    intro f hf
    have hok : f.ok ∧ (∀ g ∈ shutteredFields, g.apart f) ∧ Reg.PRF.COPY_STAT.STATE.apart f := by
      revert f
      decide
    obtain ⟨ok, hshut, hcopy⟩ := hok
    rw [hframe.get ok hshut, s.copiesShown_get n ok hcopy]
  have hcopies := s.copiesShown_frame n
  have hdrawn := hcopies.2.of_drawn
  have hcopyState := s.copiesShown_state n
  generalize s.copiesShown n = u at *
  generalize u.enterShuttered 1 = t at *
  have hall := OnlyFields.after_draw hcopyState hframe
  refine ⟨t, hexec.trans (Sys2Proof.Machine.run_eq (by rw [hall]) (by rw [hall])), hstate, hcause, ?_, ?_, ?_, hraised, hall, ?_⟩
  · rw [hinfo _ (by decide), hvalid]
  · rw [hinfo _ (by decide), hdensity]
  · rw [hinfo _ (by decide), haddr]
  · exact (hdrawn.mono (by decide)).trans (hframe.2.mono (by decide))

theorem State.preambleApplied_state (s : State) (p : Nat × Nat × Nat) :
    s.preambleApplied p = { s with regs := (s.preambleApplied p).regs, power := { s.power with bistSkip := p.2.2 == 1 } } := rfl

theorem State.get_of_reg {s t : State} {f : FieldRef} (h : t.reg f.addr = s.reg f.addr) : t.get f = s.get f := by
  rw [State.get, State.get, h]

theorem OnlyFields.after_preamble {fs : List FieldRef} {s u v t : State} {b : Bool}
    (hu : u = { s with regs := u.regs, freeCtr := s.freeCtr + 1 }) (hv : v = { u with regs := v.regs, power := { u.power with bistSkip := b } })
    (h : OnlyFields fs v t) :
    t = { s with regs := t.regs, power := t.power, freeCtr := s.freeCtr + 1 } ∧ t.power = { s.power with bistSkip := b } := by
  obtain ⟨hstate, -⟩ := h
  constructor
  · rw [hstate, hv, hu]
  · rw [hstate, hv, hu]

/-- What SELFTEST is entered with. -/
theorem State.preamble_shows (s : State) {n p : Nat} {q : Nat × Nat × Nat} (hdev : s.devState = 3) (hwake : s.power.waking = false)
    (hp : s.power.loadProf = p) (hp8 : p < 8) (h : n < 64) {t : State}
    (ht : t = (((s.copiesShown n).preambleApplied q).driveVid 2).setDevState 4) :
    t.devState = 4 ∧ t.isRaised (page .glb 0) 0 ∧ t.get Reg.PWR.VCORE_STAT.VID_OUT = t.vidOf 2 ∧
    t.power = { s.power with bistSkip := q.2.2 == 1 } ∧
    t.get Reg.PRF.COPY_STAT.STATE / 16 ^ p % 16 =
      ((s.put Reg.PRF.FL_INFO.VALID 1).put Reg.PRF.FL_INFO.DENSITY n).verdictOf p 1 * 4 +
        ((s.put Reg.PRF.FL_INFO.VALID 1).put Reg.PRF.FL_INFO.DENSITY n).verdictOf p 0 ∧
    t = { s with regs := t.regs, power := t.power, freeCtr := s.freeCtr + 1 } ∧
    t.reg 0x2054 = (s.plainWrite 0x2054 (BitVec.ofNat 32 q.1)).reg 0x2054 ∧
    t.reg 0x2048 = (s.plainWrite 0x2048 (BitVec.ofNat 32 q.2.1)).reg 0x2048 ∧
    ∀ a, a ∉ [0x10, 0x44, 0x2048, 0x2054, 0x2060, 0x3084, 0x30C8] → t.reg a = s.reg a := by
  have hstat := s.copiesShown_stat h hp hp8
  have hcopyState := s.copiesShown_state n
  have hcopyDev := s.copiesShown_devState n
  have hcopyReg : ∀ a, a ≠ 0x3084 → a ≠ 0x30C8 → (s.copiesShown n).reg a = s.reg a := fun a => s.copiesShown_reg n
  have hcopyPower := s.copiesShown_power n
  generalize s.copiesShown n = u at *
  have happState := u.preambleApplied_state q
  have happReg : ∀ a, a ≠ 0x2054 → a ≠ 0x2048 → (u.preambleApplied q).reg a = u.reg a := fun a => u.preambleApplied_reg q
  have happVid := State.preambleApplied_vid (t := u) (s := s) (p := q) (hcopyReg _ (by decide) (by decide))
  have happTiming := State.preambleApplied_timing (t := u) (s := s) (p := q) (hcopyReg _ (by decide) (by decide))
  generalize u.preambleApplied q = v at *
  have happPower : v.power.waking = u.power.waking := by rw [happState]
  have hdevv : v.devState = 3 := (State.get_of_reg (happReg _ (by decide) (by decide))).trans (hcopyDev.trans hdev)
  obtain ⟨hstate, hraised, hvid, hframe, hregs⟩ := State.selftestEntered (s := v) (by omega) (by rw [happPower, hcopyPower, hwake])
  rw [← ht] at hstate hraised hvid hframe hregs
  obtain ⟨hall, hpower⟩ := hframe.after_preamble hcopyState happState
  refine ⟨hstate, hraised, hvid, hpower, ?_, hall, ?_, ?_, fun a ha => ?_⟩
  · rw [State.get_of_reg (hregs _ (by decide)), State.get_of_reg (happReg _ (by decide) (by decide)), hstat]
  · rw [hregs _ (by decide), happVid]
  · rw [hregs _ (by decide), happTiming]
  · simp only [List.mem_cons, List.not_mem_nil, or_false, not_or] at ha
    obtain ⟨hraw, hdevst, htiming, hvidmap, hcore, hcopy, hinfo⟩ := ha
    rw [hregs a (by simp [hraw, hdevst, hcore]), happReg a hvidmap htiming, hcopyReg a hcopy hinfo]

theorem preamble_valid {n : Fin 64} {s : State} {p : Nat × Nat × Nat} (hdev : s.devState = 3) (hrun : s.clk.running = true)
    (hlow : 26 ≤ n.val) (hhigh : n.val ≤ 29)
    (h : ((s.copiesShown n).chooseCopy s.power.loadProf).bind (fun c => c.2.pre) = some p) :
    exec (.preambleRead (some n)) s = run s ((((s.copiesShown n).preambleApplied p).driveVid 2).setDevState 4) := by
  rw [exec_preambleRead hdev hrun, Option.map_some, State.readPreamble_valid hlow hhigh h]

/-- A failed essential item: CORE_FAIL and SHUTTERED. -/
def State.coreFails (s : State) (failed : Nat) : State :=
  ((s.put Reg.PRF.BIST_STAT.COACH_FAIL failed).put Reg.PRF.BIST_STAT.CORE_FAIL 1).enterShuttered 7

theorem State.coreFails_shows {s : State} (hdev : s.devState = 4) (hwake : s.power.waking = false) (failed : Nat) :
    OnlyFields [Reg.PRF.BIST_STAT.COACH_FAIL, Reg.PRF.BIST_STAT.CORE_FAIL, Reg.GLB.DEV_STATE.STATE, Reg.PRF.STAT.LOAD_CAUSE,
      rawBit (page .glb 0) 0] s (s.coreFails failed) ∧
    (s.coreFails failed).devState = 6 ∧ (s.coreFails failed).get Reg.PRF.STAT.LOAD_CAUSE = 7 ∧
    (s.coreFails failed).get Reg.PRF.BIST_STAT.CORE_FAIL = 1 ∧ (s.coreFails failed).isRaised (page .glb 0) 0 := by
  have hput : OnlyFields [Reg.PRF.BIST_STAT.COACH_FAIL, Reg.PRF.BIST_STAT.CORE_FAIL] s
      ((s.put Reg.PRF.BIST_STAT.COACH_FAIL failed).put Reg.PRF.BIST_STAT.CORE_FAIL 1) :=
    ((OnlyFields.refl _ s).andPut (by simp)).andPut (by simp)
  have hcore : ((s.put Reg.PRF.BIST_STAT.COACH_FAIL failed).put Reg.PRF.BIST_STAT.CORE_FAIL 1).get Reg.PRF.BIST_STAT.CORE_FAIL = 1 :=
    State.get_put_of_lt _ (by decide) (by decide)
  unfold State.coreFails
  generalize (s.put Reg.PRF.BIST_STAT.COACH_FAIL failed).put Reg.PRF.BIST_STAT.CORE_FAIL 1 = u at *
  have hdev' : u.devState = 4 := (hput.get (by decide) (by decide)).trans hdev
  obtain ⟨hframe, hstate, hcause, hraised⟩ := State.enterShuttered_shows (s := u) (by omega) (by rw [hput.power_eq, hwake]) (cause := 7)
    (by decide)
  exact ⟨(hput.mono (by decide)).trans (hframe.mono (by decide)), hstate, hcause, (hframe.get (by decide) (by decide)).trans hcore, hraised⟩

/-- Settles O50. -/
theorem qualifyAndSelfTest : Obligations.QualifyAndSelfTest := by
  unfold Obligations.QualifyAndSelfTest
  refine ⟨fun density s hdev hrun hwake hnone => ?_, fun n s u hdev hrun hwake hlow hhigh hprof hu => ⟨fun hno => ?_, fun p hpre => ?_⟩,
    fun r s hdev hskip => ?_, fun r s hdev hskip hwake hessential hdomains hfunctions hpend hcoaches => ?_⟩
  · have hunsupported : ∀ m, (density.map fun x => x.val) = some m → m < 26 ∨ 29 < m := by
      intro m hm
      obtain ⟨x, hx, rfl⟩ := Option.map_eq_some_iff.1 hm
      exact hnone x hx
    obtain ⟨hframe, hstate, hcause, hraised⟩ := State.enterShuttered_shows (s := s) (by omega) hwake (cause := 2) (by decide)
    have hexec := exec_preambleRead hdev hrun density
    rw [State.readPreamble_unsupported hunsupported, hframe.run_eq] at hexec
    exact ⟨_, hexec, hstate, hcause, hraised, hframe⟩
  · subst hu
    exact preamble_noCopy hdev hrun hwake hlow hhigh (by rw [s.copiesShown_seen n.isLt, hno])
  · subst hu
    have hexec := preamble_valid hdev hrun hlow hhigh ((congrArg (fun c => c.bind fun c => c.2.pre) (s.copiesShown_seen n.isLt _)).trans hpre)
    obtain ⟨hstate, hraised, hvid, hpower, hstat, hall, hmap, htiming, hregs⟩ := s.preamble_shows (q := p) hdev hwake rfl hprof n.isLt rfl
    generalize (((s.copiesShown n).preambleApplied p).driveVid 2).setDevState 4 = t at *
    exact ⟨t, hexec.trans (Sys2Proof.Machine.run_eq (by rw [hall]) (by rw [hall])), hstate, hraised, hvid, hpower, hstat, hall, hmap,
      htiming, hregs⟩
  · have hexec := exec_selftestDone hdev r
    have hloads : s.selftest r = (s.put Reg.PRF.BIST_STAT.SKIPPED 1).loadEntry := if_pos hskip
    obtain ⟨-, hcommits, hdoors, hcarr, -, -, hlnk⟩ := (s.put Reg.PRF.BIST_STAT.SKIPPED 1).loadEntry_unloaded
    have hstate := (s.put Reg.PRF.BIST_STAT.SKIPPED 1).loadEntry_devState
    rw [hloads] at hexec
    generalize (s.put Reg.PRF.BIST_STAT.SKIPPED 1).loadEntry = u at *
    exact ⟨_, hexec, hstate, hcommits, hlnk, hcarr, hdoors, rfl⟩
  · obtain ⟨hframe, hfailed, hothers, hcount, hraised, hcarts⟩ := State.forEach_coachFails hcoaches
    have hexec := exec_selftestDone hdev r
    have hpend' : (s.forEach r.coaches fun s c => s.coachFails c).flt.shutPend = [] := by rw [hframe.1, hpend]
    rw [State.selftest_essential hskip hdomains hfunctions hessential hpend'] at hexec
    generalize s.forEach r.coaches (fun s c => s.coachFails c) = u at *
    have hdev' : u.devState = 4 := (hframe.2.get (by decide) (by decide)).trans hdev
    have hwake' : u.power.waking = false := by rw [hframe.1, hwake]
    obtain ⟨hend, hstate, hcause, hcore, hglb⟩ := State.coreFails_shows hdev' hwake' u.failedCoaches
    change _ = run s (u.coreFails u.failedCoaches) at hexec
    generalize u.coreFails u.failedCoaches = t at *
    have hall : BistFrame [Reg.PRF.BIST_STAT.COACH_FAIL, Reg.PRF.BIST_STAT.CORE_FAIL, Reg.GLB.DEV_STATE.STATE,
        Reg.PRF.STAT.LOAD_CAUSE, rawBit (page .glb 0) 0, Reg.FLT.LOG_COUNT.COUNT, Reg.HEAD.PG_ERRCNT.COUNT (page .flt 0),
        Reg.FLT.SHUT_CNT.COUNT, rawBit (page .flt 0) 0, rawBit (page .flt 0) 1, rawBit (page .scn 0) 0] s t :=
      (hframe.mono (by decide)).trans (hend.bistFrame.mono (by decide))
    refine ⟨t, hexec.trans (Sys2Proof.Machine.run_eq (by rw [hall.1]) (by rw [hall.1])), hstate, hcause, hcore, hglb,
      fun c hc => (hend.coach_eq c).trans (hfailed c hc), fun k hk => (hend.coach_eq k).trans (hothers k hk),
      (hend.get (by decide) (by decide)).trans hcount, fun hne => ?_, (hcarts.of_carts (by rw [hend.1])), hall.1, hall.2⟩
    obtain ⟨hfault, hshut, hscn⟩ := hraised hne
    exact ⟨(hend.get (by decide) (by decide)).trans hfault, (hend.get (by decide) (by decide)).trans hshut,
      (hend.get (by decide) (by decide)).trans hscn⟩

end Sys2Proof.Machine
end

section
/-! PROOFS. A profile switch: its start, preparation, arming and the switch of a wheel (chapter 14: R367 to R369; chapter 15: R392). -/

namespace Sys2Proof.Machine

/-! ### CMD = SWITCH (R367, R392) -/

theorem State.prfRow_switch {s : State} (hdev : s.devState = 7 ∨ s.devState = 8) (hdrain : s.power.draining = none) :
    s.prfRow 4 = (s.askSwitch (s.get Reg.PRF.CMD.PROF) 0).put Reg.PRF.CMD.CMD 0 := by
  have hon : s.clockOn = true := by rw [State.clockOn, decide_eq_true]; omega
  have hcmd : ∀ p, s.prfCommand 4 p 0 = s.askSwitch p 0 := fun p => by simp [State.prfCommand, hdrain, hdev]
  rw [State.prfRow, hon, State.when_true, hcmd]

theorem exec_switch {s : State} (hdev : s.devState = 7 ∨ s.devState = 8) (hdrain : s.power.draining = none) :
    exec .switch s = run s ((s.askSwitch (s.get Reg.PRF.CMD.PROF) 0).put Reg.PRF.CMD.CMD 0) := by
  rw [← State.prfRow_switch hdev hdrain]
  rfl

/-- A switch in preparation, its first tick the current one. -/
def State.withSwitch (s : State) (x : Option Switch) : State := { s with power := { s.power with sw := x } }

def switchFields : List FieldRef := [Reg.PRF.STAT.SW_STATE, Reg.PRF.STAT.SW_PROF, Reg.PRF.CMD.CMD, Reg.FLT.LEDGER.ACTIVE]

/-- The profile named by CMD fits SW_PROF. -/
theorem State.cmdProf_lt (s : State) : s.get Reg.PRF.CMD.PROF < 2 ^ 3 := s.get_lt _

theorem State.startSwitch_eq (s : State) (prof : Nat) : s.startSwitch prof =
    (((s.withSwitch (some ⟨prof, s.tick, s.tick + s.get Reg.PRF.ARM_DELAY.TICKS, false, []⟩)).put Reg.PRF.STAT.SW_STATE 2).put
      Reg.PRF.STAT.SW_PROF prof).setActive kSwitch true := rfl

theorem State.startSwitch_frame (s : State) (prof : Nat) : OnlyFields switchFields
    (s.withSwitch (some ⟨prof, s.tick, s.tick + s.get Reg.PRF.ARM_DELAY.TICKS, false, []⟩)) (s.startSwitch prof) := by
  rw [State.startSwitch_eq]
  exact (((OnlyFields.refl _ _).andPut (by decide)).andPut (by decide)).trans ((State.setActive_frame _ _ _).mono (by decide))

theorem State.startSwitch_shows (s : State) {prof : Nat} (hp : prof < 8) : (s.startSwitch prof).get Reg.PRF.STAT.SW_STATE = 2 ∧
    (s.startSwitch prof).get Reg.PRF.STAT.SW_PROF = prof ∧ (s.startSwitch prof).active kSwitch = true := by
  rw [State.startSwitch_eq]
  refine ⟨?_, ?_, State.active_setActive _ _ (by decide)⟩
  · rw [(State.setActive_frame _ _ _).get (by decide) (by decide), State.get_put_apart _ _ (by decide) (by decide)]
    exact State.get_put_of_lt _ (by decide) (by decide)
  · rw [(State.setActive_frame _ _ _).get (by decide) (by decide)]
    exact State.get_put_of_lt _ (by decide) hp

/-- A frame that begins at another switch in preparation. -/
theorem OnlyFields.of_withSwitch {fs : List FieldRef} {s t : State} {x : Option Switch} (h : OnlyFields fs (s.withSwitch x) t) :
    t = { s with regs := t.regs, power := t.power } ∧ t.power = { s.power with sw := x } ∧ FieldsKept fs s t :=
  ⟨by rw [h.1]; rfl, h.power_eq, (FieldsKept.of_regs rfl).trans h.2⟩

theorem State.withQueue_get (s : State) (q : List Held) (f : FieldRef) : (s.withQueue q).get f = s.get f := rfl

/-- A switch asked for while a wheel learns. -/
def State.switchHeld (s : State) (prof : Nat) : State :=
  (((s.put Reg.PRF.STAT.SW_STATE 1).put Reg.PRF.STAT.SW_PROF prof).put Reg.PRF.STAT.RESULT 4).enqueue kSwitch prof 0

theorem State.askSwitch_starts {s : State} (hsw : s.get Reg.PRF.STAT.SW_STATE = 0) (hlearn : s.active kLearn = false) (prof : Nat) :
    s.askSwitch prof 0 = s.startSwitch prof := by
  rw [State.askSwitch, if_neg (not_not.2 hsw), hlearn, if_neg Bool.false_ne_true]

theorem State.askSwitch_waits {s : State} (hsw : s.get Reg.PRF.STAT.SW_STATE = 0) (hlearn : s.active kLearn = true) (prof : Nat) :
    s.askSwitch prof 0 = s.switchHeld prof := by
  rw [State.askSwitch, if_neg (not_not.2 hsw), hlearn, if_pos rfl, State.switchHeld]

def heldFields : List FieldRef :=
  [Reg.PRF.STAT.SW_STATE, Reg.PRF.STAT.SW_PROF, Reg.PRF.STAT.RESULT, Reg.PRF.CMD.CMD, Reg.FLT.LEDGER.QUEUED, rawBit (page .flt 0) 4]

theorem State.switchHeld_shows (s : State) {prof : Nat} (hp : prof < 8) :
    (s.switchHeld prof).get Reg.PRF.STAT.SW_STATE = 1 ∧ (s.switchHeld prof).get Reg.PRF.STAT.SW_PROF = prof ∧
    (s.switchHeld prof).get Reg.PRF.STAT.RESULT = 4 ∧ (s.switchHeld prof).isQueued kSwitch = true ∧
    (s.switchHeld prof).isRaised (page .flt 0) 4 ∧
    s.switchHeld prof = { s with regs := (s.switchHeld prof).regs, flt := { s.flt with queue := s.flt.queue ++ [⟨kSwitch, prof, 0⟩] } } ∧
    FieldsKept heldFields s (s.switchHeld prof) := by
  have hput : OnlyFields heldFields s (((s.put Reg.PRF.STAT.SW_STATE 1).put Reg.PRF.STAT.SW_PROF prof).put Reg.PRF.STAT.RESULT 4) :=
    (((OnlyFields.refl _ s).andPut (by decide)).andPut (by decide)).andPut (by decide)
  have hstate : (((s.put Reg.PRF.STAT.SW_STATE 1).put Reg.PRF.STAT.SW_PROF prof).put Reg.PRF.STAT.RESULT 4).get Reg.PRF.STAT.SW_STATE = 1 := by
    rw [State.get_put_apart _ _ (by decide) (by decide), State.get_put_apart _ _ (by decide) (by decide)]
    exact State.get_put_of_lt _ (by decide) (by decide)
  have hprof : (((s.put Reg.PRF.STAT.SW_STATE 1).put Reg.PRF.STAT.SW_PROF prof).put Reg.PRF.STAT.RESULT 4).get Reg.PRF.STAT.SW_PROF = prof := by
    rw [State.get_put_apart _ _ (by decide) (by decide)]
    exact State.get_put_of_lt _ (by decide) hp
  have hresult : (((s.put Reg.PRF.STAT.SW_STATE 1).put Reg.PRF.STAT.SW_PROF prof).put Reg.PRF.STAT.RESULT 4).get Reg.PRF.STAT.RESULT = 4 :=
    State.get_put_of_lt _ (by decide) (by decide)
  unfold State.switchHeld
  generalize ((s.put Reg.PRF.STAT.SW_STATE 1).put Reg.PRF.STAT.SW_PROF prof).put Reg.PRF.STAT.RESULT 4 = u at *
  have henq := u.enqueue_frame kSwitch prof 0
  have hqueue : u.flt.queue = s.flt.queue := by rw [hput.flt_eq]
  have hget : ∀ f ∈ [Reg.PRF.STAT.SW_STATE, Reg.PRF.STAT.SW_PROF, Reg.PRF.STAT.RESULT], (u.enqueue kSwitch prof 0).get f = u.get f := by
    intro f hf
    have hapart : f.ok ∧ ∀ g ∈ [Reg.FLT.LEDGER.QUEUED, rawBit (page .flt 0) 4], g.apart f := by
      revert f
      decide
    rw [henq.get hapart.1 hapart.2, State.withQueue_get]
  obtain ⟨hshape, hkept⟩ := henq.of_withQueue
  refine ⟨(hget _ (by decide)).trans hstate, (hget _ (by decide)).trans hprof, (hget _ (by decide)).trans hresult,
    State.enqueue_queued _ _ _ (by decide), State.isRaised_raise _ _ (by decide), ?_, hput.2.trans (hkept.mono (by decide))⟩
  rw [hshape, hqueue, hput.1]

/-! ### The end of a switch (R367, R368) -/

theorem State.pend_lt (s : State) : s.pend < 2 ^ 48 := by
  have hlo : s.get Reg.PRF.SW_PEND_LO.MASK < 2 ^ 32 := s.get_lt _
  have hhi : s.get Reg.PRF.SW_PEND_HI.MASK < 2 ^ 16 := s.get_lt _
  unfold State.pend
  omega

theorem State.setPend_pend (s : State) {m : Nat} (h : m < 2 ^ 48) : (s.setPend m).pend = m := by
  have hlo : (s.setPend m).get Reg.PRF.SW_PEND_LO.MASK = m % 2 ^ 32 := by
    rw [State.setPend, State.get_put_apart _ _ (by decide) (by decide)]
    exact State.get_put_of_lt _ (by decide) (Nat.mod_lt _ (by decide))
  have hhi : (s.setPend m).get Reg.PRF.SW_PEND_HI.MASK = m / 2 ^ 32 := State.get_put_of_lt _ (by decide) (by simp; omega)
  rw [State.pend, hlo, hhi]
  omega

theorem State.setPend_frame (s : State) (m : Nat) :
    OnlyFields [Reg.PRF.SW_PEND_LO.MASK, Reg.PRF.SW_PEND_HI.MASK] s (s.setPend m) :=
  ((OnlyFields.refl _ s).andPut (by decide)).andPut (by decide)

/-- The fields of a switch that is over, and of its result. -/
def switchEndFields : List FieldRef :=
  [Reg.PRF.STAT.SW_STATE, Reg.PRF.STAT.SW_PROF, Reg.PRF.SW_PEND_LO.MASK, Reg.PRF.SW_PEND_HI.MASK, Reg.FLT.LEDGER.ACTIVE,
    Reg.PRF.STAT.RESULT, rawBit (page .prf 0) 0, rawBit (page .prf 0) 3]

/-- Nothing of the switch is left. -/
def State.switchCleared (s : State) : State :=
  ((((s.withSwitch none).put Reg.PRF.STAT.SW_STATE 0).put Reg.PRF.STAT.SW_PROF 0).setPend 0).setActive kSwitch false

theorem State.switchCleared_shows (s : State) :
    OnlyFields [Reg.PRF.STAT.SW_STATE, Reg.PRF.STAT.SW_PROF, Reg.PRF.SW_PEND_LO.MASK, Reg.PRF.SW_PEND_HI.MASK, Reg.FLT.LEDGER.ACTIVE]
      (s.withSwitch none) s.switchCleared ∧
    s.switchCleared.get Reg.PRF.STAT.SW_STATE = 0 ∧ s.switchCleared.get Reg.PRF.STAT.SW_PROF = 0 ∧ s.switchCleared.pend = 0 ∧
    s.switchCleared.active kSwitch = false := by
  have hactive := State.setActive_frame ((((s.withSwitch none).put Reg.PRF.STAT.SW_STATE 0).put Reg.PRF.STAT.SW_PROF 0).setPend 0)
    kSwitch false
  have hpend := State.setPend_frame (((s.withSwitch none).put Reg.PRF.STAT.SW_STATE 0).put Reg.PRF.STAT.SW_PROF 0) 0
  have hput : OnlyFields [Reg.PRF.STAT.SW_STATE, Reg.PRF.STAT.SW_PROF] (s.withSwitch none)
      (((s.withSwitch none).put Reg.PRF.STAT.SW_STATE 0).put Reg.PRF.STAT.SW_PROF 0) :=
    ((OnlyFields.refl _ _).andPut (by decide)).andPut (by decide)
  have hzero := State.setPend_pend (((s.withSwitch none).put Reg.PRF.STAT.SW_STATE 0).put Reg.PRF.STAT.SW_PROF 0) (m := 0) (by decide)
  refine ⟨((hput.mono (by decide)).trans (hpend.mono (by decide))).trans (hactive.mono (by decide)), ?_, ?_, ?_,
    State.active_setActive _ _ (by decide)⟩
  · rw [State.switchCleared, hactive.get (by decide) (by decide), hpend.get (by decide) (by decide),
      State.get_put_apart _ _ (by decide) (by decide)]
    exact State.get_put_of_lt _ (by decide) (by decide)
  · rw [State.switchCleared, hactive.get (by decide) (by decide), hpend.get (by decide) (by decide)]
    exact State.get_put_of_lt _ (by decide) (by decide)
  · rw [State.switchCleared, State.pend, hactive.get (by decide) (by decide), hactive.get (by decide) (by decide), ← State.pend, hzero]

theorem State.switchEnd_eq {s : State} {w : Switch} (h : s.power.sw = some w) (result : Nat) : s.switchEnd result =
    (s.unreserve (w.content.flatMap fun c => (slotsOf c.2).map fun h => (h, 0))).switchCleared.cmdEnd result := by
  unfold State.switchEnd
  rw [h]
  rfl

theorem State.switchEnd_nothing {s : State} {w : Switch} (h : s.power.sw = some w) (hnone : w.content = []) (result : Nat) :
    s.switchEnd result = s.switchCleared.cmdEnd result := by
  rw [State.switchEnd_eq h, hnone]
  rfl

theorem State.switchOver_of {s u t : State} (hu : OnlyFields [Reg.PRF.COPY_STAT.STATE] s u)
    (ht : OnlyFields [Reg.PRF.STAT.RESULT, rawBit (page .prf 0) 0, rawBit (page .prf 0) 3] u.switchCleared t) : SwitchOver s t := by
  obtain ⟨hframe, hstate, hprof, hpend, hactive⟩ := u.switchCleared_shows
  generalize u.switchCleared = v at *
  obtain ⟨-, -, hkept⟩ := hframe.of_withSwitch
  refine ⟨(ht.get (by decide) (by decide)).trans hstate, (ht.get (by decide) (by decide)).trans hprof, ?_, ?_, ?_,
    ((hu.2.mono (by decide)).trans (hkept.mono (by decide))).trans (ht.2.mono (by decide))⟩
  · rw [State.pend, ht.get (by decide) (by decide), ht.get (by decide) (by decide)]
    exact hpend
  · rw [State.active, ht.get (by decide) (by decide)]
    exact hactive
  · rw [ht.1, hframe.1, hu.1]
    rfl

/-- A switch with nothing reserved ends with a result that raises nothing. -/
theorem State.switchEnd_quiet {s u : State} {w : Switch} (h : u.power.sw = some w) (hnone : w.content = []) {result : Nat}
    (hresult : 5 < result ∧ result < 16) (hu : OnlyFields [Reg.PRF.COPY_STAT.STATE] s u) :
    (u.switchEnd result).get Reg.PRF.STAT.RESULT = result ∧ SwitchOver s (u.switchEnd result) := by
  have hcmd : ∀ v : State, v.cmdEnd result = v.put Reg.PRF.STAT.RESULT result := by
    intro v
    have hrefused : (result == 2 || result == 3 || result == 5) = false := by
      simp only [Bool.or_eq_false_iff, beq_eq_false_iff_ne]
      omega
    rw [State.cmdEnd, if_neg (by omega), State.raiseIf_eq, hrefused]
    rfl
  rw [State.switchEnd_nothing h hnone, hcmd]
  exact ⟨State.get_put_of_lt _ (by decide) (by simp; omega), State.switchOver_of hu ((OnlyFields.refl _ _).andPut (by decide))⟩

/-- A switch with nothing reserved is done. -/
theorem State.switchDone_shows {s : State} {w : Switch} (h : s.power.sw = some w) (hready : w.ready = true) (hpend : s.pend = 0)
    (hnone : w.content = []) : s.switchDone.get Reg.PRF.STAT.RESULT = 1 ∧ s.switchDone.isRaised (page .prf 0) 0 ∧
    s.switchDone.isRaised (page .prf 0) 3 ∧ SwitchOver s s.switchDone := by
  have heq : s.switchDone = (s.switchCleared.cmdEnd 1).raise (page .prf 0) 3 := by
    unfold State.switchDone
    rw [h]
    dsimp only
    rw [if_pos ⟨hready, hpend⟩, State.switchEnd_nothing h hnone]
  obtain ⟨hresult, hraised⟩ := s.switchCleared.cmdEnd_shows
  have hend := s.switchCleared.cmdEnd_frame
  rw [heq]
  refine ⟨?_, State.isRaised_raise_of hraised (by decide) _ _, State.isRaised_raise _ _ (by decide),
    State.switchOver_of (OnlyFields.refl _ s) ((hend.mono (by decide)).andRaise (by decide))⟩
  rw [State.get_raise_apart _ (by decide) (by decide), hresult]

/-! ### Preparation (R367) -/

/-- The preparation complete: the switch is armed. -/
def State.switchArmed (s : State) (w : Switch) (l : List (Nat × List Entry)) : State :=
  ((s.withSwitch (some { w with ready := true, content := l })).put Reg.PRF.STAT.SW_STATE 3).setPend
    (l.foldl (fun a e => a + 2 ^ e.1) 0)

/-- The outcomes of a preparation. What it reads from the flash is held behind names of its own, so that no check of the proof
evaluates it. -/
theorem State.switchPrepared_runs {s : State} {w : Switch} (h : s.power.sw = some w) (hready : w.ready = false) :
    ((s.showCopies w.prof).chooseCopy w.prof = none → s.switchPrepared = (s.showCopies w.prof).switchEnd 6) ∧
    (∀ (x : Nat × ProfImage) (l : List (Nat × List Entry)) (u : State), (s.showCopies w.prof).chooseCopy w.prof = some x →
      (s.showCopies w.prof).switchContents x.2 ((s.showCopies w.prof).switchWheels x.2) = some l →
      (s.showCopies w.prof).reserveSwitch l = some u → s.switchPrepared = u.switchArmed w l) := by
  have harmed : @State.switchArmed = fun s w l =>
      ((s.withSwitch (some { w with ready := true, content := l })).put Reg.PRF.STAT.SW_STATE 3).setPend
        (l.foldl (fun a e => a + 2 ^ e.1) 0) := rfl
  rw [harmed]
  delta State.switchPrepared State.withSwitch
  obtain ⟨shown, hshown⟩ : ∃ f, @State.showCopies = f := exists_eq'
  obtain ⟨choose, hchoose⟩ : ∃ f, @State.chooseCopy = f := exists_eq'
  obtain ⟨contents, hcontents⟩ : ∃ f, @State.switchContents = f := exists_eq'
  obtain ⟨reserve, hreserve⟩ : ∃ f, @State.reserveSwitch = f := exists_eq'
  rw [hshown, hchoose, hcontents, hreserve]
  refine ⟨fun hcopy => ?_, fun x l u hcopy hl hu => ?_⟩
  · simp only [h, hready, Bool.false_eq_true, if_false, hcopy]
  · obtain ⟨c, m⟩ := x
    simp only [h, hready, Bool.false_eq_true, if_false, hcopy, hl, hu]

theorem State.switchArmed_shows (u : State) (w : Switch) (l : List (Nat × List Entry)) :
    (u.switchArmed w l).get Reg.PRF.STAT.SW_STATE = 3 ∧
    OnlyFields [Reg.PRF.STAT.SW_STATE, Reg.PRF.SW_PEND_LO.MASK, Reg.PRF.SW_PEND_HI.MASK]
      (u.withSwitch (some { w with ready := true, content := l })) (u.switchArmed w l) := by
  have hpend := State.setPend_frame ((u.withSwitch (some { w with ready := true, content := l })).put Reg.PRF.STAT.SW_STATE 3)
    (l.foldl (fun a e => a + 2 ^ e.1) 0)
  refine ⟨?_, (OnlyFields.put _ 3 (by decide) (by decide)).trans (hpend.mono (by decide))⟩
  rw [State.switchArmed, hpend.get (by decide) (by decide)]
  exact State.get_put_of_lt _ (by decide) (by decide)

/-! ### Carriages reserved for the new slots -/

/-- Nothing but registers and the fabric changes. -/
def OnlyFabric (s t : State) : Prop := t = { s with regs := t.regs, fabric := t.fabric }

theorem OnlyFabric.trans {s t u : State} (h : OnlyFabric s t) (h' : OnlyFabric t u) : OnlyFabric s u := by
  unfold OnlyFabric at *
  rw [h', h]

theorem OnlyFabric.raiseIf (s : State) (c : Bool) (p k : Nat) : OnlyFabric s (s.raiseIf c p k) := by
  rw [OnlyFabric, (OnlyFields.raiseIf (fs := [rawBit p k]) s c p k (by simp)).1]

theorem State.placeWith_fabric {s : State} {aim : Bool} {role h w : Nat} {reserved : Bool} {bar : List Nat} {x : State × Nat}
    (hx : s.placeWith aim role h w reserved bar = some x) : OnlyFabric s x.1 := by
  unfold State.placeWith at hx
  extract_lets k at hx
  split at hx
  · cases hx
  · split at hx
    · cases hx
    · cases hx
      exact OnlyFabric.trans (t := s.setCarriage _ _) rfl (OnlyFabric.raiseIf _ _ _ _)

theorem State.reserveMore_fabric {aim : Bool} {h w : Nat} (n : Nat) {s t : State} (ht : s.reserveMore aim h w n = some t) :
    OnlyFabric s t := by
  induction n generalizing s with
  | zero => cases ht; rfl
  | succ n ih =>
    rw [State.reserveMore] at ht
    split at ht
    next s' a hplace => exact (State.placeWith_fabric hplace).trans (ih ht)
    next => cases ht

theorem State.reserveWith_fabric {after : State} {aim : Bool} (hs : List Nat) {s t : State} (ht : s.reserveWith after aim hs = some t) :
    OnlyFabric s t := by
  induction hs generalizing s with
  | nil => cases ht; rfl
  | cons h hs ih =>
    rw [State.reserveWith] at ht
    split at ht
    next s' hmore => exact (State.reserveMore_fabric _ hmore).trans (ih ht)
    next => cases ht

theorem State.reserveAll_fabric {s after t : State} {hs : List Nat} (ht : s.reserveAll after hs = some t) : OnlyFabric s t := by
  unfold State.reserveAll preferAim at ht
  split at ht
  next u haim => exact State.reserveWith_fabric hs (ht ▸ haim)
  next => exact State.reserveWith_fabric hs ht

theorem State.reserveSwitch_fabric (l : List (Nat × List Entry)) {s t : State} (ht : s.reserveSwitch l = some t) : OnlyFabric s t := by
  induction l generalizing s with
  | nil => cases ht; rfl
  | cons e l ih =>
    rw [State.reserveSwitch] at ht
    split at ht
    next s' hall => exact (State.reserveAll_fabric hall).trans (ih ht)
    next => cases ht

theorem State.unreserve_regs (s : State) (rs : List (Nat × Nat)) : (s.unreserve rs).regs = s.regs := by
  unfold State.unreserve State.forEach
  induction rs generalizing s with
  | nil => rfl
  | cons r rs ih =>
    rw [List.foldl_cons, ih]
    split
    · split <;> rfl
    · rfl

/-! ### The switch of a wheel (R368, R369) -/

theorem State.switchDone_get (s : State) {f : FieldRef} (ok : f.ok) (ha : ∀ g ∈ switchEndFields, g.apart f) :
    s.switchDone.get f = s.get f := by
  unfold State.switchDone
  split
  next w hw =>
    split
    · have hclear := (s.unreserve (w.content.flatMap fun c => (slotsOf c.2).map fun h => (h, 0))).switchCleared_shows.1
      rw [State.switchEnd_eq hw, State.get_raise_apart _ ok (ha _ (by decide)), (State.cmdEnd_frame _).get ok fun g hg => ha g ?_,
        hclear.get ok fun g hg => ha g ?_, State.get_of_regs (s := s)]
      · exact s.unreserve_regs _
      · revert g
        decide
      · revert g
        decide
    · rfl
  next => rfl

theorem State.switchDone_pend (s : State) : s.switchDone.pend = 0 ∨ s.switchDone = s := by
  unfold State.switchDone
  split
  next w hw =>
    split
    · left
      have hclear := (s.unreserve (w.content.flatMap fun c => (slotsOf c.2).map fun h => (h, 0))).switchCleared_shows.2.2.2.1
      rw [State.switchEnd_eq hw, State.pend, State.get_raise_apart _ (by decide) (by decide), State.get_raise_apart _ (by decide) (by decide),
        (State.cmdEnd_frame _).get (by decide) (by decide), (State.cmdEnd_frame _).get (by decide) (by decide)]
      exact hclear
    · exact .inr rfl
  next => exact .inr rfl

/-- The end of a wheel's switch. -/
def State.wheelSwitched (s : State) (w p : Nat) : State :=
  (((s.setWheelProf w p).setPend (setBit s.pend w false)).raise (page .prf 0) 2).switchDone

theorem State.wheelSwitch_ends {s : State} {w : Nat} {x : Switch} (h : s.power.sw = some x) (hdue : s.switchDue w = true) :
    ∃ u : State, s.wheelSwitch w = u.wheelSwitched w x.prof := by
  unfold State.wheelSwitch
  rw [h]
  dsimp -zeta only
  rw [hdue, if_neg (by decide)]
  extract_lets mine regs slots rs u1 u2 u3 u4 u5
  exact ⟨u4, rfl⟩

theorem State.setWheelProf_get (s : State) (w : Nat) {p : Nat} (hp : p < 8) :
    (s.setWheelProf w p).get (Reg.PRF.WHEEL_PROF.PROF (w / 8)) / 16 ^ (w % 8) % 16 = p := by
  have hk : w % 8 < 8 := Nat.mod_lt _ (by decide)
  rw [State.setWheelProf, State.get_put_self _ _ (by simp [FieldRef.ok])]
  have hwidth : 2 ^ ((Reg.PRF.WHEEL_PROF.PROF (w / 8)).hi + 1 - (Reg.PRF.WHEEL_PROF.PROF (w / 8)).lo) = 16 ^ 8 := by simp
  rw [hwidth, digit_mod _ hk, digit_replaced _ _ _ _ (by omega)]

theorem State.wheelSwitched_shows (s : State) {w : Nat} (hw : w < 48) {p : Nat} (hp : p < 8) :
    (s.wheelSwitched w p).get (Reg.PRF.WHEEL_PROF.PROF (w / 8)) / 16 ^ (w % 8) % 16 = p ∧
    hasBit (s.wheelSwitched w p).pend w = false ∧ (s.wheelSwitched w p).isRaised (page .prf 0) 2 := by
  have hlt : setBit s.pend w false < 2 ^ 48 := Nat.lt_of_le_of_lt (by unfold setBit; split <;> simp) s.pend_lt
  have hpend := State.setPend_pend (s.setWheelProf w p) hlt
  have hframe := State.setPend_frame (s.setWheelProf w p) (setBit s.pend w false)
  have hprof := s.setWheelProf_get w hp
  unfold State.wheelSwitched
  generalize (s.setWheelProf w p).setPend (setBit s.pend w false) = u at *
  refine ⟨?_, ?_, ?_⟩
  · rw [State.switchDone_get _ (by simp [FieldRef.ok]) (by simp [FieldRef.apart, switchEndFields, rawBit]; omega),
      State.get_raise_apart _ (by simp [FieldRef.ok]) (by simp [FieldRef.apart, rawBit]; omega),
      hframe.get (by simp [FieldRef.ok]) (by simp [FieldRef.apart]; omega)]
    exact hprof
  · obtain hdone | hdone := (u.raise (page .prf 0) 2).switchDone_pend
    · rw [hdone]
      simp [hasBit]
    · rw [hdone, State.pend, State.get_raise_apart _ (by decide) (by decide), State.get_raise_apart _ (by decide) (by decide), ← State.pend,
        hpend]
      exact hasBit_setBit_false _ _
  · rw [State.isRaised, State.switchDone_get _ (by decide) (by decide)]
    exact State.isRaised_raise _ _ (by decide)

/-! ### The commands -/

theorem exec_switchPrepared (s : State) : exec .switchPrepared s = run s s.switchPrepared := rfl

theorem exec_switchArm (s : State) : exec .switchArm s = run s s.switchArm := rfl

theorem SwitchOver.run_eq {s t : State} (h : SwitchOver s t) : run s t = .next t := by
  obtain ⟨-, -, -, -, hframe, -⟩ := h
  exact Machine.run_eq (by rw [hframe]) (by rw [hframe])

theorem State.showCopies_choose (s : State) (p : Nat) : (s.showCopies p).chooseCopy p = s.chooseCopy p := by
  have hframe := s.showCopies_frame p
  have hsize : (s.showCopies p).flashSize = s.flashSize := by
    rw [State.flashSize, State.bit, hframe.get (by decide) (by decide), hframe.get (by decide) (by decide)]
    rfl
  exact State.chooseCopy_congr (by rw [hframe.1]) hframe.power_eq hsize p

/-- A preparation that no copy of the profile backs ends the switch (R367). -/
theorem State.switchPrepared_ends {s : State} {w : Switch} (h : s.power.sw = some w) (hready : w.ready = false) (hnone : w.content = [])
    (hcopy : s.chooseCopy w.prof = none) : s.switchPrepared.get Reg.PRF.STAT.RESULT = 6 ∧ SwitchOver s s.switchPrepared := by
  have hframe := s.showCopies_frame w.prof
  rw [(State.switchPrepared_runs h hready).1 ((s.showCopies_choose _).trans hcopy)]
  exact State.switchEnd_quiet (by rw [hframe.power_eq, h]) hnone (by decide) hframe

theorem State.switchArm_early {s : State} {w : Switch} (h : s.power.sw = some w) (hearly : s.tick < w.arm) : s.switchArm = s := by
  unfold State.switchArm
  rw [h]
  exact if_pos hearly

theorem State.switchArm_unready {s : State} {w : Switch} (h : s.power.sw = some w) (harm : w.arm ≤ s.tick) (hready : w.ready = false) :
    s.switchArm = s.switchEnd 9 := by
  unfold State.switchArm
  rw [h]
  dsimp only
  rw [if_neg (by omega), hready, if_neg Bool.false_ne_true]

theorem State.switchArm_ready {s : State} {w : Switch} (h : s.power.sw = some w) (harm : w.arm ≤ s.tick) (hready : w.ready = true) :
    s.switchArm = s.switchDone := by
  unfold State.switchArm
  rw [h]
  dsimp only
  rw [if_neg (by omega), hready, if_pos rfl]

theorem State.switchDone_pending {s : State} {w : Switch} (h : s.power.sw = some w) (hpend : s.pend ≠ 0) : s.switchDone = s := by
  unfold State.switchDone
  rw [h]
  exact if_neg fun hdone => hpend hdone.2

theorem exec_wheelSwitch {w : WheelNo} {s : State} (hrun : s.clk.running = true) (hangle : s.nextTick.wValid w = false) :
    exec (.wheelSwitch w) s = run s { s.nextTick.wheelSwitch w with tick := s.tick } := by
  have heq : exec (.wheelSwitch w) s = run s (s.early fun s => if s.wValid w then s else s.wheelSwitch w) := rfl
  rw [heq, State.early_running hrun, hangle, if_neg Bool.false_ne_true]

/-- Settles O55. That the switch of a wheel acts in the tick about to begin is log entry 13, and that a switch armed with no wheel left
is DONE at its arming tick log entry 74: the model's choices. -/
theorem profileSwitch : Obligations.ProfileSwitch := by
  unfold Obligations.ProfileSwitch
  refine ⟨fun s hdev hdrain hsw => ⟨fun hlearn => ?starts, fun hlearn => ?waits⟩, fun w s h hready hprof => ⟨fun hcopy hnone => ?ends,
    fun x hcopy l hl u hu => ?armed⟩, fun w s h => ⟨fun hearly => ?early, fun harm hready hnone => ?unready,
    fun harm hready hpend hnone => ?done, fun harm hready hpend => ?pending⟩, fun w x s hrun h hdue hangle hprof => ?wheel⟩
  case starts =>
    obtain ⟨hstate, hprof, hactive⟩ := s.startSwitch_shows s.cmdProf_lt
    have hframe : OnlyFields switchFields _ ((s.startSwitch (s.get Reg.PRF.CMD.PROF)).put Reg.PRF.CMD.CMD 0) :=
      (s.startSwitch_frame (s.get Reg.PRF.CMD.PROF)).andPut (by decide)
    obtain ⟨hshape, hpower, hkept⟩ := hframe.of_withSwitch
    rw [exec_switch hdev hdrain, State.askSwitch_starts hsw hlearn]
    refine ⟨_, run_eq (by rw [hshape]) (by rw [hshape]), ?_, ?_, ?_, State.get_put_of_lt _ (by decide) (by decide), hpower, hshape, hkept⟩
    · rw [State.get_put_apart _ _ (by decide) (by decide), hstate]
    · rw [State.get_put_apart _ _ (by decide) (by decide), hprof]
    · rw [State.active, State.get_put_apart _ _ (by decide) (by decide)]
      exact hactive
  case waits =>
    obtain ⟨hstate, hprof, hresult, hqueued, hraised, hshape, hkept⟩ := s.switchHeld_shows s.cmdProf_lt
    rw [exec_switch hdev hdrain, State.askSwitch_waits hsw hlearn]
    generalize s.switchHeld (s.get Reg.PRF.CMD.PROF) = t at *
    have hput := OnlyFields.put (fs := heldFields) t 0 (f := Reg.PRF.CMD.CMD) (by decide) (by decide)
    refine ⟨_, run_eq (by rw [hput.1, hshape]) (by rw [hput.1, hshape]), ?_, ?_, ?_, ?_, ?_, State.get_put_of_lt _ (by decide) (by decide), ?_,
      hkept.trans hput.2⟩
    · rw [State.get_put_apart _ _ (by decide) (by decide), hstate]
    · rw [State.get_put_apart _ _ (by decide) (by decide), hprof]
    · rw [State.get_put_apart _ _ (by decide) (by decide), hresult]
    · rw [State.isQueued, State.get_put_apart _ _ (by decide) (by decide)]
      exact hqueued
    · exact (State.isRaised_put_iff _ _ (by decide) (by decide)).2 hraised
    · rw [hput.1, hshape]
  case ends =>
    obtain ⟨hresult, hover⟩ := State.switchPrepared_ends h hready hnone hcopy
    exact ⟨_, (exec_switchPrepared s).trans hover.run_eq, hresult, hover⟩
  case armed =>
    obtain ⟨hstate, hframe⟩ := u.switchArmed_shows w l
    obtain ⟨hshape, hpower, hkept⟩ := hframe.of_withSwitch
    have hfabric := State.reserveSwitch_fabric l hu
    have hshown := (s.showCopies_frame w.prof).1
    rw [exec_switchPrepared, (State.switchPrepared_runs h hready).2 x l u ((s.showCopies_choose _).trans hcopy) hl hu]
    exact ⟨_, run_eq (by rw [hshape, hfabric, hshown]) (by rw [hshape, hfabric, hshown]), hstate, hpower, hshape, hkept⟩
  case early => rw [exec_switchArm, State.switchArm_early h hearly, run_eq rfl rfl]
  case unready =>
    obtain ⟨hresult, hover⟩ := State.switchEnd_quiet h hnone (result := 9) (by decide) (OnlyFields.refl _ s)
    rw [exec_switchArm, State.switchArm_unready h harm hready]
    exact ⟨_, hover.run_eq, hresult, hover⟩
  case done =>
    obtain ⟨hresult, hdone, hraised, hover⟩ := State.switchDone_shows h hready hpend hnone
    rw [exec_switchArm, State.switchArm_ready h harm hready]
    exact ⟨_, hover.run_eq, hresult, hdone, hraised, hover⟩
  case pending => rw [exec_switchArm, State.switchArm_ready h harm hready, State.switchDone_pending h hpend, run_eq rfl rfl]
  case wheel =>
    obtain ⟨u, hu⟩ := State.wheelSwitch_ends h hdue
    rw [exec_wheelSwitch hrun hangle, hu]
    exact ⟨_, rfl, rfl, u.wheelSwitched_shows w.isLt hprof⟩

end Sys2Proof.Machine
end

section
/-! PROOFS. The end of a load: SHUTTERED, the move to LEVEL, READY (chapter 14: R364, R366, R409; chapter 2: R72). -/

namespace Sys2Proof.Machine

/-! ### A load that fails (R364) -/

/-- Nothing but register bits of the fields listed and the supplies' state changes. -/
def PowerFrame (fs : List FieldRef) (s t : State) : Prop := t = { s with regs := t.regs, power := t.power } ∧ FieldsKept fs s t

theorem PowerFrame.trans {fs : List FieldRef} {s t u : State} (h : PowerFrame fs s t) (k : PowerFrame fs t u) : PowerFrame fs s u := by
  obtain ⟨hs, hkept⟩ := h
  obtain ⟨ht, hkept'⟩ := k
  exact ⟨by rw [ht, hs], hkept.trans hkept'⟩

theorem PowerFrame.mono {fs gs : List FieldRef} {s t : State} (h : PowerFrame fs s t) (hs : ∀ f ∈ fs, f ∈ gs) : PowerFrame gs s t :=
  ⟨h.1, h.2.mono hs⟩

theorem OnlyFields.powerFrame {fs : List FieldRef} {s t : State} (h : OnlyFields fs s t) : PowerFrame fs s t :=
  ⟨by rw [h.1], h.2⟩

theorem State.setDevState_frame (s : State) (v : Nat) : PowerFrame devStateFields s (s.setDevState v) := by
  refine ⟨?_, State.setDevState_kept s v⟩
  unfold State.setDevState
  split
  · rfl
  · exact State.wakeEnds_state _ v

theorem State.setDevState_raised {s : State} {v : Nat} (h : s.devState ≠ v) : (s.setDevState v).isRaised (page .glb 0) 0 := by
  rw [State.setDevState, if_neg h]
  exact State.wakeEnds_raised (State.isRaised_raise _ _ (by decide)) (by decide) v

theorem State.setDevState_settles {s : State} {v : Nat} (h : s.devState ≠ v) (hv : v = 6 ∨ v = 7) :
    (s.setDevState v).power = s.power.settled := by
  have hwake : ∀ u : State, (u.wakeEnds v).power = u.power.settled := by
    intro u
    rcases hv with rfl | rfl
    · exact u.wakeEnds_power
    · rw [State.wakeEnds_ready, State.wakeEnds_power]
  rw [State.setDevState, if_neg h, hwake, State.raise_power, State.put_power]

/-- The cause and the offset of a failure shown. -/
def State.failMarked (s : State) (cause off : Nat) : State :=
  ((s.put Reg.PRF.LOAD_ERR.OFFSET off).err (page .prf 0)).put Reg.PRF.STAT.LOAD_CAUSE cause

def failMarkFields : List FieldRef :=
  [Reg.PRF.LOAD_ERR.OFFSET, Reg.HEAD.PG_ERRCNT.COUNT (page .prf 0), Reg.PRF.STAT.LOAD_CAUSE]

theorem State.failMarked_frame (s : State) (cause off : Nat) : OnlyFields failMarkFields s (s.failMarked cause off) :=
  (((OnlyFields.refl _ s).andPut (by simp [failMarkFields])).andErr (by simp [failMarkFields])).andPut (by simp [failMarkFields])

/-- A load's command ends with a result. -/
def State.loadEnded (s : State) (result : Nat) : State := if s.power.loadCmd then s.cmdEnd result else s

/-- Nothing of a load is left. -/
def State.loadForgotten (s : State) : State := { s with power := { s.power with loadCmd := false, loadCopy := none } }

theorem State.loadForgotten_get (s : State) (f : FieldRef) : s.loadForgotten.get f = s.get f := rfl

theorem State.loadForgotten_frame (s : State) (fs : List FieldRef) : PowerFrame fs s s.loadForgotten := ⟨rfl, .of_regs rfl⟩

theorem State.loadFails_eq (s : State) (cause off : Nat) :
    s.loadFails cause off = (((s.failMarked cause off).setDevState 6).loadEnded (resultOf cause)).loadForgotten := rfl

theorem State.loadEnded_frame (s : State) {result : Nat} (h : 5 < result) : OnlyFields [Reg.PRF.STAT.RESULT] s (s.loadEnded result) := by
  have hquiet : (result == 2 || result == 3 || result == 5) = false := by
    simp only [Bool.or_eq_false_iff, beq_eq_false_iff_ne]
    omega
  unfold State.loadEnded
  split
  · rw [State.cmdEnd, if_neg (by omega), State.raiseIf_eq, hquiet, if_neg Bool.false_ne_true]
    exact (OnlyFields.refl _ s).andPut (by simp)
  · exact OnlyFields.refl _ s

theorem State.loadEnded_result {s : State} (hcmd : s.power.loadCmd = true) {result : Nat} (h : 5 < result ∧ result < 16) :
    (s.loadEnded result).get Reg.PRF.STAT.RESULT = result := by
  have hquiet : (result == 2 || result == 3 || result == 5) = false := by
    simp only [Bool.or_eq_false_iff, beq_eq_false_iff_ne]
    omega
  rw [State.loadEnded, if_pos hcmd, State.cmdEnd, if_neg (by omega), State.raiseIf_eq, hquiet, if_neg Bool.false_ne_true]
  exact State.get_put_of_lt _ (by decide) (by simp; omega)

/-- The fields that a load that fails writes. -/
def loadFailFields : List FieldRef :=
  [Reg.PRF.LOAD_ERR.OFFSET, Reg.HEAD.PG_ERRCNT.COUNT (page .prf 0), Reg.GLB.DEV_STATE.STATE, Reg.PRF.STAT.LOAD_CAUSE,
    Reg.PRF.STAT.RESULT, rawBit (page .glb 0) 0, rawBit (page .prf 0) 5]

/-- The supplies' state after a load. -/
def Power.loadOver (p : Power) : Power := { p.settled with loadCmd := false, loadCopy := none }

/-- What a load that fails shows. -/
structure LoadFailed (cause : Nat) (s t : State) : Prop where
  state : t.devState = 6
  shown : t.get Reg.PRF.STAT.LOAD_CAUSE = cause
  offset : t.get Reg.PRF.LOAD_ERR.OFFSET = 0xFFFFFFFF
  raised : t.isRaised (page .glb 0) 0
  result : s.power.loadCmd = true → t.get Reg.PRF.STAT.RESULT = resultOf cause
  power : t.power = s.power.loadOver
  frame : PowerFrame loadFailFields s t

theorem State.loadFails_shows {s : State} (h : s.devState ≠ 6) {cause : Nat} (hc : 2 < cause ∧ cause < 7) :
    LoadFailed cause s (s.loadFails cause noEntry) := by
  have hresult : 5 < resultOf cause ∧ resultOf cause < 16 := by
    unfold resultOf
    split <;> omega
  have hmark := s.failMarked_frame cause noEntry
  have hcause : (s.failMarked cause noEntry).get Reg.PRF.STAT.LOAD_CAUSE = cause := State.get_put_of_lt _ (by decide) (by simp; omega)
  have hoffset : (s.failMarked cause noEntry).get Reg.PRF.LOAD_ERR.OFFSET = 0xFFFFFFFF := by
    rw [State.failMarked, State.get_put_apart _ _ (by decide) (by decide), State.get_err_apart _ (by decide)]
    exact State.get_put_of_lt _ (by decide) (by decide)
  have hmarked : (s.failMarked cause noEntry).devState ≠ 6 := by
    rw [State.devState, hmark.get (by decide) (by decide)]
    exact h
  have hpower := hmark.power_eq
  rw [State.loadFails_eq]
  generalize s.failMarked cause noEntry = u at *
  have hdev := u.setDevState_frame 6
  have hsettled := State.setDevState_settles hmarked (.inl rfl)
  have hin := u.setDevState_devState (v := 6) (by decide)
  have hraised := State.setDevState_raised hmarked
  have hkept := hdev.2
  generalize u.setDevState 6 = v at *
  have hend := v.loadEnded_frame hresult.1
  have hshown := State.loadEnded_result (s := v) (result := resultOf cause)
  generalize v.loadEnded (resultOf cause) = t at *
  refine ⟨?_, ?_, ?_, ?_, fun hcmd => ?_, ?_, ?_⟩
  · rw [State.devState, State.loadForgotten_get, hend.get (by decide) (by decide)]
    exact hin
  · rw [State.loadForgotten_get, hend.get (by decide) (by decide), hkept.get (by decide) (by decide), hcause]
  · rw [State.loadForgotten_get, hend.get (by decide) (by decide), hkept.get (by decide) (by decide), hoffset]
  · rw [State.isRaised, State.loadForgotten_get, hend.get (by decide) (by decide)]
    exact hraised
  · rw [State.loadForgotten_get, hshown (by rw [hsettled, hpower]; exact hcmd) hresult]
  · rw [State.loadForgotten, Power.loadOver, hend.power_eq, hsettled, hpower]
  · have hall : PowerFrame loadFailFields s t :=
      ((hmark.powerFrame.mono (by decide)).trans (hdev.mono (by decide))).trans (hend.powerFrame.mono (by decide))
    exact hall.trans (t.loadForgotten_frame _)

/-! ### The course of a load (R366)

What a load reads from the flash is held behind names of its own, so that no check of a proof evaluates an image. -/

/-- A load that goes on at a boundary with a copy taken. -/
def State.withCopy (s : State) (c : Nat) : State := { s with power := { s.power with loadCopy := some c } }

theorem State.loadComplete_noCopy {s : State} (hdev : s.devState = 5) (hnew : s.power.loadCopy = none)
    (h : (s.showCopies s.power.loadProf).chooseCopy s.power.loadProf = none) :
    s.loadComplete = (s.showCopies s.power.loadProf).loadFails 3 noEntry := by
  delta State.loadComplete
  obtain ⟨shown, hshown⟩ : ∃ f, @State.showCopies = f := exists_eq'
  obtain ⟨choose, hchoose⟩ : ∃ f, @State.chooseCopy = f := exists_eq'
  rw [hshown, hchoose] at h ⊢
  simp only [hdev, hnew, h, ne_eq, not_true_eq_false, if_false, Option.isSome_none, Bool.false_eq_true]

theorem State.loadComplete_fails {s u : State} {x : Nat × ProfImage} {cause off : Nat} (hdev : s.devState = 5)
    (hnew : s.power.loadCopy = none) (h : (s.showCopies s.power.loadProf).chooseCopy s.power.loadProf = some x)
    (hsteps : (s.showCopies s.power.loadProf).loadSteps x.2 = (u, some (cause, off))) :
    s.loadComplete = (u.setDoor 4 Door.reset).loadFails cause off := by
  delta State.loadComplete
  obtain ⟨c, m⟩ := x
  obtain ⟨shown, hshown⟩ : ∃ f, @State.showCopies = f := exists_eq'
  obtain ⟨choose, hchoose⟩ : ∃ f, @State.chooseCopy = f := exists_eq'
  obtain ⟨steps, hrun⟩ : ∃ f, @State.loadSteps = f := exists_eq'
  rw [hshown, hchoose] at h ⊢
  rw [hshown, hrun] at hsteps
  rw [hrun]
  simp only [hdev, hnew, h, hsteps, ne_eq, not_true_eq_false, if_false, Option.isSome_none, Bool.false_eq_true]

theorem State.loadComplete_moves {s u : State} {x : Nat × ProfImage} (hdev : s.devState = 5)
    (hnew : s.power.loadCopy = none) (h : (s.showCopies s.power.loadProf).chooseCopy s.power.loadProf = some x)
    (hsteps : (s.showCopies s.power.loadProf).loadSteps x.2 = (u, none)) :
    s.loadComplete = ((u.setDoor 4 Door.reset).withCopy x.1).loadResume := by
  delta State.loadComplete State.withCopy
  obtain ⟨c, m⟩ := x
  obtain ⟨shown, hshown⟩ : ∃ f, @State.showCopies = f := exists_eq'
  obtain ⟨choose, hchoose⟩ : ∃ f, @State.chooseCopy = f := exists_eq'
  obtain ⟨steps, hrun⟩ : ∃ f, @State.loadSteps = f := exists_eq'
  rw [hshown, hchoose] at h ⊢
  rw [hshown, hrun] at hsteps
  rw [hrun]
  simp only [hdev, hnew, h, hsteps, ne_eq, not_true_eq_false, if_false, Option.isSome_none, Bool.false_eq_true]

theorem State.loadComplete_resumes {s : State} {c : Nat} (hdev : s.devState = 5) (hcopy : s.power.loadCopy = some c) :
    s.loadComplete = s.loadResume := by
  delta State.loadComplete
  obtain ⟨shown, hshown⟩ : ∃ f, @State.showCopies = f := exists_eq'
  obtain ⟨choose, hchoose⟩ : ∃ f, @State.chooseCopy = f := exists_eq'
  rw [hshown, hchoose]
  simp only [hdev, hcopy, ne_eq, not_true_eq_false, if_false, Option.isSome_some, if_true]

theorem State.loadResume_waits {s : State} (hmove : s.clk.dvfs ≠ none) : s.loadResume = s := by
  delta State.loadResume
  obtain ⟨copy, hcopy⟩ : ∃ f, @State.copyOf = f := exists_eq'
  rw [hcopy]
  have hsome : s.clk.dvfs.isSome = true := Option.isSome_iff_ne_none.2 hmove
  split
  · rfl
  · exact if_pos (.inr hsome)

theorem State.loadResume_fails {s u : State} {c : Nat} {m : ProfImage} {cause off : Nat} (hdev : s.devState = 5)
    (hcopy : s.power.loadCopy = some c) (hmove : s.clk.dvfs = none) (himage : s.copyOf s.power.loadProf c = some m)
    (hpost : s.loadPost m = (u, some (cause, off))) : s.loadResume = (u.setDoor 4 Door.reset).loadFails cause off := by
  delta State.loadResume
  obtain ⟨copy, hread⟩ : ∃ f, @State.copyOf = f := exists_eq'
  obtain ⟨post, hrun⟩ : ∃ f, @State.loadPost = f := exists_eq'
  rw [hread] at himage ⊢
  rw [hrun] at hpost ⊢
  simp only [hdev, hcopy, hmove, himage, hpost, ne_eq, not_true_eq_false, if_false, Option.isSome_none, Bool.false_eq_true, or_self]

theorem State.loadResume_done {s u : State} {c : Nat} {m : ProfImage} (hdev : s.devState = 5)
    (hcopy : s.power.loadCopy = some c) (hmove : s.clk.dvfs = none) (himage : s.copyOf s.power.loadProf c = some m)
    (hpost : s.loadPost m = (u, none)) (hu : u.devState = 5) :
    s.loadResume = (u.setDoor 4 Door.reset).loadDone u.power.loadProf c m := by
  delta State.loadResume
  obtain ⟨copy, hread⟩ : ∃ f, @State.copyOf = f := exists_eq'
  obtain ⟨post, hrun⟩ : ∃ f, @State.loadPost = f := exists_eq'
  rw [hread] at himage ⊢
  rw [hrun] at hpost ⊢
  have hdoor : (u.setDoor 4 Door.reset).devState = 5 := hu
  simp only [hdev, hcopy, hmove, himage, hpost, hdoor, ne_eq, not_true_eq_false, if_false, if_true, Option.isSome_none, Bool.false_eq_true,
    or_self, State.setDoor_power]

/-! ### A load that is complete -/

/-- The value of WHEEL_PROF that names one profile for eight wheels. -/
def eightWheels (p : Nat) : Nat := (List.range 8).foldl (fun a j => a + p * 16 ^ j) 0

theorem eightWheels_digit : ∀ p < 8, eightWheels p < 2 ^ 32 ∧ ∀ j < 8, eightWheels p / 16 ^ j % 16 = p := by decide

def wheelProfs (n : Nat) : List FieldRef := (List.range n).map Reg.PRF.WHEEL_PROF.PROF

/-- WHEEL_PROF of the first n registers. -/
def State.wheelsTo (s : State) (p n : Nat) : State := s.forEach (List.range n) fun s i => s.put (Reg.PRF.WHEEL_PROF.PROF i) (eightWheels p)

theorem State.wheelsTo_succ (s : State) (p n : Nat) :
    s.wheelsTo p (n + 1) = (s.wheelsTo p n).put (Reg.PRF.WHEEL_PROF.PROF n) (eightWheels p) := by
  rw [State.wheelsTo, State.forEach, List.range_succ, List.foldl_append]
  rfl

theorem State.wheelsTo_frame (s : State) (p n : Nat) : OnlyFields (wheelProfs n) s (s.wheelsTo p n) := by
  induction n with
  | zero => exact OnlyFields.refl _ s
  | succ n ih =>
    rw [State.wheelsTo_succ]
    refine (ih.mono fun f hf => ?_).andPut (by simp [wheelProfs])
    rw [wheelProfs, List.range_succ, List.map_append]
    exact List.mem_append_left _ hf

theorem State.wheelsTo_get (s : State) {p : Nat} (hp : p < 8) {k n : Nat} (hk : k < n) :
    (s.wheelsTo p n).get (Reg.PRF.WHEEL_PROF.PROF k) = eightWheels p := by
  induction n with
  | zero => exact absurd hk (Nat.not_lt_zero k)
  | succ n ih =>
    rw [State.wheelsTo_succ]
    by_cases he : k = n
    · rw [he]
      exact State.get_put_of_lt _ (by simp [FieldRef.ok]) (by simpa using (eightWheels_digit p hp).1)
    · rw [State.get_put_apart _ _ (by simp [FieldRef.ok]) (by simp [FieldRef.apart]; omega), ih (by omega)]

/-- The profile loaded shown, every wheel on it; no shutter and no loss of the timebase is left. -/
def State.loadMarked (s : State) (p copy : Nat) (m : ProfImage) : State :=
  ((((((((s.put Reg.PRF.STAT.PROF_LOADED p).put Reg.PRF.STAT.COPY copy).put Reg.PRF.PROF_ID.ID m.ident).put
    Reg.PRF.PROF_VER.VERSION m.version).put Reg.PRF.PROF_CRC.CRC m.crc).wheelsTo p 6).put Reg.PLC.STAT.STATE 0).put
    Reg.CLK.PLL_STAT.TIMEBASE_LOST 0).put Reg.FLT.DEV_FAULT.DEV_SHUT 0

def loadMarkFields : List FieldRef :=
  [Reg.PRF.STAT.PROF_LOADED, Reg.PRF.STAT.COPY, Reg.PRF.PROF_ID.ID, Reg.PRF.PROF_VER.VERSION, Reg.PRF.PROF_CRC.CRC, Reg.PLC.STAT.STATE,
    Reg.CLK.PLL_STAT.TIMEBASE_LOST, Reg.FLT.DEV_FAULT.DEV_SHUT] ++ wheelProfs 6

theorem State.loadMarked_frame (s : State) (p copy : Nat) (m : ProfImage) : OnlyFields loadMarkFields s (s.loadMarked p copy m) := by
  have hwheels := State.wheelsTo_frame (((((s.put Reg.PRF.STAT.PROF_LOADED p).put Reg.PRF.STAT.COPY copy).put Reg.PRF.PROF_ID.ID m.ident).put
    Reg.PRF.PROF_VER.VERSION m.version).put Reg.PRF.PROF_CRC.CRC m.crc) p 6
  refine (((OnlyFields.trans ?_ (hwheels.mono fun _ hf => List.mem_append_right _ hf)).andPut (by decide)).andPut (by decide)).andPut
    (by decide)
  exact (((((OnlyFields.refl _ s).andPut (by decide)).andPut (by decide)).andPut (by decide)).andPut (by decide)).andPut (by decide)

/-- What a complete load shows of the profile. -/
structure ProfileShown (p copy : Nat) (m : ProfImage) (t : State) : Prop where
  loaded : t.get Reg.PRF.STAT.PROF_LOADED = p % 8
  copy : copy < 2 → t.get Reg.PRF.STAT.COPY = copy
  ident : t.get Reg.PRF.PROF_ID.ID = m.ident % 2 ^ 32
  version : t.get Reg.PRF.PROF_VER.VERSION = m.version % 2 ^ 32
  crc : t.get Reg.PRF.PROF_CRC.CRC = m.crc % 2 ^ 32
  wheels : p < 8 → ∀ k < 6, t.get (Reg.PRF.WHEEL_PROF.PROF k) = eightWheels p
  released : t.get Reg.FLT.DEV_FAULT.DEV_SHUT = 0
  timebase : t.get Reg.CLK.PLL_STAT.TIMEBASE_LOST = 0

/-- A frame apart from the fields of `ProfileShown` keeps what they show. -/
theorem ProfileShown.of_kept {p copy : Nat} {m : ProfImage} {s t : State} {fs : List FieldRef} (h : ProfileShown p copy m s)
    (hkept : FieldsKept fs s t) (hapart : ∀ f ∈ loadMarkFields, f.ok ∧ ∀ g ∈ fs, g.apart f) : ProfileShown p copy m t := by
  have hget : ∀ f ∈ loadMarkFields, t.get f = s.get f := fun f hf => hkept.get (hapart f hf).1 (hapart f hf).2
  obtain ⟨hloaded, hcopy, hident, hversion, hcrc, hwheels, hreleased, htimebase⟩ := h
  refine ⟨(hget _ (by decide)).trans hloaded, fun hc => (hget _ (by decide)).trans (hcopy hc), (hget _ (by decide)).trans hident,
    (hget _ (by decide)).trans hversion, (hget _ (by decide)).trans hcrc, fun hp k hk => (hget _ ?_).trans (hwheels hp k hk),
    (hget _ (by decide)).trans hreleased, (hget _ (by decide)).trans htimebase⟩
  exact List.mem_append_right _ (List.mem_map.2 ⟨k, List.mem_range.2 hk, rfl⟩)

theorem State.loadMarked_shows (s : State) (p copy : Nat) (m : ProfImage) : ProfileShown p copy m (s.loadMarked p copy m) := by
  have hwheels := State.wheelsTo_frame (((((s.put Reg.PRF.STAT.PROF_LOADED p).put Reg.PRF.STAT.COPY copy).put Reg.PRF.PROF_ID.ID m.ident).put
    Reg.PRF.PROF_VER.VERSION m.version).put Reg.PRF.PROF_CRC.CRC m.crc) p 6
  have hafter : ∀ {f : FieldRef}, f.ok → Reg.PLC.STAT.STATE.apart f → Reg.CLK.PLL_STAT.TIMEBASE_LOST.apart f →
      Reg.FLT.DEV_FAULT.DEV_SHUT.apart f → (s.loadMarked p copy m).get f = ((((((s.put Reg.PRF.STAT.PROF_LOADED p).put
        Reg.PRF.STAT.COPY copy).put Reg.PRF.PROF_ID.ID m.ident).put Reg.PRF.PROF_VER.VERSION m.version).put
        Reg.PRF.PROF_CRC.CRC m.crc).wheelsTo p 6).get f := fun ok h1 h2 h3 => by
    rw [State.loadMarked, State.get_put_apart _ _ (by decide) h3, State.get_put_apart _ _ (by decide) h2,
      State.get_put_apart _ _ (by decide) h1]
  refine ⟨?_, fun hc => ?_, ?_, ?_, ?_, fun hp k hk => ?_, State.get_put_of_lt _ (by decide) (by decide), ?_⟩
  · rw [hafter (by decide) (by decide) (by decide) (by decide), hwheels.get (by decide) (by decide),
      State.get_put_apart _ _ (by decide) (by decide), State.get_put_apart _ _ (by decide) (by decide),
      State.get_put_apart _ _ (by decide) (by decide), State.get_put_apart _ _ (by decide) (by decide),
      State.get_put_self _ _ (by decide)]
    rfl
  · rw [hafter (by decide) (by decide) (by decide) (by decide), hwheels.get (by decide) (by decide),
      State.get_put_apart _ _ (by decide) (by decide), State.get_put_apart _ _ (by decide) (by decide),
      State.get_put_apart _ _ (by decide) (by decide)]
    exact State.get_put_of_lt _ (by decide) (by simpa using hc)
  · rw [hafter (by decide) (by decide) (by decide) (by decide), hwheels.get (by decide) (by decide),
      State.get_put_apart _ _ (by decide) (by decide), State.get_put_apart _ _ (by decide) (by decide),
      State.get_put_self _ _ (by decide)]
    rfl
  · rw [hafter (by decide) (by decide) (by decide) (by decide), hwheels.get (by decide) (by decide),
      State.get_put_apart _ _ (by decide) (by decide), State.get_put_self _ _ (by decide)]
    rfl
  · rw [hafter (by decide) (by decide) (by decide) (by decide), hwheels.get (by decide) (by decide),
      State.get_put_self _ _ (by decide)]
    rfl
  · rw [hafter (by simp [FieldRef.ok]) (by simp [FieldRef.apart]; omega) (by simp [FieldRef.apart]; omega)
      (by simp [FieldRef.apart]; omega), State.wheelsTo_get _ hp hk]
  · rw [State.loadMarked, State.get_put_apart _ _ (by decide) (by decide)]
    exact State.get_put_of_lt _ (by decide) (by decide)

/-- The load noted: its time, and nothing of it left to do. -/
def State.loadNoted (s : State) (m : ProfImage) : State :=
  { s with
    power := { s.power with subsys := m.subsys, epochDue := true, loadCmd := false, loadCopy := none }
    recd := { s.recd with
      loadTick := some s.tick, loadOfs := s.clk.htOfs, loadTrim := s.get Reg.CLK.TRIM_LIVE.TRIM,
      loadValid := s.bit Reg.CLK.HT_STAT.HT_VALID, loadLevel := m.level } }

theorem State.loadDone_eq (s : State) (p copy : Nat) (m : ProfImage) : s.loadDone p copy m =
    if (s.loadMarked p copy m).power.loadCmd then (((s.loadMarked p copy m).loadNoted m).setDevState 7).cmdEnd 1
    else ((s.loadMarked p copy m).loadNoted m).setDevState 7 := rfl

/-- What a complete load leaves. -/
structure LoadDone (p copy : Nat) (m : ProfImage) (s t : State) : Prop where
  state : t.devState = 7
  shown : ProfileShown p copy m t
  result : s.power.loadCmd = true → t.get Reg.PRF.STAT.RESULT = 1 ∧ t.isRaised (page .prf 0) 0
  power : t.power = Power.settled { s.power with subsys := m.subsys, epochDue := true, loadCmd := false, loadCopy := none }
  loadTick : t.recd.loadTick = some s.tick
  frame : t = { s with regs := t.regs, power := t.power, recd := t.recd }

/-- A frame but for the record path's notes. -/
def NotedFrame (s t : State) : Prop := t = { s with regs := t.regs, power := t.power, recd := t.recd }

theorem NotedFrame.trans {s t u : State} (h : NotedFrame s t) (k : NotedFrame t u) : NotedFrame s u := by
  unfold NotedFrame at *
  rw [k, h]

theorem PowerFrame.noted {fs : List FieldRef} {s t : State} (h : PowerFrame fs s t) : NotedFrame s t := by
  rw [NotedFrame, h.1]

theorem State.loadNoted_frame (s : State) (m : ProfImage) : NotedFrame s (s.loadNoted m) := rfl

theorem State.loadNoted_kept (s : State) (m : ProfImage) (fs : List FieldRef) : FieldsKept fs s (s.loadNoted m) := .of_regs rfl

theorem State.loadNoted_get (s : State) (m : ProfImage) (f : FieldRef) : (s.loadNoted m).get f = s.get f := rfl

theorem State.loadNoted_loadTick (s : State) (m : ProfImage) : (s.loadNoted m).recd.loadTick = some s.tick := rfl

theorem State.loadNoted_power (s : State) (m : ProfImage) : (s.loadNoted m).power =
    { s.power with subsys := m.subsys, epochDue := true, loadCmd := false, loadCopy := none } := rfl

theorem State.loadDone_shows {s : State} (h : s.devState ≠ 7) (p copy : Nat) (m : ProfImage) :
    LoadDone p copy m s (s.loadDone p copy m) := by
  have hmark := s.loadMarked_frame p copy m
  have hshown := s.loadMarked_shows p copy m
  rw [State.loadDone_eq]
  obtain ⟨u, hu⟩ : ∃ u, s.loadMarked p copy m = u := exists_eq'
  rw [hu] at hmark hshown ⊢
  have hnot7 : (u.loadNoted m).devState ≠ 7 := by
    rw [State.devState, State.loadNoted_get, hmark.get (by decide) (by decide)]
    exact h
  have hdev := (u.loadNoted m).setDevState_frame 7
  have hpower := State.setDevState_settles hnot7 (.inr rfl)
  have hrecd := ((u.loadNoted m).setDevState_sameRecord 7).recd
  have hstate := (u.loadNoted m).setDevState_devState (v := 7) (by decide)
  have hkept := (u.loadNoted_kept m devStateFields).trans hdev.2
  have hframe : NotedFrame s ((u.loadNoted m).setDevState 7) := (hmark.powerFrame.noted.trans (u.loadNoted_frame m)).trans hdev.noted
  obtain ⟨v, hv⟩ : ∃ v, (u.loadNoted m).setDevState 7 = v := exists_eq'
  rw [hv] at hdev hpower hrecd hstate hkept hframe ⊢
  have hnotes : v.power = Power.settled { s.power with subsys := m.subsys, epochDue := true, loadCmd := false, loadCopy := none } := by
    rw [hpower, State.loadNoted_power, hmark.power_eq]
  have htime : v.recd.loadTick = some s.tick := by
    rw [hrecd, State.loadNoted_loadTick, hmark.tick_eq]
  have hall := hshown.of_kept hkept (by decide)
  have hcmd : u.power.loadCmd = s.power.loadCmd := by rw [hmark.power_eq]
  rw [hcmd]
  rcases hdo : s.power.loadCmd with - | -
  · rw [if_neg Bool.false_ne_true]
    exact ⟨hstate, hall, fun hc => absurd (hdo.symm.trans hc) Bool.false_ne_true, hnotes, htime, hframe⟩
  · have hend := v.cmdEnd_frame
    rw [if_pos rfl]
    refine ⟨?_, hall.of_kept hend.2 (by decide), fun _ => v.cmdEnd_shows, hend.power_eq.trans hnotes, ?_,
      hframe.trans hend.powerFrame.noted⟩
    · rw [State.devState, hend.get (by decide) (by decide)]
      exact hstate
    · rw [hend.1]
      exact htime

/-! ### The command -/

theorem exec_loadComplete (s : State) : exec .loadComplete s = run s s.loadComplete := rfl

/-- A state as the command leaves it. -/
def State.timedAs (t s : State) : State := { t with tick := s.tick, pending := s.pending }

theorem run_timed (s t : State) : run s t = .next (t.timedAs s) := rfl

theorem State.timedAs_kept (t s : State) (fs : List FieldRef) : FieldsKept fs t (t.timedAs s) := .of_regs rfl

theorem State.timedAs_get (t s : State) (f : FieldRef) : (t.timedAs s).get f = t.get f := rfl

/-- The steps on a board whose memory does not train (R409). -/
theorem State.loadSteps_untrained {s : State} (h : s.power.ddrOk = false) (m : ProfImage) : s.loadSteps m = (s, some (4, noEntry)) := by
  unfold State.loadSteps
  rw [h]
  rfl

theorem State.loadPost_low {s : State} {m : ProfImage} (h : s.level ≠ m.level) : s.loadPost m = (s, some (6, noEntry)) := by
  unfold State.loadPost
  exact if_pos h

/-- The supplies' state after a load that began with no copy taken. -/
theorem Power.loadOver_new {p : Power} (h : p.loadCopy = none) : p.loadOver =
    { p with loadCmd := false, waking := false, image := !p.waking && p.image, epochDue := p.waking || p.epochDue } := by
  rw [Power.loadOver, Power.settled, ← h]

theorem State.setDoor_keeps (s : State) (d : DoorNo) (v : Door) : (s.setDoor 4 v).door d = s.door d := by
  have hne : d.val ≠ 4 := Nat.ne_of_lt d.isLt
  simp [hne]

/-- A load that waits for its move, as the command leaves it. -/
theorem State.copyTaken_shows (u s : State) (c : Nat) :
    (((u.setDoor 4 Door.reset).withCopy c).timedAs s).devState = u.devState ∧
    (((u.setDoor 4 Door.reset).withCopy c).timedAs s).power = { u.power with loadCopy := some c } ∧
    (∀ d : DoorNo, (((u.setDoor 4 Door.reset).withCopy c).timedAs s).door d = u.door d) ∧
    ((u.setDoor 4 Door.reset).withCopy c).timedAs s = { u with
      tick := s.tick, pending := s.pending, doors := (((u.setDoor 4 Door.reset).withCopy c).timedAs s).doors,
      power := (((u.setDoor 4 Door.reset).withCopy c).timedAs s).power } :=
  ⟨rfl, rfl, fun d => u.setDoor_keeps d Door.reset, rfl⟩

theorem State.copiesRead_frame (s : State) : OnlyFields [Reg.PRF.COPY_STAT.STATE] s (s.showCopies s.power.loadProf) :=
  s.showCopies_frame _

/-- A load without a valid copy, or on a board whose memory does not train, fails. -/
theorem State.loadComplete_rejected {s : State} (hdev : s.devState = 5) (hnew : s.power.loadCopy = none)
    (h : s.chooseCopy s.power.loadProf = none ∨ s.power.ddrOk = false) : ∃ u : State,
    s.loadComplete = u.loadFails (if s.chooseCopy s.power.loadProf = none then 3 else 4) noEntry ∧
    (u = s.showCopies s.power.loadProf ∨ u = (s.showCopies s.power.loadProf).setDoor 4 Door.reset) := by
  have hread := s.showCopies_choose s.power.loadProf
  rcases hcopy : s.chooseCopy s.power.loadProf with - | x
  · rw [if_pos rfl]
    exact ⟨_, State.loadComplete_noCopy hdev hnew (hread.trans hcopy), .inl rfl⟩
  · have hddr : (s.showCopies s.power.loadProf).power.ddrOk = false := by
      rw [State.showCopies_power]
      exact h.resolve_left (by rw [hcopy]; exact Option.some_ne_none x)
    rw [if_neg (Option.some_ne_none x)]
    exact ⟨_, State.loadComplete_fails hdev hnew (hread.trans hcopy) (State.loadSteps_untrained hddr x.2), .inr rfl⟩

/-- The state that a rejected load fails from: registers and the loader's own door apart, the one it began in. -/
theorem State.rejected_frame {s u : State}
    (h : u = s.showCopies s.power.loadProf ∨ u = (s.showCopies s.power.loadProf).setDoor 4 Door.reset) :
    u = { s with regs := u.regs, doors := u.doors } ∧ (∀ d : DoorNo, u.door d = s.door d) ∧
    FieldsKept [Reg.PRF.COPY_STAT.STATE] s u := by
  have hframe := s.copiesRead_frame
  generalize s.showCopies s.power.loadProf = v at *
  have hdoor : ∀ d : DoorNo, v.door d = s.door d := fun d => by rw [State.door, State.door, hframe.1]
  rcases h with rfl | rfl
  · exact ⟨by rw [hframe.1], hdoor, hframe.2⟩
  · exact ⟨by rw [State.setDoor, hframe.1], fun d => (v.setDoor_keeps d _).trans (hdoor d), hframe.2.trans (.of_regs rfl)⟩

theorem State.loadComplete_rejects {s : State} (hdev : s.devState = 5) (hnew : s.power.loadCopy = none)
    (h : s.chooseCopy s.power.loadProf = none ∨ s.power.ddrOk = false) : ∃ u : State,
    LoadFailed (if s.chooseCopy s.power.loadProf = none then 3 else 4) u s.loadComplete ∧
    u = { s with regs := u.regs, doors := u.doors } ∧ (∀ d : DoorNo, u.door d = s.door d) ∧
    FieldsKept [Reg.PRF.COPY_STAT.STATE] s u := by
  obtain ⟨u, heq, hu⟩ := State.loadComplete_rejected hdev hnew h
  obtain ⟨hframe, hdoors, hkept⟩ := State.rejected_frame hu
  have hstate : u.devState ≠ 6 := by
    rw [State.devState, hkept.get (by decide) (by decide), ← State.devState, hdev]
    decide
  rw [heq]
  exact ⟨u, State.loadFails_shows hstate (by split <;> decide), hframe, hdoors, hkept⟩

/-- Settles O51. The move of step 5 is the model's reading of Table 14-7 (log entry 73), and whether the memory trains the board's (log
entry 105). -/
theorem loadEndsInReadyOrShuttered : Obligations.LoadEndsInReadyOrShuttered := by
  unfold Obligations.LoadEndsInReadyOrShuttered
  refine ⟨fun s hdev _ hnew h => ?rejected, fun c m s u hdev _ hnew hcopy hsteps hu hmove => ?moves,
    fun c m s u hdev _ hcopy hmove himage hc => ⟨fun hlevel => ?low, fun hpost hu => ?done⟩⟩
  case rejected =>
    obtain ⟨u, hfailed, hframe, hdoors, hkept⟩ := State.loadComplete_rejects hdev hnew h
    have hpower : u.power = s.power := by rw [hframe]
    obtain ⟨hstate, hcause, hoffset, hraised, hresult, hsettled, hpowered, hfields⟩ := hfailed
    rw [exec_loadComplete]
    generalize s.loadComplete = t at *
    refine ⟨t, run_eq (by rw [hpowered, hframe]) (by rw [hpowered, hframe]), hstate, hcause, hoffset, hraised, fun hcmd => ?_, ?_, ?_,
      fun d => ?_, (hkept.mono (by decide)).trans (hfields.mono (by decide))⟩
    · rw [hresult (by rw [hpower]; exact hcmd)]
      split <;> rfl
    · rw [hsettled, hpower, Power.loadOver_new hnew]
    · rw [hpowered, hframe]
    · rw [← hdoors d, State.door, State.door, hpowered]
  case moves =>
    have hresume := State.loadComplete_moves hdev hnew ((s.showCopies_choose _).trans hcopy) hsteps
    have hwaits : ((u.setDoor 4 Door.reset).withCopy c).loadResume = (u.setDoor 4 Door.reset).withCopy c := State.loadResume_waits hmove
    rw [exec_loadComplete, hresume, hwaits, run_timed]
    obtain ⟨hstate, hpower, hdoors, hframe⟩ := u.copyTaken_shows s c
    exact ⟨_, rfl, hstate.trans hu, hpower, hdoors, hframe⟩
  case low =>
    have hstate : (s.setDoor 4 Door.reset).devState ≠ 6 := by
      rw [State.devState, State.setDoor_get, ← State.devState, hdev]
      decide
    have hfails := (State.loadComplete_resumes hdev hcopy).trans
      (State.loadResume_fails hdev hcopy hmove himage (State.loadPost_low hlevel))
    obtain ⟨hin, hcause, hoffset, -, hresult, hpower, -⟩ := State.loadFails_shows hstate (cause := 6) (by decide)
    rw [exec_loadComplete, hfails, run_timed]
    obtain ⟨t, ht⟩ : ∃ t, (s.setDoor 4 Door.reset).loadFails 6 noEntry = t := exists_eq'
    rw [ht] at hin hcause hoffset hresult hpower ⊢
    exact ⟨_, rfl, hin, hcause, hoffset, hresult, hpower⟩
  case done =>
    have hstate : (u.setDoor 4 Door.reset).devState ≠ 7 := by
      rw [State.devState, State.setDoor_get, ← State.devState, hu]
      decide
    have hdone := (State.loadComplete_resumes hdev hcopy).trans (State.loadResume_done hdev hcopy hmove himage hpost hu)
    obtain ⟨hin, hshown, hresult, hpower, htime, hframe⟩ := State.loadDone_shows hstate u.power.loadProf c m
    rw [exec_loadComplete, hdone, run_timed]
    obtain ⟨t, ht⟩ : ∃ t, (u.setDoor 4 Door.reset).loadDone u.power.loadProf c m = t := exists_eq'
    rw [ht] at hin hshown hresult hpower htime hframe ⊢
    obtain ⟨hloaded, hshownCopy, hident, hversion, hcrc, hwheels, hreleased, htimebase⟩ :=
      hshown.of_kept (t.timedAs_kept s []) (by decide)
    refine ⟨_, rfl, hin, hloaded, hshownCopy hc, hident, hversion, hcrc, fun hp w => ?_, hreleased, htimebase, hresult, ?_, htime, ?_, ?_,
      ?_, ?_⟩
    · rw [hwheels hp _ (by omega)]
      exact (eightWheels_digit _ hp).2 _ (Nat.mod_lt _ (by decide))
    · exact hpower.trans (by simp only [Power.settled, Bool.or_true, State.setDoor_power])
    · rw [State.timedAs, hframe]
      rfl
    · rw [State.timedAs, hframe]
      rfl
    · rw [State.timedAs, hframe]
      rfl
    · rw [State.timedAs, hframe]
      rfl

end Sys2Proof.Machine
end

section
/-! PROOFS. The placement engine's commands and the ends of its work (chapter 6: R187, R195, R196; chapter 15: R391, R392). -/

namespace Sys2Proof.Machine

/-! ### A write of PLC CMD (R200) -/

theorem plcWord_toNat {cmd arg : Nat} (hcmd : cmd < 16) (harg : arg < 2048) : (plcWord cmd arg).toNat = arg * 2 ^ 16 + cmd := by
  rw [plcWord, BitVec.toNat_ofNat, Nat.mod_eq_of_lt (by omega)]

theorem plcWord_cmd {cmd arg : Nat} (hcmd : cmd < 16) (harg : arg < 2048) : Word.bits (plcWord cmd arg) 3 0 = cmd := by
  rw [Word.bits, plcWord_toNat hcmd harg]
  omega

theorem plcWord_arg {cmd arg : Nat} (hcmd : cmd < 16) (harg : arg < 2048) : Word.bits (plcWord cmd arg) 26 16 = arg := by
  rw [Word.bits, plcWord_toNat hcmd harg]
  omega

/-- A write of PLC CMD holds ARG, its only field that is kept. -/
theorem State.plainWrite_plcCmd (s : State) (v : Word) : s.plainWrite 0x71040 v = s.put Reg.PLC.CMD.ARG (Word.bits v 26 16) := by
  have haddr : (0x71040 : Nat) = page .plc 0 + 0x40 := by decide
  have hfields : fieldsAt 0x71040 = [⟨26, 16, .rw, 0, .any⟩, ⟨3, 0, .wo, 0, .within 0 4⟩] := by
    rw [haddr, fieldsAt_page .plc (by decide) (by decide)]
    decide
  have hmerge : s.merge 0x71040 [.rw] (s.reg 0x71040) v = Word.withBits (s.reg 0x71040) 26 16 (Word.bits v 26 16) := by
    unfold State.merge
    rw [hfields]
    rfl
  unfold State.plainWrite
  rw [hmerge, hfields]
  rfl

/-- A command with its argument held and shown. -/
def State.plcAsked (s : State) (arg : Nat) : State := (s.put Reg.PLC.CMD.ARG arg).put Reg.PLC.STAT.ARG arg

/-- A door's command word: ARG is held, and the command acts. -/
theorem State.busWrite_plc {s : State} {d : DoorNo} {cmd arg : Nat} (hacc : s.accepts d .plc 0 0x40) (hcmd : cmd ≤ 4) (harg : arg < 2048)
    (hlevel : ¬(cmd = 1 ∧ arg = 3)) :
    s.busWrite d 0x71040 (plcWord cmd arg) = (s.put Reg.PLC.CMD.ARG arg).plcCommand cmd arg d := by
  have hwrite : s.busWrite d 0x71040 (plcWord cmd arg) = s.plcWrite (plcWord cmd arg) d :=
    State.busWrite_direct hacc (by decide) (by decide) _
  have hheld : (s.put Reg.PLC.CMD.ARG arg).get Reg.PLC.CMD.ARG = arg := State.get_put_of_lt _ (by decide) (by simpa using harg)
  rw [hwrite]
  unfold State.plcWrite
  rw [plcWord_cmd (by omega) harg, plcWord_arg (by omega) harg]
  dsimp only
  rw [if_neg hlevel, State.plainWrite_plcCmd, plcWord_arg (by omega) harg, if_pos hcmd, hheld]

theorem State.plcAsked_frame (s : State) (arg : Nat) : OnlyFields [Reg.PLC.CMD.ARG, Reg.PLC.STAT.ARG] s (s.plcAsked arg) :=
  ((OnlyFields.refl _ s).andPut (by decide)).andPut (by decide)

theorem State.plcAsked_arg (s : State) {arg : Nat} (h : arg < 2048) : (s.plcAsked arg).get Reg.PLC.STAT.ARG = arg :=
  State.get_put_of_lt _ (by decide) (by simpa using h)

theorem State.put_idle {s : State} (hidle : s.get Reg.PLC.STAT.STATE = 0) (arg : Nat) :
    ¬(s.put Reg.PLC.CMD.ARG arg).get Reg.PLC.STAT.STATE ≠ 0 := by
  rw [State.get_put_apart _ _ (by decide) (by decide), hidle]
  exact not_not.2 rfl

/-- R190 speaks of the fabric, the slots and the part alone. -/
theorem State.fitsAll_congr {s t : State} (hfabric : t.fabric = s.fabric) (hslots : t.slots = s.slots) (hpower : t.power = s.power)
    (k : Nat) : t.fitsAll k = s.fitsAll k := by
  cases s
  cases t
  dsimp only at hfabric hslots hpower
  subst hfabric hslots hpower
  rfl

theorem OnlyFields.fitsAll_eq {fs : List FieldRef} {s t : State} (h : OnlyFields fs s t) (k : Nat) : t.fitsAll k = s.fitsAll k :=
  State.fitsAll_congr (by rw [h.1]) (by rw [h.1]) h.power_eq k

/-- The placement below a held level goes on from here. -/
def State.compacts (s : State) (arg : Nat) : State :=
  (s.planSome (s.toMove fun a => decide (levelLimit arg ≤ a % 128))).put Reg.PLC.STAT.STATE 2

/-- The level held for a compaction: a lower one is held, level 0 releases the hold (R195). -/
def State.levelHeld (s : State) (arg : Nat) : State :=
  let s := if levelLimit arg < s.kLimit then (s.put Reg.PLC.STAT.HOLD_LVL arg).put Reg.PLC.STAT.HOLD_EN 1 else s
  if arg = 0 then (s.put Reg.PLC.STAT.HOLD_LVL 0).put Reg.PLC.STAT.HOLD_EN 0 else s

/-- A command of an idle engine: its argument is held and shown, and the row of its code acts. -/
theorem State.plcCommand_compact {s : State} (hidle : s.get Reg.PLC.STAT.STATE = 0) {cmd arg : Nat} (hcmd : cmd = 1) (harg : arg ≤ 2)
    (door : Nat) : (s.put Reg.PLC.CMD.ARG arg).plcCommand cmd arg door =
      if levelLimit arg < s.kLimit ∧ s.fitsAll (levelLimit arg) = false then (s.plcAsked arg).plcEnd 2
      else ((s.plcAsked arg).levelHeld arg).compacts arg := by
  have hlimit : (s.plcAsked arg).kLimit = s.kLimit := congrArg levelLimit ((s.plcAsked_frame arg).get (by decide) (by decide))
  have hall := (s.plcAsked_frame arg).fitsAll_eq (levelLimit arg)
  unfold State.plcCommand
  rw [if_neg (by omega), if_neg (State.put_idle hidle arg), ← State.plcAsked]
  obtain ⟨u, hu⟩ : ∃ u, s.plcAsked arg = u := exists_eq'
  rw [hu] at hlimit hall ⊢
  dsimp only
  split
  case h_1 =>
    rw [if_neg (by omega), hall, ← hlimit, State.levelHeld]
    by_cases hdown : levelLimit arg < u.kLimit
    · rcases s.fitsAll (levelLimit arg) with - | -
      · simp only [hdown, decide_true, Bool.not_false, Bool.and_self, if_true, and_self]
      · simp only [hdown, decide_true, Bool.not_true, Bool.and_false, Bool.false_eq_true, if_false, if_true, and_false, reduceCtorEq,
          State.compacts]
    · simp only [hdown, decide_false, Bool.false_and, Bool.false_eq_true, if_false, false_and, State.compacts]
  case h_5 hne _ _ _ => exact absurd hcmd hne
  all_goals exact absurd hcmd (by decide)

theorem State.plcCommand_evac {s : State} (hidle : s.get Reg.PLC.STAT.STATE = 0) {cmd arg : Nat} (hcmd : cmd = 2) (harg : arg < 2048)
    (hactive : (s.coach arg).state = 0) (door : Nat) :
    (s.put Reg.PLC.CMD.ARG arg).plcCommand cmd arg door = (s.plcAsked arg).takeEvac arg 7 door := by
  have hcoach := (s.plcAsked_frame arg).coach_eq arg
  unfold State.plcCommand
  rw [if_neg (by omega), if_neg (State.put_idle hidle arg), ← State.plcAsked]
  obtain ⟨u, hu⟩ : ∃ u, s.plcAsked arg = u := exists_eq'
  rw [hu] at hcoach ⊢
  dsimp only
  split
  case h_2 => rw [hcoach, if_neg (by omega)]
  case h_5 _ hne _ _ => exact absurd hcmd hne
  all_goals exact absurd hcmd (by decide)

theorem State.plcCommand_test {s : State} (hidle : s.get Reg.PLC.STAT.STATE = 0) {cmd arg : Nat} (hcmd : cmd = 3) (harg : arg < 2048)
    (hstate : (s.coach arg).state = 2 ∨ ((s.coach arg).state = 4 ∧
      ((s.coach arg).cause = 2 ∨ (s.coach arg).cause = 3 ∨ (s.coach arg).cause = 5))) (door : Nat) :
    (s.put Reg.PLC.CMD.ARG arg).plcCommand cmd arg door =
      ((s.plcAsked arg).setCoach arg { s.coach arg with state := 3 }).put Reg.PLC.STAT.STATE 4 := by
  have hcoach := (s.plcAsked_frame arg).coach_eq arg
  unfold State.plcCommand
  rw [if_neg (by omega), if_neg (State.put_idle hidle arg), ← State.plcAsked]
  obtain ⟨u, hu⟩ : ∃ u, s.plcAsked arg = u := exists_eq'
  rw [hu] at hcoach ⊢
  dsimp only
  split
  case h_3 => rw [hcoach, if_neg (by omega), if_pos hstate]
  case h_5 _ _ hne _ => exact absurd hcmd hne
  all_goals exact absurd hcmd (by decide)

theorem State.plcCommand_restore {s : State} (hidle : s.get Reg.PLC.STAT.STATE = 0) {cmd arg : Nat} (hcmd : cmd = 4) (harg : arg < 2048)
    (hmaint : (s.coach arg).state = 2) (door : Nat) : (s.put Reg.PLC.CMD.ARG arg).plcCommand cmd arg door =
      if (s.coach arg).tested then ((s.plcAsked arg).setCoach arg { Coach.reset with ce := (s.coach arg).ce }).plcEnd 0
      else (s.plcAsked arg).plcEnd 5 := by
  have hcoach := (s.plcAsked_frame arg).coach_eq arg
  unfold State.plcCommand
  rw [if_neg (by omega), if_neg (State.put_idle hidle arg), ← State.plcAsked]
  obtain ⟨u, hu⟩ : ∃ u, s.plcAsked arg = u := exists_eq'
  rw [hu] at hcoach ⊢
  dsimp only
  split
  case h_4 =>
    rw [hcoach, if_neg (by omega)]
    rcases (s.coach arg).tested with - | -
    · rw [Bool.not_false, if_pos rfl, if_neg Bool.false_ne_true]
    · rw [Bool.not_true, if_neg Bool.false_ne_true, if_pos rfl]
  case h_5 _ _ _ hne => exact absurd hcmd hne
  all_goals exact absurd hcmd (by decide)

/-! ### The end of a command (R200) -/

/-- The result shown and the engine idle. -/
def State.plcIdle (s : State) (result : Nat) : State := (s.put Reg.PLC.STAT.RESULT result).put Reg.PLC.STAT.STATE 0

theorem State.plcEnd_done (s : State) : s.plcEnd 0 = (s.plcIdle 0).raise (page .plc 0) 0 := rfl

theorem State.plcEnd_failed (s : State) : s.plcEnd 5 = (s.plcIdle 5).raise (page .plc 0) 1 := rfl

theorem State.plcEnd_noRoom (s : State) : s.plcEnd 2 = ((s.plcIdle 2).raise (page .plc 0) 1).raise (page .plc 0) 3 := rfl

theorem State.plcIdle_frame (s : State) (result : Nat) :
    OnlyFields [Reg.PLC.STAT.RESULT, Reg.PLC.STAT.STATE] s (s.plcIdle result) :=
  ((OnlyFields.refl _ s).andPut (by decide)).andPut (by decide)

theorem State.plcIdle_shows (s : State) {result : Nat} (h : result < 8) :
    (s.plcIdle result).get Reg.PLC.STAT.RESULT = result ∧ (s.plcIdle result).get Reg.PLC.STAT.STATE = 0 := by
  refine ⟨?_, State.get_put_of_lt _ (by decide) (by decide)⟩
  rw [State.plcIdle, State.get_put_apart _ _ (by decide) (by decide)]
  exact State.get_put_of_lt _ (by decide) (by simpa using h)

/-- A command that ends without NO_ROOM: its result, and its source k of the page. -/
theorem State.plcRaised_shows (s : State) {result k : Nat} (h : result < 8) (hk : k < 2) :
    ((s.plcIdle result).raise (page .plc 0) k).get Reg.PLC.STAT.RESULT = result ∧
    ((s.plcIdle result).raise (page .plc 0) k).get Reg.PLC.STAT.STATE = 0 ∧
    ((s.plcIdle result).raise (page .plc 0) k).isRaised (page .plc 0) k ∧
    OnlyFields [Reg.PLC.STAT.RESULT, Reg.PLC.STAT.STATE, rawBit (page .plc 0) k] s ((s.plcIdle result).raise (page .plc 0) k) := by
  obtain ⟨hresult, hstate⟩ := s.plcIdle_shows h
  refine ⟨?_, ?_, State.isRaised_raise _ _ (by omega), ((s.plcIdle_frame result).mono (by simp)).andRaise (by simp)⟩
  · rw [State.get_raise_apart _ (by decide) (.inl (show page .plc 0 + 0x10 ≠ _ by decide)), hresult]
  · rw [State.get_raise_apart _ (by decide) (.inl (show page .plc 0 + 0x10 ≠ _ by decide)), hstate]

/-! ### A coach replaced -/

/-- Coach c replaced by v: the other coaches, and all but register bits of the fields listed, are as before. -/
def CoachSet (c : Nat) (v : Coach) (fs : List FieldRef) (s t : State) : Prop :=
  (∀ k, t.coach k = if k = c then v else s.coach k) ∧
    t = { s with regs := t.regs, fabric := { s.fabric with coach := t.fabric.coach } } ∧ FieldsKept fs s t

theorem State.setCoach_set (s : State) (c : Nat) (v : Coach) (fs : List FieldRef) : CoachSet c v fs s (s.setCoach c v) :=
  ⟨fun k => s.setCoach_coach c v k, rfl, .of_regs rfl⟩

theorem CoachSet.after {c : Nat} {v : Coach} {fs : List FieldRef} {s t u : State} (h : OnlyFields fs s t) (k : CoachSet c v fs t u) :
    CoachSet c v fs s u := by
  obtain ⟨hcoach, hframe, hkept⟩ := k
  exact ⟨fun j => by rw [hcoach, h.coach_eq], by rw [hframe, h.1], h.2.trans hkept⟩

theorem CoachSet.before {c : Nat} {v : Coach} {fs : List FieldRef} {s t u : State} (h : CoachSet c v fs s t) (k : OnlyFields fs t u) :
    CoachSet c v fs s u := by
  obtain ⟨hcoach, hframe, hkept⟩ := h
  exact ⟨fun j => by rw [k.coach_eq, hcoach], by rw [k.1, hframe], hkept.trans k.2⟩

theorem CoachSet.self {c : Nat} {v : Coach} {fs : List FieldRef} {s t : State} (h : CoachSet c v fs s t) : t.coach c = v := by
  rw [h.1, if_pos rfl]

theorem CoachSet.other {c : Nat} {v : Coach} {fs : List FieldRef} {s t : State} (h : CoachSet c v fs s t) (k : Nat) (hk : k ≠ c) :
    t.coach k = s.coach k := by
  rw [h.1, if_neg hk]

theorem CoachSet.run_eq {c : Nat} {v : Coach} {fs : List FieldRef} {s t : State} (h : CoachSet c v fs s t) : run s t = .next t :=
  Machine.run_eq (by rw [h.2.1]) (by rw [h.2.1])

/-! ### Compaction (R195) -/

theorem State.toMove_none {s : State} {leave : Nat → Bool} (h : ∀ e ∈ s.fabric.carr, leave e.1 = false) : s.toMove leave = [] := by
  rw [State.toMove, List.filter_eq_nil_iff.2 fun e he => by simp [h e he], List.map_nil]

/-- A compaction of a fabric that lies below the limit has nothing to move. -/
theorem State.compacts_eq {s : State} {arg : Nat} (h : s.compactAt (levelLimit arg) = true) :
    s.compacts arg = s.put Reg.PLC.STAT.STATE 2 := by
  have hnone : (s.toMove fun a => decide (levelLimit arg ≤ a % 128)) = [] := by
    refine State.toMove_none fun e he => ?_
    have hlow := of_decide_eq_true (List.all_eq_true.1 h e he)
    exact decide_eq_false (by omega)
  rw [State.compacts, hnone]
  rfl

theorem State.levelHeld_frame (s : State) (arg : Nat) :
    OnlyFields [Reg.PLC.STAT.HOLD_EN, Reg.PLC.STAT.HOLD_LVL] s (s.levelHeld arg) := by
  have hput : ∀ (u : State) (l e : Nat),
      OnlyFields [Reg.PLC.STAT.HOLD_EN, Reg.PLC.STAT.HOLD_LVL] u ((u.put Reg.PLC.STAT.HOLD_LVL l).put Reg.PLC.STAT.HOLD_EN e) :=
    fun u l e => ((OnlyFields.refl _ u).andPut (by decide)).andPut (by decide)
  unfold State.levelHeld
  dsimp only
  split
  · split
    · exact (hput _ _ _).trans (hput _ _ _)
    · exact hput _ _ _
  · split
    · exact hput _ _ _
    · exact OnlyFields.refl _ s

theorem State.levelHeld_holds {s : State} {arg : Nat} (harg : arg < 4) (hdown : levelLimit arg < s.kLimit) :
    (s.levelHeld arg).get Reg.PLC.STAT.HOLD_EN = 1 ∧ (s.levelHeld arg).get Reg.PLC.STAT.HOLD_LVL = arg := by
  have hne : arg ≠ 0 := by
    rintro rfl
    have : s.kLimit ≤ 128 := by
      unfold State.kLimit levelLimit
      split
      · omega
      · split <;> omega
    exact absurd hdown (by simp [levelLimit]; omega)
  unfold State.levelHeld
  dsimp only
  rw [if_neg hne, if_pos hdown]
  refine ⟨State.get_put_of_lt _ (by decide) (by decide), ?_⟩
  rw [State.get_put_apart _ _ (by decide) (by decide)]
  exact State.get_put_of_lt _ (by decide) (by simpa using harg)

theorem State.levelHeld_releases (s : State) : (s.levelHeld 0).get Reg.PLC.STAT.HOLD_EN = 0 := by
  unfold State.levelHeld
  dsimp only
  rw [if_pos rfl]
  exact State.get_put_of_lt _ (by decide) (by decide)

/-- A compaction that begins. -/
theorem State.compacts_shows {s : State} {arg : Nat} (harg : arg ≤ 2) (h : s.compactAt (levelLimit arg) = true) :
    (((s.plcAsked arg).levelHeld arg).compacts arg).get Reg.PLC.STAT.STATE = 2 ∧
    (((s.plcAsked arg).levelHeld arg).compacts arg).get Reg.PLC.STAT.ARG = arg ∧
    (levelLimit arg < s.kLimit → (((s.plcAsked arg).levelHeld arg).compacts arg).get Reg.PLC.STAT.HOLD_EN = 1 ∧
      (((s.plcAsked arg).levelHeld arg).compacts arg).get Reg.PLC.STAT.HOLD_LVL = arg) ∧
    (arg = 0 → (((s.plcAsked arg).levelHeld arg).compacts arg).get Reg.PLC.STAT.HOLD_EN = 0) ∧
    OnlyFields [Reg.PLC.CMD.ARG, Reg.PLC.STAT.STATE, Reg.PLC.STAT.ARG, Reg.PLC.STAT.HOLD_EN, Reg.PLC.STAT.HOLD_LVL] s
      (((s.plcAsked arg).levelHeld arg).compacts arg) := by
  have hask := s.plcAsked_frame arg
  have hshown := s.plcAsked_arg (arg := arg) (by omega)
  have hlimit : (s.plcAsked arg).kLimit = s.kLimit := congrArg levelLimit (hask.get (by decide) (by decide))
  obtain ⟨u, hu⟩ : ∃ u, s.plcAsked arg = u := exists_eq'
  rw [hu] at hask hshown hlimit ⊢
  have hhold := u.levelHeld_frame arg
  have hdown := State.levelHeld_holds (s := u) (arg := arg) (by omega)
  have hzero := u.levelHeld_releases
  have hlow : (u.levelHeld arg).compactAt (levelLimit arg) = true := by
    rw [State.compactAt, hhold.1, hask.1]
    exact h
  rw [State.compacts_eq hlow]
  refine ⟨State.get_put_of_lt _ (by decide) (by decide), ?_, fun hk => ?_, fun h0 => ?_,
    ((hask.mono (by decide)).trans (hhold.mono (by decide))).andPut (by decide)⟩
  · rw [State.get_put_apart _ _ (by decide) (by decide), hhold.get (by decide) (by decide), hshown]
  · obtain ⟨hen, hlevel⟩ := hdown (by rw [hlimit]; exact hk)
    rw [State.get_put_apart _ _ (by decide) (by decide), State.get_put_apart _ _ (by decide) (by decide)]
    exact ⟨hen, hlevel⟩
  · rw [h0, State.get_put_apart _ _ (by decide) (by decide)]
    exact hzero

/-! ### Evacuation (R196, R392) -/

theorem State.evacPlan_empty {s : State} {c : Nat} (h : ∀ e ∈ s.fabric.carr, coachOf e.1 ≠ c) : s.evacPlan c = s := by
  have hnone : (s.toMove fun a => coachOf a == c) = [] := State.toMove_none fun e he => beq_eq_false_iff_ne.2 (h e he)
  rw [State.evacPlan, hnone]
  rfl

/-- A coach that begins to be evacuated. -/
def State.evacBegun (s : State) (c cause : Nat) : State :=
  (((s.put Reg.PLC.STAT.ARG c).put Reg.PLC.STAT.STATE 3).setCoach c { s.coach c with state := 1, cause := cause, tested := false }).setActive
    kEvac true

theorem State.startEvac_eq (s : State) (c cause : Nat) : s.startEvac c cause = (s.evacBegun c cause).evacPlan c := by
  have hcoach : ((s.put Reg.PLC.STAT.ARG c).put Reg.PLC.STAT.STATE 3).coach c = s.coach c := by
    rw [State.put_coach, State.put_coach]
  unfold State.startEvac State.evacBegun
  dsimp only
  rw [hcoach]

theorem State.evacBegun_frame (s : State) (c cause : Nat) :
    CoachSet c { s.coach c with state := 1, cause := cause, tested := false }
      [Reg.PLC.STAT.STATE, Reg.PLC.STAT.ARG, Reg.FLT.LEDGER.ACTIVE] s (s.evacBegun c cause) := by
  have hput : OnlyFields [Reg.PLC.STAT.STATE, Reg.PLC.STAT.ARG, Reg.FLT.LEDGER.ACTIVE] s
      ((s.put Reg.PLC.STAT.ARG c).put Reg.PLC.STAT.STATE 3) :=
    ((OnlyFields.refl _ s).andPut (by decide)).andPut (by decide)
  exact (CoachSet.after hput (State.setCoach_set _ _ _ _)).before ((State.setActive_frame _ _ _).mono (by decide))

theorem State.evacBegun_shows (s : State) {c : Nat} (hc : c < 2048) (cause : Nat) :
    (s.evacBegun c cause).get Reg.PLC.STAT.STATE = 3 ∧ (s.evacBegun c cause).get Reg.PLC.STAT.ARG = c ∧
    (s.evacBegun c cause).active kEvac = true := by
  refine ⟨?_, ?_, State.active_setActive _ _ (by decide)⟩
  · rw [State.evacBegun, (State.setActive_frame _ _ _).get (by decide) (by decide), State.setCoach_get]
    exact State.get_put_of_lt _ (by decide) (by decide)
  · rw [State.evacBegun, (State.setActive_frame _ _ _).get (by decide) (by decide), State.setCoach_get,
      State.get_put_apart _ _ (by decide) (by decide)]
    exact State.get_put_of_lt _ (by decide) (by simpa using hc)

/-- An evacuation of an empty coach begins. -/
theorem State.takeEvac_begins {s : State} {c : Nat} (hnow : s.active kDvfs = false) (h : ∀ e ∈ s.fabric.carr, coachOf e.1 ≠ c)
    (cause door : Nat) : s.takeEvac c cause door = s.evacBegun c cause := by
  have hcarr : (s.evacBegun c cause).fabric.carr = s.fabric.carr := by rw [(s.evacBegun_frame c cause).2.1]
  rw [State.takeEvac, hnow, if_neg Bool.false_ne_true, State.startEvac_eq, State.evacPlan_empty (by rw [hcarr]; exact h)]

/-- An evacuation that waits for a step down. -/
def State.evacHeld (s : State) (c cause door : Nat) : State :=
  (((s.put Reg.PLC.STAT.ARG c).put Reg.PLC.STAT.STATE 5).put Reg.PLC.STAT.RESULT 3).enqueue kEvac (cause * 2048 + c) door

theorem State.takeEvac_waits {s : State} {c : Nat} (hdown : s.active kDvfs = true) (cause door : Nat) :
    s.takeEvac c cause door = s.evacHeld c cause door := by
  rw [State.takeEvac, hdown, if_pos rfl, State.evacHeld]

/-- The fields that a held evacuation writes. -/
def evacHeldFields : List FieldRef :=
  [Reg.PLC.STAT.STATE, Reg.PLC.STAT.RESULT, Reg.PLC.STAT.ARG, Reg.FLT.LEDGER.QUEUED, rawBit (page .flt 0) 4]

theorem State.evacHeld_shows (s : State) {c : Nat} (hc : c < 2048) (cause door : Nat) :
    (s.evacHeld c cause door).get Reg.PLC.STAT.STATE = 5 ∧ (s.evacHeld c cause door).get Reg.PLC.STAT.RESULT = 3 ∧
    (s.evacHeld c cause door).get Reg.PLC.STAT.ARG = c ∧ (s.evacHeld c cause door).isQueued kEvac = true ∧
    (s.evacHeld c cause door).isRaised (page .flt 0) 4 ∧
    s.evacHeld c cause door = { s with
      regs := (s.evacHeld c cause door).regs, flt := { s.flt with queue := s.flt.queue ++ [⟨kEvac, cause * 2048 + c, door⟩] } } ∧
    FieldsKept evacHeldFields s (s.evacHeld c cause door) := by
  have hput : OnlyFields evacHeldFields s (((s.put Reg.PLC.STAT.ARG c).put Reg.PLC.STAT.STATE 5).put Reg.PLC.STAT.RESULT 3) :=
    (((OnlyFields.refl _ s).andPut (by decide)).andPut (by decide)).andPut (by decide)
  have harg : (((s.put Reg.PLC.STAT.ARG c).put Reg.PLC.STAT.STATE 5).put Reg.PLC.STAT.RESULT 3).get Reg.PLC.STAT.ARG = c := by
    rw [State.get_put_apart _ _ (by decide) (by decide), State.get_put_apart _ _ (by decide) (by decide)]
    exact State.get_put_of_lt _ (by decide) (by simpa using hc)
  have hstate : (((s.put Reg.PLC.STAT.ARG c).put Reg.PLC.STAT.STATE 5).put Reg.PLC.STAT.RESULT 3).get Reg.PLC.STAT.STATE = 5 := by
    rw [State.get_put_apart _ _ (by decide) (by decide)]
    exact State.get_put_of_lt _ (by decide) (by decide)
  have hresult : (((s.put Reg.PLC.STAT.ARG c).put Reg.PLC.STAT.STATE 5).put Reg.PLC.STAT.RESULT 3).get Reg.PLC.STAT.RESULT = 3 :=
    State.get_put_of_lt _ (by decide) (by decide)
  unfold State.evacHeld
  obtain ⟨u, hu⟩ : ∃ u, ((s.put Reg.PLC.STAT.ARG c).put Reg.PLC.STAT.STATE 5).put Reg.PLC.STAT.RESULT 3 = u := exists_eq'
  rw [hu] at hput harg hstate hresult ⊢
  have henq := u.enqueue_frame kEvac (cause * 2048 + c) door
  have hqueue : u.flt.queue = s.flt.queue := by rw [hput.flt_eq]
  have hget : ∀ f ∈ [Reg.PLC.STAT.STATE, Reg.PLC.STAT.RESULT, Reg.PLC.STAT.ARG],
      (u.enqueue kEvac (cause * 2048 + c) door).get f = u.get f := by
    intro f hf
    have hapart : f.ok ∧ ∀ g ∈ [Reg.FLT.LEDGER.QUEUED, rawBit (page .flt 0) 4], g.apart f := by
      revert f
      decide
    rw [henq.get hapart.1 hapart.2, State.withQueue_get]
  obtain ⟨hshape, hkept⟩ := henq.of_withQueue
  refine ⟨(hget _ (by decide)).trans hstate, (hget _ (by decide)).trans hresult, (hget _ (by decide)).trans harg,
    State.enqueue_queued _ _ _ (by decide), State.isRaised_raise _ _ (by decide), ?_, hput.2.trans (hkept.mono (by decide))⟩
  rw [hshape, hqueue, hput.1]

/-! ### The commands -/

theorem exec_compact {d : DoorNo} {s : State} (l : Fin 3) (hacc : s.accepts d .plc 0 0x40) :
    exec (.compact d l) s = run s ((s.put Reg.PLC.CMD.ARG l).plcCommand 1 l d) :=
  congrArg (run s) (State.busWrite_plc hacc (by decide) (by omega) (by omega))

theorem exec_evac {d : DoorNo} {s : State} (c : CoachNo) (hacc : s.accepts d .plc 0 0x40) :
    exec (.evac d c) s = run s ((s.put Reg.PLC.CMD.ARG c).plcCommand 2 c d) :=
  congrArg (run s) (State.busWrite_plc hacc (by decide) c.isLt (by omega))

theorem exec_test {d : DoorNo} {s : State} (c : CoachNo) (hacc : s.accepts d .plc 0 0x40) :
    exec (.test d c) s = run s ((s.put Reg.PLC.CMD.ARG c).plcCommand 3 c d) :=
  congrArg (run s) (State.busWrite_plc hacc (by decide) c.isLt (by omega))

theorem exec_restore {d : DoorNo} {s : State} (c : CoachNo) (hacc : s.accepts d .plc 0 0x40) :
    exec (.restore d c) s = run s ((s.put Reg.PLC.CMD.ARG c).plcCommand 4 c d) :=
  congrArg (run s) (State.busWrite_plc hacc (by decide) c.isLt (by omega))

theorem exec_compactDone (s : State) : exec .compactDone s =
    run s (s.when (s.get Reg.PLC.STAT.STATE == 2 && s.compactAt (levelLimit (s.get Reg.PLC.STAT.ARG))) fun s => s.plcEnd 0) := rfl

/-- The evacuated coach out of service. -/
def State.evacuated (s : State) (c : Nat) : State :=
  ((s.setCoach c { s.coach c with state := 2, tested := false }).raise (page .scn 0) 0).setActive kEvac false

theorem exec_evacDone {s : State} {c : Nat} (hstate : s.get Reg.PLC.STAT.STATE = 3) (harg : s.get Reg.PLC.STAT.ARG = c)
    (hempty : ∀ e ∈ s.fabric.carr, coachOf e.1 ≠ c) : exec .evacDone s = run s ((s.evacuated c).plcEnd 0) := by
  have hall : (s.fabric.carr.all fun e => coachOf e.1 != c) = true :=
    List.all_eq_true.2 fun e he => bne_iff_ne.2 (hempty e he)
  have heq : exec .evacDone s = run s (s.when (s.get Reg.PLC.STAT.STATE == 3 &&
      s.fabric.carr.all fun e => coachOf e.1 != s.get Reg.PLC.STAT.ARG) fun t => (t.evacuated (s.get Reg.PLC.STAT.ARG)).plcEnd 0) := rfl
  rw [heq, harg, hall, hstate, beq_self_eq_true, Bool.true_and, State.when_true]

def evacuatedFields : List FieldRef :=
  [Reg.PLC.STAT.RESULT, Reg.PLC.STAT.STATE, Reg.FLT.LEDGER.ACTIVE, rawBit (page .plc 0) 0, rawBit (page .scn 0) 0]

theorem State.evacuated_shows (s : State) (c : Nat) :
    CoachSet c { s.coach c with state := 2, tested := false } evacuatedFields s (s.evacuated c) ∧
    (s.evacuated c).isRaised (page .scn 0) 0 ∧ (s.evacuated c).active kEvac = false := by
  have hset := s.setCoach_set c { s.coach c with state := 2, tested := false } evacuatedFields
  have hraise : OnlyFields evacuatedFields _ ((s.setCoach c { s.coach c with state := 2, tested := false }).raise (page .scn 0) 0) :=
    (OnlyFields.refl _ _).andRaise (by decide)
  refine ⟨(hset.before hraise).before ((State.setActive_frame _ _ _).mono (by decide)), ?_, State.active_setActive _ _ (by decide)⟩
  rw [State.evacuated, State.isRaised, (State.setActive_frame _ _ _).get (by decide) (by decide)]
  exact State.isRaised_raise _ _ (by decide)

/-- A coach after its test. -/
def Coach.judged (c : Coach) (passed : Bool) : Coach :=
  if passed then { c with state := 2, tested := true } else { c with state := 4, cause := 5, tested := false }

theorem exec_testDone {s : State} {c : Nat} (hstate : s.get Reg.PLC.STAT.STATE = 4) (harg : s.get Reg.PLC.STAT.ARG = c) (passed : Bool) :
    exec (.testDone passed) s = run s ((s.setCoach c ((s.coach c).judged passed)).plcEnd (if passed then 0 else 5)) := by
  have heq : exec (.testDone passed) s = run s (s.when (s.get Reg.PLC.STAT.STATE == 4) fun t =>
      if passed then (t.setCoach (s.get Reg.PLC.STAT.ARG) { t.coach (s.get Reg.PLC.STAT.ARG) with state := 2, tested := true }).plcEnd 0
      else (t.setCoach (s.get Reg.PLC.STAT.ARG)
        { t.coach (s.get Reg.PLC.STAT.ARG) with state := 4, cause := 5, tested := false }).plcEnd 5) := rfl
  rw [heq, harg, hstate, beq_self_eq_true, State.when_true, Coach.judged]
  cases passed with
  | true => rw [if_pos rfl, if_pos rfl, if_pos rfl]
  | false => rw [if_neg Bool.false_ne_true, if_neg Bool.false_ne_true, if_neg Bool.false_ne_true]

theorem exec_placementPromote (c : CoachNo) (s : State) : exec (.placementPromote c) s = run s (s.promoteWork c) := rfl

theorem State.promoteWork_again {s : State} {c : Nat} (h : (s.coach c).promoted = true) : s.promoteWork c = s := by
  unfold State.promoteWork
  split
  · rw [h, Bool.not_true, Bool.and_false, State.when_false]
  · rfl

/-- A coach whose placement work goes first. -/
def State.workPromoted (s : State) (c : Nat) : State :=
  ((s.setCoach c { s.coach c with promoted := true }).bump Reg.PLC.PROMOTE_CNT.COUNT).raise (page .plc 0) 5

theorem State.promoteWork_starved {s : State} {c w : Nat} (hw : (s.coach c).waitFrom = some w) (hlong : w + 4096 ≤ s.tick)
    (h : (s.coach c).promoted = false) : s.promoteWork c = s.workPromoted c := by
  unfold State.promoteWork
  rw [hw]
  dsimp only
  rw [h, decide_eq_true hlong, Bool.not_false, Bool.and_self, State.when_true]
  rfl

theorem State.workPromoted_shows (s : State) (c : Nat) :
    CoachSet c { s.coach c with promoted := true } [Reg.PLC.PROMOTE_CNT.COUNT, rawBit (page .plc 0) 5] s (s.workPromoted c) ∧
    (s.workPromoted c).get Reg.PLC.PROMOTE_CNT.COUNT = min (2 ^ 32 - 1) (s.get Reg.PLC.PROMOTE_CNT.COUNT + 1) ∧
    (s.workPromoted c).isRaised (page .plc 0) 5 := by
  have hset := s.setCoach_set c { s.coach c with promoted := true } [Reg.PLC.PROMOTE_CNT.COUNT, rawBit (page .plc 0) 5]
  have hcount := State.get_bump_self (s.setCoach c { s.coach c with promoted := true }) (f := Reg.PLC.PROMOTE_CNT.COUNT) (by decide)
  refine ⟨hset.before (((OnlyFields.refl _ _).andBump (by decide)).andRaise (by decide)), ?_, State.isRaised_raise _ _ (by decide)⟩
  rw [State.workPromoted, State.get_raise_apart _ (by decide) (by decide), hcount, State.setCoach_get]
  rfl

/-- Settles O40. Each command of an idle engine is its row; a work's end is its result. -/
theorem placementCommands : Obligations.PlacementCommands := by
  unfold Obligations.PlacementCommands
  refine ⟨fun d l s hacc hidle => ⟨fun hlow hfits => ?compacts, fun hdown hfits => ?noRoom⟩,
    fun d c s hacc hidle hcoach => ⟨fun hnow hempty => ?evac, fun hdown => ?held⟩,
    fun d c s hacc hidle => ⟨fun hcoach => ?test, fun hmaint htested => ?restored, fun hmaint htested => ?untested⟩,
    fun s hstate hlow => ?compacted, fun c s hstate harg hempty => ?evacuated, fun passed c s hstate harg => ?tested,
    fun c s hdone => ?again, fun c w s hw hlong hfirst => ?promoted⟩
  case compacts =>
    have hnot : ¬(levelLimit l < s.kLimit ∧ s.fitsAll (levelLimit l) = false) := fun ⟨hdown, hno⟩ =>
      Bool.false_ne_true (hno.symm.trans (hfits hdown))
    obtain ⟨hstate, harg, hheld, hzero, hframe⟩ := State.compacts_shows (arg := l) (by omega) hlow
    rw [exec_compact l hacc, State.plcCommand_compact hidle rfl (by omega), if_neg hnot]
    exact ⟨_, hframe.run_eq, hstate, harg, hheld, fun h0 => hzero (by rw [h0]; rfl), hframe⟩
  case noRoom =>
    obtain ⟨hresult, hstate, hraised, hframe⟩ := (s.plcAsked l).plcRaised_shows (result := 2) (k := 1) (by decide) (by decide)
    rw [exec_compact l hacc, State.plcCommand_compact hidle rfl (by omega), if_pos ⟨hdown, hfits⟩, State.plcEnd_noRoom]
    have hall : OnlyFields [Reg.PLC.CMD.ARG, Reg.PLC.STAT.RESULT, Reg.PLC.STAT.STATE, Reg.PLC.STAT.ARG, rawBit (page .plc 0) 1,
        rawBit (page .plc 0) 3] s ((((s.plcAsked l).plcIdle 2).raise (page .plc 0) 1).raise (page .plc 0) 3) :=
      (((s.plcAsked_frame l).mono (by decide)).trans (hframe.mono (by decide))).andRaise (by decide)
    refine ⟨_, hall.run_eq, ?_, ?_, State.isRaised_raise_of hraised (by decide) _ _, State.isRaised_raise _ _ (by decide), hall⟩
    · rw [State.get_raise_apart _ (by decide) (by decide), hresult]
    · rw [State.get_raise_apart _ (by decide) (by decide), hstate]
  case evac =>
    have hask := s.plcAsked_frame c
    have hnot : (s.plcAsked c).active kDvfs = false := by
      rw [State.active, hask.get (by decide) (by decide)]
      exact hnow
    have hcarr : (s.plcAsked c).fabric.carr = s.fabric.carr := by rw [hask.1]
    have hcoachEq := hask.coach_eq c
    obtain ⟨hstate, harg, hactive⟩ := (s.plcAsked c).evacBegun_shows c.isLt 7
    have hbegun := (s.plcAsked c).evacBegun_frame c 7
    rw [hcoachEq] at hbegun
    rw [exec_evac c hacc, State.plcCommand_evac hidle rfl c.isLt hcoach, State.takeEvac_begins hnot (by rw [hcarr]; exact hempty)]
    have hset : CoachSet c { s.coach c with state := 1, cause := 7, tested := false }
        [Reg.PLC.CMD.ARG, Reg.PLC.STAT.STATE, Reg.PLC.STAT.ARG, Reg.FLT.LEDGER.ACTIVE] s ((s.plcAsked c).evacBegun c 7) :=
      CoachSet.after (hask.mono (by decide)) ⟨hbegun.1, hbegun.2.1, hbegun.2.2.mono (by decide)⟩
    exact ⟨_, hset.run_eq, hstate, harg, hactive, hset.self, hset.other, hset.2.1, hset.2.2⟩
  case held =>
    have hask := s.plcAsked_frame c
    have hwait : (s.plcAsked c).active kDvfs = true := by
      rw [State.active, hask.get (by decide) (by decide)]
      exact hdown
    obtain ⟨hstate, hresult, harg, hqueued, hraised, hshape, hkept⟩ := (s.plcAsked c).evacHeld_shows c.isLt 7 d
    have hflt : (s.plcAsked c).flt = s.flt := hask.flt_eq
    rw [exec_evac c hacc, State.plcCommand_evac hidle rfl c.isLt hcoach, State.takeEvac_waits hwait]
    obtain ⟨t, ht⟩ : ∃ t, (s.plcAsked c).evacHeld c 7 d = t := exists_eq'
    rw [ht] at hstate hresult harg hqueued hraised hshape hkept ⊢
    refine ⟨t, run_eq (by rw [hshape, hask.1]) (by rw [hshape, hask.1]), hstate, hresult, harg, hqueued, hraised, ?_,
      (hask.2.mono (by decide)).trans (hkept.mono (by decide))⟩
    rw [hshape, hflt, hask.1]
  case test =>
    have hask := (s.plcAsked_frame c).mono (gs := [Reg.PLC.CMD.ARG, Reg.PLC.STAT.STATE, Reg.PLC.STAT.ARG]) (by decide)
    have hset := CoachSet.after hask ((s.plcAsked c).setCoach_set c { s.coach c with state := 3 } _)
    rw [exec_test c hacc, State.plcCommand_test hidle rfl c.isLt hcoach]
    have harg : ((s.plcAsked c).setCoach c { s.coach c with state := 3 }).get Reg.PLC.STAT.ARG = c := by
      rw [State.setCoach_get, s.plcAsked_arg c.isLt]
    obtain ⟨u, hu⟩ : ∃ u, (s.plcAsked c).setCoach c { s.coach c with state := 3 } = u := exists_eq'
    rw [hu] at hset harg ⊢
    have hall := hset.before (OnlyFields.put u 4 (f := Reg.PLC.STAT.STATE) (by decide) (by decide))
    refine ⟨_, hall.run_eq, State.get_put_of_lt _ (by decide) (by decide), ?_, hall.self, hall.other, hall.2.1, hall.2.2⟩
    rw [State.get_put_apart _ _ (by decide) (by decide), harg]
  case restored =>
    have hask := (s.plcAsked_frame c).mono (gs := [Reg.PLC.CMD.ARG, Reg.PLC.STAT.STATE, Reg.PLC.STAT.RESULT, Reg.PLC.STAT.ARG,
      rawBit (page .plc 0) 0]) (by decide)
    have hset := CoachSet.after hask ((s.plcAsked c).setCoach_set c { Coach.reset with ce := (s.coach c).ce } _)
    rw [exec_restore c hacc, State.plcCommand_restore hidle rfl c.isLt hmaint, htested, if_pos rfl, State.plcEnd_done]
    obtain ⟨u, hu⟩ : ∃ u, (s.plcAsked c).setCoach c { Coach.reset with ce := (s.coach c).ce } = u := exists_eq'
    rw [hu] at hset ⊢
    obtain ⟨hresult, hstate, hraised, hframe⟩ := u.plcRaised_shows (result := 0) (k := 0) (by decide) (by decide)
    have hall := hset.before (hframe.mono (by decide))
    exact ⟨_, hall.run_eq, hresult, hstate, hraised, hall.self, hall.other, hall.2.1, hall.2.2⟩
  case untested =>
    obtain ⟨hresult, hstate, hraised, hframe⟩ := (s.plcAsked c).plcRaised_shows (result := 5) (k := 1) (by decide) (by decide)
    rw [exec_restore c hacc, State.plcCommand_restore hidle rfl c.isLt hmaint, htested, if_neg Bool.false_ne_true, State.plcEnd_failed]
    have hall := ((s.plcAsked_frame c).mono (gs := [Reg.PLC.CMD.ARG, Reg.PLC.STAT.STATE, Reg.PLC.STAT.RESULT, Reg.PLC.STAT.ARG,
      rawBit (page .plc 0) 1]) (by decide)).trans (hframe.mono (by decide))
    exact ⟨_, hall.run_eq, hresult, hraised, hall⟩
  case compacted =>
    obtain ⟨hresult, hdone, hraised, hframe⟩ := s.plcRaised_shows (result := 0) (k := 0) (by decide) (by decide)
    rw [exec_compactDone, hstate, hlow, beq_self_eq_true, Bool.true_and, State.when_true, State.plcEnd_done]
    exact ⟨_, hframe.run_eq, hresult, hdone, hraised, hframe⟩
  case evacuated =>
    obtain ⟨hset, hout, hactive⟩ := s.evacuated_shows c
    rw [exec_evacDone hstate harg hempty, State.plcEnd_done]
    obtain ⟨u, hu⟩ : ∃ u, s.evacuated c = u := exists_eq'
    rw [hu] at hset hout hactive ⊢
    obtain ⟨hresult, hdone, hraised, hframe⟩ := u.plcRaised_shows (result := 0) (k := 0) (by decide) (by decide)
    have hall := hset.before (hframe.mono (by decide))
    refine ⟨_, hall.run_eq, hall.self, hall.other, hresult, hdone, hraised, ?_, ?_, hall.2.1, hall.2.2⟩
    · rw [State.isRaised, hframe.get (by decide) (by decide)]
      exact hout
    · rw [State.active, hframe.get (by decide) (by decide)]
      exact hactive
  case tested =>
    have hset := s.setCoach_set c ((s.coach c).judged passed) [Reg.PLC.STAT.RESULT, Reg.PLC.STAT.STATE, rawBit (page .plc 0) 0,
      rawBit (page .plc 0) 1]
    rw [exec_testDone hstate harg passed]
    obtain ⟨u, hu⟩ : ∃ u, s.setCoach c ((s.coach c).judged passed) = u := exists_eq'
    rw [hu] at hset ⊢
    cases passed with
    | true =>
      obtain ⟨hresult, hdone, hraised, hframe⟩ := u.plcRaised_shows (result := 0) (k := 0) (by decide) (by decide)
      have hall := hset.before (hframe.mono (by decide))
      exact ⟨_, hall.run_eq, hall.self, hall.other, hresult, hdone, hraised, hall.2.1, hall.2.2⟩
    | false =>
      obtain ⟨hresult, hdone, hraised, hframe⟩ := u.plcRaised_shows (result := 5) (k := 1) (by decide) (by decide)
      have hall := hset.before (hframe.mono (by decide))
      exact ⟨_, hall.run_eq, hall.self, hall.other, hresult, hdone, hraised, hall.2.1, hall.2.2⟩
  case again => rw [exec_placementPromote, State.promoteWork_again hdone, run_eq rfl rfl]
  case promoted =>
    obtain ⟨hset, hcount, hraised⟩ := s.workPromoted_shows c
    rw [exec_placementPromote, State.promoteWork_starved hw hlong hfirst]
    exact ⟨_, hset.run_eq, hset.self, hset.other, hcount, hraised, hset.2.1, hset.2.2⟩

end Sys2Proof.Machine
end

section
/-! PROOFS. The map switch and the re-creation of lost twins (chapter 6: R193, R194). -/

namespace Sys2Proof.Machine

/-! ### The map switch (R193) -/

/-- Nothing but register bits of the fields listed and the map of carriages changes. -/
def MapFrame (fs : List FieldRef) (s t : State) : Prop :=
  t = { s with regs := t.regs, fabric := { s.fabric with
    carr := t.fabric.carr, moves := t.fabric.moves, recreate := t.fabric.recreate, left := t.fabric.left } } ∧ FieldsKept fs s t

theorem MapFrame.before {fs : List FieldRef} {s t u : State} (h : MapFrame fs s t) (k : OnlyFields fs t u) : MapFrame fs s u := by
  obtain ⟨hs, hkept⟩ := h
  exact ⟨by rw [k.1, hs], hkept.trans k.2⟩

theorem State.eccFindings_nil (s : State) : s.eccFindings [] = (s, []) := rfl

theorem settled_nil (s : State) : settled (s, []) = s := rfl

theorem run_early (s u : State) : run s { u with tick := s.tick } = .next (u.timedAs s) := rfl

theorem exec_mapSwitch {s : State} (hrun : s.clk.running = true) (hmoves : s.fabric.moves ≠ []) :
    exec (.mapSwitch []) s = .next ((s.nextTick.mapSwitch (s.tick + 1)).timedAs s) := by
  have heq : exec (.mapSwitch []) s =
      run s (s.when (!s.fabric.moves.isEmpty) fun s => s.early fun s => (settled (s.eccFindings [])).mapSwitch s.tick) := rfl
  have hnone : s.fabric.moves.isEmpty = false := List.isEmpty_eq_false_iff.2 hmoves
  rw [heq, hnone, Bool.not_false, State.when_true, State.early_running hrun, State.eccFindings_nil, settled_nil]
  exact run_early s _

theorem State.mapSwitch_nothing {s : State} (h : ∀ m ∈ s.fabric.moves, m.reads ≠ 0 ∨ m.writes ≠ 0) (tick : Nat) :
    s.mapSwitch tick = s := by
  have hready : s.fabric.moves.filter (fun m => m.copied) = [] := by
    refine List.filter_eq_nil_iff.2 fun m hm => ?_
    have := h m hm
    simp only [Move.copied, Bool.and_eq_true, beq_iff_eq]
    omega
  unfold State.mapSwitch
  rw [hready]
  rfl

/-- The copies under way, the switching one apart. -/
def State.withMoves (s : State) (l : List Move) : State := { s with fabric := { s.fabric with moves := l } }

/-- The switch counted and dated. -/
def State.switchNoted (s : State) (tick : Nat) : State :=
  (s.bump Reg.PLC.MAP_SWITCH_CNT.COUNT).put64 Reg.PLC.LAST_SWITCH_LO.TICK Reg.PLC.LAST_SWITCH_HI.TICK tick

theorem State.mapSwitch_one {s : State} {a b : Nat} {twin : Bool} (h : s.fabric.moves = [⟨a, b, twin, 0, 0⟩]) (tick : Nat) :
    s.mapSwitch tick = ((s.withMoves []).switchMove tick ⟨a, b, twin, 0, 0⟩).switchNoted tick := by
  have hready : [(⟨a, b, twin, 0, 0⟩ : Move)].filter (fun m => m.copied) = [⟨a, b, twin, 0, 0⟩] := rfl
  have hbatch : ([(⟨a, b, twin, 0, 0⟩ : Move)].filter (fun m => m.twin) ++
      [(⟨a, b, twin, 0, 0⟩ : Move)].filter (fun m => !m.twin)).take 1024 = [⟨a, b, twin, 0, 0⟩] := by
    cases twin <;> rfl
  have hrest : [(⟨a, b, twin, 0, 0⟩ : Move)].filter (fun m => !([(⟨a, b, twin, 0, 0⟩ : Move)].contains m)) = [] := by simp
  unfold State.mapSwitch
  dsimp only
  rw [h, hready, hbatch, hrest]
  rfl

def switchNoteFields : List FieldRef :=
  [Reg.PLC.MAP_SWITCH_CNT.COUNT, Reg.PLC.LAST_SWITCH_LO.TICK, Reg.PLC.LAST_SWITCH_HI.TICK]

theorem State.switchNoted_shows (s : State) (tick : Nat) : OnlyFields switchNoteFields s (s.switchNoted tick) ∧
    (s.switchNoted tick).get Reg.PLC.MAP_SWITCH_CNT.COUNT = min (2 ^ 32 - 1) (s.get Reg.PLC.MAP_SWITCH_CNT.COUNT + 1) ∧
    (s.switchNoted tick).get64 Reg.PLC.LAST_SWITCH_LO.TICK Reg.PLC.LAST_SWITCH_HI.TICK = tick % 2 ^ 64 := by
  refine ⟨(((OnlyFields.refl _ s).andBump (by decide)).andPut (by decide)).andPut (by decide), ?_,
    State.get64_put64 _ _ (by decide) (by decide) (by decide)⟩
  rw [State.switchNoted, State.put64, State.get_put_apart _ _ (by decide) (by decide), State.get_put_apart _ _ (by decide) (by decide),
    State.get_bump_self _ (by decide)]
  rfl

/-- The slots left single that still wait for a twin. -/
def State.withRecreate (s : State) (l : List Nat) : State := { s with fabric := { s.fabric with recreate := l } }

theorem State.unwait_last {s : State} {h : Nat} (hlast : s.fabric.recreate = [h]) :
    s.unwait h = ((s.withRecreate []).put Reg.SCN.STAT.DEGRADED 0).raise (page .plc 0) 2 := by
  have hmem : [h].contains h = true := by simp
  have hrest : [h].filter (fun x => x != h) = [] := by simp
  unfold State.unwait
  rw [hlast, hmem, Bool.not_true, if_neg Bool.false_ne_true]
  dsimp only
  rw [hrest]
  rfl

/-- The map after a carriage has moved. -/
def State.carriageMoved (s : State) (tick a b : Nat) (c : Carriage) : State :=
  { (s.setCarriage b { c with reserved := false }).setCarriage a Carriage.empty with fabric :=
    { ((s.setCarriage b { c with reserved := false }).setCarriage a Carriage.empty).fabric with left := s.fabric.left.insert a (tick, c) } }

/-- The map after a twin has joined. -/
def State.twinJoined (s : State) (a b : Nat) (c : Carriage) : State :=
  (s.setCarriage a { c with role := 1 }).setCarriage b { c with role := 2, reserved := false }

theorem State.switchMove_single {s : State} {a b : Nat} {c : Carriage} (hc : s.carriage a = c) (tick : Nat) :
    (s.withMoves []).switchMove tick ⟨a, b, false, 0, 0⟩ = (s.withMoves []).carriageMoved tick a b c := by
  subst hc
  rfl

theorem State.switchMove_twin {s : State} {a b : Nat} {c : Carriage} (hc : s.carriage a = c) (tick : Nat) :
    (s.withMoves []).switchMove tick ⟨a, b, true, 0, 0⟩ = ((s.withMoves []).twinJoined a b c).unwait c.handle := by
  subst hc
  rfl

theorem State.withMoves_carriage (s : State) (l : List Move) (k : Nat) : (s.withMoves l).carriage k = s.carriage k := rfl

theorem State.carriageMoved_carriage (s : State) (tick a b : Nat) (c : Carriage) (k : Nat) : (s.carriageMoved tick a b c).carriage k =
    if k = a then Carriage.empty else if k = b then { c with reserved := false } else s.carriage k := by
  have hleft : (s.carriageMoved tick a b c).carriage k =
      ((s.setCarriage b { c with reserved := false }).setCarriage a Carriage.empty).carriage k := rfl
  rw [hleft, State.setCarriage_carriage, State.setCarriage_carriage]

theorem State.twinJoined_carriage (s : State) (a b : Nat) (c : Carriage) (k : Nat) : (s.twinJoined a b c).carriage k =
    if k = b then { c with role := 2, reserved := false } else if k = a then { c with role := 1 } else s.carriage k := by
  rw [State.twinJoined, State.setCarriage_carriage, State.setCarriage_carriage]

/-- The last twin that waited has joined. -/
def State.recreated (s : State) : State := ((s.withRecreate []).put Reg.SCN.STAT.DEGRADED 0).raise (page .plc 0) 2

theorem State.recreated_shows (s : State) : s.recreated.isRaised (page .plc 0) 2 ∧ s.recreated.get Reg.SCN.STAT.DEGRADED = 0 ∧
    (∀ k, s.recreated.carriage k = s.carriage k) ∧
    s.recreated = { s with regs := s.recreated.regs, fabric := { s.fabric with recreate := [] } } ∧
    FieldsKept [Reg.SCN.STAT.DEGRADED, rawBit (page .plc 0) 2] s s.recreated := by
  have hframe : OnlyFields [Reg.SCN.STAT.DEGRADED, rawBit (page .plc 0) 2] (s.withRecreate []) s.recreated :=
    ((OnlyFields.refl _ _).andPut (by decide)).andRaise (by decide)
  refine ⟨State.isRaised_raise _ _ (by decide), ?_, fun k => ?_, ?_, hframe.2⟩
  · rw [State.recreated, State.get_raise_apart _ (by decide) (by decide)]
    exact State.get_put_of_lt _ (by decide) (by decide)
  · rw [State.carriage, hframe.1]
    rfl
  · rw [hframe.1]
    rfl

/-- What a map switch leaves of a copy from a to b. -/
structure Switched (a b : Nat) (twin : Bool) (c : Carriage) (tick : Nat) (s t : State) : Prop where
  dest : t.carriage b = { c with role := if twin then 2 else c.role, reserved := false }
  source : t.carriage a = if twin then { c with role := 1 } else Carriage.empty
  other : ∀ k, k ≠ a → k ≠ b → t.carriage k = s.carriage k
  moves : t.fabric.moves = []
  recreate : t.fabric.recreate = []
  left : t.fabric.left = if twin then s.fabric.left else s.fabric.left.insert a (tick, c)
  joined : twin = true → t.isRaised (page .plc 0) 2 ∧ t.get Reg.SCN.STAT.DEGRADED = 0
  alone : twin = false → t.get Reg.SCN.STAT.DEGRADED = s.get Reg.SCN.STAT.DEGRADED
  frame : MapFrame [Reg.SCN.STAT.DEGRADED, rawBit (page .plc 0) 2] s t

theorem State.switchMove_switched {s : State} {a b : Nat} {twin : Bool} {c : Carriage} (hne : a ≠ b) (hc : s.carriage a = c)
    (hwait : s.fabric.recreate = if twin then [c.handle] else []) (tick : Nat) :
    Switched a b twin c tick s ((s.withMoves []).switchMove tick ⟨a, b, twin, 0, 0⟩) := by
  cases twin with
  | false =>
    rw [State.switchMove_single hc]
    have hread := (s.withMoves []).carriageMoved_carriage tick a b c
    refine ⟨?_, ?_, fun k ha hb => ?_, rfl, hwait, rfl, nofun, fun _ => rfl, rfl, .of_regs rfl⟩
    · rw [hread, if_neg hne.symm, if_pos rfl]
      rfl
    · rw [hread, if_pos rfl]
      rfl
    · rw [hread, if_neg ha, if_neg hb, State.withMoves_carriage]
  | true =>
    have hlast : ((s.withMoves []).twinJoined a b c).fabric.recreate = [c.handle] := hwait
    have hread := (s.withMoves []).twinJoined_carriage a b c
    have hmoves : ((s.withMoves []).twinJoined a b c).fabric.moves = [] := rfl
    have hleft : ((s.withMoves []).twinJoined a b c).fabric.left = s.fabric.left := rfl
    have hjoin : MapFrame [Reg.SCN.STAT.DEGRADED, rawBit (page .plc 0) 2] s ((s.withMoves []).twinJoined a b c) := ⟨rfl, .of_regs rfl⟩
    rw [State.switchMove_twin hc, State.unwait_last hlast, ← State.recreated]
    obtain ⟨u, hu⟩ : ∃ u, (s.withMoves []).twinJoined a b c = u := exists_eq'
    rw [hu] at hread hmoves hleft hjoin ⊢
    obtain ⟨hraised, hdegraded, hsame, hframe, hkept⟩ := u.recreated_shows
    obtain ⟨hjoined, hjoinKept⟩ := hjoin
    refine ⟨?_, ?_, fun k ha hb => ?_, ?_, ?_, ?_, fun _ => ⟨hraised, hdegraded⟩, nofun, ?_, hjoinKept.trans hkept⟩
    · rw [hsame, hread, if_pos rfl]
      rfl
    · rw [hsame, hread, if_neg hne, if_pos rfl]
      rfl
    · rw [hsame, hread, if_neg hb, if_neg ha, State.withMoves_carriage]
    · rw [hframe, hmoves]
    · rw [hframe]
    · rw [hframe, hleft]
      rfl
    · rw [hframe, hjoined]

/-- The map after a switch, counted and dated. -/
theorem State.mapSwitch_switched {s : State} {a b : Nat} {twin : Bool} {c : Carriage}
    (h : s.fabric.moves = [⟨a, b, twin, 0, 0⟩]) (hne : a ≠ b) (hc : s.carriage a = c)
    (hwait : s.fabric.recreate = if twin then [c.handle] else []) (tick : Nat) :
    ∃ u, Switched a b twin c tick s u ∧ s.mapSwitch tick = u.switchNoted tick :=
  ⟨_, State.switchMove_switched hne hc hwait tick, State.mapSwitch_one h tick⟩

theorem State.carriage_of_fabric {s t : State} (h : t.fabric = s.fabric) (k : Nat) : t.carriage k = s.carriage k := by
  rw [State.carriage, State.carriage, h]

/-! ### Where the engine places a carriage (R190, R191) -/

/-- What a placement reads of the registers: the level, the held level and the slack of R191. -/
def placeFields : List FieldRef :=
  [Reg.PWR.DVFS_STAT.LEVEL, Reg.PLC.STAT.HOLD_EN, Reg.PLC.STAT.HOLD_LVL, Reg.PLC.SPREAD.SLACK]

/-- A carriage address for one more carriage of a wheel, and its domain. -/
def State.placeFor (s : State) (w : Nat) (bar : List Nat) : Option (Nat × Nat) :=
  (s.pickDomain true s.kPrime w bar).bind fun d =>
    (s.freeEntry s.kPrime ((List.range 128).map fun i => d * 128 + i)).map fun a => (d, a)

/-- A carriage placed at an address of domain d; SPREAD_WARN beyond the wheel's share (R191). -/
def State.placedAt (s : State) (d a : Nat) (c : Carriage) : State :=
  (s.setCarriage a c).raiseIf
    (decide ((s.setCarriage a c).spreadAim ((s.setCarriage a c).wheelTotal c.wheel) < (s.setCarriage a c).wheelCount c.wheel d))
    (page .plc 0) 4

theorem State.placeOne_eq (s : State) (role h w : Nat) (reserved : Bool) (bar : List Nat) :
    s.placeOne role h w reserved bar = (s.placeFor w bar).map fun x => (s.placedAt x.1 x.2 ⟨role, h, w, reserved⟩, x.2) := by
  unfold State.placeOne State.placeWith State.placeFor
  dsimp only
  rcases s.pickDomain true s.kPrime w bar with - | d
  · rfl
  · dsimp only [Option.bind_some]
    rcases s.freeEntry s.kPrime ((List.range 128).map fun i => d * 128 + i) with - | a
    · rfl
    · rfl

theorem State.kPrime_congr {s t : State} (hclk : t.clk = s.clk) (hget : ∀ f ∈ placeFields, t.get f = s.get f) : t.kPrime = s.kPrime := by
  have hlimit : t.kLimit = s.kLimit := congrArg levelLimit (hget _ (by decide))
  have hheld : t.heldLimit = s.heldLimit := by
    rw [State.heldLimit, State.bit, hget _ (by decide), hget _ (by decide)]
    rfl
  rw [State.kPrime, hlimit, hheld, hclk]
  rfl

theorem State.domainFree_congr {s t : State} (hfabric : t.fabric = s.fabric) (hpower : t.power = s.power) :
    t.domainFree = s.domainFree := by
  cases s
  cases t
  dsimp only at hfabric hpower
  subst hfabric hpower
  rfl

theorem State.freeEntry_congr {s t : State} (hfabric : t.fabric = s.fabric) (hpower : t.power = s.power) :
    t.freeEntry = s.freeEntry := by
  cases s
  cases t
  dsimp only at hfabric hpower
  subst hfabric hpower
  rfl

theorem State.pickDomain_congr {s t : State} (hfabric : t.fabric = s.fabric) (hpower : t.power = s.power)
    (hslack : t.get Reg.PLC.SPREAD.SLACK = s.get Reg.PLC.SPREAD.SLACK) (aim : Bool) (k w : Nat) (bar : List Nat) :
    t.pickDomain aim k w bar = s.pickDomain aim k w bar := by
  have hfree := State.domainFree_congr hfabric hpower
  have hcount : t.wheelCount = s.wheelCount := by
    funext w d
    rw [State.wheelCount, State.wheelCount, hfabric]
  have htotal : t.wheelTotal = s.wheelTotal := by
    funext w
    rw [State.wheelTotal, State.wheelTotal, hfabric]
  have haim : t.spreadAim = s.spreadAim := by
    funext n
    rw [State.spreadAim, State.spreadAim, hslack]
  unfold State.pickDomain State.roomiest
  rw [hfree, hcount, htotal, haim]

/-- A write apart from what a placement reads leaves its place. -/
theorem OnlyFields.placeFor_eq {fs : List FieldRef} {s t : State} (h : OnlyFields fs s t)
    (ha : ∀ f ∈ placeFields, f.ok ∧ ∀ g ∈ fs, g.apart f) (w : Nat) (bar : List Nat) : t.placeFor w bar = s.placeFor w bar := by
  have hget : ∀ f ∈ placeFields, t.get f = s.get f := fun f hf => h.get (ha f hf).1 (ha f hf).2
  have hfabric : t.fabric = s.fabric := by rw [h.1]
  have hk := State.kPrime_congr (by rw [h.1]) hget
  rw [State.placeFor, State.placeFor, hk, State.pickDomain_congr hfabric h.power_eq (hget _ (by decide)),
    State.freeEntry_congr hfabric h.power_eq]

/-- The better of two domains: one step of `roomiest`. -/
def State.betterDomain (s : State) (k w : Nat) (best : Option Nat) (d : Nat) : Option Nat :=
  match best with
  | none => some d
  | some b =>
    if s.domainFree k b < s.domainFree k d then some d
    else if s.domainFree k b = s.domainFree k d ∧ s.wheelCount w d < s.wheelCount w b then some d
    else some b

theorem State.betterDomain_either (s : State) (k w : Nat) (best : Option Nat) (d : Nat) :
    s.betterDomain k w best d = some d ∨ s.betterDomain k w best d = best := by
  unfold State.betterDomain
  split
  · exact .inl rfl
  · split
    · exact .inl rfl
    · split
      · exact .inl rfl
      · exact .inr rfl

theorem State.betterDomains_mem (s : State) (k w : Nat) (l : List Nat) {best : Option Nat} {d : Nat}
    (h : l.foldl (s.betterDomain k w) best = some d) : d ∈ l ∨ best = some d := by
  induction l generalizing best with
  | nil => exact .inr h
  | cons y l ih =>
    rcases ih h with hl | hstep
    · exact .inl (List.mem_cons_of_mem _ hl)
    · rcases s.betterDomain_either k w best y with hy | hbest
      · exact .inl (Option.some.inj (hy.symm.trans hstep) ▸ List.mem_cons_self)
      · exact .inr (hbest.symm.trans hstep)

theorem State.roomiest_mem (s : State) (k w : Nat) {ds : List Nat} {d : Nat} (h : s.roomiest k w ds = some d) : d ∈ ds :=
  (s.betterDomains_mem k w ds (best := none) h).resolve_right nofun

/-- The domain picked is one of the sixteen that is not barred. -/
theorem State.pickDomain_free {s : State} {aim : Bool} {k w d : Nat} {bar : List Nat} (h : s.pickDomain aim k w bar = some d) :
    d ∉ bar := by
  unfold State.pickDomain at h
  have hmem := s.roomiest_mem k w h
  have hds : d ∈ (List.range 16).filter (fun d => !bar.contains d && s.domainFree k d != 0) := by
    split at hmem
    · exact List.mem_of_mem_filter hmem
    · exact hmem
  have hkeep := (List.mem_filter.1 hds).2
  rw [Bool.and_eq_true, Bool.not_eq_true', List.contains_eq_mem, decide_eq_false_iff_not] at hkeep
  exact hkeep.1

/-- A free entry lies in a coach of the list, below the limit, and holds nothing. -/
theorem State.freeEntry_free {s : State} {k a : Nat} {coaches : List Nat} (h : s.freeEntry k coaches = some a) :
    ∃ c ∈ coaches, ∃ e < k, a = c * 128 + e ∧ s.carriage a = Carriage.empty := by
  obtain ⟨c, hc, hfind⟩ := List.exists_of_findSome?_eq_some h
  split at hfind
  · obtain ⟨e, he, rfl⟩ := Option.map_eq_some_iff.1 hfind
    have hlt := List.mem_range.1 (List.mem_of_find?_eq_some he)
    have hnone := (Bool.and_eq_true _ _ ▸ List.find?_some he).1
    refine ⟨c, hc, e, hlt, rfl, ?_⟩
    rw [State.carriage, Sparse.get, Option.isNone_iff_eq_none.1 hnone]
  · cases hfind

theorem State.kPrime_le (s : State) : s.kPrime ≤ 128 := by
  have hlimit : s.kLimit ≤ 128 := by
    unfold State.kLimit levelLimit
    split
    · omega
    · split <;> omega
  unfold State.kPrime
  dsimp only
  split
  · split <;> omega
  · omega

/-- The place found lies outside the barred domains and holds nothing. -/
theorem State.placeFor_free {s : State} {w : Nat} {bar : List Nat} {x : Nat × Nat} (h : s.placeFor w bar = some x) :
    domainOf (coachOf x.2) ∉ bar ∧ s.carriage x.2 = Carriage.empty := by
  obtain ⟨d, hd, hmap⟩ := Option.bind_eq_some_iff.1 h
  obtain ⟨a, ha, rfl⟩ := Option.map_eq_some_iff.1 hmap
  obtain ⟨c, hc, e, he, rfl, hempty⟩ := State.freeEntry_free ha
  obtain ⟨i, hi, rfl⟩ := List.mem_map.1 hc
  have hk := s.kPrime_le
  have hi := List.mem_range.1 hi
  have hdomain : domainOf (coachOf ((d * 128 + i) * 128 + e)) = d := by
    unfold domainOf coachOf
    omega
  exact ⟨by rw [hdomain]; exact State.pickDomain_free hd, hempty⟩

/-! ### The engine takes up a slot left single (R194) -/

/-- No slot is DEGRADED, as far as the engine knows before it looks. -/
def State.notDegraded (s : State) : State := s.put Reg.SCN.STAT.DEGRADED 0

theorem State.notDegraded_frame (s : State) : OnlyFields [Reg.SCN.STAT.DEGRADED] s s.notDegraded := (OnlyFields.refl _ s).andPut

theorem State.recreateTwins_one {s : State} {h : Nat} (hwait : s.fabric.recreate = [h]) (hmoves : s.fabric.moves = []) :
    s.recreateTwins = s.notDegraded.recreateTwin h := by
  have hwaiting : (s.fabric.recreate.filter fun h => !s.fabric.moves.any fun m => m.twin && (s.carriage m.src).handle == h) = [h] := by
    rw [hwait, hmoves]
    rfl
  unfold State.recreateTwins
  rw [hwaiting]
  rfl

/-- The copy to a new twin begins. -/
def State.twinPlaced (s : State) (d src dst : Nat) (c : Carriage) : State :=
  (s.placedAt d dst c).withMoves (s.fabric.moves ++ [Move.start src dst true])

theorem State.recreateTwin_placed {s : State} {h a : Nat} {c : Carriage} {x : Nat × Nat}
    (hwith : s.carriageWith h (fun r => r == 1) = some (a, c)) (hx : s.placeFor c.wheel (s.domainsOf h) = some x) :
    s.recreateTwin h = s.twinPlaced x.1 a x.2 ⟨0, h, c.wheel, true⟩ := by
  have hmoves : (s.placedAt x.1 x.2 ⟨0, h, c.wheel, true⟩).fabric.moves = s.fabric.moves := by
    rw [State.placedAt, (OnlyFields.raiseIf (fs := [rawBit (page .plc 0) 4]) _ _ _ _ (by simp)).1]
    rfl
  unfold State.recreateTwin
  rw [hwith]
  dsimp only
  rw [State.placeOne_eq, hx, Option.map_some]
  dsimp only
  rw [hmoves]
  rfl

theorem State.recreateTwin_alone {s : State} {h a : Nat} {c : Carriage} (hwith : s.carriageWith h (fun r => r == 1) = some (a, c))
    (hx : s.placeFor c.wheel (s.domainsOf h) = none) : s.recreateTwin h = s.noTwin := by
  unfold State.recreateTwin
  rw [hwith]
  dsimp only
  rw [State.placeOne_eq, hx, Option.map_none]

/-- What the start of a copy to a new twin leaves. -/
structure TwinBegun (a b : Nat) (c : Carriage) (s t : State) : Prop where
  moves : t.fabric.moves = s.fabric.moves ++ [⟨a, b, true, 2, 2⟩]
  carriage : ∀ k, t.carriage k = if k = b then c else s.carriage k
  frame : t = { s with regs := t.regs, fabric := { s.fabric with carr := t.fabric.carr, moves := t.fabric.moves } }
  kept : FieldsKept [rawBit (page .plc 0) 4] s t

theorem State.twinPlaced_begins (s : State) (d a b : Nat) (c : Carriage) : TwinBegun a b c s (s.twinPlaced d a b c) := by
  have hframe := OnlyFields.raiseIf (fs := [rawBit (page .plc 0) 4]) (s.setCarriage b c)
    (decide ((s.setCarriage b c).spreadAim ((s.setCarriage b c).wheelTotal c.wheel) < (s.setCarriage b c).wheelCount c.wheel d))
    (page .plc 0) 4 (by simp)
  unfold State.twinPlaced
  rw [State.placedAt]
  obtain ⟨u, hu⟩ : ∃ u, (s.setCarriage b c).raiseIf
    (decide ((s.setCarriage b c).spreadAim ((s.setCarriage b c).wheelTotal c.wheel) < (s.setCarriage b c).wheelCount c.wheel d))
    (page .plc 0) 4 = u := exists_eq'
  rw [hu] at hframe ⊢
  obtain ⟨hshape, hkept⟩ := hframe
  have hfabric : u.fabric = (s.setCarriage b c).fabric := by rw [hshape]
  refine ⟨rfl, fun k => ?_, ?_, FieldsKept.trans (.of_regs rfl) (hkept.trans (.of_regs rfl))⟩
  · rw [State.withMoves_carriage, State.carriage_of_fabric hfabric, State.setCarriage_carriage]
  · rw [State.withMoves, hshape]
    rfl

/-- A slot that finds no entry for its twin shows DEGRADED with NO_ROOM. -/
theorem State.noTwin_shows (s : State) : s.noTwin.get Reg.SCN.STAT.DEGRADED = 1 ∧ s.noTwin.isRaised (page .plc 0) 3 ∧
    OnlyFields [Reg.SCN.STAT.DEGRADED, rawBit (page .plc 0) 3] s s.noTwin := by
  refine ⟨?_, State.isRaised_raise _ _ (by decide), ((OnlyFields.refl _ s).andPut (by decide)).andRaise (by decide)⟩
  rw [State.noTwin, State.get_raise_apart _ (by decide) (by decide)]
  exact State.get_put_of_lt _ (by decide) (by decide)

theorem exec_twinRecreate (s : State) : exec .twinRecreate s = run s s.recreateTwins := rfl

theorem State.carriageWith_of_fabric {s t : State} (h : t.fabric = s.fabric) (n : Nat) (role : Nat → Bool) :
    t.carriageWith n role = s.carriageWith n role := by
  rw [State.carriageWith, State.carriageWith, h]

theorem State.domainsOf_of_fabric {s t : State} (h : t.fabric = s.fabric) (n : Nat) : t.domainsOf n = s.domainsOf n := by
  rw [State.domainsOf, State.domainsOf, h]

/-- A twin that finds its entry. -/
theorem State.recreateTwins_places {s : State} {h a : Nat} {c : Carriage} {x : Nat × Nat} (hwait : s.fabric.recreate = [h])
    (hmoves : s.fabric.moves = []) (hwith : s.carriageWith h (fun r => r == 1) = some (a, c))
    (hx : s.placeFor c.wheel (s.domainsOf h) = some x) :
    TwinBegun a x.2 ⟨0, h, c.wheel, true⟩ s.notDegraded s.recreateTwins := by
  have hframe := s.notDegraded_frame
  have hfabric : s.notDegraded.fabric = s.fabric := by rw [hframe.1]
  have hplace := hframe.placeFor_eq (by decide) c.wheel (s.domainsOf h)
  rw [State.recreateTwins_one hwait hmoves,
    State.recreateTwin_placed ((State.carriageWith_of_fabric hfabric _ _).trans hwith)
      (by rw [State.domainsOf_of_fabric hfabric, hplace, hx])]
  exact State.twinPlaced_begins _ _ _ _ _

theorem State.recreateTwins_stays {s : State} {h a : Nat} {c : Carriage} (hwait : s.fabric.recreate = [h])
    (hmoves : s.fabric.moves = []) (hwith : s.carriageWith h (fun r => r == 1) = some (a, c))
    (hx : s.placeFor c.wheel (s.domainsOf h) = none) : s.recreateTwins = s.notDegraded.noTwin := by
  have hframe := s.notDegraded_frame
  have hfabric : s.notDegraded.fabric = s.fabric := by rw [hframe.1]
  have hplace := hframe.placeFor_eq (by decide) c.wheel (s.domainsOf h)
  rw [State.recreateTwins_one hwait hmoves,
    State.recreateTwin_alone ((State.carriageWith_of_fabric hfabric _ _).trans hwith)
      (by rw [State.domainsOf_of_fabric hfabric, hplace, hx])]

/-- Settles O41. The entry that the engine chooses among those of R190 and R191 is log entry 6, and that the switch acts in the tick about
to begin log entry 13: the model's choices. -/
theorem movesAndTwins : Obligations.MovesAndTwins := by
  unfold Obligations.MovesAndTwins
  refine ⟨fun a b twin c s hrun hmoves hone hne hc hwait => ?switches, fun s hrun hmoves hcopying => ?waits,
    fun h a c s hwait hmoves hwith => ?recreates⟩
  case switches =>
    obtain ⟨u, hswitched, heq⟩ := State.mapSwitch_switched hone hne hc hwait (s.tick + 1)
    obtain ⟨hnote, hcount, hdate⟩ := u.switchNoted_shows (s.tick + 1)
    obtain ⟨hdest, hsource, hother, hgone, hnone, hleft, hjoined, halone, hframe⟩ := hswitched
    rw [exec_mapSwitch hrun hmoves, heq]
    obtain ⟨t, ht⟩ : ∃ t, u.switchNoted (s.tick + 1) = t := exists_eq'
    rw [ht] at hnote hcount hdate ⊢
    have hfabric : (t.timedAs s).fabric = u.fabric := (by rw [hnote.1] : t.fabric = u.fabric)
    have hget : ∀ f : FieldRef, f.ok → (∀ g ∈ switchNoteFields, g.apart f) → (t.timedAs s).get f = u.get f := fun f ok ha =>
      (t.timedAs_get s f).trans (hnote.get ok ha)
    have hcnt : u.get Reg.PLC.MAP_SWITCH_CNT.COUNT = s.nextTick.get Reg.PLC.MAP_SWITCH_CNT.COUNT := hframe.2.get (by decide) (by decide)
    have hall := MapFrame.before ⟨hframe.1, hframe.2.mono (gs := [Reg.SCN.STAT.DEGRADED, Reg.PLC.MAP_SWITCH_CNT.COUNT,
      Reg.PLC.LAST_SWITCH_LO.TICK, Reg.PLC.LAST_SWITCH_HI.TICK, rawBit (page .plc 0) 2]) (by decide)⟩ (hnote.mono (by decide))
    refine ⟨_, rfl, rfl, ?_, ?_, fun k ha hb => ?_, ?_, ?_, fun htwin => ?_, fun htwin => ?_, ?_, ?_, ?_, ?_,
      hall.2.trans (t.timedAs_kept s _)⟩
    · rw [State.carriage_of_fabric hfabric, hdest]
    · rw [State.carriage_of_fabric hfabric, hsource]
    · rw [State.carriage_of_fabric hfabric, hother k ha hb]
    · rw [hfabric, hgone]
    · rw [hfabric, hnone]
    · obtain ⟨hraised, hdegraded⟩ := hjoined htwin
      rw [State.isRaised, hget _ (by decide) (by decide), hget _ (by decide) (by decide)]
      exact ⟨hraised, hdegraded⟩
    · rw [hget _ (by decide) (by decide), halone htwin]
    · rw [hfabric, hleft]
    · rw [State.timedAs_get, hcount, hcnt]
    · rw [State.get64, State.timedAs_get, State.timedAs_get, ← State.get64, hdate]
    · rw [State.timedAs, hall.1]
  case waits =>
    rw [exec_mapSwitch hrun hmoves, State.mapSwitch_nothing hcopying]
    rfl
  case recreates =>
    have hdegraded := s.notDegraded_frame
    have hfabric : s.notDegraded.fabric = s.fabric := by rw [hdegraded.1]
    have hzero : s.notDegraded.get Reg.SCN.STAT.DEGRADED = 0 := State.get_put_of_lt _ (by decide) (by decide)
    have hplace := s.placeOne_eq 0 h c.wheel true (s.domainsOf h)
    rw [exec_twinRecreate]
    rcases hx : s.placeFor c.wheel (s.domainsOf h) with - | x
    · obtain ⟨hshown, hraised, hframe⟩ := s.notDegraded.noTwin_shows
      have hall := (hdegraded.mono (by decide)).trans hframe
      rw [State.recreateTwins_stays hwait hmoves hwith hx]
      rw [hx, Option.map_none] at hplace
      exact ⟨_, hall.run_eq, fun y hy => absurd (hplace.symm.trans hy) (Option.some_ne_none y).symm, fun _ => ⟨hshown, hraised, hall⟩⟩
    · obtain ⟨hfree, hempty⟩ := State.placeFor_free hx
      obtain ⟨hbegun, hcarriage, hframe, hkept⟩ := State.recreateTwins_places hwait hmoves hwith hx
      rw [hx, Option.map_some] at hplace
      obtain ⟨t, ht⟩ : ∃ t, s.recreateTwins = t := exists_eq'
      obtain ⟨v, hv⟩ : ∃ v, s.notDegraded = v := exists_eq'
      rw [ht, hv] at hbegun hcarriage hframe hkept
      rw [hv] at hdegraded hfabric hzero
      rw [ht]
      refine ⟨t, run_eq (by rw [hframe, hdegraded.1]) (by rw [hframe, hdegraded.1]), fun y hy => ?_,
        fun h0 => absurd (hplace.symm.trans h0) (Option.some_ne_none _)⟩
      have hat : x.2 = y.2 := congrArg Prod.snd (Option.some.inj (hplace.symm.trans hy))
      rw [← hat]
      refine ⟨by rw [hbegun, hfabric, hmoves, List.nil_append], hfree, hempty, ?_, ?_, fun k hk => ?_, ?_,
        (hdegraded.2.mono (by decide)).trans (hkept.mono (by decide))⟩
      · rw [hkept.get (by decide) (by decide), hzero]
      · rw [hcarriage, if_pos rfl]
      · rw [hcarriage, if_neg hk, State.carriage_of_fabric hfabric]
      · rw [hframe, hdegraded.1]

end Sys2Proof.Machine
end
